-- ==== Sys2Proof/Word.lean ====
section
/-!
DEFINITION. The words of the block and their plainest arithmetic (spec/00_scope.md R20, R21):
register words, quantities of 64 bits, sectors, beats, digests, and the sparse tables
in which State holds what the spec indexes by a number.
-/
namespace Sys2Proof

/-- A byte; byte 0 of a structure is at its lowest address (R21). -/
abbrev Byte := BitVec 8
/-- A 32-bit register word. -/
abbrev Word := BitVec 32
/-- A 64-bit quantity (a LO/HI pair, R11). -/
abbrev DWord := BitVec 64
/-- A SHA-384 digest; a bit string, as the standards give it. -/
abbrev Digest := BitVec 384
/-- The 256 bytes of a sector (R185), byte 0 in bits 7:0. -/
abbrev Sector := BitVec 2048
/-- One W or D beat of a memory stream port: two granules of 64 bytes (R69). -/
abbrev Beat := BitVec 1024

/-- The field `hi:lo` of a word, as a number (R21). -/
def bits {n : Nat} (w : BitVec n) (hi lo : Nat) : Nat := w.toNat / 2 ^ lo % 2 ^ (hi + 1 - lo)

/-- Bit `i` of a word, as a truth value. -/
def bit {n : Nat} (w : BitVec n) (i : Nat) : Bool := w.getLsbD i

/-- A word with bit `i` set to `b`. -/
def setBit {n : Nat} (w : BitVec n) (i : Nat) (b : Bool) : BitVec n :=
  if b then w ||| BitVec.twoPow n i else w &&& ~~~ BitVec.twoPow n i

/-- A truth value as a number. -/
def b2n (b : Bool) : Nat := if b then 1 else 0

/-- A number capped at `m` (a counter that saturates). -/
def satAdd (m a b : Nat) : Nat := min m (a + b)

/-- `n` bytes of a number, least significant first (R20). -/
def leBytes : Nat → Nat → List Byte
  | 0, _ => []
  | n + 1, v => BitVec.ofNat 8 v :: leBytes n (v / 256)

/-- The number that bytes spell, least significant first (R20). -/
def ofLe : List Byte → Nat
  | [] => 0
  | b :: bs => b.toNat + 256 * ofLe bs

/-- `n` bytes of a number, most significant first: the byte string of a digest or key. -/
def beBytes (n v : Nat) : List Byte := (leBytes n v).reverse

/-- The number that bytes spell, most significant first. -/
def ofBe (l : List Byte) : Nat := ofLe l.reverse

/-- The bytes of an ASCII string. -/
def ascii (t : String) : List Byte := t.toList.map fun c => BitVec.ofNat 8 c.toNat

/-! Sparse tables. A table lists the entries that differ from what an unlisted key reads as,
in rising order of the key. -/

/-- A sparse table: pairs of a number and the entry it names. -/
abbrev Tab (α : Type) := List (Nat × α)

/-- The entry listed under a key. -/
def Tab.find {α : Type} : Tab α → Nat → Option α
  | [], _ => none
  | (j, v) :: r, k => if j = k then some v else Tab.find r k

/-- The entry of a key; an unlisted key reads as `d`. -/
def Tab.get {α : Type} (t : Tab α) (d : α) (k : Nat) : α := (t.find k).getD d

/-- The table with an entry listed under a key. -/
def Tab.put {α : Type} : Tab α → Nat → α → Tab α
  | [], k, v => [(k, v)]
  | (j, w) :: r, k, v =>
    if j = k then (k, v) :: r else if k < j then (k, v) :: (j, w) :: r else (j, w) :: Tab.put r k v

/-- The table with nothing listed under a key. -/
def Tab.drop {α : Type} (t : Tab α) (k : Nat) : Tab α := t.filter fun x => decide (x.1 ≠ k)

/-- The table after a write: an entry equal to what an unlisted key reads as is not listed. -/
def Tab.set {α : Type} [DecidableEq α] (t : Tab α) (d : α) (k : Nat) (v : α) : Tab α :=
  if v = d then t.drop k else t.put k v

/-- The table with one entry changed by a function. -/
def Tab.upd {α : Type} [DecidableEq α] (t : Tab α) (d : α) (k : Nat) (f : α → α) : Tab α :=
  t.set d k (f (t.get d k))

/-- Every listed entry changed by a function of its key; entries that become default are dropped. -/
def Tab.mapAll {α : Type} [DecidableEq α] (t : Tab α) (d : α) (f : Nat → α → α) : Tab α :=
  (t.map fun x => (x.1, f x.1 x.2)).filter fun x => decide (x.2 ≠ d)

/-- The canonical form: keys strictly rising and no entry equal to the default. -/
def Tab.wf {α : Type} [DecidableEq α] (d : α) : Tab α → Bool
  | [] => true
  | (k, v) :: r => decide (v ≠ d) && r.all (fun x => decide (k < x.1)) && Tab.wf d r

end Sys2Proof
end

