-- ==== Sys2Proof/Syntax.lean ====
section
/-!
DEFINITION. The commands of the block: one constructor per row of spec/opcode_table.json, and the operands that the
spec gives each of them. What a cryptographic standard decides about a message (a tag that verifies, a signature that
holds) is an operand: the surroundings made the message (log entry 4).
-/
namespace Sys2Proof

/-- Status codes (R22). -/
inductive Status where
  | done | accepted | refusedIssuer | badOpcode | badParam | busyStatic | outOfSlots
  | staleObject | fenced | poisoned | wilted | unmapped | memberLost | indeterminate | abandoned
  | lcForbids | authFailed | breach
  deriving DecidableEq, Repr

/-- Profiles (R3): A accelerator, S switch compute element, M memory tray. -/
inductive Profile where
  | a | s | m
  deriving DecidableEq, Repr

/-- Issuer classes of the ISSUER field (R371). -/
inductive Issuer where
  | mgmt | host | tenant | device
  deriving DecidableEq, Repr

/-- Who makes a register access (R82, R83, R85): the debug port, or CTL_Q.ORIGIN and CTL_Q.PART. -/
structure Rq where
  dbg : Bool
  origin : Nat
  part : Nat
  deriving DecidableEq, Repr

/-- A control-port or debug-port access (R9, R82, R85). `size` is in bits. -/
structure Access where
  rq : Rq
  write : Bool
  addr : Nat
  size : Nat
  wdata : DWord
  deriving DecidableEq, Repr

/-- The path a command packet takes into the command processor (R364). -/
inductive Path where
  | hostq (n : Nat)
  | ctxq (ctx q : Nat)
  | mgmt (sid : Nat)
  | doe (h sid : Nat)
  | carried (id : Nat)
  deriving DecidableEq, Repr

/-- A command packet's header (R371) with what R372 and R374 check of the rest of the packet: `bad` is the offset of the
first reserved or undefined byte that is not 0 (or an ISSUER, SIZE or PLEN breach's offset is computed by the block),
`trailer` the length of the data trailer that came with it. -/
structure Hdr where
  path : Path
  issuer : Issuer
  part : Nat
  size : Nat
  ordered : Bool
  noreply : Bool
  signal : Bool
  ctx : Nat
  plen : Nat
  seq : Word
  fence : Nat
  bad : Option Nat
  trailer : Nat
  deriving DecidableEq, Repr

/-- An MN Q request (R69). -/
structure MnReq where
  group : Nat
  port : Nat
  addr : Nat
  len : Nat
  op : Nat
  tag : Nat
  ctx : Nat
  attr : BitVec 8
  deriving DecidableEq, Repr

/-- Kinds of metadata line (R193, R202). `node l` is tree level `l` (1 to 4). -/
inductive LineKind where
  | ver
  | node (l : Nat)
  | tag
  | mac
  deriving DecidableEq, Repr

/-- A metadata line: sector group, anchor entry of its region, kind and index within the region (R202, R203). -/
structure LineId where
  group : Nat
  entry : Nat
  kind : LineKind
  idx : Nat
  deriving DecidableEq, Repr

/-- Gates at which an egress item is held (R224, R225). -/
inductive Gate where
  | fabric (k : Nat)
  | host (h : Nat)
  | north (n : Nat)
  | cdm
  | trace
  deriving DecidableEq, Repr

/-- What the receive checks of R310 look at: the port, the header fields (R305) and the outcome of the GCM tag. -/
structure RxHdr where
  port : Nat
  sess : Nat
  epoch : Nat
  tc : Nat
  retry : Bool
  control : Bool
  stopSide : Bool
  cover : Bool
  event : Bool
  close : Bool
  seq : Nat
  stamp : Nat
  entropy : Nat
  plen : Nat
  len : Nat
  err : Bool
  tagOk : Bool
  deriving DecidableEq, Repr

/-- PTP messages (R110); times in units of 2^-16 ns where the message carries one. -/
inductive PtpKind where
  | sync (seqId : Nat)
  | followUp (seqId : Nat) (origin : Int) (corr : Int)
  | pdelayReq (seqId : Nat)
  | pdelayResp (seqId : Nat) (reqReceipt : Int)
  | pdelayRespFu (seqId : Nat) (respOrigin : Int)
  | announce (stepsRemoved : Nat) (locked : Bool)
  | other
  deriving DecidableEq, Repr

/-- Actions of the schedule table (R123). -/
inductive Action where
  | commit | epoch | resalt | stop | resume | traceTrig | dump | trigOut
  deriving DecidableEq, Repr

/-- The fields of a schedule entry that its issuer gives (R122, R390). -/
structure SchedReq where
  instant : Nat
  period : Nat
  action : Nat
  block : Bool
  stagger : Bool
  domain : Bool
  id : Word
  param : DWord
  deriving DecidableEq, Repr

/-- A remote atomic request or outcome query (R268). -/
structure RaReq where
  op : Nat
  attr : BitVec 8
  src : Nat
  dst : Nat
  txid : Word
  issue : Nat
  obj : Nat
  gen : Nat
  offset : Nat
  data : List Byte
  resvOk : Bool
  deriving DecidableEq, Repr

/-- A remote atomic reply or query reply (R268). -/
structure RaRep where
  query : Bool
  status : Status
  outcome : Nat
  origStatus : Status
  src : Nat
  dst : Nat
  txid : Word
  exec : Nat
  result : BitVec 128
  deriving DecidableEq, Repr

/-- A remote read or write request (R313). -/
structure RwReq where
  write : Bool
  src : Nat
  dst : Nat
  txid : Word
  issue : Nat
  obj : Nat
  gen : Nat
  offset : Nat
  length : Nat
  data : List Byte
  deriving DecidableEq, Repr

/-- A contribution header (R260). -/
structure Contrib where
  fmt : Nat
  out : Nat
  mode : BitVec 8
  rid : Word
  n : Nat
  cidx : Nat
  dest : Nat
  chunk : Nat
  count : Nat
  chunkElems : Nat
  total : Nat
  destObj : Nat
  destGen : Nat
  destSect : Nat
  deriving DecidableEq, Repr

/-- A frame handed to a port's egress queue (R224, R305, R307): session index (0 block-owned, 1 + p partition p),
KIND, class, flags and payload. -/
structure EgFrame where
  si : Nat
  kind : Nat
  tc : Nat
  retry : Bool
  event : Bool
  src : Nat
  dst : Nat
  label : Nat
  payload : List Byte
  deriving DecidableEq, Repr

/-- The transport of an SPDM message (R364, R433). -/
inductive Transport where
  | mgmt
  | doe (h : Nat)
  | link (k si : Nat)
  deriving DecidableEq, Repr

/-- What a KEY_EXCHANGE shows of its requester (R431 to R433, R453): the hybrid element is well formed, the leaf digest,
the root that its chain ends in, and its SPDM session identifier. -/
structure KeyEx where
  elementOk : Bool
  leaf : Digest
  root : Digest
  sid : Nat
  exch : List Byte
  deriving DecidableEq, Repr

/-- A certificate chain as SET_CERTIFICATE carries it (R427): DevID digest of its leaf, root hash, bytes. -/
structure CertChain where
  leaf : Digest
  root : Digest
  bytes : List Byte
  deriving DecidableEq, Repr

/-- An SPDM carriage payload (R434). -/
structure Carriage where
  first : Bool
  last : Bool
  secured : Bool
  target : Nat
  offset : Nat
  domain : DWord
  msgLen : Nat
  data : List Byte
  deriving DecidableEq, Repr

/-- A bind record (R436), with the signed evidence of its sender as far as R441 looks at it. -/
structure Bind where
  rxIdx : Nat
  member : Nat
  part : Nat
  profile : Profile
  domain : DWord
  mseq : Nat
  major : Nat
  features : Nat
  dtState : Nat
  port : Nat
  digest : Digest
  deriving DecidableEq, Repr

/-- Evidence of a peer (R429, R441): outcome of SPDM negotiation, its chain, measurements and index 24. -/
structure Evidence where
  spdmOk : Bool
  chainOk : Bool
  root : Digest
  devid : Digest
  lcState : Nat
  dbgAuth : Nat
  svn : Nat
  meas : List Digest
  idx24Ok : Bool
  exch : List Byte
  deriving DecidableEq, Repr

/-- A member entry of a manifest (R437). -/
structure Member where
  num : Nat
  profile : Profile
  set : Nat
  devid : Digest
  neigh : List Nat
  deriving DecidableEq, Repr

/-- A measurement set of a manifest (R437): MASK and the expected values E[1], E[2], .... -/
structure MSet where
  mask : Word
  exp : List Digest
  deriving DecidableEq, Repr

/-- A Bloom manifest (R437). `layoutOk` says that its lengths and zero fields are as R437 gives them, `sigOk` that both
signatures verify under the tenant key; `size` is its length in bytes. -/
structure Manifest where
  layoutOk : Bool
  sigOk : Bool
  size : Nat
  major : Nat
  mseq : Nat
  domain : DWord
  nsets : Nat
  dfCount : Nat
  features : DWord
  policy : Word
  minSvn : Nat
  tenantKey : List Byte
  verifier : Digest
  roots : List Digest
  sets : List MSet
  members : List Member
  deriving DecidableEq, Repr

/-- An amendment (R444). -/
structure Amendment where
  layoutOk : Bool
  sigOk : Bool
  major : Nat
  mseq : Nat
  domain : DWord
  base : Nat
  changes : List Member
  /-- The signature block (R437). -/
  sig : List Byte
  deriving DecidableEq, Repr

/-- A TLP as the host cipher port classifies it (R335, R336, R342, R349). -/
inductive TlpKind where
  | memRd | memWr | cpl (data : Bool) | cfg | msg
  deriving DecidableEq, Repr

/-- A TLP on HCh_TXP or HCh_RXC: its type, routing ID of the partition side, address, length, PASID, tag and, on receipt,
the IDE stream it came on (`none` in clear), its T bit and the outcome of the IDE check. -/
structure Tlp where
  kind : TlpKind
  rid : Nat
  addr : Nat
  len : Nat
  pasid : Option Nat
  tag : Nat
  translated : Bool
  ctx : Nat
  stream : Option Nat
  tbit : Bool
  ideOk : Bool
  /-- Relaxed Ordering and ID-Based Ordering attributes (R337). -/
  ro : Bool
  ido : Bool
  payload : List Byte
  deriving DecidableEq, Repr

/-- One translated page of a Translation Completion (R351). -/
structure Page where
  va : Nat
  pa : Nat
  size : Nat
  r : Bool
  w : Bool
  priv : Bool
  exe : Bool
  n : Bool
  u : Bool
  /-- The translation holds for every PASID (R351). -/
  global : Bool
  deriving DecidableEq, Repr

/-- A tile message (R357). -/
structure TileMsg where
  rid : Nat
  vid : Nat
  tile : Nat
  ctx : Nat
  dir : BitVec 8
  resvOk : Bool
  base : Nat
  rowBytes : Nat
  pitch : Nat
  rows : Nat
  deriving DecidableEq, Repr

/-- A signer entry of a token (R471): ROLE, PART, the KEY bytes, and whether its SIG verifies. -/
structure Signer where
  role : Nat
  part : Nat
  key : List Byte
  sigOk : Bool
  deriving DecidableEq, Repr

/-- A debug or transition token (R471). -/
structure Token where
  layoutOk : Bool
  purpose : Nat
  target : Nat
  frm : Nat
  disableDebug : Bool
  challenge : BitVec 128
  devid : Digest
  signers : List Signer
  deriving DecidableEq, Repr

/-- What memory returns to the re-seal sweep of a region (R170): the sectors and the metadata lines that were read, each with its
uncorrectable-error bit. What is not named reads as zeros. -/
structure Swept where
  sects : List (Nat × Sector × Bool)
  lines : List (LineKind × Nat × List DWord × Bool)
  deriving DecidableEq, Repr

/-- IDE sub-streams (R340). -/
inductive SubStream where
  | posted | nonPosted | completion
  deriving DecidableEq, Repr

/-- What the error-correcting code of slot storage finds when a value is read (R150). -/
inductive Ecc where
  | none | corrected | double
  deriving DecidableEq, Repr

/-- The commands: one constructor per row of spec/opcode_table.json, in the table's order. -/
inductive Instr where
  | registerWrite (a : Access)
  | cClassCommit (window : Nat)
  | powerOn
  | resetNAssert
  | resetNRelease
  | stormHoldExpire
  | warmReqNAssert
  | warmFlushDone
  | warmFlushOverrun
  | fuseSenseDone (err : Bool)
  | fusePgmDone (reads1 : Bool)
  | husGenerate
  | userAreaEraseDone (erased : Bool) (readBack : Bool)
  | anchorInitDone
  | snowdrop (mfw : Digest) (svn : Nat) (flashMiB : Nat)
  | tolaroBootDone
  | rejoinReassign (part : Nat)
  | watchdogExpire
  | retReqRise
  | retentionFlushDone
  | retReqFall
  | supplyWarnAssert
  | supplyWarnRelease
  | sensorCapture (i : Nat) (level : Bool)
  | chipRstReqTimeout
  | powerCycleMessageResend
  | trefLost
  | trefReturn
  | fpLinkUpRise (k : Nat)
  | fpLinkUpFall (k : Nat)
  | hcLinkUpFall (h : Nat)
  | pfenceAckRise (q : Nat)
  | pfenceAckFall (q : Nat)
  | engRstAckRise (e : Nat)
  | engRstAckFall (e : Nat)
  | cstopAckRise
  | measImage (idx : Nat) (image : List Byte)
  | measLockRise
  | measDiscardAfterLock
  | dtEnable (rq : Rq) (gm backup : Bool)
  | dtDisable (rq : Rq)
  | syncInterval
  | pdelayReqInterval
  | announceInterval
  | ptpMessage (h : RxHdr) (m : PtpKind) (domainNumber sdoId : Nat) (tsadj : Int)
  | txTimestampReturn (k : Nat) (lat : Int)
  | txTimestampTimeout (k : Nat)
  | syncTimeout
  | holdoverLimitExpire
  | holdoverBoundExpire
  | backupGmTakeover
  | schedCommit (i : Nat)
  | schedEpoch (i : Nat)
  | schedResalt (i : Nat)
  | schedStop (i : Nat)
  | schedResume (i : Nat)
  | schedTraceTrig (i : Nat)
  | schedDump (i : Nat)
  | schedTrigOut (i : Nat)
  | trigPulseEnd (o : Nat)
  | stopMarkerSend (k p : Nat)
  | stopMarkerRx (h : RxHdr) (origin : Nat) (id : Word)
  | stopMarkerTimeout (p : Nat)
  | domainSchedEntryRx (h : RxHdr) (e : SchedReq) (origin : Nat)
  | domainSchedCancelRx (h : RxHdr) (origin : Nat) (id : Word)
  | rngStartupPass
  | healthTestWindow (pass : Bool)
  | drbgReseed
  | slotRetireComplete (slot : Nat) (readBack : Bool) (ecc : Ecc)
  | slotRelease (slot : Nat)
  | derivationDone (slot obj gen : Nat) (ecc : Ecc)
  | cceMessageDone (checkOk : Bool) (ecc : Ecc)
  | pkeOpDone (ecc : Ecc)
  | mldsaSignRestart
  | resealRegion (p n : Nat) (got : Swept)
  | mnRead (q : MnReq) (flips : Nat) (ecc : Bool)
  | mnWrite (q : MnReq) (data : Sector) (be : BitVec 256) (flips : Nat) (ecc : Bool)
  | mnScalarAtomic (q : MnReq) (data : Beat) (be : BitVec 128) (flips mism : Nat)
  | mnVectorAccumulate (q : MnReq) (data : Sector) (be : BitVec 256) (flips mism : Nat)
  | msReadResponse (n port tag : Nat) (data : Beat) (ue : Bool) (last : Bool)
  | msWriteAck (n port tag : Nat)
  | accessVerifyDone (id : Nat)
  | sectorLockGrant (id : Nat)
  | metadataWriteBack (l : LineId)
  | anchorPatrol (e flips : Nat)
  | anchorRestore (e : Nat)
  | mergeIdleWriteBack (n lbn : Nat) (ecc : Bool)
  | egressRelease (g : Gate)
  | laneGate (u : Nat)
  | laneWake
  | ratomicRequestRx (h : RxHdr) (r : RaReq) (mism : Nat)
  | outcomeQueryRx (h : RxHdr) (r : RaReq)
  | ratomicReplyRx (h : RxHdr) (r : RaRep)
  | ratomicRetry (p : Nat) (txid : Word)
  | ratomicDeadline (p : Nat) (txid : Word)
  | memoEntryExpire (domain : DWord) (src : Nat) (txid : Word)
  | remoteRwRequestRx (h : RxHdr) (r : RwReq)
  | contributionRx (h : RxHdr) (src : Nat) (c : Contrib) (elems : List Byte) (mism : Nat)
  | contributionAckRx (h : RxHdr) (c : Contrib) (st : Status)
  | contributionResend (p : Nat) (rid : Word) (cidx chunk : Nat)
  | reductionTimeout (p : Nat) (rid : Word)
  | resultChunkRx (h : RxHdr) (sw : Nat) (c : Contrib) (st : Status) (data : List Byte) (mism : List Nat)
  | resultAckRx (h : RxHdr) (src : Nat) (c : Contrib) (st : Status)
  | resultChunkResend (p : Nat) (rid : Word) (chunk : Nat)
  | resultChunkGiveUp (p : Nat) (rid : Word) (chunk : Nat)
  | resultLedgerExpire (domain : DWord) (sw : Nat) (rid : Word) (chunk : Nat)
  | sessionSetupStart (k si : Nat)
  | sessionSetupTimeout (k si : Nat)
  | sessionRetryBackoff (k si : Nat)
  | openRx (h : RxHdr) (member : Nat)
  | closeRx (h : RxHdr) (reason member : Nat)
  | closingTimeout (k si : Nat)
  | lnkEnable (rq : Rq) (k : Nat)
  | lnkDisable (rq : Rq) (k : Nat)
  | keepaliveTx (k si : Nat)
  | keepaliveRx (h : RxHdr) (dtState hseq : Nat)
  | keepaliveTimeout (k si : Nat)
  | memberLostNoticeRx (h : RxHdr) (reporter lost dt : Nat)
  | frameEnqueue (k : Nat) (f : EgFrame)
  | frameSeal (k : Nat)
  | txStall (k : Nat)
  | coverSlot (k : Nat)
  | epochCountLimit (k si : Nat)
  | epochChangeDeferred (k si : Nat)
  | rxEpochRetire (k si : Nat)
  | flowEntryTimeout (k : Nat) (flow : BitVec 128)
  | flowEntryGrant (k : Nat)
  | getVersion (t : Transport)
  | getCapabilities (t : Transport)
  | negotiateAlgorithms (t : Transport) (offered : Bool)
  | getDigests (t : Transport)
  | getCertificate (t : Transport) (slot : Nat)
  | challenge (t : Transport) (slot : Nat)
  | getMeasurements (t : Transport) (index : Nat) (sid : Option Nat)
  | keyExchange (t : Transport) (x : KeyEx)
  | finish (t : Transport) (sid : Nat) (authOk : Bool)
  | endSession (t : Transport) (sid : Nat)
  | heartbeat (t : Transport) (sid : Nat)
  | heartbeatLoss (t : Transport) (sid : Nat)
  | keyUpdate (t : Transport) (sid : Nat)
  | getCsr (t : Transport) (sid : Option Nat)
  | setCertificate (t : Transport) (sid : Option Nat) (chain : CertChain)
  | spdmCarriageRx (h : RxHdr) (c : Carriage)
  | linkBind (k si : Nat) (b : Bind) (ev : Evidence)
  | amend (t : Transport) (sid : Nat) (a : Amendment)
  | amendFetch (k si : Nat) (held : Nat)
  | provision (t : Transport) (sid : Nat) (sub : Nat) (hashes : List Digest)
  | doeObjectRx (h : Nat) (proto : Nat) (lenBytes : Nat)
  | doeAbort (h : Nat)
  | configRequestRx (h : Nat) (write : Bool) (func off : Nat) (data : Word) (locked : Bool)
  | hostTlpTx (h : Nat) (t : Tlp)
  | hostTlpRx (h : Nat) (t : Tlp)
  | ideKmQuery (h sid : Nat)
  | ideKmKeyProg (h sid stream : Nat) (sub : SubStream) (rx : Bool) (set : Nat) (key : BitVec 256)
  | ideKmKSetGo (h sid stream : Nat) (sub : SubStream) (rx : Bool) (set : Nat)
  | ideKmKSetStop (h sid stream : Nat) (sub : SubStream) (rx : Bool) (set : Nat)
  | getTdispVersion (h sid p : Nat)
  | getTdispCapabilities (h sid p : Nat)
  | lockInterfaceRequest (h sid p : Nat)
  | getDeviceInterfaceReport (h sid p : Nat)
  | getDeviceInterfaceState (h sid p : Nat)
  | startInterfaceRequest (h sid p : Nat)
  | stopInterfaceRequest (h sid p : Nat)
  | tdispUnsupportedRequest (h sid p : Nat)
  | functionLevelReset (h rid : Nat)
  | translationCompletion (h tag : Nat) (ok : Bool) (pages : List Page)
  | translationTimeout (h tag : Nat)
  | atsInvalidateRequest (h itag rid : Nat) (pasid : Option Nat) (va len : Nat)
  | invalidationComplete (h itag : Nat)
  | prgResponse (h prg code : Nat)
  | priTimeout (prg : Nat)
  | tileOpen (h : Nat) (m : TileMsg)
  | tileClose (h : Nat) (m : TileMsg)
  | submissionDoorbell (rq : Rq) (hostQ : Bool) (ctx queue index : Nat)
  | replyDoorbell (rq : Rq) (hostQ : Bool) (ctx queue index : Nat)
  | hostQueueEnable (rq : Rq) (n : Nat)
  | hostQueueDisable (rq : Rq) (n : Nat)
  | mailboxSecuredMessage (t : Transport) (sid : Nat) (verifies : Bool) (issuer : Issuer) (part : Nat) (seq : Word)
      (opcode : Nat)
  | storedReplyExpire (sid : Nat) (seq : Word)
  | nop (h : Hdr)
  | identify (h : Hdr)
  | carry (h : Hdr) (sid : Nat) (recAddr recLen rplAddr rplLen maxReply : Nat) (opens : Bool)
  | replyPoll (h : Hdr) (seq : Word)
  | partAssign (h : Hdr) (mode stage : Nat) (strict : Bool) (allot merge weight : Nat) (mdc dkc : BitVec 16)
      (pbase psize otPlots : Nat)
  | partRelease (h : Hdr) (zeroFill : Bool)
  | partShare (h : Hdr) (weight : Nat)
  | regionAdd (h : Hdr) (base size : Nat)
  | regionRearm (h : Hdr) (addr : Nat)
  | partPolicy (h : Hdr) (policy : BitVec 8)
  | manifestStage (h : Hdr) (stage : Nat) (m : Manifest)
  | domainTeardown (h : Hdr)
  | ctxCreate (h : Hdr) (ctx pasid : Nat) (pasidValid : Bool)
  | ctxDestroy (h : Hdr) (ctx : Nat)
  | teardownDrainEnd (ctx : Nat)
  | queueCreate (h : Hdr) (ctx queue log2 owner sq rq : Nat)
  | queueDestroy (h : Hdr) (ctx queue : Nat)
  | objAlloc (h : Hdr) (plots : Nat) (shared : Bool)
  | objFree (h : Hdr) (obj gen : Nat)
  | freeRetire (p obj : Nat)
  | objQuery (h : Hdr) (obj gen : Nat)
  | ratomic (h : Hdr) (dst op : Nat) (attr : BitVec 8) (obj gen offset : Nat) (operand compare : BitVec 128)
  | raccum (h : Hdr) (dst op : Nat) (attr : BitVec 8) (obj gen offset srcObj srcGen srcOff : Nat) (src : List Byte) (st : Status)
  | outcomeQuery (h : Hdr) (dst : Nat) (txid : Word) (issue : Nat)
  | outcomeQueryResend (p : Nat) (txid : Word)
  | reduceContrib (h : Hdr) (kind : Nat) (c : Contrib) (sw srcObj srcGen srcOff : Nat) (src : List Byte) (st : Status)
  | fenceCreate (h : Hdr) (domain : Bool)
  | fenceSignal (h : Hdr) (fence error : Nat)
  | fenceWait (h : Hdr) (fence : Nat)
  | fenceReset (h : Hdr) (fence : Nat)
  | fenceDestroy (h : Hdr) (fence : Nat)
  | fenceShare (h : Hdr) (fence ctx : Nat)
  | domainFenceSignalRx (h : RxHdr) (op error origin index : Nat) (fepoch : Word) (stamp : Nat) (oseq : Word)
  | keyReseal (h : Hdr)
  | keyAttest (h : Hdr) (slot : Nat) (nonce : BitVec 256)
  | keyControlGen (h : Hdr) (exportable retain measBound : Bool)
  | keyImport (h : Hdr) (exportable retain measBound : Bool) (value : BitVec 256)
  | keyWrap (h : Hdr) (slot wrapSlot : Nat)
  | keyUnwrap (h : Hdr) (wrapSlot : Nat) (blob : List Byte)
  | keyRetire (h : Hdr) (slot : Nat)
  | cceOp (tolaro : Bool) (h : Hdr) (slot mode : Nat) (decrypt ivGen : Bool) (len : Nat) (iv : BitVec 128) (msg : List Byte)
  | saSeed (h : Hdr) (slot : Nat)
  | saStep (h : Hdr) (step : Word)
  | schedArm (h : Hdr) (e : SchedReq)
  | schedCancel (h : Hdr) (id : Word) (block : Bool)
  | cntRead (h : Hdr) (scope index : Nat)
  | traceCfg (h : Hdr) (ring base log2KiB mode post : Nat) (ids : Bool)
  | traceStart (h : Hdr) (ring : Nat)
  | traceStop (h : Hdr) (ring : Nat)
  | traceTriggerNow (h : Hdr) (ring : Nat)
  | traceReleaseFreeze (h : Hdr) (ring : Nat)
  | traceSectorTimeout (p ring : Nat)
  | tensorReg (h : Hdr) (name : Word) (base len : Nat)
  | dumpChunkCapture (p : Nat) (data : List Byte) (st : Status)
  | dumpStepTimeout (p : Nat) (i : Nat)
  | pressRead (h : Hdr) (first : Word) (count : Nat)
  | pressRelease (h : Hdr)
  | pressFlush
  | rstContext (h : Hdr) (ctx : Nat)
  | rstEngine (h : Hdr) (engine : Nat)
  | rstPartition (h : Hdr)
  | rstWarm (h : Hdr)
  | rstChip (h : Hdr)
  | pwrCycle (h : Hdr)
  | escalationDeadline (step : Nat) (target : Nat)
  | scrubStepDone (p : Nat)
  | zeroFillRegion (p e : Nat)
  | lcTransition (h : Hdr) (target : Nat) (token : Option Token)
  | dbgChallenge (h : Hdr) (level : Nat)
  | dbgToken (h : Hdr) (token : Token)
  | challengeExpire
  | debugHalt (rq : Rq) (halt : Bool)
  | debugStep (rq : Rq)
  | sgEnable (rq : Rq) (n : Nat)
  | sgDisable (rq : Rq) (n : Nat)
  | allocDoorbell (rq : Rq) (slot plots : Nat) (shared : Bool) (ctx : Nat)
  | allocDoorbellDone (p slot : Nat)
  | faultQueueDoorbell (rq : Rq) (ctx head : Nat)
  | contextRestore (ctx : Nat)
  | obsMark (rq : Rq) (ctx layer op : Nat)
  | quantisationInstant
  | setEndpointId (eid : Nat) (sender : Nat)
  | getEndpointId
  | getEndpointUuid
  | getMctpVersionSupport
  | getMessageTypeSupport
  | entdaa (addr : Nat)
  | hotJoinRequest
  | setMaxLength (write : Bool) (len : Nat)
  | cstopAckFall
  | warmReqNRelease
  | vddRetRemove
  | hcLinkUpRise (h : Nat)
  | frameRxDiscard (h : RxHdr) (kind : Nat)
  | frameRoute (h : RxHdr) (outPort : Nat) (f : EgFrame)
  | lockstepMismatch
  deriving DecidableEq, Repr

end Sys2Proof
end

