-- ==== Sys2Proof/Machine/Arith.lean ====
section
/-!
DEFINITION. The arithmetic of chapter 6 on bit strings: floating-point formats, exact values and their one rounding, scalar
atomics (R239, R240), vector accumulates (R241 to R247).
-/
namespace Sys2Proof.Machine

/-! Floating-point formats. A finite value is a magnitude in units of 2^-u with a sign, `u` large enough for every value of
the operation. -/

/-- An exact value. -/
inductive FVal where
  | nan
  | inf (neg : Bool)
  | fin (neg : Bool) (mag : Nat)
  deriving DecidableEq, Repr

/-- A binary format: exponent and mantissa bits, the bias, and what its topmost exponent holds: 2 infinity and NaN, 1 NaN in
the last code only, 0 numbers only. -/
structure Fmt where
  eb : Nat
  mb : Nat
  bias : Nat
  top : Nat
  deriving DecidableEq, Repr

/-- FP32. -/
def fmtFp32 : Fmt := ⟨8, 23, 127, 2⟩
/-- FP64. -/
def fmtFp64 : Fmt := ⟨11, 52, 1023, 2⟩
/-- BF16. -/
def fmtBf16 : Fmt := ⟨8, 7, 127, 2⟩
/-- FP16. -/
def fmtFp16 : Fmt := ⟨5, 10, 15, 2⟩
/-- FP8 E4M3: no infinity, one NaN code per sign (R245). -/
def fmtE4m3 : Fmt := ⟨4, 3, 7, 1⟩
/-- FP8 E5M2. -/
def fmtE5m2 : Fmt := ⟨5, 2, 15, 2⟩
/-- MXFP6 E2M3 elements. -/
def fmtE2m3 : Fmt := ⟨2, 3, 1, 0⟩
/-- MXFP6 E3M2 elements. -/
def fmtE3m2 : Fmt := ⟨3, 2, 3, 0⟩
/-- MXFP4 E2M1 elements. -/
def fmtE2m1 : Fmt := ⟨2, 1, 1, 0⟩

/-- Bits of a format. -/
def Fmt.width (f : Fmt) : Nat := 1 + f.eb + f.mb

/-- The canonical quiet NaN (R240, R246). -/
def Fmt.qnan (f : Fmt) : Nat := (2 ^ f.eb - 1) * 2 ^ f.mb + 2 ^ (f.mb - 1)

/-- Infinity. -/
def Fmt.infBits (f : Fmt) (neg : Bool) : Nat := b2n neg * 2 ^ (f.eb + f.mb) + (2 ^ f.eb - 1) * 2 ^ f.mb

/-- The exact value of a code, in units of 2^-u, times 2^(scale - 127) (R245). -/
def Fmt.decode (f : Fmt) (u scale code : Nat) : FVal :=
  let m := code % 2 ^ f.mb
  let e := code / 2 ^ f.mb % 2 ^ f.eb
  let neg := decide (code / 2 ^ (f.eb + f.mb) % 2 = 1)
  if e = 2 ^ f.eb - 1 ∧ f.top = 2 then if m = 0 then .inf neg else .nan
  else if e = 2 ^ f.eb - 1 ∧ f.top = 1 ∧ m = 2 ^ f.mb - 1 then .nan
  else
    let sh := u + scale + max e 1 - f.bias - f.mb - 127
    .fin neg ((if e = 0 then m else 2 ^ f.mb + m) * 2 ^ sh)

/-- How a value between two codes is rounded: to nearest even, or by a 16-bit draw (R246, R247). -/
inductive Round where
  | even
  | draw (r : Nat)
  deriving DecidableEq, Repr

/-- Whether the magnitude `lo + rem / 2^sh` rounds up in magnitude. -/
def Round.up (r : Round) (neg : Bool) (lo rem sh : Nat) : Bool :=
  if rem = 0 then false
  else match r with
    | .even => decide (2 ^ sh < 2 * rem) || (decide (2 * rem = 2 ^ sh) && decide (lo % 2 = 1))
    | .draw d =>
      if neg then decide ((2 ^ sh - rem) * 65536 / 2 ^ sh + d < 65536) else decide (65536 ≤ rem * 65536 / 2 ^ sh + d)

/-- Round a finite value, in units of 2^-u, once to a format with infinities; one unit above the largest finite value stands
for infinity. -/
def Fmt.round (f : Fmt) (u : Nat) (r : Round) (neg : Bool) (mag : Nat) : Nat :=
  let sq := u + 1 - f.bias - f.mb
  let sh := max sq (Nat.log2 mag - f.mb)
  let lo := mag / 2 ^ sh
  let k := lo + b2n (r.up neg lo (mag % 2 ^ sh) sh)
  let code := (sh - sq) * 2 ^ f.mb + k
  if (2 ^ f.eb - 1) * 2 ^ f.mb ≤ code then f.infBits neg else b2n neg * 2 ^ (f.eb + f.mb) + code

/-- The exact sum of two values: NaN by a NaN or by opposite infinities; an exact zero is negative only when both are. -/
def FVal.add (a b : FVal) : FVal :=
  match a, b with
  | .nan, _ => .nan
  | _, .nan => .nan
  | .inf x, .inf y => if x = y then .inf x else .nan
  | .inf x, _ => .inf x
  | _, .inf y => .inf y
  | .fin x m, .fin y n =>
    if x = y then .fin x (m + n)
    else if m = n then .fin false 0
    else if m < n then .fin y (n - m) else .fin x (m - n)

/-- The code of a value in a format with infinities. -/
def Fmt.encode (f : Fmt) (u : Nat) (r : Round) : FVal → Nat
  | .nan => f.qnan
  | .inf neg => f.infBits neg
  | .fin neg mag => f.round u r neg mag

/-! Scalar atomics (R239, R240). -/

/-- Bytes of an operand by SIZE; 0 for the reserved code. -/
def sizeBytes (n : Nat) : Nat := if n = 0 then 4 else if n = 1 then 8 else if n = 2 then 16 else 0

/-- A number as signed in `w` bits. -/
def signedOf (w v : Nat) : Int := if v < 2 ^ (w - 1) then v else (v : Int) - 2 ^ w

/-- Order of the floating-point numbers of a format, -0 below +0. -/
def Fmt.key (f : Fmt) (v : Nat) : Int :=
  let m := v % 2 ^ (f.eb + f.mb)
  if v / 2 ^ (f.eb + f.mb) % 2 = 1 then -1 - (m : Int) else m

/-- minimumNumber or maximumNumber. -/
def Fmt.minMax (f : Fmt) (greater : Bool) (a b : Nat) : Nat :=
  match f.decode 1074 127 a, f.decode 1074 127 b with
  | .nan, .nan => f.qnan
  | .nan, _ => b
  | _, .nan => a
  | _, _ => if greater then (if f.key a < f.key b then b else a) else (if f.key b < f.key a then b else a)

/-- The sum, rounded to nearest even. -/
def Fmt.addEven (f : Fmt) (a b : Nat) : Nat := f.encode 1074 .even ((f.decode 1074 127 a).add (f.decode 1074 127 b))

/-- The new value of a scalar atomic on `n` bytes (R239). -/
def scalarOp (op n : Nat) (signed : Bool) (old operand compare : Nat) : Nat :=
  let f := if n = 4 then fmtFp32 else fmtFp64
  let below (x y : Nat) : Bool := if signed then decide (signedOf (8 * n) x < signedOf (8 * n) y) else decide (x < y)
  if op = 0x10 then (old + operand) % 2 ^ (8 * n)
  else if op = 0x11 then if below operand old then operand else old
  else if op = 0x12 then if below old operand then operand else old
  else if op = 0x13 then if old = compare then operand else old
  else if op = 0x14 then f.addEven old operand
  else if op = 0x15 then f.minMax false old operand
  else f.minMax true old operand

/-- A scalar operation code with an operand size that it takes (R236, R237, R239). -/
def scalarOk (op : Nat) (attr : BitVec 8) : Bool :=
  decide (0x10 ≤ op) && decide (op ≤ 0x16) && decide (attr.toNat < 16) && decide (attr.toNat % 4 < 3)
    && (decide (op < 0x14) || decide (attr.toNat % 4 < 2))

/-! Vector accumulates (R241 to R246). -/

/-- Width in bits of an accumulator element (ACC). -/
def accBits (acc : Nat) : Nat := if acc = 1 then 16 else if acc = 3 then 64 else 32
/-- Elements of a sector. -/
def accElems (acc : Nat) : Nat := 2048 / accBits acc
/-- Accumulator formats that are floating-point. -/
def accFloat (acc : Nat) : Bool := decide (acc < 2)
/-- The format of a floating-point accumulator. -/
def accFmt (acc : Nat) : Fmt := if acc = 0 then fmtFp32 else fmtBf16

/-- Bits of a source element by operation code; 0 where reserved. -/
def srcBits (op : Nat) : Nat :=
  match op - 0x20 with
  | 0 => 32 | 1 => 16 | 2 => 16 | 3 => 8 | 4 => 8 | 5 => 8 | 6 => 8 | 7 => 6 | 8 => 6 | 9 => 4
  | 10 => 8 | 11 => 16 | 12 => 32 | 13 => 64 | _ => 0
/-- Microscaled formats. -/
def srcMx (op : Nat) : Bool := decide (0x25 ≤ op) && decide (op ≤ 0x29)
/-- Integer formats. -/
def srcInt (op : Nat) : Bool := decide (0x2A ≤ op) && decide (op ≤ 0x2D)
/-- The format of a floating-point source. -/
def srcFmt (op : Nat) : Fmt :=
  match op - 0x20 with
  | 0 => fmtFp32 | 1 => fmtBf16 | 2 => fmtFp16 | 3 => fmtE4m3 | 4 => fmtE5m2 | 5 => fmtE4m3 | 6 => fmtE5m2
  | 7 => fmtE2m3 | 8 => fmtE3m2 | _ => fmtE2m1

/-- Source size B in bytes of a combination of R242; none where it is refused. -/
def srcSize (op acc : Nat) : Option Nat :=
  let n := accElems acc
  let b := n * srcBits op / 8
  if srcBits op = 0 ∨ op < 0x20 then none
  else if srcInt op then if 2 ≤ acc ∧ srcBits op ≤ accBits acc then some b else none
  else if accFloat acc ∧ (op ≠ 0x20 ∨ acc = 0) then some (b + if srcMx op then n / 32 else 0) else none

/-- The bytes of the source that an element's bits lie in: first, and one past the last. -/
def srcSpan (op i : Nat) : Nat × Nat := (srcBits op * i / 8, (srcBits op * i + srcBits op - 1) / 8 + 1)

/-- An element is enabled (R244). -/
def elemOn (op : Nat) (be : BitVec 256) (i : Nat) : Bool :=
  let (a, b) := srcSpan op i
  (List.range (b - a)).any fun j => bit be (a + j)

/-- The byte enables are as R244 asks. -/
def enablesOk (op acc : Nat) (be : BitVec 256) : Bool :=
  let n := accElems acc
  let size := (srcSize op acc).getD 0
  decide (be.toNat < 2 ^ size)
    && (List.range n).all fun i =>
      let (a, b) := srcSpan op i
      !elemOn op be i
        || ((List.range (b - a)).all (fun j => bit be (a + j))
          && (!srcMx op || bit be (n * srcBits op / 8 + i / 32)))

/-- The ATTR of a vector accumulate and its operation code are permitted (R236, R237, R242). -/
def vectorOk (op : Nat) (attr : BitVec 8) : Bool := decide (attr.toNat < 16) && (srcSize op (attr.toNat % 4)).isSome

/-- A source element's code. -/
def srcCode (op : Nat) (src : Sector) (i : Nat) : Nat := src.toNat / 2 ^ (srcBits op * i) % 2 ^ srcBits op

/-- The exact value of a source element, in units of 2^-149 (R245). -/
def srcVal (op acc : Nat) (src : Sector) (i : Nat) : FVal :=
  let scale := src.toNat / 2 ^ (8 * (accElems acc * srcBits op / 8 + i / 32)) % 256
  if srcMx op then if scale = 255 then .nan else (srcFmt op).decode 149 scale (srcCode op src i)
  else (srcFmt op).decode 149 127 (srcCode op src i)

/-- The result of one enabled element (R246). -/
def accElem (op acc : Nat) (sat : Bool) (r : Round) (old src : Sector) (i : Nat) : Nat :=
  let w := accBits acc
  let o := old.toNat / 2 ^ (w * i) % 2 ^ w
  if accFloat acc then
    let f := accFmt acc
    f.encode 149 r ((f.decode 149 127 o).add (srcVal op acc src i))
  else
    let x := signedOf w o + signedOf (srcBits op) (srcCode op src i)
    let y := if sat then max (-(2 ^ (w - 1) : Int)) (min (2 ^ (w - 1) - 1) x) else x
    (y % (2 ^ w : Int)).toNat

/-- A vector accumulate into a sector: `draw i` is rnd(i) of R247, used with STOCH. -/
def vectorAcc (op : Nat) (attr : BitVec 8) (be : BitVec 256) (draw : Option (Nat → Nat)) (old src : Sector) : Sector :=
  let acc := attr.toNat % 4
  let w := accBits acc
  BitVec.ofNat 2048 ((List.range (accElems acc)).map fun i =>
    (if elemOn op be i then
      accElem op acc (bit attr 3) (match draw with | some d => .draw (d i) | none => .even) old src i
    else old.toNat / 2 ^ (w * i) % 2 ^ w) * 2 ^ (w * i)).sum

/-! Stochastic rounding (R247). -/

/-- Exclusive or of the 64 words of a sector. -/
def xorWords (d : Sector) : Word := (List.range 64).foldl (fun (a : Word) i => a ^^^ (d >>> (32 * i)).setWidth 32) 0

/-- blk(k): lbn, k, 0, step and d, as 16 bytes. -/
def drawBlock (lbn k step : Nat) (d : Word) : BitVec 128 :=
  BitVec.ofNat 128 (ofLe (leBytes 6 lbn ++ leBytes 1 k ++ [0] ++ leBytes 4 step ++ leBytes 4 d.toNat))

/-- rnd(i) under a block cipher keyed with the rounding key. -/
def drawOf (aes : BitVec 128 → BitVec 128) (lbn step : Nat) (old src : Sector) (i : Nat) : Nat :=
  bits (aes (drawBlock lbn (i / 8) step (xorWords old ^^^ xorWords src))) (16 * (i % 8) + 15) (16 * (i % 8))

end Sys2Proof.Machine
end

