-- ==== Sys2Proof/Config.lean ====
section
/-!
DEFINITION. What the spec leaves open as a value, and the primitives of the published standards that
the spec names without restating them (spec/00_scope.md, "Where this manual uses a published standard").
Each is a constant without a body: nothing in Lean can evaluate it or prove a value of it, so a theorem
holds for every value (log entries 1 and 2).
-/
namespace Sys2Proof.Config

/-- Random draws and other free values: the `n`-th fresh value (R154, R163, R179, R181, R182; log entry 2). -/
opaque free : Nat → BitVec 512

/-- VCLK cycles in one TREF period (R59, R106); the measured number is not fixed by the spec (log entry 3). -/
opaque vclkPerTref : Nat → Nat

/-- AES-256 forward cipher (FIPS 197, named by R141, R175, R188, R189). -/
opaque aes256 : BitVec 256 → BitVec 128 → BitVec 128

/-- AES-256 inverse cipher (FIPS 197). -/
opaque aes256Inv : BitVec 256 → BitVec 128 → BitVec 128

/-- XTS-AES-256 encryption of one 256-byte data unit (IEEE 1619, R188): K_data, K_twk, tweak, plaintext. -/
opaque xtsEnc : BitVec 256 → BitVec 256 → BitVec 128 → Sector → Sector

/-- XTS-AES-256 decryption of one 256-byte data unit (IEEE 1619, R188). -/
opaque xtsDec : BitVec 256 → BitVec 256 → BitVec 128 → Sector → Sector

/-- GHASH over blocks under a hash key, with no length block (NIST SP 800-38D, R189). -/
opaque ghash : BitVec 128 → List (BitVec 128) → BitVec 128

/-- AES-256-GCM seal (NIST SP 800-38D, R306): key, IV, associated data, plaintext; ciphertext then tag. -/
opaque gcmSeal : BitVec 256 → List Byte → List Byte → List Byte → List Byte

/-- SHA-384 (FIPS 180-4). -/
opaque sha384 : List Byte → Digest

/-- HMAC-SHA-384 (R156): key bytes, message bytes. -/
opaque hmac384 : List Byte → List Byte → Digest

/-- CMAC-AES-256 (R156): key, message bytes. -/
opaque cmac256 : BitVec 256 → List Byte → BitVec 128

/-- ECDSA P-384 with SHA-384 (FIPS 186-5, R163): private key, message, nonce; r then s. -/
opaque ecdsaSign : Nat → List Byte → BitVec 512 → List Byte

/-- ML-DSA-87 in hedged mode (FIPS 204, R163): key-generation seed, context string, message, randomness. -/
opaque mldsaSign : List Byte → List Byte → List Byte → BitVec 512 → List Byte

/-- The ML-DSA-87 public key of a key-generation seed (FIPS 204, R162). -/
opaque mldsaPublic : List Byte → List Byte

/-- The x-coordinate of a P-384 shared point (R158): own private key, the other end's public point. -/
opaque p384Ecdh : Nat → List Byte → List Byte

/-- The ML-KEM-1024 encapsulation key of a key-generation seed d || z (FIPS 203, R162). -/
opaque mlkemPublic : List Byte → List Byte

/-- The ML-KEM-1024 shared secret of an encapsulation (FIPS 203, R158): encapsulation key, randomness. -/
opaque mlkemShared : List Byte → BitVec 512 → List Byte

/-- The ML-KEM-1024 ciphertext of an encapsulation (FIPS 203, R158): encapsulation key, randomness. -/
opaque mlkemCipher : List Byte → BitVec 512 → List Byte

/-- ML-KEM-1024 decapsulation (FIPS 203, R158): key-generation seed, ciphertext; the shared secret. -/
opaque mlkemDecaps : List Byte → List Byte → List Byte

/-- The handshake secret of the SPDM 1.3 key schedule (R158): hybrid secret, a transcript. -/
opaque spdmHandshake : Digest → BitVec 512 → Digest

/-- The master secret of the SPDM 1.3 key schedule (R158): handshake secret, a transcript. -/
opaque spdmMaster : Digest → BitVec 512 → Digest

/-- The application secret of a direction in the SPDM 1.3 key schedule (R157, R158): master secret, whether of the response direction. -/
opaque spdmApp : Digest → Bool → Digest

/-- The secret that succeeds another at a KEY_UPDATE (SPDM 1.3, R433). -/
opaque spdmUpdate : Digest → Digest

/-- The hash of the Snowdrop ROM (measurement index 1, R429). -/
opaque romDigest : Digest

/-- The hash of Yarrel's root certificate, fixed in the Snowdrop ROM (R428). -/
opaque yarrelRoot : Digest

/-- An anchor entry with four or more bit errors: what it decodes to (R198). Counter, PART, SLOT, STATE
packed as in R197 bits 81:0, and whether the code calls it uncorrectable. -/
opaque anchorDecode : BitVec 64 → Nat → Nat → Nat → Nat → BitVec 83

/-- Word of an internal array as the debug array view lays it out (R458, LC_DBG_ARRAY_DATA): the layout within
an array is not specified. Arguments: array, group, index. -/
opaque arrayWord : Nat → Nat → Nat → Word

/-- A keyed hash of the group number and a line's group-local address, whose low 15 bits are the line's set in the metadata cache
(R203). The hash function is not specified. -/
opaque mdcSet : BitVec 512 → Nat → Nat → Nat

/-- A keyed hash of slot number and object ID, whose low 9 bits are an entry's set in the derived-key cache (R165). -/
opaque dkcSet : BitVec 512 → Nat → Nat → Nat

/-- Length of the secured-message record that carries `n` bytes of application data (SPDM secured messages, R380, R522). -/
opaque recordLen : Nat → Nat

/-- A record of a secured session (SPDM secured messages, R380, R522): the values of the session's key slots, the number of the record in
its direction, the application data. -/
opaque sealRecord : List (BitVec 512) → Nat → List Byte → List Byte

/-- What a TLP of an IDE stream carries in place of its payload (PCI Express IDE, R340): key of the sub-stream, the TLP's place in the
sub-stream's counter, its header fields, its payload. -/
opaque ideSeal : BitVec 512 → Nat → List Nat → List Byte → List Byte

/-- The bytes of a TLP's header and prefixes in Flit mode (PCI Express, R80): its fields. -/
opaque tlpHeader : List Nat → List Byte

/-- The data byte of an in-band interrupt that announces a pending read (DMTF DSP0233, R452). -/
opaque ibiPending : Byte

/-- INFO of a press record: its layout for each event is not specified (R525). -/
opaque pressInfo : Nat → DWord

/-- The duration of a tick of a repeated access pattern that the spec does not state: cycles an access waited
(partition counters 6, 7 and 24, R507). -/
opaque waitedCycles : Nat → Nat

/-- Traffic class, less 1 and modulo 6, of a request or reply that the block forms itself, by KIND: R307 allows classes 1
to 6 (or 7) and names none. -/
opaque frameClass : Nat → Nat

/-- Sector `i` of the spill image of a context (R394): its layout is not specified. -/
opaque spillImage : Nat → Nat → Sector

/-- The IEEE 1588-2019 message that a PTP frame carries at byte 4 (R110, R307): its kind; domainNumber, sdoId, sequence number, port
number, a time (seconds, nanoseconds, 16-bit fraction) and two more numbers (stepsRemoved and the lock state of an Announce);
clockIdentity. The standard's layout is not restated. -/
opaque ptpBody : Nat → List Nat → List Byte → List Byte

/-- The P-384 public point of a private key, uncompressed (FIPS 186-5, R162, R174). -/
opaque p384Public : Nat → List Byte

/-- DT_RATE as the servo sets it, less the least it may be, modulo the range of R114: the servo's gains are not specified. -/
opaque servoRate : Nat → Nat

/-- The slew the servo applies, in ppm, above -300 and modulo 601 (R114). -/
opaque servoSlew : Nat → Nat

/-- A register of the DOE or IDE extended capability that nothing has written: the PCI Express layout is not restated (R339, R340). -/
opaque cfgWord : Nat → Word

/-- The endpoint UUID of the instance (R452): DMTF DSP0236 leaves its value to the endpoint. -/
opaque endpointUuid : BitVec 128

/-- The version entries that Get MCTP Version Support returns for a message type (R452, DMTF DSP0236). -/
opaque mctpVersions : Nat → List Byte

/-- SCHED_ID of the default EPOCH (even) and RESALT (odd) entries of a port that Tolaro arms (R127): the spec names none. -/
opaque defaultSched : Nat → Word

end Sys2Proof.Config
end

