-- ==== Sys2Proof/Machine/State.lean ====
section
/-!
DEFINITION. The state of the block: everything the spec gives it, as plain data, one structure per unit.
Stored bits of software-visible registers (fields of access RW, W1C and RW1S) stand in `Regf.regs` under their register
offset; what a register only reports is computed from the unit that holds it (Machine/Flags.lean).
-/
namespace Sys2Proof.Machine

/-- Reasons for which a step could stop. The spec describes no event from which the block does not go on by its own rules
(a breach halt, a refusal, a reset are next states), so no command raises it; it is here so that the type has a value.
Safe: it is never answered. -/
inductive Fault where
  /-- Raised by no command. Safe. -/
  | none
  deriving DecidableEq, Repr

/-- Reasons for which a command has no meaning. -/
inductive Refusal where
  /-- The command's meaning is not written yet; raised by Machine/Dispatch.lean alone. Safe. -/
  | notModelled (mnemonic : String)
  deriving DecidableEq, Repr

/-- The integration parameters (R56), fixed in the netlist. -/
structure Params where
  /-- PROFILE of the netlist; R3 R56; reset a (param, log entry 5). -/
  profile : Profile
  /-- SG_COUNT, 0 to 8; R56; reset 8 (param). -/
  sgCount : Nat
  /-- FP_COUNT, 1 to 18; R56; reset 18 (param). -/
  fpCount : Nat
  /-- HC_COUNT, 0 to 2; R56; reset 2 (param). -/
  hcCount : Nat
  /-- ANCHOR_SPAN, 1 bit: 8 MiB; R56; reset false (param). -/
  span8 : Bool
  deriving DecidableEq, Repr

/-- The register file (R8 to R18). -/
structure Regf where
  /-- Stored bits of every register, 32 bits each, by offset; R8 R15; reset: each register's Reset column. -/
  regs : Tab Word
  /-- C-class shadow words awaiting their commit point, by offset; R15 R16; reset none. -/
  shadow : Tab Word
  /-- LO halves held for their requester: (offset of LO, requester, value); R11; reset none. -/
  held : List (Nat × Nat × Word)
  /-- HI captured by the last 32-bit read of LO: (offset of HI, value); R11; reset none. -/
  snap : Option (Nat × Word)
  deriving DecidableEq, Repr

/-- Pins and supplies (R67), each at its level as the block has accepted it. -/
structure Pins where
  /-- VDD_RET is applied, 1 bit; R61 R62; reset true (DESIGN CHOICE, log entry 6). -/
  vddRet : Bool
  /-- RESET_N, 1 bit; R67 R482; reset true (released). -/
  resetN : Bool
  /-- WARM_REQ_N has been seen high since it was last accepted, 1 bit; R482; reset true (DESIGN CHOICE, log entry 6). -/
  warmArmed : Bool
  /-- SUPPLY_WARN_N is accepted as low, 1 bit; R66; reset false (DESIGN CHOICE, log entry 6). -/
  supplyLow : Bool
  /-- RET_REQ, 1 bit; R63; reset false (DESIGN CHOICE, log entry 6). -/
  retReq : Bool
  /-- RET_READY, 1 bit; R63 R67; reset false. -/
  retReady : Bool
  /-- PROFILE strap, 2 bits; R3 R67; reset 0 (strap, log entry 5). -/
  strap : Nat
  /-- I3C_PID_SEL, 4 bits; R67 R93; reset 0 (strap, log entry 5). -/
  pidSel : Nat
  /-- FPk_LINK_UP, 18 bits; R67; reset 0 (DESIGN CHOICE, log entry 6). -/
  fpUp : BitVec 18
  /-- HCh_LINK_UP, 2 bits; R67; reset 0 (DESIGN CHOICE, log entry 6). -/
  hcUp : BitVec 2
  /-- CHIP_RST_REQ, 1 bit; R67 R92; reset false. -/
  chipRstReq : Bool
  /-- BLOCK_READY, 1 bit; R67 R483; reset false. -/
  blockReady : Bool
  /-- PFENCE_REQ, 16 bits; R86 R97; reset all 1. -/
  pfenceReq : BitVec 16
  /-- PFENCE_ACK, 16 bits; R86; reset 0 (DESIGN CHOICE, log entry 6). -/
  pfenceAck : BitVec 16
  /-- ENG_RST_REQ, 32 bits; R86 R97; reset all 1. -/
  engReq : BitVec 32
  /-- ENG_RST_ACK, 32 bits; R86; reset 0 (DESIGN CHOICE, log entry 6). -/
  engAck : BitVec 32
  /-- CSTOP, 1 bit; R88 R97; reset true. -/
  cstop : Bool
  /-- CSTOP_ACK, 1 bit; R88; reset false (DESIGN CHOICE, log entry 6). -/
  cstopAck : Bool
  /-- TRIG_OUT, 16 bits; R89 R97; reset 0. -/
  trigOut : BitVec 16
  /-- BREACH_N, 1 bit; R91 R97; reset false: low from power-on until Snowdrop completes (log entry 7). -/
  breachN : Bool
  /-- PWRCYC_REQ, 1 bit; R92 R97; reset false (the retention domain is cleared at power-on). -/
  pwrcycReq : Bool
  /-- Sensor capture latches, 16 bits; R61 R90; reset 0. -/
  sns : BitVec 16
  /-- DBG_EN, 1 bit; R85; reset true (DESIGN CHOICE, log entry 6). -/
  dbgEn : Bool
  deriving DecidableEq, Repr

/-- Where the block stands between a reset and service (R483, R485). -/
inductive Phase where
  | inReset | stormHold | sensing | burning | husWait | wiping | snowdrop | tolaro | ready | stopped
  deriving DecidableEq, Repr

/-- What the fuse burns in progress are for (R154, R463, R464, R467, R470). -/
inductive Goal where
  | none
  | copies
  | fieldedDis
  | wiped
  | husWords
  | husSet
  | journal (target : Nat) (dis : Bool)
  | copyA (target : Nat) (dis : Bool)
  | copyB (target : Nat) (dis : Bool)
  | copyC (target : Nat) (dis : Bool)
  | control (target : Nat)
  deriving DecidableEq, Repr

/-- Reset, bring-up, fuses and life-cycle (chapters 13 and 14). -/
structure Boot where
  /-- Phase of bring-up; R483 R485 R532; reset sensing (bring-up starts when the block leaves reset). -/
  phase : Phase
  /-- The reset being brought up is of the warm class, 1 bit; R478 R479; reset false. -/
  warmClass : Bool
  /-- Cause of the pending chip request (R478 code, 0 none); R478 R498; reset 0. -/
  chipCause : Nat
  /-- The next reset counts as power-on, 1 bit; R62; reset false. -/
  porPending : Bool
  /-- The retention latch, 1 bit; R61 R63; reset false. -/
  retLatch : Bool
  /-- Retention entry is under way, 1 bit; R63 R65; reset false. -/
  retRun : Bool
  /-- Partitions that retention entry fenced; R63 R65; reset none. -/
  retFenced : List Nat
  /-- RESET_N was low during the last reset, or it was a power-on, 1 bit; R91; reset true. -/
  rstnSeen : Bool
  /-- Storm counter: the TREF instants of recent bring-up starts; R61 R485; reset [0] (this bring-up). -/
  storm : List Nat
  /-- A warm reset is flushing, with its source code; R486; reset none. -/
  warmRun : Option Nat
  /-- A metadata flush is running, 1 bit (SGn_PROT_STATUS.FLUSH); R208; reset false. -/
  flush : Bool
  /-- Anchor-table initialisation has completed, 1 bit (SGn_PROT_STATUS.ANCHOR_INIT); R201; reset false. -/
  anchorInit : Bool
  /-- Fuse sensing has completed since the last reset, 1 bit; R94; reset false. -/
  sensed : Bool
  /-- FUSE_ERR was raised during sensing, 1 bit; R94; reset false. -/
  senseErr : Bool
  /-- GLB_PROFILE.MISMATCH, 1 bit; R4; reset false (reads by R532 until sensed). -/
  mismatch : Bool
  /-- The life-cycle decision has been made, 1 bit; R463 R532; reset false. -/
  decided : Bool
  /-- Life-cycle state code, 3 bits; R456 R463; reset 7. -/
  lc : Nat
  /-- LC_STATUS.NO_MAJORITY, 1 bit; R463; reset false. -/
  noMajority : Bool
  /-- LC_STATUS.RESUMED, 1 bit; R463; reset false. -/
  resumed : Bool
  /-- LC_STATUS.COPY_STUCK, 1 bit; R463; reset false. -/
  copyStuck : Bool
  /-- LC_STATUS.WIPE_PENDING, 1 bit; R470; reset false. -/
  wipePending : Bool
  /-- LC_STATUS.BURNING, 1 bit; R467; reset false. -/
  burning : Bool
  /-- Bits waiting to be programmed, the first being programmed: (word, bit); R461; reset none. -/
  burnQ : List (Nat × Nat)
  /-- A program operation of the first bit is in progress, 1 bit; R461; reset false. -/
  burnGo : Bool
  /-- Retries made of the first bit, 0 to 3; R461; reset 0. -/
  burnTry : Nat
  /-- What the burns are for; R154 R463 R464 R467 R470; reset none. -/
  burnGoal : Goal
  /-- A bit of the goal in progress has failed, 1 bit; R154 R468 R470; reset false. -/
  burnBad : Bool
  /-- LC_BURN.FAILS, 8 bits; R461; reset 0. -/
  burnFails : Nat
  /-- LC_BURN.BITS, 16 bits; R467; reset 0. -/
  burnBits : Nat
  /-- The hardware unique secret drawn at this boot, 256 bits; R154; reset none. -/
  husDraw : Option (BitVec 256)
  /-- KEY_STATUS.HUS_FAULT, 1 bit; R154; reset false. -/
  husFault : Bool
  /-- DBG_AUTH, 2 bits; R85 R476; reset 0. -/
  dbgAuth : Nat
  /-- DBG_AUTH at the end of Snowdrop, 2 bits; R476; reset 0. -/
  bootAuth : Nat
  /-- The live debug challenge with its LEVEL; R473; reset none. -/
  challenge : Option (BitVec 128 × Nat)
  /-- The command processor is halted, 1 bit; R477; reset false. -/
  halted : Bool
  /-- Instructions single-stepped (each runs whole), a count; R477; reset 0. -/
  dbgSteps : Nat
  /-- The block behaves as R499 says since PWR_CYCLE, 1 bit; R499; reset false. -/
  pwrOff : Bool
  /-- Reason and source of the power-cycle message being repeated; R500; reset none. -/
  pwrMsg : Option (Nat × Nat × BitVec 64)
  /-- A breach halt has run since the last reset, 1 bit; R232; reset false. -/
  breached : Bool
  deriving DecidableEq, Repr

/-- What is kept of a PTP port (R112 to R114). -/
structure PtpPort where
  /-- An Announce has been received, 1 bit. -/
  announced : Bool
  /-- stepsRemoved of the parent. -/
  steps : Nat
  /-- The parent is LOCKED, 1 bit. -/
  locked : Bool
  /-- Receipt time of the last Sync and its sequence number. -/
  syncRx : Option (Nat × Int)
  /-- Mean link delay in 2^-16 ns. -/
  delay : Int
  /-- Pdelay exchange: send stamp t1 with its sequence number, request receipt t2, response receipt t4. -/
  t1 : Option (Nat × Int)
  /-- Request receipt time t2 of the neighbour. -/
  t2 : Option Int
  /-- Response receipt time t4. -/
  t4 : Option Int
  /-- Transmitted event frames that await their TX latency, in order: label (4 x sequence number + 1 Sync, 2 Pdelay_Req,
  3 Pdelay_Resp) and, once its SOF beat has been transferred, the stamp of that beat; R78 R112. -/
  txMarks : List (Nat × Option Int)
  /-- Sequence number of the next message of the port. -/
  seq : Nat
  deriving DecidableEq, Repr

/-- A schedule entry (R122). -/
structure Sched where
  /-- 0 FREE, 1 ARMED, 2 ACTIVE. -/
  st : Nat
  /-- Domain time in ns at which it fires, 64 bits. -/
  instant : Nat
  /-- Repeat period in microseconds, 32 bits; 0 one-shot. -/
  period : Nat
  /-- Action code. -/
  action : Nat
  /-- Partition, 4 bits. -/
  part : Nat
  /-- FLAGS bit 4. -/
  block : Bool
  /-- FLAGS bit 5. -/
  stagger : Bool
  /-- FLAGS bit 6. -/
  domain : Bool
  /-- FLAGS bit 7. -/
  late : Bool
  /-- MISSED, 8 bits. -/
  missed : Nat
  /-- SCHED_ID, 32 bits. -/
  id : Word
  /-- PARAM, 64 bits. -/
  param : DWord
  /-- ORIGIN, 14 bits. -/
  origin : Nat
  deriving DecidableEq, Repr

/-- A received frame that is held while a STOP is ACTIVE (R136): the command that brought it, or a frame to route. -/
inductive HeldRx where
  | cmd (c : Instr)
  | route (h : RxHdr) (outPort : Nat) (f : EgFrame)
  deriving DecidableEq, Repr

/-- A STOP of a partition (R136 to R140). -/
structure Stop where
  /-- A STOP is ACTIVE. -/
  active : Bool
  /-- Index of its schedule entry. -/
  idx : Nat
  /-- ORIGIN of the STOP. -/
  origin : Nat
  /-- SCHED_ID of the STOP. -/
  id : Word
  /-- The instant T of the cut: INSTANT of the entry with its stagger offset (R136, R138). -/
  cutAt : Nat
  /-- Domain time at which it fired here (R139). -/
  since : Nat
  /-- Fence to signal. -/
  fence : Nat
  /-- Marker limit in microseconds. -/
  limit : Nat
  /-- Ports on which the own marker has been sent. -/
  sent : List Nat
  /-- Ports from which a marker has come. -/
  got : List Nat
  /-- The stop has completed (or its fence was signalled MEMBER_LOST). -/
  complete : Bool
  /-- A RESUME that waits for the completion: its entry. -/
  resume : Option Nat
  /-- Received frames that have verified and are held, in arrival order. -/
  heldRx : List HeldRx
  deriving DecidableEq, Repr

/-- Domain time (chapter 3). -/
structure Dt where
  /-- State code, 3 bits; R116; reset 0 OFF. -/
  st : Nat
  /-- The counter, 64 + 16 + 24 bits, in units of 2^-40 ns; R105 R108; reset 0. -/
  cnt : BitVec 104
  /-- DT_RATE, 48 bits; R105; reset 0x0666_6666_6666. -/
  rate : Nat
  /-- Slew in ppm applied on top of the rate, signed; R114; reset 0. -/
  slew : Int
  /-- DT_FRAC, 16 bits; R105; reset 0. -/
  frac : Nat
  /-- DT_STATUS.TREF_LOST, 1 bit; R59; reset false. -/
  trefLost : Bool
  /-- DT_STATUS.STEPS, 4 bits; R113; reset 0. -/
  steps : Nat
  /-- DT_STATUS.SLAVE_PORT, 5 bits; R113; reset 31. -/
  slave : Nat
  /-- DT_OFFSET, signed 32 bits in 1/256 ns; R114; reset 0. -/
  offset : Int
  /-- Consecutive offsets within 4 ns of a parent in LOCKED; R117; reset 0. -/
  runIn : Nat
  /-- Consecutive offsets within 4 ns of any followed parent; R117; reset 0. -/
  runNear : Nat
  /-- Consecutive offsets outside 10 ns; R117; reset 0. -/
  runOut : Nat
  /-- LOCKED has been entered since the last reset, 1 bit; R107; reset false. -/
  everLocked : Bool
  /-- DT_STATUS.BOUND and DT_BCAST_LOCK, 1 bit; R121; reset false. -/
  bound : Bool
  /-- A backup grandmaster acts as grandmaster, 1 bit; R115; reset false. -/
  takeover : Bool
  /-- PTP ports; R110 R113; reset none. -/
  ptp : Tab PtpPort
  /-- PTP messages ignored or discarded, a count; R110 R111; reset 0. -/
  ptpIgnored : Nat
  /-- Timestamp samples dropped, a count; R78; reset 0. -/
  tsDropped : Nat
  /-- The schedule table, 256 entries of 32 bytes; R122; reset FREE. -/
  sched : Tab Sched
  /-- (ORIGIN, SCHED_ID, cancel) of DOMAIN frames already handled, per partition; R128; reset none. -/
  seen : List (Nat × Nat × Word × Bool)
  /-- STOPs, per partition; R136; reset none. -/
  stops : Tab Stop
  /-- STOPs that have ended, for the time that the deadlines of a partition leave out: (partition, from, to); R139 R269; reset none. -/
  stopLog : List (Nat × Nat × Nat)
  /-- Value of the stamp clock at the last TREF edge, from which the counter is interpolated; R106; reset 0. -/
  edge : Nat
  /-- Trigger outputs in a pulse, 16 bits; R132; reset 0. -/
  pulse : BitVec 16
  /-- Overlapping pulses, a count; R132; reset 0. -/
  overlaps : Nat
  deriving DecidableEq, Repr

/-- A key slot (R141 to R143). STATE codes: 0 EMPTY, 1 LIVE, 2 RETIRING, 3 RETIRED. -/
structure Slot where
  /-- STATE, 2 bits. -/
  st : Nat
  /-- PART, 4 bits. -/
  part : Nat
  /-- BLOCK. -/
  block : Bool
  /-- RETAIN. -/
  retain : Bool
  /-- MEAS_BOUND. -/
  meas : Bool
  /-- LC_BOUND. -/
  lcb : Bool
  /-- ORIGIN, 2 bits. -/
  origin : Nat
  /-- EXPORTABLE. -/
  exportable : Bool
  /-- USE, 3 bits. -/
  use : Nat
  /-- The value, at most 512 bits (R142). -/
  value : BitVec 512
  /-- The CMAC subkey of a memory slot, 128 bits; 0 in the others (R142). -/
  subkey : BitVec 128
  /-- Domain time at which the slot became LIVE (R174). -/
  created : Nat
  /-- Tolaro measurement at creation (R143). -/
  mAt : Digest
  /-- Life-cycle state at creation (R143). -/
  lcAt : Nat
  deriving DecidableEq, Repr

/-- A command that has been admitted and awaits its final reply: its header, opcode and SQ_HEAD (R373, R377), and the
objects it references (R403). -/
structure Pend where
  h : Hdr
  opc : Nat
  sqHead : Nat
  refs : List Nat
  deriving DecidableEq, Repr

/-- What is derived into a slot once its retirement is complete (R321, R326): the secret of the epoch after `n` from the slot `src` that
holds epoch `n`'s, or the flow-entropy key of re-salt count `n` from the flow seed in `src`. -/
structure Refill where
  src : Nat
  salt : Bool
  n : Nat
  deriving DecidableEq, Repr

/-- A tag of the derived-key cache (R165): slot number, object ID, generation. -/
structure KeyTag where
  slot : Nat
  obj : Nat
  gen : Nat
  deriving DecidableEq, Repr

/-- A derivation in flight (R166, R167, R148). -/
structure Deriv where
  tag : KeyTag
  part : Nat
  stale : Bool
  deriving DecidableEq, Repr

/-- A message of the control cipher engine (R175 to R178). -/
structure CceMsg where
  p : Option Pend
  slot : Nat
  mode : Nat
  decrypt : Bool
  ivGen : Bool
  iv : BitVec 128
  msg : List Byte
  again : Bool
  deriving DecidableEq, Repr

/-- A re-seal of a partition (R169 to R173). -/
structure Reseal where
  active : Bool
  new : Nat
  old : Nat
  done : Nat
  p : Option Pend
  deriving DecidableEq, Repr

/-- An IDE stream (R340 to R343). -/
structure Stream where
  id : Nat
  part : Nat
  secure : Bool
  /-- RID association. -/
  rid : Nat
  deriving DecidableEq, Repr

/-- Protocol responses of SPDM, TDISP, IDE_KM and VMR requests (R345 to R348, R431, R435): what is answered. -/
inductive Resp where
  | doeDiscovery
  | version13
  | capabilities
  | algorithms
  | digests (slot0 : Option Digest)
  | certificate (slot : Nat) (bytes : List Byte)
  | challengeAuth (sig : List Byte)
  | measurements (blocks : List (Nat × List Byte)) (sig : List Byte)
  | keyExchangeRsp (sid : Nat) (exch sig : List Byte)
  | finishRsp
  | endSessionAck
  | heartbeatAck
  | keyUpdateAck
  | csr (sig : List Byte)
  | setCertificateRsp
  | errBusy
  | errUnspecified
  | errInvalidRequest
  | errVersion
  | errAlgorithms
  | errSessionLimit
  | errUnsupportedIndex
  | vmr (code : Nat) (st : Status) (payload : List Byte)
  | ideKm (ok : Bool)
  | ideKmReport (streams : List (Nat × Stream))
  | tdisp (ok : Bool) (state : Nat)
  | tdispReport (p member : Nat) (ranges : List (Nat × Nat))
  | tdispUnsupported
  deriving DecidableEq, Repr

/-- An operation of the public-key engine (R184). -/
inductive PkeOp where
  | ecKeygen | ecdh | ecSign | ecVerify | kemKeygen | kemEncaps | kemDecaps | mldsaSign | mldsaVerify
  deriving DecidableEq, Repr

/-- What work of the public-key engine ends in: the reply of KEY_ATTEST with its body, a protocol response, or what is left to do of an
SPDM or VMR exchange: a KEY_EXCHANGE with both ends' exchange data (R158), the own request of a link set-up, a FINISH, a LINK_BIND, an
AMEND. -/
inductive PkeEnd where
  | attest (p : Pend) (body : List Byte)
  | resp (t : Transport) (r : Resp)
  | exchange (t : Transport) (sid : Nat) (req rsp : List Byte)
  | request (k si : Nat)
  | finish (t : Transport) (sid : Nat) (authOk : Bool)
  | bind (k si : Nat) (b : Bind) (ev : Evidence)
  | amend (t : Transport) (sid : Nat) (a : Amendment)
  deriving DecidableEq, Repr

/-- Work of the public-key engine (R163, R184): whether it is link set-up; its operations, the first next; what it signs: the slot of the
seed, the label and the message; the signature so far; how it ends. -/
structure PkeJob where
  link : Bool
  ops : List PkeOp
  sign : Option (Nat × List Byte × List Byte)
  sig : List Byte
  ends : PkeEnd
  deriving DecidableEq, Repr

/-- The key store (chapter 4). -/
structure Key where
  /-- The 4,096 slots; R141; reset EMPTY. -/
  slots : Tab Slot
  /-- What is derived into slots whose retirement is under way; R321 R326; reset none. -/
  refill : Tab (Option Refill)
  /-- The derived-key cache, most recently used first, each entry with its way, at most 8,192; R165; reset empty. -/
  dkc : List (KeyTag × Nat)
  /-- Derivations in flight; R166; reset none. -/
  deriv : List Deriv
  /-- Messages of the control cipher engine, in admission order; R178; reset none. -/
  cce : List CceMsg
  /-- KEY_STATUS.CCE_FAULTS, 8 bits; R177; reset 0. -/
  cceFaults : Nat
  /-- KEY_STATUS.RNG_READY, 1 bit; R181; reset false. -/
  rngReady : Bool
  /-- KEY_STATUS.RNG_FAILED, 1 bit; R183; reset false. -/
  rngFailed : Bool
  /-- KEY_RNG_STATUS.FAIL_RUN, 5 bits; R183; reset 0. -/
  failRun : Nat
  /-- KEY_RNG_STATUS.FAIL_TOTAL, 8 bits; R183; reset 0. -/
  failTotal : Nat
  /-- KEY_RNG_STATUS.RESEEDS, 16 bits; R182; reset 0. -/
  reseeds : Nat
  /-- Generate requests since the last reseed; R182; reset 0. -/
  draws : Nat
  /-- Public-key operations waiting, the first in the engine; R184; reset none. -/
  pke : List PkeJob
  /-- Restarts of ML-DSA signing since reset, a count; R184; reset 0. -/
  signRestarts : Nat
  /-- KEY_STATUS.ROOT_LOCKED, 1 bit; R155; reset false. -/
  rootLocked : Bool
  /-- KEY_STATUS.ROOT_SEL, 3 bits; R152; reset 0. -/
  rootSel : Nat
  /-- M_fw, 384 bits; R155; reset 0. -/
  mfw : Digest
  /-- SVN, 32 bits; R155; reset 0. -/
  svn : Nat
  /-- Re-seals, per partition (KEY_RESEALp, KEY_RESEAL_DONEp); R169 R61; reset none. -/
  reseal : Tab Reseal
  deriving DecidableEq, Repr

/-- An anchor-table entry (R197); `err` counts the bit errors it holds (R198). -/
structure Anchor where
  counter : DWord
  part : Nat
  slot : Nat
  /-- 0 Unowned, 1 Live, 2 Wilted. -/
  st : Nat
  err : Nat
  /-- The entry is being restored by Tolaro (R230). -/
  restoring : Bool
  /-- A tree counter of the region has reached its end: it is read-only (R196). -/
  full : Bool
  deriving DecidableEq, Repr

/-- States of a metadata-cache line (R204); INVALID lines are not listed. -/
inductive LineSt where
  | pending | clean | dirty
  deriving DecidableEq, Repr

/-- A line of the metadata cache (R203): eight 64-bit words. -/
structure Line where
  id : LineId
  st : LineSt
  /-- The bytes have arrived (a PENDING line may still wait for them). -/
  here : Bool
  /-- The controller could not correct the bytes (UE). -/
  ue : Bool
  words : List DWord
  /-- Way of its set, 0 to 15; 16 in the victim buffer (R206, R207). -/
  way : Nat
  deriving DecidableEq, Repr

/-- What a protected access does (R212, R213, R249, R252): a read, a full-sector write, a partial write, the fill of a merge
entry, the write-back of a merge entry. -/
inductive AccKind where
  | read | full | partW | fill | back
  deriving DecidableEq, Repr

/-- Who gets the result of a protected access: the MN port, nobody (an access of the block's own, R535), an access or waiting operation
that needs the entry of a plot (R215), or the peer of a remote read or write. -/
inductive Serve where
  | mn
  | inner
  | plot (parent x : Nat)
  | remote (no : Nat)
  deriving DecidableEq, Repr

/-- How the plot lookup of an access stands (R215, R216). -/
inductive PlotRes where
  | waiting | bound (obj gen : Nat) | stale | bad (st : Status)
  deriving DecidableEq, Repr

/-- An access in flight in a sector group (R222, R227). -/
structure Acc where
  id : Nat
  kind : AccKind
  serve : Serve
  q : MnReq
  part : Nat
  /-- Stamp-clock value at acceptance (R222). -/
  stamp : Nat
  entry : Nat
  /-- Sector within its region (R185). -/
  sect : Nat
  lbn : Nat
  slot : Nat
  plot : PlotRes
  /-- It waits behind another access to the same sector, or for a free lock (R213, R214). -/
  waiting : Bool
  /-- Beats of the sector still to come from the MS port. -/
  beats : Nat
  data : Sector
  dataUe : Bool
  be : BitVec 256
  wdata : Sector
  /-- Data of an earlier write of the sector that memory may not hold yet (R75). -/
  fwd : Option Sector
  /-- Lines this access fetched or waits on. -/
  lines : List LineId
  /-- The status already given by release-before-verify (R221). -/
  given : Option Status
  /-- The partition was verify-before-release when the access was accepted (R221). -/
  vbr : Bool
  /-- The plot-table read of the access carried UE (R216). -/
  plotUe : Bool
  deriving DecidableEq, Repr

/-- Who is answered for an operation on a merge entry: the MN port, the requester of a remote atomic (R272) with the domain, a remote
read or write or a result chunk with the offset that the sector has in it (R267, R313), or nobody (R535). -/
inductive SaTo where
  | mn
  | atomic (h : RxHdr) (r : RaReq) (domain : DWord)
  | serve (no off : Nat)
  | inner
  deriving DecidableEq, Repr

/-- An operation on a merge entry (R249, R251). Data and enables of a read or write stand at their places in the sector. -/
structure SaOp where
  q : MnReq
  data : Sector
  be : BitVec 256
  part : Nat
  /-- What the residue checks find: 1 the first run mismatches, 2 the second too, 3 a double error in storage (R256, R257). -/
  mism : Nat
  reply : Bool
  dest : SaTo
  /-- Rounding key and step in force when it reached its group's ordering point (R247, R248). -/
  round : Option (BitVec 256 × Word)
  deriving DecidableEq, Repr

/-- An operation that waits at admission for a merge entry (R249), with the place of its sector and its plot result; the number orders
it among the accesses (R214). -/
structure SaWait where
  id : Nat
  op : SaOp
  entry : Nat
  sect : Nat
  slot : Nat
  plot : PlotRes
  deriving DecidableEq, Repr

/-- A merge-buffer entry (R249). -/
structure MEntry where
  group : Nat
  lbn : Nat
  entry : Nat
  part : Nat
  addr : Nat
  tag : KeyTag
  data : Sector
  dirty : Bool
  /-- The fill has brought the contents: the entry is allocated (R250). -/
  ready : Bool
  ops : List SaOp
  /-- The version of the sector is at its end (R196). -/
  full : Bool
  deriving DecidableEq, Repr

/-- What a read outstanding on an MS port brings. -/
inductive MsFor where
  | data (id : Nat)
  | line (l : LineId)
  | pass (q : MnReq)
  deriving DecidableEq, Repr

/-- A read outstanding on an MS port (R69, R70). -/
structure MsRd where
  group : Nat
  port : Nat
  tag : Nat
  /-- Granules and address of the request; a request with tag 1,024 waits for a tag (R70). -/
  addr : Nat
  granules : Nat
  what : MsFor
  /-- Beats received. -/
  got : Nat
  deriving DecidableEq, Repr

/-- What a write outstanding on an MS port carries: a sector with its plaintext, a metadata line, or a pass-through write. -/
inductive MsData where
  | sector (lbn : Nat) (plain : Sector)
  | line (l : LineId) (words : List DWord)
  | pass (q : MnReq)
  deriving DecidableEq, Repr

/-- A write sent on an MS port and not yet acknowledged (R72, R75). -/
structure MsWr where
  group : Nat
  port : Nat
  tag : Nat
  /-- Address, granules, data and byte enables of the request; a request with tag 1,024 waits for a tag (R70). -/
  addr : Nat
  granules : Nat
  data : Sector
  be : BitVec 256
  what : MsData
  deriving DecidableEq, Repr

/-- A pass-through write held behind the horizon (R224). -/
structure NorthWr where
  q : MnReq
  data : Sector
  be : BitVec 256
  part : Nat
  stamp : Nat
  deriving DecidableEq, Repr

/-- Sector groups: protection and sealed arithmetic (chapters 2, 5, 6). -/
structure Sg where
  /-- The anchor table, 2,097,152 entries of 96 bits; R197 R201; reset Unowned. -/
  anchors : Tab Anchor
  /-- The metadata cache, most recently used first; R203 R204; reset empty. -/
  mdc : List Line
  /-- Accesses in flight, oldest first (the unverified sets); R222 R227; reset none. -/
  accs : List Acc
  /-- Next access number; the model's own; reset 0. -/
  nextAcc : Nat
  /-- MS reads outstanding; R69 R70; reset none. -/
  rds : List MsRd
  /-- MS writes not yet acknowledged, oldest first; R72 R75; reset none. -/
  wr : List MsWr
  /-- The plot cache: plot numbers, most recently used first, at most 16,384; R215; reset empty. -/
  plotCache : List Nat
  /-- Merge buffers, most recently used first, 512 entries per group; R249; reset empty. -/
  merge : List MEntry
  /-- Operations waiting for a merge entry, oldest first; R249; reset none. -/
  saQ : List SaWait
  /-- Pass-through writes held, 64 per group; R224 R225; reset none. -/
  north : List NorthWr
  /-- Groups whose arithmetic unit admits nothing more, 8 bits; R258; reset 0. -/
  saStop : BitVec 8
  /-- SGn_SA_STATUS.RES_RETRIES per group, 8 bits; R257; reset 0. -/
  retries : Tab Nat
  /-- SGn_PMODE.VBR, 16 bits, the same in every group; R221; reset 0. -/
  vbr : BitVec 16
  /-- SGn_SA_PCFGp: SEED_SLOT where SEED_VALID, per partition, the same in every group; R247 R248; reset none. -/
  seed : Tab (Option Nat)
  /-- SGn_SA_STEPp, 32 bits per partition, the same in every group; R247 R248; reset 0. -/
  step : Tab Word
  /-- The stamp clock, 64 bits; R222; reset 0. -/
  clk : Nat
  deriving DecidableEq, Repr

/-- A gating unit (R293). -/
structure GUnit where
  awake : Bool
  /-- Position of its oldest waiting request, if any (R296). -/
  demand : Option Nat
  deriving DecidableEq, Repr

/-- Sharing and power (chapter 7). -/
structure Share where
  /-- GLB_CACHE_WAYSp.MDC, 16 bits per partition; R286; reset 0xFFFF. -/
  mdc : Tab (BitVec 16)
  /-- GLB_CACHE_WAYSp.DKC, 16 bits per partition; R286; reset 0xFFFF. -/
  dkc : Tab (BitVec 16)
  /-- MDC ways a strict partition took from a non-strict mask: (strict, other, ways); R287; reset none. -/
  taken : List (Nat × Nat × BitVec 16 × BitVec 16)
  /-- SGn_PSHAREp.STRICT per partition, the same in every group; R279; reset false. -/
  strict : Tab Bool
  /-- SGn_PSHAREp.MERGE, 8 bits; R285; reset 0. -/
  merge : Tab Nat
  /-- SGn_PSHAREp.ALLOT, 7 bits; R279; reset 0. -/
  allot : Tab Nat
  /-- SGn_PSHAREp.WEIGHT in force, 8 bits; R281; reset 1. -/
  weight : Tab Nat
  /-- WEIGHT awaiting its commit point, key 16 n + p; R284; reset none. -/
  weightNew : Tab (Option Nat)
  /-- Deficit counters, per group and partition (key 16 n + p); R281 R284; reset 0. -/
  deficit : Tab Nat
  /-- Gating units by number; R293 R294; reset gated, no demand. -/
  units : Tab GUnit
  /-- Weight that began to wake, and to gate, in the current window; R295; reset 0. -/
  winWake : Nat
  /-- Weight that began to gate in the current window; R295; reset 0. -/
  winGate : Nat
  deriving DecidableEq, Repr

/-- An outstanding remote operation of a requester (R270, R383). -/
structure RemOp where
  part : Nat
  p : Pend
  query : Bool
  op : Nat
  attr : BitVec 8
  dst : Nat
  txid : Word
  issue : Nat
  obj : Nat
  gen : Nat
  offset : Nat
  data : List Byte
  /-- Queries already sent (R383). -/
  sent : Nat
  /-- Source object referenced until the end (R403): its ID. -/
  src : Option Nat
  deriving DecidableEq, Repr

/-- A contribution awaiting its acknowledgement (R384). -/
structure ContribOp where
  part : Nat
  p : Pend
  c : Contrib
  sw : Nat
  data : List Byte
  src : Nat
  deriving DecidableEq, Repr

/-- A response memo entry (R271). -/
structure Memo where
  domain : DWord
  src : Nat
  txid : Word
  issue : Nat
  exec : Nat
  status : Status
  result : BitVec 128
  executed : Bool
  deriving DecidableEq, Repr

/-- An accumulator of the reduction pool (R259): 320 bits and three flags. -/
structure Accum where
  v : BitVec 320
  nan : Bool
  pinf : Bool
  ninf : Bool
  deriving DecidableEq, Repr

/-- An open reduction (R261). -/
structure Reduction where
  part : Nat
  hdr : Contrib
  accs : List Accum
  /-- Contributions applied: (CIDX, CHUNK). -/
  ledger : List (Nat × Nat)
  /-- Contributors by member number, with their CIDX. -/
  members : List (Nat × Nat)
  /-- Chunks sent, with the destinations that still owe an acknowledgement, the status sent and the domain time of the first send. -/
  sent : List (Nat × List Nat × Status × Nat)
  /-- Chunks complete. -/
  done : List Nat
  /-- The reduction was ended (R266). -/
  ended : Bool
  deriving DecidableEq, Repr

/-- A result ledger entry (R267). -/
structure ResLed where
  domain : DWord
  sw : Nat
  rid : Word
  chunk : Nat
  status : Status
  deriving DecidableEq, Repr

/-- A remote read or write that an M-instance is serving, or a result chunk that is being applied, sector by sector
(R267, R313). -/
structure RwServe where
  no : Nat
  part : Nat
  domain : DWord
  r : RwReq
  /-- Protected accesses still to come. -/
  left : Nat
  st : Status
  /-- Bytes read: offset within the request, bytes. -/
  got : List (Nat × List Byte)
  /-- The result chunk: sending S-member and header. -/
  res : Option (Nat × Contrib)
  deriving DecidableEq, Repr

/-- Remote operations, response memo, reductions (chapter 6). -/
structure Rem where
  /-- Outstanding remote atomics and queries, at most 65,536; R270; reset none. -/
  ops : List RemOp
  /-- Contributions awaiting acknowledgement; R384; reset none. -/
  contribs : List ContribOp
  /-- Remote operations that completed without their reply, for the record of a late one: (partition, TXID, command);
  R420 R492; reset none. -/
  past : List (Nat × Word × Pend)
  /-- Contributions that completed without their acknowledgement: (partition, header, command); R420 R492; reset none. -/
  pastC : List (Nat × Contrib × Pend)
  /-- Remote reads and writes being served; R313; reset none. -/
  serves : List RwServe
  /-- Remote reads and writes served so far; the model's own; reset 0. -/
  serveNo : Nat
  /-- SG0_SA_RATM_STATUS.INDET, 8 bits; R270; reset 0. -/
  indet : Nat
  /-- The response memo, at most 262,144; R271; reset none. -/
  memo : List Memo
  /-- SG0_MEMO_REFUSED.LATE, 16 bits; R272; reset 0. -/
  late : Nat
  /-- SG0_MEMO_REFUSED.FULL, 16 bits; R272; reset 0. -/
  full : Nat
  /-- Open reductions, at most 1,024; R259; reset none. -/
  pool : List Reduction
  /-- RP_RETRY.GIVEN_UP, 16 bits; R267; reset 0. -/
  givenUp : Nat
  /-- RP_LEDGER.RES_RETRIES, 8 bits; R257; reset 0. -/
  rpRetries : Nat
  /-- The result ledger, at most 16,384; R267; reset none. -/
  resLed : List ResLed
  deriving DecidableEq, Repr

/-- A link session (R298 to R302, R308, R309, R319). STATE codes: 0 DOWN, 1 SETUP, 2 OPENING, 3 OPEN, 4 CLOSING. -/
structure Sess where
  /-- State code, 3 bits (R301). -/
  st : Nat
  /-- Failed set-up attempts since the last OPEN, 4 bits (R302). -/
  attempts : Nat
  /-- A set-up back-off is running (R302). -/
  backoff : Bool
  /-- Own receive index, 16 bits (R299). -/
  rxIdx : Nat
  /-- The peer's receive index (R299). -/
  peerIdx : Nat
  /-- Peer member number (R301). -/
  peer : Nat
  /-- The peer's port, for the epoch-0 context (R157). -/
  peerPort : Nat
  /-- The own OPEN has been sent. -/
  sentOpen : Bool
  /-- The peer's OPEN has been verified. -/
  gotOpen : Bool
  /-- A CLOSE has been sent. -/
  sentClose : Bool
  /-- A CLOSE has been received. -/
  gotClose : Bool
  /-- SPDM mutual authentication is complete (R302). -/
  authed : Bool
  /-- Next transmit sequence number, 64 bits (R308). -/
  txSeq : Nat
  /-- Transmit epoch, 32 bits (R319). -/
  txEp : Nat
  /-- Oldest receive epoch held, 32 bits (R319). -/
  rxEp : Nat
  /-- The handover to the next receive epoch has begun (R321). -/
  rxNew : Bool
  /-- Frames sealed in the transmit epoch (R320). -/
  epCnt : Nat
  /-- Domain time of the last epoch change (R320). -/
  epAt : Option Nat
  /-- A deferred epoch change (R320). -/
  epWait : Bool
  /-- A frame has been verified: H is defined (R309). -/
  hSeen : Bool
  /-- Domain time at which the last frame verified (R316, R317). -/
  lastRx : Nat
  /-- H, 64 bits (R309). -/
  hTop : Nat
  /-- Bitmap of the 4,096 numbers up to H; bit i is number H - i (R309). -/
  hMap : BitVec 4096
  /-- Link slots held, in the order tx, tx next, rx, rx next, flow seed, flow key, flow key next, SPDM (R300). -/
  slots : List Nat
  /-- Features in force (R455). -/
  features : Nat
  /-- Check 4 of R441 waits for the amendments that AMEND_FETCH brings (R445). -/
  fetched : Bool
  /-- The link fell while the session was OPEN: MEMBER_LOST is due when the timeout expires (R317). -/
  lossDue : Bool
  /-- Slot of the key-exchange seed of a set-up that the block requests (R146). -/
  hand : List Nat
  deriving DecidableEq, Repr

/-- A flow-table entry (R325). -/
structure Flow where
  flow : BitVec 128
  r : Nat
  /-- Outstanding request frames. -/
  out : Nat
  deriving DecidableEq, Repr

/-- A frame in the egress queue (R224): the frame, its egress stamp, whether it has left the horizon gate. -/
structure EgItem where
  f : EgFrame
  stamp : Nat
  free : Bool
  /-- It waits for a flow entry (R325). -/
  flowWait : Bool
  /-- It waits for room in the hold buffer, before its admission to the queue (R225). -/
  out : Bool
  /-- A STOP held it, and it is to be sealed before CSTOP falls (R140). -/
  held : Bool
  deriving DecidableEq, Repr

/-- A sealed frame that has not finished its transfer on FPk_TX (R76, R314): beats still to go, whether its SOF beat is among them, and
the label of an event frame. -/
structure TxOut where
  beats : Nat
  sof : Bool
  label : Option Nat
  deriving DecidableEq, Repr

/-- A link port (R314, R323 to R332). -/
structure Port where
  /-- Counter of receive indices (R299). -/
  nextIdx : Nat
  /-- The egress queue. -/
  q : List EgItem
  /-- Class-0 credit in bytes, signed (R328). -/
  credit : Int
  /-- Tokens of classes 1 to 6, in hundredths of a byte (R329). -/
  tokens : Tab Nat
  /-- Session served last, per class (R327). -/
  rr : Tab Nat
  /-- Sealed frames that have not finished their transfer, at most 16 (R314). -/
  txq : List TxOut
  /-- Picking is stopped (R314). -/
  stalled : Bool
  /-- Newest re-salt count (R326). -/
  salt : Nat
  /-- Flow table (R325). -/
  flows : List Flow
  /-- FLOW_STATUS.SKIPPED (R326). -/
  skipped : Nat
  /-- Frames that waited for a flow entry (R325). -/
  waits : Nat
  /-- Session that sends the next cover frame (R332). -/
  coverTurn : Nat
  /-- SPDM carriage being reassembled: target, offset reached, message length, bytes (R434). -/
  carr : Option (Nat × Nat × Nat × List Byte)
  deriving DecidableEq, Repr

/-- Sealed fabric links (chapter 8). -/
structure Lnk where
  /-- Ports; R298; reset: empty queues. -/
  ports : Tab Port
  /-- Sessions, key 17 k + i (i = 0 block-owned, 1 + p partition p); R298 R301; reset DOWN. -/
  sess : Tab Sess
  /-- Member-lost notices already handled: (partition, lost member, DT); R318; reset none. -/
  seenLost : List (Nat × Nat × Nat)
  deriving DecidableEq, Repr

/-- A stream of a host port (R340, R341). Key sets: per sub-stream and direction, slot of set 0 and 1, set in use. -/
structure IdeKeys where
  set0 : Option Nat
  set1 : Option Nat
  /-- Set put in use by K_SET_GO. -/
  go : Option Nat
  /-- Sets between their K_SET_GO and their K_SET_STOP (R341). -/
  used : List Nat
  deriving DecidableEq, Repr

/-- A translation-cache entry (R351). -/
structure Atc where
  part : Nat
  pasid : Option Nat
  va : Nat
  pa : Nat
  /-- Page size in bytes. -/
  size : Nat
  /-- Pages, 1 to 64. -/
  pages : Nat
  r : Bool
  w : Bool
  priv : Bool
  exe : Bool
  n : Bool
  u : Bool
  /-- The Global flag: the entry holds for every PASID. -/
  global : Bool
  deriving DecidableEq, Repr

/-- An outstanding Translation Request (R353). -/
structure TrReq where
  h : Nat
  tag : Nat
  part : Nat
  pasid : Option Nat
  va : Nat
  stale : Bool
  deriving DecidableEq, Repr

/-- An outstanding page request (R356). -/
structure PrReq where
  prg : Nat
  h : Nat
  part : Nat
  pasid : Option Nat
  va : Nat
  deriving DecidableEq, Repr

/-- A tile (R357 to R362). STATE codes: 0 FREE, 1 ADMITTING, 2 ADMITTED, 3 FAULTED. -/
structure Tile where
  st : Nat
  h : Nat
  ctx : Nat
  pasid : Option Nat
  rd : Bool
  wr : Bool
  base : Nat
  rowBytes : Nat
  pitch : Nat
  rows : Nat
  /-- TLPs held, in order, each with its stamp (R224). -/
  held : List (Tlp × Nat)
  /-- Reads sent and not completed: tag, virtual address, length. -/
  reads : List (Nat × Nat × Nat)
  /-- Bytes sent (R355). -/
  sent : Nat
  /-- Order of opening (R360). -/
  born : Nat
  /-- A close waits for the tile's last TLP (R362). -/
  closing : Bool
  deriving DecidableEq, Repr

/-- A TLP held behind the horizon (R224). -/
structure HeldTlp where
  h : Nat
  t : Tlp
  /-- The partition; none for a TLP of the host driver. -/
  part : Option Nat
  stamp : Nat
  /-- The horizon holds it (R224); another waits behind a held one that it may not pass (R337). -/
  gated : Bool
  /-- The tile it belongs to. -/
  tile : Option Nat
  deriving DecidableEq, Repr

/-- A trusted device interface (R334, R348): STATE, bound stream, RX_REFUSED. -/
structure Tdi where
  st : Nat
  stream : Nat
  refused : Nat
  ideOpt : Bool
  /-- Memory ranges as LOCK_INTERFACE_REQUEST locked them (R347). -/
  locked : List (Nat × Nat)
  deriving DecidableEq, Repr

/-- Host ports, IDE and translation (chapter 9). -/
structure Hst where
  /-- TDIs per partition (HST_TDI_STATEp); R348; reset CONFIG_UNLOCKED. -/
  tdi : Tab Tdi
  /-- Streams, key 8 h + s; R340; reset unconfigured. -/
  streams : Tab Stream
  /-- Key sets, key ((8 h + s) * 3 + sub-stream) * 2 + direction; R341; reset none. -/
  keys : Tab IdeKeys
  /-- DOE object in progress per port: protocol and length; R345; reset none. -/
  doe : Tab (Option (Nat × Nat))
  /-- The translation cache, most recently used first, at most 8,192; R351; reset empty. -/
  atc : List Atc
  /-- Translation Requests outstanding; R353; reset none. -/
  trs : List TrReq
  /-- Page requests outstanding; R356; reset none. -/
  prs : List PrReq
  /-- Functions (partitions) whose page requests are disabled; R356; reset none. -/
  priOff : List Nat
  /-- Invalidate Requests outstanding: port, ITag, reads they wait for; R354; reset none. -/
  invs : List (Nat × Nat × List Nat)
  /-- Tiles, key 16 p + t; R357; reset FREE. -/
  tiles : Tab Tile
  /-- Tiles opened so far (their order); the model's own; reset 0. -/
  tileNo : Nat
  /-- TLPs held behind the horizon; R224; reset none. -/
  held : List HeldTlp
  /-- Page requests that wait for an index: port, partition, PASID, page; R356; reset none. -/
  prWait : List (Nat × Nat × Option Nat × Nat)
  /-- Reads of faulted tiles whose completion is to be discarded: port, tag; R361; reset none. -/
  aborted : List (Nat × Nat)
  /-- DOE and IDE capability registers written through configuration requests: (port, offset, word); R339; reset none. -/
  cfg : List (Nat × Nat × Word)
  /-- TLPs sealed under the transmit keys in use, by the key of `keys`; R340 R341; reset 0. -/
  ideSent : Tab Nat
  deriving DecidableEq, Repr

/-- A command queue (R366 to R370). -/
structure Queue where
  valid : Bool
  /-- Owner: 1 HOST, 3 DEVICE (R366). -/
  owner : Nat
  log2 : Nat
  sq : Nat
  rq : Nat
  /-- Next submission entry to be read. -/
  head : Nat
  /-- TAIL of the last accepted doorbell. -/
  tail : Nat
  /-- Reply entry the block writes next. -/
  rTail : Nat
  /-- Reply entries in use (written and not released). -/
  rUsed : Nat
  /-- Reply-ring head as software reported it. -/
  rHead : Nat
  phase : Bool
  reserved : Nat
  /-- Admission hold (CMD_Q_STATE.WAIT). -/
  wait : Nat
  destroying : Bool
  discarded : Nat
  /-- The command that destroys the queue. -/
  killer : Option Pend
  /-- It holds references on its ring objects (R367). -/
  rings : Bool
  deriving DecidableEq, Repr

/-- A secured session (R433, R453). -/
structure Secured where
  sid : Nat
  t : Transport
  /-- Requester's leaf digest and the root of its chain. -/
  leaf : Digest
  root : Digest
  /-- FINISH has completed. -/
  live : Bool
  /-- Slots of the session's secrets (R433). -/
  slots : List Nat
  /-- Slots of the set-up: key-exchange seed, handshake secret, and on a link the session's secret (R146). -/
  hand : List Nat
  /-- Order of establishment (R522). -/
  born : Nat
  /-- Records that the block has sealed in the session (R380, R522). -/
  seq : Nat
  /-- Partition whose TDI was locked in the session (R439). -/
  tdi : Option Nat
  deriving DecidableEq, Repr

/-- A status reply as written (R373). -/
structure Reply where
  opcode : Nat
  status : Status
  final : Bool
  path : Path
  ctx : Nat
  sqHead : Nat
  seq : Word
  part : Nat
  detail : Nat
  phase : Bool
  x : BitVec 16
  result : BitVec 128
  trailer : List Byte
  /-- Where a reply in a ring is written; 0 outside rings. -/
  ringAt : Nat
  /-- The ring is of a DEVICE-owned queue: the write is a protected access (R367). -/
  dev : Bool
  deriving DecidableEq, Repr

/-- A frame as sealed and offered on FPk_TX (R305): header fields and payload. -/
structure TxFrame where
  port : Nat
  sess : Nat
  epoch : Nat
  tc : Nat
  flags : BitVec 9
  seq : Nat
  stamp : Nat
  entropy : BitVec 16
  payload : List Byte
  deriving DecidableEq, Repr

/-- What the block puts out at its ports. -/
inductive Out where
  /-- CTL_D (R82). -/
  | ctl (rdata : DWord) (err : Bool)
  /-- DBG_D (R85). -/
  | dbg (rdata : DWord) (err : Bool)
  /-- Beats on MN D: group, port, tag, data, status, KIND, and whether the last of them carries LAST (R69); a write acknowledgement is
  one beat of zeros. -/
  | mnD (group port tag : Nat) (beats : List Beat) (st : Status) (ack last : Bool)
  /-- MS Q (and W) request: group, port, address, granules, tag, CTX, ATTR, data to write (R69): OP is 1 with data and 0 without. -/
  | msQ (group port addr granules tag ctx attr : Nat) (wdata : Option (Sector × BitVec 256))
  /-- Frame sealed (R305). -/
  | frame (f : TxFrame)
  /-- Reply written to a ring, mailbox or record (R373). -/
  | reply (r : Reply)
  /-- Protocol response on a transport (R431). -/
  | resp (t : Transport) (r : Resp)
  /-- Request of the block's own on an SPDM transport: 0 session set-up (R302), 1 END_SESSION (R429). -/
  | req (t : Transport) (what : Nat)
  /-- VMR request of the block's own: AMEND or AMEND_FETCH with its payload (R435, R445). -/
  | vmrReq (t : Transport) (payload : List Byte)
  /-- The block's own exchange data in a KEY_EXCHANGE that it sends (R158). -/
  | exchange (t : Transport) (bytes : List Byte)
  /-- TLP leaving HCh_TXC (side 0), HCh_RXP (1), or completion made by the block (2). -/
  | tlp (h side : Nat) (t : Tlp)
  /-- Translation Request: port, tag, address (R353). -/
  | transReq (h tag va : Nat)
  /-- Page Request: port, PRG index, address (R356). -/
  | pageReq (h prg va : Nat)
  /-- Invalidation Completion (R354). -/
  | invCpl (h itag : Nat)
  /-- MCTP control response (R452): command code and body. -/
  | mctp (cmd : Nat) (body : List Byte)
  /-- Power-cycle message body (R500). -/
  | pwrMsg (body : List Byte)
  /-- Hot-Join request on the management bus (R451). -/
  | hotJoin
  /-- Fuse program operation: word, bit (R461). -/
  | fusePgm (w b : Nat)
  /-- Erase of the flash user area (R470). -/
  | flashErase
  /-- Press records written to the log: first SEQ, count (R527). -/
  | flashPress (first : Word) (n : Nat)
  /-- PTP message sent on a port (R110). -/
  | ptp (k : Nat) (m : PtpKind)
  /-- Record of a secured session, sealed, written through the command DMA master: partition, address, bytes (R380). -/
  | record (p addr : Nat) (bytes : List Byte)
  /-- In-band interrupt on the management bus, with its data byte: a response is pending (R93, R452). -/
  | ibi (data : Byte)
  /-- Provisional ID given in the ENTDAA procedure (R93, R451). -/
  | provisionalId (id : BitVec 48)
  /-- Dump record written through the command DMA master: partition, address, the sealed bytes (R522). -/
  | dump (p addr : Nat) (bytes : List Byte)
  /-- Trace sector written (protected write): partition, ring, first SEQ, count (R514). -/
  | trace (p ring first n : Nat)
  /-- Fault record written to the context object: context, slot (R419). -/
  | faultRec (ctx slot : Nat)
  /-- Completion of a configuration request (R339): value read. -/
  | cfgCpl (h : Nat) (data : Word)
  deriving DecidableEq, Repr

/-- A carried record in progress (R380): outer command, session, where the reply goes. -/
structure CarryOp where
  id : Nat
  p : Pend
  sid : Nat
  rplAddr : Nat
  rplLen : Nat
  deriving DecidableEq, Repr

/-- The command processor (chapter 10). -/
structure Cmd where
  /-- Queues: host queue n under n, queue q of context c under 16 + 8 c + q; R366; reset none. -/
  queues : Tab Queue
  /-- Commands admitted that have not sent their final reply; R377 R378; reset none. -/
  inflight : List Pend
  /-- Secured sessions; R433; reset none. -/
  sessions : List Secured
  /-- Sessions established so far; the model's own; reset 0. -/
  sessNo : Nat
  /-- Stored mailbox replies: (session, reply), oldest first, 16 per session; R381; reset none. -/
  stored : List (Nat × Reply)
  /-- CARRY records in progress; R380; reset none. -/
  carries : List CarryOp
  /-- CARRY records so far; the model's own; reset 0. -/
  carryNo : Nat
  /-- Staged manifests, stages 1 to 4; R387; reset none. -/
  stages : Tab (Option Manifest)
  /-- CMD_DB_ERR: context, ORIGIN, PART, QUEUE, reason; R369; reset 0. -/
  dbErr : Nat × Nat × Nat × Nat × Nat
  /-- Writes queued on the command DMA master and held: (partition, stamp, write); R224 R225; reset none. -/
  cdm : List (Nat × Nat × Out)
  /-- Writes that their units hold back while 64 are held: (partition, write), oldest first; R225; reset none. -/
  cdmWait : List (Nat × Out)
  deriving DecidableEq, Repr

/-- A fault record (R419). -/
structure FaultRec where
  kind : Nat
  phase : Bool
  status : Status
  ctx : Nat
  part : Nat
  isPartial : Bool
  detail : Nat
  stamp : Nat
  addr : Nat
  info : DWord
  deriving DecidableEq, Repr

/-- Overflow state of a fault queue (R422). -/
structure Ovf where
  count : Nat
  first : Nat
  last : Nat
  kinds : Word
  status : Status
  deriving DecidableEq, Repr

/-- A context (R392 to R394). STATE codes: 0 FREE, 1 LIVE, 2 FAULT_STALL, 3 TEARDOWN. -/
structure Ctx where
  st : Nat
  resident : Bool
  part : Nat
  pasid : Option Nat
  /-- Object ID of the context object. -/
  obj : Nat
  /-- Host address of the context object. -/
  base : Nat
  /-- Last use, for the choice of a victim (R37). -/
  used : Nat
  /-- Fault queue: records by slot, HEAD, TAIL, COUNT, PHASE (R419). -/
  recs : Tab FaultRec
  fqHead : Nat
  fqTail : Nat
  fqCount : Nat
  fqPhase : Bool
  ovf : Option Ovf
  /-- The mark (R518). -/
  layer : Nat
  op : Nat
  /-- A context reset is draining it (R494). -/
  resetting : Bool
  deriving DecidableEq, Repr

/-- An object-table entry (R396) with its pins (R403). STATE codes: 0 FREE, 1 LIVE, 2 FREEING, 3 WITHDRAWN. -/
structure Obj where
  st : Nat
  gen : Nat
  plots : Nat
  shared : Bool
  system : Bool
  first : Nat
  owner : Nat
  created : Nat
  /-- References of admitted commands (R403). -/
  refs : Nat
  /-- The OBJ_FREE that waits for retirement (R404). -/
  free : Option Pend
  deriving DecidableEq, Repr

/-- A plot-table entry (R396). -/
structure Plot where
  bound : Bool
  obj : Nat
  gen : Nat
  system : Bool
  deriving DecidableEq, Repr

/-- A fence (R406 to R413). -/
structure Fence where
  used : Bool
  signalled : Bool
  payload : Nat
  part : Nat
  /-- Owning or claiming context; 0xFFFF for none. -/
  owner : Nat
  shares : List Nat
  /-- Fence epoch of a domain fence. -/
  epoch : Word
  deriving DecidableEq, Repr

/-- An allocation doorbell slot (R401). -/
structure Adb where
  plots : Nat
  shared : Bool
  ctx : Nat
  obj : Nat
  gen : Nat
  status : Status
  addr : Nat
  deriving DecidableEq, Repr

/-- Contexts, objects, fences and faults (chapter 11). -/
structure ObjU where
  /-- Contexts by number; R392; reset FREE. -/
  ctxs : Tab Ctx
  /-- Fault records waiting on the block for a context restore, each with its context; R421; reset none. -/
  waiting : List (Nat × FaultRec)
  /-- NEXT_ID per partition; R395; reset 1 (DESIGN CHOICE, log entry 8). -/
  nextId : Tab Nat
  /-- PT_FIRST per partition, 40 bits (OBJ_PCFGp); R395; reset 0. -/
  ptFirst : Tab Nat
  /-- PT_COUNT per partition, 25 bits (OBJ_PCNTp); R395; reset 0. -/
  ptCount : Tab Nat
  /-- Object tables, key 2^25 p + i; R396; reset FREE. -/
  objs : Tab Obj
  /-- Plot tables by plot number; R396; reset unbound. -/
  plots : Tab Plot
  /-- Local fences by number, 61,440; R406; reset FREE. -/
  fences : Tab Fence
  /-- Freed local fence numbers, the one freed longest ago first; R408; reset none. -/
  freed : List Nat
  /-- Lowest never-used local fence number; R408; reset 0. -/
  fenceNext : Nat
  /-- Domain fences, key 4096 p + i; R410; reset UNSIGNALLED at epoch 0. -/
  dfences : Tab Fence
  /-- Next OSEQ per partition; R412; reset 0. -/
  oseq : Tab Word
  /-- Domain fence frames already handled: (partition, ORIGIN, OSEQ); R412; reset none. -/
  seenFence : List (Nat × Nat × Word)
  /-- FENCE_WAIT commands that wait: (partition, fence number, command); R409; reset none. -/
  waits : List (Nat × Nat × Pend)
  /-- Allocation doorbell slots, key 64 p + s; R401; reset 0. -/
  adbs : Tab Adb
  /-- Teardowns in progress: context, command; R417; reset none. -/
  tear : List (Nat × Pend)
  deriving DecidableEq, Repr

/-- A partition (R38, R386, R439, R446, R493). -/
structure Part where
  /-- State code, 3 bits; R38; reset 0 FREE. -/
  st : Nat
  /-- State held before the fence; R39 R493; reset 0. -/
  before : Nat
  /-- Resets that hold the fence, a count; R493; reset 0. -/
  holds : Nat
  /-- Fence instant; R492; reset 0. -/
  fenceAt : Nat
  /-- DT of the last entry to JOINED; R442; reset 0. -/
  joinedAt : Nat
  /-- Own member number, 14 bits; R27 R439; reset 0x3FFF. -/
  member : Nat
  /-- Manifest in force; R439; reset none. -/
  man : Option Manifest
  /-- The last 8 amendments; R445; reset none. -/
  amends : List Amendment
  /-- Members recorded lost; R318; reset none. -/
  lost : List Nat
  /-- Member-table entries are loaded (R442); reset false. -/
  loaded : Bool
  /-- VM_ASSIGN of the policy; R440; reset false. -/
  vmAssign : Bool
  /-- Memory slot; R386; reset 0. -/
  slot : Nat
  /-- PBASE; R386; reset 0. -/
  pbase : Nat
  /-- PSIZE; R386; reset 0. -/
  psize : Nat
  /-- OT_PLOTS; R386; reset 0. -/
  otPlots : Nat
  /-- Ranges added by REGION_ADD: (base, size); R386 R446; reset none. -/
  added : List (Nat × Nat)
  /-- TXID counter; R270; reset 0. -/
  txid : Word
  /-- Flash reserved for the rejoin record, in bytes; R447; reset 0. -/
  reserved : Nat
  /-- Scrub step in progress, 0 none to 4; R502; reset 0. -/
  scrub : Nat
  /-- ZERO_FILL of the release; R502; reset false. -/
  zeroFill : Bool
  /-- Slot Z of the zero-fill; R502; reset none. -/
  zslot : Option Nat
  /-- Entries still to be zero-filled; R502; reset none. -/
  zero : List Nat
  /-- A scrub waits for the fence and the engine resets; R501; reset false. -/
  wantScrub : Bool
  /-- Commands answered when the scrub ends; R501 R504; reset none. -/
  rels : List Pend
  deriving DecidableEq, Repr

/-- A rejoin record in private flash (R446). -/
structure Rejoin where
  man : Option Manifest
  amends : List Amendment
  policy : BitVec 3
  strict : Bool
  allot : Nat
  merge : Nat
  weight : Nat
  mdc : BitVec 16
  dkc : BitVec 16
  pbase : Nat
  psize : Nat
  otPlots : Nat
  added : List (Nat × Nat)
  lcAt : Nat
  deriving DecidableEq, Repr

/-- Partitions, attestation, flash and management (chapters 1 and 12). -/
structure Att where
  /-- Partitions, 16; R32 R38; reset FREE. -/
  parts : Tab Part
  /-- DevID chain of slot 0 in flash; R427; reset none. -/
  chain : Option CertChain
  /-- The alias certificate has been issued, 1 bit; R426; reset false. -/
  aliasCert : Bool
  /-- Fabric roots besides Yarrel's, at most 3; R428; reset none. -/
  fabricRoots : List Digest
  /-- Management roots, at most 4; R428; reset none. -/
  mgmtRoots : List Digest
  /-- Measurement registers, 16 of 384 bits; R96 R429; reset 48 zero bytes. -/
  meas : Tab Digest
  /-- MEAS_LOCK has risen since the last reset, 1 bit; R96; reset false. -/
  measLock : Bool
  /-- Transfers discarded after lock, 16 bits; R429; reset 0. -/
  discards : Nat
  /-- Rejoin records in flash, per partition; R446; reset none. -/
  rejoin : Tab (Option Rejoin)
  /-- Size of the flash device in MiB as identified, 0 when none answers; R95 R447; reset none: not identified yet. -/
  flash : Option Nat
  /-- Dynamic I3C address; R451; reset none. -/
  i3cAddr : Option Nat
  /-- A Hot-Join request is due, 1 bit; R451; reset true (after every reset). -/
  hotJoin : Bool
  /-- Maximum write length in bytes; R451; reset 64 (DESIGN CHOICE, log entry 9). -/
  maxWrite : Nat
  /-- Maximum read length in bytes; R451; reset 64 (DESIGN CHOICE, log entry 9). -/
  maxRead : Nat
  /-- Endpoint ID with the endpoint that assigned it; R452; reset none. -/
  eid : Option (Nat × Nat)
  /-- SPDM transports on which version 1.3 and the algorithms were negotiated; R431; reset none. -/
  negotiated : List Transport
  deriving DecidableEq, Repr

/-- A reset step in progress (R494 to R497). -/
inductive Step where
  | context (c : Nat) (p : Option Pend)
  | engine (e q : Nat) (acked : Bool) (ps : List Pend) (forPart : Bool)
  | unitGroup (n : Nat)
  | partition (q : Nat)
  | chip
  deriving DecidableEq, Repr

/-- Reset units and escalation (chapter 14). -/
structure Rst where
  /-- Reset steps in progress; R490 R496; reset none. -/
  steps : List Step
  /-- RST_WDOG.REMAIN, 16 bits; R481; reset 1,000. -/
  remain : Nat
  /-- RST_WDOG.TIMEOUT, 16 bits; R481; reset 1,000. -/
  timeout : Nat
  deriving DecidableEq, Repr

/-- A trace record (R512). -/
structure TraceRec where
  kind : Nat
  status : Nat
  cfgn : Nat
  ids : Bool
  seq : Word
  stamp : Nat
  addr : DWord
  info : DWord
  ctx : Nat
  deriving DecidableEq, Repr

/-- A trace ring (R509 to R516). STATE codes: 0 OFF, 1 STOPPED, 2 RUNNING, 3 POST, 4 FULL, 5 FROZEN. -/
structure Ring where
  st : Nat
  base : Nat
  log2 : Nat
  mode : Nat
  post : Nat
  ids : Bool
  cfgn : Nat
  seq : Nat
  trig : Word
  ignored : Nat
  drops : Nat
  /-- Drop state: records discarded since the last drop record, with first and last stamp. -/
  dropRun : Option (Nat × Nat × Nat)
  /-- Records still to be written in POST. -/
  left : Nat
  /-- Records formed and not written, with the stamp clock at which each was formed (R224), at most 64. -/
  staged : List (TraceRec × Nat)
  /-- Records of the current sector that have been written already (R514). -/
  wrote : List TraceRec
  /-- 64 us have passed with no record added: the records staged are to be written (R514). -/
  due : Bool
  /-- Object that holds the ring. -/
  obj : Nat
  deriving DecidableEq, Repr

/-- A tensor registration (R519). -/
structure Tensor where
  name : Word
  base : Nat
  len : Nat
  obj : Nat
  gen : Nat
  deriving DecidableEq, Repr

/-- A dump that has fired (R520): entry, name, step, whether its step has been reached, and, once capturing, session, next
chunk. -/
structure Dump where
  part : Nat
  idx : Nat
  name : Word
  step : Word
  due : Bool
  cap : Option (Tensor × Nat × Nat)
  deriving DecidableEq, Repr

/-- A press record (R525). -/
structure Press where
  source : Nat
  status : Status
  part : Option Nat
  freeze : Bool
  clock : Bool
  seq : Word
  stamp : Nat
  addr : Nat
  info : DWord
  deriving DecidableEq, Repr

/-- Counters, trace, dumps and the press record (chapter 15). -/
structure Obs where
  /-- Partition counters, key 32 p + i, 64 bits; R506; reset 0. -/
  cnt : Tab DWord
  /-- Q counters as last published, key 32 p + i; R507; reset 0. -/
  pub : Tab DWord
  /-- Global counters, 1,024 of 64 bits; R507; reset 0. -/
  glob : Tab DWord
  /-- Trace rings, key 4 p + r; R509; reset OFF. -/
  rings : Tab Ring
  /-- OBS_TRACE_SEL, key 4 p + r; R513; reset 0x0014_0DFF. -/
  sel : Tab Word
  /-- OBS_TRACE_IDX per partition, 2 bits; reset 0. -/
  ringIdx : Tab Nat
  /-- Accesses sampled for KIND 0x0A, per partition; R513; reset 0. -/
  samples : Tab Nat
  /-- Tensor registrations, (partition, registration); R519; reset none. -/
  tensors : List (Nat × Tensor)
  /-- Dumps fired and not ended, in firing order; R520; reset none. -/
  dumps : List Dump
  /-- OBS_DUMP_DONEp: RESULT, DUMPS, CHUNKS; R523; reset 0. -/
  dumpDone : Tab (Nat × Nat × Nat)
  /-- The press record ring by slot, 32,768 records; R524; retained; reset empty. -/
  press : Tab Press
  /-- OBS_PRESS_SEQ, 32 bits; R524; retained; reset 0. -/
  pressSeq : Word
  /-- OBS_PRESS_FLUSHED, 32 bits; R527; retained; reset 0. -/
  flushed : Word
  /-- Freeze causes in force: breach, reset, supply; R526; retained; reset none. -/
  frzBreach : Bool
  /-- Freeze cause reset; R526; reset false. -/
  frzReset : Bool
  /-- Freeze cause supply; R526; reset false. -/
  frzSupply : Bool
  /-- Records lost in the freeze in force; R526; reset 0. -/
  frzLost : Nat
  /-- The press log in flash, records by SEQ, newest first; R527; reset empty. -/
  log : List Press
  /-- Life-cycle state in which the log is sealed, 3 bits; R527; reset 0. -/
  logLc : Nat
  deriving DecidableEq, Repr

/-- The state of the block. -/
structure State where
  /-- Commands waiting, first in first out; the model's own; reset empty. -/
  pending : List Instr
  /-- What the last command put out; the model's own; reset empty (log entry 10). -/
  out : List Out
  /-- TREF edges counted; the model's own; reset 0 (log entry 3). -/
  tref : Nat
  /-- Index of the next free value; the model's own; reset 0 (log entry 2). -/
  fresh : Nat
  /-- Integration parameters. -/
  params : Params
  /-- The fuse area, 512 words of 32 bits; R94; OTP, reset blank (log entry 5). -/
  fuse : Tab Word
  regf : Regf
  pins : Pins
  boot : Boot
  dt : Dt
  key : Key
  sg : Sg
  share : Share
  rem : Rem
  lnk : Lnk
  hst : Hst
  cmd : Cmd
  obju : ObjU
  att : Att
  rst : Rst
  obs : Obs
  deriving DecidableEq, Repr

/-! What an unlisted entry of each table reads as. -/

/-- A PTP port of which nothing has been received. -/
def PtpPort.none : PtpPort :=
  { announced := false, steps := 0, locked := false, syncRx := Option.none, delay := 0, t1 := Option.none,
    t2 := Option.none, t4 := Option.none, txMarks := [], seq := 0 }

/-- A FREE schedule entry (R122). -/
def Sched.free : Sched :=
  { st := 0, instant := 0, period := 0, action := 0, part := 0, block := false, stagger := false, domain := false,
    late := false, missed := 0, id := 0, param := 0, origin := 0 }

/-- No STOP (R136). -/
def Stop.none : Stop :=
  { active := false, idx := 0, origin := 0, id := 0, cutAt := 0, since := 0, fence := 0, limit := 0, sent := [], got := [],
    complete := false, resume := Option.none, heldRx := [] }

/-- An EMPTY key slot (R141): every bit zero. -/
def Slot.empty : Slot :=
  { st := 0, part := 0, block := false, retain := false, meas := false, lcb := false, origin := 0, exportable := false,
    use := 0, value := 0, subkey := 0, created := 0, mAt := 0, lcAt := 0 }

/-- No re-seal (R169). -/
def Reseal.none : Reseal := { active := false, new := 0, old := 0, done := 0, p := Option.none }

/-- An Unowned anchor entry (R197, R201). -/
def Anchor.unowned : Anchor :=
  { counter := 0, part := 0, slot := 0, st := 0, err := 0, restoring := false, full := false }

/-- A gated unit without demand (R293). -/
def GUnit.gated : GUnit := { awake := false, demand := Option.none }

/-- A session in DOWN (R301). -/
def Sess.down : Sess :=
  { st := 0, attempts := 0, backoff := false, rxIdx := 0, peerIdx := 0, peer := 0, peerPort := 0, sentOpen := false,
    gotOpen := false, sentClose := false, gotClose := false, authed := false, txSeq := 0, txEp := 0, rxEp := 0,
    rxNew := false, epCnt := 0, epAt := Option.none, epWait := false, hSeen := false, lastRx := 0, hTop := 0, hMap := 0, slots := [],
    features := 0, fetched := false, lossDue := false, hand := [] }

/-- A port after reset (R299: indices start at 1; R329: buckets empty, log entry 11). -/
def Port.idle : Port :=
  { nextIdx := 1, q := [], credit := 0, tokens := [], rr := [], txq := [], stalled := false, salt := 0, flows := [],
    skipped := 0, waits := 0, coverTurn := 0, carr := Option.none }

/-- A TDI in CONFIG_UNLOCKED (R348). -/
def Tdi.unlocked : Tdi := { st := 0, stream := 0, refused := 0, ideOpt := false, locked := [] }

/-- An unconfigured stream (R340). -/
def Stream.none : Stream := { id := 0, part := 0, secure := false, rid := 0 }

/-- No key programmed (R341). -/
def IdeKeys.none : IdeKeys := { set0 := Option.none, set1 := Option.none, go := Option.none, used := [] }

/-- A FREE tile (R357). -/
def Tile.free : Tile :=
  { st := 0, h := 0, ctx := 0, pasid := none, rd := false, wr := false, base := 0, rowBytes := 0, pitch := 0, rows := 0,
    held := [], reads := [], sent := 0, born := 0, closing := false }

/-- A queue that does not exist (R366). -/
def Queue.none : Queue :=
  { valid := false, owner := 0, log2 := 0, sq := 0, rq := 0, head := 0, tail := 0, rTail := 0, rUsed := 0, rHead := 0,
    phase := false, reserved := 0, wait := 0, destroying := false, discarded := 0, killer := Option.none,
    rings := false }

/-- A FREE context (R392). -/
def Ctx.free : Ctx :=
  { st := 0, resident := false, part := 0, pasid := none, obj := 0, base := 0, used := 0, recs := [], fqHead := 0,
    fqTail := 0, fqCount := 0, fqPhase := true, ovf := none, layer := 0, op := 0, resetting := false }

/-- A FREE object-table entry (R396). -/
def Obj.vacant : Obj :=
  { st := 0, gen := 0, plots := 0, shared := false, system := false, first := 0, owner := 0, created := 0, refs := 0,
    free := none }

/-- An unbound plot (R396). -/
def Plot.unbound : Plot := { bound := false, obj := 0, gen := 0, system := false }

/-- A free fence number, UNSIGNALLED (R406). -/
def Fence.free : Fence :=
  { used := false, signalled := false, payload := 0, part := 0, owner := 0xFFFF, shares := [], epoch := 0 }

/-- An allocation doorbell slot that has answered nothing (R401). -/
def Adb.zero : Adb :=
  { plots := 0, shared := false, ctx := 0, obj := 0, gen := 0, status := Status.done, addr := 0 }

/-- A FREE partition (R38), member number 0x3FFF (R27). -/
def Part.free : Part :=
  { st := 0, before := 0, holds := 0, fenceAt := 0, joinedAt := 0, member := 0x3FFF, man := none, amends := [],
    lost := [], loaded := false, vmAssign := false, slot := 0, pbase := 0, psize := 0, otPlots := 0, added := [],
    txid := 0, reserved := 0, scrub := 0, zeroFill := false, zslot := none, zero := [], wantScrub := false, rels := [] }

/-- A trace ring in OFF (R509). -/
def Ring.off : Ring :=
  { st := 0, base := 0, log2 := 0, mode := 0, post := 0, ids := false, cfgn := 0, seq := 0, trig := 0xFFFFFFFF,
    ignored := 0, drops := 0, dropRun := none, left := 0, staged := [], wrote := [], due := false, obj := 0 }

/-- An empty slot of the press record ring (R524). -/
def Press.empty : Press :=
  { source := 0, status := Status.done, part := none, freeze := false, clock := false, seq := 0, stamp := 0, addr := 0,
    info := 0 }

/-! The units after a power-on reset. -/

/-- The integration parameters of the reference host (log entry 5). -/
def Params.reset : Params := { profile := .a, sgCount := 8, fpCount := 18, hcCount := 2, span8 := false }

/-- The register file: nothing listed, so each register reads its reset value. -/
def Regf.reset : Regf := { regs := [], shadow := [], held := [], snap := none }

/-- The pins after RESET_N has been released. -/
def Pins.reset : Pins :=
  { vddRet := true, resetN := true, warmArmed := true, supplyLow := false, retReq := false, retReady := false, strap := 0,
    pidSel := 0, fpUp := 0, hcUp := 0, chipRstReq := false, blockReady := false, pfenceReq := 0xFFFF, pfenceAck := 0,
    engReq := 0xFFFFFFFF, engAck := 0, cstop := true, cstopAck := false, trigOut := 0, breachN := false,
    pwrcycReq := false, sns := 0, dbgEn := true }

/-- Bring-up at its start: fuses are being sensed (R483). -/
def Boot.reset : Boot :=
  { phase := .sensing, warmClass := false, chipCause := 0, porPending := false, retLatch := false, retRun := false, retFenced := [], rstnSeen := true,
    storm := [0], warmRun := none, flush := false, anchorInit := false, sensed := false, senseErr := false,
    mismatch := false, decided := false, lc := 7, noMajority := false, resumed := false, copyStuck := false,
    wipePending := false, burning := false, burnQ := [], burnGo := false, burnTry := 0, burnGoal := .none, burnBad := false,
    burnFails := 0, burnBits := 0, husDraw := none, husFault := false, dbgAuth := 0, bootAuth := 0, challenge := none,
    halted := false, dbgSteps := 0, pwrOff := false, pwrMsg := none, breached := false }

/-- Domain time OFF (R116). -/
def Dt.reset : Dt :=
  { st := 0, cnt := 0, rate := 0x066666666666, slew := 0, frac := 0, trefLost := false, steps := 0, slave := 31,
    offset := 0, runIn := 0, runNear := 0, runOut := 0, everLocked := false, bound := false, takeover := false,
    ptp := [], ptpIgnored := 0, tsDropped := 0, sched := [], seen := [], stops := [], stopLog := [], edge := 0, pulse := 0,
    overlaps := 0 }

/-- The key store: every slot EMPTY. -/
def Key.reset : Key :=
  { slots := [], refill := [], dkc := [], deriv := [], cce := [], cceFaults := 0, rngReady := false, rngFailed := false, failRun := 0,
    failTotal := 0, reseeds := 0, draws := 0, pke := [], signRestarts := 0, rootLocked := false, rootSel := 0, mfw := 0,
    svn := 0, reseal := [] }

/-- The sector groups: anchors Unowned, caches and buffers empty. -/
def Sg.reset : Sg :=
  { anchors := [], mdc := [], accs := [], nextAcc := 0, rds := [], wr := [], plotCache := [], merge := [], saQ := [], north := [],
    saStop := 0, retries := [], vbr := 0, seed := [], step := [], clk := 0 }

/-- Sharing: every partition at its reset shares. -/
def Share.reset : Share :=
  { mdc := [], dkc := [], taken := [], strict := [], merge := [], allot := [], weight := [], weightNew := [],
    deficit := [], units := [], winWake := 0, winGate := 0 }

/-- No remote operation. -/
def Rem.reset : Rem :=
  { ops := [], contribs := [], past := [], pastC := [], serves := [], serveNo := 0, indet := 0, memo := [], late := 0, full := 0, pool := [], givenUp := 0, rpRetries := 0,
    resLed := [] }

/-- Every session DOWN. -/
def Lnk.reset : Lnk := { ports := [], sess := [], seenLost := [] }

/-- Host ports: nothing configured. -/
def Hst.reset : Hst :=
  { tdi := [], streams := [], keys := [], doe := [], atc := [], trs := [], prs := [], priOff := [], invs := [],
    tiles := [], tileNo := 0, held := [], prWait := [], aborted := [], cfg := [], ideSent := [] }

/-- The command processor: no queue, no session, nothing in flight. -/
def Cmd.reset : Cmd :=
  { queues := [], inflight := [], sessions := [], sessNo := 0, stored := [], carries := [], carryNo := 0, stages := [],
    dbErr := (0, 0, 0, 0, 0), cdm := [], cdmWait := [] }

/-- No context, object or fence. -/
def ObjU.reset : ObjU :=
  { ctxs := [], waiting := [], nextId := [], ptFirst := [], ptCount := [], objs := [], plots := [], fences := [],
    freed := [], fenceNext := 0, dfences := [], oseq := [], seenFence := [], waits := [], adbs := [], tear := [] }

/-- No partition assigned, no chain in flash. -/
def Att.reset : Att :=
  { parts := [], chain := none, aliasCert := false, fabricRoots := [], mgmtRoots := [], meas := [], measLock := false,
    discards := 0, rejoin := [], flash := none, i3cAddr := none, hotJoin := true, maxWrite := 64, maxRead := 64,
    eid := none, negotiated := [] }

/-- No reset step in progress. -/
def Rst.reset : Rst := { steps := [], remain := 1000, timeout := 1000 }

/-- Observability: counters zero, press record empty. -/
def Obs.reset : Obs :=
  { cnt := [], pub := [], glob := [], rings := [], sel := [], ringIdx := [], samples := [], tensors := [], dumps := [],
    dumpDone := [], press := [], pressSeq := 0, flushed := 0, frzBreach := false, frzReset := false, frzSupply := false,
    frzLost := 0, log := [], logLc := 0 }

/-- The block that has just left a power-on reset (R62, R483): bring-up is sensing its fuses. -/
def State.reset : State :=
  { pending := [], out := [], tref := 0, fresh := 0, params := Params.reset, fuse := [], regf := Regf.reset,
    pins := Pins.reset, boot := Boot.reset, dt := Dt.reset, key := Key.reset, sg := Sg.reset, share := Share.reset,
    rem := Rem.reset, lnk := Lnk.reset, hst := Hst.reset, cmd := Cmd.reset, obju := ObjU.reset, att := Att.reset,
    rst := Rst.reset, obs := Obs.reset }

end Sys2Proof.Machine
end

