-- ==== Sys2Proof/Machine/RegMap.lean ====
section
/-!
DEFINITION. The register window (R8 to R18): the offset of each register, and one row per register with the masks of its
fields by class and access, as its table in spec/ gives them.
-/
namespace Sys2Proof.Machine

/-! Offsets. An indexed register takes its index; a register of a sector group or link port takes that first. -/

/-- GLB_RELEASE. -/
def rGlbRelease : Nat := 0x000000
/-- GLB_PROFILE. -/
def rGlbProfile : Nat := 0x000004
/-- GLB_CONFIG. -/
def rGlbConfig : Nat := 0x000008
/-- GLB_BUSERR. -/
def rGlbBuserr : Nat := 0x00000C
/-- GLB_ILV. -/
def rGlbIlv : Nat := 0x000040
/-- GLB_FUSE_STATUS. -/
def rGlbFuseStatus : Nat := 0x000044
/-- SGn_PROT_BASE_LO/HI. -/
def rSgProtBase (i : Nat) : Nat := 0x100000 + 0x10000 * i
/-- SGn_PROT_BASE_LO/HI (HI). -/
def rSgProtBaseHi (i : Nat) : Nat := 0x100004 + 0x10000 * i
/-- SGn_ANCHOR_FIRST. -/
def rSgAnchorFirst (i : Nat) : Nat := 0x100008 + 0x10000 * i
/-- SGn_ANCHOR_COUNT. -/
def rSgAnchorCount (i : Nat) : Nat := 0x10000C + 0x10000 * i
/-- SGn_CARVE_BASE_LO/HI. -/
def rSgCarveBase (i : Nat) : Nat := 0x100010 + 0x10000 * i
/-- SGn_CARVE_BASE_LO/HI (HI). -/
def rSgCarveBaseHi (i : Nat) : Nat := 0x100014 + 0x10000 * i
/-- SGn_CARVE_SIZE_LO/HI. -/
def rSgCarveSize (i : Nat) : Nat := 0x100018 + 0x10000 * i
/-- SGn_CARVE_SIZE_LO/HI (HI). -/
def rSgCarveSizeHi (i : Nat) : Nat := 0x10001C + 0x10000 * i
/-- SGn_MEM_CTRL. -/
def rSgMemCtrl (i : Nat) : Nat := 0x100020 + 0x10000 * i
/-- DT_NOW_LO/HI. -/
def rDtNow : Nat := 0x010000
/-- DT_NOW_LO/HI (HI). -/
def rDtNowHi : Nat := 0x010004
/-- DT_FRAC. -/
def rDtFrac : Nat := 0x010008
/-- DT_STATUS. -/
def rDtStatus : Nat := 0x01000C
/-- DT_CTRL. -/
def rDtCtrl : Nat := 0x010010
/-- DT_HOLD. -/
def rDtHold : Nat := 0x010014
/-- DT_RATE_LO/HI. -/
def rDtRate : Nat := 0x010018
/-- DT_RATE_LO/HI (HI). -/
def rDtRateHi : Nat := 0x01001C
/-- DT_OFFSET. -/
def rDtOffset : Nat := 0x010020
/-- DT_STAGGER. -/
def rDtStagger : Nat := 0x010024
/-- DT_TRIG. -/
def rDtTrig : Nat := 0x010028
/-- DT_SET_LO/HI. -/
def rDtSet : Nat := 0x010030
/-- DT_SET_LO/HI (HI). -/
def rDtSetHi : Nat := 0x010034
/-- DT_SCHED_IDX. -/
def rDtSchedIdx : Nat := 0x010040
/-- DT_SCHED_DATAw. -/
def rDtSchedData (i : Nat) : Nat := 0x010044 + 0x4 * i
/-- DT_PORTk_CFG. -/
def rDtPortCfg (i : Nat) : Nat := 0x010100 + 0x8 * i
/-- DT_PORTk_LAT. -/
def rDtPortLat (i : Nat) : Nat := 0x010104 + 0x8 * i
/-- KEY_STATUS. -/
def rKeyStatus : Nat := 0x020000
/-- KEY_COUNT. -/
def rKeyCount : Nat := 0x020004
/-- KEY_SLOT_IDX. -/
def rKeySlotIdx : Nat := 0x020008
/-- KEY_SLOT_ATTR. -/
def rKeySlotAttr : Nat := 0x02000C
/-- KEY_QUOTAp. -/
def rKeyQuota (i : Nat) : Nat := 0x020040 + 0x4 * i
/-- KEY_RESEALp. -/
def rKeyReseal (i : Nat) : Nat := 0x020080 + 0x4 * i
/-- KEY_RESEAL_DONEp. -/
def rKeyResealDone (i : Nat) : Nat := 0x0200C0 + 0x4 * i
/-- KEY_RESEAL_CFG. -/
def rKeyResealCfg : Nat := 0x020100
/-- KEY_RNG_STATUS. -/
def rKeyRngStatus : Nat := 0x020104
/-- SGn_PMODE. -/
def rSgPmode (i : Nat) : Nat := 0x100040 + 0x10000 * i
/-- SGn_PROT_STATUS. -/
def rSgProtStatus (i : Nat) : Nat := 0x100044 + 0x10000 * i
/-- SGn_ANCHOR_IDX. -/
def rSgAnchorIdx (i : Nat) : Nat := 0x100048 + 0x10000 * i
/-- SGn_ANCHOR_STATE. -/
def rSgAnchorState (i : Nat) : Nat := 0x10004C + 0x10000 * i
/-- SGn_SA_STATUS. -/
def rSgSaStatus (i : Nat) : Nat := 0x108000 + 0x10000 * i
/-- SGn_SA_CTRL. -/
def rSgSaCtrl (i : Nat) : Nat := 0x108004 + 0x10000 * i
/-- SGn_SA_PCFGp. -/
def rSgSaPcfg (i : Nat) (j : Nat) : Nat := 0x108040 + 0x10000 * i + 0x4 * j
/-- SGn_SA_STEPp. -/
def rSgSaStep (i : Nat) (j : Nat) : Nat := 0x108080 + 0x10000 * i + 0x4 * j
/-- SG0_SA_RATM_CFG. -/
def rSgSaRatmCfg : Nat := 0x108100
/-- SG0_SA_RATM_STATUS. -/
def rSgSaRatmStatus : Nat := 0x108104
/-- SG0_MEMO_STATUS. -/
def rSgMemoStatus : Nat := 0x108800
/-- SG0_MEMO_REFUSED. -/
def rSgMemoRefused : Nat := 0x108804
/-- RP_STATUS. -/
def rRpStatus : Nat := 0x100000
/-- RP_LEDGER. -/
def rRpLedger : Nat := 0x100004
/-- RP_TIMEOUT. -/
def rRpTimeout : Nat := 0x100008
/-- RP_RETRY. -/
def rRpRetry : Nat := 0x10000C
/-- RP_QUOTAp. -/
def rRpQuota (i : Nat) : Nat := 0x100040 + 0x4 * i
/-- GLB_WAKE. -/
def rGlbWake : Nat := 0x000080
/-- GLB_WAKE_STATUS. -/
def rGlbWakeStatus : Nat := 0x000084
/-- GLB_CACHE_WAYSp. -/
def rGlbCacheWays (i : Nat) : Nat := 0x000100 + 0x4 * i
/-- SGn_PSHAREp. -/
def rSgPshare (i : Nat) (j : Nat) : Nat := 0x100080 + 0x10000 * i + 0x4 * j
/-- SGn_SHARE_STATUS. -/
def rSgShareStatus (i : Nat) : Nat := 0x1000C0 + 0x10000 * i
/-- LNKk_STATUS. -/
def rLnkStatus (i : Nat) : Nat := 0x200000 + 0x10000 * i
/-- LNKk_CTRL. -/
def rLnkCtrl (i : Nat) : Nat := 0x200004 + 0x10000 * i
/-- LNKk_KA. -/
def rLnkKa (i : Nat) : Nat := 0x200008 + 0x10000 * i
/-- LNKk_COVER. -/
def rLnkCover (i : Nat) : Nat := 0x20000C + 0x10000 * i
/-- LNKk_CBS. -/
def rLnkCbs (i : Nat) : Nat := 0x200010 + 0x10000 * i
/-- LNKk_TBc. -/
def rLnkTb (i : Nat) (j : Nat) : Nat := 0x200014 + 0x10000 * i + 0x4 * j
/-- LNKk_GATE_CTRL. -/
def rLnkGateCtrl (i : Nat) : Nat := 0x200030 + 0x10000 * i
/-- LNKk_GATE_BASE_LO/HI. -/
def rLnkGateBase (i : Nat) : Nat := 0x200038 + 0x10000 * i
/-- LNKk_GATE_BASE_LO/HI (HI). -/
def rLnkGateBaseHi (i : Nat) : Nat := 0x20003C + 0x10000 * i
/-- LNKk_GATE_CYCLE. -/
def rLnkGateCycle (i : Nat) : Nat := 0x200040 + 0x10000 * i
/-- LNKk_GATE_OPENw. -/
def rLnkGateOpen (i : Nat) (j : Nat) : Nat := 0x200044 + 0x10000 * i + 0x8 * j
/-- LNKk_GATE_LENw. -/
def rLnkGateLen (i : Nat) (j : Nat) : Nat := 0x200048 + 0x10000 * i + 0x8 * j
/-- LNKk_EPOCH_CFG. -/
def rLnkEpochCfg (i : Nat) : Nat := 0x200090 + 0x10000 * i
/-- LNKk_SESS_IDX. -/
def rLnkSessIdx (i : Nat) : Nat := 0x200094 + 0x10000 * i
/-- LNKk_SESS_STATE. -/
def rLnkSessState (i : Nat) : Nat := 0x200098 + 0x10000 * i
/-- LNKk_ERR_AUTH. -/
def rLnkErrAuth (i : Nat) : Nat := 0x2000A0 + 0x10000 * i
/-- LNKk_ERR_REPLAY. -/
def rLnkErrReplay (i : Nat) : Nat := 0x2000A4 + 0x10000 * i
/-- LNKk_ERR_FORMAT. -/
def rLnkErrFormat (i : Nat) : Nat := 0x2000A8 + 0x10000 * i
/-- LNKk_FLOW_STATUS. -/
def rLnkFlowStatus (i : Nat) : Nat := 0x2000B0 + 0x10000 * i
/-- HST_STATUS. -/
def rHstStatus : Nat := 0x080000
/-- HST_PORTh_CFG. -/
def rHstPortCfg (i : Nat) : Nat := 0x080010 + 0x10 * i
/-- HST_PORTh_STATUS. -/
def rHstPortStatus (i : Nat) : Nat := 0x080014 + 0x10 * i
/-- HST_PORTh_IDE_ERR. -/
def rHstPortIdeErr (i : Nat) : Nat := 0x080018 + 0x10 * i
/-- HST_PORTh_CAP. -/
def rHstPortCap (i : Nat) : Nat := 0x08001C + 0x10 * i
/-- HST_TDIp. -/
def rHstTdi (i : Nat) : Nat := 0x080100 + 0x8 * i
/-- HST_TDI_STATEp. -/
def rHstTdiState (i : Nat) : Nat := 0x080104 + 0x8 * i
/-- HST_STREAMh_s. -/
def rHstStream (i : Nat) (j : Nat) : Nat := 0x080200 + 0x40 * i + 0x4 * j
/-- HST_ATS_CFG. -/
def rHstAtsCfg : Nat := 0x080300
/-- HST_TILE_CFG. -/
def rHstTileCfg : Nat := 0x080304
/-- HST_TILE_STATEp. -/
def rHstTileState (i : Nat) : Nat := 0x080400 + 0x4 * i
/-- CMD_STATUS. -/
def rCmdStatus : Nat := 0x060000
/-- CMD_DOORBELL_LO/HI. -/
def rCmdDoorbell : Nat := 0x060008
/-- CMD_DOORBELL_LO/HI (HI). -/
def rCmdDoorbellHi : Nat := 0x06000C
/-- CMD_DB_ERR. -/
def rCmdDbErr : Nat := 0x060010
/-- CMD_Q_IDX. -/
def rCmdQIdx : Nat := 0x060014
/-- CMD_Q_PTRS. -/
def rCmdQPtrs : Nat := 0x060018
/-- CMD_Q_STATE. -/
def rCmdQState : Nat := 0x06001C
/-- CMD_HQn_SQ_LO/HI. -/
def rCmdHqSq (i : Nat) : Nat := 0x060040 + 0x20 * i
/-- CMD_HQn_SQ_LO/HI (HI). -/
def rCmdHqSqHi (i : Nat) : Nat := 0x060044 + 0x20 * i
/-- CMD_HQn_RQ_LO/HI. -/
def rCmdHqRq (i : Nat) : Nat := 0x060048 + 0x20 * i
/-- CMD_HQn_RQ_LO/HI (HI). -/
def rCmdHqRqHi (i : Nat) : Nat := 0x06004C + 0x20 * i
/-- CMD_HQn_CFG. -/
def rCmdHqCfg (i : Nat) : Nat := 0x060050 + 0x20 * i
/-- CMD_STAGE_BASE_LO/HI. -/
def rCmdStageBase : Nat := 0x060100
/-- CMD_STAGE_BASE_LO/HI (HI). -/
def rCmdStageBaseHi : Nat := 0x060104
/-- CMD_ADMIT_COUNT. -/
def rCmdAdmitCount : Nat := 0x060108
/-- OBJ_STATUS. -/
def rObjStatus : Nat := 0x070000
/-- OBJ_CACHE_STATUS. -/
def rObjCacheStatus : Nat := 0x070004
/-- OBJ_PLOT_STATUS. -/
def rObjPlotStatus : Nat := 0x070008
/-- OBJ_FENCE_COUNT. -/
def rObjFenceCount : Nat := 0x07000C
/-- OBJ_PIN_WAITS. -/
def rObjPinWaits : Nat := 0x070010
/-- OBJ_FQ_DB_LO/HI. -/
def rObjFqDb : Nat := 0x070018
/-- OBJ_FQ_DB_LO/HI (HI). -/
def rObjFqDbHi : Nat := 0x07001C
/-- OBJ_CTX_IDX. -/
def rObjCtxIdx : Nat := 0x070020
/-- OBJ_CTX_INFO. -/
def rObjCtxInfo : Nat := 0x070024
/-- OBJ_CTX_FQ. -/
def rObjCtxFq : Nat := 0x070028
/-- OBJ_CTX_BASE_LO/HI. -/
def rObjCtxBase : Nat := 0x070030
/-- OBJ_CTX_BASE_LO/HI (HI). -/
def rObjCtxBaseHi : Nat := 0x070034
/-- OBJ_FENCE_IDX. -/
def rObjFenceIdx : Nat := 0x070040
/-- OBJ_FENCE_STATE. -/
def rObjFenceState : Nat := 0x070044
/-- OBJ_FENCE_EPOCH. -/
def rObjFenceEpoch : Nat := 0x070048
/-- OBJ_PCFGp_LO/HI. -/
def rObjPcfg (i : Nat) : Nat := 0x070100 + 0x10 * i
/-- OBJ_PCFGp_LO/HI (HI). -/
def rObjPcfgHi (i : Nat) : Nat := 0x070104 + 0x10 * i
/-- OBJ_PCNTp. -/
def rObjPcnt (i : Nat) : Nat := 0x070108 + 0x10 * i
/-- OBJ_PLIVEp. -/
def rObjPlive (i : Nat) : Nat := 0x07010C + 0x10 * i
/-- OBJ_ADBs_REQ_LO/HI. -/
def rObjAdbReq (i : Nat) : Nat := 0x071000 + 0x20 * i
/-- OBJ_ADBs_REQ_LO/HI (HI). -/
def rObjAdbReqHi (i : Nat) : Nat := 0x071004 + 0x20 * i
/-- OBJ_ADBs_RES_LO/HI. -/
def rObjAdbRes (i : Nat) : Nat := 0x071008 + 0x20 * i
/-- OBJ_ADBs_RES_LO/HI (HI). -/
def rObjAdbResHi (i : Nat) : Nat := 0x07100C + 0x20 * i
/-- OBJ_ADBs_ADDR_LO/HI. -/
def rObjAdbAddr (i : Nat) : Nat := 0x071010 + 0x20 * i
/-- OBJ_ADBs_ADDR_LO/HI (HI). -/
def rObjAdbAddrHi (i : Nat) : Nat := 0x071014 + 0x20 * i
/-- LC_STATUS. -/
def rLcStatus : Nat := 0x030000
/-- LC_DBG. -/
def rLcDbg : Nat := 0x030004
/-- LC_FUSE_IDX. -/
def rLcFuseIdx : Nat := 0x030008
/-- LC_FUSE_DATA. -/
def rLcFuseData : Nat := 0x03000C
/-- LC_BURN. -/
def rLcBurn : Nat := 0x030010
/-- LC_DBG_CORE. -/
def rLcDbgCore : Nat := 0x030020
/-- LC_DBG_ARRAY_SEL. -/
def rLcDbgArraySel : Nat := 0x030024
/-- LC_DBG_ARRAY_DATA. -/
def rLcDbgArrayData : Nat := 0x030028
/-- GLB_PART_STATE_LO/HI. -/
def rGlbPartState : Nat := 0x000048
/-- GLB_PART_STATE_LO/HI (HI). -/
def rGlbPartStateHi : Nat := 0x00004C
/-- RST_CAUSE. -/
def rRstCause : Nat := 0x040000
/-- RST_STATUS. -/
def rRstStatus : Nat := 0x040004
/-- RST_ESC_TARGET. -/
def rRstEscTarget : Nat := 0x040008
/-- RST_WDOG. -/
def rRstWdog : Nat := 0x040010
/-- RST_PWRCYC_CFG. -/
def rRstPwrcycCfg : Nat := 0x040040
/-- RST_COUNT. -/
def rRstCount : Nat := 0x040044
/-- RST_ENGe. -/
def rRstEng (i : Nat) : Nat := 0x040100 + 0x4 * i
/-- OBS_STATUS. -/
def rObsStatus : Nat := 0x050000
/-- OBS_PRESS_SEQ. -/
def rObsPressSeq : Nat := 0x050004
/-- OBS_PRESS_LOST. -/
def rObsPressLost : Nat := 0x050008
/-- OBS_PRESS_FLUSHED. -/
def rObsPressFlushed : Nat := 0x05000C
/-- OBS_CNT_IDX. -/
def rObsCntIdx : Nat := 0x050010
/-- OBS_CNT_DATA_LO/HI. -/
def rObsCntData : Nat := 0x050018
/-- OBS_CNT_DATA_LO/HI (HI). -/
def rObsCntDataHi : Nat := 0x05001C
/-- OBS_MARK_LO/HI. -/
def rObsMark : Nat := 0x050020
/-- OBS_MARK_LO/HI (HI). -/
def rObsMarkHi : Nat := 0x050024
/-- OBS_TRACE_IDX. -/
def rObsTraceIdx : Nat := 0x050030
/-- OBS_TRACE_SEL. -/
def rObsTraceSel : Nat := 0x050034
/-- OBS_TRACE_STATE. -/
def rObsTraceState : Nat := 0x050038
/-- OBS_TRACE_SEQ. -/
def rObsTraceSeq : Nat := 0x05003C
/-- OBS_TRACE_TRIG. -/
def rObsTraceTrig : Nat := 0x050040
/-- OBS_TRACE_DROPS. -/
def rObsTraceDrops : Nat := 0x050044
/-- OBS_DUMP_BASEp_LO/HI. -/
def rObsDumpBase (i : Nat) : Nat := 0x050100 + 0x10 * i
/-- OBS_DUMP_BASEp_LO/HI (HI). -/
def rObsDumpBaseHi (i : Nat) : Nat := 0x050104 + 0x10 * i
/-- OBS_DUMP_SIZEp. -/
def rObsDumpSize (i : Nat) : Nat := 0x050108 + 0x10 * i
/-- OBS_DUMP_DONEp. -/
def rObsDumpDone (i : Nat) : Nat := 0x05010C + 0x10 * i

/-- Which half of a LO/HI pair a register is (R11). -/
inductive Half where
  | one | lo | hi
  deriving DecidableEq, Repr

/-- One register, or one family of indexed registers: where it stands, and which of its bits are writable fields of class
S, C and L, W1C bits, W1C counts (`clears any bit`), RW1S bits, which are retained, and its reset value. A bit in no mask
is reserved or read-only; of the read-only fields, RST_CAUSE keeps SOURCE, PREV and STEP among its stored bits. -/
structure RegRow where
  base : Nat
  n1 : Nat
  s1 : Nat
  n2 : Nat
  s2 : Nat
  half : Half
  s : Word
  c : Word
  l : Word
  w1c : Word
  counts : List (Nat × Nat)
  rw1s : Word
  retained : Word
  reset : Word
  deriving DecidableEq, Repr

/-- Rows of the GLB_ registers. -/
def glbRows : List RegRow := [
  ⟨0x000000, 1, 0x0, 1, 0x0, .one, 0, 0, 0, 0, [], 0, 0, 0⟩,
  ⟨0x000004, 1, 0x0, 1, 0x0, .one, 0, 0, 0, 0, [], 0, 0, 0⟩,
  ⟨0x000008, 1, 0x0, 1, 0x0, .one, 0, 0, 0, 0, [], 0, 0, 0⟩,
  ⟨0x00000C, 1, 0x0, 1, 0x0, .one, 0, 0, 0, 0x3, [], 0, 0, 0⟩,
  ⟨0x000040, 1, 0x0, 1, 0x0, .one, 0x3F3F3F03, 0, 0, 0x4, [], 0, 0x3F3F3F03, 0⟩,
  ⟨0x000044, 1, 0x0, 1, 0x0, .one, 0, 0, 0, 0, [], 0, 0, 0⟩,
  ⟨0x000080, 1, 0x0, 1, 0x0, .one, 0, 0, 0x7FFFFFF, 0, [], 0, 0, 0x1201010⟩,
  ⟨0x000084, 1, 0x0, 1, 0x0, .one, 0, 0, 0, 0, [], 0, 0, 0⟩,
  ⟨0x000100, 16, 0x4, 1, 0x0, .one, 0, 0, 0, 0, [], 0, 0, 0⟩,
  ⟨0x000048, 1, 0x0, 1, 0x0, .lo, 0, 0, 0, 0, [], 0, 0, 0⟩,
  ⟨0x00004C, 1, 0x0, 1, 0x0, .hi, 0, 0, 0, 0, [], 0, 0, 0⟩]

/-- Rows of the SG_ registers. -/
def sgRows : List RegRow := [
  ⟨0x100000, 8, 0x10000, 1, 0x0, .lo, 0xFFF00000, 0, 0, 0, [], 0, 0xFFF00000, 0⟩,
  ⟨0x100004, 8, 0x10000, 1, 0x0, .hi, 0xFFFFF, 0, 0, 0, [], 0, 0xFFFFF, 0⟩,
  ⟨0x100008, 8, 0x10000, 1, 0x0, .one, 0x1FFFFF, 0, 0, 0, [], 0, 0x1FFFFF, 0⟩,
  ⟨0x10000C, 8, 0x10000, 1, 0x0, .one, 0x3FFFFF, 0, 0, 0, [], 0, 0x3FFFFF, 0⟩,
  ⟨0x100010, 8, 0x10000, 1, 0x0, .lo, 0xFFFF0000, 0, 0, 0, [], 0, 0xFFFF0000, 0⟩,
  ⟨0x100014, 8, 0x10000, 1, 0x0, .hi, 0xFFFFF, 0, 0, 0, [], 0, 0xFFFFF, 0⟩,
  ⟨0x100018, 8, 0x10000, 1, 0x0, .lo, 0xFFFF0000, 0, 0, 0, [], 0, 0xFFFF0000, 0⟩,
  ⟨0x10001C, 8, 0x10000, 1, 0x0, .hi, 0xFFFFF, 0, 0, 0, [], 0, 0xFFFFF, 0⟩,
  ⟨0x100020, 8, 0x10000, 1, 0x0, .one, 0, 0, 0x1, 0x300, [], 0, 0x1, 0⟩,
  ⟨0x100040, 8, 0x10000, 1, 0x0, .one, 0, 0, 0, 0, [], 0, 0, 0⟩,
  ⟨0x100044, 8, 0x10000, 1, 0x0, .one, 0, 0, 0, 0, [], 0, 0, 0⟩,
  ⟨0x100048, 8, 0x10000, 1, 0x0, .one, 0, 0, 0x1FFFFF, 0, [], 0, 0, 0⟩,
  ⟨0x10004C, 8, 0x10000, 1, 0x0, .one, 0, 0, 0, 0, [], 0, 0, 0⟩,
  ⟨0x108000, 8, 0x10000, 1, 0x0, .one, 0, 0, 0, 0x6, [], 0, 0, 0⟩,
  ⟨0x108004, 8, 0x10000, 1, 0x0, .one, 0, 0xFFFF, 0, 0, [], 0, 0, 0x1000⟩,
  ⟨0x108040, 8, 0x10000, 16, 0x4, .one, 0, 0, 0, 0, [], 0, 0, 0⟩,
  ⟨0x108080, 8, 0x10000, 16, 0x4, .one, 0, 0, 0, 0, [], 0, 0, 0⟩,
  ⟨0x108100, 1, 0x0, 1, 0x0, .one, 0, 0, 0x3FF, 0, [], 0, 0, 0x1F4⟩,
  ⟨0x108104, 1, 0x0, 1, 0x0, .one, 0, 0, 0, 0, [], 0, 0, 0⟩,
  ⟨0x108800, 1, 0x0, 1, 0x0, .one, 0, 0, 0, 0, [], 0, 0, 0⟩,
  ⟨0x108804, 1, 0x0, 1, 0x0, .one, 0, 0, 0, 0, [], 0, 0, 0⟩,
  ⟨0x100080, 8, 0x10000, 16, 0x4, .one, 0, 0, 0, 0, [], 0, 0, 0⟩,
  ⟨0x1000C0, 8, 0x10000, 1, 0x0, .one, 0, 0, 0, 0, [], 0, 0, 0⟩]

/-- Rows of the DT_ registers. -/
def dtRows : List RegRow := [
  ⟨0x010000, 1, 0x0, 1, 0x0, .lo, 0, 0, 0, 0, [], 0, 0, 0⟩,
  ⟨0x010004, 1, 0x0, 1, 0x0, .hi, 0, 0, 0, 0, [], 0, 0, 0⟩,
  ⟨0x010008, 1, 0x0, 1, 0x0, .one, 0, 0, 0, 0, [], 0, 0, 0⟩,
  ⟨0x01000C, 1, 0x0, 1, 0x0, .one, 0, 0, 0, 0x60, [], 0, 0, 0⟩,
  ⟨0x010010, 1, 0x0, 1, 0x0, .one, 0x6, 0, 0x1, 0, [], 0, 0, 0⟩,
  ⟨0x010014, 1, 0x0, 1, 0x0, .one, 0, 0, 0xFFFF, 0, [], 0, 0, 0xA⟩,
  ⟨0x010018, 1, 0x0, 1, 0x0, .lo, 0, 0, 0, 0, [], 0, 0, 0⟩,
  ⟨0x01001C, 1, 0x0, 1, 0x0, .hi, 0, 0, 0, 0, [], 0, 0, 0⟩,
  ⟨0x010020, 1, 0x0, 1, 0x0, .one, 0, 0, 0, 0, [], 0, 0, 0⟩,
  ⟨0x010024, 1, 0x0, 1, 0x0, .one, 0, 0x3FFFFFFF, 0, 0, [], 0, 0, 0⟩,
  ⟨0x010028, 1, 0x0, 1, 0x0, .one, 0, 0, 0xFFFF, 0, [], 0, 0, 0x10⟩,
  ⟨0x010030, 1, 0x0, 1, 0x0, .lo, 0xFFFFFFFF, 0, 0, 0, [], 0, 0, 0⟩,
  ⟨0x010034, 1, 0x0, 1, 0x0, .hi, 0xFFFFFFFF, 0, 0, 0, [], 0, 0, 0⟩,
  ⟨0x010040, 1, 0x0, 1, 0x0, .one, 0, 0, 0xFF, 0, [], 0, 0, 0⟩,
  ⟨0x010044, 8, 0x4, 1, 0x0, .one, 0, 0, 0, 0, [], 0, 0, 0⟩,
  ⟨0x010100, 18, 0x8, 1, 0x0, .one, 0x3F, 0, 0, 0, [], 0, 0, 0⟩,
  ⟨0x010104, 18, 0x8, 1, 0x0, .one, 0xFFFFFFFF, 0, 0, 0, [], 0, 0, 0⟩]

/-- Rows of the KEY_ registers. -/
def keyRows : List RegRow := [
  ⟨0x020000, 1, 0x0, 1, 0x0, .one, 0, 0, 0, 0x12, [], 0, 0, 0⟩,
  ⟨0x020004, 1, 0x0, 1, 0x0, .one, 0, 0, 0, 0, [], 0, 0, 0⟩,
  ⟨0x020008, 1, 0x0, 1, 0x0, .one, 0, 0, 0xFFF, 0, [], 0, 0, 0⟩,
  ⟨0x02000C, 1, 0x0, 1, 0x0, .one, 0, 0, 0, 0, [], 0, 0, 0⟩,
  ⟨0x020040, 16, 0x4, 1, 0x0, .one, 0xFFF, 0, 0, 0, [], 0, 0, 0xF8⟩,
  ⟨0x020080, 16, 0x4, 1, 0x0, .one, 0, 0, 0, 0, [], 0, 0, 0⟩,
  ⟨0x0200C0, 16, 0x4, 1, 0x0, .one, 0, 0, 0, 0, [], 0, 0, 0⟩,
  ⟨0x020100, 1, 0x0, 1, 0x0, .one, 0, 0xF, 0, 0, [], 0, 0, 0xA⟩,
  ⟨0x020104, 1, 0x0, 1, 0x0, .one, 0, 0, 0, 0, [], 0, 0, 0⟩]

/-- Rows of the RP_ registers. -/
def rpRows : List RegRow := [
  ⟨0x100000, 1, 0x0, 1, 0x0, .one, 0, 0, 0, 0xC0000000, [], 0, 0, 0⟩,
  ⟨0x100004, 1, 0x0, 1, 0x0, .one, 0, 0, 0, 0, [], 0, 0, 0⟩,
  ⟨0x100008, 1, 0x0, 1, 0x0, .one, 0, 0, 0xFFFF, 0, [], 0, 0, 0xA⟩,
  ⟨0x10000C, 1, 0x0, 1, 0x0, .one, 0, 0, 0x3FF, 0, [], 0, 0, 0x1F4⟩,
  ⟨0x100040, 16, 0x4, 1, 0x0, .one, 0x1FFFF, 0, 0, 0, [], 0, 0, 0x10000⟩]

/-- Rows of the LNK_ registers. -/
def lnkRows : List RegRow := [
  ⟨0x200000, 18, 0x10000, 1, 0x0, .one, 0, 0, 0, 0x6, [], 0, 0, 0⟩,
  ⟨0x200004, 18, 0x10000, 1, 0x0, .one, 0, 0, 0x1, 0, [], 0, 0, 0⟩,
  ⟨0x200008, 18, 0x10000, 1, 0x0, .one, 0x7FFFFFFF, 0x80000000, 0, 0, [], 0, 0, 0xA03E8⟩,
  ⟨0x20000C, 18, 0x10000, 1, 0x0, .one, 0x8000FFFF, 0, 0, 0, [], 0, 0, 0x25⟩,
  ⟨0x200010, 18, 0x10000, 1, 0x0, .one, 0, 0x7FF, 0, 0, [], 0, 0, 0x38⟩,
  ⟨0x200014, 18, 0x10000, 6, 0x4, .one, 0, 0xFFFF07FF, 0, 0, [], 0, 0, 0x410000⟩,
  ⟨0x200030, 18, 0x10000, 1, 0x0, .one, 0, 0xFF0F, 0, 0, [], 0, 0, 0x1400⟩,
  ⟨0x200038, 18, 0x10000, 1, 0x0, .lo, 0, 0xFFFFFFFF, 0, 0, [], 0, 0, 0⟩,
  ⟨0x20003C, 18, 0x10000, 1, 0x0, .hi, 0, 0xFFFFFFFF, 0, 0, [], 0, 0, 0⟩,
  ⟨0x200040, 18, 0x10000, 1, 0x0, .one, 0, 0xFFFFFFFF, 0, 0, [], 0, 0, 0⟩,
  ⟨0x200044, 18, 0x10000, 8, 0x8, .one, 0, 0xFFFFFFFF, 0, 0, [], 0, 0, 0⟩,
  ⟨0x200048, 18, 0x10000, 8, 0x8, .one, 0, 0xFFFFFFFF, 0, 0, [], 0, 0, 0⟩,
  ⟨0x200090, 18, 0x10000, 1, 0x0, .one, 0, 0xFFFFFFFF, 0, 0, [], 0, 0, 0x3C001E⟩,
  ⟨0x200094, 18, 0x10000, 1, 0x0, .one, 0, 0, 0x1F, 0, [], 0, 0, 0⟩,
  ⟨0x200098, 18, 0x10000, 1, 0x0, .one, 0, 0, 0, 0, [], 0, 0, 0⟩,
  ⟨0x2000A0, 18, 0x10000, 1, 0x0, .one, 0, 0, 0, 0, [(31, 0)], 0, 0, 0⟩,
  ⟨0x2000A4, 18, 0x10000, 1, 0x0, .one, 0, 0, 0, 0, [(31, 0)], 0, 0, 0⟩,
  ⟨0x2000A8, 18, 0x10000, 1, 0x0, .one, 0, 0, 0, 0, [(31, 0)], 0, 0, 0⟩,
  ⟨0x2000B0, 18, 0x10000, 1, 0x0, .one, 0, 0, 0, 0, [], 0, 0, 0⟩]

/-- Rows of the HST_ registers. -/
def hstRows : List RegRow := [
  ⟨0x080000, 1, 0x0, 1, 0x0, .one, 0, 0, 0, 0, [], 0, 0, 0⟩,
  ⟨0x080010, 2, 0x10, 1, 0x0, .one, 0xFFFFE006, 0, 0x1, 0, [], 0, 0, 0⟩,
  ⟨0x080014, 2, 0x10, 1, 0x0, .one, 0, 0, 0, 0x6, [], 0, 0, 0⟩,
  ⟨0x080018, 2, 0x10, 1, 0x0, .one, 0, 0, 0, 0, [(31, 0)], 0, 0, 0⟩,
  ⟨0x08001C, 2, 0x10, 1, 0x0, .one, 0xFFFFFFFF, 0, 0, 0, [], 0, 0, 0⟩,
  ⟨0x080100, 16, 0x8, 1, 0x0, .one, 0x8001FFFF, 0, 0, 0, [], 0, 0, 0⟩,
  ⟨0x080104, 16, 0x8, 1, 0x0, .one, 0, 0, 0, 0, [(31, 16)], 0, 0, 0⟩,
  ⟨0x080200, 2, 0x40, 8, 0x4, .one, 0, 0, 0, 0, [], 0, 0, 0⟩,
  ⟨0x080300, 1, 0x0, 1, 0x0, .one, 0, 0, 0xFFFFFFFF, 0, [], 0, 0, 0x200A0064⟩,
  ⟨0x080304, 1, 0x0, 1, 0x0, .one, 0xFFFF, 0, 0, 0, [], 0, 0, 0xFFFF⟩,
  ⟨0x080400, 16, 0x4, 1, 0x0, .one, 0, 0, 0, 0, [], 0, 0, 0⟩]

/-- Rows of the CMD_ registers. -/
def cmdRows : List RegRow := [
  ⟨0x060000, 1, 0x0, 1, 0x0, .one, 0, 0, 0, 0x6, [], 0, 0, 0⟩,
  ⟨0x060008, 1, 0x0, 1, 0x0, .lo, 0, 0, 0, 0, [], 0, 0, 0⟩,
  ⟨0x06000C, 1, 0x0, 1, 0x0, .hi, 0, 0, 0, 0, [], 0, 0, 0⟩,
  ⟨0x060010, 1, 0x0, 1, 0x0, .one, 0, 0, 0, 0, [], 0, 0, 0⟩,
  ⟨0x060014, 1, 0x0, 1, 0x0, .one, 0, 0, 0xFFFF000F, 0, [], 0, 0, 0⟩,
  ⟨0x060018, 1, 0x0, 1, 0x0, .one, 0, 0, 0, 0, [], 0, 0, 0⟩,
  ⟨0x06001C, 1, 0x0, 1, 0x0, .one, 0, 0, 0, 0, [], 0, 0, 0⟩,
  ⟨0x060040, 4, 0x20, 1, 0x0, .lo, 0xFFFFF000, 0, 0, 0, [], 0, 0, 0⟩,
  ⟨0x060044, 4, 0x20, 1, 0x0, .hi, 0xFFFFFFFF, 0, 0, 0, [], 0, 0, 0⟩,
  ⟨0x060048, 4, 0x20, 1, 0x0, .lo, 0xFFFFF000, 0, 0, 0, [], 0, 0, 0⟩,
  ⟨0x06004C, 4, 0x20, 1, 0x0, .hi, 0xFFFFFFFF, 0, 0, 0, [], 0, 0, 0⟩,
  ⟨0x060050, 4, 0x20, 1, 0x0, .one, 0xF8, 0, 0x1, 0, [], 0, 0, 0x20⟩,
  ⟨0x060100, 1, 0x0, 1, 0x0, .lo, 0xFFFFF000, 0, 0, 0, [], 0, 0, 0⟩,
  ⟨0x060104, 1, 0x0, 1, 0x0, .hi, 0xFFFFFFFF, 0, 0, 0, [], 0, 0, 0⟩,
  ⟨0x060108, 1, 0x0, 1, 0x0, .one, 0, 0, 0, 0, [(31, 0)], 0, 0, 0⟩]

/-- Rows of the OBJ_ registers. -/
def objRows : List RegRow := [
  ⟨0x070000, 1, 0x0, 1, 0x0, .one, 0, 0, 0, 0x6, [], 0, 0, 0⟩,
  ⟨0x070004, 1, 0x0, 1, 0x0, .one, 0, 0, 0, 0, [], 0, 0, 0⟩,
  ⟨0x070008, 1, 0x0, 1, 0x0, .one, 0, 0, 0, 0, [], 0, 0, 0⟩,
  ⟨0x07000C, 1, 0x0, 1, 0x0, .one, 0, 0, 0, 0, [], 0, 0, 0⟩,
  ⟨0x070010, 1, 0x0, 1, 0x0, .one, 0, 0, 0, 0, [(31, 0)], 0, 0, 0⟩,
  ⟨0x070018, 1, 0x0, 1, 0x0, .lo, 0, 0, 0, 0, [], 0, 0, 0⟩,
  ⟨0x07001C, 1, 0x0, 1, 0x0, .hi, 0, 0, 0, 0, [], 0, 0, 0⟩,
  ⟨0x070020, 1, 0x0, 1, 0x0, .one, 0, 0, 0xFFFF, 0, [], 0, 0, 0⟩,
  ⟨0x070024, 1, 0x0, 1, 0x0, .one, 0, 0, 0, 0, [], 0, 0, 0⟩,
  ⟨0x070028, 1, 0x0, 1, 0x0, .one, 0, 0, 0, 0, [], 0, 0, 0⟩,
  ⟨0x070030, 1, 0x0, 1, 0x0, .lo, 0, 0, 0, 0, [], 0, 0, 0⟩,
  ⟨0x070034, 1, 0x0, 1, 0x0, .hi, 0, 0, 0, 0, [], 0, 0, 0⟩,
  ⟨0x070040, 1, 0x0, 1, 0x0, .one, 0, 0, 0xFFFFF, 0, [], 0, 0, 0⟩,
  ⟨0x070044, 1, 0x0, 1, 0x0, .one, 0, 0, 0, 0, [], 0, 0, 0⟩,
  ⟨0x070048, 1, 0x0, 1, 0x0, .one, 0, 0, 0, 0, [], 0, 0, 0⟩,
  ⟨0x070100, 16, 0x10, 1, 0x0, .lo, 0, 0, 0, 0, [], 0, 0, 0⟩,
  ⟨0x070104, 16, 0x10, 1, 0x0, .hi, 0, 0, 0, 0, [], 0, 0, 0⟩,
  ⟨0x070108, 16, 0x10, 1, 0x0, .one, 0, 0, 0, 0, [], 0, 0, 0⟩,
  ⟨0x07010C, 16, 0x10, 1, 0x0, .one, 0, 0, 0, 0, [], 0, 0, 0⟩,
  ⟨0x071000, 64, 0x20, 1, 0x0, .lo, 0, 0, 0xFFFFFF, 0, [], 0, 0, 0⟩,
  ⟨0x071004, 64, 0x20, 1, 0x0, .hi, 0, 0, 0xFFFF0001, 0, [], 0, 0, 0⟩,
  ⟨0x071008, 64, 0x20, 1, 0x0, .lo, 0, 0, 0, 0, [], 0, 0, 0⟩,
  ⟨0x07100C, 64, 0x20, 1, 0x0, .hi, 0, 0, 0, 0, [], 0, 0, 0⟩,
  ⟨0x071010, 64, 0x20, 1, 0x0, .lo, 0, 0, 0, 0, [], 0, 0, 0⟩,
  ⟨0x071014, 64, 0x20, 1, 0x0, .hi, 0, 0, 0, 0, [], 0, 0, 0⟩]

/-- Rows of the LC_ registers. -/
def lcRows : List RegRow := [
  ⟨0x030000, 1, 0x0, 1, 0x0, .one, 0, 0, 0, 0x200000, [], 0, 0x200000, 0⟩,
  ⟨0x030004, 1, 0x0, 1, 0x0, .one, 0, 0, 0, 0, [], 0, 0, 0⟩,
  ⟨0x030008, 1, 0x0, 1, 0x0, .one, 0, 0, 0xF, 0, [], 0, 0, 0⟩,
  ⟨0x03000C, 1, 0x0, 1, 0x0, .one, 0, 0, 0, 0, [], 0, 0, 0⟩,
  ⟨0x030010, 1, 0x0, 1, 0x0, .one, 0, 0, 0, 0, [], 0, 0, 0⟩,
  ⟨0x030020, 1, 0x0, 1, 0x0, .one, 0, 0, 0x1, 0, [], 0x2, 0, 0⟩,
  ⟨0x030024, 1, 0x0, 1, 0x0, .one, 0, 0, 0xFFFFFFFF, 0, [], 0, 0, 0⟩,
  ⟨0x030028, 1, 0x0, 1, 0x0, .one, 0, 0, 0, 0, [], 0, 0, 0⟩]

/-- Rows of the RST_ registers. -/
def rstRows : List RegRow := [
  ⟨0x040000, 1, 0x0, 1, 0x0, .one, 0, 0, 0, 0xE0000, [], 0, 0xFFE000F, 1⟩,
  ⟨0x040004, 1, 0x0, 1, 0x0, .one, 0, 0, 0, 0x20, [], 0, 0, 0⟩,
  ⟨0x040008, 1, 0x0, 1, 0x0, .one, 0, 0, 0, 0, [], 0, 0, 0⟩,
  ⟨0x040010, 1, 0x0, 1, 0x0, .one, 0, 0, 0, 0, [], 0, 0, 0⟩,
  ⟨0x040040, 1, 0x0, 1, 0x0, .one, 0xFFFFFFFF, 0, 0, 0, [], 0, 0, 0⟩,
  ⟨0x040044, 1, 0x0, 1, 0x0, .one, 0, 0, 0, 0, [(31, 24), (23, 16), (15, 8), (7, 0)], 0, 0, 0⟩,
  ⟨0x040100, 32, 0x4, 1, 0x0, .one, 0x8000000F, 0, 0, 0, [], 0, 0, 0⟩]

/-- Rows of the OBS_ registers. -/
def obsRows : List RegRow := [
  ⟨0x050000, 1, 0x0, 1, 0x0, .one, 0, 0, 0, 0x82, [], 0, 0, 0⟩,
  ⟨0x050004, 1, 0x0, 1, 0x0, .one, 0, 0, 0, 0, [], 0, 0, 0⟩,
  ⟨0x050008, 1, 0x0, 1, 0x0, .one, 0, 0, 0, 0, [(31, 0)], 0, 0xFFFFFFFF, 0⟩,
  ⟨0x05000C, 1, 0x0, 1, 0x0, .one, 0, 0, 0, 0, [], 0, 0, 0⟩,
  ⟨0x050010, 1, 0x0, 1, 0x0, .one, 0, 0, 0x1F, 0, [], 0, 0, 0⟩,
  ⟨0x050018, 1, 0x0, 1, 0x0, .lo, 0, 0, 0, 0, [], 0, 0, 0⟩,
  ⟨0x05001C, 1, 0x0, 1, 0x0, .hi, 0, 0, 0, 0, [], 0, 0, 0⟩,
  ⟨0x050020, 1, 0x0, 1, 0x0, .lo, 0, 0, 0, 0, [], 0, 0, 0⟩,
  ⟨0x050024, 1, 0x0, 1, 0x0, .hi, 0, 0, 0, 0, [], 0, 0, 0⟩,
  ⟨0x050030, 1, 0x0, 1, 0x0, .one, 0, 0, 0x3, 0, [], 0, 0, 0⟩,
  ⟨0x050034, 1, 0x0, 1, 0x0, .one, 0, 0, 0x11F0FFF, 0, [], 0, 0, 0x140DFF⟩,
  ⟨0x050038, 1, 0x0, 1, 0x0, .one, 0, 0, 0, 0, [], 0, 0, 0⟩,
  ⟨0x05003C, 1, 0x0, 1, 0x0, .one, 0, 0, 0, 0, [], 0, 0, 0⟩,
  ⟨0x050040, 1, 0x0, 1, 0x0, .one, 0, 0, 0, 0, [], 0, 0, 0⟩,
  ⟨0x050044, 1, 0x0, 1, 0x0, .one, 0, 0, 0, 0, [], 0, 0, 0⟩,
  ⟨0x050100, 16, 0x10, 1, 0x0, .lo, 0xFFFFFFC0, 0, 0, 0, [], 0, 0, 0⟩,
  ⟨0x050104, 16, 0x10, 1, 0x0, .hi, 0xFFFFFFFF, 0, 0, 0, [], 0, 0, 0⟩,
  ⟨0x050108, 16, 0x10, 1, 0x0, .one, 0xFFFF, 0, 0, 0, [], 0, 0, 0⟩,
  ⟨0x05010C, 16, 0x10, 1, 0x0, .one, 0, 0, 0, 0, [], 0, 0, 0⟩]

/-- Every register of the window. -/
def regRows : List RegRow :=
  glbRows ++ dtRows ++ keyRows ++ lcRows ++ rstRows ++ obsRows ++ cmdRows ++ objRows ++ hstRows ++ rpRows ++ sgRows
    ++ lnkRows

/-- An offset belongs to an indexed family. -/
def RegRow.has (r : RegRow) (off : Nat) : Bool :=
  if off < r.base then false
  else if r.n1 = 1 then decide (off = r.base)
  else
    let d := off - r.base
    let i := d / r.s1
    if r.n2 = 1 then decide (i < r.n1) && decide (d % r.s1 = 0)
    else decide (i < r.n1) && decide (d % r.s1 / r.s2 < r.n2) && decide (d % r.s1 % r.s2 = 0)

/-- The rows in which a register of the window at `off` can stand (the windows of R8). In the S-profile, the window at
0x0010_0000 holds the reduction pool. -/
def rowsAt (pr : Profile) (off : Nat) : List RegRow :=
  if off < 0x10000 then glbRows
  else if off < 0x20000 then dtRows
  else if off < 0x30000 then keyRows
  else if off < 0x40000 then lcRows
  else if off < 0x50000 then rstRows
  else if off < 0x60000 then obsRows
  else if off < 0x70000 then cmdRows
  else if off < 0x80000 then objRows
  else if off < 0x90000 then hstRows
  else if off < 0x100000 then []
  else if off < 0x180000 then (if pr = .s then rpRows else sgRows)
  else if off < 0x200000 then []
  else if off < 0x320000 then lnkRows
  else []

/-- The row of the register at an offset; `none` for a reserved offset. -/
def regRow (pr : Profile) (off : Nat) : Option RegRow := (rowsAt pr off).find? fun r => r.has off

/-- The offset belongs to a unit, port or group that the integration parameters or the profile leave out (R8, R10, R57). -/
def unitAbsent (p : Params) (off : Nat) : Bool :=
  if 0x100000 ≤ off ∧ off < 0x180000 then
    if p.profile = .s then decide (0x110000 ≤ off)
    else
      decide (p.sgCount ≤ (off - 0x100000) / 0x10000)
        || ((decide (off % 0x10000 = 0x8100) || decide (off % 0x10000 = 0x8104)) && decide (p.profile ≠ .a))
        || ((decide (off % 0x10000 = 0x8800) || decide (off % 0x10000 = 0x8804)) && decide (p.profile ≠ .m))
  else if 0x200000 ≤ off ∧ off < 0x320000 then decide (p.fpCount ≤ (off - 0x200000) / 0x10000)
  else if 0x10100 ≤ off ∧ off < 0x10200 then decide (p.fpCount ≤ (off - 0x10100) / 8)
  else if 0x80000 ≤ off ∧ off < 0x90000 then
    decide (p.hcCount = 0)
      || (decide (0x80010 ≤ off) && decide (off < 0x80100) && decide (p.hcCount ≤ (off - 0x80010) / 0x10))
      || (decide (0x80200 ≤ off) && decide (off < 0x80300) && decide (p.hcCount ≤ (off - 0x80200) / 0x40))
  else if p.profile = .s ∧ 0x100 ≤ off ∧ off < 0x140 then true
  else false

/-- The value a register's stored bits hold at reset. -/
def regReset (pr : Profile) (off : Nat) : Word :=
  match regRow pr off with
  | some r => r.reset
  | none => 0

/-- A field of a word replaced. -/
def setBits (w : Word) (hi lo v : Nat) : Word :=
  let m := 2 ^ (hi + 1 - lo)
  BitVec.ofNat 32 (w.toNat - w.toNat / 2 ^ lo % m * 2 ^ lo + v % m * 2 ^ lo)

/-- A field placed at a bit position, for a computed word. -/
def put (lo v : Nat) : Word := BitVec.ofNat 32 (v * 2 ^ lo)

/-- A flag placed at a bit position. -/
def putB (lo : Nat) (b : Bool) : Word := if b then BitVec.twoPow 32 lo else 0

end Sys2Proof.Machine
end

