-- ==== Sys2Proof/Machine/Ops.lean ====
section
/-!
DEFINITION. The named operations that every family shares: one updater per unit, registers, counters, stamps, the press
record, partition state, key slots, and what the block answers in each phase.
-/
namespace Sys2Proof.Machine

/-- What a step answers. -/
abbrev Ans := Host.Outcome State Fault Refusal

/-! One updater per unit: a meaning changes State only through these, `emit` and `draw`. -/

/-- Change the register file. -/
def State.modRegf (f : Regf → Regf) (s : State) : State := { s with regf := f s.regf }
/-- Change the pins. -/
def State.modPins (f : Pins → Pins) (s : State) : State := { s with pins := f s.pins }
/-- Change reset, bring-up and life-cycle. -/
def State.modBoot (f : Boot → Boot) (s : State) : State := { s with boot := f s.boot }
/-- Change domain time. -/
def State.modDt (f : Dt → Dt) (s : State) : State := { s with dt := f s.dt }
/-- Change the key store. -/
def State.modKey (f : Key → Key) (s : State) : State := { s with key := f s.key }
/-- Change the sector groups. -/
def State.modSg (f : Sg → Sg) (s : State) : State := { s with sg := f s.sg }
/-- Change sharing and power. -/
def State.modShare (f : Share → Share) (s : State) : State := { s with share := f s.share }
/-- Change remote operations and reductions. -/
def State.modRem (f : Rem → Rem) (s : State) : State := { s with rem := f s.rem }
/-- Change the links. -/
def State.modLnk (f : Lnk → Lnk) (s : State) : State := { s with lnk := f s.lnk }
/-- Change the host ports. -/
def State.modHst (f : Hst → Hst) (s : State) : State := { s with hst := f s.hst }
/-- Change the command processor. -/
def State.modCmd (f : Cmd → Cmd) (s : State) : State := { s with cmd := f s.cmd }
/-- Change contexts, objects and fences. -/
def State.modObju (f : ObjU → ObjU) (s : State) : State := { s with obju := f s.obju }
/-- Change partitions, attestation and management. -/
def State.modAtt (f : Att → Att) (s : State) : State := { s with att := f s.att }
/-- Change the reset units. -/
def State.modRst (f : Rst → Rst) (s : State) : State := { s with rst := f s.rst }
/-- Change observability. -/
def State.modObs (f : Obs → Obs) (s : State) : State := { s with obs := f s.obs }
/-- Put something out at a port. -/
def State.emit (o : Out) (s : State) : State := { s with out := s.out ++ [o] }
/-- The next free value (log entry 2). -/
def State.free (s : State) : BitVec 512 := Config.free s.fresh
/-- A free value has been used. -/
def State.used (s : State) : State := { s with fresh := s.fresh + 1 }

/-- Apply a change when a condition holds. -/
def when (b : Bool) (f : State → State) (s : State) : State := if b then f s else s

/-- Apply one change for each element of a list, in order. -/
def each {α : Type} (l : List α) (f : α → State → State) (s : State) : State := l.foldl (fun t x => f x t) s

/-! Registers. -/

/-- The stored bits of a register in force (C-class fields after their commit). -/
def State.reg (s : State) (off : Nat) : Word := s.regf.regs.get (regReset s.params.profile off) off

/-- Store the bits of a register. -/
def State.setReg (off : Nat) (w : Word) (s : State) : State :=
  s.modRegf fun r => { r with regs := r.regs.set (regReset s.params.profile off) off w }

/-- A field of a stored register. -/
def State.fld (s : State) (off hi lo : Nat) : Nat := bits (s.reg off) hi lo

/-- Replace a field of a stored register. -/
def State.setFld (off hi lo v : Nat) (s : State) : State := s.setReg off (setBits (s.reg off) hi lo v)

/-- Set one bit of a stored register (a W1C flag, a refusal mark). -/
def State.flag (off i : Nat) (s : State) : State := s.setReg off (setBit (s.reg off) i true)

/-- Add to a counting field that saturates at its width. -/
def State.count (off hi lo n : Nat) (s : State) : State :=
  s.setFld off hi lo (satAdd (2 ^ (hi + 1 - lo) - 1) (s.fld off hi lo) n)

/-- The 64-bit value of a LO/HI pair. -/
def State.pair (s : State) (lo : Nat) : Nat := (s.reg lo).toNat + (s.reg (lo + 4)).toNat * 2 ^ 32

/-- An access under R10 is recorded (R10, R18, R507). -/
def State.busErr (addr : Nat) (s : State) : State :=
  let t := if bit (s.reg rGlbBuserr) 0 then s.flag rGlbBuserr 1
    else s.setReg rGlbBuserr (s.reg rGlbBuserr ||| put 0 (addr % 0x400000 / 4 * 4 + 1))
  t.modObs fun o => { o with glob := o.glob.upd 0 39 fun c => c + 1 }

/-! Time. -/

/-- Nominal DT_RATE (R105). -/
def nominalRate : Nat := 0x066666666666

/-- The increment of domain time in one TREF period, in 2^-40 ns: DT_RATE with the slew on top, a part of the nominal rate, so that the
two together stay within 500 ppm (R105, R107, R114). -/
def State.dtIncrement (s : State) : Nat :=
  (Int.ofNat s.dt.rate + (Int.ofNat nominalRate * s.dt.slew).tdiv 1000000).toNat

/-- VCLK cycles of the TREF period last measured (R106). -/
def State.measured (s : State) : Nat := max 1 (Config.vclkPerTref (s.tref - 1))

/-- Domain time in 2^-40 ns: the counter, interpolated on VCLK since the last TREF edge (R106); it never passes the value that the next
edge gives. -/
def State.dtFine (s : State) : Nat :=
  if s.sg.clk = s.dt.edge then s.dt.cnt.toNat
  else s.dt.cnt.toNat + s.dtIncrement * min (s.sg.clk - s.dt.edge) s.measured / s.measured

/-- Domain time in ns, truncated; 0 while it is OFF (R105, R106, R116). -/
def State.now (s : State) : Nat := if s.dt.st = 0 then 0 else s.dtFine / 2 ^ 40

/-- Time from `a` to `b` during which a STOP of the partition was ACTIVE (R139). -/
def State.stopSpan (s : State) (p a b : Nat) : Nat :=
  let x := s.dt.stops.get Stop.none p
  ((s.dt.stopLog.filter fun y => decide (y.1 = p)).map fun y => min b y.2.2 - max a y.2.1).sum
    + if x.active then b - max a x.since else 0

/-- Domain time that has passed for a partition since an instant: what passed while a STOP of it was ACTIVE does not count (R139,
R269). -/
def State.elapsed (s : State) (p t : Nat) : Nat := s.now - t - s.stopSpan p t s.now

/-- The stamp of a record: domain time, or the stamp clock while domain time is OFF (R222, R512, R525). -/
def State.stamp (s : State) : Nat := if s.dt.st = 0 then s.sg.clk else s.now

/-- Domain time is OFF: a stamp is the stamp clock. -/
def State.stampIsClock (s : State) : Bool := decide (s.dt.st = 0)

/-- Domain time is LOCKED (R116). -/
def State.locked (s : State) : Bool := decide (s.dt.st = 2)

/-! Partitions (R38). Codes: 0 FREE, 1 LOCAL, 2 BOUND, 3 JOINED, 4 FENCED, 5 SCRUBBING. -/

/-- A partition. -/
def State.part (s : State) (p : Nat) : Part := s.att.parts.get Part.free p

/-- Change a partition. -/
def State.modPart (p : Nat) (f : Part → Part) (s : State) : State :=
  s.modAtt fun a => { a with parts := a.parts.upd Part.free p f }

/-- State code of a partition. -/
def State.pst (s : State) (p : Nat) : Nat := (s.part p).st

/-- The 16 partition numbers. -/
def parts16 : List Nat := List.range 16

/-- Partitions that are not FREE. -/
def State.held (s : State) : List Nat := parts16.filter fun p => decide (s.pst p ≠ 0)

/-- Domain identifier of a partition's manifest; 0 when it has none. -/
def State.domainOf (s : State) (p : Nat) : DWord :=
  match (s.part p).man with
  | some m => m.domain
  | none => 0

/-- The partition that belongs to a domain. -/
def State.partOfDomain (s : State) (d : DWord) : Option Nat :=
  parts16.find? fun p => decide (s.pst p ≠ 0) && (s.part p).man.any fun m => decide (m.domain = d)

/-! Counters (R506, R507). -/

/-- Add to a global counter. -/
def State.glob (i n : Nat) (s : State) : State :=
  s.modObs fun o => { o with glob := o.glob.upd 0 i fun c => c + BitVec.ofNat 64 n }

/-- Add to partition counter `i`; the global counter of the same index sums it over all partitions. A FREE or SCRUBBING
partition has no counter set. -/
def State.cntr (p i n : Nat) (s : State) : State :=
  if s.pst p = 0 ∨ s.pst p = 5 then s
  else (s.modObs fun o => { o with cnt := o.cnt.upd 0 (32 * p + i) fun c => c + BitVec.ofNat 64 n }).glob i n

/-- Counters published at quantisation instants only. -/
def isQ (i : Nat) : Bool := decide (i = 6 ∨ i = 7 ∨ i = 24)

/-- A partition counter as it is read. -/
def State.readCntr (s : State) (p i : Nat) : DWord :=
  if s.pst p = 0 ∨ s.pst p = 5 ∨ 32 ≤ i then 0
  else if isQ i then s.obs.pub.get 0 (32 * p + i) else s.obs.cnt.get 0 (32 * p + i)

/-- A global counter belongs to a unit that is present and is no reserved index. -/
def globPresent (q : Params) (i : Nat) : Bool :=
  if i < 25 then true
  else if i < 32 then false
  else if i < 41 then true
  else if i < 64 then false
  else if i < 128 then decide ((i - 64) / 8 < q.sgCount)
  else if i < 272 then decide ((i - 128) / 8 < q.fpCount)
  else if i < 280 then decide ((i - 272) / 4 < q.hcCount)
  else false

/-- A global counter as it is read. -/
def State.readGlob (s : State) (i : Nat) : DWord := if globPresent s.params i then s.obs.glob.get 0 i else 0

/-- Empty the counter set of a partition. -/
def State.zeroCntrs (p : Nat) (s : State) : State :=
  s.modObs fun o =>
    { o with cnt := o.cnt.filter (fun x => decide (x.1 / 32 ≠ p)),
             pub := o.pub.filter (fun x => decide (x.1 / 32 ≠ p)) }

/-! The press record (R524 to R527). -/

/-- Something freezes the press record. -/
def State.frozen (s : State) : Bool := s.obs.frzBreach || s.obs.frzReset || s.obs.frzSupply

/-- The flash device answers and is large enough (R95). -/
def State.flashOk (s : State) : Bool :=
  match s.att.flash with
  | some n => decide (64 ≤ n)
  | none => false

/-- No usable flash: the device has been looked for and is absent or small (OBS_STATUS.FLASH_ABSENT). -/
def State.flashAbsent (s : State) : Bool :=
  match s.att.flash with
  | some n => decide (n < 64)
  | none => false

/-- A press record was not written (R524, R526). -/
def State.pressLoss (s : State) : State :=
  ((s.count rObsPressLost 31 0 1).glob 33 1).modObs fun o => { o with frzLost := if s.frozen then o.frzLost + 1 else o.frzLost }

/-- The next record would overwrite one that is not flushed yet. -/
def State.pressFull (s : State) : Bool :=
  !s.flashAbsent && decide (32768 ≤ (s.obs.pressSeq - s.obs.flushed).toNat)

/-- Write a press record (R525), or count it as lost. -/
def State.pressW (src : Nat) (st : Status) (p : Option Nat) (addr : Nat) (info : DWord) (freeze : Bool)
    (s : State) : State :=
  if s.frozen || s.pressFull then s.pressLoss
  else
    let r : Press :=
      { source := src, status := st, part := p, freeze := freeze, clock := s.stampIsClock, seq := s.obs.pressSeq,
        stamp := s.stamp, addr := addr, info := info }
    (s.modObs fun o =>
      { o with press := o.press.set Press.empty (o.pressSeq.toNat % 32768) r, pressSeq := o.pressSeq + 1,
               flushed :=
                if s.flashAbsent && decide (32768 ≤ (s.obs.pressSeq - s.obs.flushed).toNat) then o.flushed + 1
                else o.flushed }).glob 32 1

/-- A press record whose INFO the spec does not lay out (a free value). -/
def State.press (src : Nat) (st : Status) (p : Option Nat) (addr : Nat) (s : State) : State :=
  (s.pressW src st p addr (Config.pressInfo s.fresh) false).used

/-- Causes that freeze the press record (R526). -/
inductive Freeze where
  | breach | reset | supply
  deriving DecidableEq, Repr

/-- Put a freeze cause in force. -/
def State.setFreeze (c : Freeze) (s : State) : State :=
  s.modObs fun o =>
    match c with
    | .breach => { o with frzBreach := true }
    | .reset => { o with frzReset := true }
    | .supply => { o with frzSupply := true }

/-- Write the record of a freeze cause and freeze; on a frozen record only the cause is added. -/
def State.freezePress (c : Freeze) (src : Nat) (st : Status) (p : Option Nat) (addr : Nat) (s : State) : State :=
  ((s.pressW src st p addr (Config.pressInfo s.fresh) true).used).setFreeze c

/-- Release freeze causes: when none is left, a record of SOURCE 0x08 gives the count of records lost (R526). -/
def State.unfreeze (breach reset supply : Bool) (s : State) : State :=
  let t := s.modObs fun o =>
    { o with frzBreach := o.frzBreach && !breach, frzReset := o.frzReset && !reset,
             frzSupply := o.frzSupply && !supply }
  if s.frozen && !t.frozen then
    (t.pressW 8 .done none 0 (BitVec.ofNat 64 t.obs.frzLost) false).modObs fun o => { o with frzLost := 0 }
  else t

/-! Phases: what the block answers (R4, R457, R499, R532). -/

/-- How much of the block answers. -/
inductive Service where
  /-- In reset: every input but those of R67 is ignored. -/
  | off
  /-- Before the life-cycle decision (R532). -/
  | early
  /-- Restricted to identity (R4, R457, R499). -/
  | identity
  /-- Each unit answers as its chapter gives. -/
  | full
  deriving DecidableEq, Repr

/-- Service in the present phase. -/
def State.service (s : State) : Service :=
  if s.boot.phase = .inReset ∨ s.boot.phase = .stormHold then .off
  else if s.boot.decided = false then .early
  else if s.boot.mismatch ∨ s.boot.lc = 4 ∨ s.boot.lc = 7 ∨ s.boot.pwrOff then .identity
  else .full

/-- BLOCK_READY is 1 and no event has stopped admission: no warm reset under way, no chip request, no
transition burning, processor not halted, no breach (R467, R477, R486, R498, R499). -/
def State.admits (s : State) : Bool :=
  s.pins.blockReady && decide (s.service = .full) && decide (s.boot.warmRun = none) && !s.pins.chipRstReq
    && !s.boot.burning && !s.boot.halted && !s.boot.breached && decide (s.boot.phase = .ready)

/-- The memory and fabric ports run: out of reset, decided and not halted by a breach (R4, R457, R232). -/
def State.runs (s : State) : Bool := decide (s.service = .full) && !s.boot.breached

/-! Domain-time states (R116 to R121). Codes: 0 OFF, 1 ACQUIRING, 2 LOCKED, 3 HOLDOVER, 4 UNLOCKED. -/

/-- Domain time enters a state: a press record at every change; BOUND is 1 in LOCKED and, until it expires, in HOLDOVER. -/
def State.dtEnter (st : Nat) (s : State) : State :=
  if s.dt.st = st then s
  else
    (s.modDt fun d =>
      { d with st := st, runIn := 0, runNear := 0, runOut := 0, everLocked := d.everLocked || decide (st = 2),
               bound := decide (st = 2) || (decide (st = 3) && d.bound) }).press 7 .done none st

/-- A PTP port. -/
def State.ptp (s : State) (k : Nat) : PtpPort := s.dt.ptp.get PtpPort.none k
/-- Change a PTP port. -/
def State.modPtp (k : Nat) (f : PtpPort → PtpPort) (s : State) : State :=
  s.modDt fun d => { d with ptp := d.ptp.upd PtpPort.none k f }

/-! Gating units (R293), numbered: data sets 4 n + i, auxiliary sets 32 + n, accumulate quarters 40 + 4 n + i, link half-ports
72 + 2 k + h, host ports 108 + h, reduction-pool quarters 110 + i. -/

/-- A gating unit. -/
def State.gunit (s : State) (u : Nat) : GUnit := s.share.units.get GUnit.gated u
/-- Change a gating unit. -/
def State.modUnit (u : Nat) (f : GUnit → GUnit) (s : State) : State :=
  s.modShare fun x => { x with units := x.units.upd GUnit.gated u f }

/-- Work needs one of some units of a kind: an awake one serves it, else the first of them has a request waiting (R296). The
position of the request is one more than the greatest in use. -/
def State.wants (l : List Nat) (s : State) : State :=
  if l.any fun u => (s.gunit u).awake then s
  else match l with
    | [] => s
    | u :: _ =>
      if (s.gunit u).demand.isSome then s
      else s.modUnit u fun x =>
        { x with demand := some ((s.share.units.map fun y => (y.2.demand.getD 0) + 1).foldl max 0) }

/-- Work starts in a sector group for a partition: the group's data and auxiliary sets are needed, and a non-strict partition
spends a cycle of its deficit counter, which its turn has raised by its weight (R281, R290). -/
def State.groupWork (n p : Nat) (s : State) : State :=
  let t := (s.wants [4 * n, 4 * n + 1, 4 * n + 2, 4 * n + 3]).wants [32 + n]
  if t.share.strict.get false p then t
  else t.modShare fun x =>
    { x with deficit := x.deficit.upd 0 (16 * n + p) fun d =>
        (if d = 0 then min 80 (max 1 (x.weight.get 1 (16 * n + p))) else d) - 1 }

/-! Key slots (R141 to R148). STATE: 0 EMPTY, 1 LIVE, 2 RETIRING, 3 RETIRED. -/

/-- A key slot. -/
def State.slot (s : State) (n : Nat) : Slot := s.key.slots.get Slot.empty n

/-- Store a key slot. -/
def State.setSlot (n : Nat) (v : Slot) (s : State) : State :=
  s.modKey fun k => { k with slots := k.slots.set Slot.empty n v }

/-- Change a key slot. -/
def State.modSlot (n : Nat) (f : Slot → Slot) (s : State) : State := s.setSlot n (f (s.slot n))

/-! Fuses (R94, R459, R460). -/

/-- A fuse word as sensed. -/
def State.fuseW (s : State) (w : Nat) : Word := s.fuse.get 0 w

/-- One fuse bit programmed: it can only become 1. -/
def State.burn (w b : Nat) (s : State) : State :=
  { s with fuse := s.fuse.set 0 w (s.fuseW w ||| BitVec.twoPow 32 b) }

/-- A 64-bit life-cycle value at a word. -/
def State.fuse64 (s : State) (w : Nat) : Nat := (s.fuseW w).toNat + (s.fuseW (w + 1)).toNat * 2 ^ 32

/-- Number of ones of a byte of a word. -/
def onesIn (w : Word) (lo : Nat) : Nat := ((List.range 8).filter fun i => bit w (lo + i)).length

/-- A control of words 0x030 to 0x033 is in force: two of its copies are blown (R460). -/
def State.control (s : State) (w : Nat) : Bool :=
  decide (2 ≤ ([0, 8, 16].filter fun lo => decide (5 ≤ onesIn (s.fuseW w) lo)).length)

/-! Status codes (R22). -/

/-- The code of a status. -/
def stCode : Status → Nat
  | .done => 0x00 | .accepted => 0x01 | .refusedIssuer => 0x10 | .badOpcode => 0x11 | .badParam => 0x12
  | .busyStatic => 0x13 | .outOfSlots => 0x14 | .staleObject => 0x20 | .fenced => 0x21 | .poisoned => 0x22
  | .wilted => 0x23 | .unmapped => 0x24 | .memberLost => 0x25 | .indeterminate => 0x26 | .abandoned => 0x27
  | .lcForbids => 0x30 | .authFailed => 0x31 | .breach => 0x3F

/-- The status of a code, where the code is one of R22. -/
def codeSt (n : Nat) : Option Status :=
  [Status.done, .accepted, .refusedIssuer, .badOpcode, .badParam, .busyStatic, .outOfSlots, .staleObject, .fenced,
   .poisoned, .wilted, .unmapped, .memberLost, .indeterminate, .abandoned, .lcForbids, .authFailed,
   .breach].find? fun x => decide (stCode x = n)

/-- Of several failures the lowest code is returned (R24); DONE when there is none. -/
def lowest (l : List Status) : Status :=
  l.foldl (fun a x => if a = .done ∨ stCode x < stCode a then x else a) .done

/-- A failure when a check does not hold. -/
def need (b : Bool) (e : Status) : List Status := if b then [] else [e]

end Sys2Proof.Machine
end

