-- ==== Sys2Proof/Machine/Slots.lean ====
section
/-!
DEFINITION. Derivations (R156 to R162) and the life of key slots (R144 to R151, R165 to R168).
-/
namespace Sys2Proof.Machine

/-! Key-derivation functions (R156). -/

/-- The fixed input of output block `i`. -/
def kdfFixed (i : Nat) (label : String) (ctx : List Byte) (l : Nat) : List Byte :=
  [BitVec.ofNat 8 i] ++ ascii label ++ [0] ++ ctx ++ leBytes 2 l

/-- KDF_H: counter mode over HMAC-SHA-384; the first `l` bits, as bytes. -/
def kdfH (key : List Byte) (label : String) (ctx : List Byte) (l : Nat) : List Byte :=
  (((List.range ((l + 383) / 384)).map fun i =>
    beBytes 48 (Config.hmac384 key (kdfFixed (i + 1) label ctx l)).toNat).flatten).take (l / 8)

/-- KDF_C: counter mode over CMAC-AES-256; the first `l` bits, as bytes. -/
def kdfC (key : BitVec 256) (label : String) (ctx : List Byte) (l : Nat) : List Byte :=
  (((List.range ((l + 127) / 128)).map fun i =>
    beBytes 16 (Config.cmac256 key (kdfFixed (i + 1) label ctx l)).toNat).flatten).take (l / 8)

/-- A 256-bit key from its bytes. -/
def key256 (l : List Byte) : BitVec 256 := BitVec.ofNat 256 (ofBe l)

/-- The bytes of a slot value of `n` bytes. -/
def valBytes (n : Nat) (v : BitVec 512) : List Byte := beBytes n v.toNat

/-- The object key set (R157, R161): K_data, K_twk and K_mac. -/
structure KeySet where
  data : BitVec 256
  twk : BitVec 256
  mac : BitVec 256
  deriving DecidableEq, Repr

/-- The object key set of an object under a memory slot's value (R157, R164). -/
def objKeys (value : BitVec 512) (obj gen p slot : Nat) : KeySet :=
  let b := kdfC (value.setWidth 256) "VMR.OBJ" (leBytes 4 obj ++ leBytes 3 gen ++ leBytes 1 p ++ leBytes 2 slot) 768
  { data := key256 (b.take 32), twk := key256 ((b.drop 32).take 32), mac := key256 (b.drop 64) }

/-- The tree key of a memory slot (R157, R161). -/
def treeKey (value : BitVec 512) (p slot : Nat) : BitVec 256 :=
  key256 (kdfC (value.setWidth 256) "VMR.TREE" (leBytes 1 p ++ leBytes 2 slot) 256)

/-- The epoch-0 secret of one direction (R157, R159). -/
def epoch0 (app : List Byte) (domain : DWord) (snd rcv port p : Nat) : BitVec 512 :=
  BitVec.ofNat 512 (ofBe (kdfH app "VMR.LNK0"
    (leBytes 8 domain.toNat ++ leBytes 2 snd ++ leBytes 2 rcv ++ leBytes 1 port ++ leBytes 1 p) 384))

/-- The secret of epoch e + 1 from that of epoch e (R157, R160). -/
def epochNext (secret : BitVec 512) (e : Nat) : BitVec 512 :=
  BitVec.ofNat 512 (ofBe (kdfH (valBytes 48 secret) "VMR.LNKE" (leBytes 4 (e + 1)) 384))

/-- The frame key and the session salt of an epoch (R157). -/
def epochKey (secret : BitVec 512) : BitVec 256 × List Byte :=
  let b := kdfH (valBytes 48 secret) "VMR.LNKK" [] 288
  (key256 (b.take 32), b.drop 32)

/-- The flow seed of a session (R157). -/
def flowSeed (tx0 : BitVec 512) : BitVec 512 := BitVec.ofNat 512 (ofBe (kdfH (valBytes 48 tx0) "VMR.FLOWS" [] 384))

/-- The flow-entropy key of a re-salt count (R157). -/
def flowKey (seed : BitVec 512) (r : Nat) : BitVec 256 := key256 (kdfH (valBytes 48 seed) "VMR.FLOW" (leBytes 4 r) 256)

/-- The rounding key of a partition (R157, R247). -/
def roundKey (seed : BitVec 512) (p : Nat) : BitVec 256 := key256 (kdfH (valBytes 32 seed) "VMR.SRND" (leBytes 1 p) 256)

/-- Bytes a slot value of a use has (R142). -/
def useBytes (use : Nat) : Nat := if use = 1 ∨ use = 4 ∨ use = 5 then 48 else 32

/-- The key identifier of a slot value (R157). -/
def keyId (v : BitVec 512) (use : Nat) : Digest :=
  BitVec.ofNat 384 (ofBe (kdfH (valBytes (useBytes use) v) "VMR.KID" (leBytes 1 use) 384))

/-- A list of exactly `n` bytes. -/
def fit (n : Nat) (l : List Byte) : List Byte := (l ++ List.replicate n 0).take n

/-- The CMAC subkey of a memory key (R142): K1 of NIST SP 800-38B. -/
def cmacSubkey (v : BitVec 512) : BitVec 128 :=
  let l := Config.aes256 (v.setWidth 256) 0
  (l <<< 1) ^^^ (if l.msb then 0x87 else 0)

/-! Seeds of the asymmetric keys (R162): every private key is drawn from a slot's 384-bit value, never stored. -/

/-- The order of the P-384 group (FIPS 186-5). -/
def p384Order : Nat := 0xffffffffffffffffffffffffffffffffffffffffffffffffc7634d81f4372ddf581a0db248b0a77aecec196accc52973

/-- The P-384 private key of a slot value: c in 448 bits, then (c mod (n - 1)) + 1 (R162). -/
def p384Key (v : BitVec 512) : Nat := ofBe (kdfH (valBytes 48 v) "VMR.P384" [] 448) % (p384Order - 1) + 1

/-- The ML-DSA-87 seed of a slot value (R162). -/
def mldsaSeed (v : BitVec 512) : List Byte := kdfH (valBytes 48 v) "VMR.MLDSA" [] 256

/-- The ML-KEM-1024 seeds d and z of a slot value (R162). -/
def mlkemSeed (v : BitVec 512) : List Byte := kdfH (valBytes 48 v) "VMR.MLKEM" [] 512

/-- The P-384 point of a slot value, uncompressed. -/
def p384Point (v : BitVec 512) : List Byte := fit 97 (Config.p384Public (p384Key v))

/-- Digest of a signing pair (R174): SHA-384 of the P-384 point followed by the ML-DSA-87 public key. -/
def signDigest (v : BitVec 512) : Digest := Config.sha384 (p384Point v ++ Config.mldsaPublic (mldsaSeed v))

/-- Digest of a key-exchange pair (R174): SHA-384 of the P-384 point followed by the ML-KEM-1024 public key. -/
def exchDigest (v : BitVec 512) : Digest := Config.sha384 (p384Point v ++ Config.mlkemPublic (mlkemSeed v))

/-- The 96 bytes of an ECDSA signature by a slot value (R163, R174). -/
def ecSig (v : BitVec 512) (msg : List Byte) (nonce : BitVec 512) : List Byte := fit 96 (Config.ecdsaSign (p384Key v) msg nonce)

/-- The 4,627 bytes of an ML-DSA-87 signature by a slot value: its context string is the label of the record (R163, R174). -/
def mldsaSig (v : BitVec 512) (label msg : List Byte) (rnd : BitVec 512) : List Byte :=
  fit 4627 (Config.mldsaSign (mldsaSeed v) label msg rnd)

/-- The hybrid secret (R157, R158): ss_ecdh, ss_kem, the requester's exchange data and the responder's. -/
def hybridSecret (ecdh kem req rsp : List Byte) : Digest :=
  BitVec.ofNat 384 (ofBe (kdfH (fit 48 ecdh ++ fit 32 kem) "VMR.HYB" (beBytes 48 (Config.sha384 (req ++ rsp)).toNat) 384))

/-! Slots. -/

/-- The attribute word of a slot (R143). -/
def Slot.attr (v : Slot) : Word :=
  put 12 (if v.block then 0 else v.part) ||| putB 11 v.block ||| put 9 v.st ||| putB 8 v.retain ||| putB 7 v.meas
    ||| putB 6 v.lcb ||| put 4 v.origin ||| putB 3 v.exportable ||| put 0 v.use

/-- Attribute combinations a slot may be created with (R144). -/
def attrOk (use origin : Nat) (exportable retain meas : Bool) : Bool :=
  if use = 0 then !exportable && retain && !meas
  else if use = 1 ∨ use = 2 ∨ use = 5 then !exportable && !retain && !meas
  else if use = 4 then !exportable && !retain
  else if use = 3 then !exportable || decide (origin = 0) || decide (origin = 2)
  else false

/-- The cap on pool slots of a partition (KEY_QUOTAp). -/
def State.quota (s : State) (p : Nat) : Nat := min 3968 (s.fld (rKeyQuota p) 11 0)

/-- Pool slots of a partition that are not EMPTY. -/
def State.poolUsed (s : State) (p : Nat) : Nat :=
  (s.key.slots.filter fun x => decide (128 ≤ x.1) && decide (x.2.st ≠ 0) && decide (x.2.part = p)).length

/-- The lowest EMPTY slot of the pool, at or above `n`, among `k` slots. -/
def lowestEmpty (t : Tab Slot) : Nat → Nat → Option Nat
  | 0, _ => none
  | k + 1, n => if (t.get Slot.empty n).st = 0 then some n else lowestEmpty t k (n + 1)

/-- The slot a request of a partition takes, or none: its quota is full or no pool slot is EMPTY (R145). -/
def State.takeSlot (s : State) (p : Nat) : Option Nat :=
  if s.quota p ≤ s.poolUsed p then none else lowestEmpty s.key.slots 3968 128

/-- `n` slots for a partition, or none. -/
def State.canTake (s : State) (p n : Nat) : Bool :=
  decide (s.poolUsed p + n ≤ s.quota p)
    && decide (n ≤ 3968 - (s.key.slots.filter fun x => decide (128 ≤ x.1) && decide (x.2.st ≠ 0)).length)

/-- A slot as it becomes LIVE (R143, R144, R174). -/
def State.liveSlot (s : State) (p use origin : Nat) (block exportable retain meas : Bool) (v : BitVec 512) : Slot :=
  { st := 1, part := p, block := block, retain := retain, meas := meas, lcb := true, origin := origin,
    exportable := exportable, use := use, value := v, subkey := if use = 0 then cmacSubkey v else 0, created := s.now, mAt := s.key.mfw, lcAt := s.boot.lc }

/-- Fill a slot. -/
def State.fill (n p use origin : Nat) (block exportable retain meas : Bool) (v : BitVec 512) (s : State) : State :=
  s.setSlot n (s.liveSlot p use origin block exportable retain meas v)

/-- Zeroise the derived-key-cache entries of a slot (R168). -/
def State.dropDkc (n : Nat) (s : State) : State :=
  s.modKey fun k => { k with dkc := k.dkc.filter fun t => decide (t.1.slot ≠ n) }

/-- Zeroise the derived-key-cache entry of a tag; a derivation of it in flight is not inserted (R167). -/
def State.dropTag (t : KeyTag) (s : State) : State :=
  s.modKey fun k =>
    { k with dkc := k.dkc.filter (fun x => decide (x.1 ≠ t)),
             deriv := k.deriv.map fun d => if d.tag = t then { d with stale := true } else d }

/-- Retire a slot: LIVE becomes RETIRING, its derived-key-cache entries are zeroised, and a derivation in flight is not inserted (R147,
R148, R168). -/
def State.retire (n : Nat) (s : State) : State :=
  if (s.slot n).st = 1 then
    ((s.modSlot n fun v => { v with st := 2 }).dropDkc n).modKey fun k =>
      { k with deriv := k.deriv.map fun d => if d.tag.slot = n then { d with stale := true } else d }
  else s

/-- An operation admitted earlier still runs under the slot's value (R148). -/
def State.slotBusy (s : State) (n : Nat) : Bool :=
  s.key.deriv.any (fun d => decide (d.tag.slot = n)) || s.key.cce.any (fun m => decide (m.slot = n))
    || s.sg.accs.any (fun a => decide (a.slot = n)) || s.sg.saQ.any (fun w => decide (w.slot = n)) || s.key.dkc.any (fun t => decide (t.1.slot = n))

/-- An anchor entry names the slot (R147). -/
def State.anchorNames (s : State) (n : Nat) : Bool :=
  s.sg.anchors.any fun x => decide (x.2.st ≠ 0) && decide (x.2.slot = n)

/-- What a slot was retired for is derived into it (R321, R326); nothing when the slot it derives from has gone. -/
def State.refillSlot (n : Nat) (s : State) : State :=
  match s.key.refill.get none n with
  | none => s
  | some f =>
    let v := s.slot f.src
    let t := s.modKey fun k => { k with refill := k.refill.set none n none }
    if v.st = 1 then
      t.fill n v.part 1 1 v.block false false false
        (if f.salt then (flowKey v.value f.n).setWidth 512 else epochNext v.value f.n)
    else t

/-- Zeroise and release a slot that no longer holds a use: RETIRED, and EMPTY at once unless it is a memory slot that an
anchor entry names (R147). -/
def State.finishRetire (n : Nat) (s : State) : State :=
  if (s.slot n).use = 0 ∧ s.anchorNames n then s.modSlot n fun v => { v with st := 3, value := 0, subkey := 0 }
  else (s.setSlot n Slot.empty).refillSlot n

/-- A RETIRING slot without a use is released now (R147): something is to be derived into it. -/
def State.settleSlot (n : Nat) (s : State) : State := if (s.slot n).st = 2 ∧ !s.slotBusy n then s.finishRetire n else s

/-- Retire a slot, with what is to be derived into it afterwards. -/
def State.retireFor (n : Nat) (f : Refill) (s : State) : State :=
  (s.retire n).modKey fun k => { k with refill := k.refill.set none n (some f) }

/-- Retire the slots of a session that ends: nothing is derived into them any more. -/
def State.retireAll (l : List Nat) (s : State) : State :=
  (each l State.retire s).modKey fun k => { k with refill := k.refill.filter fun x => !l.contains x.1 }

/-- A block-owned slot takes a value anew: the value it held retires first (R147). -/
def State.renew (n use origin : Nat) (v : BitVec 512) (s : State) : State :=
  ((s.retire n).settleSlot n).fill n 0 use origin true false false false v

/-- Numbers of the slots that a condition picks. -/
def State.slotsWhere (s : State) (f : Nat → Slot → Bool) : List Nat :=
  (s.key.slots.filter fun x => decide (x.2.st ≠ 0) && f x.1 x.2).map fun x => x.1

/-- Zeroise and retire every memory slot (R151, R232, R498, R499): none of them has a use left. -/
def State.wipeMemSlots (s : State) : State :=
  each (s.slotsWhere fun _ v => decide (v.use = 0) && decide (v.st ≠ 3)) (fun n t => (t.retire n).finishRetire n)
    (s.modKey fun k => { k with dkc := [] })

/-- Zeroise the slots a condition picks (R475, R151). -/
def State.clearSlots (f : Nat → Slot → Bool) (s : State) : State :=
  s.modKey fun k =>
    { k with slots := k.slots.filter (fun x => !f x.1 x.2),
             dkc := k.dkc.filter fun t => !(k.slots.any fun x => decide (x.1 = t.1.slot) && f x.1 x.2) }

/-! The public-key engine (R163, R184). -/

/-- Put an operation in the engine's queue: link set-up before management and host work, the running one undisturbed. -/
def State.pkeAdd (j : PkeJob) (s : State) : State :=
  s.modKey fun k =>
    match k.pke with
    | [] => { k with pke := [j] }
    | r :: q =>
      if j.link then { k with pke := r :: (q.filter fun x => x.link) ++ [j] ++ q.filter fun x => !x.link }
      else { k with pke := r :: q ++ [j] }

end Sys2Proof.Machine
end

