-- ==== Sys2Proof/Machine/Sector.lean ====
section
/-!
DEFINITION. Sectors: addresses, regions and carve-out (R98 to R101, R185, R200, R202), the Vimer MAC (R188 to R191), the
metadata cache and the tree walk (R193, R194, R203 to R207), and how a protected access is started (R205, R212 to R215).
-/
namespace Sys2Proof.Machine

/-! Addresses (R98, R100, R185). -/

/-- Bytes of protected memory per anchor entry. -/
def State.span (s : State) : Nat := if s.params.span8 then 8 * 2 ^ 20 else 2 ^ 20
/-- Sectors per region. -/
def State.sectsPerRegion (s : State) : Nat := s.span / 256
/-- Top level of the tree (R193). -/
def State.topLevel (s : State) : Nat := if s.params.span8 then 4 else 3
/-- MACs of a region (R200). -/
def State.macs (s : State) : Nat := if s.params.span8 then 4681 else 585
/-- Bytes of metadata of a region (R101). -/
def State.recSize (s : State) : Nat := if s.params.span8 then 599232 else 74944

/-- The select-bit positions in use, lowest first. -/
def State.ilv (s : State) : List Nat :=
  [s.fld rGlbIlv 13 8, s.fld rGlbIlv 21 16, s.fld rGlbIlv 29 24].take (s.fld rGlbIlv 1 0)

/-- GLB_ILV keeps R99. -/
def State.ilvOk (s : State) : Bool :=
  let n := s.fld rGlbIlv 1 0
  (decide (n = 0) || decide (2 ^ n = s.params.sgCount))
    && s.ilv.all (fun q => decide (8 ≤ q) && decide (q ≤ 51))
    && decide (s.ilv.Pairwise (· < ·))

/-- An address with one bit removed. -/
def dropBit (a pos : Nat) : Nat := a % 2 ^ pos + a / 2 ^ (pos + 1) * 2 ^ pos
/-- An address with one bit inserted. -/
def insBit (a pos b : Nat) : Nat := a % 2 ^ pos + b * 2 ^ pos + a / 2 ^ pos * 2 ^ (pos + 1)

/-- The group that the select bits of a host address name (R98). -/
def State.selGroup (s : State) (addr : Nat) : Nat :=
  (s.ilv.zipIdx.map fun x => addr / 2 ^ x.1 % 2 * 2 ^ x.2).sum

/-- The group-local address of a host address. -/
def State.toLocal (s : State) (addr : Nat) : Nat := s.ilv.reverse.foldl dropBit addr

/-- The MS address of a group-local address. -/
def State.toMs (s : State) (n g : Nat) : Nat :=
  (s.ilv.zipIdx).foldl (fun a x => insBit a x.1 (n / 2 ^ x.2 % 2)) g

/-- SGn_MEM_CTRL.ENABLE. -/
def State.sgOn (s : State) (n : Nat) : Bool := decide (n < s.params.sgCount) && bit (s.reg (rSgMemCtrl n)) 0
/-- Groups present. -/
def State.groups (s : State) : List Nat := List.range s.params.sgCount
/-- SGn_PROT_BASE. -/
def State.protBase (s : State) (n : Nat) : Nat := s.pair (rSgProtBase n)
/-- SGn_ANCHOR_FIRST. -/
def State.ancFirst (s : State) (n : Nat) : Nat := s.fld (rSgAnchorFirst n) 20 0
/-- SGn_ANCHOR_COUNT. -/
def State.ancCount (s : State) (n : Nat) : Nat := s.fld (rSgAnchorCount n) 21 0
/-- SGn_CARVE_BASE. -/
def State.carveBase (s : State) (n : Nat) : Nat := s.pair (rSgCarveBase n)
/-- SGn_CARVE_SIZE. -/
def State.carveSize (s : State) (n : Nat) : Nat := s.pair (rSgCarveSize n)

/-- A group-local address lies in the protected span of an enabled group. -/
def State.inSpan (s : State) (n g : Nat) : Bool :=
  s.sgOn n && decide (s.protBase n ≤ g) && decide (g < s.protBase n + s.ancCount n * s.span)

/-- A group-local address lies in the carve-out of an enabled group. -/
def State.inCarve (s : State) (n g : Nat) : Bool :=
  s.sgOn n && decide (s.carveBase n ≤ g) && decide (g < s.carveBase n + s.carveSize n)

/-- Where a host address lies, seen from the group a request reached (R72, R99). -/
inductive Place where
  | wrong | protectedAt (entry sect : Nat) | carve | pass
  deriving DecidableEq, Repr

/-- The place of a host address at group `n`. -/
def State.place (s : State) (n addr : Nat) : Place :=
  let g := s.toLocal addr
  if s.ilv ≠ [] ∧ s.selGroup addr ≠ n then .wrong
  else if s.ilv = [] ∧ (s.groups.any fun m => decide (m ≠ n) && (s.inSpan m g || s.inCarve m g)) then .wrong
  else if s.inSpan n g then
    let q := (g - s.protBase n) / 256
    .protectedAt (s.ancFirst n + q / s.sectsPerRegion) (q % s.sectsPerRegion)
  else if s.inCarve n g then .carve
  else .pass

/-- The enabled group whose protected span holds a host address. -/
def State.groupFor (s : State) (addr : Nat) : Option Nat :=
  s.groups.find? fun n =>
    match s.place n addr with
    | .protectedAt _ _ => true
    | _ => false

/-- The group whose anchor range holds an entry. -/
def State.groupOfEntry (s : State) (e : Nat) : Option Nat :=
  s.groups.find? fun n => s.sgOn n && decide (s.ancFirst n ≤ e) && decide (e < s.ancFirst n + s.ancCount n)

/-- Host address of the first byte of a sector of a region. -/
def State.sectAddr (s : State) (n e sect : Nat) : Nat :=
  s.toMs n (s.protBase n + (e - s.ancFirst n) * s.span + sect * 256)

/-- Logical block number (R185). -/
def State.lbn (s : State) (e sect : Nat) : Nat := e * s.sectsPerRegion + sect

/-! Metadata items (R193, R200, R202). -/

/-- The line of the path of version block `j` at a level: 0 the version block, above it the nodes. -/
def pathLine (n e j lvl : Nat) : LineId :=
  { group := n, entry := e, kind := if lvl = 0 then .ver else .node lvl, idx := j / 8 ^ lvl }

/-- Slot of the child on the path of version block `j` within its parent at `lvl`. -/
def childSlot (j lvl : Nat) : Nat := j / 8 ^ (lvl - 1) % 8

/-- MAC index of an item of the tree within its region (R200). -/
def State.macIdx (s : State) (k : LineKind) (i : Nat) : Nat :=
  match k with
  | .node l => ((List.range l).map fun x => s.sectsPerRegion / 8 ^ (x + 1)).sum + i
  | _ => i

/-- Metadata index (R200). -/
def State.metaIdx (s : State) (l : LineId) : Nat := l.entry * s.macs + s.macIdx l.kind l.idx

/-- The MAC line of an item of the tree. -/
def State.macLine (s : State) (l : LineId) : LineId :=
  { group := l.group, entry := l.entry, kind := .mac, idx := s.macIdx l.kind l.idx / 8 }

/-- The tag line of a sector. -/
def tagLine (n e sect : Nat) : LineId := { group := n, entry := e, kind := .tag, idx := sect / 8 }

/-- Offset of a line in its region's record (R202). -/
def State.lineOff (s : State) (l : LineId) : Nat :=
  let b := match l.kind, s.params.span8 with
    | .ver, _ => 0
    | .node 1, false => 32768 | .node 2, false => 36864 | .node _, false => 37376
    | .node 1, true => 262144 | .node 2, true => 294912 | .node 3, true => 299008 | .node _, true => 299520
    | .tag, false => 37440 | .tag, true => 299584
    | .mac, false => 70208 | .mac, true => 561728
  b + 64 * l.idx

/-- Group-local address of a line. -/
def State.lineLocal (s : State) (l : LineId) : Nat :=
  s.carveBase l.group + (l.entry - s.ancFirst l.group) * s.recSize + s.lineOff l

/-! The Vimer MAC (R188 to R191). -/

/-- Context block (R190). -/
def ctxBlock (ver addr gen typ : Nat) : BitVec 128 :=
  BitVec.ofNat 128 (ver % 2 ^ 64 + addr % 2 ^ 36 * 2 ^ 64 + gen % 2 ^ 24 * 2 ^ 100 + typ % 16 * 2 ^ 124)

/-- XTS tweak (R188). -/
def tweak (lbn ver gen : Nat) : BitVec 128 :=
  BitVec.ofNat 128 (lbn % 2 ^ 48 + ver % 2 ^ 64 * 2 ^ 48 + gen % 2 ^ 16 * 2 ^ 112)

/-- The MAC function (R189). -/
def vmac (k : BitVec 256) (xs : List (BitVec 128)) (cb : BitVec 128) : DWord :=
  (Config.ghash (Config.aes256 k 0) (xs ++ [cb]) ^^^ Config.aes256 k cb).setWidth 64

/-- The 16 blocks of a sector. -/
def sectBlocks (d : Sector) : List (BitVec 128) := (List.range 16).map fun i => (d >>> (128 * i)).setWidth 128

/-- The 4 blocks of a metadata line. -/
def lineBlocks (w : List DWord) : List (BitVec 128) :=
  (List.range 4).map fun i => (w.getD (2 * i + 1) 0) ++ (w.getD (2 * i) 0)

/-- Sector tag (R191). -/
def sectTag (ks : KeySet) (cipher : Sector) (ver lbn gen : Nat) : DWord :=
  vmac ks.mac (sectBlocks cipher) (ctxBlock ver lbn gen 1)

/-- Poison mark (R191). -/
def poisonMark (ks : KeySet) (ver lbn gen : Nat) : DWord := vmac ks.mac (sectBlocks 0) (ctxBlock ver lbn gen 15)

/-- MAC of a version block or tree node (R191). -/
def State.itemMac (s : State) (tk : BitVec 256) (l : LineId) (parent : DWord) (w : List DWord) : DWord :=
  vmac tk (lineBlocks w) (ctxBlock parent.toNat (s.metaIdx l) 0 (if l.kind = .ver then 2 else 3))

/-! Anchors (R197 to R199). -/

/-- An anchor entry. -/
def State.anchor (s : State) (e : Nat) : Anchor := s.sg.anchors.get Anchor.unowned e

/-- Store an anchor entry. -/
def State.setAnchor (e : Nat) (a : Anchor) (s : State) : State :=
  s.modSg fun g => { g with anchors := g.anchors.set Anchor.unowned e a }

/-- The entry of a checked use (R198): one or two bit errors are corrected and counted; three make it uncorrectable; four
or more decode to a value that the spec leaves open. The second component says that the entry is uncorrectable. -/
def decodeAnchor (a : Anchor) (e : Nat) : Anchor × Bool :=
  if a.err ≤ 2 then ({ a with err := 0 }, false)
  else if a.err = 3 then (a, true)
  else
    let v := Config.anchorDecode a.counter a.part a.slot a.st e
    if bit v 82 then (a, true)
    else
      let b : Anchor :=
        { counter := v.setWidth 64, part := bits v 67 64, slot := bits v 79 68, st := bits v 81 80, err := 0,
          restoring := a.restoring, full := a.full }
      (b, decide (b.st = 3))

/-- Check an entry on use, writing back what was corrected. -/
def State.useAnchor (e : Nat) (s : State) : State × Anchor × Bool :=
  let a := s.anchor e
  if a.err = 0 then (s, a, false)
  else
    let d := decodeAnchor a e
    if d.2 then (s, d.1, true) else (((s.setAnchor e d.1).glob 34 1).press 1 .done none e, d.1, false)

/-- The access belongs to a region that has turned Wilted: it resolves without what it waits for (R227 row 1). -/
def Acc.wilt (a : Acc) : Acc := { a with waiting := false, beats := 0, lines := [], plot := .bad .wilted }

/-- A region turns Wilted (R199, R230): its lines and the merge entries that hold its sectors are discarded, its entry changes, the
press record and the owner's counter 15 say so. Its accesses in flight resolve WILTED. -/
def State.wiltAnchor (e : Nat) (s : State) : State :=
  let a := s.anchor e
  let t := (s.modSg fun g =>
    { g with mdc := g.mdc.filter (fun x => decide (x.id.entry ≠ e)),
             merge := g.merge.filter (fun m => decide (m.entry ≠ e) || !m.ops.isEmpty),
             accs := g.accs.map fun b => if b.entry = e then b.wilt else b }).setAnchor e
    { a with counter := BitVec.allOnes 64, st := 2, err := 0, restoring := a.restoring || decide (3 ≤ a.err) }
  (t.press 1 .wilted (some a.part) e).cntr a.part 15 1

/-- Check an entry for a use of the block's own: one that is uncorrectable turns its region Wilted, which the owner's counter 8 counts
(R198, R230). -/
def State.useRegion (e : Nat) (s : State) : State × Anchor :=
  let (t, a, bad) := s.useAnchor e
  if bad ∧ !a.restoring then
    let u := (t.wiltAnchor e).cntr a.part 8 1
    (u, u.anchor e)
  else (t, a)

/-! The metadata cache (R203 to R206). -/

/-- A line, if it is held. -/
def State.line (s : State) (l : LineId) : Option Line := s.sg.mdc.find? fun x => decide (x.id = l)

/-- The words of a line that may be used: CLEAN or DIRTY. -/
def State.verified (s : State) (l : LineId) : Option (List DWord) :=
  match s.line l with
  | some x => if x.st = .pending then none else some x.words
  | none => none

/-- Change a held line. -/
def State.modLine (l : LineId) (f : Line → Line) (s : State) : State :=
  s.modSg fun g => { g with mdc := g.mdc.map fun x => if x.id = l then f x else x }

/-- Class of a line for the choice of a victim (R206). -/
def State.lineClass (s : State) (l : LineId) : Nat :=
  match l.kind with
  | .ver => 1
  | .node 1 => 2
  | .node _ => 3
  | .tag => 0
  | .mac =>
    let v := s.sectsPerRegion / 8
    if l.idx * 8 < v then 0 else if l.idx * 8 < v + v / 8 then 2 else 3

/-- MDC ways into which a partition may allocate (R286). -/
def State.mdcMask (s : State) (p : Nat) : BitVec 16 := s.share.mdc.get 0xFFFF p

/-- The first way of a mask that is not in use. -/
def freeWay (mask : BitVec 16) (used : List Nat) : Option Nat :=
  (List.range 16).find? fun w => bit mask w && !used.contains w

/-- The set of the metadata cache in which a line stands (R203). -/
def State.mdcSet (s : State) (l : LineId) : Nat := Config.mdcSet (s.slot 4).value l.group (s.lineLocal l) % 32768

/-- An access in flight works with the line: it is on its path, or it is its tag line or a MAC line of its path. Such a line is
no victim. -/
def State.lineUsed (s : State) (l : LineId) : Bool :=
  s.sg.accs.any fun a =>
    let j := a.sect / 8
    decide (a.q.group = l.group) && decide (a.entry = l.entry)
      && match l.kind with
        | .ver => decide (l.idx = j)
        | .tag => decide (l.idx = j)
        | .node v => decide (l.idx = j / 8 ^ v)
        | .mac => (List.range (s.topLevel + 1)).any fun v => decide (s.macLine (pathLine l.group l.entry j v) = l)

/-- Insert a line for a partition. Of the ways that are free for it any may be taken: a way that no line uses is free in
its set. When no way is, the least recently used line of the lowest class gives way: a DIRTY one moves to the victim
buffer until it is written back (R206, R207). When every line of the ways is PENDING or works for an access in flight, the new line
stands in the victim buffer, way 16, until it is not used (DESIGN CHOICE, log entry 61: the spec gives no case). -/
def State.insertLine (p : Nat) (l : Line) (s : State) : State :=
  let mask := s.mdcMask p
  match freeWay mask (s.sg.mdc.map fun x => x.way) with
  | some w => s.modSg fun g => { g with mdc := { l with way := w } :: g.mdc }
  | none =>
    let mine := s.sg.mdc.filter fun x => decide (s.mdcSet x.id = s.mdcSet l.id)
    match freeWay mask (mine.map fun x => x.way) with
    | some w => s.modSg fun g => { g with mdc := { l with way := w } :: g.mdc }
    | none =>
      let can := (mine.filter fun x => decide (x.way < 16) && bit mask x.way && decide (x.st ≠ .pending)
        && !s.lineUsed x.id).reverse
      match (List.range 4).findSome? fun c => can.find? fun x => decide (s.lineClass x.id = c) with
      | some v =>
        s.modSg fun g =>
          { g with mdc := { l with way := v.way } ::
              (if v.st = .dirty then g.mdc.map fun x => if x.id = v.id then { x with way := 16 } else x
               else g.mdc.filter fun x => decide (x.id ≠ v.id)) }
      | none => s.modSg fun g => { g with mdc := { l with way := 16 } :: g.mdc }

/-- A line moved to the most recently used place. -/
def State.touchLine (l : LineId) (s : State) : State :=
  match s.line l with
  | some x => s.modSg fun g => { g with mdc := x :: g.mdc.filter fun y => decide (y.id ≠ l) }
  | none => s

/-- Eight zero words. -/
def zeroWords : List DWord := List.replicate 8 0

/-- A line that the block makes itself, as zeros (R194). -/
def madeLine (l : LineId) (st : LineSt) : Line :=
  { id := l, st := st, here := true, ue := false, words := zeroWords, way := 0 }

/-- Discard the lines of a region without writing them back. -/
def State.dropRegion (e : Nat) (s : State) : State :=
  s.modSg fun g => { g with mdc := g.mdc.filter fun x => decide (x.id.entry ≠ e) }

/-! MS ports (R69, R70). -/

/-- The lowest tag that no request of a port uses; 1,024 when the port holds 1,024 outstanding requests (R70). -/
def State.msTag (s : State) (n port : Nat) : Nat :=
  let used := (s.sg.rds.filter fun x => decide (x.group = n ∧ x.port = port)).map (fun x => x.tag)
    ++ (s.sg.wr.filter fun x => decide (x.group = n ∧ x.port = port)).map fun x => x.tag
  ((List.range 1024).find? fun t => !used.contains t).getD 1024

/-- A read request goes out on its port once it has a tag. -/
def State.msQRead (r : MsRd) (s : State) : State :=
  if r.tag < 1024 then s.emit (.msQ r.group r.port r.addr r.granules r.tag 0xFFFF 0 none) else s

/-- A write request goes out on its port once it has a tag. -/
def State.msQWrite (w : MsWr) (s : State) : State :=
  if w.tag < 1024 then s.emit (.msQ w.group w.port w.addr w.granules w.tag 0xFFFF 0 (some (w.data, w.be))) else s

/-- Issue a read on an MS port; with 1,024 requests outstanding it waits (R70). -/
def State.msRead (n port addr granules : Nat) (what : MsFor) (s : State) : State :=
  let t := s.msTag n port
  let r : MsRd := { group := n, port := port, tag := t, addr := addr, granules := granules, what := what, got := 0 }
  (s.modSg fun g => { g with rds := g.rds ++ [r] }).msQRead r

/-- Issue a write on an MS port; with 1,024 requests outstanding it waits (R70). -/
def State.msWrite (n port addr granules : Nat) (d : Sector) (be : BitVec 256) (what : MsData) (s : State) : State :=
  let t := s.msTag n port
  let w : MsWr := { group := n, port := port, tag := t, addr := addr, granules := granules, data := d, be := be, what := what }
  (s.modSg fun g => { g with wr := g.wr ++ [w] }).msQWrite w

/-- A request of a port has ended: the first that waits takes its tag, reads first. -/
def State.msNext (n port : Nat) (s : State) : State :=
  let t := s.msTag n port
  match s.sg.rds.find? fun x => decide (x.group = n ∧ x.port = port ∧ x.tag = 1024) with
  | some r =>
    (s.modSg fun g => { g with rds := g.rds.map fun x => if x = r then { r with tag := t } else x }).msQRead { r with tag := t }
  | none =>
    match s.sg.wr.find? fun x => decide (x.group = n ∧ x.port = port ∧ x.tag = 1024) with
    | some w =>
      (s.modSg fun g => { g with wr := g.wr.map fun x => if x = w then { w with tag := t } else x }).msQWrite { w with tag := t }
    | none => s

/-- The words of a line whose write memory has not acknowledged yet. -/
def State.lineInFlight (s : State) (l : LineId) : Option (List DWord) :=
  s.sg.wr.reverse.findSome? fun x =>
    match x.what with
    | .line m w => if m = l then some w else none
    | _ => none

/-- MS port of a metadata line: bits 7:6 of its group-local address (R275). -/
def State.linePort (s : State) (l : LineId) : Nat := s.lineLocal l / 64 % 4

/-- Fetch a line for a partition (R205), or take it from its write in flight. -/
def State.fetchLine (p : Nat) (l : LineId) (s : State) : State :=
  match s.lineInFlight l with
  | some w => s.insertLine p { id := l, st := .clean, here := true, ue := false, words := w, way := 0 }
  | none =>
    (((s.insertLine p { id := l, st := .pending, here := false, ue := false, words := zeroWords, way := 0 }).msRead
      l.group (s.linePort l) (s.toMs l.group (s.lineLocal l)) 1 (.line l)).glob (64 + 8 * l.group + 2) 1).cntr p 4 1

/-- Bring a tag or MAC line in: what has to be waited for. -/
def State.needLine (p : Nat) (l : LineId) (s : State) : State × List LineId :=
  match s.line l with
  | some x => (s.touchLine l, if x.here then [] else [l])
  | none => let t := s.fetchLine p l; (t, if (t.verified l).isSome then [] else [l])

/-- The first level at or above `lo` of the path of version block `j` whose line is CLEAN or DIRTY; one above the top when
none is. -/
def State.knownFrom (s : State) (n e j lo : Nat) : Nat :=
  ((List.range (s.topLevel + 1)).find? fun lvl => decide (lo ≤ lvl) && (s.verified (pathLine n e j lvl)).isSome).getD
    (s.topLevel + 1)

/-- The levels of the path from `lo` up to below the known one, from the top down. -/
def State.unknown (s : State) (n e j lo : Nat) : List Nat :=
  ((List.range (s.knownFrom n e j lo)).filter fun x => decide (lo ≤ x) && decide (x ≤ s.topLevel)).reverse

/-- The parent counter that a known level gives the level below it on the path of version block `j`. -/
def State.knownCtr (s : State) (n e j lvl : Nat) : DWord :=
  if s.topLevel < lvl then (s.anchor e).counter
  else ((s.verified (pathLine n e j lvl)).getD zeroWords).getD (childSlot j lvl) 0

/-- One level of the walk (R194, R204, R205): a child whose parent counter is known to be 0 is made as zeros; another that is
missing is fetched with its MAC line; one that is PENDING is waited for with its MAC line. -/
def State.walkLevel (p n e j : Nat) (acc : State × Option DWord × List LineId) (lvl : Nat) :
    State × Option DWord × List LineId :=
  let (s, pc, ls) := acc
  let l := pathLine n e j lvl
  match s.line l with
  | some _ =>
    let (u, ms) := s.needLine p (s.macLine l)
    (u, none, ls ++ [l] ++ ms)
  | none =>
    if pc = some 0 then
      let t := s.insertLine p (madeLine l .clean)
      let tl : LineId := { group := n, entry := e, kind := .tag, idx := j }
      (if lvl = 0 ∧ (t.line tl).isNone then t.insertLine p (madeLine tl .clean) else t, some 0, ls)
    else
      let t := s.fetchLine p l
      let (u, ms) := t.needLine p (t.macLine l)
      (u, none, ls ++ [l] ++ ms)

/-- Walk the path of version block `j` from level `lo` up: the lines held are used (R206), what is missing is fetched or made; answer
the lines to wait for. -/
def State.walkFrom (p n e j lo : Nat) (s : State) : State × List LineId :=
  let k := s.knownFrom n e j lo
  let t := each (((List.range (k + 1)).filter fun x => decide (lo ≤ x)).reverse.map (pathLine n e j)) State.touchLine s
  let r := (t.unknown n e j lo).foldl (State.walkLevel p n e j) (t, if k = lo then none else some (t.knownCtr n e j k), [])
  (r.1, r.2.2)

/-- Walk the whole path of version block `j` (R205). -/
def State.walk (p n e j : Nat) (s : State) : State × List LineId := s.walkFrom p n e j 0

/-- One level of the path as it stands once its lines are here: level, parent counter, words in effect, and whether the
fetched bytes count (they do not under a parent counter of 0). -/
structure PathItem where
  lvl : Nat
  parent : DWord
  words : List DWord
  counts : Bool
  deriving DecidableEq, Repr

/-- The levels from `lo` up to below the known one, from the top down (R194, R205). -/
def State.pathFrom (s : State) (n e j lo : Nat) : List PathItem :=
  let k := s.knownFrom n e j lo
  ((s.unknown n e j lo).foldl
    (fun (acc : DWord × List PathItem) lvl =>
      let held := (s.line (pathLine n e j lvl)).map fun x => x.words
      let w := if acc.1 = 0 then zeroWords else held.getD zeroWords
      let next := if lvl = 0 then 0 else w.getD (childSlot j lvl) 0
      (next, acc.2 ++ [{ lvl := lvl, parent := acc.1, words := w, counts := decide (acc.1 ≠ 0) }]))
    (if k = lo then 0 else s.knownCtr n e j k, [])).2

/-- The whole path of version block `j`. -/
def State.path (s : State) (n e j : Nat) : List PathItem := s.pathFrom n e j 0

/-- The words of a version block in effect. -/
def State.verWords (s : State) (n e j : Nat) : List DWord :=
  match s.verified (pathLine n e j 0) with
  | some w => w
  | none => ((s.path n e j).getLast?.map fun x => x.words).getD zeroWords

/-- The version of a sector in effect. -/
def State.version (s : State) (n e sect : Nat) : DWord := (s.verWords n e (sect / 8)).getD (sect % 8) 0

/-! The derived-key cache (R165 to R167). -/

/-- Use a key set: a hit moves it to the front, a miss starts a derivation unless one of its tag is in flight. -/
def State.useKey (p : Nat) (t : KeyTag) (s : State) : State :=
  match s.key.dkc.find? fun x => decide (x.1 = t) with
  | some x => s.modKey fun k => { k with dkc := x :: k.dkc.filter fun y => decide (y.1 ≠ t) }
  | none =>
    let u := s.cntr p 5 1
    if u.key.deriv.any fun d => decide (d.tag = t) && !d.stale then u
    else u.modKey fun k => { k with deriv := k.deriv ++ [{ tag := t, part := p, stale := false }] }

/-- Set of a tag in the derived-key cache, 0 to 511 (R165). -/
def State.dkcSet (s : State) (t : KeyTag) : Nat := Config.dkcSet (s.slot 4).value t.slot t.obj % 512

/-- Insert a key set for a partition within its ways. -/
def State.insertKey (p : Nat) (t : KeyTag) (s : State) : State :=
  let mask := s.share.dkc.get 0xFFFF p
  match freeWay mask (s.key.dkc.map fun x => x.2) with
  | some w => s.modKey fun k => { k with dkc := (t, w) :: k.dkc }
  | none =>
    let mine := s.key.dkc.filter fun x => decide (s.dkcSet x.1 = s.dkcSet t)
    match freeWay mask (mine.map fun x => x.2) with
    | some w => s.modKey fun k => { k with dkc := (t, w) :: k.dkc }
    | none =>
      match mine.reverse.find? fun x => bit mask x.2 with
      | some v => s.modKey fun k => { k with dkc := (t, v.2) :: k.dkc.filter fun x => decide (x.1 ≠ v.1) }
      | none => s

/-- The object key set of an access's tag. -/
def State.keysOf (s : State) (p : Nat) (t : KeyTag) : KeySet := objKeys (s.slot t.slot).value t.obj t.gen p t.slot

/-! Starting an access. -/

/-- The object key set tag that the plot lookup of an access found. -/
def Acc.tag (a : Acc) : Option KeyTag :=
  match a.plot with
  | .bound obj gen => some { slot := a.slot, obj := obj, gen := gen }
  | _ => none

/-- Two accesses to one sector of which one writes: the later waits for the earlier (R214). -/
def Acc.conflicts (a b : Acc) : Bool := decide (a.lbn = b.lbn) && (decide (a.kind ≠ .read) || decide (b.kind ≠ .read))

/-- An access that takes a sector lock: a partial write, or the fill of a sealed-arithmetic operation (R213). -/
def AccKind.locks (k : AccKind) : Bool := decide (k = .partW) || decide (k = .fill)

/-- Sector locks of a group in use (R213): by partial writes and fills that have started. -/
def State.locks (s : State) (n : Nat) : Nat :=
  (s.sg.accs.filter fun a => decide (a.q.group = n) && a.kind.locks && !a.waiting).length

/-- The merge entry of a sector. -/
def State.entry (s : State) (n lbn : Nat) : Option MEntry := s.sg.merge.find? fun m => decide (m.group = n) && decide (m.lbn = lbn)

/-- An operation that waits for an entry for the sector comes before number `i`. -/
def State.saBefore (s : State) (i lbn : Nat) : Bool :=
  s.sg.saQ.any fun w => decide (w.id < i) && decide (s.lbn w.entry w.sect = lbn)

/-- An access in flight to the sector, other than a fill or a write-back of its entry, comes before number `i`. -/
def State.accBefore (s : State) (i lbn : Nat) : Bool :=
  s.sg.accs.any fun b => decide (b.id < i) && decide (b.lbn = lbn) && decide (b.kind ≠ .fill) && decide (b.kind ≠ .back)

/-- The merge entry that serves an access at its place in the order (R214, R249, R251): its plot lookup found the entry's tag, nothing
to the sector comes before it, and the entry holds the contents or waits for a fill that came before it. -/
def State.entryFor (s : State) (a : Acc) : Option MEntry :=
  if a.kind = .fill ∨ a.kind = .back then none
  else (s.entry a.q.group a.lbn).filter fun m =>
    decide (a.tag = some m.tag) && !s.saBefore a.id a.lbn && !s.accBefore a.id a.lbn
      && (m.ready || s.sg.accs.any fun b => decide (b.kind = .fill) && decide (b.lbn = a.lbn) && decide (b.id < a.id))

/-- The access may start now: no earlier access conflicts, no earlier operation waits for the sector, no merge entry serves it, and it
finds a free lock if it takes one. -/
def State.mayStart (s : State) (a : Acc) : Bool :=
  !(s.sg.accs.any fun b => decide (b.id < a.id) && b.conflicts a) && !s.saBefore a.id a.lbn && (s.entryFor a).isNone
    && (!a.kind.locks || decide (s.locks a.q.group < 256))

/-- Data of the newest write of a sector that memory has not acknowledged yet (R75). -/
def State.fwdData (s : State) (lbn : Nat) : Option Sector :=
  s.sg.wr.reverse.findSome? fun x =>
    match x.what with
    | .sector b d => if b = lbn then some d else none
    | _ => none

/-- Replace an access in flight. -/
def State.setAcc (a : Acc) (s : State) : State :=
  s.modSg fun g => { g with accs := g.accs.map fun b => if b.id = a.id then a else b }

/-- An access in flight by number. -/
def State.acc (s : State) (i : Nat) : Option Acc := s.sg.accs.find? fun a => decide (a.id = i)

/-- Take an access out of flight. -/
def State.dropAcc (i : Nat) (s : State) : State :=
  s.modSg fun g => { g with accs := g.accs.filter fun a => decide (a.id ≠ i) }

/-- Issue what an access needs: its key set, the lines of its path, its tag line and its data (R205, R212, R213, R215). -/
def State.fetch (a : Acc) (s : State) : State :=
  let n := a.q.group
  let s0 := match a.tag with
    | some t => s.useKey a.part t
    | none => s
  let (s1, ls) := s0.walk a.part n a.entry (a.sect / 8)
  let known := (s1.verified (pathLine n a.entry (a.sect / 8) 0)).isSome
  let zero := known && decide (s1.version n a.entry a.sect = 0)
  let writes := decide (a.kind = .full ∨ a.kind = .back ∨ a.kind = .partW)
  let (s2, ts) := if zero && !writes then (s1, []) else s1.needLine a.part (tagLine n a.entry a.sect)
  let fwd := if zero then none else s2.fwdData a.lbn
  let reads := decide (a.kind = .read ∨ a.kind = .partW ∨ a.kind = .fill) && !zero && fwd.isNone
  let s3 := if reads then s2.msRead n a.q.port (a.q.addr / 256 * 256) 4 (.data a.id) else s2
  (s3.setAcc { a with waiting := false, beats := if reads then 2 else 0, fwd := fwd, lines := ls ++ ts }).groupWork n a.part

/-- Issue an access once its region's entry has been checked (R198); in a Wilted region it resolves without memory access. -/
def State.issue (a : Acc) (s : State) : State :=
  let (t, x) := s.useRegion a.entry
  if x.st = 2 then t.setAcc a.wilt else t.fetch a

/-- Take the next number of an access or waiting operation. -/
def State.takeNo (s : State) : State := s.modSg fun g => { g with nextAcc := g.nextAcc + 1 }

/-- Put an access in flight under a number, and issue it unless it must wait (R213, R214). It is stamped, and keeps the release mode of
its partition (R221, R222). -/
def State.startAs (i : Nat) (a : Acc) (s : State) : State :=
  let b : Acc := { a with id := i, stamp := s.sg.clk, waiting := true, vbr := bit s.sg.vbr a.part }
  let t := s.modSg fun g => { g with accs := g.accs ++ [b] }
  if t.mayStart b then t.issue b
  else if b.kind.locks ∧ 256 ≤ t.locks b.q.group then t.glob (64 + 8 * b.q.group + 4) 1
  else t

/-- Put an access in flight. -/
def State.start (a : Acc) (s : State) : State := s.takeNo.startAs s.sg.nextAcc a

/-- An access of the block's own or of an MN port before it starts. -/
def Acc.mk0 (kind : AccKind) (serve : Serve) (q : MnReq) (p entry sect lbn slot : Nat) (plot : PlotRes) (d : Sector)
    (be : BitVec 256) : Acc :=
  { id := 0, kind := kind, serve := serve, q := q, part := p, stamp := 0, entry := entry, sect := sect, lbn := lbn,
    slot := slot, plot := plot, waiting := true, beats := 0, data := 0, dataUe := false, be := be, wdata := d,
    fwd := none, lines := [], given := none, vbr := false, plotUe := false }

/-! Plot lookups (R215, R216, R395). -/

/-- A plot-table entry. -/
def State.plotOf (s : State) (x : Nat) : Plot := s.obju.plots.get Plot.unbound x

/-- The plot result of a plot-table entry. -/
def Plot.res (x : Plot) : PlotRes := if x.bound then .bound x.obj x.gen else .stale

/-- PT_FIRST of a partition. -/
def State.ptFirst (s : State) (p : Nat) : Nat := s.obju.ptFirst.get 0 p
/-- PT_COUNT of a partition. -/
def State.ptCount (s : State) (p : Nat) : Nat := s.obju.ptCount.get 0 p

/-- Host address of a byte of object 0 (R220). -/
def State.obj0 (s : State) (p off : Nat) : Nat := (s.part p).pbase + off

/-- The plot lookup of a protected access: a plot beyond the table's reach maps to no live object, one that the plot cache does not hold
has to be read. -/
def State.plotLook (p addr : Nat) (s : State) : State × PlotRes :=
  let x := addr / 65536
  if x < s.ptFirst p ∨ s.ptFirst p + s.ptCount p ≤ x then (s, .stale)
  else if !s.sg.plotCache.contains x then (s, .waiting)
  else (s.modSg fun g => { g with plotCache := x :: g.plotCache.filter fun y => decide (y ≠ x) }, (s.plotOf x).res)

/-- The plot lookup of an access of the block's own: object 0 holds the plot table, so its plots need none (R220). -/
def State.innerPlot (p addr : Nat) (s : State) : State × PlotRes :=
  let x := s.plotOf (addr / 65536)
  if x.bound ∧ x.obj = 0 then (s, x.res) else s.plotLook p addr

/-- Where a protected access of the block's own goes: group, entry, sector, slot and plot result. It is made only in the protected span
of an enabled group and in a Live region of the partition; otherwise a press record names the address (R187, R198, R216, R535). -/
def State.innerPlace (p addr : Nat) (s : State) : State × Except Status (Nat × Nat × Nat × Nat × PlotRes) :=
  let outside (t : State) : State × Except Status (Nat × Nat × Nat × Nat × PlotRes) :=
    (t.press 1 .badParam (some p) addr, .error .badParam)
  match s.groupFor addr with
  | none => outside s
  | some n =>
    match s.place n addr with
    | .protectedAt e sect =>
      let (t, a) := s.useRegion e
      if a.restoring ∨ a.st = 2 then (t, .error .wilted)
      else if a.st ≠ 1 ∨ a.part ≠ p then outside t
      else
        let (u, r) := t.innerPlot p addr
        (u, if r = .stale then .error .staleObject else .ok (n, e, sect, a.slot, r))
    | _ => outside s

/-- A request that the block makes for itself: a whole sector on port 0 of its group (R275 names ports for MN accesses and for metadata
only; DESIGN CHOICE, log entry 62). -/
def ownReq (n addr op : Nat) : MnReq :=
  { group := n, port := 0, addr := addr / 256 * 256, len := 3, op := op, tag := 0, ctx := 0xFFFF, attr := 0 }

/-- The plot-table read of the access or waiting operation `i` has its outcome (R215, R216). -/
def State.plotSays (i : Nat) (res : PlotRes) (ue : Bool) (s : State) : State :=
  let t := s.modSg fun g => { g with saQ := g.saQ.map fun w => if w.id = i then { w with plot := res } else w }
  match t.acc i with
  | none => t
  | some a =>
    let b := { a with plot := res, plotUe := ue }
    let u := t.setAcc b
    match b.tag with
    | some tag =>
      (u.modSg fun g => { g with merge := g.merge.map fun m =>
        if a.kind = .fill ∧ m.group = a.q.group ∧ m.lbn = a.lbn then { m with tag := tag } else m }).useKey a.part tag
    | none => u

/-- Read the plot-table sector of plot `x` for what waits under number `i`: a protected read of object 0 (R215, R535). -/
def State.readPlot (p i x : Nat) (s : State) : State :=
  let addr := s.obj0 p (65536 + 8 * (x - s.ptFirst p))
  match s.innerPlace p addr with
  | (t, .error st) => t.plotSays i (.bad st) false
  | (t, .ok (n, e, sect, slot, r)) =>
    t.start (Acc.mk0 .read (.plot i x) (ownReq n addr 0) p e sect (t.lbn e sect) slot r 0 0)

/-- Start an access under a number, and its plot-table read on a plot-cache miss. -/
def State.startPlotAs (i : Nat) (a : Acc) (s : State) : State :=
  let t := s.startAs i a
  if a.plot = .waiting then t.readPlot a.part i (a.q.addr / 65536) else t

/-- Start an access, and its plot-table read on a plot-cache miss. -/
def State.startPlot (a : Acc) (s : State) : State := s.takeNo.startPlotAs s.sg.nextAcc a

/-! Accesses of the block's own (R535). -/

/-- Bytes laid into a sector from an offset, with their byte enables. -/
def layBytes (off : Nat) (bs : List Byte) : Sector × BitVec 256 :=
  (BitVec.ofNat 2048 (ofLe bs * 2 ^ (8 * off)), BitVec.ofNat 256 ((2 ^ bs.length - 1) * 2 ^ off))

/-- A protected access of the block's own to one sector, and the status with which the operation that needs it ends when it is not
made. None begins after a breach (R232). -/
def State.innerAcc (kind : AccKind) (p addr : Nat) (d : Sector) (be : BitVec 256) (s : State) : State × Status :=
  if s.boot.breached then (s, .fenced)
  else match s.innerPlace p addr with
  | (t, .error st) => (t, st)
  | (t, .ok (n, e, sect, slot, r)) =>
    (t.startPlot (Acc.mk0 kind .inner (ownReq n addr (if kind = .read then 0 else 1)) p e sect (t.lbn e sect) slot r d be), .done)

/-- A protected write of the block's own inside one sector. -/
def State.innerSect (p addr : Nat) (d : Sector) (be : BitVec 256) (s : State) : State × Status :=
  s.innerAcc (if be = BitVec.allOnes 256 then .full else .partW) p addr d be

/-- A protected write of bytes that lie within one sector. -/
def State.innerWrite (p addr : Nat) (bs : List Byte) (s : State) : State × Status :=
  let (d, be) := layBytes (addr % 256) bs
  s.innerSect p addr d be

/-- The first status that is not DONE. -/
def firstBad (a b : Status) : Status := if a = .done then b else a

/-- Protected reads of the block's own of the sectors that hold `n` bytes (R222): what they return comes with the command that needs
them; the status says that one could not be made. -/
def State.innerRead (p addr n : Nat) (s : State) : State × Status :=
  (List.range ((addr + n + 255) / 256 - addr / 256)).foldl (fun (x : State × Status) i =>
    let (t, st) := x.1.innerAcc .read p (addr / 256 * 256 + 256 * i) 0 0
    (t, firstBad x.2 st)) (s, .done)

end Sys2Proof.Machine
end

