-- ==== Sys2Proof/Machine/Report.lean ====
section
/-!
DEFINITION. What the block puts out for partitions: held egress (R223 to R225), trace records (R509 to R517), fault records
(R419 to R422), replies (R370, R373, R377, R381), fence signals (R406, R409, R412) and the completion of commands.
-/
namespace Sys2Proof.Machine

/-! Held egress (R223 to R225). -/

/-- The partition is verify-before-release (R221). -/
def State.vbrOf (s : State) (p : Nat) : Bool := bit s.sg.vbr p

/-- The access is a protected read that has not resolved without data (R222). -/
def Acc.unverified (a : Acc) : Bool :=
  (decide (a.kind = .read) || decide (a.kind = .partW) || decide (a.kind = .fill))
    && (decide (a.given = none) || decide (a.given = some .done))

/-- Horizon of a partition: the smallest stamp of its unverified set, or one more than the stamp clock (R223). -/
def State.horizon (s : State) (p : Nat) : Nat :=
  ((s.sg.accs.filter fun a => decide (a.part = p) && a.unverified).map fun a => a.stamp).foldl min (s.sg.clk + 1)

/-- An egress item of a partition with a stamp may leave. -/
def State.passes (s : State) (p w : Nat) : Bool := s.vbrOf p || decide (w < s.horizon p)

/-- Egress of the partition is held at its gates. -/
def State.holds (s : State) (p : Nat) : Bool := decide (s.pst p ≠ 0) && !s.vbrOf p

/-! Sessions and egress queues of the ports (R298). -/

/-- Session of a port: index 0 block-owned, 1 + p of partition p. -/
def State.sess (s : State) (k si : Nat) : Sess := s.lnk.sess.get Sess.down (17 * k + si)
/-- Change a session. -/
def State.modSess (k si : Nat) (f : Sess → Sess) (s : State) : State :=
  s.modLnk fun l => { l with sess := l.sess.upd Sess.down (17 * k + si) f }
/-- A link port. -/
def State.port (s : State) (k : Nat) : Port := s.lnk.ports.get Port.idle k
/-- Change a link port. -/
def State.modPort (k : Nat) (f : Port → Port) (s : State) : State :=
  s.modLnk fun l => { l with ports := l.ports.upd Port.idle k f }
/-- Ports present. -/
def State.ports (s : State) : List Nat := List.range s.params.fpCount
/-- Ports on which the partition's session is OPEN. -/
def State.openPorts (s : State) (p : Nat) : List Nat := s.ports.filter fun k => decide ((s.sess k (1 + p)).st = 3)

/-- Own member number of a partition (R27). -/
def State.memberOf (s : State) (p : Nat) : Nat := (s.part p).member

/-- Bytes of frame payloads in a port's hold buffer (R225). -/
def State.heldBytes (s : State) (k : Nat) : Nat :=
  (((s.port k).q.filter fun i => decide (i.f.si ≠ 0) && !i.out).map fun i => i.f.payload.length).sum

/-- The hold buffer has room for a frame, and none waits for room before it (R225). -/
def State.holdRoom (s : State) (k : Nat) (f : EgFrame) : Bool :=
  decide (f.si = 0) || (decide (s.heldBytes k + f.payload.length ≤ 131072) && !((s.port k).q.any fun i => i.out))

/-- Put a frame in the egress queue of a port; its stamp is the cycle of its admission (R224). While the hold buffer has no room the
frame waits to be admitted (R225). -/
def State.enqueue (k : Nat) (f : EgFrame) (s : State) : State :=
  let room := s.holdRoom k f
  s.modPort k fun q =>
    { q with q := q.q ++ [{ f := f, stamp := s.sg.clk, free := room && (decide (f.si = 0) || s.vbrOf (f.si - 1)), flowWait := false,
                            held := false, out := !room }] }

/-- Frames that waited for room in the hold buffer are admitted while there is room, in their order (R225). -/
def State.refill (k : Nat) (s : State) : State :=
  let room := 131072 - s.heldBytes k
  let (l, _, _) := (s.port k).q.foldl (fun (x : List EgItem × Nat × Bool) i =>
    if !i.out then (x.1 ++ [i], x.2)
    else if x.2.2 && decide (i.f.payload.length ≤ x.2.1) then
      (x.1 ++ [{ i with out := false, stamp := s.sg.clk, free := s.vbrOf (i.f.si - 1) }], x.2.1 - i.f.payload.length, true)
    else (x.1 ++ [i], x.2.1, false)) ([], room, true)
  s.modPort k fun q => { q with q := l }

/-- Put a frame of a partition on every OPEN session of it, but for one port. -/
def State.broadcast (p kind : Nat) (but : Option Nat) (payload : List Byte) (s : State) : State :=
  each ((s.openPorts p).filter fun k => decide (some k ≠ but))
    (fun k => State.enqueue k { si := 1 + p, kind := kind, tc := 0, retry := false, event := false, src := 0, dst := 0,
                                label := 0, payload := payload }) s

/-- The port by which a member is reached: the one whose OPEN session ends at it, else one whose peer is its neighbour by
the manifest, else any OPEN one (log entry 22). -/
def State.portTo (s : State) (p dst : Nat) : Option Nat :=
  let o := s.openPorts p
  let near (k : Nat) : Bool :=
    (s.part p).man.any fun m => m.members.any fun x => decide (x.num = (s.sess k (1 + p)).peer) && x.neigh.contains dst
  (o.find? fun k => decide ((s.sess k (1 + p)).peer = dst)) <|> o.find? near <|> o.head?

/-- Put a frame of a partition to a member in the egress queue by which the member is reached, with a flow label (R323). -/
def State.sendFlow (p dst kind tc : Nat) (retry : Bool) (label : Nat) (payload : List Byte) (s : State) : State :=
  match s.portTo p dst with
  | some k =>
    s.enqueue k { si := 1 + p, kind := kind, tc := tc, retry := retry, event := false, src := s.memberOf p, dst := dst,
                  label := label, payload := payload }
  | none => s

/-- Put a frame whose payload holds its flow label in the egress queue by which the member is reached. -/
def State.sendTo (p dst kind tc : Nat) (retry : Bool) (payload : List Byte) (s : State) : State :=
  s.sendFlow p dst kind tc retry 0 payload

/-- A member is recorded lost in the partition's domain (R318). -/
def State.isLost (s : State) (p m : Nat) : Bool := (s.part p).lost.contains m

/-! Trace rings (R509 to R518). -/

/-- A trace ring. -/
def State.ring (s : State) (p r : Nat) : Ring := s.obs.rings.get Ring.off (4 * p + r)
/-- Store a trace ring. -/
def State.setRing (p r : Nat) (g : Ring) (s : State) : State :=
  s.modObs fun o => { o with rings := o.rings.set Ring.off (4 * p + r) g }
/-- Records that a ring holds. -/
def Ring.cap (g : Ring) : Nat := 32 * 2 ^ g.log2
/-- The ring takes records: RUNNING or POST. -/
def Ring.active (g : Ring) : Bool := decide (g.st = 2) || decide (g.st = 3)
/-- OBS_TRACE_SEL of a ring. -/
def State.traceSel (s : State) (p r : Nat) : Word := s.obs.sel.get 0x140DFF (4 * p + r)

/-- Give a record the next SEQ and stage it; what the state becomes when it is the last (R511, R516). -/
def Ring.put1 (clk : Nat) (x : TraceRec) (g : Ring) : Ring :=
  let h := { g with staged := g.staged ++ [({ x with cfgn := g.cfgn, seq := BitVec.ofNat 32 g.seq }, clk)],
                    seq := g.seq + 1 }
  if g.st = 3 then { h with left := g.left - 1, st := if g.left ≤ 1 then 5 else 3 }
  else if g.st = 2 ∧ g.mode = 0 ∧ g.cap ≤ h.seq then { h with st := 4 }
  else h

/-- Discard a record because the staging is full (R515). -/
def Ring.dropRec (x : TraceRec) (g : Ring) : Ring :=
  { g with drops := satAdd 0xFFFFFFFF g.drops 1,
           dropRun := some (match g.dropRun with
             | some (n, f, _) => (n + 1, f, x.stamp)
             | none => (1, x.stamp, x.stamp)) }

/-- The drop record of a run of discarded records (R513, R515). -/
def dropRecord (n f l : Nat) : TraceRec :=
  { kind := 0x71, status := 0, cfgn := 0, ids := false, seq := 0, stamp := f, addr := BitVec.ofNat 64 l,
    info := BitVec.ofNat 64 (n % 2 ^ 32), ctx := 0xFFFF }

/-- Form a record in a ring: whether it was dropped, and the ring. -/
def Ring.add (clk : Nat) (x : TraceRec) (g : Ring) : Bool × Ring :=
  if !g.active then (false, g)
  else if 64 ≤ g.staged.length then (true, g.dropRec x)
  else
    let h := match g.dropRun with
      | some (n, f, l) => ({ g with dropRun := none }).put1 clk (dropRecord n f l)
      | none => g
    if !h.active then (false, h)
    else if 64 ≤ h.staged.length then (true, h.dropRec x)
    else (false, h.put1 clk x)

/-- The 32 bytes of a trace record (R512). -/
def TraceRec.bytes (x : TraceRec) : List Byte :=
  [BitVec.ofNat 8 x.kind, BitVec.ofNat 8 x.status, BitVec.ofNat 8 x.cfgn, if x.ids then 1 else 0]
    ++ leBytes 4 x.seq.toNat ++ leBytes 8 x.stamp ++ leBytes 8 x.addr.toNat ++ leBytes 6 x.info.toNat ++ leBytes 2 x.ctx

/-- The trace record of an event for a ring: with IDS the context's mark, and an address as its offset (R518). -/
def State.mkRec (s : State) (p : Nat) (ids : Bool) (kind status : Nat) (addr : DWord) (isAddr : Bool) (info : DWord)
    (ctx : Nat) : TraceRec :=
  let c := s.obju.ctxs.get Ctx.free ctx
  let marked := ids && decide (ctx ≠ 0xFFFF)
  let low := if isAddr then (addr.toNat - (s.part p).pbase) / 256 % 2 ^ 32 else addr.toNat % 2 ^ 32
  { kind := kind, status := status, cfgn := 0, ids := marked, seq := 0, stamp := s.stamp,
    addr := if marked then BitVec.ofNat 64 (low + c.layer * 2 ^ 32 + c.op * 2 ^ 48) else addr, info := info, ctx := ctx }

/-- Write the records at the head of a ring's staging that one write takes: a whole sector, or, when the ring no longer
takes records or the sector is due, the slots formed of one (R514). A record that cannot be written is counted (R535). -/
def State.writeSect (p r : Nat) (rbv : Bool) (s : State) : State :=
  let g := s.ring p r
  let ok := g.staged.takeWhile fun x => if rbv then s.passes p x.2 else s.vbrOf p
  match ok with
  | [] => s
  | (x, _) :: _ =>
    let sec := x.seq.toNat / 8
    let mine := (ok.takeWhile fun y => decide (y.1.seq.toNat / 8 = sec)).map fun y => y.1
    let old := g.wrote.filter fun y => decide (y.seq.toNat / 8 = sec)
    let full := decide ((mine.getLast?.map fun y => y.seq.toNat % 8) = some 7)
    if full || !g.active || g.due then
      let put := if full && decide (old.length + mine.length = 8) then old ++ mine else mine
      let first := (put.head?.map fun y => y.seq.toNat).getD 0
      let at_ := g.base + 32 * (first % g.cap)
      let t := s.setRing p r
        { g with staged := g.staged.drop mine.length, wrote := if full then [] else old ++ mine,
                 due := g.due && decide (ok.length > mine.length) }
      let (u, done) := t.innerWrite p at_ (put.map TraceRec.bytes).flatten
      if done = .done then u.emit (.trace p r first put.length) else u.cntr p 21 put.length
    else s

/-- Write what may be written of a ring. -/
def State.writeRing (p r : Nat) (rbv : Bool) (s : State) : State :=
  (List.range 65).foldl (fun t _ => t.writeSect p r rbv) s

/-- Form a record of an event in one ring. -/
def State.formIn (p r kind status : Nat) (addr : DWord) (isAddr : Bool) (info : DWord) (ctx : Nat) (s : State) : State :=
  let g := s.ring p r
  if !g.active then s
  else
    let (dropped, h) := g.add s.sg.clk (s.mkRec p g.ids kind status addr isAddr info ctx)
    (when dropped (State.cntr p 21 1) (s.setRing p r h)).writeRing p r false

/-- The numbers of a partition's rings. -/
def rings4 : List Nat := [0, 1, 2, 3]

/-- An event of a partition: a record in each ring whose selection names its kind (R513). -/
def State.trace (p kind status : Nat) (addr : DWord) (isAddr : Bool) (info : DWord) (ctx : Nat) (s : State) : State :=
  each (rings4.filter fun r => bit (s.traceSel p r) (kind - 1))
    (fun r => State.formIn p r kind status addr isAddr info ctx) s

/-- A trigger reaches a ring (R516); `src` is 1 command, 2 schedule entry, 3 fault. -/
def State.trigger (p r src : Nat) (s : State) : State :=
  let g := s.ring p r
  if g.st = 2 then
    let t := s.formIn p r 0x70 0 0 false (BitVec.ofNat 64 src) 0xFFFF
    let h := t.ring p r
    if g.mode = 2 then
      let left := min g.post (g.cap - 1)
      (t.setRing p r { h with trig := if h.seq = g.seq then h.trig else BitVec.ofNat 32 (h.seq - 1), left := left,
                              st := if left = 0 then 5 else 3 }).writeRing p r false
    else t
  else s.setRing p r { g with ignored := satAdd 255 g.ignored 1 }

/-- A ring in RUNNING or POST stops: a state-change record is its last (R511, R513), and what is staged goes out (R514). -/
def State.stopRing (p r : Nat) (s : State) : State :=
  if !(s.ring p r).active then s
  else
    let t := s.formIn p r 0x72 0 0 false 1 0xFFFF
    let g := t.ring p r
    (t.setRing p r { g with st := if g.active then 1 else g.st }).writeRing p r false

/-! Fault records (R419 to R422). -/

/-- A context. -/
def State.ctx (s : State) (c : Nat) : Ctx := s.obju.ctxs.get Ctx.free c
/-- Change a context. -/
def State.modCtx (c : Nat) (f : Ctx → Ctx) (s : State) : State :=
  s.modObju fun o => { o with ctxs := o.ctxs.upd Ctx.free c f }
/-- The context is LIVE or FAULT_STALL. -/
def Ctx.serves (c : Ctx) : Bool := decide (c.st = 1) || decide (c.st = 2)
/-- Contexts of a partition that are not FREE, lowest number first. -/
def State.ctxsOf (s : State) (p : Nat) : List Nat :=
  (s.obju.ctxs.filter fun x => decide (x.2.st ≠ 0) && decide (x.2.part = p)).map fun x => x.1

/-- The 32 bytes of a fault record (R419). -/
def FaultRec.bytes (x : FaultRec) : List Byte :=
  [BitVec.ofNat 8 (x.kind + if x.phase then 128 else 0), BitVec.ofNat 8 (stCode x.status)] ++ leBytes 2 x.ctx
    ++ [BitVec.ofNat 8 (x.part + if x.isPartial then 16 else 0), BitVec.ofNat 8 x.detail, 0, 0]
    ++ leBytes 8 x.stamp ++ leBytes 8 x.addr ++ leBytes 8 x.info.toNat

/-- Write a record at TAIL of a resident context's queue that has room; one that cannot be written is counted (R419, R535). -/
def State.faultPut (c : Nat) (x : FaultRec) (s : State) : State :=
  let k := s.ctx c
  let y := { x with phase := k.fqPhase }
  let (t, ok) := s.innerWrite k.part (k.base + 0x1000 + 32 * k.fqTail) y.bytes
  if ok = .done then
    (t.modCtx c fun k =>
      { k with recs := k.recs.put k.fqTail y, fqTail := (k.fqTail + 1) % 256, fqCount := k.fqCount + 1,
               fqPhase := if k.fqTail = 255 then !k.fqPhase else k.fqPhase }).emit (.faultRec c k.fqTail)
  else t.cntr k.part 8 1

/-- A fault joins the overflow state of its context, which enters FAULT_STALL (R422). -/
def State.faultOvf (c : Nat) (x : FaultRec) (s : State) : State :=
  s.modCtx c fun k =>
    let o := match k.ovf with
      | some o => { o with count := o.count + 1, last := x.stamp, kinds := o.kinds ||| BitVec.twoPow 32 x.kind }
      | none => { count := 1, first := x.stamp, last := x.stamp, kinds := BitVec.twoPow 32 x.kind, status := x.status }
    { k with st := if k.st = 1 then 2 else k.st, ovf := some o }

/-- Deliver a fault record to a context (R421, R422): a spilled context is waited for. After a breach no record is written (R232). -/
def State.faultTo (c : Nat) (x : FaultRec) (s : State) : State :=
  let k := s.ctx c
  if s.boot.breached then s
  else if !k.resident then
    if s.obju.waiting.length < 256 then s.modObju fun o => { o with waiting := o.waiting ++ [(c, x)] }
    else s.faultOvf c x
  else if k.fqCount = 256 then s.faultOvf c x
  else s.faultPut c x

/-- A fault of a partition (R420, R421): where its record goes, its trace record and the triggers of R516. -/
def State.fault (p ctx kind : Nat) (st : Status) (addr : Nat) (info : DWord) (detail : Nat) (part : Bool)
    (s : State) : State :=
  let k := s.ctx ctx
  let own := k.serves && decide (k.part = p)
  let tgt := if own then some ctx else (s.ctxsOf p).find? fun c => (s.ctx c).serves
  let x : FaultRec :=
    { kind := kind, phase := false, status := st, ctx := if own then ctx else 0xFFFF, part := p, isPartial := part,
      detail := detail, stamp := s.now, addr := addr, info := info }
  let t :=
    if s.params.profile = .s then (s.cntr p 8 1).press 6 st (some p) addr
    else if k.st = 3 ∧ k.part = p then s.cntr p 8 1
    else match tgt with
      | some c => s.faultTo c x
      | none => s.cntr p 8 1
  let u := t.trace p 3 (stCode st) (BitVec.ofNat 64 addr) true (BitVec.ofNat 64 kind) ctx
  each (rings4.filter fun r => bit (u.traceSel p r) 24 && decide ((u.ring p r).st ≠ 0)) (fun r => State.trigger p r 3) u

/-! Command queues and replies (R370, R373). -/

/-- Key of a queue in the queue table. -/
def qKey : Path → Option Nat
  | .hostq n => some n
  | .ctxq c q => some (16 + 8 * c + q)
  | _ => none

/-- A queue. -/
def State.queue (s : State) (k : Nat) : Queue := s.cmd.queues.get Queue.none k
/-- Change a queue. -/
def State.modQueue (k : Nat) (f : Queue → Queue) (s : State) : State :=
  s.modCmd fun c => { c with queues := c.queues.upd Queue.none k f }

/-- The 32 bytes of a status reply (R373). -/
def Reply.bytes (r : Reply) : List Byte :=
  let (q, hq) := match r.path with
    | .hostq n => (n, 1)
    | .ctxq _ q => (q, 0)
    | _ => (0, 0)
  leBytes 2 r.opcode ++ [BitVec.ofNat 8 (stCode r.status),
    BitVec.ofNat 8 (b2n r.final + 2 * q + 16 * hq + if r.phase then 128 else 0)]
    ++ leBytes 2 r.ctx ++ leBytes 2 r.sqHead ++ leBytes 4 r.seq.toNat
    ++ [BitVec.ofNat 8 r.part, BitVec.ofNat 8 r.detail] ++ leBytes 2 r.x.toNat ++ leBytes 16 r.result.toNat

/-- Application data sealed as the next record of a secured session (R43, R380, R522): its bytes, `Config.recordLen` of them. -/
def State.sealRec (sid : Nat) (data : List Byte) (s : State) : State × List Byte :=
  match s.cmd.sessions.find? fun x => decide (x.sid = sid) with
  | some x =>
    (s.modCmd fun c => { c with sessions := c.sessions.map fun y => if y = x then { x with seq := x.seq + 1 } else y },
     fit (Config.recordLen data.length) (Config.sealRecord (x.slots.map fun n => (s.slot n).value) x.seq data))
  | none => (s, [])

/-- Make a queued write of the command DMA master; none begins after a breach (R232). -/
def State.cdmMake (o : Out) (s : State) : State := if s.boot.breached then s else s.emit o

/-- A write of the command DMA master made for a partition: held while the partition is release-before-verify, 64 at most; its unit
keeps it back while 64 are held (R224, R225). -/
def State.cdmWrite (p : Nat) (o : Out) (s : State) : State :=
  if s.boot.breached then s
  else if !s.holds p then s.cdmMake o
  else if s.cmd.cdm.length < 64 then s.modCmd fun c => { c with cdm := c.cdm ++ [(p, s.sg.clk, o)] }
  else s.modCmd fun c => { c with cdmWait := c.cdmWait ++ [(p, o)] }

/-- A place in the hold buffer of the command DMA has become free: the writes kept back are queued now, oldest first. -/
def State.cdmRefill (s : State) : State :=
  let ws := s.cmd.cdmWait.take (64 - s.cmd.cdm.length)
  each ws (fun w => State.cdmWrite w.1 w.2) (s.modCmd fun c => { c with cdmWait := c.cdmWait.drop ws.length })

/-- A reply into a DEVICE-owned ring is a protected access of the block's own (R84, R367): one that cannot be written is not (R535). -/
def State.deviceReply (r : Reply) (s : State) : State :=
  if s.boot.breached then s
  else
    let (t, st) := s.innerWrite r.part r.ringAt r.bytes
    when (decide (st = .done)) (State.emit (.reply r)) t

/-- Write a reply into a ring entry (R370). -/
def State.ringReply (k : Nat) (r : Reply) (s : State) : State :=
  let q := s.queue k
  if !q.valid then s
  else
    let x := { r with phase := q.phase, ringAt := q.rq + 32 * q.rTail,
                      dev := decide (q.owner = 3) && decide (s.params.profile ≠ .s) }
    let t := s.modQueue k fun q =>
      { q with rTail := (q.rTail + 1) % 2 ^ q.log2, phase := if q.rTail + 1 = 2 ^ q.log2 then !q.phase else q.phase,
               rUsed := q.rUsed + 1, reserved := q.reserved - 1 }
    if x.dev then t.deviceReply x else t.cdmWrite r.part (.reply x)

/-- Final replies that arrive after an ACCEPTED one (the Reply column A of R382). -/
def isA (opc : Nat) : Bool :=
  [0x0002, 0x0101, 0x0102, 0x0107, 0x0108, 0x0202, 0x0204, 0x0302, 0x0310, 0x0311, 0x0312, 0x0313, 0x0403, 0x0501, 0x0801,
   0x0802, 0x0803, 0x0804, 0x0805, 0x0806, 0x0901].contains opc

/-- A reply to be given for a command. -/
def Pend.reply (p : Pend) (st : Status) (final : Bool) (detail : Nat) (x : BitVec 16) (result : BitVec 128)
    (trailer : List Byte) : Reply :=
  { opcode := p.opc, status := st, final := final, path := p.h.path, ctx := p.h.ctx, sqHead := p.sqHead, seq := p.h.seq,
    part := p.h.part, detail := detail, phase := false, x := x, result := result, trailer := trailer, ringAt := 0,
    dev := false }

/-- Keep a final reply for its session, the oldest of 16 giving way (R381). -/
def State.storeReply (sid : Nat) (r : Reply) (s : State) : State :=
  s.modCmd fun c =>
    let mine := c.stored.filter fun x => decide (x.1 = sid)
    let kept := if 16 ≤ mine.length then (match mine.head? with | some o => c.stored.erase o | none => c.stored) else c.stored
    { c with stored := kept ++ [(sid, r)] }

/-- Put a response out; on DOE it ends the object in progress (R345), on the management bus an in-band interrupt announces it (R452). -/
def State.respond (t : Transport) (r : Resp) (s : State) : State :=
  match t with
  | .doe h => (s.modHst fun x => { x with doe := x.doe.set none h none }).emit (.resp t r)
  | .mgmt => (s.emit (.ibi Config.ibiPending)).emit (.resp t r)
  | .link _ _ => s.emit (.resp t r)

/-- Send a reply by the command's path. No reply is issued after a breach (R23). -/
def State.sendReply (r : Reply) (store : Bool) (s : State) : State :=
  if s.boot.breached then s
  else match r.path with
    | .mgmt sid | .doe _ sid =>
      if !(s.cmd.sessions.any fun x => decide (x.sid = sid)) then s
      else if store then s.storeReply sid r
      else match r.path with
        | .mgmt _ => (s.emit (.ibi Config.ibiPending)).emit (.reply r)
        | .doe h _ => (s.modHst fun x => { x with doe := x.doe.set none h none }).emit (.reply r)
        | _ => s.emit (.reply r)
    | .carried _ => s
    | p => match qKey p with
      | some k => s.ringReply k r
      | none => s

/-! Fences (R406 to R413). -/

/-- A fence as a partition names it: below 0xF000 a local number, else a domain fence of the partition. -/
def State.fence (s : State) (p f : Nat) : Fence :=
  if f < 0xF000 then s.obju.fences.get Fence.free f else s.obju.dfences.get Fence.free (4096 * p + (f - 0xF000))
/-- Store a fence. -/
def State.setFence (p f : Nat) (x : Fence) (s : State) : State :=
  s.modObju fun o =>
    if f < 0xF000 then { o with fences := o.fences.set Fence.free f x }
    else { o with dfences := o.dfences.set Fence.free (4096 * p + (f - 0xF000)) x }

/-- Domain fences of a partition (R410). -/
def State.dfCount (s : State) (p : Nat) : Nat :=
  match (s.part p).man with
  | some m => if s.pst p = 0 ∨ s.pst p = 5 then 0 else m.dfCount
  | none => 0

/-- A local fence exists and is of the partition; a domain fence is below its DF_COUNT (R406, R410). -/
def State.fenceOk (s : State) (p f : Nat) : Bool :=
  if f < 0xF000 then (s.fence p f).used && decide ((s.fence p f).part = p) else decide (f - 0xF000 < s.dfCount p)

/-- A STOP of the partition is ACTIVE (R139). -/
def State.stopped (s : State) (p : Nat) : Bool := (s.dt.stops.get Stop.none p).active

/-- A command that has completed: its final status and result. -/
structure Done where
  p : Pend
  st : Status
  x : BitVec 16
  result : BitVec 128
  trailer : List Byte
  detail : Nat
  /-- A stored reply that stands in place of the command's own (R381). -/
  stored : Option Reply
  deriving DecidableEq, Repr

/-- A completion with a status alone. -/
def Pend.ends (p : Pend) (st : Status) : Done :=
  { p := p, st := st, x := 0, result := 0, trailer := [], detail := 0xFF, stored := none }

/-- The code of a fence's payload as a final status. -/
def payloadSt (n : Nat) : Status := (codeSt n).getD .done

/-- Complete the waits on a fence with its payload (R409). -/
def State.wake (p f : Nat) (s : State) : State × List Done :=
  let pay := (s.fence p f).payload
  let (mine, rest) := s.obju.waits.partition fun w => decide (w.1 = p ∧ w.2.1 = f)
  let t := s.modObju fun o => { o with waits := rest }
  (each mine (fun w => State.trace p 4 pay (BitVec.ofNat 64 f) false 2 w.2.2.h.ctx) t,
   mine.map fun w => w.2.2.ends (payloadSt pay))

/-- ERROR of a signal: DONE, or a code of R22 other than ACCEPTED and BREACH (R406). -/
def signalCode (n : Nat) : Bool :=
  match codeSt n with
  | some .accepted => false
  | some .breach => false
  | some _ => true
  | none => false

/-- Signal a fence here (R406): the higher code stays; waits complete unless a STOP is ACTIVE. -/
def State.signalHere (p f code : Nat) (s : State) : State × List Done :=
  let x := s.fence p f
  let y := { x with signalled := true, payload := max x.payload code }
  let q := if f < 0xF000 then x.part else p
  let t := (s.setFence p f y).trace q 4 y.payload (BitVec.ofNat 64 f) false 1 x.owner
  if t.stopped q then (t, []) else t.wake q f

/-- The KIND 0x33 payload (R412). -/
def dfPayload (op error origin index : Nat) (epoch : Word) (stamp : Nat) (oseq : Word) : List Byte :=
  [0x33, BitVec.ofNat 8 op, BitVec.ofNat 8 error, 0] ++ leBytes 2 origin ++ leBytes 2 index ++ leBytes 4 epoch.toNat
    ++ leBytes 8 stamp ++ leBytes 4 oseq.toNat ++ List.replicate 8 0

/-- Propagate a signal or reset of a domain fence (R412). -/
def State.propagate (p f op error : Nat) (s : State) : State :=
  let oseq := s.obju.oseq.get 0 p
  let t := s.modObju fun o =>
    { o with oseq := o.oseq.set 0 p (oseq + 1), seenFence := (p, s.memberOf p, oseq) :: o.seenFence }
  t.broadcast p 0x33 none (dfPayload op error (s.memberOf p) (f - 0xF000) (s.fence p f).epoch s.now oseq)

/-- Signal a fence (R406, R412). -/
def State.signal (p f code : Nat) (s : State) : State × List Done :=
  let (t, ds) := s.signalHere p f code
  (if f < 0xF000 then t else t.propagate p f 1 code, ds)

/-! Completion of commands (R377, R378). -/

/-- An object-table entry. -/
def State.obj (s : State) (p i : Nat) : Obj := s.obju.objs.get Obj.vacant (2 ^ 25 * p + i)
/-- Change an object-table entry. -/
def State.modObj (p i : Nat) (f : Obj → Obj) (s : State) : State :=
  s.modObju fun o => { o with objs := o.objs.upd Obj.vacant (2 ^ 25 * p + i) f }

/-- The references of a command are dropped (R403). -/
def State.unref (p : Nat) (refs : List Nat) (s : State) : State :=
  each refs (fun i => State.modObj p i fun x => { x with refs := x.refs - 1 }) s

/-- Commands of a queue that have not sent their final reply. -/
def State.inflightOf (s : State) (path : Path) : List Pend := s.cmd.inflight.filter fun p => decide (p.h.path = path)

/-- The objects that the rings of a DEVICE-owned queue lie in (R367). -/
def State.ringObjs (s : State) (sq rq log2 : Nat) : List Nat :=
  let plots (a n : Nat) : List Nat := (List.range ((a + n - 1) / 65536 + 1 - a / 65536)).map fun i => a / 65536 + i
  ((plots sq (64 * 2 ^ log2) ++ plots rq (32 * 2 ^ log2)).map fun x => (s.plotOf x).obj).dedup

/-- The references of a queue on its ring objects end (R367). -/
def State.releaseRings (k : Nat) (s : State) : State :=
  let q := s.queue k
  if q.rings then
    (s.unref (s.ctx ((k - 16) / 8)).part (s.ringObjs q.sq q.rq q.log2)).modQueue k fun x => { x with rings := false }
  else s

/-- Remove a queue: the references on its ring objects end (R367, R388). -/
def State.removeQueue (k : Nat) (s : State) : State :=
  (s.releaseRings k).modCmd fun c => { c with queues := c.queues.drop k }

/-- A queue that is being destroyed and has no admitted command left is removed; its destroyer completes (R388); a
QUEUE_DESTROY that came by the queue itself does not wait for its own reply (DEDUCED). -/
def State.reapQueue (path : Path) (s : State) : State × List Done :=
  match qKey path with
  | some k =>
    let q := s.queue k
    if q.destroying && ((s.inflightOf path).all fun p => decide (some p = q.killer)) then
      (match path with
        | .hostq n => (s.removeQueue k).setFld (rCmdHqCfg n) 0 0 0
        | _ => s.removeQueue k,
       match q.killer with
        | some d => [{ d.ends .done with result := BitVec.ofNat 128 q.discarded }]
        | none => [])
    else (s, [])
  | none => (s, [])

/-- The inner command of a CARRY has completed: its reply, with its trailer, is written as one record of the session, and the outer command
completes (R380). -/
def State.carried (r : Reply) (s : State) : State × List Done :=
  match r.path with
  | .carried id =>
    match s.cmd.carries.find? fun c => decide (c.id = id) with
    | some c =>
      let t := s.modCmd fun m => { m with carries := m.carries.filter fun x => decide (x.id ≠ id) }
      let (u, rec) := t.sealRec c.sid (r.bytes ++ r.trailer)
      (u.cdmWrite r.part (.record r.part c.rplAddr rec),
       [{ c.p.ends .done with result := BitVec.ofNat 128 (Config.recordLen (32 + r.trailer.length)) }])
    | none => (s, [])
  | _ => (s, [])

/-- Bytes 17:16 and the INFO of trace kinds 0x01 and 0x02 (R513). -/
def traceQueue : Path → Nat
  | .hostq n => n
  | .ctxq _ q => q
  | _ => 0xFF

/-- The INFO of trace kinds 0x01 and 0x02. -/
def Pend.info (p : Pend) : DWord := BitVec.ofNat 64 (p.opc + p.h.seq.toNat * 2 ^ 16)

/-- One completion: references end, the final reply goes out, FENCE is signalled, a queue waiting for it is removed; and
what completes in turn. -/
def State.complete1 (d : Done) (s : State) : State × List Done :=
  let p := d.p.h.part
  let t := (s.modCmd fun c => { c with inflight := c.inflight.erase d.p }).unref p d.p.refs
  let r := match d.stored with
    | some y => { y with path := d.p.h.path }
    | none => d.p.reply d.st true d.detail d.x d.result d.trailer
  let quiet := d.p.h.noreply && decide (d.st = .done)
  let u :=
    if quiet then
      match qKey d.p.h.path with
      | some k => t.modQueue k fun q => { q with reserved := q.reserved - 1 }
      | none => t
    else (t.sendReply r (isA d.p.opc)).trace p 2 (stCode d.st) (BitVec.ofNat 64 (traceQueue d.p.h.path)) false d.p.info
      d.p.h.ctx
  let (v, a) := if d.p.h.signal && u.fenceOk p d.p.h.fence then u.signal p d.p.h.fence (stCode d.st) else (u, [])
  let (w, b) := v.carried r
  let (x, c) := w.reapQueue d.p.h.path
  (x, a ++ b ++ c)

/-- Complete commands, and what completes in turn; every completion ends a command in flight, a carry or a queue, so the
fuel never runs out. -/
def completeFuel : Nat → List Done → State → State
  | 0, _, s => s
  | _, [], s => s
  | n + 1, d :: ds, s =>
    let (t, more) := s.complete1 d
    completeFuel n (ds ++ more) t

/-- Complete commands. -/
def State.complete (ds : List Done) (s : State) : State :=
  completeFuel (ds.length + 2 * s.cmd.inflight.length + s.cmd.carries.length + s.cmd.queues.length + 2) ds s

/-- Complete what a change answers. -/
def finishing (r : State × List Done) : State := r.1.complete r.2

end Sys2Proof.Machine
end

