-- ==== Sys2Proof/Machine/Dumps.lean ====
section
/-!
DEFINITION. Schedule entries and their end (R122, R126), tensor dumps (R519 to R523) and the end of secured sessions (R433).
-/
namespace Sys2Proof.Machine

/-! Schedule entries (R122 to R126). -/

/-- An entry of the schedule table. -/
def State.sched (s : State) (i : Nat) : Sched := s.dt.sched.get Sched.free i

/-- Store an entry. -/
def State.setSched (i : Nat) (e : Sched) (s : State) : State :=
  s.modDt fun d => { d with sched := d.sched.set Sched.free i e }

/-- INSTANT of a periodic entry no longer lies in the past (R126): each occurrence skipped adds to MISSED. -/
def Sched.skipPast (now : Nat) (e : Sched) : Sched :=
  let step := 1000 * e.period
  let skip := if e.instant < now then (now - e.instant) / step + 1 else 0
  { e with instant := e.instant + skip * step, missed := satAdd 255 e.missed skip }

/-- INSTANT after a firing (R126). -/
def Sched.advance (now : Nat) (e : Sched) : Sched :=
  if e.period = 0 then e else { e with instant := e.instant + 1000 * e.period }.skipPast now

/-- The action of an entry completes (R126): a one-shot entry returns to FREE, a periodic one is armed for its next instant. -/
def State.schedEnds (i : Nat) (s : State) : State :=
  let e := s.sched i
  if e.period = 0 then s.setSched i Sched.free else s.setSched i { e.skipPast s.now with st := 1 }

/-! Tensor dumps (R519 to R523). -/

/-- A dump ends with a RESULT (R523). -/
def State.dumpEnd (d : Dump) (res : Nat) (s : State) : State :=
  let n := (s.obs.dumpDone.get (0, 0, 0) d.part).2.1
  ((s.modObs fun o =>
    { o with dumps := o.dumps.erase d,
             dumpDone := o.dumpDone.set (0, 0, 0) d.part (res, satAdd 255 n 1, d.cap.elim 0 fun c => c.2.2) }).cntr d.part
    (if res = 0 then 22 else 23) 1).schedEnds d.idx

/-- Chunks of a tensor (R521). -/
def Tensor.chunks (x : Tensor) : Nat := (x.len + 65535) / 65536

/-- Bytes of chunk `i`. -/
def Tensor.chunkLen (x : Tensor) (i : Nat) : Nat := min 65536 (x.len - 65536 * i)

/-- Place of the record of `n` data bytes: the record, aligned to 64 bytes (R522). -/
def recordPlace (n : Nat) : Nat := (Config.recordLen (64 + n) + 63) / 64 * 64

/-- Offset of the record of chunk `i` in the dump buffer. -/
def Tensor.recordAt (x : Tensor) (i : Nat) : Nat := ((List.range i).map fun j => recordPlace (x.chunkLen j)).sum

/-- Base of a partition's dump buffer (OBS_DUMP_BASEp). -/
def State.dumpBase (s : State) (p : Nat) : Nat := s.pair (rObsDumpBase p) / 64 * 64

/-- The buffer is there and large enough (R523, RESULT 4). -/
def State.dumpFits (s : State) (p : Nat) (x : Tensor) : Bool :=
  decide (s.dumpBase p ≠ 0) && decide (x.recordAt x.chunks ≤ 65536 * s.fld (rObsDumpSize p) 15 0)

/-- A secured session is bound to the verifier of the partition's domain; of a LOCAL partition, to the lock of its TDI (R53,
R439). -/
def State.tenantOf (s : State) (x : Secured) (p : Nat) : Bool :=
  match (s.part p).man with
  | some m => decide (x.leaf = m.verifier)
  | none => decide (s.pst p ≠ 0) && decide (x.tdi = some p)

/-- The session is the management session (R453). -/
def State.isMgmt (s : State) (x : Secured) : Bool := s.att.mgmtRoots.contains x.root

/-- The TENANT session of a partition that was established last and is open (R522). -/
def State.dumpSession (s : State) (p : Nat) : Option Secured :=
  (s.cmd.sessions.filter fun x => x.live && s.tenantOf x p).foldl (fun a x => match a with
    | some y => if y.born < x.born then some x else a
    | none => some x) none

/-- The registration of a name (R519). -/
def State.tensor (s : State) (p : Nat) (name : Word) : Option Tensor :=
  (s.obs.tensors.find? fun x => decide (x.1 = p) && decide (x.2.name = name)).map fun x => x.2

/-- A dump of the partition captures, or its records are still being written (R522). -/
def State.dumpBusy (s : State) (p : Nat) : Bool :=
  (s.obs.dumps.any fun d => decide (d.part = p) && d.cap.isSome)
    || (s.cmd.cdm.map (fun x => x.2.2) ++ s.cmd.cdmWait.map fun x => x.2).any fun x => match x with
      | .dump q _ _ => decide (q = p)
      | _ => false

/-- A dump begins its capture, or ends at once (R520 to R523). -/
def State.dumpBegin (d : Dump) (s : State) : State :=
  match s.tensor d.part d.name with
  | none => s.dumpEnd d 1
  | some x =>
    if ¬((s.obj d.part x.obj).st = 1 ∧ (s.obj d.part x.obj).gen = x.gen) then s.dumpEnd d 1
    else match s.dumpSession d.part with
      | none => s.dumpEnd d 3
      | some y =>
        if !s.dumpFits d.part x then s.dumpEnd d 4
        else s.modObs fun o =>
          { o with dumps := o.dumps.map fun z => if z = d then { d with cap := some (x, y.sid, 0) } else z }

/-- The next dump of a partition that is due begins when none is running (R520); each round begins or ends one. -/
def dumpPump (p : Nat) : Nat → State → State
  | 0, s => s
  | n + 1, s =>
    if s.dumpBusy p then s
    else match s.obs.dumps.find? fun d => decide (d.part = p) && d.due with
      | some d => dumpPump p n (s.dumpBegin d)
      | none => s

/-- Begin what may begin of a partition's dumps. -/
def State.dumpNext (p : Nat) (s : State) : State := dumpPump p (s.obs.dumps.length + 1) s

/-- The captures that a condition picks end with RESULT 6 (R523). -/
def State.dumpCut (f : Dump → Bool) (s : State) : State :=
  each (s.obs.dumps.filter fun d => d.cap.isSome && f d) (fun d t => t.dumpEnd d 6) s

/-! Secured sessions (R433). -/

/-- A secured session ends: its slots retire, its stored replies go, and a capture that it seals ends. -/
def State.endSecured (x : Secured) (s : State) : State :=
  let t := (s.retireAll (x.slots ++ x.hand)).modCmd fun c =>
    { c with sessions := c.sessions.filter (fun y => decide (y ≠ x)), stored := c.stored.filter fun y => decide (y.1 ≠ x.sid) }
  each parts16 State.dumpNext (t.dumpCut fun d => d.cap.any fun c => decide (c.2.1 = x.sid))

/-- The secured sessions that a condition picks end. -/
def State.endSecuredWhere (f : Secured → Bool) (s : State) : State := each (s.cmd.sessions.filter f) State.endSecured s

end Sys2Proof.Machine
end

