-- ==== Sys2Proof/Machine/Fencing.lean ====
section
/-!
DEFINITION. Sessions that go DOWN (R302), members recorded lost (R318), the fence of a partition (R492), the breach halt
(R232) and the chip reset that the block requests (R480, R498).
-/
namespace Sys2Proof.Machine

/-! Reductions (R260, R266, R267). -/

/-- The 48 header bytes of a contribution, result or acknowledgement (R260, R267). -/
def contribBytes (c : Contrib) (kind cidx chunk count status : Nat) : List Byte :=
  [BitVec.ofNat 8 kind, BitVec.ofNat 8 c.fmt, BitVec.ofNat 8 c.out, c.mode] ++ leBytes 4 c.rid.toNat ++ leBytes 2 c.n
    ++ leBytes 2 cidx ++ leBytes 2 c.dest ++ leBytes 2 chunk ++ leBytes 2 count ++ leBytes 2 c.chunkElems
    ++ leBytes 4 c.total ++ leBytes 4 c.destObj ++ leBytes 3 c.destGen ++ [BitVec.ofNat 8 status]
    ++ leBytes 4 c.destSect ++ List.replicate 12 0

/-- Chunks of a reduction. -/
def chunksOf (c : Contrib) : Nat := (c.total + c.chunkElems - 1) / c.chunkElems
/-- Elements of chunk `k`. -/
def chunkCount (c : Contrib) (k : Nat) : Nat :=
  if k + 1 = chunksOf c then c.total - k * c.chunkElems else c.chunkElems
/-- Destinations of a reduction's results. -/
def Reduction.dests (x : Reduction) : List Nat := if x.hdr.dest = 0x3FFF then x.members.map fun m => m.1 else [x.hdr.dest]

/-- Class of a frame that the block forms (Config.frameClass). -/
def tcOf (kind : Nat) : Nat := 1 + Config.frameClass kind % 6

/-- Chunks that are sent and owe nothing more, and every chunk when the reduction has ended, release it (R264). -/
def Reduction.released (x : Reduction) : Bool :=
  (List.range (chunksOf x.hdr)).all fun k => x.done.contains k

/-- Send chunk `k` to the destinations not recorded lost, with a status and data; lost ones are given up (R267). -/
def State.sendChunk (x : Reduction) (k : Nat) (st : Status) (data : List Byte) (s : State) : State × Reduction :=
  let ds := x.dests.filter fun d => !s.isLost x.part d
  (each ds (fun d => State.sendTo x.part d 0x52 (tcOf 0x52) false
    (contribBytes x.hdr 0x52 0 k (chunkCount x.hdr k) (stCode st) ++ data)) s,
   if ds.isEmpty then { x with done := x.done ++ [k] } else { x with sent := x.sent ++ [(k, ds, st, s.now)] })

/-- Store a reduction, or release it. -/
def State.putReduction (x : Reduction) (s : State) : State :=
  s.modRem fun r =>
    let rest := r.pool.filter fun y => decide (¬(y.part = x.part ∧ y.hdr.rid = x.hdr.rid))
    { r with pool := if x.released then rest else rest ++ [x] }

/-- End a reduction: each unsent chunk goes to its destination with a status and no data (R258, R266). -/
def State.endReduction (st : Status) (x : Reduction) (s : State) : State :=
  let todo := (List.range (chunksOf x.hdr)).filter fun k => !x.done.contains k && !(x.sent.any fun y => decide (y.1 = k))
  let (t, y) := todo.foldl (fun (a : State × Reduction) k => a.1.sendChunk a.2 k st []) (s, { x with ended := true })
  t.putReduction y

/-- A contributor of the reduction whose chunks are not all applied is the member. -/
def Reduction.waitsOn (x : Reduction) (m : Nat) : Bool :=
  x.members.any fun y => decide (y.1 = m) && (List.range (chunksOf x.hdr)).any fun k => !x.ledger.contains (y.2, k)

/-- Chunks owed by a destination are given up (R267). -/
def Reduction.giveUp (x : Reduction) (m : Nat) : Reduction :=
  let sent := x.sent.map fun y => (y.1, y.2.1.filter (fun d => decide (d ≠ m)), y.2.2)
  { x with sent := sent.filter (fun y => !y.2.1.isEmpty),
           done := x.done ++ (sent.filter fun y => y.2.1.isEmpty).map fun y => y.1 }

/-! Sessions (R301, R302). -/

/-- Record a change of state of a partition session in the trace (KIND 0x09). -/
def State.traceSess (k si : Nat) (s : State) : State :=
  if si = 0 then s
  else
    let x := s.sess k si
    s.trace (si - 1) 9 0 (BitVec.ofNat 64 (x.peer + k * 2 ^ 16)) false (BitVec.ofNat 64 x.st) 0xFFFF

/-- A session enters a state. -/
def State.sessTo (k si st : Nat) (s : State) : State := (s.modSess k si fun x => { x with st := st }).traceSess k si

/-- The fence of an ACTIVE STOP that can no longer complete is signalled MEMBER_LOST; INFO of the press record lists the sessions
concerned, a bit for each port whose session of the partition brought no marker (R137; the form of the list: DESIGN CHOICE, log
entry 56). -/
def State.stopLoses (p : Nat) (ports : List Nat) (s : State) : State :=
  let x := s.dt.stops.get Stop.none p
  if x.active && !x.complete then
    let info : DWord := (ports.filter fun k => !x.got.contains k).foldl (fun w k => setBit w k true) 0
    finishing (((s.modDt fun d => { d with stops := d.stops.set Stop.none p { x with complete := true } }).pressW 7
      .memberLost (some p) x.origin info false).signal p x.fence (stCode .memberLost))
  else s

/-- The followable port of lowest PRIO, then lowest number: a SLAVE candidate whose block-owned session is OPEN and whose parent
announces fewer than 15 steps (R113). A grandmaster follows none. -/
def State.followable (s : State) : Option Nat :=
  if bit (s.reg rDtCtrl) 1 then none
  else
    let c := s.ports.filter fun k =>
      decide (s.fld (rDtPortCfg k) 1 0 = 2) && decide ((s.sess k 0).st = 3) && (s.ptp k).announced
        && decide ((s.ptp k).steps ≠ 15)
    c.foldl (fun b k => match b with
      | some j => if s.fld (rDtPortCfg k) 5 2 < s.fld (rDtPortCfg j) 5 2 then some k else b
      | none => some k) none

/-- Follow the port that R113 names; a backup that acted as grandmaster returns to following (R115). -/
def State.reselect (s : State) : State :=
  s.modDt fun d =>
    match s.followable with
    | some k => { d with slave := k, steps := (s.ptp k).steps + 1, takeover := false }
    | none => { d with slave := 31 }

/-- The block-owned session of a port has dropped: what its parent sent is forgotten, and a LOCKED instance that followed it
enters HOLDOVER (R117). -/
def State.dtParentLost (k : Nat) (s : State) : State :=
  let t := (s.modDt fun d => { d with ptp := d.ptp.drop k }).reselect
  if s.dt.slave = k ∧ s.dt.st = 2 then t.dtEnter 3 else t

/-- One session goes DOWN: its slots enter RETIRING, its queued frames are discarded (R302). -/
def State.sessDown1 (k si : Nat) (s : State) : State :=
  let x := s.sess k si
  if x.st = 0 then s
  else
    let t := s.retireAll (x.slots ++ x.hand)
    let u := (t.modSess k si fun y => { Sess.down with attempts := y.attempts, backoff := y.backoff }).modPort k fun q =>
      { q with q := q.q.filter fun i => decide (i.f.si ≠ si) }
    let v := u.endSecuredWhere fun y => decide (y.t = .link k si)
    if si = 0 then v.dtParentLost k else (v.traceSess k si).stopLoses (si - 1) [k]

/-- Every partition's session index. -/
def sessIdx : List Nat := List.range 17

/-- A session goes DOWN; with the block-owned one, every session of the port (R302). -/
def State.sessDown (k si : Nat) (s : State) : State :=
  if si = 0 then each sessIdx.reverse (State.sessDown1 k) s else s.sessDown1 k si

/-- Every session of the block goes DOWN. -/
def State.allDown (s : State) : State := each s.ports (fun k => State.sessDown k 0) s

/-! Members recorded lost (R318). -/

/-- End a remote operation without its reply. -/
def State.endOp (o : RemOp) (s : State) : State :=
  s.modRem fun r => { r with ops := r.ops.erase o, past := (o.part, o.txid, o.p) :: r.past }
/-- End a contribution without its acknowledgement. -/
def State.endContrib (c : ContribOp) (s : State) : State :=
  s.modRem fun r => { r with contribs := r.contribs.erase c, pastC := (c.part, c.c, c.p) :: r.pastC }

/-- End the remote operations and contributions that a condition picks, with a status. -/
def State.endRemote (f : RemOp → Bool) (g : ContribOp → Bool) (st : Status) (s : State) : State :=
  let os := s.rem.ops.filter f
  let cs := s.rem.contribs.filter g
  (each cs State.endContrib (each os State.endOp s)).complete
    (os.map (fun o => o.p.ends st) ++ cs.map fun c => c.p.ends st)

/-- The KIND 0x34 payload (R316). -/
def lostPayload (reporter lost dt : Nat) : List Byte :=
  [0x34, 0, 0, 0] ++ leBytes 2 reporter ++ leBytes 2 lost ++ [0, 0, 0, 0] ++ leBytes 8 dt ++ List.replicate 12 0

/-- Record member `m` of the partition's domain lost (R318): its notice goes on every OPEN session but `but`, domain fences
that are UNSIGNALLED are signalled MEMBER_LOST here (R414), queries and contributions to it end (R383, R384), reductions
that wait on it end (R266). -/
def State.recordLost (p m reporter dt : Nat) (but : Option Nat) (s : State) : State :=
  if s.isLost p m then s.broadcast p 0x34 but (lostPayload reporter m dt)
  else
    let t := ((s.modPart p fun x => { x with lost := x.lost ++ [m] }).cntr p 18 1).broadcast p 0x34 but
      (lostPayload reporter m dt)
    let idle := (List.range (t.dfCount p)).filter fun i => !(t.fence p (0xF000 + i)).signalled
    let u := each idle (fun i v => finishing (v.signalHere p (0xF000 + i) (stCode .memberLost))) t
    let v := u.endRemote (fun o => decide (o.part = p ∧ o.dst = m) && o.query) (fun c => decide (c.part = p ∧ c.sw = m))
      .memberLost
    let w := each (v.rem.pool.filter fun x => decide (x.part = p) && x.waitsOn m) (State.endReduction .memberLost) v
    each (w.rem.pool.filter fun x => decide (x.part = p)) (fun x t => t.putReduction (x.giveUp m)) w

/-- MEMBER_LOST is raised for the peer of a session, of which the last frame verified at domain time `dt` (R316, R317). -/
def State.raiseLost (k si peer dt : Nat) (s : State) : State :=
  s.recordLost (si - 1) peer (s.memberOf (si - 1)) dt (some k)

/-! Tiles (R361, R363). STATE: 0 FREE, 1 ADMITTING, 2 ADMITTED, 3 FAULTED. -/

/-- A tile. -/
def State.tile (s : State) (p t : Nat) : Tile := s.hst.tiles.get Tile.free (16 * p + t)
/-- Change a tile. -/
def State.modTile (p t : Nat) (f : Tile → Tile) (s : State) : State :=
  s.modHst fun h => { h with tiles := h.tiles.upd Tile.free (16 * p + t) f }

/-- A completion without data that ends a read of a faulted tile. -/
def abortTlp (tag : Nat) : Tlp :=
  { kind := .cpl false, rid := 0, addr := 0, len := 0, pasid := none, tag := tag, translated := false, ctx := 0xFFFF,
    stream := none, tbit := false, ideOk := true, ro := false, ido := false, payload := [] }

/-- Put out what may not begin after a breach (R23, R232). -/
def State.send (o : Out) (s : State) : State := if s.boot.breached then s else s.emit o

/-- A tile faults (R361). -/
def State.tileFault (p t : Nat) (st : Status) (va : Nat) (part : Bool) (s : State) : State :=
  let x := s.tile p t
  let u := (each x.reads (fun r => State.send (.tlp x.h 1 (abortTlp r.1))) s).modHst fun h =>
    { h with aborted := h.aborted ++ x.reads.map (fun r => (x.h, r.1)),
             held := h.held.filter fun y => decide (¬(y.part = some p ∧ y.tile = some t)) }
  let v := u.fault p x.ctx 2 st va (if part then BitVec.ofNat 64 x.sent else 0) t part
  (v.modTile p t fun y => { y with st := 3, held := [], reads := [] }).trace p 8 (stCode st) (BitVec.ofNat 64 va) true
    (BitVec.ofNat 64 (t + 4 * 256)) x.ctx

/-- The open tiles of a partition that a condition picks fault FENCED (R363). -/
def State.tilesFenced (p : Nat) (f : Tile → Bool) (s : State) : State :=
  each ((List.range 16).filter fun t => (decide ((s.tile p t).st = 1) || decide ((s.tile p t).st = 2)) && f (s.tile p t))
    (fun t u => u.tileFault p t .fenced (u.tile p t).base false) s

/-! The fence of a partition (R86, R492). -/

/-- Beats of a reply without data, or of zero data (R69). -/
def zeroBeats (len : Nat) : List Beat := if len ≤ 1 then [0] else [0, 0]

/-- A reply on MN D that carries no data: zero beats for a request that reads, one acknowledgement for one that writes. -/
def State.mnNoData (q : MnReq) (ack : Bool) (st : Status) (s : State) : State :=
  s.emit (.mnD q.group q.port q.tag (if ack then [] else zeroBeats q.len) st ack true)

/-- Requests of the partition on the MN ports that have not been released are answered FENCED (R492). -/
def State.fenceMn (f : MnReq → Nat → Bool) (s : State) : State :=
  let mine := s.sg.accs.filter fun a => decide (a.serve = .mn) && decide (a.given = none) && f a.q a.part
  let t := each mine (fun a => State.mnNoData a.q (decide (a.kind ≠ .read)) .fenced) s
  let u := t.modSg fun g =>
    { g with accs := g.accs.map fun a =>
        if (decide (a.serve = .mn) && decide (a.given = none) && f a.q a.part) then { a with given := some .fenced } else a }
  let ops := (u.sg.merge.map fun m => m.ops.filter fun o => decide (o.dest = .mn) && f o.q o.part).flatten
  let v := (each ops (fun o => State.mnNoData o.q (!o.reply) .fenced) u).modSg fun g =>
    { g with merge := g.merge.map fun m => { m with ops := m.ops.filter fun o => !(decide (o.dest = .mn) && f o.q o.part) } }
  let qs := v.sg.saQ.filter fun x => decide (x.op.dest = .mn) && f x.op.q x.op.part
  let ws := v.sg.north.filter fun w => f w.q w.part
  (each ws (fun w => State.mnNoData w.q true .fenced) (each qs (fun x => State.mnNoData x.op.q (!x.op.reply) .fenced) v)).modSg fun g =>
    { g with north := g.north.filter (fun w => !f w.q w.part),
             saQ := g.saQ.filter fun x => !(decide (x.op.dest = .mn) && f x.op.q x.op.part) }

/-- Kinds of frame that are requests (R307, R492). -/
def isRequest (kind : Nat) : Bool := [0x20, 0x22, 0x40, 0x42, 0x50, 0x52].contains kind

/-- Unsealed frames of a partition that a condition picks are discarded. -/
def State.dropFrames (p : Nat) (f : EgFrame → Bool) (s : State) : State :=
  s.modLnk fun l =>
    { l with ports := l.ports.mapAll Port.idle fun _ q =>
        { q with q := q.q.filter fun i => !(decide (i.f.si = 1 + p) && f i.f) } }

/-- Waits on fences that a condition picks end with a status. -/
def State.endWaits (f : Nat × Nat × Pend → Bool) (st : Status) (s : State) : State :=
  let ws := s.obju.waits.filter f
  (s.modObju fun o => { o with waits := o.waits.filter fun w => !f w }).complete (ws.map fun w => w.2.2.ends st)

/-- Start the write-back of a merge entry: a full-sector write with a new version and tag (R252). -/
def State.backEntry (m : MEntry) (s : State) : State :=
  let q : MnReq := { group := m.group, port := 0, addr := m.addr, len := 3, op := 1, tag := 0, ctx := 0xFFFF, attr := 0 }
  s.start (Acc.mk0 .back .inner q m.part m.entry (m.lbn % s.sectsPerRegion) m.lbn m.tag.slot (.bound m.tag.obj m.tag.gen)
    m.data (BitVec.allOnes 256))

/-- Write back the DIRTY merge entries that a condition picks, but those whose write-back is in flight. -/
def State.backWhere (f : MEntry → Bool) (s : State) : State :=
  each (s.sg.merge.filter fun m => m.dirty && f m
    && !(s.sg.accs.any fun a => decide (a.kind = .back) && decide (a.lbn = m.lbn))) State.backEntry s

/-- Raise PFENCE_REQ of a partition, once its ACK is low (R86). -/
def State.raisePfence (p : Nat) (s : State) : State :=
  if bit s.pins.pfenceAck p then s else s.modPins fun q => { q with pfenceReq := setBit q.pfenceReq p true }

/-- Lower PFENCE_REQ of a partition that leaves FENCED or SCRUBBING, once its ACK is high (R86, R493, R502). -/
def State.lowerPfence (p : Nat) (s : State) : State :=
  if bit s.pins.pfenceAck p then s.modPins fun q => { q with pfenceReq := setBit q.pfenceReq p false } else s

/-- PFENCE_REQ of a partition is wanted: it is FENCED or SCRUBBING, or a chip request, a breach or PWR_CYCLE holds every partition
fenced (R492, R498, R499). -/
def State.pfenceWant (s : State) (p : Nat) : Bool :=
  decide (s.pst p = 4) || decide (s.pst p = 5) || s.pins.chipRstReq || s.boot.breached || s.boot.pwrOff

/-- Raise CSTOP, once its ACK is low (R86, R136). -/
def State.raiseCstop (s : State) : State := if s.pins.cstopAck then s else s.modPins fun q => { q with cstop := true }

/-- CSTOP is wanted: a STOP is ACTIVE, or an egress frame that one held has not been sealed yet (R136, R140). -/
def State.cstopWant (s : State) : Bool :=
  s.dt.stops.any (fun x => x.2.active) || s.lnk.ports.any fun x => x.2.q.any fun i => i.held

/-- Lower CSTOP when nothing wants it, once its ACK is high (R86, R140). -/
def State.lowerCstop (s : State) : State :=
  if s.cstopWant || !s.pins.cstopAck then s else s.modPins fun q => { q with cstop := false }

/-- Admit a fence of a partition (R492, R493). A set-up under way with a BOUND partition is abandoned; the FENCED that its neighbours
get is a VMR response of code 0 with that status, on the session's SPDM transport, which is of the control class (R40; DESIGN CHOICE,
log entry 54). -/
def State.fencePart (p : Nat) (s : State) : State :=
  let x := s.part p
  if x.st = 0 ∨ x.st = 5 then s
  else if x.st = 4 then s.modPart p fun y => { y with holds := y.holds + 1 }
  else
    let s1 := (s.modPart p fun y => { y with st := 4, before := x.st, fenceAt := s.now, holds := 1 }).raisePfence p
    let s2 := (s1.fenceMn fun _ q => decide (q = p)).backWhere fun m => decide (m.part = p) && !s1.boot.breached
    let s3 := s2.dropFrames p fun f => isRequest f.kind
    let s4 := (s3.tilesFenced p fun _ => true).modHst fun h => { h with held := h.held.filter fun y => decide (y.part ≠ p) }
    let s5 := s4.endRemote (fun o => decide (o.part = p)) (fun c => decide (c.part = p)) .fenced
    let s6 := (s5.dumpCut fun d => decide (d.part = p)).endWaits (fun w => decide ((if w.2.1 < 0xF000 then (s5.fence w.1 w.2.1).part else w.1) = p)) .fenced
    each (s6.ports.filter fun k => decide ((s6.sess k (1 + p)).st = 1) || decide ((s6.sess k (1 + p)).st = 2))
      (fun k t => (t.send (.resp (.link k (1 + p)) (.vmr 0 .fenced []))).sessDown k (1 + p)) s6

/-- Fence every partition that is not FREE. -/
def State.fenceAll (s : State) : State := each s.held State.fencePart s

/-! Chip reset requested by the block (R92, R498) and breach halt (R232). -/

/-- Ask for a chip reset: every partition is fenced, CHIP_RST_REQ rises, memory slots are cleared. -/
def State.chipRequest (cause : Nat) (s : State) : State :=
  if s.pins.chipRstReq then s
  else
    let t := (each parts16 State.raisePfence s.fenceAll).modPins fun q => { q with chipRstReq := true }
    ((t.modBoot fun b => { b with chipCause := cause }).modRst
      fun r => { r with steps := r.steps.filter (fun x => decide (x ≠ .chip)) ++ [.chip] }).wipeMemSlots

/-- A critical-state error that names a chip reset (R480): a press record names the error. -/
def State.critical (src : Nat) (st : Status) (p : Option Nat) (addr : Nat) (s : State) : State :=
  (s.press src st p addr).chipRequest 7

/-- A word of slot storage is read (R150): a corrected error sets ECC_CORR and writes a press record, a double one is a critical-state
error and gives no value. -/
def State.eccRead (e : Ecc) (slot : Nat) (act : State → State) (s : State) : State :=
  let p := if (s.slot slot).block then none else some (s.slot slot).part
  match e with
  | .none => act s
  | .corrected => act (((s.flag rKeyStatus 4).glob 35 1).press 2 .done p slot)
  | .double => s.critical 2 .done p slot

/-- Every held egress item is discarded (R232). -/
def State.discardEgress (s : State) : State :=
  ((((s.modLnk fun l => { l with ports := l.ports.mapAll Port.idle fun _ q => { q with q := [] } }).modCmd fun c =>
    { c with cdm := [], cdmWait := [] }).modSg fun g => { g with north := [] }).modHst fun h => { h with held := [] }).modObs fun o =>
      { o with rings := o.rings.mapAll Ring.off fun _ g => { g with staged := [], wrote := [] } }

/-- MN requests outside the protected spans that memory has not answered are answered FENCED, with zero data (R232). -/
def State.passFenced (s : State) : State :=
  let rs := s.sg.rds.filterMap fun r => match r.what with | .pass q => some (q, r.got) | _ => none
  let ws := s.sg.wr.filterMap fun w => match w.what with | .pass q => some q | _ => none
  (each ws (fun q => State.mnNoData q true .fenced)
    (each rs (fun r => State.emit (.mnD r.1.group r.1.port r.1.tag ((zeroBeats r.1.len).drop r.2) .fenced false true)) s)).modSg
    fun g => { g with wr := g.wr.filter fun w => match w.what with | .pass _ => false | _ => true }

/-- The breach halt (R232): gates close, every partition is fenced, MN requests are answered FENCED, held egress is discarded, BREACH_N
falls, the press record freezes on a record with status BREACH, memory slots are zeroised, the caches are invalidated, CHIP_RST_REQ
rises. A warm reset or retention entry in progress goes no further (R233). -/
def State.breach (src addr : Nat) (s : State) : State :=
  if s.boot.breached then s.pressLoss
  else
    let s1 := (s.modBoot fun b => { b with breached := true, warmRun := none, flush := false, retRun := false }).fenceAll
    let s2 := (each parts16 State.raisePfence s1).passFenced
    let s3 := (((s2.freezePress .breach src .breach none addr).allDown.wipeMemSlots).discardEgress.modSg fun g =>
      { g with mdc := [], merge := [], accs := [], rds := [], saQ := [] }).modKey fun k => { k with cce := [] }
    ((s3.modPins fun q => { q with breachN := false, chipRstReq := true }).modBoot fun b => { b with chipCause := 6 }).modRst
      fun r => { r with steps := r.steps.filter (fun x => decide (x ≠ .chip)) ++ [.chip] }

end Sys2Proof.Machine
end

