-- ==== Sys2Proof/Machine/Admit.lean ====
section
/-!
DEFINITION. Admission of command packets (R364, R368 to R378, R391): the issuer class, the waits at admission, the checks, and
what an admitted or refused packet gives.
-/
namespace Sys2Proof.Machine

/-- Profiles of an opcode (R382): all, those with sector groups, the A-profile. -/
inductive Prof where
  | all | am | a
  deriving DecidableEq, Repr

/-- An opcode's row of R382: code, issuers, profiles, the PLEN that its parameters need, the least SIZE, a trailer. -/
structure Row where
  opc : Nat
  issuers : List Issuer
  prof : Prof
  plen : Nat
  size : Nat
  trailer : Bool
  deriving DecidableEq, Repr

/-- The opcode exists in the profile. -/
def Prof.has (p : Prof) (q : Profile) : Bool :=
  match p, q with
  | .all, _ => true
  | .am, .s => false
  | .am, _ => true
  | .a, .a => true
  | .a, _ => false

/-- A check that failed: the status and, for BAD_PARAM, the packet offset of the byte found wrong (R373). -/
abbrev Fail := Status × Nat

/-- A check: nothing when it holds. -/
def chk (b : Bool) (e : Status) (off : Nat) : List Fail := if b then [] else [(e, off)]

/-- A secured session of a transport. -/
def State.secured (s : State) (t : Transport) (sid : Nat) : Option Secured :=
  s.cmd.sessions.find? fun x => decide (x.t = t) && decide (x.sid = sid) && x.live

/-- The issuer class of a path that is not carried (R364). -/
def State.pathClass (s : State) (path : Path) (p : Nat) : Option Issuer :=
  match path with
  | .hostq _ => some .host
  | .ctxq c q => if (s.queue (16 + 8 * c + q)).owner = 3 then some .device else some .host
  | .mgmt sid =>
    match s.secured .mgmt sid with
    | some x => if s.isMgmt x then some .mgmt else if s.tenantOf x p then some .tenant else none
    | none => none
  | .doe h sid =>
    match s.secured (.doe h) sid with
    | some x => if s.tenantOf x p then some .tenant else some .host
    | none => none
  | .carried _ => none

/-- The issuer class that the block sets from the path (R364, R53). -/
def State.issuerClass (s : State) (path : Path) (p : Nat) : Option Issuer :=
  match path with
  | .carried id =>
    match s.cmd.carries.find? fun c => decide (c.id = id) with
    | some c =>
      if s.cmd.sessions.any fun x => decide (x.sid = c.sid) && x.live && s.tenantOf x p then some .tenant
      else s.pathClass c.p.h.path p
    | none => none
  | q => s.pathClass q p

/-- The path is there to carry a packet: a queue that exists and is not being destroyed, a live session, a carry. -/
def State.pathOpen (s : State) (path : Path) : Bool :=
  match path with
  | .hostq n => (s.queue n).valid && !(s.queue n).destroying && decide (n < 4)
  | .ctxq c q => (s.queue (16 + 8 * c + q)).valid && !(s.queue (16 + 8 * c + q)).destroying && decide (q < 8)
  | .mgmt sid => (s.secured .mgmt sid).isSome
  | .doe h sid => (s.secured (.doe h) sid).isSome
  | .carried id => s.cmd.carries.any fun c => decide (c.id = id)

/-- The path carries secured-session records, so a trailer can come with the packet (R374). -/
def recordPath : Path → Bool
  | .mgmt _ => true
  | .doe _ _ => true
  | .carried _ => true
  | _ => false

/-- Ring entries of a packet; a reserved SIZE takes one. -/
def entriesOf (size : Nat) : Nat := if size = 1 then 2 else if size = 2 then 4 else 1

/-- Bytes of a packet. -/
def packetBytes (size : Nat) : Nat := 64 * entriesOf size

/-- Object-cache entries pinned (R403). -/
def State.pinned (s : State) : Nat := (s.obju.objs.filter fun x => decide (0 < x.2.refs)).length

/-- The objects named cannot be pinned yet (R403). -/
def State.pinWait (s : State) (p : Nat) (refs : List Nat) : Bool :=
  refs.any fun i => decide (2 ^ 20 - 1 ≤ (s.obj p i).refs) || (decide ((s.obj p i).refs = 0) && decide (8192 ≤ s.pinned))

/-- Reply entries that a command reserves (R370). -/
def replyNeed (opc : Nat) (h : Hdr) : Nat := if isA opc && !h.noreply then 2 else 1

/-- The context whose queue brought a packet, itself or in a CARRY record (R52, R372, R380). -/
def State.devCtx (s : State) (path : Path) : Option Nat :=
  match path with
  | .ctxq c _ => some c
  | .carried id =>
    match s.cmd.carries.find? fun c => decide (c.id = id) with
    | some c => match c.p.h.path with
      | .ctxq k _ => some k
      | _ => none
    | none => none
  | _ => none

/-- An opcode whose result carries partition data (R54): it comes on a DEVICE queue itself, never in a CARRY record (DEDUCED, log
entry 54). -/
def carriesData (opc : Nat) (path : Path) : Bool :=
  match path with
  | .carried _ => decide (opc = 0x0310) || decide (opc = 0x0312)
  | _ => false

/-- The issuer may send the opcode, and a DEVICE packet names the partition its queue is bound to (R52, R54, R372). -/
def State.issuerOk (s : State) (r : Row) (h : Hdr) : Bool :=
  let cls := s.issuerClass h.path h.part
  decide (cls = some h.issuer) && r.issuers.contains h.issuer && !carriesData r.opc h.path
    && match s.devCtx h.path, cls with
      | some c, some .device => decide ((s.ctx c).part = h.part)
      | _, _ => true

/-- The context of a command that names it by parameter must be resident first (R37). -/
def State.restoreFirst (s : State) (p c : Nat) : Option Nat :=
  if (s.ctx c).st ≠ 0 ∧ !(s.ctx c).resident ∧ (s.ctx c).part = p then some 3 else none

/-- Why a packet at the head of its queue waits (the codes of CMD_Q_STATE.WAIT); `none` when it is admitted now. A packet of an issuer
that may not send it waits for nothing that it names (R52). -/
def State.admitWait (s : State) (opc : Nat) (h : Hdr) (refs : List Nat) (hold : Option Nat) (own : Bool) : Option Nat :=
  let ring : Option Nat :=
    match qKey h.path with
    | some k =>
      let q := s.queue k
      let n := 2 ^ q.log2
      if (q.tail + n - q.head) % n < entriesOf h.size then some 5
      else if n < q.rUsed + q.reserved + replyNeed opc h then some 1
      else if h.ordered && !(s.inflightOf h.path).isEmpty then some 2
      else none
    | none => none
  let ctx : Option Nat :=
    match h.path with
    | .ctxq c _ =>
      if (s.ctx c).st ≠ 0 ∧ !(s.ctx c).resident then some 3
      else if (s.ctx c).st = 2 then some 4
      else if (s.ctx c).resetting then some 0
      else none
    | _ => if own ∧ (s.ctx h.ctx).st ≠ 0 ∧ !(s.ctx h.ctx).resident then some 3 else none
  ring <|> ctx <|> (if own then hold <|> (if s.pinWait h.part refs then some 0 else none) else none)

/-- The issuer may signal or reset the fence (R407). -/
def State.maySignal (s : State) (cls : Issuer) (p ctx f : Nat) : Bool :=
  s.fenceOk p f
    && match cls with
      | .tenant => true
      | .device => decide ((s.fence p f).owner = ctx) || (s.fence p f).shares.contains ctx
      | _ => false

/-- The checks of the header that every packet passes (R52, R53, R371, R372, R374, R377, R381, R391). A packet that a CARRY of a context
queue brings with that queue's class names the queue's context too (DEDUCED, log entry 54). -/
def State.headFails (s : State) (r : Row) (h : Hdr) : List Fail :=
  let cls := s.issuerClass h.path h.part
  let part := s.pst h.part
  let weak := decide (cls = some .tenant) || decide (cls = some .device)
  chk (s.issuerOk r h) .refusedIssuer 2
    ++ chk (!(recordPath h.path && decide (8 ≤ (s.inflightOf h.path).length))) .outOfSlots 0xFF
    ++ chk (decide (h.size < 3) && decide (r.size ≤ h.size)) .badParam 2
    ++ chk (decide (cls = some .tenant) || (s.devCtx h.path).all fun c => decide (h.ctx = c)) .badParam 4
    ++ chk (decide (r.plen ≤ h.plen) && decide (h.plen + 16 ≤ packetBytes h.size)) .badParam 6
    ++ chk (decide (h.bad = none)) .badParam (h.bad.getD 0)
    ++ chk (if r.trailer then recordPath h.path && decide (h.trailer ≤ 4194304) else decide (h.trailer = 0)) .badParam 0
    ++ chk (decide (h.ctx = 0xFFFF) || ((s.ctx h.ctx).part = h.part ∧ (s.ctx h.ctx).st ≠ 0)) .badParam 4
    ++ chk (!(decide (h.ctx ≠ 0xFFFF) && decide ((s.ctx h.ctx).st = 3) && decide ((s.ctx h.ctx).part = h.part))) .fenced 4
    ++ chk (!(weak && (decide (part = 0) || decide (part = 4) || decide (part = 5)))) .fenced 2
    ++ chk (!h.signal || s.maySignal (cls.getD .mgmt) h.part h.ctx h.fence) .badParam 12

/-- The status of a list of failures (R24) with the DETAIL byte (R373). -/
def failStatus (l : List Fail) : Status × Nat :=
  let st := lowest (l.map fun x => x.1)
  (st, if st = .badParam then
      ((l.filter fun x => decide (x.1 = .badParam)).map fun x => x.2).foldl min 0xFF
    else 0xFF)

/-- A packet refused at admission: a final reply at once (R376), its FENCE signalled with the status (R377). One refused for its issuer
is answered and does nothing else (R52). -/
def State.refuse (p : Pend) (f : Status × Nat) (s : State) : State :=
  let r := p.reply f.1 true f.2 0 0 []
  if f.1 = .refusedIssuer then finishing ((s.sendReply r false).carried r)
  else
  let t := (s.sendReply r false).trace p.h.part 2 (stCode f.1) (BitVec.ofNat 64 (traceQueue p.h.path)) false p.info p.h.ctx
  let cls := (s.issuerClass p.h.path p.h.part).getD .mgmt
  let (u, a) :=
    if p.h.signal && t.maySignal cls p.h.part p.h.ctx p.h.fence then t.signal p.h.part p.h.fence (stCode f.1) else (t, [])
  let (v, b) := u.carried r
  v.complete (a ++ b)

/-- A context has been used: it is the last to be chosen for a spill (R37). -/
def State.touchCtx (c : Nat) (s : State) : State :=
  if (s.ctx c).st = 0 then s
  else s.modCtx c fun k => { k with used := 1 + (s.obju.ctxs.map fun x => x.2.used).foldl max 0 }

/-- The packet leaves its ring and is counted; one whose issuer may send it is traced (R52, R368, R507, R513). -/
def State.takePacket (opc : Nat) (h : Hdr) (own : Bool) (s : State) : State × Pend :=
  let key := qKey h.path
  let head := match key with
    | some k => (s.queue k).head + entriesOf h.size
    | none => 0
  let sq := match key with
    | some k => head % 2 ^ (s.queue k).log2
    | none => 0
  let p : Pend := { h := h, opc := opc, sqHead := sq, refs := [] }
  let t := match key with
    | some k => s.modQueue k fun q => { q with head := sq, wait := 0 }
    | none => s
  let u := (t.count rCmdAdmitCount 31 0 1).glob 37 1
  (if own then (u.touchCtx h.ctx).trace h.part 1 0 (BitVec.ofNat 64 (traceQueue h.path)) false p.info h.ctx else u, p)

/-- Reply entries are reserved (R370). -/
def State.reserve (n : Nat) (path : Path) (s : State) : State :=
  match qKey path with
  | some k => s.modQueue k fun q => { q with reserved := q.reserved + n }
  | none => s

/-- A packet that waits at admission: its queue shows why (R375). -/
def State.hold (w : Nat) (h : Hdr) (refs : List Nat) (s : State) : State :=
  let t := match qKey h.path with
    | some k => s.modQueue k fun q => { q with wait := w }
    | none => s
  if w = 3 then (t.cntr h.part 7 (Config.waitedCycles t.fresh)).used
  else if s.pinWait h.part refs then t.count rObjPinWaits 31 0 1
  else t

/-- The packet is admitted: references are taken, an A command is answered ACCEPTED (R377, R403). -/
def State.accept (p : Pend) (refs : List Nat) (s : State) : State × Pend :=
  let q := { p with refs := refs }
  let t := each refs (fun i => State.modObj p.h.part i fun x => { x with refs := x.refs + 1 })
    ((s.modCmd fun c => { c with inflight := c.inflight ++ [q] }).reserve (replyNeed p.opc p.h) p.h.path)
  (if isA p.opc && !p.h.noreply then t.sendReply (p.reply .accepted false 0xFF 0 0 []) false else t, q)

/-- The entries of a packet in a DEVICE-owned ring are read as protected accesses of the partition (R84, R367); those that would lie
outside a protected span are not, and the packet ends with the status (R535). -/
def State.ringRead (h : Hdr) (s : State) : State × Status :=
  match h.path, qKey h.path with
  | .ctxq c _, some k =>
    let q := s.queue k
    if q.owner = 3 ∧ s.params.profile ≠ .s then
      (List.range (entriesOf h.size)).foldl (fun (x : State × Status) i =>
        let (t, st) := x.1.innerRead (s.ctx c).part (q.sq + 64 * ((q.head + i) % 2 ^ q.log2)) 64
        (t, firstBad x.2 st)) (s, .done)
    else (s, .done)
  | _, _ => (s, .done)

/-- A packet reaches admission (R375 to R377): it is not taken while the block admits nothing or its path is not there, waits,
is refused, or is admitted and `act` runs. -/
def State.admitWith (r : Row) (h : Hdr) (refs : List Nat) (hold : Option Nat) (fails : List Fail)
    (act : Pend → State → State) (s : State) : State :=
  if !s.admits || !s.pathOpen h.path then s
  else match s.admitWait r.opc h refs hold (s.issuerOk r h || !r.prof.has s.params.profile) with
    | some w => s.hold w h refs
    | none =>
      let (s, rd) := s.ringRead h
      let f := if rd ≠ .done then (rd, 0xFF) else if !r.prof.has s.params.profile then (.badOpcode, 0xFF) else failStatus (s.headFails r h ++ fails)
      let (t, p) := s.takePacket r.opc h (decide (f.1 ≠ .refusedIssuer))
      if f.1 ≠ .done then (t.reserve 1 h.path).refuse p f
      else
        let (u, q) := t.accept p refs
        act q u

/-- A packet that names no object. -/
def State.admitCmd (r : Row) (h : Hdr) (fails : List Fail) (act : Pend → State → State) (s : State) : State :=
  s.admitWith r h [] none fails act

/-- The final reply of a command with RESULT. -/
def State.ok (p : Pend) (result : Nat) (s : State) : State :=
  s.complete [{ p.ends .done with result := BitVec.ofNat 128 result }]

/-- The final reply of a command with a trailer. -/
def State.okTrailer (p : Pend) (result : Nat) (tr : List Byte) (s : State) : State :=
  s.complete [{ p.ends .done with result := BitVec.ofNat 128 result, trailer := tr }]

/-- A bad packet's final status after admission. -/
def State.endsWith (p : Pend) (st : Status) (s : State) : State := s.complete [p.ends st]

/-- A context that a command names by parameter is there (R391): FREE or of another partition gives BAD_PARAM. -/
def State.ctxThere (s : State) (p c off : Nat) : List Fail :=
  chk (decide ((s.ctx c).st ≠ 0) && decide ((s.ctx c).part = p) && decide (c < 0xFFFF)) .badParam off

/-- As `ctxThere`, and a context in TEARDOWN gives FENCED (R391). -/
def State.ctxFails (s : State) (p c off : Nat) : List Fail :=
  s.ctxThere p c off ++ chk (decide ((s.ctx c).st ≠ 3)) .fenced off

/-! Register accesses that are commands of their own (R9 to R18, R82 to R85). -/

/-- The debug port may write (R85, R458): with DBG_EN, at level 1; at level 2, which FIELDED grants, the OBS window alone. -/
def State.dbgWrites (s : State) (obs : Bool) : Bool :=
  s.pins.dbgEn && decide (s.service = .full) && decide (s.boot.dbgAuth ≠ 0) && (decide (s.boot.lc ≠ 2) || obs)

/-- The requester whose rights an access has: the debug port those of ORIGIN 0 (R477); PART is ignored with ORIGIN 0 (R83). -/
def rqOf (rq : Rq) : Rq := if rq.dbg then { rq with origin := 0, part := 0 } else if rq.origin = 0 then { rq with part := 0 } else rq

/-- A control-port access that is no read of a LO half: a later read of HI does not follow one directly (R11). -/
def State.otherAccess (s : State) : State := s.modRegf fun r => { r with snap := none }

/-- A register write whose effect is a command of its own: which accesses are answered, and with ERR or not (R4, R82, R85, R532). The
act answers the new state and whether it is refused with ERR; with ORIGIN 3 the answer is ERR whatever it does. -/
def State.portWrite (rq : Rq) (obs : Bool) (act : Rq → State → State × Bool) (s : State) : State :=
  if s.service = .off then s
  else if rq.dbg then
    if s.dbgWrites obs then
      let (t, e) := act (rqOf rq) s
      t.emit (.dbg 0 e)
    else s.emit (.dbg 0 true)
  else if s.service ≠ .full then s.otherAccess.emit (.ctl 0 true)
  else
    let (t, e) := act (rqOf rq) s.otherAccess
    t.emit (.ctl 0 (e || decide (rq.origin = 3)))

/-- A register write without refusal of its own; with ORIGIN 3 it changes nothing. -/
def State.ctlWrite (rq : Rq) (act : State → State) (s : State) : State :=
  s.portWrite rq false (fun r t => (if r.origin = 3 then t else act t, false))

end Sys2Proof.Machine
end

