-- ==== Sys2Proof/Machine/Objects.lean ====
section
/-!
DEFINITION. Contexts (R392 to R394, R415 to R418), objects and plots (R395 to R405), fences (R406 to R413) and the fault queue
(R419 to R424): their commands.
-/
namespace Sys2Proof.Machine

/-! The allocator (R395 to R399). -/

/-- NEXT_ID of a partition. -/
def State.nextId (s : State) (p : Nat) : Nat := s.obju.nextId.get 1 p

/-- Every sector of a plot lies in a Live region of the partition (R217, R398). -/
def State.plotLive (s : State) (p x : Nat) : Bool :=
  (List.range 256).all fun i =>
    match s.groupFor (65536 * x + 256 * i) with
    | some n =>
      match s.place n (65536 * x + 256 * i) with
      | .protectedAt e _ => decide ((s.anchor e).st = 1) && decide ((s.anchor e).part = p)
      | _ => false
    | none => false

/-- A plot that can be given out. -/
def State.plotFree (s : State) (p x : Nat) : Bool := !(s.plotOf x).bound && s.plotLive p x

/-- The start of the lowest run of `n` plots that satisfy a condition, from plot `x`, over `k` plots. -/
def findRun (f : Nat → Bool) (n : Nat) : Nat → Nat → Nat → Option Nat
  | 0, _, _ => none
  | k + 1, x, have_ =>
    if f x then if have_ + 1 = n then some (x - have_) else findRun f n k (x + 1) (have_ + 1)
    else findRun f n k (x + 1) 0

/-- The first FREE object ID at or after `i`, cyclically over 1 to `m - 1`, over `k` IDs. -/
def State.findId (s : State) (p m : Nat) : Nat → Nat → Option Nat
  | 0, _ => none
  | k + 1, i =>
    let j := if i < 1 ∨ m ≤ i then 1 else i
    if (s.obj p j).st = 0 then some j else State.findId s p m k (j + 1)

/-- A protected write of bytes that may span sectors: each sector in turn; the first status of one that was not made. -/
def innerBytesFuel : Nat → Nat → Nat → List Byte → State → State × Status
  | 0, _, _, _, s => (s, .done)
  | k + 1, p, addr, bs, s =>
    if bs.isEmpty then (s, .done)
    else
      let n := 256 - addr % 256
      let (t, a) := s.innerWrite p addr (bs.take n)
      let (u, b) := innerBytesFuel k p (addr + n) (bs.drop n) t
      (u, firstBad a b)

/-- A protected write of bytes of a partition. -/
def State.innerBytes (p addr : Nat) (bs : List Byte) (s : State) : State × Status :=
  innerBytesFuel (bs.length / 256 + 2) p addr bs s

/-- The 8 bytes of a plot-table entry (R396). -/
def Plot.bytes (x : Plot) : List Byte :=
  leBytes 4 x.obj ++ leBytes 3 x.gen ++ [BitVec.ofNat 8 (b2n x.bound + 4 * b2n x.system)]

/-- The 32 bytes of an object-table entry (R396). -/
def Obj.bytes (x : Obj) : List Byte :=
  leBytes 3 x.gen ++ [BitVec.ofNat 8 x.st] ++ leBytes 3 x.plots ++ [BitVec.ofNat 8 (b2n x.shared + 2 * b2n x.system)]
    ++ leBytes 5 x.first ++ [0] ++ leBytes 2 x.owner ++ leBytes 8 x.created ++ List.replicate 8 0

/-- Objects of a partition that are LIVE or FREEING, object 0 included. -/
def State.liveObjs (s : State) (p : Nat) : Nat :=
  (s.obju.objs.filter fun x => decide (x.1 / 2 ^ 25 = p) && (decide (x.2.st = 1) || decide (x.2.st = 2))).length

/-- Bound plots within the reach of a partition. -/
def State.boundPlots (s : State) (p : Nat) : Nat :=
  (s.obju.plots.filter fun x => x.2.bound && decide (s.ptFirst p ≤ x.1) && decide (x.1 < s.ptFirst p + s.ptCount p)).length

/-- The 28 bytes of object 0's header that are not 0 (R395). -/
def State.obj0Header (s : State) (p : Nat) : List Byte :=
  leBytes 2 1 ++ [0, 0] ++ leBytes 4 (s.ptCount p) ++ leBytes 5 (s.ptFirst p) ++ [0, 0, 0] ++ leBytes 4 (s.nextId p)
    ++ leBytes 4 (s.liveObjs p) ++ leBytes 4 (s.boundPlots p)

/-- Bit `g` of the free summary (R395). -/
def State.summaryBit (s : State) (p g : Nat) : Bool :=
  (List.range 64).any fun i => decide (64 * g + i < s.ptCount p) && !(s.plotOf (s.ptFirst p + 64 * g + i)).bound

/-- Byte `b` of the free summary. -/
def State.summaryByte (s : State) (p b : Nat) : Byte :=
  BitVec.ofNat 8 ((List.range 8).map fun i => b2n (s.summaryBit p (8 * b + i)) * 2 ^ i).sum

/-- Write what a change of an object and its plots leaves in object 0: plot entries, object entry, summary, header (R395). -/
def State.writeObj (p i : Nat) (s : State) : State × Status :=
  let x := s.obj p i
  let rel := x.first - s.ptFirst p
  let plots := ((List.range x.plots).map fun j => (s.plotOf (x.first + j)).bytes).flatten
  let (s1, a) := s.innerBytes p (s.obj0 p (65536 + 8 * rel)) plots
  let (s2, b) := s1.innerBytes p (s.obj0 p (65536 + 8 * s.ptCount p + 32 * i)) x.bytes
  let b0 := rel / 512
  let b1 := (rel + x.plots - 1) / 512
  let (s3, c) := s2.innerBytes p (s.obj0 p (256 + b0)) ((List.range (b1 + 1 - b0)).map fun j => s2.summaryByte p (b0 + j))
  let (s4, d) := s3.innerBytes p (s.obj0 p 0) (s3.obj0Header p)
  (s4, firstBad a (firstBad b (firstBad c d)))

/-- The version blocks of a plot's sectors, in every group (R217). -/
def State.plotBlocks (s : State) (x : Nat) : List LineId :=
  ((List.range 256).filterMap fun i =>
    match s.groupFor (65536 * x + 256 * i) with
    | some n =>
      match s.place n (65536 * x + 256 * i) with
      | .protectedAt e sect => some { group := n, entry := e, kind := LineKind.ver, idx := sect / 8 }
      | _ => none
    | none => none).dedup

/-- Versions of a plot become 0 in the metadata cache (R217). -/
def State.zeroPlot (p x : Nat) (s : State) : State :=
  each (s.plotBlocks x) (fun l t =>
    match t.line l with
    | some _ => t.modLine l fun m => { m with st := .dirty, here := true, ue := false, words := zeroWords }
    | none => t.insertLine p (madeLine l .dirty)) s

/-- Bind plots to an object (R217, R398). -/
def State.bindPlots (p first n obj gen : Nat) (system : Bool) (s : State) : State :=
  each (List.range n) (fun j t =>
    (t.zeroPlot p (first + j)).modObju fun o =>
      { o with plots := o.plots.set Plot.unbound (first + j) { bound := true, obj := obj, gen := gen, system := system } }) s

/-- What an allocation would take: ID and first plot (R398). -/
def State.wouldAlloc (s : State) (p n : Nat) : Option (Nat × Nat) :=
  if n = 0 then none
  else
    match s.findId p (s.ptCount p) (s.ptCount p - 1) (s.nextId p),
      findRun (s.plotFree p) n (s.ptCount p) (s.ptFirst p) 0 with
    | some i, some x => some (i, x)
    | _, _ => none

/-- Allocate (R398): the ID, generation and first plot; OUT_OF_SLOTS, or the status of a write of object 0 that cannot be made (R535), and
then nothing changes but the press record. -/
def State.alloc (p n owner : Nat) (shared system : Bool) (s : State) : State × Except Status (Nat × Nat × Nat) :=
  match s.wouldAlloc p n with
  | none => (s, .error .outOfSlots)
  | some (i, x) =>
    let gen := (s.obj p i).gen
    let t := (s.modObj p i fun _ =>
      { st := 1, gen := gen, plots := n, shared := shared, system := system, first := x, owner := owner, created := s.now,
        refs := 0, free := none }).modObju fun o =>
        { o with nextId := o.nextId.put p (if i + 1 < s.ptCount p then i + 1 else 1) }
    let (u, ok) := (t.bindPlots p x n i gen system).writeObj p i
    if ok = .done then (u, .ok (i, gen, x)) else (s.press 6 ok (some p) (s.obj0 p 0), .error ok)

/-- Drop an object's old tag from the derived-key cache and the merge buffers: entries with operations pending keep them
until they are done (R167, R253). -/
def State.dropOld (p i gen : Nat) (s : State) : State :=
  let slots := [(s.part p).slot] ++ (if (s.key.reseal.get Reseal.none p).active then
    [(s.key.reseal.get Reseal.none p).new, (s.key.reseal.get Reseal.none p).old] else [])
  let tags := slots.map fun n => ({ slot := n, obj := i, gen := gen } : KeyTag)
  (each tags State.dropTag s).modSg fun g =>
    { g with merge := g.merge.filter fun m => !(tags.contains m.tag && decide (m.part = p) && m.ready && m.ops.isEmpty) }

/-- The free of an object retires (R399, R404): its plots become unbound, its generation rises, its old tag is dropped. Its command ends
with the status of a write of object 0 that cannot be made (R535). -/
def State.retireObj (p i : Nat) (s : State) : State :=
  let x := s.obj p i
  let plots := (List.range x.plots).map fun j => x.first + j
  let t := (s.modObju fun o => { o with plots := o.plots.filter fun y => !plots.contains y.1 }).modSg fun g =>
    { g with plotCache := g.plotCache.filter fun y => !plots.contains y }
  let u := (t.dropOld p i x.gen).modObj p i fun y =>
    { y with st := if x.gen = 0xFFFFFF then 3 else 0, gen := if x.gen = 0xFFFFFF then x.gen else x.gen + 1, free := none }
  let (w, st) := u.writeObj p i
  let v := each (rings4.filter fun r => (u.ring p r).active && decide ((u.ring p r).obj = i)) (State.stopRing p) w
  match x.free with
  | some q => v.complete [q.ends st]
  | none => v

/-! Object commands. -/

/-- The handle names a current object that the issuer may name (R397, R399). -/
def State.handleFails (s : State) (h : Hdr) (obj gen off : Nat) : List Fail :=
  let x := s.obj h.part obj
  let cur := decide (x.st = 1) && decide (x.gen = gen)
  chk (decide (0 < obj) && decide (obj < s.ptCount h.part) && !(decide (x.st ≠ 0) && x.system)) .badParam off
    ++ chk (!(cur && decide (h.issuer = .device) && !x.shared && decide (x.owner ≠ 0xFFFF) && decide (x.owner ≠ h.ctx)))
      .badParam off
    ++ chk cur .staleObject off

/-- OBJ_ALLOC (R398). -/
def execObjAlloc (h : Hdr) (plots : Nat) (shared : Bool) (s : State) : Ans :=
  .next (s.admitCmd ⟨0x0301, [.device, .tenant], .am, 5, 0, false⟩ h
    (chk (decide (0 < plots) && decide (plots ≤ 0xFFFFFF)) .badParam 16
      ++ chk (decide (plots = 0) || (s.wouldAlloc h.part plots).isSome) .outOfSlots 16)
    (fun p t =>
      match t.alloc h.part plots h.ctx shared false with
      | (u, .ok (i, gen, x)) => u.ok p (i + gen * 2 ^ 32 + 65536 * x * 2 ^ 64)
      | (u, .error e) => u.endsWith p e))

/-- OBJ_FREE (R404 stage 1). -/
def execObjFree (h : Hdr) (obj gen : Nat) (s : State) : Ans :=
  .next (s.admitCmd ⟨0x0302, [.device, .tenant], .am, 7, 0, false⟩ h (s.handleFails h obj gen 16)
    (fun p t => t.modObj h.part obj fun x => { x with st := 2, free := some p }))

/-- FREE_RETIRE (R404 stage 2): when the reference count is 0. -/
def execFreeRetire (p obj : Nat) (s : State) : Ans :=
  .next (if (s.obj p obj).st = 2 ∧ (s.obj p obj).refs = 0 then s.retireObj p obj else s)

/-- OBJ_QUERY (R382). -/
def execObjQuery (h : Hdr) (obj gen : Nat) (s : State) : Ans :=
  .next (s.admitCmd ⟨0x0303, [.device, .tenant], .am, 7, 0, false⟩ h (s.handleFails h obj gen 16)
    (fun p t => t.ok p ((t.obj h.part obj).plots + 65536 * (t.obj h.part obj).first * 2 ^ 32)))

/-! The allocation doorbell (R401, R402). -/

/-- A doorbell slot of a partition. -/
def State.adb (s : State) (p i : Nat) : Adb := s.obju.adbs.get Adb.zero (64 * p + i)
/-- Store a doorbell slot. -/
def State.setAdb (p i : Nat) (x : Adb) (s : State) : State :=
  s.modObju fun o => { o with adbs := o.adbs.set Adb.zero (64 * p + i) x }

/-- The failure of a doorbell request's context and partition, DONE when there is none. -/
def State.adbFail (s : State) (p ctx plots : Nat) : Status :=
  let k := s.ctx ctx
  lowest (need (decide (plots ≠ 0)) .badParam
    ++ need (decide (k.st ≠ 0) && decide (k.part = p) && decide (ctx < 0xFFFF)) .badParam
    ++ need (!(decide (k.part = p) && (decide (k.st = 3) || k.resetting))) .fenced
    ++ need (decide (s.pst p ≠ 4) && decide (s.pst p ≠ 5)) .fenced)

/-- A write of OBJ_ADBs_REQ (R401): with ORIGIN 0 nothing is written; a slot that is ACCEPTED refuses with ERR; else the request is
stored, STATUS becomes ACCEPTED, and a refusal shows in STATUS. A request that names a spilled context waits for its restore (R37). -/
def State.adbSubmit (rq : Rq) (slot plots : Nat) (shared : Bool) (ctx : Nat) (s : State) : State × Bool :=
  if rq.origin = 0 ∨ rq.origin = 3 ∨ 64 ≤ slot then (s, false)
  else if (s.adb rq.part slot).status = .accepted then (s.flag rObjStatus 1, true)
  else
    let n := plots % 2 ^ 24
    let f := s.adbFail rq.part ctx n
    let t := if f = .done ∧ !(s.ctx ctx).resident then (s.cntr rq.part 7 (Config.waitedCycles s.fresh)).used else s.touchCtx ctx
    (t.setAdb rq.part slot
      { plots := n, shared := shared, ctx := ctx % 65536, obj := 0, gen := 0,
        status := if f = .done then .accepted else f, addr := 0 }, false)

/-- ALLOC_DOORBELL (R401). -/
def execAllocDoorbell (rq : Rq) (slot plots : Nat) (shared : Bool) (ctx : Nat) (s : State) : Ans :=
  .next (s.portWrite rq false fun r t => t.adbSubmit r slot plots shared ctx)

/-- ALLOC_DOORBELL_DONE (R37, R401): a request whose context is resident and not stalled is carried out, STATUS written last. -/
def execAllocDoorbellDone (p slot : Nat) (s : State) : Ans :=
  .next (
    let a := s.adb p slot
    if a.status ≠ .accepted ∨ (s.ctx a.ctx).st = 2 ∨ ((s.ctx a.ctx).st = 1 ∧ !(s.ctx a.ctx).resident) then s
    else
      let k := s.ctx a.ctx
      if k.st ≠ 1 ∨ k.part ≠ p then s.setAdb p slot { a with status := .fenced }
      else
        match s.alloc p a.plots a.ctx a.shared false with
        | (t, .ok (i, gen, x)) => t.setAdb p slot { a with obj := i, gen := gen, addr := 65536 * x, status := .done }
        | (t, .error e) => t.setAdb p slot { a with status := e })

/-! Contexts. -/

/-- Resident contexts (R36). -/
def State.residents (s : State) : Nat := (s.obju.ctxs.filter fun x => decide (x.2.st ≠ 0) && x.2.resident).length

/-- The command acts for a context. -/
def Pend.ofCtx (c : Nat) (p : Pend) : Bool :=
  (match p.h.path with | .ctxq d _ => decide (d = c) | _ => false) || decide (p.h.ctx = c)

/-- A context has no work in flight: no command but waits on a fence, no access or sealed-arithmetic operation, no allocation that
is ACCEPTED, no tile with TLPs (R37). -/
def State.ctxIdle (s : State) (c : Nat) : Bool :=
  !(s.cmd.inflight.any fun p => p.ofCtx c && !(s.obju.waits.any fun w => decide (w.2.2 = p)))
    && !(s.sg.accs.any fun a => decide (a.q.ctx = c))
    && !(s.sg.merge.any fun m => m.ops.any fun o => decide (o.q.ctx = c)) && !(s.sg.saQ.any fun w => decide (w.op.q.ctx = c))
    && !(s.obju.adbs.any fun x => decide (x.2.ctx = c) && decide (x.2.status = .accepted))
    && !(s.hst.tiles.any fun x => decide (x.2.ctx = c) && !(x.2.held.isEmpty && x.2.reads.isEmpty))
    && decide ((s.ctx c).st ≠ 3) && !(s.ctx c).resetting

/-- The resident context to spill: the least recently used that has no work in flight and whose object can be written (R37, R535). -/
def State.spillVictim (s : State) : Option Nat :=
  let can := s.obju.ctxs.filter fun x => decide (x.2.st ≠ 0) && x.2.resident && s.ctxIdle x.1
    && s.plotLive x.2.part (x.2.base / 65536)
  (can.foldl (fun (b : Option (Nat × Nat)) x =>
    match b with
    | some (u, c) => if x.2.used < u then some (x.2.used, x.1) else some (u, c)
    | none => some (x.2.used, x.1)) none).map fun x => x.2

/-- Spill a context: its image goes to its context object (R36, R394). It stays resident when the image cannot be written (R535);
the second component says whether it was. -/
def State.spill (c : Nat) (s : State) : State × Bool :=
  let k := s.ctx c
  let (t, st) := (List.range 16).foldl (fun (x : State × Status) i =>
    let (u, b) := x.1.innerSect k.part (k.base + 256 * i) (Config.spillImage c i) (BitVec.allOnes 256)
    (u, firstBad x.2 b)) (s, .done)
  (when (decide (st = .done)) (State.modCtx c fun k => { k with resident := false }) t, decide (st = .done))

/-- A resident slot is there, or an idle context gives one; whether it is. -/
def State.makeRoom (s : State) : State × Bool :=
  if s.residents < 1024 then (s, true)
  else if s.params.profile = .s then (s, false)
  else match s.spillVictim with
    | some c => s.spill c
    | none => (s, false)

/-- CONTEXT_RESTORE (R37): a spilled context whose image is read becomes resident, and the records that waited for it are written; one
whose image cannot be read stays spilled (R535). -/
def execContextRestore (c : Nat) (s : State) : Ans :=
  .next (
    let k := s.ctx c
    if k.st = 0 ∨ k.resident then s
    else
      let (t, room) := s.makeRoom
      if !room then s
      else
        let (t, rd) := if t.params.profile = .s then (t, .done) else t.innerRead k.part k.base 4096
        if rd ≠ .done then t
        else
        let u := (t.modCtx c fun k => { k with resident := true }).touchCtx c
        let mine := u.obju.waiting.filter fun w => decide (w.1 = c)
        each mine (fun w => State.faultTo c w.2)
          (u.modObju fun o => { o with waiting := o.waiting.filter fun w => decide (w.1 ≠ c) }))

/-- The lowest FREE context number. -/
def State.freeCtx (s : State) : Option Nat := (List.range 0xFFFF).find? fun c => decide ((s.ctx c).st = 0)

/-- CTX_CREATE (R393). While every resident context has work in flight the new context is made spilled: it has no work yet, and its
image is what a FREE context's is (DESIGN CHOICE, log entry 54). -/
def execCtxCreate (h : Hdr) (ctx pasid : Nat) (pasidValid : Bool) (s : State) : Ans :=
  .next (
    let num := if ctx = 0xFFFF then s.freeCtx else some ctx
    let isS := decide (s.params.profile = .s)
    s.admitCmd ⟨0x0201, [.host], .all, 6, 0, false⟩ h
      (chk (decide (ctx = 0xFFFF) || decide ((s.ctx ctx).st = 0)) .badParam 16
        ++ chk (decide (s.pst h.part ≠ 0) && decide (s.pst h.part ≠ 5)) .badParam 2
        ++ chk (num.isSome && (!isS || decide (s.obju.ctxs.length < 1024))) .outOfSlots 16
        ++ chk (isS || (s.wouldAlloc h.part 1).isSome) .outOfSlots 16)
      (fun p t =>
        let c := num.getD 0
        let make (obj base : Nat) (u : State) : State :=
          let (v, room) := u.makeRoom
          ((v.modCtx c fun _ =>
            { Ctx.free with st := 1, resident := room, part := h.part, obj := obj, base := base,
                            pasid := if pasidValid then some pasid else none }).touchCtx c).ok p c
        if isS then make 0 0 t
        else
          match t.alloc h.part 1 c false true with
          | (u, .ok (i, _, x)) => make i (65536 * x) u
          | (u, .error e) => u.endsWith p e))

/-- Commands of a context that wait on others are answered FENCED at once (R417 step 2). -/
def State.drainCtx (c : Nat) (s : State) : State :=
  (s.endRemote (fun o => o.p.ofCtx c) (fun x => x.p.ofCtx c) .fenced).endWaits (fun w => w.2.2.ofCtx c) .fenced

/-- Packets of a context's queues that are not yet admitted are discarded without replies (R417 step 1, R494). -/
def State.discardQueues (c : Nat) (s : State) : State :=
  each (List.range 8) (fun q t =>
    let k := 16 + 8 * c + q
    if (t.queue k).valid then t.modQueue k fun x => { x with head := x.tail, wait := 0 } else t) s

/-- Commands of a context that have not sent their final reply, but for those that destroy or reset it. -/
def State.drained (s : State) (c : Nat) : Bool :=
  !(s.cmd.inflight.any fun p => p.ofCtx c && decide (p.opc ≠ 0x0202) && decide (p.opc ≠ 0x0801))

/-- CTX_DESTROY (R415, R417 steps 1 and 2). -/
def execCtxDestroy (h : Hdr) (ctx : Nat) (s : State) : Ans :=
  .next (s.admitWith ⟨0x0202, [.host, .device], .all, 2, 0, false⟩ h []
    (s.restoreFirst h.part ctx)
    (s.ctxThere h.part ctx 16 ++ chk (decide ((s.ctx ctx).st ≠ 3)) .badParam 16)
    (fun p t =>
      let u := ((t.modCtx ctx fun k => { k with st := 3 }).modObju fun o => { o with tear := o.tear ++ [(ctx, p)] }).modRst
        fun r => { r with steps := r.steps ++ [.context ctx none] }
      ((u.discardQueues ctx).tilesFenced h.part fun x => decide (x.ctx = ctx)).drainCtx ctx))

/-- Free a fence number or claim: its waits end ABANDONED (R408, R411). -/
def State.destroyFence (p f : Nat) (s : State) : State :=
  let t := s.endWaits (fun w => decide (w.2.1 = f) && (decide (f < 0xF000) || decide (w.1 = p))) .abandoned
  if f < 0xF000 then (t.setFence p f Fence.free).modObju fun o => { o with freed := o.freed ++ [f] }
  else t.setFence p f { t.fence p f with owner := 0xFFFF, shares := [] }

/-- Teardown step 5 (R417): the fences of a context. -/
def State.tearFences (p c : Nat) (s : State) : State :=
  let mine := (s.obju.fences.filter fun x => x.2.used && decide (x.2.owner = c)).map fun x => x.1
  let t := each mine (fun f u =>
    if (u.fence p f).shares.isEmpty then u.destroyFence p f
    else finishing ((u.setFence p f { u.fence p f with owner := 0xFFFF }).signal p f (stCode .abandoned))) s
  let claimed := (t.obju.dfences.filter fun x => decide (x.1 / 4096 = p) && decide (x.2.owner = c)).map fun x => 0xF000 + x.1 % 4096
  let u := each claimed (fun f v =>
    let w := finishing (v.signal p f (stCode .abandoned))
    w.setFence p f { w.fence p f with owner := 0xFFFF, shares := [] }) t
  u.modObju fun o =>
    { o with fences := o.fences.mapAll Fence.free fun _ x => { x with shares := x.shares.filter fun y => decide (y ≠ c) },
             dfences := o.dfences.mapAll Fence.free fun k x =>
               if k / 4096 = p then { x with shares := x.shares.filter fun y => decide (y ≠ c) } else x }

/-- Objects of a context that are private to it. -/
def State.privateObjs (s : State) (p c : Nat) : List Nat :=
  (s.obju.objs.filter fun x => decide (x.1 / 2 ^ 25 = p) && decide (x.2.owner = c) && !x.2.shared && !x.2.system
    && (decide (x.2.st = 1) || decide (x.2.st = 2))).map fun x => x.1 % 2 ^ 25

/-- Steps 3 to 6 of a teardown (R417), once every admitted command of the context has been answered. -/
def State.teardownEnd (c : Nat) (s : State) : State :=
  let k := s.ctx c
  if k.st ≠ 3 ∨ !s.drained c then s
  else
    let p := k.part
    let s0 := each (List.range 8) (fun q => State.releaseRings (16 + 8 * c + q)) s
    let objs := s0.privateObjs p c
    let s1 := each objs (fun i t => t.modObj p i fun x => { x with st := 2 }) s0
    let s2 := each (objs.filter fun i => decide ((s1.obj p i).refs = 0)) (State.retireObj p) s1
    if !(s2.privateObjs p c).isEmpty then s2
    else
      let same := s2.obju.ctxs.any fun x => decide (x.1 ≠ c) && decide (x.2.st = 1) && decide (x.2.part = p)
        && decide (x.2.pasid = k.pasid)
      let s3 := when (!same) (State.modHst fun h =>
        { h with atc := h.atc.filter fun e => !(decide (e.part = p) && decide (e.pasid = k.pasid)) }) s2
      let s4 := s3.tearFences p c
      let s5 := when (decide (k.obj ≠ 0)) (State.retireObj p k.obj) s4
      let s6 := each (List.range 8) (fun q => State.removeQueue (16 + 8 * c + q)) s5
      let done := (s6.obju.tear.filter fun x => decide (x.1 = c)).map fun x => x.2.ends .done
      (s6.modObju fun o =>
        { o with ctxs := o.ctxs.drop c, tear := o.tear.filter (fun x => decide (x.1 ≠ c)),
                 waiting := o.waiting.filter fun w => decide (w.1 ≠ c) }).complete done

/-! Fences. -/

/-- FENCE_CREATE (R408, R411). -/
def execFenceCreate (h : Hdr) (domain : Bool) (s : State) : Ans :=
  .next (
    let num : Option Nat :=
      if domain then
        ((List.range (s.dfCount h.part)).find? fun i => decide ((s.fence h.part (0xF000 + i)).owner = 0xFFFF)).map
          fun i => 0xF000 + i
      else s.obju.freed.head? <|> (if s.obju.fenceNext < 0xF000 then some s.obju.fenceNext else none)
    s.admitCmd ⟨0x0401, [.device, .tenant], .all, 1, 0, false⟩ h (chk num.isSome .outOfSlots 16)
      (fun p t =>
        let f := num.getD 0
        let owner := if h.issuer = .device then h.ctx else 0xFFFF
        let u :=
          if domain then t.setFence h.part f { t.fence h.part f with owner := h.ctx, shares := [] }
          else (t.setFence h.part f { Fence.free with used := true, part := h.part, owner := owner }).modObju fun o =>
            if t.obju.freed.isEmpty then { o with fenceNext := o.fenceNext + 1 } else { o with freed := o.freed.tail }
        u.ok p f))

/-- FENCE_SIGNAL (R406, R412). -/
def execFenceSignal (h : Hdr) (fence error : Nat) (s : State) : Ans :=
  .next (s.admitCmd ⟨0x0402, [.device, .tenant], .all, 3, 0, false⟩ h
    (chk (s.maySignal h.issuer h.part h.ctx fence) .badParam 16 ++ chk (signalCode error) .badParam 18)
    (fun p t => (finishing (t.signal h.part fence error)).ok p 0))

/-- FENCE_WAIT (R409). -/
def execFenceWait (h : Hdr) (fence : Nat) (s : State) : Ans :=
  .next (s.admitCmd ⟨0x0403, [.device, .host], .all, 2, 0, false⟩ h
    (chk (s.fenceOk h.part fence && (decide (h.issuer = .host) || s.maySignal h.issuer h.part h.ctx fence)) .badParam 16)
    (fun p t =>
      let x := t.fence h.part fence
      let u := t.modObju fun o => { o with waits := o.waits ++ [(h.part, fence, p)] }
      if x.signalled && !t.stopped h.part then finishing (u.wake h.part fence) else u))

/-- FENCE_RESET (R406, R413). -/
def execFenceReset (h : Hdr) (fence : Nat) (s : State) : Ans :=
  .next (s.admitCmd ⟨0x0404, [.device, .tenant], .all, 2, 0, false⟩ h (chk (s.maySignal h.issuer h.part h.ctx fence) .badParam 16)
    (fun p t =>
      let x := t.fence h.part fence
      let u := t.setFence h.part fence
        { x with signalled := false, payload := 0, epoch := if fence < 0xF000 then x.epoch else x.epoch + 1 }
      (if fence < 0xF000 then u else u.propagate h.part fence 2 0).ok p 0))

/-- FENCE_DESTROY (R407, R408, R411). -/
def execFenceDestroy (h : Hdr) (fence : Nat) (s : State) : Ans :=
  .next (
    let x := s.fence h.part fence
    s.admitCmd ⟨0x0405, [.device, .tenant], .all, 2, 0, false⟩ h
      (chk (s.fenceOk h.part fence && (decide (h.issuer = .tenant) || decide (x.owner = h.ctx)
        || (decide (x.owner = 0xFFFF) && x.shares.contains h.ctx))) .badParam 16)
      (fun p t => (t.destroyFence h.part fence).ok p 0))

/-- Share entries in use (R407). -/
def State.sharesUsed (s : State) : Nat :=
  ((s.obju.fences ++ s.obju.dfences).map fun x => x.2.shares.length).sum

/-- FENCE_SHARE (R407). -/
def execFenceShare (h : Hdr) (fence ctx : Nat) (s : State) : Ans :=
  .next (
    let x := s.fence h.part fence
    let has := decide (x.owner = ctx) || x.shares.contains ctx
    s.admitWith ⟨0x0406, [.device], .all, 4, 0, false⟩ h [] (s.restoreFirst h.part ctx)
      (chk (s.fenceOk h.part fence && decide (x.owner = h.ctx)) .badParam 16 ++ s.ctxFails h.part ctx 18
        ++ chk (has || decide (s.sharesUsed < 16384)) .outOfSlots 16)
      (fun p t =>
        (if has then t
         else t.setFence h.part fence { t.fence h.part fence with shares := (t.fence h.part fence).shares ++ [ctx] }).ok p 0))

/-! The fault queue (R422 to R424). -/

/-- The overflow record of a context (R419, R422). -/
def Ovf.record (o : Ovf) (p c : Nat) : FaultRec :=
  { kind := 0x7F, phase := false, status := o.status, ctx := c, part := p, isPartial := false, detail := 0, stamp := o.first,
    addr := o.last, info := BitVec.ofNat 64 (o.count % 2 ^ 32 + o.kinds.toNat * 2 ^ 32) }

/-- A context leaves FAULT_STALL when nothing is left of its faults (R423). -/
def State.unstall (c : Nat) (s : State) : State :=
  s.modCtx c fun k => if k.st = 2 ∧ k.fqCount = 0 ∧ k.ovf = none then { k with st := 1 } else k

/-- HEAD of a fault queue moves; the overflow record takes a freed slot (R422, R424). -/
def State.fqConsume (c head : Nat) (s : State) : State :=
  let n := (head + 256 - (s.ctx c).fqHead) % 256
  let t := s.modCtx c fun k => { k with fqHead := head, fqCount := k.fqCount - n }
  let k := t.ctx c
  let u := match k.ovf with
    | some o => if k.fqCount < 256 then (t.modCtx c fun k => { k with ovf := none }).faultTo c (o.record k.part c) else t
    | none => t
  u.unstall c

/-- A write of OBJ_FQ_DB (R424): with ORIGIN 0, or with ORIGIN 1 by the context's partition, HEAD moves forward by at most COUNT. -/
def State.fqWrite (rq : Rq) (ctx head : Nat) (s : State) : State :=
  let k := s.ctx ctx
  let may := decide (k.st ≠ 0) && (decide (rq.origin = 0) || (decide (rq.origin = 1) && decide (rq.part = k.part)))
  if may && decide (head < 256) && decide ((head + 256 - k.fqHead) % 256 ≤ k.fqCount) then s.fqConsume ctx head
  else s.flag rObjStatus 2

/-- FAULT_QUEUE_DOORBELL (R424). -/
def execFaultQueueDoorbell (rq : Rq) (ctx head : Nat) (s : State) : Ans :=
  .next (s.portWrite rq false fun r t => (if r.origin = 3 then t else t.fqWrite r ctx head, false))

end Sys2Proof.Machine
end

