-- ==== Sys2Proof/Machine/Memory.lean ====
section
/-!
DEFINITION. Protected accesses (R187 to R196, R205 to R231), the merge buffer (R249 to R258), and how an access is judged and
resolved. The commands are in Machine/Ports.lean.
-/
namespace Sys2Proof.Machine

/-! Bytes of requests. -/

/-- Bits at which a request's bytes begin in its sector. -/
def reqShift (q : MnReq) : Nat := 8 * (q.addr % 256)

/-- The bits that byte enables pick. -/
def beMask (be : BitVec 256) : Sector :=
  BitVec.ofNat 2048 ((List.range 256).map fun i => if bit be i then 255 * 2 ^ (8 * i) else 0).sum

/-- A sector with its enabled bytes replaced. -/
def mergeBytes (old new : Sector) (be : BitVec 256) : Sector := (old &&& ~~~ beMask be) ||| (new &&& beMask be)

/-- The D beats of `n` granules from granule `g` of a sector (R70). -/
def beatsOf (d : Sector) (g n : Nat) : List Beat :=
  (List.range ((n + 1) / 2)).map fun i =>
    BitVec.ofNat 1024 (d.toNat / 2 ^ (512 * (g + 2 * i)) % 2 ^ (512 * min 2 (n - 2 * i)))

/-- The first enabled byte of the first granule. -/
def firstByte (be : BitVec 256) : Nat := ((List.range 64).find? fun i => bit be i).getD 0

/-! Faults of MN requests (R420). -/

/-- Partition of an MN request: that of the context that CTX names (R534). -/
def State.mnPart (s : State) (q : MnReq) : Option Nat :=
  if q.ctx < 0xFFFF ∧ (s.ctx q.ctx).st ≠ 0 then some (s.ctx q.ctx).part else none

/-- The KIND 0x01 record of an MN request. -/
def State.mnFault (p : Nat) (q : MnReq) (st : Status) (s : State) : State :=
  s.fault p q.ctx 1 st q.addr (BitVec.ofNat 64 (q.op + (4 * q.group + q.port) * 256)) 0 false

/-- Statuses of MN requests of which a record is written (R420): POISONED and FENCED are not among its rules. -/
def mnFaults (st : Status) : Bool := decide (st = .badParam) || decide (st = .staleObject) || decide (st = .wilted)

/-- Answer an MN request without data, with its record. -/
def State.mnRefuse (p : Nat) (q : MnReq) (ack : Bool) (st : Status) (s : State) : State :=
  let t := when (mnFaults st) (State.mnFault p q st) s
  (when (decide (st = .poisoned)) (State.cntr p 14 1) t).mnNoData q ack st

/-- One MN access in 2^SAMPLE of the partition is traced (R513). -/
def State.sampleMn (p : Nat) (q : MnReq) (since : Nat) (s : State) : State :=
  let n := s.obs.samples.get 0 p + 1
  let t := s.modObs fun o => { o with samples := o.samples.set 0 p n }
  each (rings4.filter fun r => bit (t.traceSel p r) 9 && decide (n % 2 ^ bits (t.traceSel p r) 20 16 = 0))
    (fun r => State.formIn p r 10 0 (BitVec.ofNat 64 q.addr) true
      (BitVec.ofNat 64 (q.op + (4 * q.group + q.port) * 256 + min 0xFFFF (t.sg.clk - since) * 65536)) q.ctx) t

/-! Remote operations served here (R268, R271, R272, R313). -/

/-- The 48 bytes of a reply or query reply, with read data behind them. -/
def replyBytes (kind : Nat) (st : Status) (outcome orig src dst : Nat) (txid : Word) (exec : Nat) (result : BitVec 128)
    (data : List Byte) : List Byte :=
  [BitVec.ofNat 8 kind, BitVec.ofNat 8 (stCode st), BitVec.ofNat 8 outcome, BitVec.ofNat 8 orig] ++ leBytes 2 src
    ++ leBytes 2 dst ++ leBytes 4 txid.toNat ++ leBytes 8 exec ++ leBytes 16 result.toNat ++ List.replicate 12 0 ++ data

/-- Enter an operation in the response memo (R271). -/
def State.memoAdd (m : Memo) (s : State) : State := s.modRem fun r => { r with memo := r.memo ++ [m] }

/-- An executed remote atomic is entered in the memo with its status and answered (R272). -/
def State.answerAtomic (p : Nat) (h : RxHdr) (r : RaReq) (dom : DWord) (st : Status) (result : BitVec 128) (s : State) : State :=
  let t := s.memoAdd { domain := dom, src := r.src, txid := r.txid, issue := r.issue, exec := s.now, status := st,
                       result := result, executed := true }
  t.enqueue h.port { si := 1 + p, kind := 0x41, tc := tcOf 0x41, retry := false, event := false, src := r.dst, dst := r.src,
                     label := r.obj, payload := replyBytes 0x41 st 0 0 r.dst r.src r.txid s.now result [] }

/-- A result chunk has been applied: the ledger keeps the status, and it is acknowledged (R267). -/
def State.resultDone (p : Nat) (dom : DWord) (sw : Nat) (c : Contrib) (st : Status) (s : State) : State :=
  (s.modRem fun r => { r with resLed := r.resLed ++ [{ domain := dom, sw := sw, rid := c.rid, chunk := c.chunk, status := st }] }).sendTo
    p sw 0x53 (tcOf 0x53) false (contribBytes c 0x53 0 c.chunk c.count (stCode st))

/-- One sector of a remote read or write, or of a result chunk, has resolved; the last one answers (R267, R313). -/
def State.serveDone (no : Nat) (st : Status) (off : Nat) (data : List Byte) (s : State) : State :=
  match s.rem.serves.find? fun x => decide (x.no = no) with
  | none => s
  | some x =>
    let y := { x with left := x.left - 1, st := if x.st = .done then st else x.st, got := x.got ++ [(off, data)] }
    let rest := s.rem.serves.filter fun z => decide (z.no ≠ no)
    if 0 < y.left then s.modRem fun r => { r with serves := rest ++ [y] }
    else
      let r := y.r
      let t := s.modRem fun r => { r with serves := rest }
      match y.res with
      | some (sw, c) => t.resultDone y.part y.domain sw c y.st
      | none =>
        let u := if r.write then t.memoAdd { domain := y.domain, src := r.src, txid := r.txid, issue := r.issue, exec := s.now,
                                             status := y.st, result := 0, executed := true } else t
        let bytes := if y.st = .done ∧ !r.write then
            (((List.range 17).filterMap fun i => y.got.find? fun g => decide (g.1 / 256 = i)).map fun g => g.2).flatten else []
        u.sendFlow y.part r.src (if r.write then 0x23 else 0x21) (tcOf 0x21) false r.obj
          (replyBytes (if r.write then 0x23 else 0x21) y.st 0 0 r.dst r.src r.txid s.now 0 bytes)

/-! The merge buffer (R249 to R258). -/

/-- Store a merge entry as the most recently used. -/
def State.putEntry (m : MEntry) (s : State) : State :=
  s.modSg fun g => { g with merge := m :: g.merge.filter fun x => decide (¬(x.group = m.group ∧ x.lbn = m.lbn)) }

/-- Remove a merge entry. -/
def State.dropEntry (m : MEntry) (s : State) : State :=
  s.modSg fun g => { g with merge := g.merge.filter fun x => decide (¬(x.group = m.group ∧ x.lbn = m.lbn)) }

/-- A tag is that of the object which its plot holds: it has not been zeroised by a free (R167, R253). -/
def State.tagLive (s : State) (addr : Nat) (t : KeyTag) : Bool := decide ((s.plotOf (addr / 65536)).res = .bound t.obj t.gen)

/-- An entry whose tag a free has zeroised is discarded once its operations have completed (R253). -/
def State.entryEnd (n lbn : Nat) (s : State) : State :=
  match s.entry n lbn with
  | some m => if m.ready && m.ops.isEmpty && !s.tagLive m.addr m.tag then s.dropEntry m else s
  | none => s

/-- The rounding seed slot of a partition, where one is set, LIVE and its own (R247, R391). -/
def State.roundSeed (s : State) (p : Nat) : Option Nat := (s.sg.seed.get none p).filter fun n => decide ((s.slot n).st = 1) && decide ((s.slot n).part = p)

/-- The rounding key and step in force for a partition (R247, R248). -/
def State.roundNow (s : State) (p : Nat) : Option (BitVec 256 × Word) :=
  (s.roundSeed p).map fun n => (roundKey (s.slot n).value p, s.sg.step.get 0 p)

/-- The answer to an operation on a merge entry that has no result. -/
def State.opFails (o : SaOp) (st : Status) (s : State) : State :=
  match o.dest with
  | .atomic h r dom => s.answerAtomic o.part h r dom st 0
  | .serve no off => s.serveDone no st off []
  | .inner => s
  | .mn => s.mnRefuse o.part o.q (!o.reply) st

/-- Operations end with one status, in order. -/
def State.opsFail (os : List SaOp) (st : Status) (s : State) : State := each os (fun o => State.opFails o st) s

/-- The sector after an operation, and the operand bytes before it. -/
def opApply (m : MEntry) (o : SaOp) : Sector × Nat :=
  if o.q.op = 0 then (m.data, 0)
  else if o.q.op = 1 then (mergeBytes m.data o.data o.be, 0)
  else if o.q.op < 0x20 then
    let n := sizeBytes (bits o.q.attr 1 0)
    let pos := firstByte o.be
    let sh := reqShift o.q + 8 * pos
    let old := m.data.toNat / 2 ^ sh % 2 ^ (8 * n)
    let arg := o.data.toNat / 2 ^ (8 * pos) % 2 ^ (8 * n)
    let cmp := o.data.toNat / 2 ^ (512 + 8 * pos) % 2 ^ (8 * n)
    let new := scalarOp o.q.op n (bit o.q.attr 2) old arg cmp
    (BitVec.ofNat 2048 (m.data.toNat - old * 2 ^ sh + new * 2 ^ sh), old)
  else
    let size := (srcSize o.q.op (bits o.q.attr 1 0)).getD 256
    let src := BitVec.ofNat 2048 (o.data.toNat % 2 ^ (8 * size))
    let draw := if bit o.q.attr 2 then o.round.map fun r => drawOf (Config.aes256 r.1) m.lbn r.2.toNat m.data src else none
    (vectorAcc o.q.op o.q.attr o.be draw m.data src, 0)

/-- Bytes of a sector from a byte, in order. -/
def sectBytes (d : Sector) (off n : Nat) : List Byte := leBytes n (d.toNat / 2 ^ (8 * off))

/-- The reply of an operation that has been applied. A remote scalar atomic is answered with the old value (R268). -/
def State.opReply (m : MEntry) (o : SaOp) (old : Nat) (s : State) : State :=
  match o.dest with
  | .serve no off => s.serveDone no .done off (if o.q.op = 0 then sectBytes m.data (o.q.addr % 256) (64 * (o.q.len + 1)) else [])
  | .atomic h r dom => s.answerAtomic o.part h r dom .done (if r.op < 0x20 then BitVec.ofNat 128 old else 0)
  | .inner => s
  | .mn =>
    if o.q.op = 0 then
      s.emit (.mnD o.q.group o.q.port o.q.tag (beatsOf m.data (o.q.addr % 256 / 64) (o.q.len + 1)) .done false true)
    else if o.q.op < 0x20 ∧ o.reply then
      s.emit (.mnD o.q.group o.q.port o.q.tag [BitVec.ofNat 1024 (old * 2 ^ (8 * firstByte o.be))] .done false true)
    else s.mnNoData o.q true .done

/-- A residue mismatch of a group is counted, with a press record that names the operation by its address; the requester of a second one
gets FENCED (R257, R258, R525). -/
def State.mismatch (n : Nat) (st : Status) (p : Option Nat) (addr : Nat) (s : State) : State :=
  ((s.modSg fun g => { g with retries := g.retries.set 0 n (satAdd 255 (g.retries.get 0 n) 1) }).glob 36 1).press 1 st p addr

/-- The arithmetic unit of a group stops after a second mismatch (R258): pending operations are answered FENCED, the DIRTY entries but
the failing operation's are written back, and the unit is reset. -/
def State.saHalt (n lbn : Nat) (s : State) : State :=
  let os := ((s.sg.merge.filter fun m => decide (m.group = n)).map fun m => m.ops).flatten
    ++ (s.sg.saQ.filter fun w => decide (w.op.q.group = n)).map fun w => w.op
  let t := s.opsFail os .fenced
  let u := (t.backWhere fun m => decide (m.group = n) && decide (m.lbn ≠ lbn)).modSg fun g =>
    { g with merge := g.merge.filter (fun m => decide (m.group ≠ n)), saQ := g.saQ.filter (fun w => decide (w.op.q.group ≠ n)),
             saStop := setBit g.saStop n true }
  (u.flag (rSgSaStatus n) 2).modRst fun r => { r with steps := r.steps ++ [.unitGroup n] }

/-- A region is read-only: a counter of its tree, or its anchor counter while Live, is at its end (R196). -/
def Anchor.atEnd (a : Anchor) : Bool := a.full || (decide (a.st = 1) && decide (a.counter = BitVec.allOnes 64))

/-- Apply an operation to an entry that may be served (R196, R251, R256, R257). A double error in the storage it reads is handled as a
second mismatch. -/
def State.opRun (m : MEntry) (o : SaOp) (s : State) : State :=
  let arith := decide (0x10 ≤ o.q.op)
  if o.q.op ≠ 0 ∧ (m.full ∨ (s.anchor m.entry).atEnd) then s.opFails o .badParam
  else
    let s1 := when (arith && (decide (o.mism = 1) || decide (o.mism = 2))) (State.mismatch m.group .done (some o.part) o.q.addr) s
    if (arith && decide (o.mism = 2)) || decide (o.mism = 3) then
      ((s1.mismatch m.group .fenced (some o.part) o.q.addr).opFails o .fenced).saHalt m.group m.lbn
    else
      let (d, old) := opApply m o
      let m2 := { m with data := d, dirty := m.dirty || decide (o.q.op ≠ 0) }
      let acc := (List.range 4).map fun i => 40 + 4 * m.group + i
      let s2 := (if arith then s1.wants acc else s1).putEntry m2
      let i := if o.q.op = 0 then 0 else if o.q.op = 1 then 1 else if o.q.op < 0x20 then 2 else 3
      let s3 := when (decide (i < 2)) (State.glob (64 + 8 * m.group + i) 1) (s2.cntr o.part i 1)
      (when (decide (o.dest = .mn)) (State.sampleMn o.part o.q s3.sg.clk) s3).opReply m2 o old

/-- Apply the operations that wait on an entry, in order. -/
def State.runOps (n lbn : Nat) (s : State) : State :=
  match s.entry n lbn with
  | none => s
  | some m =>
    (each m.ops (fun o t =>
      match t.entry n lbn with
      | some x => t.opRun x o
      | none => t.opFails o .fenced) (s.putEntry { m with ops := [] })).entryEnd n lbn

/-- An operation reaches a merge entry: it runs, or waits for the fill. -/
def State.joinEntry (m : MEntry) (o : SaOp) (s : State) : State :=
  if m.ready && m.ops.isEmpty then (s.opRun m o).entryEnd m.group m.lbn else s.putEntry { m with ops := m.ops ++ [o] }

/-! Room in the merge buffer (R249, R285). -/

/-- The partition is strict. -/
def State.isStrict (s : State) (p : Nat) : Bool := s.share.strict.get false p

/-- Entries that strict partitions reserve. -/
def State.mergeReserved (s : State) : Nat := ((parts16.filter s.isStrict).map fun p => 8 * s.share.merge.get 0 p).sum

/-- Entries of a group from which a partition takes its own. -/
def State.mergeMine (s : State) (n p : Nat) : List MEntry :=
  s.sg.merge.filter fun m => decide (m.group = n) && (if s.isStrict p then decide (m.part = p) else !s.isStrict m.part)

/-- The number of entries it may hold. -/
def State.mergeCap (s : State) (p : Nat) : Nat := if s.isStrict p then 8 * s.share.merge.get 0 p else 512 - s.mergeReserved

/-- Not every entry that the partition may use has an operation pending: a further operation need not wait (R249). -/
def State.mergeRoom (n p : Nat) (s : State) : Bool :=
  decide (((s.mergeMine n p).filter fun m => !m.ready || !m.ops.isEmpty).length < s.mergeCap p)

/-- Allocate the entry that a fill has brought the contents of: a free one, or the least recently used that has no operation pending,
written back first (R249). -/
def State.mergeTake (n p : Nat) (s : State) : State :=
  let held := (s.mergeMine n p).filter fun m => m.ready
  if held.length < s.mergeCap p then s
  else match held.reverse.find? fun m => m.ops.isEmpty with
    | some m => (when m.dirty (fun t => (t.backEntry m).glob (64 + 8 * n + 5) 1) s).dropEntry m
    | none => s

/-! Wilted regions (R230). -/

/-- What a fill brings: an entry is allocated for the sector and its waiting operations run; or they get the outcome and no entry is
allocated (R250). A sector that is read-only refuses the operations that would change it (R196, R235). -/
def State.fillGives (a : Acc) (st : Status) (full : Bool) (d : Sector) (s : State) : State :=
  match s.entry a.q.group a.lbn with
  | none => s
  | some m =>
    if st ≠ .done then (s.dropEntry m).opsFail m.ops st
    else if full then
      each m.ops (fun o t => if o.q.op = 0 then t.opReply { m with data := d } o 0 else t.opFails o .badParam) (s.dropEntry m)
    else ((s.mergeTake m.group m.part).putEntry { m with data := d, ready := true }).runOps a.q.group a.lbn

/-- Give the requester of an access, what waits for its plot entry, or the operations that wait for its fill a status without data. -/
def State.tell (a : Acc) (st : Status) (s : State) : State :=
  match a.kind, a.serve with
  | .fill, _ => s.fillGives a st false 0
  | .back, _ => s
  | k, .mn => s.mnRefuse a.part a.q (decide (k ≠ .read)) st
  | _, .inner => s
  | _, .plot i _ => s.plotSays i (.bad st) a.dataUe
  | _, .remote no => s.serveDone no st a.q.tag []

/-- Resolve an access without data. -/
def State.failAcc (a : Acc) (st : Status) (s : State) : State := when (decide (a.given = none)) (State.tell a st) (s.dropAcc a.id)

/-- Whose access found a region Wilted: the block's own, or one for which no context is recorded; that of an MN request, whose context
gets the record; or one whose requester has its record already (R230). -/
inductive Finder where
  | block
  | mn (q : MnReq)
  | told
  deriving DecidableEq, Repr

/-- A region turns Wilted, found by an access: everything in it that is pending gets WILTED. -/
def State.wiltRegion (e : Nat) (who : Finder) (s : State) : State :=
  let a := s.anchor e
  let t := s.wiltAnchor e
  let u := match who with
    | .mn q => t.mnFault ((t.mnPart q).getD a.part) q .wilted
    | .block => t.cntr a.part 8 1
    | .told => t
  let v := each (u.sg.accs.filter fun b => decide (b.entry = e)) (fun b => State.failAcc b .wilted) u
  let w := each (v.sg.merge.filter fun m => decide (m.entry = e)) (fun m x => (x.dropEntry m).opsFail m.ops .wilted) v
  let qs := w.sg.saQ.filter fun x => decide (x.entry = e)
  (w.modSg fun g => { g with saQ := g.saQ.filter fun x => decide (x.entry ≠ e) }).opsFail (qs.map fun x => x.op) .wilted

/-! Judging an access (R227). -/

/-- What the checks of an access find. -/
structure Verdict where
  /-- Status by the cycle c (rows 1 to 4). -/
  st : Status
  /-- The region turns Wilted when the checks are complete (rows 1, 2 and 5). -/
  wilt : Bool
  /-- A failure is tamper (row 6). -/
  tamper : Bool
  /-- The sector is to be poisoned, and with it the tag line's others. -/
  poison : Bool
  /-- The tag line carried UE. -/
  tagUe : Bool
  /-- A fetched item, the data or the tag line carried UE. -/
  ue : Bool
  /-- Every item of the path passed: its lines may be used. -/
  pass : Bool
  /-- The sector or its region is read-only (R196). -/
  full : Bool
  /-- The version of the sector is at its end. -/
  last : Bool
  plain : Sector
  deriving DecidableEq, Repr

/-- An item of the path fails its MAC. -/
def State.itemBad (s : State) (a : Acc) (x : PathItem) : Bool :=
  let l := pathLine a.q.group a.entry (a.sect / 8) x.lvl
  x.counts && decide (s.itemMac (treeKey (s.slot a.slot).value (s.anchor a.entry).part a.slot) l x.parent x.words
    ≠ (((s.line (s.macLine l)).map fun y => y.words).getD zeroWords).getD (s.macIdx l.kind l.idx % 8) 0)

/-- An item of the path, or its MAC line, came with UE. -/
def State.itemUe (s : State) (a : Acc) (x : PathItem) : Bool :=
  let l := pathLine a.q.group a.entry (a.sect / 8) x.lvl
  x.counts && (((s.line l).any fun y => y.ue) || ((s.line (s.macLine l)).any fun y => y.ue))

/-- Judge an access over all that it fetched (R216, R227). A version of 0 leaves data and tag uncounted (R194); the tag line of a write
counts whatever the version (R228). -/
def State.judge (s : State) (a : Acc) : Verdict :=
  let path := s.path a.q.group a.entry (a.sect / 8)
  let metaUe := path.any (s.itemUe a)
  let bad := path.any (s.itemBad a)
  let ver := s.version a.q.group a.entry a.sect
  let tl := s.line (tagLine a.q.group a.entry a.sect)
  let stored := ((tl.map fun x => x.words).getD zeroWords).getD (a.sect % 8) 0
  let lineUe := tl.any fun x => x.ue
  let tagUe := lineUe && (decide (ver ≠ 0) || decide (a.kind = .full) || decide (a.kind = .back) || decide (a.kind = .partW))
  let anyUe := metaUe || lineUe || a.dataUe || a.plotUe
  let last := decide (ver = BitVec.allOnes 64)
  let w (st : Status) (wilt poison tagBad : Bool) (d : Sector) : Verdict :=
    { st := st, wilt := wilt || (bad && anyUe), tamper := (bad || tagBad) && !anyUe, poison := poison, tagUe := tagUe,
      ue := anyUe, pass := !bad, full := last || (s.anchor a.entry).atEnd, last := last, plain := d }
  if (s.anchor a.entry).st = 2 then { w .wilted false false false 0 with wilt := false, tamper := false, pass := false }
  else match a.plot with
  | .bound obj gen =>
    if metaUe then w .wilted true false false 0
    else if a.kind = .full ∨ a.kind = .back then
      if bad && tagUe then w .wilted true false false 0 else w .done false false false 0
    else if ver = 0 then w .done false false false (a.fwd.getD 0)
    else
      let ks := s.keysOf a.part { slot := a.slot, obj := obj, gen := gen }
      if tagUe || (a.dataUe && decide (a.fwd = none)) then w .poisoned false true false 0
      else if stored = poisonMark ks ver.toNat a.lbn gen then
        { w .poisoned false false false 0 with wilt := false, tamper := false }
      else match a.fwd with
        | some d => w .done false false false d
        | none =>
          w .done false false (decide (stored ≠ sectTag ks a.data ver.toNat a.lbn gen))
            (Config.xtsDec ks.data ks.twk (tweak a.lbn ver.toNat gen) a.data)
  | .waiting => w .staleObject false false false 0
  | .stale => w .staleObject metaUe false false 0
  | .bad st => w st metaUe false false 0

/-- What a breach names (R232): the metadata index of the item that fails, else the logical block number. -/
def State.failing (s : State) (a : Acc) : Nat :=
  match (s.path a.q.group a.entry (a.sect / 8)).find? (s.itemBad a) with
  | some x => s.metaIdx (pathLine a.q.group a.entry (a.sect / 8) x.lvl)
  | none => a.lbn

/-- Everything an access waits for is here: its data, its lines, its plot entry and its key set. -/
def State.ready (s : State) (a : Acc) : Bool :=
  !a.waiting && decide (a.beats = 0) && decide (a.plot ≠ .waiting)
    && a.lines.all (fun l => (s.line l).all fun x => x.here)
    && match a.tag with
      | some t => !(s.key.deriv.any fun d => decide (d.tag = t))
      | none => true

/-- The lines of the path have verified: they are CLEAN, and zeros under a parent counter of 0 (R194, R204). -/
def State.commitPath (a : Acc) (s : State) : State :=
  each (s.path a.q.group a.entry (a.sect / 8)) (fun x t =>
    let l := pathLine a.q.group a.entry (a.sect / 8) x.lvl
    match t.line l with
    | some _ => t.modLine l fun y => { y with st := if y.st = .pending then .clean else y.st, here := true, ue := false, words := x.words }
    | none => t.insertLine a.part { madeLine l .clean with words := x.words }) s

/-- Change one word of a line, which becomes DIRTY. -/
def State.setWord (l : LineId) (i : Nat) (v : DWord) (s : State) : State :=
  s.modLine l fun y => { y with st := .dirty, here := true, ue := false, words := y.words.set i v }

/-- Make a line resident as zeros when it is not held. -/
def State.ensureLine (p : Nat) (l : LineId) (s : State) : State :=
  if (s.line l).isSome then s else s.insertLine p (madeLine l .clean)

/-- The version of a sector rises by one, unless it is at its end. -/
def State.bumpVersion (a : Acc) (sect : Nat) (s : State) : State × DWord :=
  let l := pathLine a.q.group a.entry (sect / 8) 0
  let t := s.ensureLine a.part l
  let v := t.version a.q.group a.entry sect
  if v = BitVec.allOnes 64 then (t, v) else (t.setWord l (sect % 8) (v + 1), v + 1)

/-- Poison one sector of the access's tag line under the key set of the object that its plot holds (R228). -/
def State.poisonSect (a : Acc) (sect : Nat) (s : State) : State :=
  let tl := tagLine a.q.group a.entry sect
  let pl := s.plotOf (s.sectAddr a.q.group a.entry sect / 65536)
  if !pl.bound then (s.ensureLine a.part tl).setWord tl (sect % 8) 0
  else
    let (t, v) := s.bumpVersion a sect
    let ks := t.keysOf a.part { slot := a.slot, obj := pl.obj, gen := pl.gen }
    (t.ensureLine a.part tl).setWord tl (sect % 8) (poisonMark ks v.toNat (t.lbn a.entry sect) pl.gen)

/-- Poison after an uncorrectable error: the sector, and when its tag line carried UE every sector of the line but `but`. -/
def State.poisonAll (a : Acc) (v : Verdict) (but : Option Nat) (s : State) : State :=
  let all := if v.tagUe then (List.range 8).map fun i => a.sect / 8 * 8 + i else [a.sect]
  each (all.filter fun x => decide (some x ≠ but)) (State.poisonSect a) s

/-- Write a whole sector (R212): a new version, a new tag, the sealed data sent to memory. -/
def State.putSector (a : Acc) (obj gen : Nat) (d : Sector) (s : State) : State :=
  let (t, v) := s.bumpVersion a a.sect
  let ks := t.keysOf a.part { slot := a.slot, obj := obj, gen := gen }
  let c := Config.xtsEnc ks.data ks.twk (tweak a.lbn v.toNat gen) d
  let tl := tagLine a.q.group a.entry a.sect
  let u := (t.ensureLine a.part tl).setWord tl (a.sect % 8) (sectTag ks c v.toNat a.lbn gen)
  ((u.msWrite a.q.group a.q.port (a.q.addr / 256 * 256) 4 c (BitVec.allOnes 256) (.sector a.lbn d)).cntr a.part 1 1).glob
    (64 + 8 * a.q.group + 1) 1

/-! Resolving accesses. -/

/-- The reply of an MN read that carries data. -/
def State.giveRead (a : Acc) (d : Sector) (s : State) : State :=
  s.emit (.mnD a.q.group a.q.port a.q.tag (beatsOf d (a.q.addr % 256 / 64) (a.q.len + 1)) .done false true)

/-- The plot-table sector of plot `x` has been read for what waits under number `i`: the plot cache takes the entry, and what the plot
maps to now decides (R215, R216, R394). -/
def State.plotDone (i x : Nat) (ue : Bool) (s : State) : State :=
  let pl := s.plotOf x
  let mn := (s.sg.accs.any fun a => decide (a.id = i) && decide (a.kind ≠ .read) && decide (a.serve = .mn))
    || s.sg.saQ.any fun w => decide (w.id = i) && decide (w.op.dest = .mn)
  (s.modSg fun g => { g with plotCache := (x :: g.plotCache.filter fun y => decide (y ≠ x)).take 16384 }).plotSays i
    (if pl.bound && pl.system && mn then .bad .badParam else pl.res) ue

/-- The status that a plot lookup decides (R216). -/
def PlotRes.status : PlotRes → Option Status
  | .stale => some .staleObject
  | .bad st => some st
  | _ => none

/-- What release-before-verify gives by cycle c, once (R74, R209, R250, R254); the status of a plot lookup is given as soon as it is
known, and an access that has not started ends with it (R216, R533). A region's record of turning Wilted is written when it turns. -/
def State.byC (a : Acc) (s : State) : State :=
  if decide (a.given ≠ none) || a.vbr then s
  else match a.plot.status with
  | some st =>
    let t := (if a.waiting then s.dropAcc a.id else s.setAcc { a with given := some st })
    t.tell a st
  | none =>
    if !s.ready a then s
    else
      let v := s.judge a
      let t := s.setAcc { a with given := some v.st }
      match a.kind, a.serve with
      | .read, .mn =>
        if v.st = .done then t.giveRead a v.plain
        else if v.st = .wilted then t.mnNoData a.q false .wilted
        else t.mnRefuse a.part a.q false v.st
      | .read, .plot i x => if v.st = .done then t.plotDone i x v.ue else t.plotSays i (.bad v.st) v.ue
      | .fill, _ => t.fillGives a v.st v.full v.plain
      | _, _ => s

/-- An access as an operation on the merge entry that serves it (R251). -/
def Acc.op (a : Acc) : SaOp :=
  { q := { a.q with op := if a.kind = .read then 0 else 1 }, data := a.wdata, be := a.be, part := a.part, mism := 0,
    reply := decide (a.kind = .read), round := none,
    dest := match a.serve with
      | .mn => .mn
      | .remote no => .serve no a.q.tag
      | _ => .inner }

/-- An access that a merge entry serves leaves the memory path for it, at its place in the order (R214, R251). -/
def State.toEntry (a : Acc) (s : State) : State :=
  if a.given ≠ none then s
  else match s.entryFor a with
    | some m => (s.dropAcc a.id).joinEntry m a.op
    | none => s

/-- Settle every access, oldest first: the merge entry takes it, or release-before-verify gives what it gives. -/
def State.settle (s : State) : State :=
  each (s.sg.accs.map fun a => a.id) (fun i t =>
    let u := match t.acc i with
      | some a => t.toEntry a
      | none => t
    match u.acc i with
    | some a => u.byC a
    | none => u) s

/-- Accesses that waited behind another start, oldest first; one that takes a sector lock waits for its grant (R213, R214). -/
def State.kick (s : State) : State :=
  each (s.sg.accs.map fun a => a.id) (fun i t =>
    match t.acc i with
    | some a => if a.waiting && !a.kind.locks && t.mayStart a then t.issue a else t
    | none => t) s

/-- The fill of a new entry for an operation (R250); it takes the operation's number. -/
def State.startFill (i : Nat) (w : SaWait) (s : State) : State :=
  let lbn := s.lbn w.entry w.sect
  let tag : KeyTag := match w.plot with
    | .bound obj gen => { slot := w.slot, obj := obj, gen := gen }
    | _ => { slot := w.slot, obj := 0, gen := 0 }
  (s.putEntry { group := w.op.q.group, lbn := lbn, entry := w.entry, part := w.op.part, addr := w.op.q.addr / 256 * 256, tag := tag,
                data := 0, dirty := false, ready := false, ops := [w.op], full := false }).startPlotAs i
    (Acc.mk0 .fill (if w.op.dest = .mn then .mn else .inner) { w.op.q with len := 3 } w.op.part w.entry w.sect lbn w.slot w.plot 0 0)

/-- What a waiting operation finds at its place in the order (R249, R253): an entry with its tag serves it; an entry with another tag is
discarded once it has no operation pending; without one a new entry is filled when there is room. Answers none while it must wait. -/
def State.saGo (w : SaWait) (s : State) : Option State :=
  let lbn := s.lbn w.entry w.sect
  let n := w.op.q.group
  if s.saBefore w.id lbn ∨ s.accBefore w.id lbn then none
  else match w.plot.status, s.entry n lbn, w.plot with
    | some st, _, _ => some (s.opFails w.op st)
    | none, some m, .bound obj gen =>
      if m.tag = { slot := w.slot, obj := obj, gen := gen } then some (s.joinEntry m w.op)
      else if m.ready && m.ops.isEmpty && s.mergeRoom n w.op.part then some ((s.dropEntry m).startFill w.id w)
      else none
    | none, none, _ => if s.mergeRoom n w.op.part then some (s.startFill w.id w) else none
    | none, some _, _ => none

/-- Operations that wait for an entry go on, oldest first (R249). -/
def State.saPump (s : State) : State :=
  each (s.sg.saQ.map fun w => w.id) (fun i t =>
    match t.sg.saQ.find? fun w => decide (w.id = i) with
    | some w => ((t.modSg fun g => { g with saQ := g.saQ.filter fun x => decide (x.id ≠ i) }).saGo w).getD t
    | none => t) s

/-- A reset of a group's arithmetic unit completes once its write-backs are done (R258, R495). -/
def State.saRestart (s : State) : State :=
  each (s.groups.filter fun n => bit s.sg.saStop n
      && !(s.sg.accs.any fun a => decide (a.q.group = n) && (decide (a.kind = .back) || decide (a.kind = .fill))))
    (fun n t => ((t.modSg fun g => { g with saStop := setBit g.saStop n false }).modRst fun r =>
      { r with steps := r.steps.filter fun x => decide (x ≠ .unitGroup n) }).count rRstCount 15 8 1) s

/-- What follows an arrival or a resolution. -/
def State.flow (s : State) : State := s.kick.settle.saPump.kick.settle.saRestart

/-- An access reaches its group's ordering point: the merge entry that serves it takes it, or it starts (R215, R251). -/
def State.reach (a : Acc) (s : State) : State :=
  let b := { a with id := s.sg.nextAcc }
  (match a.plot.status, s.entryFor b with
    | some st, _ => s.tell a st
    | none, some m => s.joinEntry m b.op
    | none, none => s.startPlot a).flow

/-- A sealed-arithmetic operation reaches its sector (R249, R250): it is served, or waits at admission. With a plot-cache miss the fill
starts at once when the sector has no entry; else its plot entry is read first (R215). -/
def State.arith (o : SaOp) (e sect slot : Nat) (plot : PlotRes) (s : State) : State :=
  let i := s.sg.nextAcc
  let w : SaWait := { id := i, op := o, entry := e, sect := sect, slot := slot, plot := plot }
  (match s.takeNo.saGo w with
    | some t => t
    | none =>
      let t := (s.takeNo.modSg fun g => { g with saQ := g.saQ ++ [w] }).cntr o.part 7 (Config.waitedCycles s.fresh)
      let u := t.used
      if plot = PlotRes.waiting then u.readPlot o.part i (o.q.addr / 65536) else u).flow

/-- An access has been judged and is answered (R227 rows 1 to 5 and 7). -/
def State.answer (a : Acc) (v : Verdict) (s : State) : State :=
  let t := s.dropAcc a.id
  let open_ := decide (a.given = none)
  let readOne (u : State) : State := (u.cntr a.part 0 1).glob (64 + 8 * a.q.group) 1
  if v.st ≠ .done then s.failAcc { a with dataUe := v.ue } v.st
  else match a.kind, a.serve, a.plot with
    | .read, .mn, _ => readOne (when open_ (State.giveRead a v.plain) t)
    | .read, .plot i x, _ => when open_ (State.plotDone i x v.ue) (readOne t)
    | .read, .remote no, _ =>
      (readOne t).serveDone no .done a.q.tag (sectBytes v.plain (a.q.addr % 256) (64 * (a.q.len + 1)))
    | .read, .inner, _ => readOne t
    | .fill, _, _ => readOne (when open_ (State.fillGives a .done v.full v.plain) t)
    | .back, _, .bound obj gen =>
      if v.last then t
      else
        let tag : KeyTag := { slot := a.slot, obj := obj, gen := gen }
        let held := (t.entry a.q.group a.lbn).filter fun m => m.ready && decide (m.tag = tag)
        let u := t.putSector a obj gen ((held.map fun m => m.data).getD a.wdata)
        let end_ := decide (u.version a.q.group a.entry a.sect = BitVec.allOnes 64)
        u.modSg fun g => { g with merge := g.merge.map fun m =>
          if m.group = a.q.group ∧ m.lbn = a.lbn ∧ m.ready ∧ m.tag = tag then { m with dirty := false, full := end_ } else m }
    | k, sv, .bound obj gen =>
      if v.full then s.failAcc a .badParam
      else
        let t1 := (if k = .partW then readOne t else t).putSector a obj gen (if k = .partW then mergeBytes v.plain a.wdata a.be else a.wdata)
        match sv with
        | .mn => when open_ (fun x => State.mnNoData a.q true .done x) t1
        | .remote no => t1.serveDone no .done a.q.tag []
        | _ => t1
    | _, _, _ => t

/-- The checks of an access complete (R227). -/
def State.verify (a : Acc) (s : State) : State :=
  let v := s.judge a
  let samp (t : State) : State := when (decide (a.serve = .mn)) (State.sampleMn a.part a.q a.stamp) t
  if v.tamper then s.breach 1 (s.failing a)
  else if v.wilt then
    let mn := decide (a.serve = .mn) && decide (a.kind ≠ .fill)
    let st := if v.st = .done then .wilted else v.st
    let t := if mn && decide (st = .wilted) then
        when (decide (a.given = none)) (State.mnNoData a.q (decide (a.kind ≠ .read)) .wilted) (s.dropAcc a.id)
      else s.failAcc { a with dataUe := v.ue } st
    let who : Finder := if mn then .mn a.q else match a.kind, a.serve with
      | .back, _ => .block
      | _, .inner => .block
      | _, .remote _ => .block
      | _, _ => .told
    (samp (t.wiltRegion a.entry who)).flow
  else
    let t := when v.pass (State.commitPath a) s
    let u := if v.poison then t.poisonAll a v none
      else if v.tagUe && decide (v.st = .done) && decide (a.kind ≠ .read) then t.poisonAll a v (some a.sect) else t
    (samp (u.answer a v)).flow

end Sys2Proof.Machine
end

