-- ==== Sys2Proof/Machine/Ports.lean ====
section
/-!
DEFINITION. The commands of the memory stream ports (R69 to R75, R234 to R238, R534) and of the sector groups' own work: what
memory answers, completed checks, locks, write-backs, the anchor patrol and derivations.
-/
namespace Sys2Proof.Machine

/-! Admission of MN requests (R72, R99, R187, R216, R394, R534). -/

/-- What the checks of an MN request give. -/
inductive MnGo where
  | refuse (p : Option Nat) (st : Status)
  | pass (p : Option Nat)
  | prot (p entry sect slot : Nat) (plot : PlotRes)
  deriving DecidableEq, Repr

/-- The request names granules of one sector. -/
def lenOk (q : MnReq) : Bool := decide (q.addr % 64 = 0) && decide (q.addr % 256 + 64 * (q.len + 1) ≤ 256)

/-- The plot lookup of an MN request (R215, R216, R394). -/
def State.plotGate (p : Nat) (q : MnReq) (writes : Bool) (s : State) : State × Except Status PlotRes :=
  match s.plotLook p q.addr with
  | (t, .bound obj gen) => (t, if (s.plotOf (q.addr / 65536)).system && writes then .error .badParam else .ok (.bound obj gen))
  | (t, .waiting) => (t, .ok .waiting)
  | (t, _) => (t, .error .staleObject)

/-- Bit errors have arisen in the anchor entry of the region that a request names, found with it (R198). -/
def State.upset (addr group flips : Nat) (s : State) : State :=
  match s.place group addr with
  | .protectedAt e _ => if flips = 0 then s else s.setAnchor e { s.anchor e with err := (s.anchor e).err + flips }
  | _ => s

/-- Check an MN request. A request of a fenced partition, and one of a partition whose PFENCE handshake has not ended, is answered
FENCED (R86, R87); so is an arithmetic request that reaches a stopped unit, whatever its select bits (R99 and R258 give no order:
DESIGN CHOICE, log entry 63). -/
def State.mnGate (q : MnReq) (ok : Bool) (s : State) : State × MnGo :=
  let writes := decide (q.op ≠ 0)
  let place := s.place q.group q.addr
  if !s.runs then (s, .refuse none .fenced)
  else match s.mnPart q with
    | none =>
      if place ≠ .pass then (s.glob 40 1, .refuse none .badParam)
      else if !ok ∨ 2 ≤ q.op then (s, .refuse none .badParam) else (s, .pass none)
    | some p =>
      if (s.ctx q.ctx).st = 3 ∨ (s.ctx q.ctx).resetting ∨ s.pst p = 4 ∨ s.pst p = 5 then (s, .refuse (some p) .fenced)
      else if bit s.pins.pfenceReq p ∨ bit s.pins.pfenceAck p then (s, .refuse (some p) .fenced)
      else if 0x10 ≤ q.op ∧ bit s.sg.saStop q.group then (s, .refuse (some p) .fenced)
      else if !ok then (s, .refuse (some p) .badParam)
      else match place with
        | .pass => if 2 ≤ q.op then (s, .refuse (some p) .badParam) else (s, .pass (some p))
        | .protectedAt e sect =>
          let (t, a, bad) := s.useAnchor e
          if a.restoring then (t, .refuse (some p) .wilted)
          else if bad then ((t.wiltRegion e (.mn q)).flow, .refuse none .wilted)
          else if a.st = 0 then (t, .refuse (some p) .badParam)
          else if a.st = 2 then (t, .refuse (some p) .wilted)
          else if a.part ≠ p then (t, .refuse (some p) .badParam)
          else match t.plotGate p q writes with
            | (u, .ok r) => (u, .prot p e sect a.slot r)
            | (u, .error st) => (u, .refuse (some p) st)
        | _ => (s, .refuse (some p) .badParam)

/-- The request reached a port that is there. -/
def State.mnThere (s : State) (q : MnReq) : Bool := decide (s.service = .full) && decide (q.group < s.params.sgCount) && decide (q.port < 4)

/-- Answer a request that the checks refuse. -/
def State.mnNo (q : MnReq) (ack : Bool) (p : Option Nat) (st : Status) (s : State) : State :=
  match p with
  | some i => s.mnRefuse i q ack st
  | none => s.mnNoData q ack st

/-- A protected MN access reaches its sector; one that a held entry serves may find a double error in its storage, which is handled as a
second residue mismatch (R256, R258). -/
def State.reachMn (a : Acc) (ecc : Bool) (s : State) : State :=
  match s.entryFor { a with id := s.sg.nextAcc } with
  | some m => (s.joinEntry m { a.op with mism := if ecc then 3 else 0 }).flow
  | none => s.reach a

/-- MN_READ (R72, R74, R187, R216). `flips` and `ecc` are what the hardware finds with it: bit errors in the anchor entry (R198), a
double error in the storage of the merge entry that serves it (R256). -/
def execMnRead (q : MnReq) (flips : Nat) (ecc : Bool) (s : State) : Ans :=
  .next (
    if !s.mnThere q then s
    else
      match (s.upset q.addr q.group flips).mnGate q (decide (q.op = 0) && lenOk q) with
      | (t, .refuse p st) => t.mnNo q false p st
      | (t, .pass _) => t.msRead q.group q.port q.addr (q.len + 1) (.pass q)
      | (t, .prot p e sect slot plot) => t.reachMn (Acc.mk0 .read .mn q p e sect (t.lbn e sect) slot plot 0 0) ecc)

/-- A pass-through write goes to memory, or is held behind the horizon of its partition (R72, R224, R225). -/
def State.passWrite (q : MnReq) (p : Option Nat) (data : Sector) (be : BitVec 256) (s : State) : State :=
  match p with
  | some i =>
    if s.vbrOf i then s.msWrite q.group q.port q.addr (q.len + 1) data be (.pass q)
    else if 64 ≤ (s.sg.north.filter fun w => decide (w.q.group = q.group)).length then s
    else s.modSg fun g => { g with north := g.north ++ [{ q := q, data := data, be := be, part := i, stamp := g.clk }] }
  | none => s.msWrite q.group q.port q.addr (q.len + 1) data be (.pass q)

/-- MN_WRITE (R72, R212, R213, R251). Byte enables beyond LEN are answered BAD_PARAM (R70 says that they are 0 and gives no answer when
they are not: DESIGN CHOICE, log entry 63). -/
def execMnWrite (q : MnReq) (data : Sector) (be : BitVec 256) (flips : Nat) (ecc : Bool) (s : State) : Ans :=
  .next (
    if !s.mnThere q then s
    else
      match (s.upset q.addr q.group flips).mnGate q (decide (q.op = 1) && lenOk q && decide (be.toNat < 2 ^ (64 * (q.len + 1)))) with
      | (t, .refuse p st) => t.mnNo q true p st
      | (t, .pass p) => t.passWrite q p data be
      | (t, .prot p e sect slot plot) =>
        let full := decide (q.len = 3) && decide (be = BitVec.allOnes 256)
        t.reachMn (Acc.mk0 (if full then .full else .partW) .mn q p e sect (t.lbn e sect) slot plot (data <<< reqShift q)
          (be <<< (q.addr % 256))) ecc)

/-- The enables of a scalar atomic: one run of SIZE bytes of granule 0, aligned to SIZE, none of granule 1 (R238). -/
def scalarBe (n : Nat) (be : BitVec 128) : Bool :=
  (List.range 64).any fun i => decide (0 < n) && decide (i % n = 0) && decide (i + n ≤ 64)
    && decide (be.toNat = (2 ^ n - 1) * 2 ^ i)

/-- A scalar atomic returns its old value. -/
def scalarRet (op : Nat) (attr : BitVec 8) : Bool := bit attr 3 || decide (op = 0x13)

/-- MN_SCALAR_ATOMIC (R234 to R240, R249 to R258). -/
def execMnScalarAtomic (q : MnReq) (data : Beat) (be : BitVec 128) (flips mism : Nat) (s : State) : Ans :=
  .next (
    if !s.mnThere q then s
    else
      let ret := scalarRet q.op q.attr
      match (s.upset q.addr q.group flips).mnGate q (scalarOk q.op q.attr && decide (q.len = 0) && lenOk q && scalarBe (sizeBytes (bits q.attr 1 0)) be) with
      | (t, .refuse p st) => t.mnNo q (!ret) p st
      | (t, .pass p) => t.mnNo q (!ret) p .badParam
      | (t, .prot p e sect slot plot) =>
        t.arith { q := q, data := data.setWidth 2048, be := be.setWidth 256, part := p, mism := mism, reply := ret, dest := .mn,
                  round := none } e sect slot plot)

/-- MN_VECTOR_ACCUMULATE (R234 to R237, R241 to R247, R249 to R258). -/
def execMnVectorAccumulate (q : MnReq) (data : Sector) (be : BitVec 256) (flips mism : Nat) (s : State) : Ans :=
  .next (
    if !s.mnThere q then s
    else
      let acc := bits q.attr 1 0
      let size := (srcSize q.op acc).getD 0
      let stoch := bit q.attr 2 && accFloat acc
      let seedOk := !stoch || ((s.mnPart q).any fun p => (s.roundSeed p).isSome)
      match (s.upset q.addr q.group flips).mnGate q (vectorOk q.op q.attr && decide (q.addr % 256 = 0) && decide (q.len + 1 = (size + 63) / 64)
          && enablesOk q.op acc be && seedOk) with
      | (t, .refuse p st) => t.mnNo q true p st
      | (t, .pass p) => t.mnNo q true p .badParam
      | (t, .prot p e sect slot plot) =>
        t.arith { q := if stoch then q else { q with attr := q.attr &&& 0xFB#8 }, data := data, be := be, part := p, mism := mism,
                  reply := false, dest := .mn, round := if stoch then t.roundNow p else none } e sect slot plot)

/-! What memory answers. -/

/-- Beats that a read outstanding on an MS port brings. -/
def MsRd.beats (r : MsRd) : Nat :=
  match r.what with
  | .data _ => 2
  | .line _ => 1
  | .pass q => q.len / 2 + 1

/-- A line has arrived (R204, R205): tag and MAC lines may be used at once. -/
def State.lineHere (l : LineId) (data : Beat) (ue : Bool) (s : State) : State :=
  let plain := decide (l.kind = .tag) || decide (l.kind = .mac)
  s.modLine l fun x =>
    if x.here then x
    else { x with here := true, ue := ue, st := if plain then .clean else x.st,
                  words := (List.range 8).map fun i => (data >>> (64 * i)).setWidth 64 }

/-- MS_READ_RESPONSE (R69 to R72): one beat of a response. -/
def execMsReadResponse (n port tag : Nat) (data : Beat) (ue last : Bool) (s : State) : Ans :=
  .next (
    if s.service = .off then s
    else
      match s.sg.rds.find? fun x => decide (x.group = n) && decide (x.port = port) && decide (x.tag = tag) && decide (tag < 1024) with
      | none => s
      | some r =>
        let ends := last || decide (r.got + 1 = r.beats)
        let rest := s.sg.rds.filter fun x => decide (x ≠ r)
        let u := s.modSg fun g => { g with rds := if ends then rest else { r with got := r.got + 1 } :: rest }
        let t := when ends (State.msNext n port) u
        match r.what with
        | .pass q => t.emit (.mnD q.group q.port q.tag [if ue then 0 else data] (if ue then .poisoned else .done) false ends)
        | .line l => (t.lineHere l data ue).flow
        | .data i =>
          (match t.acc i with
            | some a => t.setAcc { a with beats := if ends then 0 else a.beats - 1, dataUe := a.dataUe || ue,
                                          data := a.data ||| (data.setWidth 2048) <<< (1024 * r.got) }
            | none => t).flow)

/-- MS_WRITE_ACK (R72, R75): a pass-through acknowledgement is passed back. -/
def execMsWriteAck (n port tag : Nat) (s : State) : Ans :=
  .next (
    if s.service = .off then s
    else
      match s.sg.wr.find? fun x => decide (x.group = n) && decide (x.port = port) && decide (x.tag = tag) && decide (tag < 1024) with
      | none => s
      | some w =>
        let t := (s.modSg fun g => { g with wr := g.wr.filter fun x => decide (x ≠ w) }).msNext n port
        match w.what with
        | .pass q => t.mnNoData q true .done
        | _ => t)

/-- ACCESS_VERIFY_DONE (R209, R227): the checks of an access that has everything it waited for, and whose plot-table read has
verified, complete; until then it gives what can be given by now. -/
def execAccessVerifyDone (id : Nat) (s : State) : Ans :=
  .next (
    match s.acc id with
    | some a =>
      if !s.runs then s
      else if s.ready a && !(s.sg.accs.any fun b => match b.serve with | .plot i _ => decide (i = id) | _ => false) then s.verify a
      else s.flow
    | none => s)

/-- SECTOR_LOCK_GRANT (R213): a waiting partial write, or the fill of a sealed-arithmetic operation, takes a free lock. -/
def execSectorLockGrant (id : Nat) (s : State) : Ans :=
  .next (
    match s.acc id with
    | some a =>
      if a.waiting ∧ a.kind.locks ∧ s.mayStart a then
        ((s.cntr a.part 7 (Config.waitedCycles s.fresh)).used.issue a).flow
      else s
    | none => s)

/-- DERIVATION_DONE (R148, R166, R167): the key set is delivered to its accesses and, unless its tag was zeroised or its slot retired
meanwhile, to the derived-key cache. -/
def execDerivationDone (slot obj gen : Nat) (ecc : Ecc) (s : State) : Ans :=
  .next (
    let tag : KeyTag := { slot := slot, obj := obj, gen := gen }
    match s.key.deriv.find? fun d => decide (d.tag = tag) with
    | none => s
    | some d =>
      s.eccRead ecc slot (fun s =>
        let t := s.modKey fun k => { k with deriv := k.deriv.erase d }
        (if d.stale ∨ (s.slot slot).st ≠ 1 then t else t.insertKey d.part tag).flow))

/-! Metadata write-back (R207, R208). -/

/-- A DIRTY version block or node stands below a line of the tree, or has its MAC in a MAC line: it is to be written back first (R208). -/
def State.below (s : State) (x : Line) : Bool :=
  let level (l : LineId) : Option Nat := match l.kind with | .ver => some 0 | .node v => some v | _ => none
  s.sg.mdc.any fun y => decide (y.st = .dirty) && decide (y.id.group = x.id.group) && decide (y.id.entry = x.id.entry)
    && match level y.id, level x.id with
      | some v, some w => decide (v < w) && decide (y.id.idx / 8 ^ (w - v) = x.id.idx)
      | some _, none => decide (s.macLine y.id = x.id)
      | none, _ => false

/-- Is the line to leave: in the victim buffer, or a flush runs, the merge buffers are written back and no DIRTY child is left (R207,
R208, R252). -/
def State.leaves (s : State) (x : Line) : Bool :=
  decide (x.st = .dirty) && (decide (x.way = 16) || (s.boot.flush && !(s.sg.merge.any fun m => m.dirty) && !s.below x))

/-- The line's words are sent to memory on its port (R275); it leaves a victim buffer, or stays CLEAN. -/
def State.sendLine (x : Line) (words : List DWord) (s : State) : State :=
  let l := x.id
  let d : Sector := BitVec.ofNat 2048 ((words.zipIdx.map fun w => w.1.toNat * 2 ^ (64 * w.2)).sum)
  let t := (s.msWrite l.group (s.linePort l) (s.toMs l.group (s.lineLocal l)) 1 d (BitVec.ofNat 256 (2 ^ 64 - 1)) (.line l words)).glob
    (64 + 8 * l.group + 3) 1
  if x.way = 16 then t.modSg fun g => { g with mdc := g.mdc.filter fun y => decide (y.id ≠ l) }
  else t.modLine l fun y => { y with st := .clean }

/-- An access that stands for the write-back of a line, for the checks of what it fetched. -/
def State.backAcc (s : State) (l : LineId) (j : Nat) : Acc :=
  let a := s.anchor l.entry
  Acc.mk0 .back .inner { group := l.group, port := 0, addr := 0, len := 3, op := 1, tag := 0, ctx := 0xFFFF, attr := 0 }
    a.part l.entry (8 * j) 0 a.slot (.bound 0 0) 0 0

/-- Write back a DIRTY version block or node whose parent and MAC line are resident: the parent counter rises, the MAC is computed under
the new counter (R195, R207). A counter that reaches its end makes the region read-only; one at its end rises no more, and the line stays
(R192, R196). -/
def State.backNode (x : Line) (lvl : Nat) (s : State) : State :=
  let l := x.id
  let j := l.idx * 8 ^ lvl
  let a := s.anchor l.entry
  let up := lvl + 1
  let pl := pathLine l.group l.entry j up
  let old := if s.topLevel < up then a.counter else (((s.line pl).map fun y => y.words).getD zeroWords).getD (childSlot j up) 0
  if old = BitVec.allOnes 64 then s
  else
    let ctr := old + 1
    let a2 := { a with full := a.full || decide (ctr = BitVec.allOnes 64) }
    let t := if s.topLevel < up then s.setAnchor l.entry { a2 with counter := ctr }
      else (s.setAnchor l.entry a2).setWord pl (childSlot j up) ctr
    let mac := t.itemMac (treeKey (t.slot a.slot).value a.part a.slot) l ctr x.words
    (t.setWord (t.macLine l) (t.macIdx l.kind l.idx % 8) mac).sendLine x x.words

/-- Level of a tree item. -/
def treeLevel : LineKind → Nat
  | .node l => l
  | _ => 0

/-- METADATA_WRITE_BACK (R207): an evicted DIRTY line is written back. What it needs is fetched first, and checked when it is
here: the command then runs again. -/
def execMetadataWriteBack (l : LineId) (s : State) : Ans :=
  .next (
    match s.line l with
    | none => s
    | some x =>
      if !s.runs then s
      else if x.way = 16 ∧ x.st = .clean ∧ !s.lineUsed l then s.modSg fun g => { g with mdc := g.mdc.filter fun y => decide (y.id ≠ l) }
      else if !s.leaves x then s
      else if l.kind = .tag ∨ l.kind = .mac then s.sendLine x x.words
      else
        let lvl := treeLevel l.kind
        let j := l.idx * 8 ^ lvl
        let (s, a) := s.useRegion l.entry
        if a.st ≠ 1 then s.modSg fun g => { g with mdc := g.mdc.filter fun y => decide (y.id ≠ l) }
        else
          let (s1, up) := if lvl = s.topLevel then (s, []) else s.walkFrom a.part l.group l.entry j (lvl + 1)
          let (s2, ms) := s1.needLine a.part (s1.macLine l)
          if (up ++ ms).any fun m => (s2.line m).any fun y => !y.here then s2
          else
            let acc := s2.backAcc l j
            let path := if lvl = s.topLevel then [] else s2.pathFrom l.group l.entry j (lvl + 1)
            if path.any (s2.itemUe acc) then (s2.wiltRegion l.entry .block).flow
            else if path.any (s2.itemBad acc) then
              s2.breach 1 (match path.find? (s2.itemBad acc) with
                | some i => s2.metaIdx (pathLine l.group l.entry j i.lvl)
                | none => s2.metaIdx l)
            else
              let s3 := each path (fun i t => t.modLine (pathLine l.group l.entry j i.lvl) fun y =>
                { y with st := if y.st = .pending then .clean else y.st, here := true, ue := false, words := i.words }) s2
              s3.backNode x lvl)

/-! The anchor patrol (R198, R230). -/

/-- ANCHOR_PATROL (R198): a corrected error is written back and counted, an uncorrectable one makes the region Wilted. `flips` is the
number of bit errors that have arisen in the entry. -/
def execAnchorPatrol (e flips : Nat) (s : State) : Ans :=
  .next (
    if 2097152 ≤ e ∨ !s.runs then s
    else
      let (t, a, bad) := (s.setAnchor e { s.anchor e with err := (s.anchor e).err + flips }).useAnchor e
      if bad ∧ !a.restoring then (t.wiltRegion e .block).flow else t)

/-- Host ranges of a partition: its assignment and what REGION_ADD added (R386). -/
def Part.ranges (p : Part) : List (Nat × Nat) := (p.pbase, p.psize) :: p.added

/-- The anchor entry's region lies in a host range. -/
def State.regionIn (s : State) (e base size : Nat) : Bool :=
  match s.groupOfEntry e with
  | some n => decide (base ≤ s.sectAddr n e 0) && decide (s.sectAddr n e 0 < base + size)
  | none => false

/-- ANCHOR_RESTORE (R230): Tolaro restores the PART and SLOT of an uncorrectable entry from its assignment record; a region that
no assignment names becomes Unowned. -/
def execAnchorRestore (e : Nat) (s : State) : Ans :=
  .next (
    if !(s.anchor e).restoring then s
    else
      match s.held.find? fun p => (s.part p).ranges.any fun r => s.regionIn e r.1 r.2 with
      | some p =>
        s.setAnchor e { Anchor.unowned with counter := BitVec.allOnes 64, part := p, slot := (s.part p).slot, st := 2 }
      | none => s.setAnchor e Anchor.unowned)

/-- MERGE_IDLE_WRITE_BACK (R252): a DIRTY entry without operations is written back and stays CLEAN; a double error in its storage is
handled as a second residue mismatch (R256, R258), and then it is not. -/
def execMergeIdleWriteBack (n lbn : Nat) (ecc : Bool) (s : State) : Ans :=
  .next (
    match s.entry n lbn with
    | some m =>
      if s.runs && m.dirty && m.ready && m.ops.isEmpty
          && !(s.sg.accs.any fun a => decide (a.kind = .back) && decide (a.lbn = lbn)) then
        (if ecc then (s.mismatch n .done (some m.part) m.addr).saHalt n lbn else s.backEntry m).flow
      else s
    | none => s)

end Sys2Proof.Machine
end

