-- ==== Sys2Proof/Machine/Links.lean ====
section
/-!
DEFINITION. Sealed fabric links (chapter 8): receive checks, session states, sealing, epochs, flow entropy, the shaper, lost
members and domain fence frames.
-/
namespace Sys2Proof.Machine

/-! Receive checks (R307, R309, R310). -/

/-- Class range and flags that a KIND must carry (R307): least and greatest class, CONTROL, STOP_SIDE, CLOSE. -/
def kindRow (kind : Nat) : Option (Nat × Nat × Bool × Bool × Bool) :=
  if kind = 0x02 then some (0, 7, false, false, false)
  else if kind = 0x12 then some (0, 0, true, false, true)
  else if kind = 0x01 ∨ kind = 0x10 ∨ kind = 0x11 ∨ kind = 0x13 then some (0, 0, true, false, false)
  else if kind = 0x30 ∨ kind = 0x31 ∨ kind = 0x32 ∨ kind = 0x34 then some (0, 0, false, true, false)
  else if kind = 0x33 then some (0, 0, false, false, false)
  else if (0x20 ≤ kind ∧ kind ≤ 0x23) ∨ (0x40 ≤ kind ∧ kind ≤ 0x43) then some (1, 6, false, false, false)
  else if 0x50 ≤ kind ∧ kind ≤ 0x53 then some (1, 7, false, false, false)
  else none

/-- Check 6 of R310; on a cover-mode frame KIND alone. -/
def kindOk (h : RxHdr) (kind : Nat) : Bool :=
  match kindRow kind with
  | none => false
  | some (lo, hi, c, st, cl) =>
    h.cover || (decide (lo ≤ h.tc) && decide (h.tc ≤ hi) && decide (h.control = c) && decide (h.stopSide = st)
      && decide (h.close = cl) && (!h.event || decide (kind = 0x13)))

/-- Session that a SESSION field names on a port (R299). -/
def State.sessOf (s : State) (k idx : Nat) : Option Nat :=
  if idx = 0 then if (s.sess k 0).st = 0 then none else some 0
  else parts16.findSome? fun p => if (s.sess k (1 + p)).st ≠ 0 ∧ (s.sess k (1 + p)).rxIdx = idx then some (1 + p) else none

/-- A sequence number passes the replay window (R309). -/
def Sess.fresh (x : Sess) (q : Nat) : Bool :=
  !x.hSeen || decide (x.hTop < q) || (decide (x.hTop ≤ q + 4095) && !bit x.hMap (x.hTop - q))

/-- The window after a frame verifies (R309). -/
def Sess.mark (x : Sess) (q : Nat) : Sess :=
  if !x.hSeen then { x with hSeen := true, hTop := q, hMap := 1 }
  else if x.hTop < q then { x with hTop := q, hMap := (x.hMap <<< (q - x.hTop)) ||| 1 }
  else { x with hMap := x.hMap ||| BitVec.twoPow 4096 (x.hTop - q) }

/-- A PTP message that the block does not use is counted (R110, R111). -/
def State.ptpIgnore (s : State) : State := s.modDt fun d => { d with ptpIgnored := d.ptpIgnored + 1 }

/-- A discarded frame is counted (R310). -/
def State.discard (reg k : Nat) (s : State) : State := (s.count reg 31 0 1).glob (128 + 8 * k + 5) 1

/-- The six receive checks of R310, in order; the session of a frame that passes them, which verifies it. -/
def State.rxAccept (h : RxHdr) (kind : Nat) (s : State) : State × Option Nat :=
  let k := h.port
  if !s.runs || decide (s.params.fpCount ≤ k) then (s, none)
  else if h.err ∨ h.len ≠ h.plen + 40 ∨ h.plen < 32 ∨ 4096 < h.plen then (s.discard (rLnkErrFormat k) k, none)
  else match s.sessOf k h.sess with
    | none => (s.discard (rLnkErrFormat k) k, none)
    | some si =>
      let x := s.sess k si
      if h.epoch ≠ x.rxEp % 16 ∧ h.epoch ≠ (x.rxEp + 1) % 16 then (s.discard (rLnkErrFormat k) k, none)
      else if !x.fresh h.seq then (s.discard (rLnkErrReplay k) k, none)
      else if !h.tagOk then (s.discard (rLnkErrAuth k) k, none)
      else if !kindOk h kind then (s.discard (rLnkErrFormat k) k, none)
      else
        let next := decide (h.epoch = (x.rxEp + 1) % 16)
        let t := s.modSess k si fun y => { y.mark h.seq with rxNew := y.rxNew || next, lastRx := s.now }
        let u := ((t.wants [72 + 2 * k, 73 + 2 * k]).glob (128 + 8 * k + 1) 1).glob (128 + 8 * k + 3) h.len
        (if si = 0 then u else u.cntr (si - 1) 20 1, some si)

/-- The full send stamp of a frame: the value with its low 48 bits nearest to the own domain time (R134). -/
def State.fullStamp (s : State) (low : Nat) : Nat :=
  let m := 2 ^ 48
  let c := s.now / m * m + low
  if c + m / 2 < s.now then c + m else if s.now + m / 2 < c ∧ m ≤ c then c - m else c

/-- A verified frame reaches its session: while a STOP of its partition is ACTIVE all but stop-side frames are held, and one
whose stamp is not before the cut is marked in the press record (R136 to R139). A PTP message of a partition session is discarded at
once (R111). -/
def State.rx (h : RxHdr) (kind : Nat) (c : HeldRx) (act : Nat → State → State) (s : State) : State :=
  match s.rxAccept h kind with
  | (t, none) => t
  | (t, some si) =>
    let p := si - 1
    let x := t.dt.stops.get Stop.none p
    if si ≠ 0 ∧ x.active ∧ kind ≠ 0x13 ∧ ¬(kindRow kind = some (0, 0, false, true, false)) then
      when (decide (x.cutAt ≤ t.fullStamp h.stamp)) (State.press 7 .done (some p) h.port)
        (t.modDt fun d => { d with stops := d.stops.set Stop.none p { x with heldRx := x.heldRx ++ [c] } })
    else act si t

/-! Session states (R301 to R304). -/

/-- LNKk_CTRL.ENABLE. -/
def State.lnkOn (s : State) (k : Nat) : Bool := bit (s.reg (rLnkCtrl k)) 0

/-- The entry of a partition's own member in its manifest. -/
def State.ownEntry (s : State) (p : Nat) : Option Member :=
  (s.part p).man.bind fun m => m.members.find? fun x => decide (x.num = s.memberOf p)

/-- The member that the manifest lists on a port of the own member (R437). -/
def State.neighOn (s : State) (p k : Nat) : Option Nat :=
  ((s.ownEntry p).bind fun x => x.neigh[k]?).filter fun m => decide (m ≠ 0xFFFF)

/-- The conditions of DOWN to SETUP (R302): a block without an alias key opens no session (R153); an A- or S-instance sets up no partition session before MEAS_LOCK (R429). A partition that was BOUND when it was fenced sets up as in BOUND (R493). -/
def State.canSetup (s : State) (k si : Nat) : Bool :=
  s.runs && decide (k < s.params.fpCount) && bit s.pins.fpUp k && decide ((s.slot 1).st = 1)
    && if si = 0 then s.lnkOn k
    else
      let x := s.part (si - 1)
      decide ((s.sess k 0).st = 3) && (decide (s.params.profile = .m) || s.att.measLock) && (decide (x.st = 2) || decide (x.st = 3) || (decide (x.st = 4) && decide (x.before = 2)))
        && (s.neighOn (si - 1) k).isSome

/-- The next receive index of a port (R299): 0 and indices in use are skipped. -/
def State.rxIndex (s : State) (k : Nat) : Nat :=
  let n := (s.port k).nextIdx
  ((List.range 18).map fun i => (n - 1 + i) % 65535 + 1).find? (fun i => (s.sessOf k i).isNone) |>.getD n

/-- A set-up has failed: the session goes DOWN and a back-off runs (R302). -/
def State.setupFails (k si : Nat) (s : State) : State :=
  let n := (s.sess k si).attempts
  (s.sessDown k si).modSess k si fun x => { x with attempts := min 15 (n + 1), backoff := true }

/-- Slots 92 to 127 that hold nothing and that no set-up has reserved (R146). -/
def State.handFree (s : State) : List Nat :=
  ((List.range 36).map fun i => 92 + i).filter fun n =>
    decide ((s.slot n).st = 0) && !(s.cmd.sessions.any fun x => x.hand.contains n)
      && !(s.lnk.sess.any fun x => x.2.hand.contains n)

/-- The end asks for the SPDM exchange of a set-up (R304): the public-key engine makes its key-exchange seed in a slot of R146. Without a
free slot the set-up fails (log entry 58). -/
def State.askExchange (k si : Nat) (s : State) : State :=
  match s.handFree with
  | n :: _ =>
    ((s.modSess k si fun y => { y with hand := [n] }).pkeAdd
      { link := true, ops := [.ecKeygen, .kemKeygen], sign := none, sig := [], ends := .request k si }).emit (.req (.link k si) 0)
  | [] => s.setupFails k si

/-- Enter SETUP: numbers restart, a partition session takes a receive index; the lower member number, or on a block-owned
session the end itself, begins the SPDM exchange (R299, R302, R304, R434). -/
def State.setup (k si : Nat) (s : State) : State :=
  let old := s.sess k si
  let idx := if si = 0 then 0 else s.rxIndex k
  let peer := if si = 0 then 0x3FFF else (s.neighOn (si - 1) k).getD 0
  let t := s.modSess k si fun _ =>
    { Sess.down with st := 1, attempts := old.attempts, rxIdx := idx, peer := peer,
                     slots := if si = 0 then [8 + 4 * k, 9 + 4 * k, 10 + 4 * k, 11 + 4 * k] else [] }
  let u := if si = 0 then t else (t.modPort k fun q => { q with nextIdx := idx % 65535 + 1 }).traceSess k si
  if si = 0 ∨ s.memberOf (si - 1) < peer then u.askExchange k si else u

/-- SESSION_SETUP_START (R302). -/
def execSessionSetupStart (k si : Nat) (s : State) : Ans :=
  .next (if (s.sess k si).st = 0 ∧ !(s.sess k si).backoff ∧ si < 17 ∧ s.canSetup k si then s.setup k si else s)

/-- SESSION_SETUP_TIMEOUT (R302): 250 ms in SETUP and OPENING. -/
def execSessionSetupTimeout (k si : Nat) (s : State) : Ans :=
  .next (if (s.sess k si).st = 1 ∨ (s.sess k si).st = 2 then s.setupFails k si else s)

/-- SESSION_RETRY_BACKOFF (R302): the back-off ends and set-up is tried again. -/
def execSessionRetryBackoff (k si : Nat) (s : State) : Ans :=
  .next (
    if !(s.sess k si).backoff then s
    else
      let t := s.modSess k si fun x => { x with backoff := false }
      if (t.sess k si).st = 0 ∧ si < 17 ∧ t.canSetup k si then t.setup k si else t)

/-- The reason payload of OPEN and CLOSE (R316). -/
def State.sessPayload (s : State) (kind reason si : Nat) : List Byte :=
  [BitVec.ofNat 8 kind, BitVec.ofNat 8 reason] ++ leBytes 2 (if si = 0 then 0x3FFF else s.memberOf (si - 1))
    ++ List.replicate 28 0

/-- A control frame of a session. -/
def ctrlFrame (si kind : Nat) (payload : List Byte) : EgFrame :=
  { si := si, kind := kind, tc := 0, retry := false, event := false, src := 0, dst := 0, label := 0, payload := payload }

/-- Send CLOSE on an OPEN session (R303): it enters CLOSING, its queued data frames are discarded. -/
def State.closeSess (k si reason : Nat) (s : State) : State :=
  if (s.sess k si).st ≠ 3 then s
  else
    let t := (s.sessTo k si 4).modPort k fun q =>
      { q with q := q.q.filter fun i => decide (i.f.si ≠ si) || (kindRow i.f.kind).any fun r => r.2.2.1 }
    t.enqueue k (ctrlFrame si 0x12 (s.sessPayload 0x12 reason si))

/-- Send CLOSE on every OPEN session of a partition. -/
def State.closePart (p reason : Nat) (s : State) : State := each s.ports (fun k => State.closeSess k (1 + p) reason) s

/-- The KIND 0x34 payload of a rejoin notice: the lost member is the reporting member (R450). -/
def State.rejoinNotice (p : Nat) (s : State) : State := s.broadcast p 0x34 none (lostPayload (s.memberOf p) (s.memberOf p) s.now)

/-- The member table has room for the entries of a partition's domain (R29). -/
def State.memberRoom (s : State) (p : Nat) : Bool :=
  decide (((parts16.filter fun q => decide (q = p) || (s.part q).loaded).map fun q =>
    ((s.part q).man.elim 0 fun m => m.members.length)).sum ≤ 16384)

/-- A partition whose admission is complete enters JOINED (R442, R493): it was BOUND, the instance is LOCKED, and a session of it
is OPEN or its entry lists no neighbour. -/
def State.tryJoin (p : Nat) (s : State) : State :=
  let x := s.part p
  let waits := decide (x.st = 2) || (decide (x.st = 4) && decide (x.before = 2) && decide (x.holds = 0))
  let alone := (s.ownEntry p).any fun m => m.neigh.all fun n => decide (n = 0xFFFF)
  if waits && s.locked && (alone || !(s.openPorts p).isEmpty) then
    if s.memberRoom p then
      ((s.modPart p fun y => { y with st := 3, joinedAt := s.now, loaded := true }).lowerPfence p).rejoinNotice p
    else s.press 5 .outOfSlots (some p) 0
  else s

/-- A session whose OPEN frames have passed both ways is OPEN (R302). -/
def State.tryOpen (k si : Nat) (s : State) : State :=
  let x := s.sess k si
  if x.st = 2 ∧ x.sentOpen ∧ x.gotOpen then
    let t := (s.modSess k si fun y => { y with st := 3, attempts := 0, backoff := false }).traceSess k si
    if si = 0 then
      if x.hand = [] then t else ((t.retireAll x.hand).modSess k 0 fun y => { y with hand := [] }).emit (.req (.link k 0) 1)
    else t.tryJoin (si - 1)
  else s

/-- A verified OPEN reaches its session (R302). -/
def State.applyOpen (h : RxHdr) (member si : Nat) (s : State) : State :=
  if (s.sess h.port si).st = 2 ∧ (s.sess h.port si).peer = member then
    (s.modSess h.port si fun x => { x with gotOpen := true }).tryOpen h.port si
  else s

/-- OPEN_RX (R302). -/
def execOpenRx (h : RxHdr) (member : Nat) (s : State) : Ans :=
  .next (s.rx h 0x11 (.cmd (.openRx h member)) (State.applyOpen h member))

/-- A verified CLOSE reaches its session (R302, R303). -/
def State.applyClose (h : RxHdr) (si : Nat) (s : State) : State :=
  let x := s.sess h.port si
  let u := s.modSess h.port si fun y => { y with gotClose := true }
  if x.st = 3 then u.closeSess h.port si 0
  else if x.st = 4 ∧ x.sentClose then u.sessDown h.port si
  else u

/-- CLOSE_RX (R302, R303). -/
def execCloseRx (h : RxHdr) (reason member : Nat) (s : State) : Ans :=
  .next (s.rx h 0x12 (.cmd (.closeRx h reason member)) (State.applyClose h))

/-- CLOSING_TIMEOUT (R302): 1 ms after entry to CLOSING. -/
def execClosingTimeout (k si : Nat) (s : State) : Ans :=
  .next (if (s.sess k si).st = 4 then s.sessDown k si else s)

/-! Port enable (R302, R303) and the link pin (R79, R317). -/

/-- The lowest FREE schedule entry. -/
def State.freeSched (s : State) : Option Nat := (List.range 256).find? fun i => decide ((s.sched i).st = 0)

/-- Tolaro arms the default entry of an action for a port, at the next whole multiple of its period from DT 0; a period of 0 leaves
none (R127, R320, R326). -/
def State.armDefault (k action period : Nat) (s : State) : State :=
  let id := Config.defaultSched (2 * k + action % 2)
  let t := s.modDt fun d =>
    { d with sched := d.sched.filter fun x => !(x.2.block && decide (x.2.action = action) && decide (x.2.id = id)) }
  match t.freeSched with
  | some i =>
    if period = 0 then t
    else t.setSched i
      { Sched.free with st := 1, instant := (t.now / (1000 * period) + 1) * (1000 * period), period := period, action := action,
                        block := true, id := id, param := BitVec.twoPow 64 k, origin := 0x3FFF }
  | none => t

/-- The default EPOCH and RESALT entries of a port (LNKk_EPOCH_CFG, R127); a port that is not enabled has none. -/
def State.armDefaults (k : Nat) (s : State) : State :=
  if !s.lnkOn k then s else
  let minutes := min 71 (max 1 (s.fld (rLnkEpochCfg k) 15 0))
  let seconds := min 4294 (s.fld (rLnkEpochCfg k) 31 16)
  (s.armDefault k 2 (minutes * 60000000)).armDefault k 3 (seconds * 1000000)

/-- LNKk_CTRL.ENABLE is written (R302, R303): a port that becomes enabled while the block is ready gets its default schedule entries
(R127); a port that is disabled sends CLOSE with reason 3 on every OPEN session, and one in
set-up goes DOWN. A write to an absent port is recorded (R10). -/
def State.lnkWrite (k : Nat) (on : Bool) (s : State) : State :=
  if s.params.fpCount ≤ k then s.busErr (rLnkCtrl k)
  else if on then
    let t := s.setReg (rLnkCtrl k) 1
    if !s.lnkOn k ∧ t.boot.phase = .ready then t.armDefaults k else t
  else each sessIdx.reverse (fun si v =>
    if (v.sess k si).st = 3 then v.closeSess k si 3
    else if (v.sess k si).st = 1 ∨ (v.sess k si).st = 2 then v.sessDown1 k si else v) (s.setReg (rLnkCtrl k) 0)

/-- LNK_ENABLE (R302). -/
def execLnkEnable (rq : Rq) (k : Nat) (s : State) : Ans := .next (s.ctlWrite rq (State.lnkWrite k true))

/-- LNK_DISABLE (R303). -/
def execLnkDisable (rq : Rq) (k : Nat) (s : State) : Ans := .next (s.ctlWrite rq (State.lnkWrite k false))

/-- FP_LINK_UP_RISE (R302). -/
def execFpLinkUpRise (k : Nat) (s : State) : Ans :=
  .next (
    if s.params.fpCount ≤ k then s
    else
      let t := s.modPins fun q => { q with fpUp := setBit q.fpUp k true }
      if (t.sess k 0).st = 0 ∧ !(t.sess k 0).backoff ∧ t.canSetup k 0 then t.setup k 0 else t)

/-- FP_LINK_UP_FALL (R79, R317): every session of the port goes DOWN; MEMBER_LOST follows at the keepalive timeout. -/
def execFpLinkUpFall (k : Nat) (s : State) : Ans :=
  .next (
    if s.params.fpCount ≤ k then s
    else
      let was := sessIdx.filter fun si => decide ((s.sess k si).st ≠ 0)
      let t := (s.modPins fun q => { q with fpUp := setBit q.fpUp k false }).sessDown k 0
      (each was (fun si u => u.modSess k si fun x => { x with lossDue := true, lastRx := (s.sess k si).lastRx }) t).modPort k fun q => { q with txq := [] })

/-! Keepalives (R315 to R317). -/

/-- KEEPALIVE_TX (R315). -/
def execKeepaliveTx (k si : Nat) (s : State) : Ans :=
  .next (
    if (s.sess k si).st = 3 ∧ (si = 0 ∨ bit (s.reg (rLnkKa k)) 31) then
      s.enqueue k (ctrlFrame si 0x01 ([0x01, BitVec.ofNat 8 s.dt.st, 0, 0] ++ leBytes 8 (s.sess k si).hTop
        ++ List.replicate 20 0))
    else s)

/-- KEEPALIVE_RX (R316): a verified frame; its content changes nothing here. -/
def execKeepaliveRx (h : RxHdr) (dtState hseq : Nat) (s : State) : Ans :=
  .next (s.rx h 0x01 (.cmd (.keepaliveRx h dtState hseq)) (fun _ t => t))

/-- KEEPALIVE_TIMEOUT (R317): the session, and with the block-owned one every session of the port, goes DOWN, and MEMBER_LOST is
raised for the peer of each partition session that went. -/
def execKeepaliveTimeout (k si : Nat) (s : State) : Ans :=
  .next (
    let x := s.sess k si
    if x.st ≠ 3 ∧ x.st ≠ 4 ∧ !x.lossDue then s
    else
      let all := if si = 0 then sessIdx else [si]
      let gone := all.filter fun i => decide (i ≠ 0) && (decide ((s.sess k i).st ≠ 0) || (s.sess k i).lossDue)
      let peers := gone.map fun i =>
        (i, if (s.sess k i).st ≠ 0 then (s.sess k i).peer else (s.neighOn (i - 1) k).getD 0x3FFF, (s.sess k i).lastRx)
      let t := each all (fun i u => u.modSess k i fun y => { y with lossDue := false }) (s.sessDown k si)
      each peers (fun y => State.raiseLost k y.1 y.2.1 y.2.2) t)

/-- MEMBER_LOST_NOTICE_RX (R318, R450): a repeat of (lost member, DT) is discarded; a notice whose lost member is its reporter
clears the record. -/
def State.applyLost (h : RxHdr) (reporter lost dt si : Nat) (s : State) : State :=
  let p := si - 1
  if si = 0 ∨ s.lnk.seenLost.contains (p, lost, dt) then s
  else
    let t := s.modLnk fun l => { l with seenLost := (p, lost, dt) :: l.seenLost }
    if reporter = lost then
      (t.modPart p fun x => { x with lost := x.lost.filter fun m => decide (m ≠ lost) }).broadcast p 0x34 (some h.port)
        (lostPayload reporter lost dt)
    else t.recordLost p lost reporter dt (some h.port)

/-- MEMBER_LOST_NOTICE_RX. -/
def execMemberLostNoticeRx (h : RxHdr) (reporter lost dt : Nat) (s : State) : Ans :=
  .next (s.rx h 0x34 (.cmd (.memberLostNoticeRx h reporter lost dt)) (State.applyLost h reporter lost dt))

/-- A domain fence frame is applied (R413) and forwarded once (R412); one whose ERROR is no signal code is discarded (R406). -/
def State.applyFence (h : RxHdr) (op error origin index : Nat) (fepoch : Word) (stamp : Nat) (oseq : Word) (si : Nat)
    (s : State) : State :=
  let p := si - 1
  if si = 0 ∨ s.dfCount p ≤ index ∨ s.obju.seenFence.contains (p, origin, oseq) ∨ ¬(op = 1 ∨ op = 2) then s
  else if op = 1 ∧ !signalCode error then s
  else
    let f := 0xF000 + index
    let x := s.fence p f
    let later := decide (x.epoch.toNat < fepoch.toNat)
    let t := (s.modObju fun o => { o with seenFence := (p, origin, oseq) :: o.seenFence }).broadcast p 0x33 (some h.port)
      (dfPayload op error origin index fepoch stamp oseq)
    if op = 2 then
      if later then t.setFence p f { x with epoch := fepoch, signalled := false, payload := 0 } else t
    else if later then
      finishing ((t.setFence p f { x with epoch := fepoch, signalled := false, payload := 0 }).signalHere p f error)
    else if x.epoch = fepoch then finishing (t.signalHere p f error)
    else t

/-- DOMAIN_FENCE_SIGNAL_RX (R412, R413). -/
def execDomainFenceSignalRx (h : RxHdr) (op error origin index : Nat) (fepoch : Word) (stamp : Nat) (oseq : Word)
    (s : State) : Ans :=
  .next (s.rx h 0x33 (.cmd (.domainFenceSignalRx h op error origin index fepoch stamp oseq))
    (State.applyFence h op error origin index fepoch stamp oseq))

/-- FRAME_RX_DISCARD (R310): a frame that a receive check fails is counted; one that passes them all and carries nothing for the
block changes its window alone: a cover frame, or a PTP message of a partition session, which is counted (R111). -/
def execFrameRxDiscard (h : RxHdr) (kind : Nat) (s : State) : Ans :=
  .next (
    match s.rxAccept h kind with
    | (t, some si) => if kind = 0x13 ∧ si ≠ 0 then t.ptpIgnore else t
    | (t, none) => t)

/-! Flow entropy (R323 to R326). -/

/-- Flow label of a frame (R323): object ID of requests of KIND 0x20 to 0x23 and 0x40 to 0x43, RID of 0x50 to 0x53. -/
def flowLabel (f : EgFrame) : Nat :=
  if f.kind = 0x20 ∨ f.kind = 0x22 ∨ f.kind = 0x40 ∨ f.kind = 0x42 then ofLe ((f.payload.drop 20).take 4)
  else if 0x50 ≤ f.kind ∧ f.kind ≤ 0x53 then ofLe ((f.payload.drop 4).take 4)
  else f.label

/-- Flow identity block (R323) with re-salt count `r`. -/
def flowBlock (src dst p tc label r : Nat) : BitVec 128 :=
  BitVec.ofNat 128 (ofLe (leBytes 2 src ++ leBytes 2 dst ++ leBytes 1 p ++ leBytes 1 tc ++ leBytes 4 label ++ leBytes 4 r))

/-- Identity of a data frame's flow on a port, with count 0. -/
def State.flowOf (s : State) (k : Nat) (f : EgFrame) : BitVec 128 :=
  let dst := if 0x50 ≤ f.kind ∧ f.kind ≤ 0x53 then (s.sess k f.si).peer else f.dst
  flowBlock f.src dst (f.si - 1) f.tc (flowLabel f) 0

/-- The slot of the count before the newest retires once no flow of the port uses that count, and the flow key of the next count is
derived into it (R326): of a session's two flow-key slots, that of a count's parity holds its key. -/
def State.saltKeys (k : Nat) (s : State) : State :=
  let r := (s.port k).salt
  if (s.port k).flows.any fun e => decide (e.r + 1 = r) then s
  else
    each (sessIdx.filter fun si => decide (si ≠ 0) && decide (7 ≤ (s.sess k si).slots.length)) (fun si t =>
      let l := (t.sess k si).slots
      let n := l.getD (5 + (r + 1) % 2) 0
      let v : BitVec 512 := (flowKey (t.slot (l.getD 4 0)).value (r + 1)).setWidth 512
      if (t.slot n).st = 1 ∧ (t.slot n).value = v then t else t.retireFor n { src := l.getD 4 0, salt := true, n := r + 1 }) s

/-- A flow-table entry's count falls by one; at 0 the entry is freed (R325). -/
def State.flowLess (k : Nat) (id : BitVec 128) (s : State) : State :=
  (s.modPort k fun q =>
    { q with flows := q.flows.filterMap fun e =>
        if e.flow = id then (if e.out ≤ 1 then none else some { e with out := e.out - 1 }) else some e }).saltKeys k

/-- FLOW_ENTRY_TIMEOUT (R325): 4 ms have passed since a request frame was sealed. -/
def execFlowEntryTimeout (k : Nat) (flow : BitVec 128) (s : State) : Ans := .next (s.flowLess k flow)

/-- FLOW_ENTRY_GRANT (R325): an entry is free and a frame that waits for one proceeds. -/
def execFlowEntryGrant (k : Nat) (s : State) : Ans :=
  .next (
    if (s.port k).flows.length < 8192 then
      s.modPort k fun q =>
        match q.q.findIdx? fun i => i.flowWait with
        | some n => { q with q := q.q.zipIdx.map fun x => if x.2 = n then { x.1 with flowWait := false } else x.1 }
        | none => q
    else s)

/-! Sealing (R305 to R308, R314, R327 to R332). -/

/-- A payload padded with zeros. -/
def padTo (n : Nat) (l : List Byte) : List Byte := l ++ List.replicate (n - l.length) 0

/-- Frame length L of an item. -/
def frameLen (f : EgFrame) : Nat := max 32 f.payload.length + 40

/-- Cover mode is on (R332). -/
def State.coverOn (s : State) (k : Nat) : Bool := bit (s.reg (rLnkCover k)) 31

/-- KIND is stop-side (R307). -/
def stopKind (kind : Nat) : Bool := (kindRow kind).any fun r => r.2.2.2.1
/-- KIND is control (R307). -/
def ctrlKind (kind : Nat) : Bool := (kindRow kind).any fun r => r.2.2.1

/-- A STOP of the item's partition holds it (R136, R139). -/
def State.stopHolds (s : State) (i : EgItem) : Bool :=
  decide (i.f.si ≠ 0) && s.stopped (i.f.si - 1) && !stopKind i.f.kind

/-- An item may be sealed as far as the shaper is not concerned. -/
def State.canSeal (s : State) (k : Nat) (i : EgItem) : Bool :=
  let x := s.sess k i.f.si
  i.free && !i.flowWait
    && (if ctrlKind i.f.kind then decide (x.st ≠ 0) && decide (x.slots ≠ []) else decide (x.st = 3))
    && !s.stopHolds i

/-- Head items of a class, one per session, in the round-robin order after the session served last (R327); what a STOP holds lets the
stop-side frames behind it pass (R139). -/
def State.heads (s : State) (k c : Nat) : List EgItem :=
  let last := (s.port k).rr.get 0 c
  ((List.range 17).map fun i => (last + 1 + i) % 17).filterMap fun si =>
    ((s.port k).q.find? fun i => decide (i.f.si = si) && !i.out && decide (i.f.tc = c) && !s.stopHolds i).filter (s.canSeal k)

/-- Wire time of a frame in ns (R330). -/
def wireTime (l : Nat) : Nat := (10 * l + 1124) / 1125

/-- The class-7 windows of a port in use: start and end from the start of a cycle. -/
def State.windows (s : State) (k : Nat) : List (Nat × Nat) :=
  let cyc := (s.reg (rLnkGateCycle k)).toNat
  (List.range (min 8 (s.fld (rLnkGateCtrl k) 3 0))).map fun w =>
    let o := (s.reg (rLnkGateOpen k w)).toNat
    (o, min cyc (o + (s.reg (rLnkGateLen k w)).toNat))

/-- Gating runs: domain time is BOUND and a cycle is set (R330). -/
def State.gated (s : State) (k : Nat) : Bool :=
  s.dt.bound && decide ((s.reg (rLnkGateCycle k)).toNat ≠ 0) && decide (s.pair (rLnkGateBase k) ≤ s.now)

/-- Time since the start of the gate cycle. -/
def State.gatePos (s : State) (k : Nat) : Nat := (s.now - s.pair (rLnkGateBase k)) % (s.reg (rLnkGateCycle k)).toNat

/-- The gate admits a class-7 frame (R330). -/
def State.gateOpen (s : State) (k l : Nat) : Bool :=
  let m := s.fld (rLnkGateCtrl k) 15 8
  s.gated k && (s.windows k).any fun w => decide (w.1 + m ≤ s.gatePos k) && decide (s.gatePos k + wireTime l + m ≤ w.2)

/-- The guard band before a window (R330). -/
def State.guardBand (s : State) (k : Nat) : Bool :=
  let cyc := (s.reg (rLnkGateCycle k)).toNat
  s.gated k && (s.windows k).any fun w =>
    let d := (w.1 + cyc - s.gatePos k) % cyc
    decide (0 < d) && decide (d ≤ 37)

/-- The length with which an item would be sealed: every frame of a port in cover mode has 4,136 bytes (R329, R332). -/
def State.sealLen (s : State) (k : Nat) (i : EgItem) : Nat := if s.coverOn k then 4136 else frameLen i.f

/-- A PTP event message that gets the next slot of a port in cover mode (R332). -/
def State.eventNext (s : State) (k : Nat) : Option EgItem :=
  if s.coverOn k then (s.port k).q.find? fun i => i.f.event && s.canSeal k i else none

/-- The frame that the shaper picks (R327): class 0 on its credit, class 7 in its gate, classes 6 to 1 on their tokens; in cover mode a
PTP event message first (R332). -/
def State.pick (s : State) (k : Nat) : Option EgItem :=
  let q := s.port k
  let quiet := s.guardBand k && !s.coverOn k
  let c0 := if 0 ≤ q.credit ∧ !quiet then (s.heads k 0).head? else none
  let c7 := ((s.heads k 7).find? fun i => s.coverOn k || s.gateOpen k (frameLen i.f))
  let low := if quiet then none else [6, 5, 4, 3, 2, 1].findSome? fun c =>
    ((s.heads k c).head?).filter fun i =>
      decide (0 < s.fld (rLnkTb k (c - 1)) 10 0) && decide (100 * s.sealLen k i ≤ q.tokens.get 0 c)
  s.eventNext k <|> c0 <|> c7 <|> low

/-- The credit of class 0 after a frame has been sent (R328). -/
def State.creditAfter (s : State) (k : Nat) (tc l : Nat) : Int :=
  let q := s.port k
  let slope : Int := max 1 (min 1125 (s.fld (rLnkCbs k) 10 0))
  let waits := q.q.any fun i => decide (i.f.tc = 0) && !i.out
  let c : Int := if tc = 0 then q.credit - (l : Int) * (1125 - slope) / 1125
    else if waits then q.credit + (l : Int) * slope / 1125 else q.credit
  let d := max (-65536) (min 65536 c)
  if !waits ∧ 0 < d then 0 else d

/-- The 24 header bytes (R305). -/
def headerBytes (x : TxFrame) (plen : Nat) : List Byte :=
  leBytes 4 (x.sess % 65536 + x.epoch % 16 * 2 ^ 16 + x.tc * 2 ^ 20 + x.flags.toNat * 2 ^ 23) ++ leBytes 8 x.seq
    ++ leBytes 6 x.stamp ++ leBytes 2 x.entropy.toNat ++ leBytes 2 plen ++ [0, 0]

/-- Seal one frame of a session and offer it on FPk_TX (R305, R306, R308, R314, R332). -/
def State.sealFrame (k : Nat) (f : EgFrame) (s : State) : State :=
  let cover := s.coverOn k
  let x := s.sess k f.si
  let body := padTo (if cover then 4096 else 32) f.payload
  let data := !ctrlKind f.kind && !stopKind f.kind && decide (f.si ≠ 0)
  let id := s.flowOf k f
  let r := if bit (BitVec.ofNat 8 x.features) 2 then
      ((s.port k).flows.find? fun e => decide (e.flow = id)).elim (s.port k).salt fun e => e.r
    else 0
  let seed := (s.slot (x.slots.getD 4 0)).value
  let block := if cover then flowBlock 0 0 (f.si - 1) 0 0 r else id ||| flowBlock 0 0 0 0 0 r
  let ent : BitVec 16 :=
    if f.si = 0 ∨ (!data ∧ !cover) then 0 else (Config.aes256 (flowKey seed r) block).setWidth 16
  let (key, salt) := if f.si = 0 ∧ x.st = 1 then (0, [0, 0, 0, 0]) else epochKey (s.slot (x.slots.getD 0 0)).value
  let flags : BitVec 9 :=
    BitVec.ofNat 9 (b2n f.retry + (if cover then 8 else 2 * b2n (ctrlKind f.kind) + 4 * b2n (stopKind f.kind)
      + 16 * b2n f.event + 32 * b2n (decide (f.kind = 0x12))))
  let tx : TxFrame :=
    { port := k, sess := x.peerIdx, epoch := x.txEp % 16, tc := if cover then 1 else f.tc, flags := flags, seq := x.txSeq,
      stamp := s.now % 2 ^ 48, entropy := ent, payload := [] }
  let out := { tx with payload := Config.gcmSeal key (salt ++ leBytes 8 x.txSeq) (headerBytes tx body.length) body }
  let l := body.length + 40
  let t := ((s.wants [72 + 2 * k, 73 + 2 * k]).modSess k f.si fun y =>
    { y with txSeq := y.txSeq + 1, epCnt := y.epCnt + 1, sentOpen := y.sentOpen || decide (f.kind = 0x11),
             sentClose := y.sentClose || decide (f.kind = 0x12) }).emit (.frame out)
  let t1 := t.modPort k fun q =>
    { q with txq := q.txq ++ [{ beats := (l + 63) / 64, sof := true, label := if f.event then some f.label else none }], credit := s.creditAfter k f.tc l,
             tokens := if 1 ≤ f.tc ∧ f.tc ≤ 6 then q.tokens.set 0 f.tc (q.tokens.get 0 f.tc - 100 * l) else q.tokens,
             rr := q.rr.set 0 f.tc f.si,
             flows :=
              if data && isRequest f.kind then
                (if q.flows.any fun e => decide (e.flow = id) then
                  q.flows.map fun e => if e.flow = id then { e with out := e.out + 1 } else e
                else q.flows ++ [{ flow := id, r := r, out := 1 }])
              else q.flows }
  let t2 := when f.event (State.modPtp k fun y => { y with txMarks := y.txMarks ++ [(f.label, none)] }) t1
  let u := ((if f.si = 0 then t2 else t2.cntr (f.si - 1) 19 1).glob (128 + 8 * k) 1).glob (128 + 8 * k + 2) l
  let v := (u.tryOpen k f.si)
  if (v.sess k f.si).sentClose ∧ (v.sess k f.si).gotClose ∧ (v.sess k f.si).st = 4 then v.sessDown k f.si
  else if 2 ^ 64 - 1 ≤ (v.sess k f.si).txSeq then v.sessDown k f.si
  else v

/-- Take an item out of the egress queue. -/
def State.unqueue (k : Nat) (i : EgItem) (s : State) : State := s.modPort k fun q => { q with q := q.q.erase i }

/-- The port may seal: it runs, its link is up, fewer than 16 sealed frames wait and picking is not stopped (R79, R314). -/
def State.mayPick (s : State) (k : Nat) : Bool :=
  s.runs && bit s.pins.fpUp k && decide (k < s.params.fpCount) && decide ((s.port k).txq.length < 16) && !(s.port k).stalled

/-- Seal the frame that the shaper picks; a request of a flow for which the flow table has no room waits (R325). -/
def State.sealPick (k : Nat) (i : EgItem) (s : State) : State :=
  let id := s.flowOf k i.f
  let q := s.port k
  if isRequest i.f.kind ∧ i.f.si ≠ 0 ∧ 8192 ≤ q.flows.length ∧ !(q.flows.any fun e => decide (e.flow = id)) then
    s.modPort k fun q => { q with waits := q.waits + 1, q := q.q.map fun x => if x = i then { x with flowWait := true } else x }
  else when i.held State.lowerCstop ((s.unqueue k i).sealFrame k i.f)

/-- FRAME_SEAL (R314, R327); a frame that left gives its room in the hold buffer (R225). -/
def execFrameSeal (k : Nat) (s : State) : Ans :=
  .next (
    if !s.mayPick k || s.coverOn k then s
    else match (s.refill k).pick k with
      | some i => ((s.refill k).sealPick k i).refill k
      | none => s.refill k)

/-- COVER_SLOT (R332): the frame that would be picked, or a cover frame on the OPEN sessions in turn. -/
def execCoverSlot (k : Nat) (s : State) : Ans :=
  .next (
    if !s.mayPick k || !s.coverOn k then s
    else match (s.refill k).pick k with
      | some i => ((s.refill k).sealPick k i).refill k
      | none =>
        let turn := (s.port k).coverTurn
        match ((List.range 17).map fun i => (turn + i) % 17).find? fun si => decide ((s.sess k si).st = 3)
            && (decide (si = 0) || !s.stopped (si - 1)) with
        | some si =>
          ((s.modPort k fun q => { q with coverTurn := (si + 1) % 17 }).sealFrame k
            { si := si, kind := 0x02, tc := 0, retry := false, event := false, src := 0, dst := 0, label := 0,
              payload := [0x02] }).glob (128 + 8 * k + 4) 1
        | none => s)

/-- TX_STALL (R314): FPk_TX READY has stayed low for 1 us while sealed frames wait. -/
def execTxStall (k : Nat) (s : State) : Ans :=
  .next (if (s.port k).txq ≠ [] then (s.modPort k fun q => { q with stalled := true }).flag (rLnkStatus k) 1 else s)

/-- FRAME_ENQUEUE (R77, R224, R225): a frame's payload, of at most 4,096 bytes, is admitted to the egress queue of a port whose session is
OPEN and whose hold buffer has room; requests of a fenced partition are not (R492). -/
def execFrameEnqueue (k : Nat) (f : EgFrame) (s : State) : Ans :=
  .next (
    let p := f.si - 1
    if s.runs && decide (k < s.params.fpCount) && decide (f.si < 17) && decide (f.payload.length ≤ 4096)
        && decide ((s.sess k f.si).st = 3)
        && (decide (f.si = 0) || (s.holdRoom k f
          && !(isRequest f.kind && (decide (s.pst p = 4) || decide (s.pst p = 5))))) then s.enqueue k f
    else s)

/-! Key epochs (R319 to R322). -/

/-- Move one direction of a session on from epoch `e`: the old secret's slot retires, and the secret after next is derived into it
(R147, R160, R320, R321). -/
def State.nextSecret (i e : Nat) (slots : List Nat) (s : State) : State × List Nat :=
  let old := slots.getD i 0
  let new := slots.getD (i + 1) 0
  ((s.settleSlot new).retireFor old { src := new, salt := false, n := e + 1 }, (slots.set i new).set (i + 1) old)

/-- A transmit direction changes epoch (R320). -/
def State.epochMove (k si : Nat) (s : State) : State :=
  let x := s.sess k si
  let (t, l) := s.nextSecret 0 x.txEp x.slots
  (t.modSess k si fun y =>
    { y with txEp := y.txEp + 1, epCnt := 0, epAt := some s.now, epWait := false, slots := l }).glob (128 + 8 * k + 6) 1

/-- A trigger of an epoch change: at most one change per millisecond; a sooner one is deferred (R320). -/
def State.epochChange (k si : Nat) (s : State) : State :=
  let x := s.sess k si
  if x.st ≠ 3 then s
  else if x.epAt.any fun a => decide (s.now < a + 1000000) && decide (s.dt.st ≠ 0) then
    s.modSess k si fun y => { y with epWait := true }
  else s.epochMove k si

/-- EPOCH_COUNT_LIMIT (R320): 2^36 frames sealed in the epoch. -/
def execEpochCountLimit (k si : Nat) (s : State) : Ans :=
  .next (if 2 ^ 36 ≤ (s.sess k si).epCnt then s.epochChange k si else s)

/-- EPOCH_CHANGE_DEFERRED (R320): 1 ms after the previous change. -/
def execEpochChangeDeferred (k si : Nat) (s : State) : Ans :=
  .next (if (s.sess k si).epWait ∧ (s.sess k si).st = 3 then s.epochMove k si else s)

/-- RX_EPOCH_RETIRE (R321): the receiver retires the old epoch and derives the next into its slot. -/
def execRxEpochRetire (k si : Nat) (s : State) : Ans :=
  .next (
    let x := s.sess k si
    if x.rxNew ∧ x.st ≠ 0 then
      let (t, l) := s.nextSecret 2 x.rxEp x.slots
      t.modSess k si fun y => { y with rxEp := y.rxEp + 1, rxNew := false, slots := l }
    else s)

/-! Routing (R46, R318). -/

/-- The reply KIND of a request. -/
def replyKind (kind : Nat) : Nat := kind + 1

/-- The acknowledgement of a reduction frame: its header with the acknowledgement's KIND and a status (R260, R262, R267). -/
def ackBytes (f : EgFrame) (st : Status) : List Byte :=
  let b := padTo 48 f.payload
  [BitVec.ofNat 8 (replyKind f.kind)] ++ (b.drop 1).take 30 ++ [BitVec.ofNat 8 (stCode st)] ++ (b.drop 32).take 16

/-- An S-instance answers a routed request in place of its target: reply KIND, status and OUTCOME, EXEC (R318, R333). -/
def State.routeReply (k si : Nat) (f : EgFrame) (st : Status) (outcome exec : Nat) (s : State) : State :=
  let txid : Word := BitVec.ofNat 32 (ofLe ((f.payload.drop 8).take 4))
  s.enqueue k { si := si, kind := replyKind f.kind, tc := f.tc, retry := false, event := false, src := f.dst, dst := f.src,
                label := flowLabel f,
                payload := if 0x50 ≤ f.kind then ackBytes f st
                  else replyBytes (replyKind f.kind) st outcome 0 f.dst f.src txid exec 0 [] }

/-- Route a verified frame (R46). -/
def State.applyRoute (h : RxHdr) (outPort : Nat) (f : EgFrame) (si : Nat) (s : State) : State :=
  let p := si - 1
  if si = 0 then s
  else if s.isLost p f.dst ∧ isRequest f.kind then s.routeReply h.port si f .memberLost 3 0
  else if s.pst p = 4 ∧ isRequest f.kind then s.routeReply h.port si f .fenced 2 (s.part p).fenceAt
  else if (s.sess outPort si).st = 3 ∧ outPort < s.params.fpCount then
    s.enqueue outPort { f with si := si, retry := h.retry }
  else s

/-- FRAME_ROUTE (R46): an S-instance ends the hop and seals the frame again on the outgoing one. -/
def execFrameRoute (h : RxHdr) (outPort : Nat) (f : EgFrame) (s : State) : Ans :=
  .next (if s.params.profile ≠ .s then s else s.rx h f.kind (.route h outPort f) (State.applyRoute h outPort f))

end Sys2Proof.Machine
end

