-- ==== Sys2Proof/Machine/Remote.lean ====
section
/-!
DEFINITION. Remote atomics, the response memo, remote reads and writes, and reductions (R259 to R274, R313, R383, R384).
-/
namespace Sys2Proof.Machine

/-! Requesters (R268, R270, R383). -/

/-- The 48-byte request header (R268) with its data. -/
def requestBytes (kind op attr src dst : Nat) (txid : Word) (issue obj gen offset : Nat) (data : List Byte) : List Byte :=
  [BitVec.ofNat 8 kind, BitVec.ofNat 8 op, BitVec.ofNat 8 attr, 0] ++ leBytes 2 src ++ leBytes 2 dst ++ leBytes 4 txid.toNat
    ++ leBytes 8 issue ++ leBytes 4 obj ++ leBytes 3 gen ++ leBytes 5 offset ++ leBytes 2 data.length
    ++ List.replicate 14 0 ++ data

/-- KIND of an operation's request. -/
def RemOp.kind (o : RemOp) : Nat := if o.query then 0x42 else 0x40

/-- The request of an operation. -/
def State.opBytes (s : State) (o : RemOp) : List Byte :=
  if o.query then requestBytes 0x42 0 0 (s.memberOf o.part) o.dst o.txid o.issue 0 0 0 []
  else requestBytes 0x40 o.op o.attr.toNat (s.memberOf o.part) o.dst o.txid o.issue o.obj o.gen o.offset o.data

/-- Send an operation's request, first or again (R270, R312). -/
def State.sendOp (o : RemOp) (retry : Bool) (s : State) : State := s.sendTo o.part o.dst o.kind (tcOf o.kind) retry (s.opBytes o)

/-- Trace kinds 0x06 and 0x07 of an operation (R513). -/
def State.traceOp (o : RemOp) (done : Bool) (st : Status) (outcome : Nat) (s : State) : State :=
  s.trace o.part (if done then 7 else 6) (if done then stCode st else 0) (BitVec.ofNat 64 o.dst) false
    (BitVec.ofNat 64 (o.kind + (if done then outcome * 2 ^ 8 else 0) + o.txid.toNat * 2 ^ 16)) o.p.h.ctx

/-- A new remote operation (R270): it is recorded and its request sent. -/
def State.newOp (o : RemOp) (s : State) : State :=
  ((s.modRem fun r => { r with ops := r.ops ++ [o] }).sendOp o false).traceOp o false .done 0

/-- Remote atomics outstanding. -/
def State.atomicsOut (s : State) : Nat := (s.rem.ops.filter fun o => !o.query).length

/-- Further remote atomics wait at admission while 65,536 are outstanding (R270). -/
def State.opHold (s : State) : Option Nat := if 65536 ≤ s.atomicsOut then some 0 else none

/-- Take the partition's next TXID (R270). -/
def State.takeTxid (p : Nat) (s : State) : State := s.modPart p fun x => { x with txid := x.txid + 1 }

/-- A feature is in force toward a member, as far as a session toward it is OPEN (R455). -/
def State.featureOn (s : State) (p dst f : Nat) : Bool :=
  (s.portTo p dst).all fun k => bit (BitVec.ofNat 8 (s.sess k (1 + p)).features) f

/-- RATOMIC (R268, R270, R383). -/
def execRatomic (h : Hdr) (dst op : Nat) (attr : BitVec 8) (obj gen offset : Nat) (operand compare : BitVec 128) (s : State) : Ans :=
  .next (
    let n := sizeBytes (bits attr 1 0)
    s.admitWith ⟨0x0310, [.device], .a, 48, 0, false⟩ h [] s.opHold
      (chk (decide (0x10 ≤ op) && decide (op ≤ 0x16)) .badParam 18 ++ chk (scalarOk op attr) .badParam 19
        ++ chk (decide (n = 0) || decide (offset % n = 0)) .badParam 27 ++ chk (!s.isLost h.part dst) .memberLost 16
        ++ chk (decide (n ≠ 16) || s.featureOn h.part dst 1) .badParam 19)
      (fun p t =>
        let o : RemOp :=
          { part := h.part, p := p, query := false, op := op, attr := attr, dst := dst, txid := (t.part h.part).txid,
            issue := t.now, obj := obj, gen := gen, offset := offset, data := leBytes 16 operand.toNat ++ leBytes 16 compare.toNat,
            sent := 1, src := none }
        ((t.takeTxid h.part).newOp o).cntr h.part 16 1))

/-- The protected reads of a source operand (R222). -/
def State.srcRead (p obj off n : Nat) (s : State) : State × Status := s.innerRead p (65536 * (s.obj p obj).first + off) n

/-- RACCUM (R222, R268, R270, R383): the source is read as protected accesses; `src` and `st` are what they return. -/
def execRaccum (h : Hdr) (dst op : Nat) (attr : BitVec 8) (obj gen offset srcObj srcGen srcOff : Nat) (src : List Byte)
    (st : Status) (s : State) : Ans :=
  .next (
    let size := (srcSize op (bits attr 1 0)).getD 0
    s.admitWith ⟨0x0311, [.device], .a, 28, 0, false⟩ h [srcObj] s.opHold
      (chk (decide (0x20 ≤ op) && decide (op ≤ 0x2D)) .badParam 18 ++ chk (vectorOk op attr) .badParam 19
        ++ chk (decide (offset % 256 = 0)) .badParam 27 ++ chk (decide (srcOff % 256 = 0)) .badParam 39
        ++ chk (decide (srcOff + size ≤ 65536 * (s.obj h.part srcObj).plots)) .badParam 39
        ++ s.handleFails h srcObj srcGen 32 ++ chk (!s.isLost h.part dst) .memberLost 16
        ++ chk (!srcMx op || s.featureOn h.part dst 0) .badParam 18)
      (fun p t =>
        let o : RemOp :=
          { part := h.part, p := p, query := false, op := op, attr := attr, dst := dst, txid := (t.part h.part).txid,
            issue := t.now, obj := obj, gen := gen, offset := offset, data := (padTo size src).take size, sent := 1,
            src := some srcObj }
        let (u, rd) := t.srcRead h.part srcObj srcOff size
        if firstBad rd st = .done then ((u.takeTxid h.part).newOp o).cntr h.part 16 1 else u.endsWith p (firstBad rd st)))

/-- OUTCOME_QUERY (R273, R383). -/
def execOutcomeQuery (h : Hdr) (dst : Nat) (txid : Word) (issue : Nat) (s : State) : Ans :=
  .next (s.admitCmd ⟨0x0312, [.device], .a, 16, 0, false⟩ h (chk (!s.isLost h.part dst) .memberLost 16)
    (fun p t => t.newOp
      { part := h.part, p := p, query := true, op := 0, attr := 0, dst := dst, txid := txid, issue := issue, obj := 0, gen := 0,
        offset := 0, data := [], sent := 1, src := none }))

/-- A remote operation of a partition by TXID. -/
def State.findOp (s : State) (p : Nat) (txid : Word) (query : Bool) : Option RemOp :=
  s.rem.ops.find? fun o => decide (o.part = p) && decide (o.txid = txid) && decide (o.query = query)

/-- RATOMIC_RETRY (R269, R270): no retry at or after 3 ms, and none while a STOP is ACTIVE (R139). -/
def execRatomicRetry (p : Nat) (txid : Word) (s : State) : Ans :=
  .next (
    match s.findOp p txid false with
    | some o => if s.elapsed p o.issue < 3000000 ∧ !s.stopped p then s.sendOp o true else s
    | none => s)

/-- RESULT of an INDETERMINATE completion: TXID and ISSUE, the inputs of OUTCOME_QUERY (R383). -/
def queryInputs (txid : Word) (issue : Nat) : BitVec 128 := BitVec.ofNat 128 (txid.toNat + issue % 2 ^ 64 * 2 ^ 32)

/-- A remote atomic or query completes (R270, R383). -/
def State.finishOp (o : RemOp) (st : Status) (outcome orig : Nat) (result : BitVec 128) (s : State) : State :=
  let ind := decide (st = .indeterminate) && !o.query
  let t := s.modRem fun r =>
    { r with ops := r.ops.erase o, indet := if ind then satAdd 255 r.indet 1 else r.indet }
  let res : BitVec 128 := if ind then queryInputs o.txid o.issue else if st = .done then result else 0
  ((when ind (State.cntr o.part 17 1) t).traceOp o true st outcome).complete
    [{ o.p.ends st with x := BitVec.ofNat 16 (outcome + orig * 256), result := res }]

/-- A command completed before its reply came: what a late reply is matched against (R420). -/
def State.keepPast (o : RemOp) (s : State) : State := s.modRem fun r => { r with past := (o.part, o.txid, o.p) :: r.past }

/-- RATOMIC_DEADLINE (R270): INDETERMINATE at 3 ms, MEMBER_LOST when the target has left the domain. -/
def execRatomicDeadline (p : Nat) (txid : Word) (s : State) : Ans :=
  .next (
    match s.findOp p txid false with
    | some o =>
      if s.stopped p then s
      else (s.finishOp o (if s.isLost p o.dst then .memberLost else .indeterminate) 3 0 0).keepPast o
    | none => s)

/-- OUTCOME_QUERY_RESEND (R383): once a second, for at most 10 s, a STOP not counted (R139). -/
def execOutcomeQueryResend (p : Nat) (txid : Word) (s : State) : Ans :=
  .next (
    match s.findOp p txid true with
    | some o =>
      if s.stopped p then s
      else if 10 ≤ o.sent then (s.finishOp o .indeterminate 3 0 0).keepPast o
      else
        let y := { o with sent := o.sent + 1 }
        (s.modRem fun r => { r with ops := r.ops.map fun z => if z = o then y else z }).sendOp y true
    | none => s)

/-- The flow of an answered request has one frame fewer outstanding (R325). -/
def State.flowAnswered (k p dst kind label : Nat) (s : State) : State :=
  s.flowLess k (flowBlock (s.memberOf p) dst p (tcOf kind) label 0)

/-- A frame whose status is BREACH is no frame that a block sends (R23): it is discarded and counted with the malformed ones (DESIGN
CHOICE, log entry 64). -/
def State.unlessBreach (k : Nat) (st : Status) (act : State → State) (s : State) : State :=
  if st = .breach then s.discard (rLnkErrFormat k) k else act s

/-- A reply or query reply at its requester (R270, R383): OUT_OF_SLOTS is transient; a late one is discarded with a record. -/
def State.applyReply (h : RxHdr) (r : RaRep) (si : Nat) (s : State) : State :=
  let p := si - 1
  if si = 0 ∨ r.dst ≠ s.memberOf p then s
  else match s.findOp p r.txid r.query with
    | some o =>
      if o.dst ≠ r.src then s
      else
        let t := s.flowAnswered h.port p o.dst o.kind o.obj
        if !r.query ∧ r.status = .outOfSlots then t
        else t.finishOp o r.status r.outcome (if r.query then stCode r.origStatus % 256 else 0)
          (if r.query ∨ o.op < 0x20 then r.result else 0)
    | none =>
      match s.rem.past.find? fun x => decide (x.1 = p) && decide (x.2.1 = r.txid) with
      | some x => s.fault p x.2.2.h.ctx 5 r.status 0 (x.2.2.h.seq.setWidth 64) 0 false
      | none => s

/-- RATOMIC_REPLY_RX (R270). -/
def execRatomicReplyRx (h : RxHdr) (r : RaRep) (s : State) : Ans :=
  .next (s.rx h (if r.query then 0x43 else 0x41) (.cmd (.ratomicReplyRx h r)) fun si =>
    State.unlessBreach h.port r.status (State.unlessBreach h.port r.origStatus (State.applyReply h r si)))

/-! M-instances (R271 to R274, R313). -/

/-- The memo entry of a transaction. -/
def State.memoOf (s : State) (dom : DWord) (src : Nat) (txid : Word) : Option Memo :=
  s.rem.memo.find? fun m => decide (m.domain = dom) && decide (m.src = src) && decide (m.txid = txid)

/-- Send a reply frame of an M-instance on the session that brought the request; its flow label is the object's ID (R323). -/
def State.sendReplyTo (k p kind label : Nat) (st : Status) (outcome orig src dst : Nat) (txid : Word) (exec : Nat) (result : BitVec 128)
    (s : State) : State :=
  s.enqueue k { si := 1 + p, kind := kind, tc := tcOf kind, retry := false, event := false, src := src, dst := dst, label := label,
                payload := replyBytes kind st outcome orig src dst txid exec result [] }

/-- Entries of the memo, with those that operations in progress will create (R271). -/
def State.memoUsed (s : State) : Nat :=
  let atomic (o : SaOp) : Bool := match o.dest with | .atomic _ _ _ => true | _ => false
  s.rem.memo.length + ((s.sg.merge.map fun m => (m.ops.filter atomic).length).sum
    + (s.sg.saQ.filter fun w => atomic w.op).length) + (s.rem.serves.filter fun x => x.r.write && x.res.isNone).length

/-- What the memo rules give for a request, in the order of R272: a reply, or `none` when it is to be executed. -/
def State.memoRule (s : State) (p : Nat) (dom : DWord) (src : Nat) (txid : Word) (issue : Nat) :
    Option (Status × Nat × Nat × BitVec 128) :=
  let el := s.elapsed p issue
  if s.pst p = 4 ∨ s.pst p = 5 then some (.fenced, 2, (s.part p).fenceAt, 0)
  else if issue < (s.part p).joinedAt then some (.indeterminate, 3, 0, 0)
  else match s.memoOf dom src txid with
    | some m => if m.executed then some (m.status, 1, m.exec, m.result) else some (.indeterminate, 2, 0, 0)
    | none =>
      if 3500000 < el then some (.indeterminate, 3, 0, 0)
      else if 262144 ≤ s.memoUsed then some (.outOfSlots, 2, 0, 0)
      else none

/-- Count what the memo rules refuse (SG0_MEMO_REFUSED). -/
def State.memoCount (st : Status) (outcome : Nat) (s : State) : State :=
  if st = .indeterminate ∧ outcome = 3 then s.modRem fun r => { r with late := satAdd 65535 r.late 1 }
  else if st = .outOfSlots then s.modRem fun r => { r with full := satAdd 65535 r.full 1 }
  else s

/-- The status of a remote access to `n` bytes of an object; its address, group, region, sector and slot when it may go on. The region's
entry is checked (R198). -/
def State.remotePlace (p obj gen offset n : Nat) (s : State) : State × Except Status (Nat × Nat × Nat × Nat × Nat) :=
  let x := s.obj p obj
  if obj = 0 ∨ s.ptCount p ≤ obj ∨ (x.st ≠ 0 ∧ x.system) then (s, .error .badParam)
  else if x.st ≠ 1 ∨ x.gen ≠ gen then (s, .error .staleObject)
  else if 65536 * x.plots < offset + n then (s, .error .badParam)
  else
    let a := 65536 * x.first + offset
    match s.groupFor a with
    | none => (s, .error .badParam)
    | some g =>
      match s.place g a with
      | .protectedAt e sect =>
        let (t, y) := s.useRegion e
        (t, if y.restoring ∨ y.st = 2 then .error .wilted
          else if y.st = 0 ∨ y.part ≠ p then .error .badParam
          else .ok (a, g, e, sect, y.slot))
      | _ => (s, .error .badParam)

/-- The checks of a remote atomic's own fields (R236, R237, R242, R247, R268). -/
def State.atomicOk (s : State) (p : Nat) (r : RaReq) : Bool :=
  let acc := bits r.attr 1 0
  r.resvOk
    && if r.op < 0x20 then
      scalarOk r.op r.attr && decide (r.data.length = 32) && decide (r.offset % max 1 (sizeBytes acc) = 0)
    else
      vectorOk r.op r.attr && decide (r.offset % 256 = 0) && decide (some r.data.length = srcSize r.op acc)
        && (!(bit r.attr 2 && accFloat acc) || (s.roundSeed p).isSome)

/-- The operation of a remote atomic as the merge buffer takes it. -/
def atomicOp (p g addr : Nat) (h : RxHdr) (r : RaReq) (dom : DWord) (mism : Nat) (round : Option (BitVec 256 × Word)) : SaOp :=
  let acc := bits r.attr 1 0
  let n := sizeBytes acc
  let pos := addr % 64
  let q : MnReq := { ownReq g addr r.op with addr := if r.op < 0x20 then addr / 64 * 64 else addr, len := 0, attr := if accFloat acc ∨ r.op < 0x20 then r.attr else r.attr &&& 0xFB#8 }
  if r.op < 0x20 then
    { q := q, data := BitVec.ofNat 2048 (ofLe (r.data.take n) * 2 ^ (8 * pos)
        + ofLe ((r.data.drop 16).take n) * 2 ^ (512 + 8 * pos)),
      be := BitVec.ofNat 256 ((2 ^ n - 1) * 2 ^ pos), part := p, mism := mism, reply := true, dest := .atomic h r dom,
      round := none }
  else
    { q := q, data := BitVec.ofNat 2048 (ofLe r.data), be := BitVec.ofNat 256 (2 ^ r.data.length - 1), part := p, mism := mism,
      reply := true, dest := .atomic h r dom, round := if bit q.attr 2 then round else none }

/-- An operation of the transaction is at a merge entry already, or waits for one. -/
def State.atomicRuns (s : State) (dom : DWord) (r : RaReq) : Bool :=
  ((s.sg.merge.map fun m => m.ops).flatten ++ s.sg.saQ.map fun w => w.op).any fun o =>
    match o.dest with
    | .atomic _ y d => decide (d = dom) && decide (y.src = r.src) && decide (y.txid = r.txid)
    | _ => false

/-- Execute a remote atomic in a sector group (R272): a refusal too is entered in the memo. -/
def State.runAtomic (p : Nat) (h : RxHdr) (r : RaReq) (dom : DWord) (mism : Nat) (s : State) : State :=
  let n := if r.op < 0x20 then sizeBytes (bits r.attr 1 0) else 256
  if !s.atomicOk p r then s.answerAtomic p h r dom .badParam 0
  else match s.remotePlace p r.obj r.gen r.offset n with
    | (t, .error st) => t.answerAtomic p h r dom st 0
    | (t, .ok (a, g, e, sect, slot)) =>
      if bit t.sg.saStop g then t.answerAtomic p h r dom .fenced 0
      else
        let (u, plot) := t.plotLook p a
        u.arith (atomicOp p g a h r dom mism (u.roundNow p)) e sect slot plot

/-- A remote atomic request (R272); only M-instances serve it. -/
def State.applyAtomic (h : RxHdr) (r : RaReq) (mism si : Nat) (s : State) : State :=
  let p := si - 1
  let reply (st : Status) (outcome exec : Nat) (result : BitVec 128) (t : State) : State :=
    t.sendReplyTo h.port p 0x41 r.obj st outcome 0 r.dst r.src r.txid exec result
  if si = 0 ∨ r.dst ≠ s.memberOf p then s
  else if s.params.profile ≠ .m then reply .badOpcode 2 0 0 s
  else
    let dom := s.domainOf p
    match s.memoRule p dom r.src r.txid r.issue with
    | some (st, oc, ex, res) => reply st oc ex res (s.memoCount st oc)
    | none => if s.atomicRuns dom r then s else s.runAtomic p h r dom mism

/-- RATOMIC_REQUEST_RX (R272). -/
def execRatomicRequestRx (h : RxHdr) (r : RaReq) (mism : Nat) (s : State) : Ans :=
  .next (s.rx h 0x40 (.cmd (.ratomicRequestRx h r mism)) (State.applyAtomic h r mism))

/-- An outcome query at an M-instance (R273). A query that would enter the memo while it is full gets INDETERMINATE with OUTCOME 3 and
enters nothing (the spec gives no case: DESIGN CHOICE, log entry 65). -/
def State.applyQuery (h : RxHdr) (r : RaReq) (si : Nat) (s : State) : State :=
  let p := si - 1
  let dom := s.domainOf p
  let el := s.elapsed p r.issue
  let reply (st : Status) (outcome orig exec : Nat) (result : BitVec 128) (t : State) : State :=
    t.sendReplyTo h.port p 0x43 r.obj st outcome orig r.dst r.src r.txid exec result
  if si = 0 ∨ r.dst ≠ s.memberOf p then s
  else if s.params.profile ≠ .m then reply .badOpcode 2 0 0 0 s
  else match s.memoOf dom r.src r.txid with
    | some m => if m.executed then reply .done 1 (stCode m.status) m.exec m.result s else reply .done 2 0 0 0 s
    | none =>
      if el ≤ 3500000 ∧ 262144 ≤ s.memoUsed then reply .indeterminate 3 0 0 0 s
      else if el ≤ 3500000 then
        reply .done 2 0 0 0 (s.memoAdd { domain := dom, src := r.src, txid := r.txid, issue := r.issue, exec := 0,
                                         status := .done, result := 0, executed := false })
      else if el ≤ 4000000 then reply .done 2 0 0 0 s
      else reply .indeterminate 3 0 0 0 s

/-- OUTCOME_QUERY_RX (R273). -/
def execOutcomeQueryRx (h : RxHdr) (r : RaReq) (s : State) : Ans :=
  .next (s.rx h 0x42 (.cmd (.outcomeQueryRx h r)) (State.applyQuery h r))

/-- MEMO_ENTRY_EXPIRE (R271): 4 ms of domain time, a STOP of the partition not counted. -/
def execMemoEntryExpire (domain : DWord) (src : Nat) (txid : Word) (s : State) : Ans :=
  .next (
    if (s.partOfDomain domain).any s.stopped then s
    else s.modRem fun r =>
      { r with memo := r.memo.filter fun m => decide (¬(m.domain = domain ∧ m.src = src ∧ m.txid = txid)) })

/-- Start the protected accesses of a remote read or write, or of a result chunk written (R267, R313): one per sector. -/
def State.startServe (p : Nat) (dom : DWord) (r : RwReq) (res : Option (Nat × Contrib)) (s : State) : State :=
  let no := s.rem.serveNo
  let first := r.offset / 256
  let count := (r.offset + r.length + 255) / 256 - first
  let t := s.modRem fun x =>
    { x with serveNo := no + 1,
             serves := x.serves ++ [{ no := no, part := p, domain := dom, r := r, left := count, st := .done, got := [], res := res }] }
  each (List.range count) (fun i u =>
    let lo := max r.offset (256 * (first + i))
    let hi := min (r.offset + r.length) (256 * (first + i) + 256)
    match u.remotePlace p r.obj r.gen lo (hi - lo) with
    | (v, .error st) => v.serveDone no st (256 * i) []
    | (v, .ok (a, g, e, sect, slot)) =>
      let q : MnReq := { ownReq g a (b2n r.write) with addr := a, len := (hi - lo) / 64 - 1, tag := 256 * i }
      let (d, be) := if r.write then layBytes (lo % 256) ((r.data.drop (lo - r.offset)).take (hi - lo)) else (0, 0)
      let kind : AccKind := if !r.write then .read else if be = BitVec.allOnes 256 then .full else .partW
      let (w, plot) := v.plotLook p a
      w.reach (Acc.mk0 kind (.remote no) q p e sect (w.lbn e sect) slot plot d be)) t

/-- A remote read or write request (R313, R389). -/
def State.applyRw (h : RxHdr) (r : RwReq) (si : Nat) (s : State) : State :=
  let p := si - 1
  let kind := if r.write then 0x23 else 0x21
  let reply (st : Status) (outcome exec : Nat) (t : State) : State :=
    t.sendReplyTo h.port p kind r.obj st outcome 0 r.dst r.src r.txid exec 0
  if si = 0 ∨ r.dst ≠ s.memberOf p then s
  else if s.params.profile ≠ .m then reply .badOpcode 2 0 s
  else
    let dom := s.domainOf p
    let ok := decide (r.offset % 64 = 0) && decide (r.length % 64 = 0) && decide (r.length ≤ 4048) && decide (0 < r.length)
      && decide (r.data.length = if r.write then r.length else 0)
    let fenced := decide (s.pst p = 4) || decide (s.pst p = 5)
    let go (t : State) : State × Status :=
      if ok then (match t.remotePlace p r.obj r.gen r.offset r.length with | (u, .ok _) => (u, .done) | (u, .error e) => (u, e))
      else (t, .badParam)
    if r.write then
      match s.memoRule p dom r.src r.txid r.issue with
      | some (st, oc, ex, _) => reply st oc ex (s.memoCount st oc)
      | none =>
        if s.rem.serves.any fun x => decide (x.domain = dom) && decide (x.r.src = r.src) && decide (x.r.txid = r.txid) then s
        else match go s with
          | (t, .done) => t.startServe p dom r none
          | (t, st) =>
            reply st 0 s.now (t.memoAdd { domain := dom, src := r.src, txid := r.txid, issue := r.issue, exec := s.now,
                                          status := st, result := 0, executed := true })
    else if fenced then reply .fenced 2 (s.part p).fenceAt s
    else match go s with
      | (t, .done) => t.startServe p dom r none
      | (t, st) => reply st 0 s.now t

/-- REMOTE_RW_REQUEST_RX (R313). -/
def execRemoteRwRequestRx (h : RxHdr) (r : RwReq) (s : State) : Ans :=
  .next (s.rx h (if r.write then 0x22 else 0x20) (.cmd (.remoteRwRequestRx h r)) (State.applyRw h r))

/-! Contributions at their sender (R384). -/

/-- Formats of a contribution (R260): integer or floating-point, and the bits of an element. -/
def fmtOk (f : Nat) : Bool := (decide (0x20 ≤ f) && decide (f ≤ 0x24)) || decide (f = 0x2C) || decide (f = 0x2D)
/-- OUT as a source format of a vector accumulate. -/
def outOp (o : Nat) : Nat :=
  if o = 0 then 0x20 else if o = 1 then 0x21 else if o = 2 then 0x22 else if o = 3 then 0x2C else 0x2D
/-- Bytes of a result element. -/
def outBytes (o : Nat) : Nat := srcBits (outOp o) / 8
/-- The destination accumulator format of MODE. -/
def modeAcc (c : Contrib) : Nat := bits c.mode 3 2

/-- The result chunk of a reduction satisfies R264. -/
def deliverOk (c : Contrib) : Bool :=
  if bit c.mode 1 then (srcSize (outOp c.out) (modeAcc c)).isSome && decide (c.chunkElems % accElems (modeAcc c) = 0)
  else decide (c.chunkElems * outBytes c.out % 256 = 0)

/-- A contribution header is as R260, R261 and R264 ask, as far as it can be judged alone. -/
def contribOk (c : Contrib) : Bool :=
  fmtOk c.fmt && decide (c.out ≤ 4) && decide (c.mode.toNat < 16) && decide (1 ≤ c.n) && decide (c.n ≤ 16383)
    && decide (c.cidx < c.n) && decide (1 ≤ c.total) && decide (c.total ≤ 65536) && decide (1 ≤ c.chunkElems)
    && decide (c.chunk < chunksOf c) && decide (c.count = chunkCount c c.chunk) && decide (srcInt c.fmt = decide (3 ≤ c.out))
    && deliverOk c

/-- Send a contribution. -/
def State.sendContrib (o : ContribOp) (retry : Bool) (s : State) : State :=
  s.sendTo o.part o.sw 0x50 (tcOf 0x50) retry (contribBytes o.c 0x50 o.c.cidx o.c.chunk o.c.count 0 ++ o.data)

/-- Trace kinds 0x06 and 0x07 of a contribution. -/
def State.traceContrib (o : ContribOp) (done : Bool) (st : Status) (s : State) : State :=
  s.trace o.part (if done then 7 else 6) (if done then stCode st else 0) (BitVec.ofNat 64 o.sw) false
    (BitVec.ofNat 64 (0x50 + o.c.rid.toNat * 2 ^ 16)) o.p.h.ctx

/-- REDUCE_CONTRIB (R222, R384): the source is read as protected accesses; `src` and `st` are what they return. -/
def execReduceContrib (h : Hdr) (kind : Nat) (c : Contrib) (sw srcObj srcGen srcOff : Nat) (src : List Byte) (st : Status) (s : State) : Ans :=
  .next (
    let n := c.count * srcBits c.fmt / 8
    s.admitWith ⟨0x0313, [.device], .a, 64, 1, false⟩ h [srcObj] none
      (chk (decide (kind = 0x50)) .badParam 16 ++ chk (contribOk c) .badParam 17
        ++ chk (decide (srcOff + n ≤ 65536 * (s.obj h.part srcObj).plots)) .badParam 75
        ++ s.handleFails h srcObj srcGen 68 ++ chk (!s.isLost h.part sw) .memberLost 64)
      (fun p t =>
        let o : ContribOp := { part := h.part, p := p, c := c, sw := sw, data := (padTo n src).take n, src := srcObj }
        let (u, rd) := t.srcRead h.part srcObj srcOff n
        if firstBad rd st = .done then
          ((u.modRem fun r => { r with contribs := r.contribs ++ [o] }).sendContrib o false).traceContrib o false .done
        else u.endsWith p (firstBad rd st)))

/-- A contribution awaiting its acknowledgement. -/
def State.findContrib (s : State) (p : Nat) (rid : Word) (cidx chunk : Nat) : Option ContribOp :=
  s.rem.contribs.find? fun o => decide (o.part = p) && decide (o.c.rid = rid) && decide (o.c.cidx = cidx) && decide (o.c.chunk = chunk)

/-- CONTRIBUTION_RESEND (R384). -/
def execContributionResend (p : Nat) (rid : Word) (cidx chunk : Nat) (s : State) : Ans :=
  .next (
    match s.findContrib p rid cidx chunk with
    | some o => if s.stopped p then s else s.sendContrib o true
    | none => s)

/-- An acknowledgement ends its contribution (R384); a late one is recorded (R420). -/
def State.applyAck (h : RxHdr) (c : Contrib) (st : Status) (si : Nat) (s : State) : State :=
  let p := si - 1
  match s.findContrib p c.rid c.cidx c.chunk with
  | some o =>
    if si = 0 then s
    else
      let t := s.flowLess h.port (flowBlock (s.memberOf p) (s.sess h.port si).peer p (tcOf 0x50) c.rid.toNat 0)
      ((t.modRem fun r => { r with contribs := r.contribs.erase o }).traceContrib o true st).complete [o.p.ends st]
  | none =>
    match s.rem.pastC.find? fun x => decide (x.1 = p) && decide (x.2.1.rid = c.rid) && decide (x.2.1.cidx = c.cidx)
        && decide (x.2.1.chunk = c.chunk) with
    | some x => s.fault p x.2.2.h.ctx 5 st 0 (x.2.2.h.seq.setWidth 64) 0 false
    | none => s

/-- CONTRIBUTION_ACK_RX (R262). -/
def execContributionAckRx (h : RxHdr) (c : Contrib) (st : Status) (s : State) : Ans :=
  .next (s.rx h 0x51 (.cmd (.contributionAckRx h c st)) fun si => State.unlessBreach h.port st (State.applyAck h c st si))

/-! The reduction pool (R259 to R267). -/

/-- An accumulator at zero (R261). -/
def Accum.zero : Accum := { v := 0, nan := false, pinf := false, ninf := false }

/-- Add one element of a contribution (R263). -/
def Accum.add (fmt : Nat) (rounded : Bool) (code : Nat) (a : Accum) : Accum :=
  if srcInt fmt then { a with v := a.v + BitVec.ofInt 320 (signedOf (srcBits fmt) code) }
  else
    let x := (srcFmt fmt).decode 149 127 code
    if rounded then
      { a with v := BitVec.ofNat 320 (fmtFp32.encode 149 .even ((fmtFp32.decode 149 127 (a.v.toNat % 2 ^ 32)).add x)) }
    else match x with
      | .nan => { a with nan := true }
      | .inf neg => if neg then { a with ninf := true } else { a with pinf := true }
      | .fin neg m => { a with v := if neg then a.v - BitVec.ofNat 320 m else a.v + BitVec.ofNat 320 m }

/-- Round an accumulator once to OUT (R264). -/
def Accum.result (c : Contrib) (a : Accum) : Nat :=
  if srcInt c.fmt then
    let w := 8 * outBytes c.out
    let x := max (-(2 ^ (w - 1) : Int)) (min (2 ^ (w - 1) - 1) a.v.toInt)
    (x % (2 ^ w : Int)).toNat
  else
    let f := srcFmt (outOp c.out)
    if bit c.mode 0 then f.encode 149 .even (fmtFp32.decode 149 127 (a.v.toNat % 2 ^ 32))
    else if a.nan ∨ (a.pinf ∧ a.ninf) then f.qnan
    else if a.pinf then f.infBits false
    else if a.ninf then f.infBits true
    else f.round 149 .even (decide (a.v.toInt < 0)) a.v.toInt.natAbs

/-- The bytes of a chunk's result. -/
def Reduction.chunkData (x : Reduction) (k : Nat) : List Byte :=
  ((List.range (chunkCount x.hdr k)).map fun i =>
    leBytes (outBytes x.hdr.out) (((x.accs.getD (k * x.hdr.chunkElems + i) Accum.zero).result x.hdr))).flatten

/-- Fields that the opening contribution fixes (R261). -/
def sameReduction (a b : Contrib) : Bool :=
  decide ({ a with cidx := 0, chunk := 0, count := 0 } = { b with cidx := 0, chunk := 0, count := 0 })

/-- RP_QUOTAp. -/
def State.rpQuota (s : State) (p : Nat) : Nat := min 65536 (s.fld (rRpQuota p) 16 0)

/-- There is room to open a reduction (R259). -/
def State.poolRoom (s : State) (p : Nat) (c : Contrib) : Bool :=
  let used (l : List Reduction) : Nat := (l.map fun x => x.hdr.total).sum
  let bitsOf (x : Contrib) : Nat := x.n * chunksOf x
  decide (s.rem.pool.length < 1024)
    && decide (used s.rem.pool + c.total ≤ 65536)
    && decide (used (s.rem.pool.filter fun x => decide (x.part = p)) + c.total ≤ s.rpQuota p)
    && decide ((s.rem.pool.map fun x => bitsOf x.hdr).sum + bitsOf c ≤ 8388608)

/-- Acknowledge a contribution (R262). -/
def State.ackContrib (p src : Nat) (c : Contrib) (st : Status) (s : State) : State :=
  s.sendTo p src 0x51 (tcOf 0x51) false (contribBytes c 0x51 c.cidx c.chunk c.count (stCode st))

/-- An open reduction of a partition. -/
def State.reduction (s : State) (p : Nat) (rid : Word) : Option Reduction :=
  s.rem.pool.find? fun x => decide (x.part = p) && decide (x.hdr.rid = rid)

/-- The accumulators after a contribution's elements. -/
def Reduction.apply (x : Reduction) (c : Contrib) (elems : List Byte) : List Accum :=
  let w := srcBits c.fmt
  let all := ofLe elems
  x.accs.zipIdx.map fun y =>
    let i := y.2 - c.chunk * c.chunkElems
    if c.chunk * c.chunkElems ≤ y.2 ∧ i < c.count then y.1.add c.fmt (bit c.mode 0) (all / 2 ^ (w * i) % 2 ^ w) else y.1

/-- A second residue mismatch resets the pool: every open reduction is discarded, its destinations get FENCED (R258). -/
def State.poolReset (s : State) : State :=
  let t := each s.rem.pool (fun x => State.endReduction .fenced x) s
  ((t.modRem fun r => { r with pool := [] }).flag rRpStatus 31).count rRstCount 15 8 1

/-- Mismatches of the pool are counted, each with a press record whose ADDR names the operation by its RID and chunk; the requester of a
second one gets FENCED (R257, R258, R525). -/
def State.poolMismatch (p : Nat) (c : Contrib) (n : Nat) (s : State) : State :=
  each ([Status.done, .fenced].take n) (fun st t =>
    ((t.modRem fun r => { r with rpRetries := satAdd 255 r.rpRetries 1 }).glob 36 1).press 12 st (some p)
      (c.rid.toNat + c.chunk * 2 ^ 32)) s

/-- A contribution that is applied (R262 to R264). -/
def State.applyElems (p src : Nat) (x : Reduction) (c : Contrib) (elems : List Byte) (s : State) : State :=
  let y := { x with accs := x.apply c elems, ledger := (c.cidx, c.chunk) :: x.ledger,
                    members := if x.members.any fun m => decide (m.1 = src) then x.members else x.members ++ [(src, c.cidx)] }
  let t := (s.wants [110, 111, 112, 113]).ackContrib p src c .done
  if (List.range c.n).all fun i => y.ledger.contains (i, c.chunk) then
    let (u, z) := t.sendChunk y c.chunk .done (y.chunkData c.chunk)
    u.putReduction z
  else t.putReduction y

/-- A contribution at the pool (R259 to R264). -/
def State.applyContrib (h : RxHdr) (src : Nat) (c : Contrib) (elems : List Byte) (mism si : Nat) (s : State) : State :=
  let p := si - 1
  let opening := s.reduction p c.rid
  let fits := contribOk c && decide (elems.length = c.count * srcBits c.fmt / 8)
  if si = 0 ∨ s.params.profile ≠ .s then s
  else if s.pst p = 4 ∨ s.pst p = 5 then s.ackContrib p src c .fenced
  else if !fits ∨ (opening.any fun x => !sameReduction x.hdr c) then s.ackContrib p src c .badParam
  else match opening with
    | some x =>
      if x.ledger.contains (c.cidx, c.chunk) then s.ackContrib p src c .done
      else if x.ended then s.ackContrib p src c .memberLost
      else if 2 ≤ mism then ((s.poolMismatch p c 2).ackContrib p src c .fenced).poolReset
      else (s.poolMismatch p c mism).applyElems p src x c elems
    | none =>
      if !s.poolRoom p c then s.ackContrib p src c .outOfSlots
      else if 2 ≤ mism then ((s.poolMismatch p c 2).ackContrib p src c .fenced).poolReset
      else
        (s.poolMismatch p c mism).applyElems p src
          { part := p, hdr := c, accs := List.replicate c.total Accum.zero, ledger := [], members := [], sent := [], done := [],
            ended := false } c elems

/-- CONTRIBUTION_RX (R261). -/
def execContributionRx (h : RxHdr) (src : Nat) (c : Contrib) (elems : List Byte) (mism : Nat) (s : State) : Ans :=
  .next (s.rx h 0x50 (.cmd (.contributionRx h src c elems mism)) (State.applyContrib h src c elems mism))

/-- REDUCTION_TIMEOUT (R266): an open reduction that has not completed is ended. -/
def execReductionTimeout (p : Nat) (rid : Word) (s : State) : Ans :=
  .next (
    match s.reduction p rid with
    | some x => if s.stopped p ∨ x.ended then s else s.endReduction .memberLost x
    | none => s)

/-- A destination acknowledges a chunk (R267): OUT_OF_SLOTS is transient, any other status completes it there. -/
def Reduction.acked (x : Reduction) (src k : Nat) : Reduction :=
  let sent := x.sent.map fun y => if y.1 = k then (y.1, y.2.1.filter (fun d => decide (d ≠ src)), y.2.2) else y
  { x with sent := sent.filter (fun y => !y.2.1.isEmpty),
           done := x.done ++ (sent.filter fun y => y.2.1.isEmpty).map fun y => y.1 }

/-- An acknowledgement of a result chunk. -/
def State.applyResultAck (h : RxHdr) (src : Nat) (c : Contrib) (st : Status) (si : Nat) (s : State) : State :=
  let p := si - 1
  if si = 0 then s
  else match s.reduction p c.rid with
    | some x =>
      let t := s.flowLess h.port (flowBlock (s.memberOf p) (s.sess h.port si).peer p (tcOf 0x52) c.rid.toNat 0)
      if st = .outOfSlots then t else t.putReduction (x.acked src c.chunk)
    | none => s

/-- RESULT_ACK_RX (R267). -/
def execResultAckRx (h : RxHdr) (src : Nat) (c : Contrib) (st : Status) (s : State) : Ans :=
  .next (s.rx h 0x53 (.cmd (.resultAckRx h src c st)) fun si => State.unlessBreach h.port st (State.applyResultAck h src c st si))

/-- RESULT_CHUNK_RESEND (R267): none at or after 3 ms from the first send, a STOP not counted. -/
def execResultChunkResend (p : Nat) (rid : Word) (chunk : Nat) (s : State) : Ans :=
  .next (
    match s.reduction p rid with
    | some x =>
      match x.sent.find? fun y => decide (y.1 = chunk) with
      | some y =>
        if s.stopped p ∨ 3000000 ≤ s.elapsed p y.2.2.2 then s
        else each y.2.1 (fun d => State.sendTo p d 0x52 (tcOf 0x52) true
          (contribBytes x.hdr 0x52 0 chunk (chunkCount x.hdr chunk) (stCode y.2.2.1)
            ++ if y.2.2.1 = .done then x.chunkData chunk else [])) s
      | none => s
    | none => s)

/-- RESULT_CHUNK_GIVE_UP (R267). -/
def execResultChunkGiveUp (p : Nat) (rid : Word) (chunk : Nat) (s : State) : Ans :=
  .next (
    match s.reduction p rid with
    | some x =>
      if (x.sent.any fun y => decide (y.1 = chunk)) ∧ !s.stopped p then
        ((s.modRem fun r => { r with givenUp := satAdd 65535 r.givenUp 1 }).press 12 .done (some p) chunk).putReduction
          { x with sent := x.sent.filter (fun y => decide (y.1 ≠ chunk)), done := x.done ++ [chunk] }
      else s
    | none => s)

/-! Result chunks at their destination (R267). -/

/-- Acknowledge a result chunk without applying it. -/
def State.ackResult (p sw : Nat) (c : Contrib) (st : Status) (s : State) : State :=
  s.sendTo p sw 0x53 (tcOf 0x53) false (contribBytes c 0x53 0 c.chunk c.count (stCode st))

/-- Apply a result chunk as vector accumulates with round-to-nearest-even (R264). -/
def State.startAccum (p : Nat) (dom : DWord) (sw : Nat) (c : Contrib) (data : List Byte) (mism : List Nat) (s : State) : State :=
  let acc := modeAcc c
  let op := outOp c.out
  let n := accElems acc
  let size := (srcSize op acc).getD 1
  let count := (c.count + n - 1) / n
  let no := s.rem.serveNo
  let r : RwReq := { write := true, src := sw, dst := 0, txid := c.rid, issue := 0, obj := c.destObj, gen := c.destGen,
                     offset := 0, length := 0, data := [] }
  let t := s.modRem fun x =>
    { x with serveNo := no + 1,
             serves := x.serves ++ [{ no := no, part := p, domain := dom, r := r, left := count, st := .done, got := [],
                                      res := some (sw, c) }] }
  each (List.range count) (fun i u =>
    let bs := (data.drop (size * i)).take size
    match u.remotePlace p c.destObj c.destGen (256 * (c.destSect + c.chunk * c.chunkElems / n + i)) 256 with
    | (v, .error st) => v.serveDone no st 0 []
    | (v, .ok (a, g, e, sect, slot)) =>
      if bit v.sg.saStop g then v.serveDone no .fenced 0 []
      else
        let (w, plot) := v.plotLook p a
        w.arith { q := { ownReq g a op with len := 0, attr := BitVec.ofNat 8 acc }, data := BitVec.ofNat 2048 (ofLe bs),
                  be := BitVec.ofNat 256 (2 ^ bs.length - 1), part := p, mism := mism.getD i 0, reply := true, dest := .serve no 0,
                  round := none } e sect slot plot) t

/-- A result chunk reaches its destination (R266, R267). -/
def State.applyResult (h : RxHdr) (sw : Nat) (c : Contrib) (st : Status) (data : List Byte) (mism : List Nat) (si : Nat) (s : State) :
    State :=
  let p := si - 1
  let dom := s.domainOf p
  if si = 0 ∨ s.params.sgCount = 0 then s
  else match s.rem.resLed.find? fun x => decide (x.domain = dom) && decide (x.sw = sw) && decide (x.rid = c.rid)
      && decide (x.chunk = c.chunk) with
    | some x => if s.pst p = 4 ∨ s.pst p = 5 then s.ackResult p sw c .fenced else s.ackResult p sw c x.status
    | none =>
      if s.pst p = 4 ∨ s.pst p = 5 then s.ackResult p sw c .fenced
      else if s.rem.serves.any fun x => decide (x.domain = dom) && (x.res.any fun y => decide (y.1 = sw) && decide (y.2.rid = c.rid)
          && decide (y.2.chunk = c.chunk)) then s
      else if 16384 ≤ s.rem.resLed.length + (s.rem.serves.filter fun x => x.res.isSome).length then s.ackResult p sw c .outOfSlots
      else if st ≠ .done then
        (s.fault p 0xFFFF 4 st 0 (BitVec.ofNat 64 (c.rid.toNat + c.chunk * 2 ^ 32)) 0 false).resultDone p dom sw c .done
      else if !contribOk { c with cidx := 0 } ∨ data.length ≠ c.count * outBytes c.out then s.resultDone p dom sw c .badParam
      else if bit c.mode 1 then s.startAccum p dom sw c data mism
      else
        s.startServe p dom { write := true, src := sw, dst := 0, txid := c.rid, issue := 0, obj := c.destObj, gen := c.destGen,
                             offset := 256 * c.destSect + c.chunk * c.chunkElems * outBytes c.out, length := data.length,
                             data := data } (some (sw, c))

/-- RESULT_CHUNK_RX (R267). `mism` is what the residue checks find in the vector accumulates, one after the other (R257). -/
def execResultChunkRx (h : RxHdr) (sw : Nat) (c : Contrib) (st : Status) (data : List Byte) (mism : List Nat) (s : State) : Ans :=
  .next (s.rx h 0x52 (.cmd (.resultChunkRx h sw c st data mism)) fun si =>
    State.unlessBreach h.port st (State.applyResult h sw c st data mism si))

/-- RESULT_LEDGER_EXPIRE (R267): 4 ms of domain time, a STOP of the partition not counted. -/
def execResultLedgerExpire (domain : DWord) (sw : Nat) (rid : Word) (chunk : Nat) (s : State) : Ans :=
  .next (
    if (s.partOfDomain domain).any s.stopped then s
    else s.modRem fun r =>
      { r with resLed := r.resLed.filter fun x =>
          decide (¬(x.domain = domain ∧ x.sw = sw ∧ x.rid = rid ∧ x.chunk = chunk)) })

end Sys2Proof.Machine
end

