-- ==== Sys2Proof/Machine/Time.lean ====
section
/-!
DEFINITION. Domain time (R59, R105 to R121): enable, TREF, the PTP messages and their timestamps, the servo, the lock states.
-/
namespace Sys2Proof.Machine

/-! Units: PTP times are in 2^-16 ns. -/

/-- Domain time in 2^-16 ns. -/
def State.fine (s : State) : Int := Int.ofNat (s.dtFine / 2 ^ 24)

/-- A number of nanoseconds in 2^-16 ns. -/
def nsFine (n : Int) : Int := n * 65536

/-- Domain time enters a state (R117, R120); entering LOCKED, partitions that wait for it may join (R120, R442). -/
def State.dtTo (st : Nat) (s : State) : State :=
  let t := s.dtEnter st
  if st = 2 ∧ s.dt.st ≠ 2 then each parts16 State.tryJoin t else t

/-! Enable and disable (R108, R113, R117). -/

/-- A grandmaster starts: LOCKED, the counter loads DT_SET, nominal rate (R113, R117). -/
def State.dtLoad (s : State) : State :=
  (s.modDt fun d =>
    { d with cnt := BitVec.ofNat 104 (s.pair rDtSet * 2 ^ 40), edge := s.sg.clk, rate := 0x066666666666, slew := 0, slave := 31,
             steps := 0 }).dtTo 2

/-- ENABLE has been written 1 (R117): a grandmaster without TREF stays OFF. -/
def State.dtStart (s : State) : State :=
  if bit (s.reg rDtCtrl) 1 then (if s.dt.trefLost then s else s.dtLoad) else s.dtTo 1

/-- Domain time returns to OFF with the counter at 0 (R108, R117). -/
def State.dtStop (s : State) : State :=
  (s.dtTo 0).modDt fun d =>
    { d with cnt := 0, rate := 0x066666666666, slew := 0, frac := 0, steps := 0, slave := 31, offset := 0, takeover := false,
             ptp := [] }

/-- DT_CTRL is written (R15, R117): while ENABLE is 1 a change of GM or GM_BACKUP is refused with BUSY_STATIC; a write of ENABLE 1 in OFF
starts domain time. -/
def State.dtCtrl (enable gm backup : Bool) (s : State) : State :=
  let on := bit (s.reg rDtCtrl) 0
  let w := putB 1 gm ||| putB 2 backup
  let t :=
    if on ∧ s.reg rDtCtrl &&& 6 ≠ w then s.flag rDtStatus 6
    else s.setReg rDtCtrl ((s.reg rDtCtrl &&& 1) ||| w)
  if enable ∧ (!on ∨ t.dt.st = 0) then (t.setReg rDtCtrl (t.reg rDtCtrl ||| 1)).dtStart
  else if !enable ∧ on then (t.setReg rDtCtrl (t.reg rDtCtrl &&& 6)).dtStop
  else t

/-- DT_ENABLE (R117). -/
def execDtEnable (rq : Rq) (gm backup : Bool) (s : State) : Ans := .next (s.ctlWrite rq (State.dtCtrl true gm backup))

/-- DT_DISABLE (R117): ENABLE is written 0 and the other fields keep their values. -/
def execDtDisable (rq : Rq) (s : State) : Ans :=
  .next (s.ctlWrite rq (fun t => t.dtCtrl false (bit (t.reg rDtCtrl) 1) (bit (t.reg rDtCtrl) 2)))

/-! Holdover (R117, R118, R121). -/

/-- SYNC_TIMEOUT (R117): no Sync from the followed port for four intervals. -/
def execSyncTimeout (s : State) : Ans := .next (if s.dt.st = 2 ∧ s.dt.slave ≠ 31 then s.dtTo 3 else s)

/-- HOLDOVER_LIMIT_EXPIRE (R117). -/
def execHoldoverLimitExpire (s : State) : Ans := .next (if s.dt.st = 3 then s.dtTo 4 else s)

/-- HOLDOVER_BOUND_EXPIRE (R121): BOUND and DT_BCAST_LOCK fall. -/
def execHoldoverBoundExpire (s : State) : Ans :=
  .next (if s.dt.st = 3 then s.modDt fun d => { d with bound := false } else s)

/-- BACKUP_GM_TAKEOVER (R115): a backup grandmaster with no followable port for 1 s; the counter goes on without a step. R117
gives this no change of state. -/
def execBackupGmTakeover (s : State) : Ans :=
  .next (
    if s.dt.st ≠ 0 ∧ bit (s.reg rDtCtrl) 2 ∧ !bit (s.reg rDtCtrl) 1 ∧ s.followable = none then
      s.modDt fun d => { d with takeover := true, slave := 31, steps := 0 }
    else s)

/-! PTP messages sent (R110, R112). -/

/-- clockIdentity (R110): bytes 0 to 7 of the SHA-384 hash of the device identity's P-384 public key. -/
def State.clockIdentity (s : State) : List Byte :=
  (beBytes 48 (Config.sha384 (Config.p384Public (p384Key (s.slot 1).value))).toNat).take 8

/-- A time in the ARB timescale (R110): seconds, nanoseconds, and the 16-bit fraction that correctionField carries. -/
def arbTime (t : Int) : List Nat :=
  let n := t.toNat
  [n / 65536 / 10 ^ 9, n / 65536 % 10 ^ 9, n % 65536]

/-- The PTP frame of a message on a port's block-owned session (R110, R307): domainNumber 0, sdoId 0, the clockIdentity with the port's
number, a time, and two numbers (an Announce's stepsRemoved and state). An event message is marked for its timestamp. -/
def State.ptpFrame (s : State) (k : Nat) (event : Bool) (code seq : Nat) (time : Int) (a b : Nat) : EgFrame :=
  { si := 0, kind := 0x13, tc := 0, retry := false, event := event, src := 0, dst := 0, label := 4 * seq + code,
    payload := [0x13, 0, 0, 0] ++ Config.ptpBody code ([0, 0, seq, k + 1] ++ arbTime time ++ [a, b]) s.clockIdentity }

/-- Send a PTP message on a port whose block-owned session is OPEN. -/
def State.ptpSend (k : Nat) (event : Bool) (code seq : Nat) (time : Int) (a b : Nat) (s : State) : State :=
  if (s.sess k 0).st = 3 then s.enqueue k (s.ptpFrame k event code seq time a b) else s

/-- The ports that a role picks. -/
def State.ptpPorts (s : State) (f : Nat → Bool) : List Nat :=
  if s.dt.st = 0 then [] else s.ports.filter fun k => f (s.fld (rDtPortCfg k) 1 0)

/-- The next sequence number of a port is used. -/
def State.ptpNext (k : Nat) (s : State) : State := s.modPtp k fun y => { y with seq := (y.seq + 1) % 65536 }

/-- SYNC_INTERVAL (R110): a Sync on each master port; its Follow_Up goes when the timestamp is complete. -/
def execSyncInterval (s : State) : Ans :=
  .next (each (s.ptpPorts fun r => decide (r = 1))
    (fun k t => (t.ptpSend k true 1 (t.ptp k).seq 0 0 0).ptpNext k) s)

/-- PDELAY_REQ_INTERVAL (R110): a Pdelay_Req on each port that is not DISABLED; a new exchange begins. -/
def execPdelayReqInterval (s : State) : Ans :=
  .next (each (s.ptpPorts fun r => decide (r ≠ 0))
    (fun k t =>
      ((t.ptpSend k true 2 (t.ptp k).seq 0 0 0).modPtp k fun y => { y with t1 := none, t2 := none, t4 := none }).ptpNext k) s)

/-- ANNOUNCE_INTERVAL (R110, R113): an Announce with the own stepsRemoved and lock state on each master port. -/
def execAnnounceInterval (s : State) : Ans :=
  .next (each (s.ptpPorts fun r => decide (r = 1))
    (fun k t => (t.ptpSend k false 6 (t.ptp k).seq 0 t.dt.steps t.dt.st).ptpNext k) s)

/-- TX_TIMESTAMP_RETURN (R78, R112): the MAC returns the latency of the oldest marked frame, in 1/256 ns; the message's own
follow-up goes, or the exchange's t1 is known. A return shows that the frame's SOF beat has gone. -/
def execTxTimestampReturn (k : Nat) (lat : Int) (s : State) : Ans :=
  .next (
    match (s.ptp k).txMarks with
    | [] => s
    | (label, at_) :: rest =>
      let tx := at_.getD s.fine + (Int.ofNat (s.fld (rDtPortLat k) 15 0) + lat) * 256
      let t := s.modPtp k fun y => { y with txMarks := rest }
      let seq := label / 4
      if label % 4 = 1 then t.ptpSend k false 4 seq tx 0 0
      else if label % 4 = 2 then t.modPtp k fun y => { y with t1 := some (seq, tx) }
      else t.ptpSend k false 5 seq tx 0 0)

/-- TX_TIMESTAMP_TIMEOUT (R78, R112): the sample is dropped and counted; its exchange is not used. -/
def execTxTimestampTimeout (k : Nat) (s : State) : Ans :=
  .next (
    match (s.ptp k).txMarks with
    | [] => s
    | _ :: rest => (s.modPtp k fun y => { y with txMarks := rest }).modDt fun d => { d with tsDropped := d.tsDropped + 1 })

/-! The servo and the lock states (R107, R114, R117, R120). -/

/-- 200 ppm of the nominal rate (R114). -/
def rateSpan : Nat := nominalRate * 200 / 1000000

/-- The servo sets the rate within ±200 ppm and the slew within ±300 ppm (R114); its gains are not specified, so the values are
free within those bounds. -/
def State.servo (s : State) : State :=
  (s.modDt fun d =>
    { d with rate := nominalRate - rateSpan + Config.servoRate s.fresh % (2 * rateSpan + 1),
             slew := Int.ofNat (Config.servoSlew s.fresh % 601) - 300 }).used

/-- The counter is stepped by an amount in 2^-16 ns. -/
def State.dtStep (d : Int) (s : State) : State :=
  s.modDt fun x => { x with cnt := BitVec.ofInt 104 (Int.ofNat x.cnt.toNat + d * 2 ^ 24) }

/-- Runs of offsets within 4 ns, of a LOCKED parent and of any, and outside 10 ns (R117). -/
def State.dtRuns (off : Int) (parentLocked : Bool) (s : State) : State :=
  s.modDt fun d =>
    { d with runIn := if parentLocked ∧ off.natAbs ≤ 4 * 65536 then d.runIn + 1 else 0,
             runNear := if off.natAbs ≤ 4 * 65536 then d.runNear + 1 else 0,
             runOut := if 10 * 65536 < off.natAbs then d.runOut + 1 else 0 }

/-- An offset from the followed parent has been measured (R114, R117, R120). A step needs ACQUIRING and that LOCKED has not been entered
since the reset: R107 bounds R114, and a backup that took over while it was ACQUIRING steps by R114 where R115 says that it slews
(DEDUCED, log entry 55). -/
def State.dtOffset (off : Int) (parentLocked : Bool) (s : State) : State :=
  let t := s.modDt fun d => { d with offset := off / 256 }
  let u := when (t.dt.everLocked && decide (nsFine 100000 < (off.natAbs : Int))) (State.flag rDtStatus 5) t
  if u.dt.st = 1 ∧ nsFine 1000 < (off.natAbs : Int) ∧ !u.dt.everLocked then
    (u.dtStep (-off)).modDt fun d => { d with runIn := 0, runNear := 0 }
  else
    let v := (u.servo).dtRuns off parentLocked
    if (v.dt.runIn ≥ 16 ∧ (v.dt.st = 1 ∨ v.dt.st = 4)) ∨ (v.dt.runNear ≥ 16 ∧ v.dt.st = 3 ∧ !v.dt.trefLost) then v.dtTo 2
    else if v.dt.runOut ≥ 4 ∧ v.dt.st = 2 then v.dtTo 4
    else v

/-- A PTP message has verified on a port's block-owned session (R110 to R114). `rx` is its corrected receive time. -/
def State.ptpTake (k : Nat) (rx : Int) (m : PtpKind) (s : State) : State :=
  let y := s.ptp k
  match m with
  | .sync q => s.modPtp k fun y => { y with syncRx := some (q, rx) }
  | .followUp q origin corr =>
    if s.dt.slave = k ∧ y.syncRx.any (fun x => decide (x.1 = q)) then
      let off := (y.syncRx.elim 0 fun x => x.2) - (origin + corr) - y.delay
      (s.modPtp k fun y => { y with syncRx := none }).dtOffset off y.locked
    else s
  | .pdelayReq q => s.ptpSend k true 3 q rx 0 0
  | .pdelayResp q t2 =>
    if y.t1.any fun x => decide (x.1 = q) then s.modPtp k fun y => { y with t2 := some t2, t4 := some rx } else s
  | .pdelayRespFu q t3 =>
    match y.t1, y.t2, y.t4 with
    | some (n, t1), some t2, some t4 =>
      if n = q then s.modPtp k fun y => { y with delay := ((t4 - t1) - (t3 - t2)) / 2, t1 := none, t2 := none, t4 := none }
      else s
    | _, _, _ => s
  | .announce steps locked =>
    (s.modPtp k fun y => { y with announced := true, steps := steps, locked := locked }).reselect
  | .other => s

/-- The message is a PTP event message, whose frame carries EVENT (R112, R305, R307). -/
def ptpEvent : PtpKind → Bool
  | .sync _ => true
  | .pdelayReq _ => true
  | .pdelayResp _ _ => true
  | _ => false

/-- PTP_MESSAGE (R110 to R114), with the EVENT flag that its message has (R307): only of the block-owned session, of domainNumber 0 and sdoId 0, and of the messages in use; every other
is discarded and counted. -/
def execPtpMessage (h : RxHdr) (m : PtpKind) (domainNumber sdoId : Nat) (tsadj : Int) (s : State) : Ans :=
  .next (s.rx h (if h.cover || decide (h.event = ptpEvent m) then 0x13 else 0) (.cmd (.ptpMessage h m domainNumber sdoId tsadj)) (fun si t =>
    if si ≠ 0 ∨ domainNumber ≠ 0 ∨ sdoId ≠ 0 ∨ m = .other then t.ptpIgnore
    else if t.dt.st = 0 ∨ t.fld (rDtPortCfg h.port) 1 0 = 0 then t
    else t.ptpTake h.port (t.fine - (Int.ofNat (t.fld (rDtPortLat h.port) 31 16) + tsadj) * 256) m))

end Sys2Proof.Machine
end

