-- ==== Sys2Proof/Machine/Keys.lean ====
section
/-!
DEFINITION. The key store's commands and events (R141 to R184): control slots, wrapping, the control cipher engine, attestation
records, re-sealing, the random source and the public-key engine.
-/
namespace Sys2Proof.Machine

/-! Random draws (R181, R182). -/

/-- A generate request has been served; the DRBG reseeds after 4,096 of them (R182). -/
def State.drawn (s : State) : State :=
  (s.used).modKey fun k =>
    if 4096 ≤ k.draws then { k with draws := 1, reseeds := satAdd 65535 k.reseeds 1 } else { k with draws := k.draws + 1 }

/-- A generate request with prediction resistance has been served: the DRBG reseeds first (R182). -/
def State.drawnPr (s : State) : State :=
  (s.used).modKey fun k => { k with draws := 1, reseeds := satAdd 65535 k.reseeds 1 }

/-- A request that needs randomness waits until the start-up test has passed (R181). -/
def State.rngHold (s : State) : Option Nat := if s.key.rngReady then none else some 0

/-- RNG_STARTUP_PASS (R181). -/
def execRngStartupPass (s : State) : Ans :=
  .next (if s.service = .off then s else s.modKey fun k => { k with rngReady := true })

/-- HEALTH_TEST_WINDOW (R183): 16 failed windows in a row are a critical-state error. -/
def execHealthTestWindow (pass : Bool) (s : State) : Ans :=
  .next (
    if s.service = .off then s
    else if pass then s.modKey fun k => { k with failRun := 0 }
    else
      let n := satAdd 16 s.key.failRun 1
      let t := s.modKey fun k => { k with failRun := n, failTotal := satAdd 255 k.failTotal 1 }
      if n = 16 ∧ !s.key.rngFailed then (t.modKey fun k => { k with rngFailed := true }).critical 2 .done none 0 else t)

/-- DRBG_RESEED (R182): 100 ms have passed; after 4,096 requests the next one reseeds by itself. -/
def execDrbgReseed (s : State) : Ans :=
  .next (
    if s.key.rngReady then s.modKey fun k => { k with reseeds := satAdd 65535 k.reseeds 1, draws := 0 } else s)

/-! Slot life (R147 to R149). -/

/-- SLOT_RETIRE_COMPLETE (R147, R149, R151): no use is outstanding and no cache entry was made from the slot, and Tolaro has booted; a
read-back that differs from zeros is a critical-state error. -/
def execSlotRetireComplete (slot : Nat) (readBack : Bool) (ecc : Ecc) (s : State) : Ans :=
  .next (
    if (s.slot slot).st = 2 ∧ !s.slotBusy slot ∧ s.boot.phase = .ready then
      s.eccRead ecc slot (fun t =>
        if readBack then t.finishRetire slot
        else t.critical 2 .done (if (t.slot slot).block then none else some (t.slot slot).part) slot)
    else s)

/-- SLOT_RELEASE (R147): no anchor entry names the slot. -/
def execSlotRelease (slot : Nat) (s : State) : Ans :=
  .next (if (s.slot slot).st = 3 ∧ !s.anchorNames slot then s.setSlot slot Slot.empty else s)

/-! Control slots (R144, R145, R180). -/

/-- A slot of a partition in one of the given states, for a command that names it (R391). -/
def State.ownSlot (s : State) (p n : Nat) (states : List Nat) : Bool :=
  let v := s.slot n
  decide (n < 4096) && states.contains v.st && !v.block && decide (v.part = p)

/-- The slot is a LIVE control slot of the partition. -/
def State.controlSlot (s : State) (p n : Nat) : Bool := s.ownSlot p n [1] && decide ((s.slot n).use = 3)

/-- Put a value into a new control slot and answer with its number. -/
def State.newControl (p : Pend) (origin : Nat) (exportable retain meas : Bool) (v : BitVec 512) (s : State) : State :=
  match s.takeSlot p.h.part with
  | some n => (s.fill n p.h.part 3 origin false exportable retain meas v).ok p n
  | none => s.endsWith p .outOfSlots

/-- KEY_CONTROL_GEN (R144, R145). -/
def execKeyControlGen (h : Hdr) (exportable retain measBound : Bool) (s : State) : Ans :=
  .next (s.admitWith ⟨0x0503, [.tenant, .device], .all, 1, 0, false⟩ h [] s.rngHold
    (chk (s.takeSlot h.part).isSome .outOfSlots 16)
    (fun p t => (t.drawnPr).newControl p 0 exportable retain measBound ((t.free.setWidth 256).setWidth 512)))

/-- KEY_IMPORT (R180): the trailer is the 32-byte value. -/
def execKeyImport (h : Hdr) (exportable retain measBound : Bool) (value : BitVec 256) (s : State) : Ans :=
  .next (s.admitCmd ⟨0x0504, [.tenant], .all, 1, 0, true⟩ h
    (chk (decide (h.trailer = 32)) .badParam 0 ++ chk (s.takeSlot h.part).isSome .outOfSlots 16)
    (fun p t => t.newControl p 2 exportable retain measBound (value.setWidth 512)))

/-- KEY_RETIRE (R147): control slots only. -/
def execKeyRetire (h : Hdr) (slot : Nat) (s : State) : Ans :=
  .next (s.admitCmd ⟨0x0507, [.tenant, .device], .all, 2, 0, false⟩ h (chk (s.controlSlot h.part slot) .badParam 16)
    (fun p t => (t.retire slot).ok p 0))

/-! AES modes (R175 to R177). -/

/-- 16 bytes as an AES block, byte 0 first. -/
def blockOf (l : List Byte) : BitVec 128 := BitVec.ofNat 128 (ofBe (l ++ List.replicate (16 - l.length) 0))
/-- The bytes of an AES block. -/
def blockBytes (b : BitVec 128) : List Byte := beBytes 16 b.toNat

/-- The counter block after `i` increments: its last four bytes count, big-endian, modulo 2^32 (R176). -/
def ctrBlock (iv : BitVec 128) (i : Nat) : BitVec 128 :=
  BitVec.ofNat 128 (iv.toNat / 2 ^ 32 * 2 ^ 32 + (iv.toNat + i) % 2 ^ 32)

/-- Bytes xored one by one, as long as the first. -/
def xorBytes (a b : List Byte) : List Byte := List.zipWith (fun x y => x ^^^ y) a b

/-- Cut a message into blocks of 16 bytes, the last one perhaps shorter. -/
def blocks16 (l : List Byte) : List (List Byte) :=
  (List.range ((l.length + 15) / 16)).map fun i => (l.drop (16 * i)).take 16

/-- CTR: encryption and decryption alike. -/
def ctrRun (key : BitVec 256) (iv : BitVec 128) (l : List Byte) : List Byte :=
  ((blocks16 l).zipIdx.map fun x => xorBytes x.1 (blockBytes (Config.aes256 key (ctrBlock iv x.2)))).flatten

/-- CBC encryption of whole blocks. -/
def cbcEnc (key : BitVec 256) : BitVec 128 → List (List Byte) → List Byte
  | _, [] => []
  | iv, b :: r =>
    let c := Config.aes256 key (iv ^^^ blockOf b)
    blockBytes c ++ cbcEnc key c r

/-- CBC decryption of whole blocks. -/
def cbcDec (key : BitVec 256) : BitVec 128 → List (List Byte) → List Byte
  | _, [] => []
  | iv, b :: r => blockBytes (iv ^^^ Config.aes256Inv key (blockOf b)) ++ cbcDec key (blockOf b) r

/-- CFB-128. -/
def cfbRun (key : BitVec 256) (dec : Bool) : BitVec 128 → List (List Byte) → List Byte
  | _, [] => []
  | iv, b :: r =>
    let o := xorBytes b (blockBytes (Config.aes256 key iv))
    o ++ cfbRun key dec (blockOf (if dec then b else o)) r

/-- CBC padding: p bytes of value p. -/
def cbcPad (l : List Byte) : List Byte :=
  let p := 16 - l.length % 16
  l ++ List.replicate p (BitVec.ofNat 8 p)

/-- Check and remove CBC padding. -/
def cbcUnpad (l : List Byte) : Option (List Byte) :=
  let p := (l.getLast?.map fun b => b.toNat).getD 0
  let k := l.length - p
  if 1 ≤ p ∧ p ≤ 16 ∧ p ≤ l.length ∧ (l.drop k).all (fun b => decide (b.toNat = p)) then some (l.take k) else none

/-- What the engine computes for a message; none when a decrypted padding is invalid. -/
def cceRun (key : BitVec 256) (m : CceMsg) : Option (List Byte) :=
  if m.mode = 1 then some (ctrRun key m.iv m.msg)
  else if m.mode = 2 then some (cfbRun key m.decrypt m.iv (blocks16 m.msg))
  else if m.decrypt then cbcUnpad (cbcDec key m.iv (blocks16 m.msg))
  else some (cbcEnc key m.iv (blocks16 (cbcPad m.msg)))

/-- A message of Tolaro's under a block-owned control slot joins the engine's queue (R175); its output goes to Tolaro. -/
def State.cceTolaro (slot mode : Nat) (decrypt ivGen : Bool) (iv : BitVec 128) (msg : List Byte) (s : State) : State :=
  let v := s.slot slot
  let ok := decide (s.boot.phase = .tolaro ∨ s.boot.phase = .ready) && decide (v.st = 1) && v.block && decide (v.use = 3) && decide (mode < 3)
    && decide (1 ≤ msg.length) && decide (msg.length ≤ 4096) && (!(decide (mode = 0) && decrypt) || decide (msg.length % 16 = 0))
    && (!(decide (mode = 1) && !ivGen) || decide (iv.toNat % 2 ^ 32 + (msg.length + 15) / 16 ≤ 2 ^ 32)) && (!ivGen || s.key.rngReady)
  if ok then
    (when ivGen State.drawn s).modKey fun k =>
      { k with cce := k.cce ++ [{ p := none, slot := slot, mode := mode, decrypt := decrypt, ivGen := ivGen,
                                  iv := if ivGen then s.free.setWidth 128 else iv, msg := msg, again := false }] }
  else s

/-- CCE_OP (R175, R176): the message joins the engine's queue; Tolaro calls the engine without a packet. -/
def execCceOp (tolaro : Bool) (h : Hdr) (slot mode : Nat) (decrypt ivGen : Bool) (len : Nat) (iv : BitVec 128) (msg : List Byte)
    (s : State) : Ans :=
  .next (if tolaro then s.cceTolaro slot mode decrypt ivGen iv msg else s.admitWith ⟨0x0508, [.tenant], .all, 22, 0, true⟩ h [] (if ivGen then s.rngHold else none)
    (chk (s.controlSlot h.part slot) .badParam 16 ++ chk (decide (mode < 3)) .badParam 18
      ++ chk (decide (1 ≤ len) && decide (len ≤ 4096)) .badParam 20
      ++ chk (decide (h.trailer = len) && decide (msg.length = len)) .badParam 0
      ++ chk (!(decide (mode = 0) && decrypt) || decide (len % 16 = 0)) .badParam 20
      ++ chk (!(decide (mode = 1) && !ivGen) || decide (iv.toNat % 2 ^ 32 + (len + 15) / 16 ≤ 2 ^ 32)) .badParam 22)
    (fun p t =>
      let m : CceMsg :=
        { p := some p, slot := slot, mode := mode, decrypt := decrypt, ivGen := ivGen,
          iv := if ivGen then t.free.setWidth 128 else iv, msg := msg, again := false }
      (when ivGen State.drawn t).modKey fun k => { k with cce := k.cce ++ [m] }))

/-- CCE_MESSAGE_DONE (R176, R177): the engine has run its first message and checked it by the inverse operation. A drawn IV whose
counter would wrap is refused like a given one. A breach halt has discarded the messages (R178). -/
def execCceMessageDone (checkOk : Bool) (ecc : Ecc) (s : State) : Ans :=
  .next (
    match s.key.cce with
    | [] => s
    | m :: rest =>
      s.eccRead ecc m.slot (fun s =>
      if checkOk then
        let t := s.modKey fun k => { k with cce := rest }
        match m.p with
        | none => t
        | some p =>
          let wraps := decide (m.mode = 1) && decide (2 ^ 32 < m.iv.toNat % 2 ^ 32 + (m.msg.length + 15) / 16)
          match cceRun ((s.slot m.slot).value.setWidth 256) m with
          | some out =>
            if wraps then t.endsWith p .badParam else t.okTrailer p 0 ((if m.ivGen then blockBytes m.iv else []) ++ out)
          | none => t.endsWith p .badParam
      else
        let t := (s.modKey fun k =>
          { k with cceFaults := satAdd 255 k.cceFaults 1, cce := if m.again then rest else { m with again := true } :: rest
          }).press 2 .done (m.p.map fun p => p.h.part) m.slot
        if m.again then t.critical 2 .done (m.p.map fun p => p.h.part) m.slot else t))

/-! Wrapping (R179, R180). -/

/-- The wrap keys of a wrapping slot (R157). -/
def wrapKeys (v : BitVec 512) : BitVec 256 × List Byte :=
  (key256 (kdfH (valBytes 32 v) "VMR.WRAP.E" [] 256), kdfH (valBytes 32 v) "VMR.WRAP.M" [] 256)

/-- The blob of a slot under a wrapping slot with an IV. -/
def wrapBlob (v w : Slot) (iv : BitVec 128) : List Byte :=
  let (ke, km) := wrapKeys w.value
  let n := useBytes v.use
  let hd := leBytes 2 2 ++ leBytes 4 v.attr.toNat ++ leBytes 2 n ++ List.replicate 8 0
  let c := ctrRun ke iv (valBytes n v.value)
  let body := hd ++ blockBytes iv ++ c
  body ++ (beBytes 48 (Config.hmac384 km body).toNat).take 16

/-- KEY_WRAP (R179). -/
def execKeyWrap (h : Hdr) (slot wrapSlot : Nat) (s : State) : Ans :=
  .next (s.admitWith ⟨0x0505, [.tenant], .all, 4, 0, false⟩ h [] s.rngHold
    (chk (s.ownSlot h.part slot [1] && (s.slot slot).exportable) .badParam 16
      ++ chk (s.controlSlot h.part wrapSlot) .badParam 18)
    (fun p t => (t.drawn).okTrailer p 0 (wrapBlob (t.slot slot) (t.slot wrapSlot) (t.free.setWidth 128))))

/-- The value length that a blob's header gives. -/
def blobLen (l : List Byte) : Nat := ofLe ((l.drop 6).take 2)

/-- The tag of a blob fits its header, IV and ciphertext under a wrapping slot (R179). -/
def blobTagOk (w : Slot) (l : List Byte) : Bool :=
  decide ((beBytes 48 (Config.hmac384 (wrapKeys w.value).2 (l.take (l.length - 16))).toNat).take 16 = l.drop (l.length - 16))

/-- The value of a blob, decrypted (R179). -/
def blobValue (w : Slot) (l : List Byte) : BitVec 512 :=
  BitVec.ofNat 512 (ofBe (ctrRun (wrapKeys w.value).1 (blockOf ((l.drop 16).take 16)) ((l.drop 32).take (blobLen l))))

/-- KEY_UNWRAP (R179, R180): the tag is compared first; only control slots are filled by unwrapping (R142, R144). -/
def execKeyUnwrap (h : Hdr) (wrapSlot : Nat) (blob : List Byte) (s : State) : Ans :=
  .next (s.admitCmd ⟨0x0506, [.tenant], .all, 2, 0, true⟩ h
    (chk (s.controlSlot h.part wrapSlot) .badParam 16
      ++ chk (decide (h.trailer = blob.length) && decide (blob.length = 48 + blobLen blob)) .badParam 0
      ++ chk (s.takeSlot h.part).isSome .outOfSlots 16)
    (fun p t =>
      let attr : Word := BitVec.ofNat 32 (ofLe ((blob.drop 2).take 4))
      if !blobTagOk (t.slot wrapSlot) blob then t.endsWith p .authFailed
      else if ofLe (blob.take 2) ≠ 2 ∨ ofLe ((blob.drop 8).take 8) ≠ 0 ∨ bits attr 2 0 ≠ 3 ∨ blobLen blob ≠ 32 then t.endsWith p .badParam
      else t.newControl p 2 (bit attr 3) (bit attr 8) (bit attr 7) (blobValue (t.slot wrapSlot) blob)))

/-! The public-key engine (R163, R184). -/

/-- The work in the engine has completed an operation: its next one waits behind link set-up alone. -/
def State.pkeNext (j : PkeJob) (rest : List PkeJob) (s : State) : State :=
  s.modKey fun k =>
    { k with pke := if j.link then j :: rest else (rest.filter fun x => x.link) ++ [j] ++ rest.filter fun x => !x.link }

/-- Work that makes a hybrid signature (R163): the slot of the seed, the label, the message. -/
def signJob (link : Bool) (slot : Nat) (label msg : List Byte) (e : PkeEnd) : PkeJob :=
  { link := link, ops := [.ecSign, .mldsaSign], sign := some (slot, label, msg), sig := [], ends := e }

/-- MLDSA_SIGN_RESTART (R184): the signature in the engine is restarted with fresh randomness. -/
def execMldsaSignRestart (s : State) : Ans :=
  .next (
    if (s.key.pke.head?).any fun j => decide (j.ops.head? = some .mldsaSign) then
      (s.drawn).modKey fun k => { k with signRestarts := k.signRestarts + 1 }
    else s)

/-! Key attestation (R174). -/

/-- KEY_DIGEST of a slot. -/
def Slot.digest (v : Slot) : Digest :=
  if v.use = 4 then signDigest v.value else if v.use = 5 then exchDigest v.value else keyId v.value v.use

/-- The 168-byte body of a key attestation record. -/
def State.attestBody (s : State) (p slot : Nat) (nonce : BitVec 256) : List Byte :=
  let v := s.slot slot
  leBytes 2 1 ++ leBytes 2 slot ++ leBytes 4 v.attr.toNat ++ leBytes 8 (s.domainOf p).toNat ++ leBytes 2 (s.memberOf p)
    ++ [BitVec.ofNat 8 p, BitVec.ofNat 8 s.boot.lc] ++ leBytes 8 v.created ++ leBytes 8 s.now ++ leBytes 32 nonce.toNat
    ++ beBytes 48 v.digest.toNat ++ beBytes 48 (signDigest (s.slot 1).value).toNat ++ [0, 0, 0, 0]

/-- KEY_ATTEST (R174, R475): the record is signed by the alias key; its reply follows from the public-key engine. -/
def execKeyAttest (h : Hdr) (slot : Nat) (nonce : BitVec 256) (s : State) : Ans :=
  .next (s.admitWith ⟨0x0502, [.tenant], .all, 34, 0, false⟩ h [] s.rngHold
    (chk (s.ownSlot h.part slot [1, 2]) .badParam 16 ++ chk (decide ((s.slot 1).st = 1)) .lcForbids 2)
    (fun p t =>
      let body := t.attestBody h.part slot nonce
      t.pkeAdd (signJob false 1 (ascii "VMR.KAR") (ascii "VMR.KAR" ++ body) (.attest p body))))

/-! Re-sealing (R169 to R173). -/

/-- A re-seal of a partition. -/
def State.reseal (s : State) (p : Nat) : Reseal := s.key.reseal.get Reseal.none p
/-- Store a re-seal. -/
def State.setReseal (p : Nat) (r : Reseal) (s : State) : State :=
  s.modKey fun k => { k with reseal := k.reseal.set Reseal.none p r }

/-- Anchor entries of a partition that still name a slot, in ascending order. -/
def State.regionsOn (s : State) (p slot : Nat) : List Nat :=
  (s.sg.anchors.filter fun x => decide (x.2.st ≠ 0) && decide (x.2.part = p) && decide (x.2.slot = slot)).map fun x => x.1

/-- When no region names slot A any more, A retires, WITHDRAWN objects become FREE at generation 0 and the request completes
(R173, R399). -/
def State.resealEnd (p : Nat) (s : State) : State :=
  let r := s.reseal p
  if !r.active || !(s.regionsOn p r.old).isEmpty then s
  else
    let gone := (s.obju.objs.filter fun x => decide (x.1 / 2 ^ 25 = p) && decide (x.2.st = 3)).map fun x => x.1 % 2 ^ 25
    let (u, st) := gone.foldl (fun (x : State × Status) i =>
      let (v, b) := (x.1.modObj p i fun _ => Obj.vacant).writeObj p i
      (v, firstBad x.2 b)) (s, .done)
    let t := (u.retire r.old).setReseal p { r with active := false, p := none }
    match r.p with
    | some q => if st = .done then t.ok q 0 else t.endsWith q st
    | none => t

/-- KEY_RESEAL (R169). -/
def execKeyReseal (h : Hdr) (s : State) : Ans :=
  .next (s.admitWith ⟨0x0501, [.tenant, .device], .am, 0, 0, false⟩ h [] s.rngHold
    (chk (!(s.reseal h.part).active) .badParam 2
      ++ chk (decide (s.pst h.part = 1) || decide (s.pst h.part = 2) || decide (s.pst h.part = 3)) .badParam 2
      ++ chk (s.takeSlot h.part).isSome .outOfSlots 2)
    (fun p t =>
      match t.takeSlot h.part with
      | none => t.endsWith p .outOfSlots
      | some b =>
        let a := (t.part h.part).slot
        let u := ((t.fill b h.part 0 0 false false true false ((t.free.setWidth 256).setWidth 512)).drawnPr).modPart h.part
          fun x => { x with slot := b }
        (u.setReseal h.part { active := true, new := b, old := a, done := 0, p := some p }).resealEnd h.part))

/-- C-class shadows of a window take effect (R15); a new period of the default entries arms them anew. -/
def State.commitWindow (win : Nat) (s : State) : State :=
  let mine := s.regf.shadow.filter fun x => decide (x.1 / 0x10000 = win)
  let t := s.modRegf fun r => { r with shadow := r.shadow.filter fun x => decide (x.1 / 0x10000 ≠ win) }
  each mine (fun x u =>
    let m := (regRow s.params.profile x.1).elim 0 fun r => r.c
    let v := u.setReg x.1 ((u.reg x.1 &&& ~~~ m) ||| (x.2 &&& m))
    if 0x20 ≤ win ∧ x.1 = rLnkEpochCfg (win - 0x20) ∧ v.boot.phase = .ready then v.armDefaults (win - 0x20) else v) t

end Sys2Proof.Machine
end

