-- ==== Sys2Proof/Machine/Share.lean ====
section
/-!
DEFINITION. Sector-group enable (R98 to R103), commit points of C-class fields (R15, R16, R284, R331), shares (R279 to R289) and
gating units (R293 to R297).
-/
namespace Sys2Proof.Machine

/-! Enable of a sector group (R102, R103). -/

/-- A partition uses the group: an anchor entry of its range is Live or Wilted (R103). -/
def State.groupUsed (s : State) (n : Nat) : Bool :=
  s.sg.anchors.any fun x => decide (x.2.st ≠ 0) && decide (s.ancFirst n ≤ x.1) && decide (x.1 < s.ancFirst n + s.ancCount n)

/-- Two ranges, each a start and a length, overlap: an address lies in both, so an empty range overlaps none. -/
def overlaps (a la b lb : Nat) : Bool := decide (0 < la) && decide (0 < lb) && decide (a < b + lb) && decide (b < a + la)

/-- CFG_ERR of a write of ENABLE 1: the first failing check, 0 when none fails (R99 to R102). -/
def State.cfgErr (s : State) (n : Nat) : Nat :=
  let others := s.groups.filter fun m => decide (m ≠ n) && s.sgOn m
  let span (m : Nat) : Nat := s.ancCount m * s.span
  let first := s.ancFirst n
  let hits (m : Nat) : Bool :=
    overlaps first (s.ancCount n) (s.ancFirst m) (s.ancCount m)
      || (s.ilv.isEmpty
        && (overlaps (s.protBase n) (span n) (s.protBase m) (span m) || overlaps (s.protBase n) (span n) (s.carveBase m) (s.carveSize m)
          || overlaps (s.carveBase n) (s.carveSize n) (s.protBase m) (span m)
          || overlaps (s.carveBase n) (s.carveSize n) (s.carveBase m) (s.carveSize m)))
  if !s.ilvOk then 1
  else if s.protBase n % s.span ≠ 0 then 2
  else if 2097152 < first + s.ancCount n ∨ others.any hits then 3
  else if s.carveSize n < s.ancCount n * s.recSize then 4
  else if overlaps (s.carveBase n) (s.carveSize n) (s.protBase n) (span n) then 5
  else if !s.boot.sensed ∨ s.boot.senseErr then 7
  else 0

/-- ENABLE of a group is written (R102, R103): a write to an absent group is recorded (R10), a write of 0 is refused while a partition
uses the group, whether it is enabled or not. CFG_ERR tells of the last write of ENABLE 1, so an accepted write of 0 leaves it (DEDUCED,
log entry 53). -/
def State.sgWrite (n : Nat) (on : Bool) (s : State) : State :=
  if s.params.sgCount ≤ n ∨ s.params.profile = .s then s.busErr (rSgMemCtrl n)
  else if on then
    let e := if s.sgOn n then 0 else s.cfgErr n
    let t := s.setFld (rSgMemCtrl n) 6 4 e
    if e = 0 then t.flag (rSgMemCtrl n) 0 else t.flag (rSgMemCtrl n) 9
  else if s.groupUsed n then (s.setFld (rSgMemCtrl n) 6 4 6).flag (rSgMemCtrl n) 9
  else s.setFld (rSgMemCtrl n) 0 0 0

/-- SG_ENABLE (R102). -/
def execSgEnable (rq : Rq) (n : Nat) (s : State) : Ans := .next (s.ctlWrite rq (State.sgWrite n true))

/-- SG_DISABLE (R103). -/
def execSgDisable (rq : Rq) (n : Nat) (s : State) : Ans := .next (s.ctlWrite rq (State.sgWrite n false))

/-! Commit points (R15, R16). -/

/-- WEIGHT changes of a group take effect, and its deficit counters become zero (R284). -/
def State.commitWeights (n : Nat) (s : State) : State :=
  let mine := s.share.weightNew.filter fun x => decide (x.1 / 16 = n)
  if mine.isEmpty then s
  else s.modShare fun x =>
    { x with
      weight := mine.foldl (fun w y => match y.2 with | some v => w.set 1 y.1 v | none => w) x.weight
      weightNew := x.weightNew.filter (fun y => decide (y.1 / 16 ≠ n))
      deficit := x.deficit.filter fun y => decide (y.1 / 16 ≠ n) }

/-- The group of a window, when it is one of a sector group. -/
def State.groupWin (s : State) (win : Nat) : Option Nat :=
  if 0x10 ≤ win ∧ win < 0x10 + s.params.sgCount ∧ s.params.profile ≠ .s then some (win - 0x10) else none

/-- Everything of a window commits: a COMMIT entry names it (R15, R123). -/
def State.commitNamed (win : Nat) (s : State) : State :=
  let t := s.commitWindow win
  match s.groupWin win with
  | some n => t.commitWeights n
  | none => t

/-- A sector group is idle: no access, operation or held request of it is in flight. -/
def State.groupIdle (s : State) (n : Nat) : Bool :=
  !(s.sg.accs.any fun a => decide (a.q.group = n)) && !(s.sg.merge.any fun m => decide (m.group = n) && !m.ops.isEmpty)
    && !(s.sg.saQ.any fun w => decide (w.op.q.group = n))
    && !(s.sg.north.any fun w => decide (w.q.group = n)) && !(s.sg.rds.any fun r => decide (r.group = n))
    && !(s.sg.wr.any fun w => decide (w.group = n))

/-- No TRIG_OUT entry is ARMED: the commit point of the DT window. -/
def State.trigIdle (s : State) : Bool := !(s.dt.sched.any fun x => decide (x.2.st = 1) && decide (x.2.action = 8))

/-- A link port is idle: nothing queued, nothing sealed on its way. -/
def State.portIdle (s : State) (k : Nat) : Bool := (s.port k).q.isEmpty && (s.port k).txq.isEmpty

/-- The register is one of a port's gate registers, which commit only at a COMMIT entry (R331). -/
def isGateReg (off : Nat) : Bool :=
  decide (0x200000 ≤ off) && decide (off < 0x320000) && decide (0x30 ≤ off % 0x10000) && decide (off % 0x10000 < 0x90)

/-- The commit point that a window reaches by its unit being idle (R16, R284, R331, the DT and KEY chapters): only then do its
shadows take effect. The KEY window commits at a sweep region or a COMMIT entry. -/
def State.commitIdle (win : Nat) (s : State) : State :=
  if win = 1 then (if s.trigIdle then s.commitWindow 1 else s)
  else if win = 2 then s
  else if 0x20 ≤ win ∧ win < 0x32 then
    if s.portIdle (win - 0x20) then
      let gate := s.regf.shadow.filter fun x => decide (x.1 / 0x10000 = win) && isGateReg x.1
      let t := (s.modRegf fun r => { r with shadow := r.shadow.filter fun x => !(gate.contains x) }).commitWindow win
      t.modRegf fun r => { r with shadow := gate.foldl (fun a x => a.put x.1 x.2) r.shadow }
    else s
  else match s.groupWin win with
    | some n => if s.groupIdle n then s.commitNamed win else s
    | none => s.commitWindow win

/-- C_CLASS_COMMIT (R16). -/
def execCClassCommit (window : Nat) (s : State) : Ans := .next (if s.service = .off then s else s.commitIdle window)

/-! Shares (R283, R284). -/

/-- PART_SHARE (R284): every group's shadow holds the new WEIGHT. -/
def execPartShare (h : Hdr) (weight : Nat) (s : State) : Ans :=
  .next (s.admitCmd ⟨0x0103, [.mgmt, .host], .am, 1, 0, false⟩ h (chk (decide (s.pst h.part ≠ 0)) .badParam 2)
    (fun p t =>
      (t.modShare fun x =>
        { x with weightNew := t.groups.foldl (fun w n => w.put (16 * n + h.part) (some (weight % 256))) x.weightNew }).ok p 0))

/-- Frame cycles that strict partitions own (R279). -/
def State.allotSum (s : State) : Nat := ((parts16.filter s.isStrict).map fun p => s.share.allot.get 0 p).sum

/-! Gating units (R293 to R297). -/

/-- Weight of a unit. -/
def unitWeight (u : Nat) : Nat := if u < 40 then 16 else if u < 72 then 8 else if u < 108 then 4 else if u < 110 then 8 else 16

/-- The unit is present in this instance. -/
def State.unitHere (s : State) (u : Nat) : Bool :=
  let q := s.params
  if u < 32 then decide (q.profile ≠ .s) && decide (u / 4 < q.sgCount)
  else if u < 40 then decide (q.profile ≠ .s) && decide (u - 32 < q.sgCount)
  else if u < 72 then decide (q.profile ≠ .s) && decide ((u - 40) / 4 < q.sgCount)
  else if u < 108 then decide ((u - 72) / 2 < q.fpCount)
  else if u < 110 then decide (u - 108 < q.hcCount)
  else decide (q.profile = .s) && decide (u < 114)

/-- GLB_WAKE.FLOOR in force. -/
def State.wakeFloor (s : State) : Nat := min 4 (s.fld rGlbWake 26 24)
/-- GLB_WAKE.STEP in force. -/
def State.wakeStep (s : State) : Nat := max 16 (s.fld rGlbWake 7 0)

/-- The unit never gates (R294). -/
def State.neverGates (s : State) (u : Nat) : Bool :=
  let strict := parts16.any fun p => s.isStrict p && decide (s.pst p ≠ 0)
  if u < 32 then decide (u % 4 < s.wakeFloor) || strict
  else if u < 40 then decide (1 ≤ s.wakeFloor) || strict
  else if u < 72 then strict
  else if u < 108 then decide ((u - 72) % 2 = 0) && bit s.pins.fpUp ((u - 72) / 2)
  else false

/-- A reset or a breach halt gates units (R295). -/
def State.gatesAll (s : State) : Bool := decide (s.service = .off) || s.boot.breached

/-- LANE_GATE (R294, R295, R297): a unit that has been idle for GATE_IDLE x 64 cycles begins to gate within the window's budget,
unless it never gates or work waits for it; a reset and a breach halt gate every unit, within the budget too. -/
def execLaneGate (u : Nat) (s : State) : Ans :=
  .next (
    let x := s.gunit u
    if s.unitHere u && x.awake && (s.gatesAll || (x.demand.isNone && !s.neverGates u && decide (s.fld rGlbWake 15 8 ≠ 0)))
        && decide (s.share.winGate + unitWeight u ≤ s.wakeStep) then
      (s.modUnit u fun y => { y with awake := false }).modShare fun y => { y with winGate := y.winGate + unitWeight u }
    else s)

/-- Units that are to wake, in order of their oldest waiting request; those that never gate come first (R294, R296). -/
def State.wakeOrder (s : State) : List Nat :=
  let asleep := (List.range 114).filter fun u => s.unitHere u && !(s.gunit u).awake
  let must := asleep.filter fun u => s.neverGates u
  let want := asleep.filter fun u => (s.gunit u).demand.isSome && !s.neverGates u
  must ++ want.insertionSort fun a b => (s.gunit a).demand.getD 0 ≤ (s.gunit b).demand.getD 0

/-- Wake a unit when its weight fits in the rest of the window. -/
def State.wakeOne (u : Nat) (s : State) : State :=
  if s.share.winWake + unitWeight u ≤ s.wakeStep then
    (s.modUnit u fun _ => { awake := true, demand := none }).modShare fun x => { x with winWake := x.winWake + unitWeight u }
  else s

/-- LANE_WAKE (R295, R296): a budget window begins and units wake within it; a unit that does not fit is skipped. None wakes in reset or
after a breach halt. -/
def execLaneWake (s : State) : Ans :=
  .next (
    let t := s.modShare fun x => { x with winWake := 0, winGate := 0 }
    if s.gatesAll then t else each t.wakeOrder State.wakeOne t)

end Sys2Proof.Machine
end

