-- ==== Sys2Proof/Machine/Host.lean ====
section
/-!
DEFINITION. Host ports (chapter 9): configuration, IDE streams and keys, TDISP, TLPs, address translation, tiles; and the release of
held egress at every gate (R223 to R225).
-/
namespace Sys2Proof.Machine

/-! Functions and ports (R334, R335). -/

/-- HST_PORTh_CFG.ENABLE. -/
def State.hstOn (s : State) (h : Nat) : Bool := s.runs && decide (h < s.params.hcCount) && bit (s.reg (rHstPortCfg h)) 0

/-- The partition whose TDI is a function of a port. -/
def State.tdiOf (s : State) (h rid : Nat) : Option Nat :=
  parts16.find? fun p =>
    bit (s.reg (rHstTdi p)) 31 && decide (s.fld (rHstTdi p) 16 16 = h) && decide (s.fld (rHstTdi p) 15 0 = rid % 65536)

/-- The port of a partition's TDI. -/
def State.tdiPort (s : State) (p : Nat) : Option Nat :=
  if bit (s.reg (rHstTdi p)) 31 then some (s.fld (rHstTdi p) 16 16) else none

/-- A TDI. -/
def State.tdi (s : State) (p : Nat) : Tdi := s.hst.tdi.get Tdi.unlocked p
/-- Change a TDI. -/
def State.modTdi (p : Nat) (f : Tdi → Tdi) (s : State) : State :=
  s.modHst fun x => { x with tdi := x.tdi.upd Tdi.unlocked p f }

/-- A stream of a port: 0 the link stream, 1 to 7 selective. -/
def State.stream (s : State) (h i : Nat) : Stream := s.hst.streams.get Stream.none (8 * h + i)
/-- Change a stream. -/
def State.modStream (h i : Nat) (f : Stream → Stream) (s : State) : State :=
  s.modHst fun x => { x with streams := x.streams.upd Stream.none (8 * h + i) f }

/-- Number of a sub-stream. -/
def subNo : SubStream → Nat
  | .posted => 0
  | .nonPosted => 1
  | .completion => 2

/-- Key of the key sets of a stream's sub-stream and direction. -/
def keyNo (h i sub : Nat) (rx : Bool) : Nat := ((8 * h + i) * 3 + sub) * 2 + b2n rx

/-- The key sets of a sub-stream and direction. -/
def State.ideKeys (s : State) (h i sub : Nat) (rx : Bool) : IdeKeys := s.hst.keys.get IdeKeys.none (keyNo h i sub rx)
/-- Change key sets. -/
def State.modKeys (h i sub : Nat) (rx : Bool) (f : IdeKeys → IdeKeys) (s : State) : State :=
  s.modHst fun x => { x with keys := x.keys.upd IdeKeys.none (keyNo h i sub rx) f }

/-- Slot of a key set. -/
def IdeKeys.slotOf (k : IdeKeys) (set : Nat) : Option Nat := if set = 0 then k.set0 else k.set1
/-- Put a slot into a key set. -/
def IdeKeys.putSlot (k : IdeKeys) (set : Nat) (n : Option Nat) : IdeKeys :=
  if set = 0 then { k with set0 := n } else { k with set1 := n }

/-! TDI states (R348, R350). STATE: 0 CONFIG_UNLOCKED, 1 CONFIG_LOCKED, 2 RUN, 3 ERROR. -/

/-- The tiles of a partition that are open fault with a status (R350, R361). -/
def State.tilesFault (p : Nat) (st : Status) (s : State) : State :=
  each ((List.range 16).filter fun t => decide ((s.tile p t).st = 1) || decide ((s.tile p t).st = 2))
    (fun t u => u.tileFault p t st (u.tile p t).base false) s

/-- What leaving RUN or entering ERROR does to the partition (R350). -/
def State.tdiLeaves (p : Nat) (st : Status) (s : State) : State :=
  (s.tilesFault p st).modHst fun x => { x with atc := x.atc.filter fun e => decide (e.part ≠ p) }

/-- A TDI that is CONFIG_LOCKED or RUN enters ERROR. -/
def State.tdiError (p : Nat) (s : State) : State :=
  if (s.tdi p).st = 1 ∨ (s.tdi p).st = 2 then (s.modTdi p fun x => { x with st := 3 }).tdiLeaves p .authFailed else s

/-- A TDI returns to CONFIG_UNLOCKED: a STOP, or a Function Level Reset. -/
def State.tdiStop (p : Nat) (s : State) : State :=
  let t := s.modTdi p fun x => { x with st := 0, stream := 0 }
  if (s.tdi p).st = 2 then t.tdiLeaves p .fenced else t

/-! Streams (R340, R341, R343). -/

/-- The partition that owns a stream: LINK_OWNER, or that of the function its RID association names. -/
def State.streamOwner (s : State) (h i : Nat) : Option Nat :=
  if i = 0 then (if bit (s.reg (rHstPortCfg h)) 17 then some (s.fld (rHstPortCfg h) 16 13) else none)
  else s.tdiOf h (s.stream h i).rid

/-- The slots that a stream holds. -/
def State.streamSlots (s : State) (h i : Nat) : List Nat :=
  ((List.range 3).map fun sub => [false, true].map fun rx =>
    let k := s.ideKeys h i sub rx
    k.set0.toList ++ k.set1.toList).flatten.flatten

/-- A stream enters Insecure: its slots retire, its keys go, a TDI bound to it or owned by it enters ERROR (R343, R344, R348). -/
def State.streamDown (h i : Nat) (s : State) : State :=
  let t := each (s.streamSlots h i) State.retire s
  let u := (t.modStream h i fun x => { x with secure := false }).modHst fun x =>
    { x with keys := x.keys.filter fun k => decide (k.1 / 6 ≠ 8 * h + i) }
  each (parts16.filter fun p => decide (s.tdiPort p = some h)
      && ((decide ((s.tdi p).stream = i) && decide (i ≠ 0)) || decide (s.streamOwner h i = some p))) State.tdiError u

/-- Control word of a stream in the IDE extended capability: bit 0 Enable, bits 31:24 Stream ID (log entry 30). -/
def State.streamCtl (s : State) (h i : Nat) : Word :=
  let off := if i = 0 then 0x0C else 0x18 + 0x44 * (i - 1)
  ((s.hst.cfg.find? fun x => decide (x.1 = h ∧ x.2.1 = s.fld (rHstPortCap h) 23 12 + off)).map fun x => x.2.2).getD 0

/-- A stream is Secure once it is enabled, has an owner, and every sub-stream has a key set programmed for receive and one in use
for transmit (R340, R341). -/
def State.tryStream (h i : Nat) (s : State) : State :=
  let ok := bit (s.streamCtl h i) 0 && (s.streamOwner h i).isSome && bit s.pins.hcUp h
    && (List.range 3).all fun sub =>
      ((s.ideKeys h i sub true).set0.isSome || (s.ideKeys h i sub true).set1.isSome) && (s.ideKeys h i sub false).go.isSome
  if ok then s.modStream h i fun x => { x with secure := true, part := (s.streamOwner h i).getD 0 } else s

/-- The SPDM secured session of a port is there. -/
def State.doeSess (s : State) (h sid : Nat) : Bool :=
  decide (s.service = .full) && (s.secured (.doe h) sid).isSome

/-- IDE_KM_QUERY (R340). -/
def execIdeKmQuery (h sid : Nat) (s : State) : Ans :=
  .next (
    if s.doeSess h sid then
      s.respond (.doe h) (.ideKmReport ((List.range 8).map fun i => (i, s.stream h i)))
    else s)

/-- Answer an IDE_KM message. -/
def State.ideAnswer (h : Nat) (ok : Bool) (s : State) : State := s.respond (.doe h) (.ideKm ok)

/-- IDE_KM_KEY_PROG (R341): a set that is in use is refused; the key takes a host slot of the owner's quota. -/
def execIdeKmKeyProg (h sid stream : Nat) (sub : SubStream) (rx : Bool) (set : Nat) (key : BitVec 256) (s : State) : Ans :=
  .next (
    if !s.doeSess h sid then s
    else
      let k := s.ideKeys h stream (subNo sub) rx
      match s.streamOwner h stream with
      | none => s.ideAnswer h false
      | some p =>
        if 8 ≤ stream ∨ 2 ≤ set ∨ k.used.contains set ∨ s.pst p = 0 then s.ideAnswer h false
        else
          let t := match k.slotOf set with
            | some n => s.retire n
            | none => s
          match t.takeSlot p with
          | none => s.ideAnswer h false
          | some n =>
            (((t.fill n p 2 2 false false false false (key.setWidth 512)).modKeys h stream (subNo sub) rx fun x =>
              x.putSlot set (some n)).tryStream h stream).ideAnswer h true)

/-- IDE_KM_K_SET_GO (R341). -/
def execIdeKmKSetGo (h sid stream : Nat) (sub : SubStream) (rx : Bool) (set : Nat) (s : State) : Ans :=
  .next (
    if !s.doeSess h sid then s
    else if stream < 8 ∧ ((s.ideKeys h stream (subNo sub) rx).slotOf set).isSome ∧ set < 2 then
      (((s.modKeys h stream (subNo sub) rx fun x => { x with go := some set, used := if x.used.contains set then x.used else x.used ++ [set] }).modHst fun x =>
        { x with ideSent := x.ideSent.set 0 (keyNo h stream (subNo sub) rx) 0 }).tryStream h stream).ideAnswer h true
    else s.ideAnswer h false)

/-- IDE_KM_K_SET_STOP (R341): the slots of the set enter RETIRING; a stream left without a set in use enters Insecure. -/
def execIdeKmKSetStop (h sid stream : Nat) (sub : SubStream) (rx : Bool) (set : Nat) (s : State) : Ans :=
  .next (
    if !s.doeSess h sid then s
    else
      let k := s.ideKeys h stream (subNo sub) rx
      match k.slotOf set with
      | none => s.ideAnswer h false
      | some n =>
        let y := { k.putSlot set none with go := if k.go = some set then none else k.go, used := k.used.erase set }
        let t := (s.retire n).modKeys h stream (subNo sub) rx fun _ => y
        let lost := if rx then y.set0.isNone && y.set1.isNone else y.go.isNone
        (if lost && (t.stream h stream).secure then t.streamDown h stream else t).ideAnswer h true)

/-! TDISP (R347, R348). -/

/-- A TDISP request of a secured session for the TDI of a partition; one that names no TDI of the port gets an error. -/
def State.tdisp (h sid p : Nat) (act : State → State) (s : State) : State :=
  if !s.doeSess h sid then s
  else if s.tdiPort p = some h ∧ p < 16 then act s
  else s.respond (.doe h) (.tdisp false 0)

/-- Answer a TDISP request with the TDI's state. -/
def State.tdispAnswer (h p : Nat) (ok : Bool) (s : State) : State := s.respond (.doe h) (.tdisp ok (s.tdi p).st)

/-- GET_TDISP_VERSION (R347). -/
def execGetTdispVersion (h sid p : Nat) (s : State) : Ans := .next (s.tdisp h sid p (State.tdispAnswer h p true))
/-- GET_TDISP_CAPABILITIES (R347). -/
def execGetTdispCapabilities (h sid p : Nat) (s : State) : Ans := .next (s.tdisp h sid p (State.tdispAnswer h p true))
/-- GET_DEVICE_INTERFACE_STATE (R347). -/
def execGetDeviceInterfaceState (h sid p : Nat) (s : State) : Ans := .next (s.tdisp h sid p (State.tdispAnswer h p true))

/-- GET_DEVICE_INTERFACE_REPORT (R347). -/
def execGetDeviceInterfaceReport (h sid p : Nat) (s : State) : Ans :=
  .next (s.tdisp h sid p (fun t => t.respond (.doe h) (.tdispReport p (t.memberOf p) (t.tdi p).locked)))

/-- The Secure selective stream of a port whose RID association is on the partition's function (R348). -/
def State.lockStream (s : State) (h p : Nat) : Option Nat :=
  [1, 2, 3, 4, 5, 6, 7].find? fun i => (s.stream h i).secure && decide (s.tdiOf h (s.stream h i).rid = some p)

/-- LOCK_INTERFACE_REQUEST (R348): the session in which a TDI is locked is its partition's TENANT while it is LOCAL (R439). -/
def execLockInterfaceRequest (h sid p : Nat) (s : State) : Ans :=
  .next (s.tdisp h sid p (fun t =>
    match t.lockStream h p with
    | none => t.tdispAnswer h p false
    | some i =>
      if (t.tdi p).st = 0 ∧ (t.pst p = 1 ∨ t.pst p = 2 ∨ t.pst p = 3) then
        ((t.modTdi p fun x => { x with st := 1, stream := i, locked := (t.part p).ranges }).modCmd fun c =>
          { c with sessions := c.sessions.map fun x =>
              if x.sid = sid ∧ x.t = .doe h then { x with tdi := some p }
              else if x.tdi = some p then { x with tdi := none } else x }).tdispAnswer h p true
      else t.tdispAnswer h p false))

/-- START_INTERFACE_REQUEST (R348). -/
def execStartInterfaceRequest (h sid p : Nat) (s : State) : Ans :=
  .next (s.tdisp h sid p (fun t =>
    if (t.tdi p).st = 1 ∧ (t.part p).vmAssign then (t.modTdi p fun x => { x with st := 2 }).tdispAnswer h p true
    else t.tdispAnswer h p false))

/-- STOP_INTERFACE_REQUEST (R348, R350). -/
def execStopInterfaceRequest (h sid p : Nat) (s : State) : Ans :=
  .next (s.tdisp h sid p (fun t => (t.tdiStop p).tdispAnswer h p true))

/-- TDISP_UNSUPPORTED_REQUEST (R347). -/
def execTdispUnsupportedRequest (h sid p : Nat) (s : State) : Ans :=
  .next (s.tdisp h sid p (State.respond (.doe h) .tdispUnsupported))

/-- FUNCTION_LEVEL_RESET (R348). -/
def execFunctionLevelReset (h rid : Nat) (s : State) : Ans :=
  .next (if s.hstOn h then (match s.tdiOf h rid with | some p => s.tdiStop p | none => s) else s)

/-! Configuration requests and DOE (R339, R345). -/

/-- Bytes of the DOE capability, and of the IDE capability with one link stream and seven selective streams of four address
ranges each (log entry 30). -/
def doeLen : Nat := 0x18
/-- Bytes of the IDE extended capability. -/
def ideLen : Nat := 0x14 + 7 * 0x44

/-- A configuration write inside the IDE capability sets a stream's identifier, enable and RID association (log entry 30). -/
def State.ideCfg (h rel : Nat) (data : Word) (s : State) : State :=
  let i := if rel = 0x0C then 0 else if 0x14 ≤ rel then (rel - 0x14) / 0x44 + 1 else 8
  let r := if rel = 0x0C then 4 else (rel - 0x14) % 0x44
  if 8 ≤ i then s
  else if r = 4 then
    let t := s.modStream h i fun x => { x with id := bits data 31 24 }
    if bit data 0 then t.tryStream h i else if (t.stream h i).secure then t.streamDown h i else t
  else if r = 16 ∧ i ≠ 0 then
    let t := if (s.stream h i).secure then s.streamDown h i else s
    t.modStream h i fun x => { x with rid := bits data 23 8 }
  else s

/-- CONFIG_REQUEST_RX (R339, R348): within the DOE or the IDE capability the block completes the request; another request passes,
and one that changes what TDISP locks moves the TDI to ERROR. -/
def execConfigRequestRx (h : Nat) (write : Bool) (func off : Nat) (data : Word) (locked : Bool) (s : State) : Ans :=
  .next (
    let cap := rHstPortCap h
    let doe := s.fld cap 11 0
    let ide := s.fld cap 23 12
    let inDoe := decide (doe ≠ 0) && decide (doe ≤ off) && decide (off < doe + doeLen)
    let inIde := decide (ide ≠ 0) && decide (ide ≤ off) && decide (off < ide + ideLen)
    let pass : Tlp :=
      { kind := .cfg, rid := func, addr := off, len := 4, pasid := none, tag := 0, translated := false, ctx := 0xFFFF,
        stream := none, tbit := false, ideOk := true, ro := false, ido := false, payload := if write then leBytes 4 data.toNat else [] }
    if decide (s.service = .off) || decide (s.params.hcCount ≤ h) then s
    else if s.hstOn h && decide (func = s.fld cap 31 24) && (inDoe || inIde) then
      if write then
        let t := s.modHst fun x =>
          { x with cfg := (x.cfg.filter fun c => decide (¬(c.1 = h ∧ c.2.1 = off))) ++ [(h, off, data)] }
        (if inIde then t.ideCfg h (off - ide) data else t).emit (.cfgCpl h 0)
      else
        s.emit (.cfgCpl h (((s.hst.cfg.find? fun c => decide (c.1 = h ∧ c.2.1 = off)).map fun c => c.2.2).getD
          (Config.cfgWord (if inIde then 4096 + (off - ide) else off - doe))))
    else
      let t := if s.hstOn h && write && locked then
          each (parts16.filter fun p => decide (s.tdiPort p = some h) && decide (s.fld (rHstTdi p) 7 0 = func)) State.tdiError s
        else s
      t.emit (.tlp h 1 pass))

/-- DOE_OBJECT_RX (R345): protocol 0 Discovery, 1 CMA/SPDM, 2 Secured CMA/SPDM; one object in progress, of at most 256 KiB. -/
def execDoeObjectRx (h : Nat) (proto : Nat) (lenBytes : Nat) (s : State) : Ans :=
  .next (
    if s.service ≠ .full ∨ s.params.hcCount ≤ h ∨ 3 ≤ proto ∨ 262144 < lenBytes ∨ (s.hst.doe.get none h).isSome then s
    else if proto = 0 then s.emit (.resp (.doe h) .doeDiscovery)
    else s.modHst fun x => { x with doe := x.doe.set none h (some (proto, lenBytes)) })

/-- DOE_ABORT (R345). -/
def execDoeAbort (h : Nat) (s : State) : Ans := .next (s.modHst fun x => { x with doe := x.doe.set none h none })

/-! Sealing (R336, R342). -/

/-- How a TLP of a partition goes out: on a stream, in clear, or not at all (R342). -/
inductive Way where
  | on (stream : Nat) (tbit : Bool)
  | clear
  | discard
  deriving DecidableEq, Repr

/-- The first case of R342 that applies. -/
def State.way (s : State) (h p : Nat) : Way :=
  match s.lockStream h p with
  | some i => .on i (decide ((s.tdi p).st = 2))
  | none =>
    let link := (s.stream h 0).secure
    if link && decide (s.streamOwner h 0 = some p) then .on 0 false
    else if (s.tdi p).ideOpt then if link then .on 0 false else .clear
    else .discard

/-- The sub-stream of a TLP (R340): posted, non-posted, completion. -/
def tlpSub (t : Tlp) : Nat :=
  match t.kind with
  | .memWr | .msg => 0
  | .memRd | .cfg => 1
  | .cpl _ => 2

/-- Fields of a TLP's header and prefixes (R80). -/
def tlpFields (t : Tlp) : List Nat :=
  [match t.kind with | .memRd => 0 | .memWr => 1 | .cpl false => 2 | .cpl true => 3 | .cfg => 4 | .msg => 5,
   t.rid, t.addr, t.len, t.pasid.elim 0 fun p => p + 1, t.tag, b2n t.translated, b2n t.tbit]

/-- A TLP as an IDE stream protects it (R42, R43, R340, R341): under the key set in use of its sub-stream, its payload is ciphertext. -/
def State.ideTlp (s : State) (h i : Nat) (t : Tlp) : Tlp :=
  let k := s.ideKeys h i (tlpSub t) false
  let v := (s.slot ((k.go.bind k.slotOf).getD 0)).value
  { t with payload := fit t.payload.length (Config.ideSeal v (s.hst.ideSent.get 0 (keyNo h i (tlpSub t) false)) (tlpFields t) t.payload) }

/-- Send a TLP on HCh_TXC: on a stream it is protected, and its place in the sub-stream counts. -/
def State.sendTlp (h : Nat) (w : Way) (t : Tlp) (s : State) : State :=
  match w with
  | .on i b =>
    (((s.wants [108 + h]).glob (272 + 4 * h) 1).modHst fun x =>
      { x with ideSent := x.ideSent.upd 0 (keyNo h i (tlpSub t) false) fun n => n + 1 }).emit
        (.tlp h 0 (s.ideTlp h i { t with stream := some i, tbit := b }))
  | .clear => s.emit (.tlp h 0 { t with stream := none, tbit := false })
  | .discard => s

/-- A TLP of a partition leaves stages 4 and 5; one that no case of R342 lets go is discarded with a fault record. -/
def State.outTlp (h p : Nat) (t : Tlp) (s : State) : State :=
  match s.way h p with
  | .discard => s.fault p t.ctx 3 .badParam t.addr (BitVec.ofNat 64 t.rid) 0 false
  | w => s.sendTlp h w t

/-- The TLP carries data that the horizon holds (R224). -/
def holdable (t : Tlp) : Bool := decide (t.kind = .memWr) || decide (t.kind = .cpl true)

/-- The PCIe ordering rules let a TLP pass an earlier one that is held, under its Relaxed Ordering and ID-Based Ordering attributes
(R337): nothing passes a posted request but by an attribute, and completions of one transaction keep their order. -/
def mayPass (t y : Tlp) : Bool :=
  let other := t.ido && decide (t.rid ≠ y.rid)
  match y.kind with
  | .memWr | .msg =>
    (match t.kind with
    | .memRd | .cfg => other
    | _ => t.ro || other)
  | .cpl _ =>
    (match t.kind with
    | .cpl _ => decide (t.tag ≠ y.tag) || decide (t.rid ≠ y.rid)
    | _ => true)
  | _ => true

/-- The horizon holds a TLP of a partition (R224). -/
def State.horizonHolds (s : State) (p : Option Nat) (t : Tlp) : Bool := p.any fun q => holdable t && s.holds q

/-- A TLP is held at stage 3: the horizon holds it, or it may not pass one that is held (R224, R337). -/
def State.mustHold (s : State) (h : Nat) (p : Option Nat) (t : Tlp) : Bool :=
  s.horizonHolds p t || s.hst.held.any fun y => decide (y.h = h) && !mayPass t y.t

/-! Footprints and translations (R351 to R359). -/

/-- The rows of a tile: start and length. -/
def Tile.rowsOf (x : Tile) : List (Nat × Nat) :=
  (List.range x.rows).map fun i => (x.base + (if x.rows = 1 then 0 else i * x.pitch), x.rowBytes)

/-- The distinct 4 KiB pages of a run of bytes. -/
def pagesOf (a n : Nat) : List Nat := (List.range ((a + n - 1) / 4096 + 1 - a / 4096)).map fun i => (a / 4096 + i) * 4096

/-- The pages of a footprint. -/
def Tile.pages (x : Tile) : List Nat := ((x.rowsOf.map fun r => pagesOf r.1 r.2).flatten).dedup

/-- The footprint holds every byte of a TLP. -/
def Tile.covers (x : Tile) (t : Tlp) : Bool :=
  decide (x.rows = 1 ∨ x.rowBytes ≠ x.pitch) && (x.rowsOf.any fun r => decide (r.1 ≤ t.addr) && decide (t.addr + t.len ≤ r.1 + r.2))
    || (decide (x.rows ≠ 1) && decide (x.rowBytes = x.pitch) && decide (x.base ≤ t.addr)
      && decide (t.addr + t.len ≤ x.base + x.rows * x.rowBytes))

/-- An entry translates a page for a partition and PASID. -/
def Atc.hits (e : Atc) (p : Nat) (pasid : Option Nat) (va : Nat) : Bool :=
  decide (e.part = p) && (decide (e.pasid = pasid) || e.global) && decide (e.va ≤ va)
    && decide (va < e.va + e.size * e.pages)

/-- The translation of a page. -/
def State.atc (s : State) (p : Nat) (pasid : Option Nat) (va : Nat) : Option Atc := s.hst.atc.find? fun e => e.hits p pasid va

/-- A page has translated with the permissions that the tile needs. -/
def State.pageOk (s : State) (p : Nat) (x : Tile) (va : Nat) : Bool :=
  (s.atc p x.pasid va).any fun e => (!x.rd || e.r) && (!x.wr || e.w)

/-- Translate a TLP's address (R352: with U set it goes untranslated). -/
def State.translate (s : State) (p : Nat) (pasid : Option Nat) (t : Tlp) : Tlp :=
  match s.atc p pasid (t.addr / 4096 * 4096) with
  | some e => if e.u then t else { t with addr := e.pa + (t.addr - e.va), translated := true }
  | none => t

/-- The tiles of a partition's function that are open. -/
def Tile.isOpen (x : Tile) : Bool := decide (x.st = 1) || decide (x.st = 2)

/-- Open tiles of a port, the oldest first: partition and tile number. -/
def State.openTiles (s : State) (h : Nat) : List (Nat × Nat) :=
  ((s.hst.tiles.filter fun x => x.2.isOpen && decide (x.2.h = h)).insertionSort fun a b => a.2.born ≤ b.2.born).map
    fun x => (x.1 / 16, x.1 % 16)

/-- The entry is pinned by an open tile. -/
def State.pinned1 (s : State) (e : Atc) : Bool :=
  s.hst.tiles.any fun x => x.2.isOpen && decide (x.1 / 16 = e.part) && (decide (e.pasid = x.2.pasid) || e.global)
    && x.2.rowsOf.any fun r => overlaps r.1 r.2 e.va (e.size * e.pages)

/-- Pages may merge into one entry (R352). -/
def Atc.joins (a b : Atc) : Bool :=
  decide (a.part = b.part) && decide (a.pasid = b.pasid) && decide (a.size = b.size) && decide (a.size < 2 ^ 30)
    && decide ([a.r, a.w, a.priv, a.exe, a.n, a.u, a.global] = [b.r, b.w, b.priv, b.exe, b.n, b.u, b.global])
    && decide (a.va + a.size * a.pages = b.va) && decide (a.pa + a.size * a.pages = b.pa)
    && decide (a.va / (64 * a.size) = (b.va + b.size * b.pages - 1) / (64 * b.size))

/-- Put a translated page into the cache, merged with its neighbours (R352); a full cache gives up the least recently used entry
that no open tile pins (R353). While open tiles pin every entry the page is not kept, and is asked for again (the spec gives no case:
DESIGN CHOICE, log entry 68). -/
def State.putPage (p : Nat) (pasid : Option Nat) (g : Page) (s : State) : State :=
  if !g.r && !g.w then s
  else
    let e : Atc := { part := p, pasid := pasid, va := g.va, pa := g.pa, size := g.size, pages := 1, r := g.r, w := g.w,
                     priv := g.priv, exe := g.exe, n := g.n, u := g.u, global := g.global }
    let clear := s.hst.atc.filter fun x => !(decide (x.part = p) && decide (x.pasid = pasid) && overlaps x.va (x.size * x.pages) g.va g.size)
    let (e1, l1) := match clear.find? fun x => x.joins e with
      | some x => ({ x with pages := x.pages + 1 }, clear.erase x)
      | none => (e, clear)
    let (e2, l2) := match l1.find? fun x => e1.joins x with
      | some x => ({ e1 with pages := e1.pages + x.pages }, l1.erase x)
      | none => (e1, l1)
    if l2.length < 8192 then s.modHst fun x => { x with atc := e2 :: l2 }
    else match l2.reverse.find? fun x => !s.pinned1 x with
      | some v => s.modHst fun x => { x with atc := e2 :: l2.erase v }
      | none => s

/-- A translation has been used: it is the last to be given up (R353). -/
def State.touchAtc (p : Nat) (pasid : Option Nat) (va : Nat) (s : State) : State :=
  match s.atc p pasid va with
  | some e => s.modHst fun x => { x with atc := e :: x.atc.erase e }
  | none => s

/-- ATS_EN of a port. -/
def State.atsOn (s : State) (h : Nat) : Bool := bit (s.reg (rHstPortCfg h)) 1

/-- The lowest of a port's 64 tags that no Translation Request uses. -/
def State.trTag (s : State) (h : Nat) : Option Nat :=
  let base := s.fld (rHstPortCfg h) 31 18
  ((List.range 64).map fun i => base + i).find? fun t => !(s.hst.trs.any fun r => decide (r.h = h) && decide (r.tag = t))

/-- Send a Translation Request for an aligned 64 KiB, when a tag is free and none is outstanding for it (R353). -/
def State.askPage (h p : Nat) (pasid : Option Nat) (va : Nat) (s : State) : State :=
  let a := va / 65536 * 65536
  if s.hst.trs.any fun r => decide (r.part = p) && decide (r.pasid = pasid) && decide (r.va = a) then s
  else match s.trTag h with
    | some tag =>
      (((s.modHst fun x => { x with trs := x.trs ++ [{ h := h, tag := tag, part := p, pasid := pasid, va := a, stale := false }] }).glob
        (272 + 4 * h + 2) 1).emit (.transReq h tag a))
    | none => s

/-- A page request is outstanding or waits for the page. -/
def State.prPending (s : State) (p : Nat) (pasid : Option Nat) (va : Nat) : Bool :=
  s.hst.prs.any (fun r => decide (r.part = p) && decide (r.pasid = pasid) && decide (r.va = va))
    || s.hst.prWait.any fun r => decide (r.2.1 = p) && decide (r.2.2.1 = pasid) && decide (r.2.2.2 = va)

/-- Ask for what the open tiles of a port still need: pages without a translation and without a request of their own. -/
def State.pumpAsk (h : Nat) (s : State) : State :=
  each (s.openTiles h) (fun pt t =>
    let x := t.tile pt.1 pt.2
    each (x.pages.filter fun va => !t.pageOk pt.1 x va && !t.prPending pt.1 x.pasid va)
      (fun va u => u.askPage h pt.1 x.pasid va) t) s

/-- The pages of a TLP have translated. -/
def State.tlpOk (s : State) (p : Nat) (x : Tile) (y : Tlp) : Bool := (pagesOf y.addr (max 1 y.len)).all fun va => s.pageOk p x va

/-- Stages 4 and 5 (R336): a TLP of a tile is translated and sent, a read being remembered until its completion; one whose page has been
invalidated meanwhile waits with its tile (R355). A TLP of the host driver uses the link stream when it is Secure (R342). -/
def State.stage4 (h : Nat) (p tile : Option Nat) (t : Tlp) (stamp : Nat) (s : State) : State :=
  match p, tile with
  | none, _ => s.sendTlp h (if (s.stream h 0).secure then .on 0 false else .clear) t
  | some q, none => s.outTlp h q t
  | some q, some i =>
    let x := s.tile q i
    if s.tlpOk q x t then
      let goes := decide (s.way h q ≠ .discard)
      let u := s.modTile q i fun z =>
        { z with reads := if t.kind = .memRd ∧ goes then z.reads ++ [(t.tag, t.addr, t.len)] else z.reads,
                 sent := if t.kind = .memWr ∧ goes then z.sent + t.len else z.sent }
      (u.touchAtc q x.pasid (t.addr / 4096 * 4096)).outTlp h q (s.translate q x.pasid t)
    else
      s.modTile q i fun z =>
        { z with held := z.held.filter (fun y => decide (y.2 < stamp)) ++ [(t, stamp)] ++ z.held.filter fun y => decide (stamp ≤ y.2) }

/-- Stage 3 (R224, R225, R337): a TLP is held in stamp order, or goes on. -/
def State.stage3 (h : Nat) (p tile : Option Nat) (t : Tlp) (stamp : Nat) (s : State) : State :=
  if s.mustHold h p t then
    s.modHst fun x =>
      { x with held := x.held.filter (fun y => decide (y.stamp ≤ stamp))
                 ++ [{ h := h, t := t, part := p, stamp := stamp, gated := s.horizonHolds p t, tile := tile }]
                 ++ x.held.filter fun y => decide (stamp < y.stamp) }
  else s.stage4 h p tile t stamp

/-- A TLP of a tile goes on to stage 3. -/
def State.tileSend (p t : Nat) (y : Tlp) (stamp : Nat) (s : State) : State := s.stage3 (s.tile p t).h (some p) (some t) y stamp

/-- Move a tile on (R359, R360, R355): admitted when its whole footprint has translated, its held TLPs go in their order;
while ADMITTING, reads whose pages have translated go. -/
def State.tileMove (p t : Nat) (s : State) : State :=
  let x := s.tile p t
  let takes := decide (x.st = 1) && x.pages.all fun va => s.pageOk p x va
  let s1 := if takes then
      (s.modTile p t fun z => { z with st := 2 }).trace p 8 0 (BitVec.ofNat 64 x.base) true (BitVec.ofNat 64 (t + 2 * 256)) x.ctx
    else s
  let go := (s1.tile p t).st
  let pick (y : Tlp × Nat) : Bool := if go = 2 then s1.tlpOk p x y.1 else decide (y.1.kind = .memRd) && s1.tlpOk p x y.1
  let free := if go = 2 then x.held.takeWhile pick else x.held.filter pick
  let rest := if go = 2 then x.held.dropWhile pick else x.held.filter fun y => !pick y
  each free (fun y u => u.tileSend p t y.1 y.2) (s1.modTile p t fun z => { z with held := rest })

/-- Everything that an arrival lets happen on a port: tiles move on, requests that had no tag go. -/
def State.pump (h : Nat) (s : State) : State := (each (s.openTiles h) (fun pt t => t.tileMove pt.1 pt.2) s).pumpAsk h

/-- A page has failed: every open tile that needs it faults UNMAPPED, one already admitted with PARTIAL (R355, R356, R361). -/
def State.pageFail (h p : Nat) (pasid : Option Nat) (va : Nat) (s : State) : State :=
  each (s.openTiles h) (fun pt t =>
    let x := t.tile pt.1 pt.2
    if pt.1 = p ∧ x.pasid = pasid ∧ x.pages.contains va ∧ !t.pageOk p x va then
      t.tileFault p pt.2 .unmapped va (decide (x.st = 2))
    else t) s

/-- The lowest PRG index that is free. -/
def State.prIdx (s : State) : Option Nat := (List.range 512).find? fun i => !(s.hst.prs.any fun r => decide (r.prg = i))

/-- A page did not translate: one Page Request for it, or it fails at once (R356). -/
def State.pageMiss (h p : Nat) (pasid : Option Nat) (va : Nat) (s : State) : State :=
  if !bit (s.reg (rHstPortCfg h)) 2 ∨ s.hst.priOff.contains p then s.pageFail h p pasid va
  else if s.prPending p pasid va then s
  else match s.prIdx with
    | some i =>
      (((s.modHst fun x => { x with prs := x.prs ++ [{ prg := i, h := h, part := p, pasid := pasid, va := va }] }).glob
        (272 + 4 * h + 3) 1).emit (.pageReq h i va))
    | none => s.modHst fun x => { x with prWait := x.prWait ++ [(h, p, pasid, va)] }

/-- A page request's index is free again: the oldest that waits takes it. -/
def State.prNext (s : State) : State :=
  match s.hst.prWait with
  | (h, p, pasid, va) :: rest => (s.modHst fun x => { x with prWait := rest }).pageMiss h p pasid va
  | [] => s

/-- A Translation Request ends: its pages are cached; pages that an open tile needs of its 64 KiB and that are missing, or lack a
permission, are requested (R353, R356). -/
def State.trEnds (r : TrReq) (pages : List Page) (s : State) : State :=
  let t := each pages (State.putPage r.part r.pasid) (s.modHst fun x => { x with trs := x.trs.erase r })
  let need := ((t.openTiles r.h).map fun pt =>
    let x := t.tile pt.1 pt.2
    if pt.1 = r.part ∧ x.pasid = r.pasid then
      x.pages.filter fun va => decide (r.va ≤ va) && decide (va < r.va + 65536) && !t.pageOk pt.1 x va
    else []).flatten.dedup
  (each need (fun va u => u.pageMiss r.h r.part r.pasid va) t).pump r.h

/-- TRANSLATION_COMPLETION (R353, R354): a stale one is discarded and the request sent again. -/
def execTranslationCompletion (h tag : Nat) (ok : Bool) (pages : List Page) (s : State) : Ans :=
  .next (
    if s.boot.breached then s
    else match s.hst.trs.find? fun r => decide (r.h = h) && decide (r.tag = tag) with
    | none => s
    | some r =>
      if r.stale then
        (s.modHst fun x => { x with trs := x.trs.map fun y => if y = r then { y with stale := false } else y }).emit
          (.transReq h tag r.va)
      else s.trEnds r (if ok then pages else []))

/-- TRANSLATION_TIMEOUT (R353). -/
def execTranslationTimeout (h tag : Nat) (s : State) : Ans :=
  .next (
    if s.boot.breached then s
    else match s.hst.trs.find? fun r => decide (r.h = h) && decide (r.tag = tag) with
    | none => s
    | some r => s.trEnds r [])

/-- ATS_INVALIDATE_REQUEST (R354): entries covered are removed, requests outstanding for the range are stale, and what open tiles
need is translated again (R355). -/
def execAtsInvalidateRequest (h itag rid : Nat) (pasid : Option Nat) (va len : Nat) (s : State) : Ans :=
  .next (
    match s.tdiOf h rid with
    | none => s
    | some p =>
      if !s.hstOn h ∨ 32 ≤ (s.hst.invs.filter fun x => decide (x.1 = h)).length then s
      else
        let same (q : Option Nat) : Bool := decide (pasid = none) || decide (q = pasid) || decide (q = none)
        let gone := s.hst.atc.filter fun e => decide (e.part = p) && same e.pasid && overlaps e.va (e.size * e.pages) va len
        let used (a n : Nat) : Bool := gone.any fun e => overlaps a n e.va (e.size * e.pages)
        let reads := ((s.hst.tiles.filter fun x => decide (x.1 / 16 = p)).map fun x =>
          (x.2.reads.filter fun r => used r.2.1 (max 1 r.2.2)).map fun r => r.1).flatten
        (s.modHst fun x =>
          { x with atc := x.atc.filter fun e => !gone.contains e,
                   trs := x.trs.map (fun r =>
                     if decide (r.part = p) && same r.pasid && overlaps r.va 65536 va len then { r with stale := true } else r),
                   invs := x.invs ++ [(h, itag, reads)] }).pump h)

/-- INVALIDATION_COMPLETE (R354): every read that used a removed entry has received its completion. -/
def execInvalidationComplete (h itag : Nat) (s : State) : Ans :=
  .next (
    if s.boot.breached then s
    else match s.hst.invs.find? fun x => decide (x.1 = h) && decide (x.2.1 = itag) with
    | some x => if x.2.2.isEmpty then (s.modHst fun y => { y with invs := y.invs.erase x }).emit (.invCpl h itag) else s
    | none => s)

/-- PRG_RESPONSE (R356): code 0 Success, 1 Invalid Request, 15 Response Failure. -/
def execPrgResponse (h prg code : Nat) (s : State) : Ans :=
  .next (
    if s.boot.breached then s
    else match s.hst.prs.find? fun r => decide (r.h = h) && decide (r.prg = prg) with
    | none => s
    | some r =>
      let t := s.modHst fun x => { x with prs := x.prs.erase r }
      if code = 0 then (t.askPage h r.part r.pasid r.va).prNext
      else if code = 15 then
        let mine := t.hst.prs.filter fun y => decide (y.part = r.part)
        let wait := t.hst.prWait.filter fun y => decide (y.2.1 = r.part)
        let u := (t.modHst fun x =>
          { x with prs := x.prs.filter (fun y => decide (y.part ≠ r.part)),
                   prWait := x.prWait.filter (fun y => decide (y.2.1 ≠ r.part)),
                   priOff := if x.priOff.contains r.part then x.priOff else x.priOff ++ [r.part] }).flag (rHstPortStatus h) 1
        (each ((r.pasid, r.va) :: mine.map (fun y => (y.pasid, y.va)) ++ wait.map fun y => (y.2.2.1, y.2.2.2))
          (fun y v => v.pageFail h r.part y.1 y.2) u).prNext
      else (t.pageFail h r.part r.pasid r.va).prNext)

/-- PRI_TIMEOUT (R356). -/
def execPriTimeout (prg : Nat) (s : State) : Ans :=
  .next (
    if s.boot.breached then s
    else match s.hst.prs.find? fun r => decide (r.prg = prg) with
    | none => s
    | some r => ((s.modHst fun x => { x with prs := x.prs.erase r }).pageFail r.h r.part r.pasid r.va).prNext)

/-! TLPs from the transaction layer (R336, R342, R360). -/

/-- Bytes of TLPs that a port holds (R337). -/
def State.hostHeld (s : State) (h : Nat) : Nat :=
  (((s.hst.held.filter fun x => decide (x.h = h)).map fun x => x.t.len).sum)
    + ((s.hst.tiles.filter fun x => decide (x.2.h = h)).map fun x => (x.2.held.map fun y => y.1.len).sum).sum

/-- The oldest tile of a function and PASID that a request belongs to (R360). -/
def State.tileFor (s : State) (p : Nat) (t : Tlp) : Option Nat :=
  let c := s.hst.tiles.filter fun x =>
    decide (x.1 / 16 = p) && decide (x.2.st ≠ 0) && decide (x.2.pasid = t.pasid) && x.2.covers t
      && (if t.kind = .memRd then x.2.rd else x.2.wr)
  (c.foldl (fun (b : Option (Nat × Tile)) x => match b with
    | some y => if x.2.born < y.2.born then some x else some y
    | none => some x) none).map fun x => x.1 % 16

/-- Bytes of writes that a tile may send before it is admitted (R360). -/
def State.preadmit (s : State) : Nat := 1024 * max 1 (s.fld rHstAtsCfg 31 24)

/-- A request of a partition function with AT = 00 (R360). A TLP that finds no room is not taken. -/
def State.tileTlp (h p : Nat) (t : Tlp) (s : State) : State :=
  match s.tileFor p t with
  | none => s.fault p t.ctx 2 .unmapped t.addr 0 0 false
  | some i =>
    let x := s.tile p i
    if x.st = 3 then s
    else if s.mustHold h (some p) t && decide (262144 < s.hostHeld h + t.len) then (s.cntr p 24 (Config.waitedCycles s.fresh)).used
    else if x.st = 2 ∧ x.held.isEmpty ∧ s.tlpOk p x t then s.tileSend p i t s.sg.clk
    else if x.st = 1 ∧ t.kind = .memRd ∧ s.tlpOk p x t then s.tileSend p i t s.sg.clk
    else
      let w := ((x.held.filter fun y => decide (y.1.kind = .memWr)).map fun y => y.1.len).sum
      if 262144 < s.hostHeld h + t.len then (s.cntr p 24 (Config.waitedCycles s.fresh)).used
      else if x.st = 1 ∧ t.kind = .memWr ∧ s.preadmit < w + t.len then s
      else (s.modTile p i fun y => { y with held := y.held ++ [(t, s.sg.clk)] }).pumpAsk h

/-- A TLP from the transaction layer (R334 to R337, R342, R492). One that finds no room in the hold is not taken. -/
def State.txTlp (h : Nat) (t : Tlp) (s : State) : State :=
  if decide (s.service = .off) || decide (s.params.hcCount ≤ h) then s
  else if s.boot.breached then s
  else if !s.hstOn h then s.emit (.tlp h 0 t)
  else
    let full (p : Option Nat) : Bool := s.mustHold h p t && decide (262144 < s.hostHeld h + t.len)
    match s.tdiOf h t.rid with
    | none => if full none then s else s.stage3 h none none t s.sg.clk
    | some p =>
      let req := decide (t.kind = .memRd) || decide (t.kind = .memWr)
      if s.pst p = 4 ∨ s.pst p = 5 then s
      else if req && !t.translated then s.tileTlp h p t
      else if full (some p) then (s.cntr p 24 (Config.waitedCycles s.fresh)).used
      else s.stage3 h (some p) none t s.sg.clk

/-- HOST_TLP_TX (R334 to R337, R342, R492). -/
def execHostTlpTx (h : Nat) (t : Tlp) (s : State) : Ans := .next (s.txTlp h t)

/-! TLPs from the data-link side (R343, R349, R361). -/

/-- An IDE check failure (R343): the TLP is discarded, the stream enters Insecure. -/
def State.ideFail (h i : Nat) (s : State) : State := (s.count (rHstPortIdeErr h) 31 0 1).streamDown h i

/-- A completion reaches the transaction layer, unless its read was ended in its place (R361). -/
def State.rxCpl (h : Nat) (t : Tlp) (s : State) : State :=
  if s.hst.aborted.contains (h, t.tag) then s.modHst fun x => { x with aborted := x.aborted.erase (h, t.tag) }
  else
    (s.modHst fun x =>
      { x with tiles := x.tiles.mapAll Tile.free (fun _ y =>
                 if y.h = h then { y with reads := y.reads.filter fun r => decide (r.1 ≠ t.tag) } else y),
               invs := x.invs.map fun y => if y.1 = h then (y.1, y.2.1, y.2.2.filter fun r => decide (r ≠ t.tag)) else y }).emit
      (.tlp h 1 t)

/-- A memory request of the host for a TDI's function (R349, R492). -/
def State.rxReq (h p : Nat) (t : Tlp) (s : State) : State :=
  let x := s.tdi p
  let ok := if x.st = 2 then decide (t.stream = some x.stream) && t.tbit else x.ideOpt
  if ok && decide (s.pst p ≠ 4) && decide (s.pst p ≠ 5) then s.emit (.tlp h 1 t)
  else
    let u := s.modTdi p fun y => { y with refused := satAdd 65535 y.refused 1 }
    if t.kind = .memRd then u.emit (.tlp h 2 (abortTlp t.tag)) else u

/-- HOST_TLP_RX (R339, R343, R349): completions to the block's own tags are consumed (TRANSLATION_COMPLETION gives their effect). -/
def execHostTlpRx (h : Nat) (t : Tlp) (s : State) : Ans :=
  .next (
    if decide (s.service = .off) || decide (s.params.hcCount ≤ h) then s
    else if s.boot.breached then s
    else if !s.hstOn h then s.emit (.tlp h 1 t)
    else
      let take (u : State) : State :=
        match t.kind with
        | .cpl _ => if s.fld (rHstPortCfg h) 31 18 ≤ t.tag ∧ t.tag < s.fld (rHstPortCfg h) 31 18 + 64 then u else u.rxCpl h t
        | .memRd | .memWr =>
          (match u.tdiOf h t.rid with
          | some p => u.rxReq h p t
          | none => u.emit (.tlp h 1 t))
        | _ => u.emit (.tlp h 1 t)
      match t.stream with
      | some i =>
        if !(s.stream h i).secure then s.count (rHstPortIdeErr h) 31 0 1
        else if !t.ideOk then s.ideFail h i
        else take ((s.wants [108 + h]).glob (272 + 4 * h + 1) 1)
      | none => take s)

/-! The link pin (R79, R344). -/

/-- HC_LINK_UP_RISE (R67). -/
def execHcLinkUpRise (h : Nat) (s : State) : Ans :=
  .next (if h < s.params.hcCount then s.modPins fun q => { q with hcUp := setBit q.hcUp h true } else s)

/-- HC_LINK_UP_FALL (R344). -/
def execHcLinkUpFall (h : Nat) (s : State) : Ans :=
  .next (
    if s.params.hcCount ≤ h then s
    else
      let t := each (List.range 8) (State.streamDown h) (s.modPins fun q => { q with hcUp := setBit q.hcUp h false })
      let mine := parts16.filter fun p => decide (s.tdiPort p = some h)
      let u := (each mine State.tdiError t).modHst fun x =>
        { x with trs := x.trs.filter (fun r => decide (r.h ≠ h)), prs := x.prs.filter (fun r => decide (r.h ≠ h)),
                 prWait := x.prWait.filter (fun r => decide (r.1 ≠ h)), doe := x.doe.set none h none }
      each mine (fun p v => v.tilesFault p .unmapped) (u.endSecuredWhere fun x => decide (x.t = .doe h)))

/-! Tiles (R357 to R362). -/

/-- A tile message as a TLP: a vendor-defined Type 1 message with the payload of R357. -/
def msgTlp (op : Nat) (m : TileMsg) : Tlp :=
  { kind := .msg, rid := m.rid, addr := 0, len := 32, pasid := none, tag := 0, translated := false, ctx := m.ctx, stream := none,
    tbit := false, ideOk := true, ro := false, ido := false,
    payload := [BitVec.ofNat 8 op, BitVec.ofNat 8 m.tile] ++ leBytes 2 m.ctx ++ [m.dir, 0, 0, 0] ++ leBytes 8 m.base ++ leBytes 4 m.rowBytes
      ++ leBytes 4 m.pitch ++ leBytes 2 m.rows ++ List.replicate 6 0 }

/-- A message of another vendor ID, or at a port that is not enabled, is no tile message: it goes on like any TLP (R81, R339, R357). -/
def State.tileVid (s : State) (h : Nat) (m : TileMsg) : Bool :=
  s.hstOn h && decide (s.fld rHstTileCfg 15 0 ≠ 0xFFFF) && decide (s.fld rHstTileCfg 15 0 = m.vid)

/-- The checks of an open (R358). -/
def State.tileRefused (s : State) (h p : Nat) (m : TileMsg) (x : Tile) : Bool :=
  !m.resvOk || decide (m.dir &&& 3 = 0) || decide (m.dir &&& 0xFC ≠ 0) || decide (16 ≤ m.tile)
    || !(decide ((s.ctx m.ctx).st ≠ 0) && decide ((s.ctx m.ctx).part = p)) || decide ((s.tile p m.tile).st ≠ 0)
    || decide (m.rows = 0) || decide (4096 < m.rows) || decide (m.rowBytes = 0) || decide (4194304 < m.rows * m.rowBytes)
    || (decide (m.rows ≠ 1) && decide (m.pitch < m.rowBytes)) || decide (1024 < x.pages.length)
    || decide (s.way h p = .discard)

/-- TILE_OPEN (R357 to R359, R363). A port with 64 open or faulted tiles takes no further message. -/
def execTileOpen (h : Nat) (m : TileMsg) (s : State) : Ans :=
  .next (
    if !s.tileVid h m then s.txTlp h (msgTlp 1 m)
    else match s.tdiOf h m.rid with
      | none => s
      | some p =>
        let k := s.ctx m.ctx
        let x : Tile :=
          { st := 1, h := h, ctx := m.ctx, pasid := k.pasid, rd := bit m.dir 0, wr := bit m.dir 1, base := m.base,
            rowBytes := m.rowBytes, pitch := m.pitch, rows := m.rows, held := [], reads := [], sent := 0,
            born := s.hst.tileNo, closing := false }
        if s.tileRefused h p m x then s.fault p m.ctx 2 .badParam m.base 0 m.tile false
        else if 64 ≤ (s.hst.tiles.filter fun y => decide (y.2.st ≠ 0) && decide (y.2.h = h)).length then s
        else
          let t := ((s.modTile p m.tile fun _ => x).modHst fun y => { y with tileNo := y.tileNo + 1 }).trace p 8 0
            (BitVec.ofNat 64 m.base) true (BitVec.ofNat 64 (m.tile + 256)) m.ctx
          if s.pst p = 4 ∨ s.pst p = 5 ∨ k.st = 3 ∨ k.resetting then t.tileFault p m.tile .fenced m.base false
          else if !s.atsOn h then t.tileFault p m.tile .unmapped m.base false
          else (each x.pages (State.touchAtc p x.pasid) t).pump h)

/-- The tile is FREE. -/
def State.tileFree (p t : Nat) (s : State) : State :=
  let x := s.tile p t
  (s.modTile p t fun _ => Tile.free).trace p 8 0 (BitVec.ofNat 64 x.base) true (BitVec.ofNat 64 (t + 3 * 256)) x.ctx

/-- A closing tile whose last TLP has left is FREE (R362). -/
def State.tileClosed (p t : Nat) (s : State) : State :=
  let x := s.tile p t
  if x.closing && x.held.isEmpty && !(s.hst.held.any fun y => decide (y.part = some p) && decide (y.tile = some t)) then s.tileFree p t
  else s

/-- TILE_CLOSE (R362): only OP and TILE of the message count. -/
def execTileClose (h : Nat) (m : TileMsg) (s : State) : Ans :=
  .next (
    if !s.tileVid h m then s.txTlp h (msgTlp 2 m)
    else match s.tdiOf h m.rid with
      | none => s
      | some p =>
        let t := m.tile % 16
        let x := s.tile p t
        if x.st = 1 then s.tileFault p t .badParam x.base false
        else if x.st = 2 then (s.modTile p t fun y => { y with closing := true }).tileClosed p t
        else if x.st = 3 then s.tileFree p t
        else s)

/-! Release of held egress (R223 to R225). -/

/-- An egress item of a partition leaves its gate: the cycles that it was held are counted (R507, counter 6). -/
def State.wasHeld (p stamp : Nat) (s : State) : State := s.cntr p 6 (s.sg.clk - stamp)

/-- Fabric: the frames of each partition that the horizon has passed are free to be sealed, in their order. -/
def State.freeFabric (k : Nat) (s : State) : State :=
  let out := (s.port k).q.filter fun i => !i.out && !i.free && s.passes (i.f.si - 1) i.stamp
  (each out (fun i t => t.wasHeld (i.f.si - 1) i.stamp) s).modPort k fun q =>
    { q with q := q.q.map fun i => if out.contains i then { i with free := true } else i }

/-- A held TLP goes on to stage 4. -/
def State.freeTlp (h : Nat) (x : HeldTlp) (s : State) : State :=
  let t := s.modHst fun y => { y with held := y.held.erase x }
  let u := match x.part with
    | some p => when x.gated (State.wasHeld p x.stamp) t
    | none => t
  let v := u.stage4 h x.part x.tile x.t x.stamp
  match x.part, x.tile with
  | some p, some i => v.tileClosed p i
  | _, _ => v

/-- Host: held TLPs of a port that the horizon has passed go on, in stamp order, each unless one before it stays that it may not pass
(R225, R337). -/
def State.freeHost (h : Nat) (s : State) : State :=
  ((s.hst.held.filter fun x => decide (x.h = h)).foldl (fun (acc : State × List HeldTlp) x =>
    if (x.gated && !(x.part.all fun p => s.passes p x.stamp)) || acc.2.any fun y => !mayPass x.t y.t then (acc.1, acc.2 ++ [x])
    else (acc.1.freeTlp h x, acc.2)) (s, [])).1

/-- North pass-through: held writes of a group that have passed go to memory. -/
def State.freeNorth (n : Nat) (s : State) : State :=
  let out := s.sg.north.filter fun x => decide (x.q.group = n) && s.passes x.part x.stamp
  let t := s.modSg fun g => { g with north := g.north.filter fun y => !out.contains y }
  each out (fun x u => (u.wasHeld x.part x.stamp).msWrite x.q.group x.q.port x.q.addr (x.q.len + 1) x.data x.be (.pass x.q)) t

/-- Command DMA: held writes that have passed are made, and those kept back take their places. -/
def State.freeCdm (s : State) : State :=
  let out := s.cmd.cdm.filter fun x => s.passes x.1 x.2.1
  let t := s.modCmd fun c => { c with cdm := c.cdm.filter fun y => !(s.passes y.1 y.2.1) }
  each parts16 State.dumpNext (each out (fun x u => (u.wasHeld x.1 x.2.1).cdmMake x.2.2) t).cdmRefill

/-- Trace: staged records that have passed are written. -/
def State.freeTrace (s : State) : State :=
  each parts16 (fun p t => each rings4 (fun r u =>
    let v := u.writeRing p r true
    let gone := (u.ring p r).staged.take ((u.ring p r).staged.length - (v.ring p r).staged.length)
    each gone (fun x w => w.wasHeld p x.2) v) t) s

/-- EGRESS_RELEASE (R223 to R225). -/
def execEgressRelease (g : Gate) (s : State) : Ans :=
  .next (
    if !s.runs then s
    else match g with
      | .fabric k => s.freeFabric k
      | .host h => s.freeHost h
      | .north n => s.freeNorth n
      | .cdm => s.freeCdm
      | .trace => s.freeTrace)

end Sys2Proof.Machine
end

