-- ==== Sys2Proof/Machine/Commands.lean ====
section
/-!
DEFINITION. The command interface (R364 to R390): doorbells, host and context queues, CARRY, REPLY_POLL, stored replies, NOP and
IDENTIFY.
-/
namespace Sys2Proof.Machine

/-! Identity registers (R2 to R5). -/

/-- GLB_RELEASE: release 4.2. -/
def releaseWord : Word := 0x00040002

/-- Code of a profile (R3). -/
def profCode : Profile → Nat
  | .a => 0 | .s => 1 | .m => 2

/-- GLB_PROFILE (R4): the strap, and the profile in force, 3 with MISMATCH; 0 until the fuses are sensed (R532). -/
def State.glbProfile (s : State) : Word :=
  putB 4 s.boot.mismatch ||| put 2 s.pins.strap
    ||| put 0 (if !s.boot.sensed then 0 else if s.boot.mismatch then 3 else profCode s.params.profile)

/-- GLB_CONFIG (R56). -/
def State.glbConfig (s : State) : Word :=
  putB 11 s.params.span8 ||| put 9 s.params.hcCount ||| put 4 s.params.fpCount ||| put 0 s.params.sgCount

/-! Doorbells (R369). -/

/-- Key of the queue that a doorbell names. -/
def bellKey (hostQ : Bool) (ctx queue : Nat) : Nat := if hostQ then queue % 8 else 16 + 8 * ctx + queue % 8

/-- Why a doorbell is ignored (R369): reason 5 names the origin itself and comes first; 0 when it is taken. A queue of a context in
TEARDOWN is being destroyed. -/
def State.bellReason (s : State) (rq : Rq) (hostQ : Bool) (ctx queue index : Nat) : Nat :=
  let q := s.queue (bellKey hostQ ctx queue)
  if 2 ≤ rq.origin then 5
  else if !q.valid then 1
  else if rq.origin ≠ (if q.owner = 3 then 1 else 0) then 2
  else if rq.origin = 1 ∧ rq.part ≠ (s.ctx ctx).part then 3
  else if 2 ^ q.log2 ≤ index then 4
  else if q.destroying ∨ (!hostQ ∧ (s.ctx ctx).st = 3) then 6
  else 0

/-- A refused doorbell: the first since DB_REFUSED was cleared is recorded. -/
def State.bellRefuse (rq : Rq) (hostQ : Bool) (ctx queue why : Nat) (s : State) : State :=
  let t := if bit (s.reg rCmdStatus) 2 then s
    else s.modCmd fun c => { c with dbErr := (ctx, rq.origin, rq.part, if hostQ then queue % 4 else queue % 8, why) }
  (t.flag rCmdStatus 2).glob 38 1

/-- A write of CMD_DOORBELL (R369). KIND 0 moves the TAIL, backwards or past the head too; KIND 1 releases the reply entries from the
old head to the new one, and an equal index releases none. -/
def State.bell (rq : Rq) (hostQ : Bool) (ctx queue : Nat) (reply : Bool) (index : Nat) (s : State) : State :=
  let why := s.bellReason rq hostQ ctx queue index
  let k := bellKey hostQ ctx queue
  if why ≠ 0 then s.bellRefuse rq hostQ ctx queue why
  else if reply then
    s.modQueue k fun q => { q with rUsed := q.rUsed - (index + 2 ^ q.log2 - q.rHead) % 2 ^ q.log2, rHead := index }
  else
    (s.modQueue k fun q => { q with tail := index, wait := if q.wait = 5 then 0 else q.wait }).touchCtx
      (if hostQ then 0xFFFF else ctx)

/-- SUBMISSION_DOORBELL (R369). -/
def execSubmissionDoorbell (rq : Rq) (hostQ : Bool) (ctx queue index : Nat) (s : State) : Ans :=
  .next (s.portWrite rq false fun r t => (t.bell r hostQ ctx queue false index, false))

/-- REPLY_DOORBELL (R369). -/
def execReplyDoorbell (rq : Rq) (hostQ : Bool) (ctx queue index : Nat) (s : State) : Ans :=
  .next (s.portWrite rq false fun r t => (t.bell r hostQ ctx queue true index, false))

/-! Host queues (CMD_HQn registers) and context queues (R366, R367, R388). -/

/-- A host queue's ring exponent: values outside 4 to 16 act as the nearer of them. -/
def State.hqLog2 (s : State) (n : Nat) : Nat := max 4 (min 16 (s.fld (rCmdHqCfg n) 7 3))

/-- ENABLE of a host queue is written 1: HEAD and TAIL become 0, the reply PHASE 1. -/
def State.hostQueueOpen (n : Nat) (s : State) : State :=
  if 4 ≤ n then s
  else
    let q := s.queue n
    let t := s.flag (rCmdHqCfg n) 0
    if q.valid then t.modQueue n fun x => { x with head := 0, tail := 0, phase := true }
    else t.modQueue n fun _ =>
      { Queue.none with valid := true, owner := 1, log2 := s.hqLog2 n, sq := s.pair (rCmdHqSq n), rq := s.pair (rCmdHqRq n),
                        phase := true }

/-- Packets from HEAD to TAIL: their sizes stand in the ring in memory, so a number from a quarter of the entries to all of them
(a free value). -/
def Queue.packets (q : Queue) (v : BitVec 512) : Nat :=
  let n := (q.tail + 2 ^ q.log2 - q.head) % 2 ^ q.log2
  (n + 3) / 4 + v.toNat % (n - (n + 3) / 4 + 1)

/-- Destroy a queue (R388): packets at or after HEAD are discarded and counted; it is removed once its commands are answered. -/
def State.destroyQueue (path : Path) (killer : Option Pend) (s : State) : State :=
  match qKey path with
  | some k =>
    let t := (s.modQueue k fun q =>
      { q with destroying := true, discarded := q.packets s.free, head := q.tail, wait := 0, killer := killer }).used
    finishing (t.reapQueue path)
  | none => s

/-- HOST_QUEUE_ENABLE. -/
def execHostQueueEnable (rq : Rq) (n : Nat) (s : State) : Ans := .next (s.ctlWrite rq (State.hostQueueOpen n))

/-- ENABLE of a host queue is written 0: as QUEUE_DESTROY. -/
def State.hostQueueClose (n : Nat) (s : State) : State :=
  if n < 4 ∧ (s.queue n).valid ∧ !(s.queue n).destroying then s.destroyQueue (.hostq n) none else s

/-- HOST_QUEUE_DISABLE (R388). -/
def execHostQueueDisable (rq : Rq) (n : Nat) (s : State) : Ans := .next (s.ctlWrite rq (State.hostQueueClose n))

/-- Plots that a range of bytes touches. -/
def plotsOf (a n : Nat) : List Nat := (List.range ((a + n - 1) / 65536 + 1 - a / 65536)).map fun i => a / 65536 + i

/-- A ring of a DEVICE queue lies wholly within LIVE objects of the partition whose SYSTEM bit is 0 (R367). -/
def State.ringInside (s : State) (p a n : Nat) : Bool :=
  (plotsOf a n).all fun x =>
    let y := s.plotOf x
    s.plotLive p x && y.bound && !y.system && decide ((s.obj p y.obj).st = 1) && decide ((s.obj p y.obj).gen = y.gen)

/-- A ring of a HOST queue lies outside every protected span (R367). -/
def State.ringOutside (s : State) (a n : Nat) : Bool :=
  (List.range (n / 256)).all fun i => decide (s.groupFor (a + 256 * i) = none)

/-- A ring is placed as R367 asks: in the S-profile a DEVICE ring lies in the switch compute's memory. -/
def State.ringOk (s : State) (p owner a n : Nat) : Bool :=
  if owner = 1 then s.ringOutside a n else decide (s.params.profile = .s) || s.ringInside p a n

/-- QUEUE_CREATE (R366, R367). -/
def execQueueCreate (h : Hdr) (ctx queue log2 owner sq rq : Nat) (s : State) : Ans :=
  .next (
    let k := 16 + 8 * ctx + queue % 8
    let rings := decide (owner = 3) && decide (s.params.profile ≠ .s)
    let objs := if rings then s.ringObjs sq rq log2 else []
    s.admitWith ⟨0x0203, [.host], .all, 24, 0, false⟩ h []
      (s.restoreFirst h.part ctx <|> if s.pinWait h.part objs then some 0 else none)
      (s.ctxFails h.part ctx 16 ++ chk (decide (queue < 8) && !(s.queue k).valid) .badParam 18
        ++ chk (decide (4 ≤ log2) && decide (log2 ≤ 16)) .badParam 19
        ++ chk (decide (owner = 1) || decide (owner = 3)) .badParam 20
        ++ chk (decide (sq % max (64 * 2 ^ log2) 4096 = 0)) .badParam 24
        ++ chk (decide (rq % max (32 * 2 ^ log2) 4096 = 0)) .badParam 32
        ++ chk (decide (16 < log2) || s.ringOk h.part owner sq (64 * 2 ^ log2)) .badParam 24
        ++ chk (decide (16 < log2) || s.ringOk h.part owner rq (32 * 2 ^ log2)) .badParam 32)
      (fun p t =>
        let u := each objs (fun i v => v.modObj h.part i fun x => { x with refs := x.refs + 1 }) t
        (u.modQueue k fun _ =>
          { Queue.none with valid := true, owner := owner, log2 := log2, sq := sq, rq := rq, phase := true, rings := rings }).ok
            p 0))

/-- QUEUE_DESTROY (R388). -/
def execQueueDestroy (h : Hdr) (ctx queue : Nat) (s : State) : Ans :=
  .next (
    let q := s.queue (16 + 8 * ctx + queue % 8)
    s.admitWith ⟨0x0204, [.host], .all, 3, 0, false⟩ h [] (s.restoreFirst h.part ctx)
      (s.ctxFails h.part ctx 16 ++ chk (decide (queue < 8) && q.valid && !q.destroying) .badParam 18)
      (fun p t => t.destroyQueue (.ctxq ctx queue) (some p)))

/-! Class 0x00 (R380 to R382). -/

/-- NOP (R382). -/
def execNop (h : Hdr) (s : State) : Ans :=
  .next (s.admitCmd ⟨0x0000, [.mgmt, .host, .tenant, .device], .all, 0, 0, false⟩ h [] (fun p t => t.ok p 0))

/-- IDENTIFY (R382). -/
def execIdentify (h : Hdr) (s : State) : Ans :=
  .next (s.admitCmd ⟨0x0001, [.mgmt, .host, .tenant, .device], .all, 0, 0, false⟩ h []
    (fun p t => t.ok p (releaseWord.toNat + t.glbProfile.toNat * 2 ^ 32 + t.glbConfig.toNat * 2 ^ 64
      + t.memberOf h.part * 2 ^ 96)))

/-- CARRY (R380): the record is opened, and its inner packet is presented on the path `.carried`; the outer reply follows the
inner command's final completion. -/
def execCarry (h : Hdr) (sid recAddr recLen rplAddr rplLen maxReply : Nat) (opens : Bool) (s : State) : Ans :=
  .next (s.admitCmd ⟨0x0002, [.host, .device], .all, 28, 0, false⟩ h []
    (fun p t =>
      if !(t.cmd.sessions.any fun x => decide (x.sid = sid) && x.live) then t.endsWith p .badParam
      else if !opens then (t.cntr h.part 9 1).endsWith p .authFailed
      else if rplLen < maxReply then t.endsWith p .badParam
      else t.modCmd fun c =>
        { c with carries := c.carries ++ [{ id := c.carryNo, p := p, sid := sid, rplAddr := rplAddr, rplLen := rplLen }],
                 carryNo := c.carryNo + 1 }))

/-- The secured session whose stored replies a path reads. -/
def State.pollSid (s : State) (path : Path) : Option Nat :=
  match path with
  | .mgmt sid => some sid
  | .doe _ sid => some sid
  | .carried id => (s.cmd.carries.find? fun c => decide (c.id = id)).map fun c => c.sid
  | _ => none

/-- REPLY_POLL (R381). -/
def execReplyPoll (h : Hdr) (seq : Word) (s : State) : Ans :=
  .next (s.admitCmd ⟨0x0003, [.mgmt, .host, .tenant], .all, 4, 0, false⟩ h []
    (fun p t =>
      match t.pollSid h.path with
      | none => t.endsWith p .badParam
      | some sid =>
        match t.cmd.stored.find? fun x => decide (x.1 = sid) && decide (x.2.seq = seq) with
        | some x => t.complete [{ p.ends .done with stored := some x.2 }]
        | none =>
          if t.cmd.inflight.any fun q => decide (q ≠ p) && decide (t.pollSid q.h.path = some sid) && decide (q.h.seq = seq)
          then t.endsWith p .accepted
          else t.endsWith p .badParam))

/-- STORED_REPLY_EXPIRE (R381): a reply is kept 10 s. -/
def execStoredReplyExpire (sid : Nat) (seq : Word) (s : State) : Ans :=
  .next (s.modCmd fun c =>
    match c.stored.find? fun x => decide (x.1 = sid) && decide (x.2.seq = seq) with
    | some x => { c with stored := c.stored.erase x }
    | none => c)

end Sys2Proof.Machine
end

