-- ==== Sys2Proof/Machine/Parts.lean ====
section
/-!
DEFINITION. Partitions: assignment (R386, R283, R287, R289), regions (R386, R231), policy (R440), staging of manifests (R387, R438)
and the rejoin record (R446 to R448).
-/
namespace Sys2Proof.Machine

/-! Host ranges and the regions they map onto (R98, R386). -/

/-- Host bytes that whole regions of every group take: 2^NBITS times the anchor span. -/
def State.unitSize (s : State) : Nat := 2 ^ s.fld rGlbIlv 1 0 * s.span

/-- Anchor entries that one aligned unit of host addresses maps onto; none when a part of it lies outside every span. -/
def State.unitEntries (s : State) (b : Nat) : Option (List Nat) :=
  let g := s.toLocal b
  let low := (s.ilv.filter fun q => decide (2 ^ q < s.unitSize)).length
  let cnt := s.unitSize / s.span / 2 ^ low
  let serving := s.groups.filter fun n =>
    if s.ilv.isEmpty then s.inSpan n g
    else s.ilv.zipIdx.all fun x => decide (2 ^ x.1 < s.unitSize) || decide (n / 2 ^ x.2 % 2 = b / 2 ^ x.1 % 2)
  let at_ := (serving.map fun n => (List.range cnt).map fun i => (n, g + i * s.span)).flatten
  if at_.isEmpty || !(at_.all fun x => s.inSpan x.1 x.2) then none
  else some (at_.map fun x => s.ancFirst x.1 + (x.2 - s.protBase x.1) / s.span)

/-- Anchor entries of a host range; none when it is not aligned or leaves the spans. -/
def State.rangeEntries (s : State) (base size : Nat) : Option (List Nat) :=
  if base % s.unitSize ≠ 0 ∨ size % s.unitSize ≠ 0 then none
  else (List.range (size / s.unitSize)).foldl (fun (a : Option (List Nat)) i =>
    match a, s.unitEntries (base + i * s.unitSize) with
    | some x, some y => some (x ++ y)
    | _, _ => none) (some [])

/-- Every region of a range is Unowned. -/
def State.allUnowned (s : State) (es : List Nat) : Bool := es.all fun e => decide ((s.anchor e).st = 0)

/-- Make a region Live for a partition under its memory slot: what the caches still hold of it is discarded (R199). -/
def State.ownRegion (p : Nat) (e : Nat) (s : State) : State :=
  ((s.dropRegion e).modSg fun g => { g with merge := g.merge.filter fun m => decide (m.entry ≠ e) }).setAnchor e
    { Anchor.unowned with part := p, slot := (s.part p).slot, st := 1 }

/-! Shares (R283, R287, R289). -/

/-- A mask has a bit in common with another. -/
def meets (a b : BitVec 16) : Bool := decide (a &&& b ≠ 0)

/-- Number of ways of a mask. -/
def waysOf (m : BitVec 16) : Nat := ((List.range 16).filter fun i => bit m i).length

/-- One kind of mask keeps R287: the new partition's mask against those in force. -/
def State.masksOk (s : State) (p : Nat) (of : Nat → BitVec 16) (strict : Bool) (m : BitVec 16) : Bool :=
  let others := s.held.filter fun q => decide (q ≠ p)
  let union := (others.filter s.isStrict).foldl (fun (a : BitVec 16) q => a ||| of q) 0
  decide (m ≠ 0) && !meets m union
    && (!strict || (decide (waysOf (union ||| m) ≤ 12)
      && (others.filter fun q => !s.isStrict q).all fun q => decide (of q &&& ~~~ m ≠ 0)))

/-- The sharing parameters of an assignment keep R283. The S-profile has no sector group to share. -/
def State.shareOk (s : State) (p : Nat) (r : Rejoin) : Bool :=
  let strict := (s.held.filter fun q => decide (q ≠ p)).filter s.isStrict
  decide (s.params.profile = .s)
    || ((!r.strict || (decide (4 ≤ r.allot) && decide (r.allot ≤ 64) && decide (1 ≤ r.merge) && decide (r.merge ≤ 56)
        && decide ((strict.map fun q => s.share.allot.get 0 q).sum + r.allot ≤ 64)
        && decide ((strict.map fun q => 8 * s.share.merge.get 0 q).sum + 8 * r.merge ≤ 448)))
      && s.masksOk p (fun q => s.share.mdc.get 0xFFFF q) r.strict r.mdc
      && s.masksOk p (fun q => s.share.dkc.get 0xFFFF q) r.strict r.dkc)

/-- Clear the ways that a strict partition takes (R287, R289): lines that are CLEAN and not in use are invalidated, the others
leave the ways for the victim buffer until they are written back; derived keys are zeroised. -/
def State.clearWays (mdc dkc : BitVec 16) (s : State) : State :=
  let gone (x : Line) : Bool := bit mdc x.way && decide (x.st = .clean) && !s.lineUsed x.id
  (s.modSg fun g =>
    { g with mdc := (g.mdc.filter fun x => !gone x).map fun x => if bit mdc x.way then { x with way := 16 } else x }).modKey
    fun k => { k with dkc := k.dkc.filter fun x => !bit dkc x.2 }

/-- Write the sharing fields of an assignment, in every group (R283). A strict partition takes its ways from the non-strict
masks (R287). -/
def State.putShare (p : Nat) (r : Rejoin) (s : State) : State :=
  if s.params.profile = .s then s
  else
    let t := s.modShare fun x =>
      { x with mdc := x.mdc.set 0xFFFF p r.mdc, dkc := x.dkc.set 0xFFFF p r.dkc, strict := x.strict.set false p r.strict,
               merge := x.merge.set 0 p r.merge, allot := x.allot.set 0 p r.allot,
               weight := s.groups.foldl (fun w n => w.set 1 (16 * n + p) r.weight) x.weight,
               weightNew := x.weightNew.filter fun y => decide (y.1 % 16 ≠ p) }
    if !r.strict then t
    else
      let others := s.held.filter fun q => decide (q ≠ p) && !s.isStrict q
      let u := each others (fun q v => v.modShare fun x =>
        let a := x.mdc.get 0xFFFF q
        let b := x.dkc.get 0xFFFF q
        { x with mdc := x.mdc.set 0xFFFF q (a &&& ~~~ r.mdc), dkc := x.dkc.set 0xFFFF q (b &&& ~~~ r.dkc),
                 taken := if meets a r.mdc || meets b r.dkc then x.taken ++ [(p, q, a &&& r.mdc, b &&& r.dkc)] else x.taken }) t
      u.clearWays r.mdc r.dkc

/-- A partition becomes FREE: its shares return to their reset values, and the ways that it took return (R287). -/
def State.dropShare (p : Nat) (s : State) : State :=
  let back := s.share.taken.filter fun x => decide (x.1 = p)
  let t := s.modShare fun x =>
    { x with mdc := x.mdc.set 0xFFFF p 0xFFFF, dkc := x.dkc.set 0xFFFF p 0xFFFF, strict := x.strict.set false p false,
             merge := x.merge.set 0 p 0, allot := x.allot.set 0 p 0,
             weight := x.weight.filter (fun y => decide (y.1 % 16 ≠ p)),
             weightNew := x.weightNew.filter (fun y => decide (y.1 % 16 ≠ p)),
             deficit := x.deficit.filter (fun y => decide (y.1 % 16 ≠ p)),
             taken := x.taken.filter fun y => decide (y.1 ≠ p) && decide (y.2.1 ≠ p) }
  each back (fun y u => u.modShare fun x =>
    { x with mdc := x.mdc.set 0xFFFF y.2.1 (x.mdc.get 0xFFFF y.2.1 ||| y.2.2.1),
             dkc := x.dkc.set 0xFFFF y.2.1 (x.dkc.get 0xFFFF y.2.1 ||| y.2.2.2) }) t

/-! The rejoin record (R446, R447). -/

/-- Size of a rejoin record: 8 KiB, and for a BOUND partition the manifest and room for eight amendments. -/
def recordSize (man : Option Manifest) : Nat := 8192 + man.elim 0 fun m => m.size + 8 * 10931

/-- Bytes of the user area that are free for reservations: the device less 8 MiB of images, 32 MiB of press log and 1 MiB of
chains and anchors. -/
def State.flashFree (s : State) : Nat :=
  ((s.att.flash.getD 0) - 41) * 2 ^ 20 - (parts16.map fun p => (s.part p).reserved).sum

/-- The reservation for a record fits; without flash nothing is reserved. -/
def State.recordFits (s : State) (man : Option Manifest) : Bool := !s.flashOk || decide (2 * recordSize man ≤ s.flashFree)

/-- Policy bits VBR, IDE_OPTIONAL and VM_ASSIGN in force (R440). -/
def State.policy (s : State) (p : Nat) : BitVec 3 :=
  setBit (setBit (setBit (0 : BitVec 3) 0 (s.vbrOf p)) 1 (s.tdi p).ideOpt) 2 (s.part p).vmAssign

/-- The rejoin record of a partition as it stands. -/
def State.recordOf (s : State) (p : Nat) : Rejoin :=
  let x := s.part p
  { man := x.man, amends := x.amends, policy := s.policy p, strict := s.isStrict p, allot := s.share.allot.get 0 p,
    merge := s.share.merge.get 0 p, weight := s.share.weight.get 1 p, mdc := s.share.mdc.get 0xFFFF p,
    dkc := s.share.dkc.get 0xFFFF p, pbase := x.pbase, psize := x.psize, otPlots := x.otPlots, added := x.added,
    lcAt := s.boot.lc }

/-- Write the rejoin record (R446): a record that outgrows its reservation enlarges it, or the last one that fitted is kept
and a press record is written (R447). -/
def State.writeRecord (p : Nat) (s : State) : State :=
  if !s.flashOk then s
  else
    let need := 2 * recordSize (s.part p).man
    let have_ := (s.part p).reserved
    let put (t : State) : State := t.modAtt fun a => { a with rejoin := a.rejoin.set none p (some (s.recordOf p)) }
    if need ≤ have_ then put s
    else if need ≤ s.flashFree + have_ then put (s.modPart p fun x => { x with reserved := need })
    else s.press 5 .outOfSlots (some p) 0

/-- Erase the rejoin record. -/
def State.eraseRecord (p : Nat) (s : State) : State :=
  s.modAtt fun a => { a with rejoin := a.rejoin.set none p none }

/-! Policy (R440). -/

/-- Apply the three policy bits that commands change. -/
def State.setPolicy (p : Nat) (v ideOpt vm : Bool) (s : State) : State :=
  ((s.modSg fun g => { g with vbr := setBit g.vbr p v }).modTdi p fun x => { x with ideOpt := ideOpt }).modPart p fun x =>
    { x with vmAssign := vm }

/-- PART_POLICY (R440). -/
def execPartPolicy (h : Hdr) (policy : BitVec 8) (s : State) : Ans :=
  .next (s.admitCmd ⟨0x0106, [.tenant], .all, 1, 0, false⟩ h (chk (decide (policy.toNat < 8)) .badParam 16)
    (fun p t => ((t.setPolicy h.part (bit policy 0) (bit policy 1) (bit policy 2)).writeRecord h.part).ok p 0))

/-! Assignment (R386). -/

/-- DevID digest of the instance (R425). -/
def State.devid (s : State) : Digest := signDigest (s.slot 0).value

/-- The instance's own entry of a manifest: its DevID digest and profile (R438). -/
def State.ownMember (s : State) (m : Manifest) : Option Member :=
  m.members.find? fun x => decide (x.devid = s.devid) && decide (x.profile = s.params.profile)

/-- The object unit takes over a new partition: PT_FIRST, PT_COUNT and object 0 (R220, R395), and the status of a write that cannot be
made (R535). -/
def State.newTables (p otPlots : Nat) (s : State) : State × Status :=
  let first := (s.part p).pbase / 65536
  let count := min ((otPlots - 1) * 65536 / 40) 33423360
  let t := s.modObju fun o =>
    { o with ptFirst := o.ptFirst.set 0 p first, ptCount := o.ptCount.set 0 p count, nextId := o.nextId.drop p }
  let u := t.modObj p 0 fun _ =>
    { Obj.vacant with st := 1, plots := otPlots, system := true, first := first, owner := 0xFFFF, created := t.now }
  (u.bindPlots p first otPlots 0 0 true).writeObj p 0

/-- A partition leaves FREE with the parameters of an assignment or of its rejoin record, and a memory slot (R386, R439,
R448). -/
def State.take (p : Nat) (r : Rejoin) (slot : Nat) (s : State) : State :=
  let member := ((r.man.bind s.ownMember).map fun x => x.num).getD 0x3FFF
  let s1 := (s.modPart p fun _ =>
    { Part.free with st := if r.man.isSome then 2 else 1, member := member, man := r.man, amends := r.amends, slot := slot,
                     pbase := r.pbase, psize := r.psize, otPlots := r.otPlots, added := r.added,
                     reserved := if s.flashOk then 2 * recordSize r.man else 0 }).zeroCntrs p
  ((s1.putShare p r).setPolicy p (bit r.policy 0) (bit r.policy 1) (bit r.policy 2)).writeRecord p

/-- Anchor entries of every range of a record. -/
def State.recordEntries (s : State) (r : Rejoin) : Option (List Nat) :=
  ((r.pbase, r.psize) :: r.added).foldl (fun (a : Option (List Nat)) x =>
    match a, s.rangeEntries x.1 x.2 with
    | some y, some z => some (y ++ z)
    | _, _ => none) (some [])

/-- A fresh memory slot, regions and tables for a partition that leaves FREE (R386). -/
def State.assignNew (p : Nat) (r : Rejoin) (s : State) : State × Status :=
  let s1 := s.take p r 0
  if s.params.profile = .s then (s1, .done)
  else
    let n := (s1.takeSlot p).getD 0
    let s2 := ((s1.fill n p 0 0 false false true false ((s1.free.setWidth 256).setWidth 512)).drawnPr).modPart p fun x =>
      { x with slot := n }
    (each ((s2.recordEntries r).getD []) (State.ownRegion p) s2).newTables p r.otPlots

/-- The stage whose manifest an assignment takes. -/
def State.stage (s : State) (i : Nat) : Option Manifest := s.cmd.stages.get none i

/-- The instance holds the domain-fence entries that a manifest needs, beside those assigned (R410). -/
def State.dfFits (s : State) (man : Option Manifest) : Bool :=
  decide ((parts16.map s.dfCount).sum + man.elim 0 (fun m => m.dfCount) ≤ 4096)

/-- PART_ASSIGN (R386, R283, R145, R410, R447, R475). -/
def execPartAssign (h : Hdr) (mode stage : Nat) (strict : Bool) (allot merge weight : Nat) (mdc dkc : BitVec 16)
    (pbase psize otPlots : Nat) (s : State) : Ans :=
  .next (
    let isS := decide (s.params.profile = .s)
    let man := if mode = 1 ∧ 1 ≤ stage ∧ stage ≤ 4 then s.stage stage else none
    let r : Rejoin :=
      { man := man, amends := [], policy := man.elim 4 (fun m => m.policy.setWidth 3), strict := strict, allot := allot,
        merge := merge, weight := weight, mdc := mdc, dkc := dkc, pbase := pbase, psize := psize, otPlots := otPlots,
        added := [], lcAt := s.boot.lc }
    let es := s.rangeEntries pbase psize
    s.admitWith ⟨0x0101, [.mgmt, .host], .all, 30, 0, false⟩ h [] (if isS then none else s.rngHold)
      (chk (decide (s.pst h.part = 0)) .badParam 2
        ++ chk (decide (mode ≤ 1)) .badParam 16
        ++ chk (if mode = 1 then (man.bind s.ownMember).isSome && man.all (fun m => (s.partOfDomain m.domain).isNone)
          else decide (stage = 0)) .badParam 17
        ++ chk (s.shareOk h.part r) .badParam 18
        ++ (if isS then chk (decide (psize = 0)) .badParam 34 ++ chk (decide (otPlots = 0)) .badParam 42
          else chk (es.any fun l => s.allUnowned l) .badParam 26
            ++ chk (decide (1 ≤ otPlots) && decide (otPlots ≤ psize / 65536)) .badParam 42
            ++ chk (s.canTake h.part 1) .outOfSlots 2)
        ++ chk (s.dfFits man) .outOfSlots 17
        ++ chk (s.recordFits man) .outOfSlots 2
        ++ chk (decide (s.boot.dbgAuth ≠ 2)) .lcForbids 2)
      (fun p t =>
        let (u, st) := ((t.eraseRecord h.part).modCmd fun c => { c with stages := if mode = 1 then c.stages.set none stage none else c.stages
          }).assignNew h.part r
        let v := u.tryJoin h.part
        if st = .done then v.ok p ((es.getD []).length) else v.endsWith p st))

/-- REGION_ADD (R386). -/
def execRegionAdd (h : Hdr) (base size : Nat) (s : State) : Ans :=
  .next (
    let es := s.rangeEntries base size
    s.admitCmd ⟨0x0104, [.mgmt, .host], .am, 16, 0, false⟩ h
      (chk (decide (s.pst h.part = 1) || decide (s.pst h.part = 2) || decide (s.pst h.part = 3)) .badParam 2
        ++ chk (es.any fun l => s.allUnowned l) .badParam 16)
      (fun p t =>
        let u := each (es.getD []) (State.ownRegion h.part) (t.modPart h.part fun x => { x with added := x.added ++ [(base, size)] })
        (u.writeRecord h.part).ok p ((es.getD []).length)))

/-- The region that holds a host address. -/
def State.regionAt (s : State) (addr : Nat) : Option Nat :=
  match s.groupFor addr with
  | none => none
  | some n => match s.place n addr with
    | .protectedAt e _ => some e
    | _ => none

/-- REGION_REARM (R231, R199): a Wilted region whose COUNTER is 0, while no re-seal is ACTIVE. -/
def execRegionRearm (h : Hdr) (addr : Nat) (s : State) : Ans :=
  .next (
    let e := s.regionAt addr
    s.admitCmd ⟨0x0105, [.tenant, .device], .am, 8, 0, false⟩ h
      (chk (e.any fun i => decide ((s.anchor i).st = 2) && decide ((s.anchor i).part = h.part)
          && decide ((s.anchor i).counter = 0)) .badParam 16
        ++ chk (!(s.reseal h.part).active) .badParam 16)
      (fun p t =>
        let i := e.getD 0
        (((t.dropRegion i).modSg fun g => { g with merge := g.merge.filter fun m => decide (m.entry ≠ i) }).setAnchor i
          { t.anchor i with st := 1, counter := 0, err := 0, full := false }).ok p 0))

/-! Manifests (R437, R438). -/

/-- Counts and references of a manifest that check 1 looks at; its lengths and zero fields come as `layoutOk`. -/
def manifestShape (m : Manifest) : Bool :=
  let ns := m.members.map fun x => x.num
  m.layoutOk && decide (m.domain ≠ 0) && decide (1 ≤ m.members.length) && decide (m.members.length ≤ 16383)
    && decide (1 ≤ m.nsets) && decide (m.nsets ≤ 256) && decide (m.sets.length = m.nsets) && decide (m.dfCount ≤ 4096)
    && decide (1 ≤ m.roots.length) && decide (m.roots.length ≤ 4) && decide (ns.Pairwise (· < ·))
    && ns.all (fun n => decide (n ≤ 16382))
    && decide ((m.members.filter fun x => decide (x.profile = .a)).length ≤ 10240)
    && m.members.all fun x => decide (x.set < m.nsets) && x.neigh.all fun n => decide (n = 0xFFFF) || ns.contains n

/-- Features that this release supports (R454): bits 0 to 3. -/
def featuresHere : Nat := 0xF

/-- The checks of R438, in order: the first failure decides. -/
def State.manifestCheck (s : State) (m : Manifest) : Status :=
  if !manifestShape m then .badParam
  else if m.major ≠ 4 then .badParam
  else if !m.sigOk then .authFailed
  else if (s.ownMember m).isNone then .badParam
  else if (s.partOfDomain m.domain).isSome then .badParam
  else if m.features.toNat % 2 ^ 32 / 16 ≠ 0 then .badParam
  else .done

/-- MANIFEST_STAGE (R387, R438): what arises after admission ends the command, and the stage stays as it was. -/
def execManifestStage (h : Hdr) (stage : Nat) (m : Manifest) (s : State) : Ans :=
  .next (s.admitCmd ⟨0x0107, [.mgmt, .host, .tenant], .all, 1, 0, true⟩ h
    (chk (decide (1 ≤ stage) && decide (stage ≤ 4)) .badParam 16 ++ chk (decide (0 < h.trailer)) .badParam 0
      ++ chk (decide (s.pair rCmdStageBase ≠ 0)) .outOfSlots 16)
    (fun p t =>
      match t.manifestCheck m with
      | .done => (t.modCmd fun c => { c with stages := c.stages.set none stage (some m) }).ok p 0
      | e => t.endsWith p e))

end Sys2Proof.Machine
end

