-- ==== Sys2Proof/Machine/Attest.lean ====
section
/-!
DEFINITION. Attestation and Bloom (chapter 12): the SPDM responder, secured sessions, link binding, amendments, trust anchors,
measurements, and the management bus.
-/
namespace Sys2Proof.Machine

/-! Who answers an SPDM message (R365, R4, R457, R532). -/

/-- The transport carries messages: the management mailbox once an endpoint ID is assigned (R452), DOE on a port whose link is up, a
link session that is being set up or stands. -/
def State.carries (s : State) (t : Transport) : Bool :=
  match t with
  | .mgmt => s.att.eid.isSome
  | .doe h => decide (h < s.params.hcCount) && bit s.pins.hcUp h && decide (s.service = .full)
  | .link k si => decide (k < s.params.fpCount) && decide (si < 17) && s.runs && decide ((s.sess k si).st ≠ 0)

/-- An SPDM request: Busy before the life-cycle decision, Unspecified where the block is restricted to identity and the request is no
identity request, else `act`. -/
def State.spdm (t : Transport) (identity : Bool) (act : State → State) (s : State) : State :=
  if s.service = .off ∨ !s.carries t then s
  else if s.service = .early then s.respond t .errBusy
  else if s.service = .identity ∧ !identity then s.respond t .errUnspecified
  else act s

/-- The transport is a link session: work for it goes before management and host work (R184). -/
def isLink : Transport → Bool
  | .link _ _ => true
  | _ => false

/-- Something is signed by the alias key; without one the answer is Unspecified (R475). The response leaves the public-key engine. -/
def State.aliasSigned (t : Transport) (msg : List Byte) (r : Resp) (s : State) : State :=
  if (s.slot 1).st = 1 then s.pkeAdd (signJob (isLink t) 1 (ascii "VMR.SPDM") msg (.resp t r)) else s.respond t .errUnspecified

/-! Identity requests (R427, R431). -/

/-- GET_VERSION (R431). -/
def execGetVersion (t : Transport) (s : State) : Ans := .next (s.spdm t true (State.respond t .version13))

/-- GET_CAPABILITIES (R431). -/
def execGetCapabilities (t : Transport) (s : State) : Ans := .next (s.spdm t true (State.respond t .capabilities))

/-- NEGOTIATE_ALGORITHMS (R431). -/
def execNegotiateAlgorithms (t : Transport) (offered : Bool) (s : State) : Ans :=
  .next (s.spdm t true (fun u =>
    let v := u.modAtt fun a => { a with negotiated := a.negotiated.filter fun x => decide (x ≠ t) }
    if offered then (v.modAtt fun a => { a with negotiated := t :: a.negotiated }).respond t .algorithms
    else v.respond t .errAlgorithms))

/-- The chain of slot 0: one for a DevID that the present state does not reach is ignored (R427). -/
def State.slot0 (s : State) : Option CertChain :=
  s.att.chain.filter fun c => decide ((s.slot 0).st = 1) && decide (c.leaf = s.devid)

/-- The alias certificate: its key digest stands for it, the encoding is X.509's (R426). -/
def State.aliasBytes (s : State) : List Byte :=
  if s.att.aliasCert ∧ (s.slot 1).st = 1 then beBytes 48 (signDigest (s.slot 1).value).toNat else []

/-- The bytes of a certificate slot: slot 1 is the slot 0 chain followed by the alias certificate (R427). -/
def State.certBytes (s : State) (slot : Nat) : List Byte :=
  let c := s.slot0.elim [] fun c => c.bytes
  if slot = 0 then c else if slot = 1 then c ++ s.aliasBytes else []

/-- GET_DIGESTS (R427). -/
def execGetDigests (t : Transport) (s : State) : Ans :=
  .next (s.spdm t true (fun u => u.respond t (.digests (u.slot0.map fun c => Config.sha384 c.bytes))))

/-- GET_CERTIFICATE (R427): slots 0 and 1. -/
def execGetCertificate (t : Transport) (slot : Nat) (s : State) : Ans :=
  .next (s.spdm t true (fun u =>
    if u.certBytes slot = [] then u.respond t .errInvalidRequest else u.respond t (.certificate slot (u.certBytes slot))))

/-- CHALLENGE (R432): signed by the alias key, so for slot 1. -/
def execChallenge (t : Transport) (slot : Nat) (s : State) : Ans :=
  .next (s.spdm t false (fun u =>
    if slot ≠ 1 then u.respond t .errInvalidRequest else u.aliasSigned t [] (.challengeAuth [])))

/-! Measurements (R429, R430). -/

/-- Bytes of fuse words in a range, as they stand. -/
def State.fuseBytes (s : State) (w n : Nat) : List Byte := ((List.range n).map fun i => leBytes 4 (s.fuseW (w + i)).toNat).flatten

/-- The 96 bytes of a member entry (R437). -/
def memberBytes (m : Member) : List Byte :=
  leBytes 2 m.num ++ [BitVec.ofNat 8 (profCode m.profile), BitVec.ofNat 8 m.set] ++ beBytes 48 m.devid.toNat
    ++ ((List.range 18).map fun k => leBytes 2 (m.neigh.getD k 0xFFFF)).flatten ++ List.replicate 8 0

/-- The effective manifest digest of a partition; zeros without a manifest (R437). -/
def State.effective (s : State) (p : Nat) : Digest :=
  (s.part p).man.elim 0 fun m => Config.sha384 (m.members.map memberBytes).flatten

/-- Policy word of a partition: the bits that commands change, and the domain's (R440). -/
def State.policyWord (s : State) (p : Nat) : Word :=
  (s.policy p).setWidth 32 ||| ((s.part p).man.elim 0 fun m => m.policy &&& 0x18)

/-- A measurement, by index; index 24 for a partition (R429, R430). -/
def State.measurement (s : State) (bound : Option Nat) (i : Nat) : Option (List Byte) :=
  if i = 1 then some (beBytes 48 Config.romDigest.toNat)
  else if i = 2 then some (beBytes 48 s.key.mfw.toNat)
  else if i = 3 then some (leBytes 4 s.key.svn)
  else if i = 4 then some [BitVec.ofNat 8 s.boot.lc, BitVec.ofNat 8 s.boot.bootAuth,
      BitVec.ofNat 8 (b2n (s.control 0x30) + 2 * b2n s.boot.resumed), 0]
  else if i = 5 then some (beBytes 48 (Config.sha384 (s.fuseBytes 0x10 8 ++ s.fuseBytes 0x30 16)).toNat)
  else if i = 6 then some (leBytes 4 releaseWord.toNat ++ leBytes 4 s.glbProfile.toNat ++ leBytes 4 s.glbConfig.toNat)
  else if i = 7 then some (leBytes 4 (b2n s.att.measLock + s.att.discards * 2 ^ 16))
  else if 8 ≤ i ∧ i ≤ 23 then some (beBytes 48 (s.att.meas.get 0 (i - 8)).toNat)
  else if i = 24 then bound.map fun p =>
    [BitVec.ofNat 8 p, BitVec.ofNat 8 (s.pst p)] ++ leBytes 2 (s.memberOf p) ++ leBytes 8 (s.domainOf p).toNat
      ++ leBytes 4 ((s.part p).man.elim 0 fun m => m.mseq) ++ leBytes 4 (s.policyWord p).toNat ++ List.replicate 12 0
      ++ beBytes 48 (s.effective p).toNat
  else none

/-- The partition that a session is bound to (R430). -/
def State.boundTo (s : State) (t : Transport) (sid : Option Nat) : Option Nat :=
  match t with
  | .link _ si => if si = 0 then none else some (si - 1)
  | _ => (sid.bind (s.secured t)).bind fun x => (parts16.find? (s.tenantOf x)) <|> x.tdi

/-- GET_MEASUREMENTS (R429, R430): index 255 asks for all of them. -/
def execGetMeasurements (t : Transport) (index : Nat) (sid : Option Nat) (s : State) : Ans :=
  .next (s.spdm t false (fun u =>
    let b := u.boundTo t sid
    let all := (List.range 24).filterMap fun i => (u.measurement b (i + 1)).map fun m => (i + 1, m)
    if u.params.profile ≠ .m ∧ !u.att.measLock then u.respond t .errBusy
    else
      let want := if index = 255 then all else if index = 0 then [(0, [BitVec.ofNat 8 all.length])] else all.filter fun x => decide (x.1 = index)
      if want = [] then u.respond t .errUnsupportedIndex
      else u.aliasSigned t ((want.map fun x => x.2).flatten) (.measurements want [])))

/-- MEAS_LOCK_RISE (R96). -/
def execMeasLockRise (s : State) : Ans :=
  .next (if s.service = .off then s else s.modAtt fun a => { a with measLock := true })

/-- A TENANT session of some partition. -/
def State.isTenant (s : State) (x : Secured) : Bool := x.live && parts16.any (s.tenantOf x)

/-- A transfer after lock is discarded and counted: every partition link session ends with CLOSE reason 5, every TENANT session with
END_SESSION (R96, R429). -/
def State.measDiscard (s : State) : State :=
  let t := s.modAtt fun a => { a with discards := satAdd 65535 a.discards 1 }
  let u := each parts16 (fun p => State.closePart p 5) t
  each (u.cmd.sessions.filter u.isTenant) (fun x v => (v.emit (.req x.t 1)).endSecured x) u

/-- MEAS_DISCARD_AFTER_LOCK (R429). -/
def execMeasDiscardAfterLock (s : State) : Ans :=
  .next (if s.service = .off ∨ !s.att.measLock then s else s.measDiscard)

/-- MEAS_IMAGE (R96, R429): the register takes sha384(reg || sha384(image)); after lock the transfer is discarded and counted. -/
def execMeasImage (idx : Nat) (image : List Byte) (s : State) : Ans :=
  .next (
    if s.service = .off then s
    else if s.att.measLock then s.measDiscard
    else s.modAtt fun a =>
      { a with meas := a.meas.upd 0 (idx % 16) fun r =>
          Config.sha384 (beBytes 48 r.toNat ++ beBytes 48 (Config.sha384 image).toNat) })

/-! Secured sessions (R431 to R433, R453). -/

/-- Slots of a new session's secrets, or none when its place is taken (R346, R433, R453); a link session has its own place only when the
set-up is over (R146, R300). -/
def State.sessionSlots (s : State) (t : Transport) : Option (List Nat) :=
  let mine := s.cmd.sessions.filter fun x => decide (x.t = t)
  match t with
  | .mgmt => if mine.isEmpty then some [80, 81] else none
  | .doe h => ((List.range 4).find? fun i => !(mine.any fun x => x.slots.contains (84 + 4 * h + i))).map fun i => [84 + 4 * h + i]
  | .link _ _ => if mine.isEmpty then some [] else none

/-- A 384-bit secret as a slot value. -/
def secretVal (d : Digest) : BitVec 512 := d.setWidth 512

/-- The first slot of a list. -/
def firstSlot (l : List Nat) : Nat := l.headD 0

/-- The peer asks for the exchange of a link set-up: the end abandons its own attempt and answers (R304). -/
def State.abandonAsk (t : Transport) (s : State) : State :=
  match t with
  | .link k si => (s.retireAll (s.sess k si).hand).modSess k si fun y => { y with hand := [] }
  | _ => s

/-- KEY_EXCHANGE (R158, R184, R346, R432, R453): the session takes its place and the slots of its set-up, a seed, the handshake secret and
on a link the session's secret; the public-key engine makes the exchange and signs it. Without a free slot the answer is Busy (log entry
58). -/
def execKeyExchange (t : Transport) (x : KeyEx) (s : State) : Ans :=
  .next (s.spdm t false (fun u =>
    if !u.att.negotiated.contains t ∨ !x.elementOk then u.respond t .errInvalidRequest
    else match u.sessionSlots t with
      | none => u.respond t .errSessionLimit
      | some l =>
        let n := if isLink t then 3 else 2
        if (u.slot 1).st ≠ 1 ∨ u.cmd.sessions.any (fun y => decide (y.sid = x.sid)) then u.respond t .errUnspecified
        else if u.handFree.length < n then u.respond t .errBusy
        else
          let y : Secured :=
            { sid := x.sid, t := t, leaf := x.leaf, root := x.root, live := false, slots := l, hand := u.handFree.take n,
              born := u.cmd.sessNo, seq := 0, tdi := none }
          ((u.abandonAsk t).modCmd fun c => { c with sessions := c.sessions ++ [y], sessNo := c.sessNo + 1 }).pkeAdd
            { signJob (isLink t) 1 (ascii "VMR.SPDM") x.exch (.exchange t x.sid x.exch []) with
              ops := [.ecKeygen, .ecdh, .kemEncaps, .ecSign, .mldsaSign] }))

/-- A session of a transport, complete or not. -/
def State.session (s : State) (t : Transport) (sid : Nat) : Option Secured :=
  s.cmd.sessions.find? fun x => decide (x.t = t) && decide (x.sid = sid)

/-- A check of R441 fails: a press record gives its number, the refusal is counted, the session goes DOWN with the retry of R302. -/
def State.admissionFails (k si check : Nat) (st : Status) (r : Resp) (s : State) : State :=
  let t := (s.respond (.link k si) r).press 3 st (if si = 0 then none else some (si - 1)) check
  (if si = 0 then t else t.cntr (si - 1) 13 1).setupFails k si

/-- The secrets of a session whose handshake is complete go to its slots: one for each direction in the management session, one for both
elsewhere (R433); the master secret is the SPDM key schedule's, a transcript stands for the messages exchanged (a free value). -/
def State.sessionSecrets (x : Secured) (s : State) : State × List Nat :=
  let m := Config.spdmMaster ((s.slot (x.hand.getD 1 0)).value.setWidth 384) s.free
  match x.t with
  | .mgmt => ((s.used.renew 80 1 1 (secretVal (Config.spdmApp m false))).renew 81 1 1 (secretVal (Config.spdmApp m true)), x.slots)
  | .doe _ => (s.used.renew (firstSlot x.slots) 1 1 (secretVal m), x.slots)
  | .link _ _ => (s.used.renew (x.hand.getD 2 0) 1 1 (secretVal m), [x.hand.getD 2 0])

/-- A FINISH whose signatures have been checked (R431): the handshake completes with mutual authentication, or the session goes. -/
def State.finishEnd (t : Transport) (sid : Nat) (authOk : Bool) (s : State) : State :=
  match s.session t sid with
  | none => s.respond t .errInvalidRequest
  | some x =>
    if x.live then s.respond t .errInvalidRequest
    else if authOk then
      let (u, l) := s.sessionSecrets x
      let v := (u.retireAll (x.hand.take 2)).modCmd fun c =>
        { c with sessions := c.sessions.map fun y => if y = x then { y with live := true, slots := l, hand := [] } else y }
      (match t with
        | .link k si => v.modSess k si fun y => { y with authed := true }
        | _ => v).respond t .finishRsp
    else
      let v := s.endSecured x
      match t with
      | .link k si => if (v.sess k si).st = 1 then v.admissionFails k si 1 .authFailed .errUnspecified else v.respond t .errUnspecified
      | _ => v.respond t .errUnspecified

/-- FINISH (R431, R184): the public-key engine checks the requester's signatures. -/
def execFinish (t : Transport) (sid : Nat) (authOk : Bool) (s : State) : Ans :=
  .next (s.spdm t false (fun u =>
    if (u.session t sid).any fun x => !x.live && decide ((u.slot (x.hand.getD 1 0)).st = 1) then
      u.pkeAdd { link := isLink t, ops := [.ecVerify, .mldsaVerify], sign := none, sig := [], ends := .finish t sid authOk }
    else u.respond t .errInvalidRequest))

/-- END_SESSION (R433): a partition link session ends with its link session alone. -/
def execEndSession (t : Transport) (sid : Nat) (s : State) : Ans :=
  .next (s.spdm t false (fun u =>
    match u.secured t sid with
    | none => u.respond t .errInvalidRequest
    | some x => match t with
      | .link _ (_ + 1) => u.respond t .errUnspecified
      | _ => (u.respond t .endSessionAck).endSecured x))

/-- HEARTBEAT (R431). -/
def execHeartbeat (t : Transport) (sid : Nat) (s : State) : Ans :=
  .next (s.spdm t false (fun u =>
    u.respond t (if (u.secured t sid).isSome then .heartbeatAck else .errInvalidRequest)))

/-- HEARTBEAT_LOSS (R433): a DOE or mailbox session ends; link sessions have no heartbeat (R431). -/
def execHeartbeatLoss (t : Transport) (sid : Nat) (s : State) : Ans :=
  .next (
    match t, s.session t sid with
    | .link _ _, _ => s
    | _, some x => s.endSecured x
    | _, none => s)

/-- Slots of a session after a KEY_UPDATE: on the mailbox the pair not in use, elsewhere the same (R433). -/
def nextSlots (t : Transport) (l : List Nat) : List Nat :=
  match t with
  | .mgmt => if l = [80, 81] then [82, 83] else [80, 81]
  | _ => l

/-- KEY_UPDATE (R433): the successors are LIVE and the old slots retire. -/
def execKeyUpdate (t : Transport) (sid : Nat) (s : State) : Ans :=
  .next (s.spdm t false (fun u =>
    match u.secured t sid with
    | none => u.respond t .errInvalidRequest
    | some x =>
      let l := nextSlots t x.slots
      let vals := x.slots.map fun n => secretVal (Config.spdmUpdate ((u.slot n).value.setWidth 384))
      ((each (l.zip vals) (fun y v => v.renew y.1 1 1 y.2) (each (x.slots.filter fun n => !l.contains n) State.retire u)).modCmd fun c =>
        { c with sessions := c.sessions.map fun y => if y = x then { y with slots := l } else y }).respond t .keyUpdateAck))

/-! Certificates and trust anchors (R427, R428). -/

/-- The request came in the management session. -/
def State.inMgmt (s : State) (t : Transport) (sid : Nat) : Bool :=
  decide (t = .mgmt) && (s.secured t sid).any s.isMgmt

/-- GET_CSR (R427): in the management session alone; signed by the DevID. -/
def execGetCsr (t : Transport) (sid : Option Nat) (s : State) : Ans :=
  .next (s.spdm t false (fun u =>
    if sid.any (u.inMgmt t) ∧ (u.slot 0).st = 1 then
      u.pkeAdd (signJob false 0 (ascii "VMR.SPDM") (beBytes 48 u.devid.toNat) (.resp t (.csr [])))
    else u.respond t .errUnspecified))

/-- SET_CERTIFICATE (R427): refused for another leaf, or while slot 0 holds a chain for the current DevID. -/
def execSetCertificate (t : Transport) (sid : Option Nat) (chain : CertChain) (s : State) : Ans :=
  .next (s.spdm t false (fun u =>
    if sid.any (u.inMgmt t) ∧ (u.slot 0).st = 1 ∧ chain.leaf = u.devid ∧ u.slot0 = none then
      (u.modAtt fun a => { a with chain := some chain }).respond t .setCertificateRsp
    else u.respond t .errUnspecified))

/-- PROVISION (R428, R435): sub-code 1 fabric roots besides Yarrel's, at most 3; 2 management roots, at most 4. -/
def execProvision (t : Transport) (sid sub : Nat) (hashes : List Digest) (s : State) : Ans :=
  .next (s.spdm t false (fun u =>
    let first := decide (t = .mgmt) && (u.secured t sid).isSome && decide (u.boot.lc = 1) && u.att.mgmtRoots.isEmpty
    if !(u.inMgmt t sid || first) then u.respond t (.vmr 4 .refusedIssuer [])
    else if sub = 1 ∧ hashes.length ≤ 3 then (u.modAtt fun a => { a with fabricRoots := hashes }).respond t (.vmr 4 .done [])
    else if sub = 2 ∧ hashes.length ≤ 4 then (u.modAtt fun a => { a with mgmtRoots := hashes }).respond t (.vmr 4 .done [])
    else u.respond t (.vmr 4 .badParam [])))

/-! SPDM carriage on links (R434). -/

/-- A fragment is taken into the message of its port: what the port holds afterwards. A message is whole when its bytes reach its
length; it stands until the next FIRST. -/
def carry1 (old : Option (Nat × Nat × Nat × List Byte)) (c : Carriage) : Option (Nat × Nat × Nat × List Byte) :=
  let n := c.offset + c.data.length
  let fits := decide (1 ≤ c.msgLen) && decide (c.msgLen ≤ 262144) && decide (n ≤ c.msgLen) && decide (c.data.length ≤ 4064)
    && (c.last == decide (n = c.msgLen))
  if c.first then if fits ∧ c.offset = 0 then some (c.target, n, c.msgLen, c.data) else none
  else match old with
    | some (t, at_, l, b) =>
      if fits ∧ t = c.target ∧ l = c.msgLen ∧ at_ = c.offset then some (t, n, l, b ++ c.data) else none
    | none => none

/-- A verified carriage frame: the receiver serves the partition that it holds in the domain named; only the block-owned session
carries SPDM (R434). -/
def State.applyCarriage (h : RxHdr) (c : Carriage) (si : Nat) (s : State) : State :=
  let known := if c.target = 0xFF then decide (c.domain = 0) else decide (c.target < 16) && (s.partOfDomain c.domain).isSome
  if si ≠ 0 then s else s.modPort h.port fun q => { q with carr := if known then carry1 q.carr c else none }

/-- SPDM_CARRIAGE_RX (R434). -/
def execSpdmCarriageRx (h : RxHdr) (c : Carriage) (s : State) : Ans :=
  .next (s.rx h 0x10 (.cmd (.spdmCarriageRx h c)) (State.applyCarriage h c))

/-! Link binding (R436, R441). -/

/-- Root hashes that a session's peer may end in: the manifest's, or the fabric roots on the block-owned session (R428, R441). -/
def State.rootsFor (s : State) (si : Nat) : List Digest :=
  if si = 0 then Config.yarrelRoot :: s.att.fabricRoots else (s.part (si - 1)).man.elim [] fun m => m.roots

/-- The number of one's own bind record's MSEQ (R436). -/
def State.mseq (s : State) (p : Nat) : Nat := (s.part p).man.elim 0 fun m => m.mseq

/-- Every amendment above an MSEQ is kept (R445). -/
def State.holdsFrom (s : State) (p n : Nat) : Bool :=
  (List.range (s.mseq p - n)).all fun i => (s.part p).amends.any fun a => decide (a.mseq = n + 1 + i)

/-- Check 3 of R441. -/
def State.memberFits (s : State) (k p : Nat) (b : Bind) (ev : Evidence) : Bool :=
  ((s.part p).man.any fun m => m.members.any fun x =>
    decide (x.num = b.member) && decide (x.devid = ev.devid) && decide (x.profile = b.profile)) && decide (s.neighOn p k = some b.member)

/-- Check 5 of R441. -/
def State.evidenceFits (s : State) (p : Nat) (b : Bind) (ev : Evidence) : Bool :=
  (s.part p).man.any fun m =>
    (decide (ev.lcState = 2) || (decide (ev.lcState = 1) && bit m.policy 3)) && (decide (ev.dbgAuth = 0) || bit m.policy 4)
      && decide (m.minSvn ≤ ev.svn)
      && (m.members.find? fun x => decide (x.num = b.member)).any fun x =>
        (m.sets[x.set]?).any fun e => (List.range 23).all fun i =>
          !bit e.mask i || decide (ev.meas.getD i 0 = e.exp.getD i 0)

/-- The first check of R441 that fails, with its status; 0 when all pass. The block-owned session runs 1, 2 and the MAJOR part of 4. -/
def State.bindCheck (s : State) (k si : Nat) (b : Bind) (ev : Evidence) : Nat × Status :=
  let p := si - 1
  if !ev.spdmOk then (1, .authFailed)
  else if !ev.chainOk ∨ !(s.rootsFor si).contains ev.root then (2, .authFailed)
  else if si = 0 then if b.major = 4 then (0, .done) else (4, .badParam)
  else if !s.memberFits k p b ev then (3, .badParam)
  else if b.domain ≠ s.domainOf p ∨ b.major ≠ 4 ∨ b.mseq ≠ s.mseq p ∨ b.digest ≠ s.effective p then (4, .badParam)
  else if !s.evidenceFits p b ev then (5, .authFailed)
  else if !ev.idx24Ok then (6, .authFailed)
  else (0, .done)

/-- Check 4 waits for R445: the members agree but for MSEQ, and the end that is behind can still catch up. -/
def State.bindWaits (s : State) (k si : Nat) (b : Bind) (ev : Evidence) : Bool :=
  let p := si - 1
  decide (si ≠ 0) && ev.spdmOk && ev.chainOk && (s.rootsFor si).contains ev.root && s.memberFits k p b ev
    && decide (b.domain = s.domainOf p) && decide (b.major = 4) && decide (b.mseq ≠ s.mseq p) && !(s.sess k si).fetched
    && (decide (s.mseq p < b.mseq) || s.holdsFrom p b.mseq)

/-- The 96 bytes of the own bind record (R436). -/
def State.bindRecord (s : State) (k si : Nat) : List Byte :=
  let p := si - 1
  [1, 1] ++ leBytes 2 (s.sess k si).rxIdx ++ leBytes 2 (if si = 0 then 0x3FFF else s.memberOf p)
    ++ [BitVec.ofNat 8 p, BitVec.ofNat 8 (profCode s.params.profile)]
    ++ leBytes 8 (if si = 0 then 0 else (s.domainOf p).toNat) ++ leBytes 4 (if si = 0 then 0 else s.mseq p)
    ++ leBytes 4 releaseWord.toNat ++ leBytes 8 featuresHere ++ [BitVec.ofNat 8 s.dt.st, BitVec.ofNat 8 k]
    ++ List.replicate 14 0 ++ beBytes 48 (if si = 0 then 0 else (s.effective p).toNat)

/-- Features in force on a session (R455). -/
def State.bindFeatures (s : State) (si : Nat) (b : Bind) : Nat :=
  if si = 0 then Nat.land featuresHere b.features
  else (s.part (si - 1)).man.elim 0 fun m =>
    Nat.land (Nat.land featuresHere b.features) (Nat.lor (m.features.toNat % 2 ^ 32) (m.features.toNat / 2 ^ 32))

/-- Take eight link slots of a partition, lowest first (R145, R300). -/
def takeSlots (p : Nat) : Nat → State → State × List Nat
  | 0, s => (s, [])
  | n + 1, s =>
    match s.takeSlot p with
    | some i =>
      let (t, l) := takeSlots p n (s.fill i p 1 1 false false false false 0)
      (t, i :: l)
    | none => (s, [])

/-- The master secret of the SPDM session of a link set-up: as responder from the session's slot, as requester from the own seed and the
responder's exchange data (R158). Transcripts are free values. -/
def State.linkMaster (s : State) (k si : Nat) (ev : Evidence) : Digest :=
  match (s.sess k si).hand with
  | n :: _ =>
    let v := (s.slot n).value
    let kem := Config.mlkemDecaps (mlkemSeed v) (ev.exch.drop 97)
    let hyb := hybridSecret (Config.p384Ecdh (p384Key v) (ev.exch.take 97)) kem (p384Point v ++ Config.mlkemPublic (mlkemSeed v)) ev.exch
    Config.spdmMaster (Config.spdmHandshake hyb s.free) s.used.free
  | [] => ((s.cmd.sessions.find? fun x => decide (x.t = .link k si)).elim 0 fun x => (s.slot (firstSlot x.slots)).value).setWidth 384

/-- The session enters OPENING: epoch-0 secrets, those of epoch 1, the flow seed, two flow keys and the SPDM secret stand in its slots,
numbers restart and the OPEN frame is queued (R157, R159, R300, R308, R436). The transmit direction of the requester uses the
request-direction application secret. A block-owned session uses member number 0x3FFF and partition 0 (R159); the partition in the context
is the sender's (log entry 59). A partition session's set-up slots retire; a block-owned one keeps its SPDM session until it is OPEN
(R433). -/
def State.bindDone (k si : Nat) (b : Bind) (ev : Evidence) (l : List Nat) (s : State) : State :=
  let p := si - 1
  let own := if si = 0 then 0x3FFF else s.memberOf p
  let other := if si = 0 then 0x3FFF else b.member
  let dom := if si = 0 then 0 else s.domainOf p
  let m := s.linkMaster k si ev
  let asks := decide ((s.sess k si).hand ≠ [])
  let app (rsp : Bool) : List Byte := beBytes 48 (Config.spdmApp m rsp).toNat
  let tx0 := epoch0 (app !asks) dom own other k p
  let rx0 := epoch0 (app asks) dom other own b.port (if si = 0 then 0 else b.part)
  let seed := flowSeed tx0
  let r := (s.port k).salt
  let key (i : Nat) : BitVec 512 := (flowKey seed (if r % 2 = i then r else r + 1)).setWidth 512
  let vals := [tx0, epochNext tx0 0, rx0, epochNext rx0 0, seed, key 0, key 1, secretVal m]
  let s1 := each l State.settleSlot s.used.used
  let t0 := each (l.zip vals) (fun x u => u.fill x.1 p 1 1 (decide (si = 0)) false false false x.2) s1
  let t :=
    if si = 0 then t0
    else
      let gone := (t0.sess k si).hand ++ ((t0.cmd.sessions.filter fun x => decide (x.t = .link k si)).map fun x => x.slots).flatten
      ((t0.retireAll gone).modSess k si fun y => { y with hand := [] }).modCmd fun c =>
        { c with sessions := c.sessions.map fun x => if x.t = .link k si then { x with slots := [l.getD 7 0] } else x }
  let u := t.modSess k si fun y =>
    { y with st := 2, peerIdx := b.rxIdx, peer := b.member, peerPort := b.port, slots := l, features := s.bindFeatures si b,
             txSeq := 0, hSeen := false, hTop := 0, hMap := 0, txEp := 0, rxEp := 0, epCnt := 0, epAt := some s.now,
             authed := true }
  ((u.traceSess k si).respond (.link k si) (.vmr 1 .done (u.bindRecord k si))).enqueue k
    (ctrlFrame si 0x11 (u.sessPayload 0x11 0 si))

/-- The two ends' SPDM exchange has come far enough for a LINK_BIND (R304, R436): after FINISH where the end is the responder, and with
its own seed where it is the requester. -/
def State.mayBind (s : State) (k si : Nat) : Bool :=
  let x := s.sess k si
  decide (x.st = 1) && decide ((s.slot 1).st = 1)
    && (match x.hand with
      | n :: _ => decide ((s.slot n).st = 1) && !(decide (si ≠ 0) && decide (x.peer < s.memberOf (si - 1)))
      | [] => x.authed)

/-- A LINK_BIND whose evidence has been checked (R436, R441); a set-up that cannot take a slot fails (R300). -/
def State.bindEnd (k si : Nat) (b : Bind) (ev : Evidence) (s : State) : State :=
  let x := s.sess k si
  let p := si - 1
  if !s.mayBind k si then s.respond (.link k si) (.vmr 1 .refusedIssuer [])
  else if s.bindWaits k si b ev then
    let v := s.modSess k si fun y => { y with fetched := true }
    if s.mseq p < b.mseq then v.emit (.vmrReq (.link k si) (3 :: leBytes 4 (s.mseq p))) else v
  else match s.bindCheck k si b ev with
    | (0, _) =>
      if si = 0 then s.bindDone k 0 b ev x.slots
      else if s.canTake p 8 then
        let (v, l) := takeSlots p 8 s
        v.bindDone k si b ev l
      else s.admissionFails k si 0 .outOfSlots (.vmr 1 .outOfSlots [])
    | (n, st) => s.admissionFails k si n st (if n ≤ 2 then .errUnspecified else .vmr 1 st [])

/-- LINK_BIND (R436, R441, R184): the public-key engine checks the evidence, and as requester takes the shared secrets first. -/
def execLinkBind (k si : Nat) (b : Bind) (ev : Evidence) (s : State) : Ans :=
  .next (s.spdm (.link k si) false (fun u =>
    if u.mayBind k si then
      u.pkeAdd { link := true, ops := (if (u.sess k si).hand = [] then [] else [.ecdh, .kemDecaps]) ++ [.ecVerify, .mldsaVerify],
                 sign := none, sig := [], ends := .bind k si b ev }
    else u.respond (.link k si) (.vmr 1 .refusedIssuer [])))

/-! Amendments (R444, R445). -/

/-- The member table after an amendment's entries. -/
def amendMembers (ms cs : List Member) : List Member :=
  cs.foldl (fun l c =>
    let rest := l.filter fun m => decide (m.num ≠ c.num)
    if c.devid = 0 then rest
    else rest.filter (fun m => decide (m.num < c.num)) ++ [c] ++ rest.filter fun m => decide (c.num < m.num)) ms

/-- The amendment fits the manifest: MSEQ, count and the resulting table (R444). -/
def amendShape (m : Manifest) (a : Amendment) : Bool :=
  a.layoutOk && decide (a.major = 4) && decide (a.mseq = a.base + 1) && decide (1 ≤ a.changes.length) && decide (a.changes.length ≤ 64)
    && manifestShape { m with members := amendMembers m.members a.changes }

/-- Sessions of a partition that are being set up are abandoned and started again, which is no failed attempt (R445). -/
def State.restartSetups (p : Nat) (s : State) : State :=
  each (s.ports.filter fun k => decide ((s.sess k (1 + p)).st = 1) || decide ((s.sess k (1 + p)).st = 2))
    (fun k t =>
      let u := t.sessDown k (1 + p)
      if u.canSetup k (1 + p) then u.setup k (1 + p) else u) s

/-- The amendment as it is sent (R444). -/
def amendBytes (a : Amendment) : List Byte :=
  leBytes 2 2 ++ leBytes 2 a.major ++ leBytes 4 a.mseq ++ leBytes 8 a.domain.toNat ++ leBytes 4 a.base
    ++ leBytes 2 a.changes.length ++ List.replicate 42 0 ++ (a.changes.map memberBytes).flatten ++ a.sig

/-- Apply an amendment (R445): the table, MSEQ and the kept eight; it is forwarded once, withdrawn members are recorded lost, and
sessions to withdrawn and replaced ones receive CLOSE reason 2. -/
def State.amendApply (p : Nat) (a : Amendment) (but : Option Nat) (s : State) : State :=
  let old := (s.part p).man.elim [] fun m => m.members
  let has (n : Nat) : Bool := old.any fun m => decide (m.num = n)
  let t := s.modPart p fun x =>
    let l := x.amends ++ [a]
    { x with man := x.man.map fun m => { m with mseq := a.mseq, members := amendMembers m.members a.changes },
             amends := l.drop (l.length - 8) }
  let u := each ((t.openPorts p).filter fun k => decide (some k ≠ but)) (fun k v => v.emit (.vmrReq (.link k (1 + p)) (2 :: amendBytes a))) t
  let cut := (a.changes.filter fun c => has c.num).map fun c => c.num
  let v := each (u.ports.filter fun k => cut.contains (u.sess k (1 + p)).peer) (fun k w => w.closeSess k (1 + p) 2) u
  let gone := (a.changes.filter fun c => decide (c.devid = 0) && has c.num).map fun c => c.num
  let w := each gone (fun n x => x.recordLost p n (x.memberOf p) x.now none) v
  (w.restartSetups p).writeRecord p

/-- A link session that SPDM messages of a partition ride on (R433). -/
def State.linkLive (s : State) (k si : Nat) : Bool :=
  decide (si ≠ 0) && ((s.sess k si).authed || decide (2 ≤ (s.sess k si).st))

/-- The sender of an amendment may send one for the domain it names (R435, R445). -/
def State.mayAmend (s : State) (t : Transport) (sid : Nat) (a : Amendment) : Bool :=
  match t with
  | .link k si => s.linkLive k si
  | _ => (s.secured t sid).any fun x => (s.partOfDomain a.domain).elim (s.isTenant x) (s.tenantOf x)

/-- An amendment whose signatures have been checked (R444, R445). -/
def State.amendEnd (t : Transport) (sid : Nat) (a : Amendment) (s : State) : State :=
  let but := match t with | .link k _ => some k | _ => none
  if !s.mayAmend t sid a then s.respond t (.vmr 2 .refusedIssuer [])
  else match s.partOfDomain a.domain with
    | none => s.respond t (.vmr 2 .badParam [])
    | some p =>
      if a.mseq ≤ s.mseq p then s.respond t (.vmr 2 .done [])
      else if a.base ≠ s.mseq p ∨ !((s.part p).man.any fun m => amendShape m a) then s.respond t (.vmr 2 .badParam [])
      else if !a.sigOk then s.respond t (.vmr 2 .authFailed [])
      else (s.respond t (.vmr 2 .done [])).amendApply p a but

/-- AMEND (R435, R445, R184): an amendment that is new to its domain has its signatures checked by the public-key engine. -/
def execAmend (t : Transport) (sid : Nat) (a : Amendment) (s : State) : Ans :=
  .next (s.spdm t false (fun u =>
    if u.mayAmend t sid a && (u.partOfDomain a.domain).any fun p => decide (u.mseq p < a.mseq) then
      u.pkeAdd { link := isLink t, ops := [.ecVerify, .mldsaVerify], sign := none, sig := [], ends := .amend t sid a }
    else u.amendEnd t sid a))

/-- AMEND_FETCH (R435, R445). -/
def execAmendFetch (k si held : Nat) (s : State) : Ans :=
  .next (s.spdm (.link k si) false (fun u =>
    if !u.linkLive k si then u.respond (.link k si) (.vmr 3 .refusedIssuer [])
    else u.respond (.link k si) (.vmr 3 .done
      (((u.part (si - 1)).amends.filter fun a => decide (held < a.mseq)).map amendBytes).flatten)))

/-! The management bus (R451, R452). -/

/-- The bus answers: the block is out of reset and has a dynamic address. -/
def State.busOn (s : State) : Bool := decide (s.service ≠ .off) && s.att.i3cAddr.isSome

/-- The 48-bit provisional ID (R93, R451): the fused 44 bits of words 0x016 and 0x017 above I3C_PID_SEL. -/
def State.provisionalId (s : State) : BitVec 48 := BitVec.ofNat 48 (s.fuse64 0x16 % 2 ^ 44 * 16 + s.pins.pidSel % 16)

/-- ENTDAA (R451): the block gives its provisional ID and takes a dynamic address. -/
def execEntdaa (addr : Nat) (s : State) : Ans :=
  .next (
    if s.service = .off then s
    else (s.modAtt fun a => { a with i3cAddr := some (addr % 128), hotJoin := false }).emit (.provisionalId s.provisionalId))

/-- HOT_JOIN_REQUEST (R451). -/
def execHotJoinRequest (s : State) : Ans :=
  .next (if s.service ≠ .off ∧ s.att.hotJoin then (s.modAtt fun a => { a with hotJoin := false }).emit .hotJoin else s)

/-- SET_MAX_LENGTH (R451): SETMWL and SETMRL take 64 to 256 bytes. -/
def execSetMaxLength (write : Bool) (len : Nat) (s : State) : Ans :=
  .next (
    if !s.busOn ∨ len < 64 ∨ 256 < len then s
    else s.modAtt fun a => if write then { a with maxWrite := len } else { a with maxRead := len })

/-- An MCTP control response. -/
def State.mctp (cmd : Nat) (body : State → List Byte) (s : State) : State :=
  if s.busOn then (s.emit (.ibi Config.ibiPending)).emit (.mctp cmd (body s)) else s

/-- SET_ENDPOINT_ID (R452): the reserved identifiers 0 to 7 and 255 are turned away. -/
def execSetEndpointId (eid sender : Nat) (s : State) : Ans :=
  .next (
    if !s.busOn then s
    else if eid < 8 ∨ 255 ≤ eid then s.mctp 1 fun _ => [2]
    else (s.modAtt fun a => { a with eid := some (eid, sender) }).mctp 1 fun _ => [0, 0, BitVec.ofNat 8 eid, 0])

/-- GET_ENDPOINT_ID (R452). -/
def execGetEndpointId (s : State) : Ans :=
  .next (s.mctp 2 fun t => [0, BitVec.ofNat 8 (t.att.eid.elim 0 fun e => e.1), 0, 0])

/-- GET_ENDPOINT_UUID (R452). -/
def execGetEndpointUuid (s : State) : Ans := .next (s.mctp 3 fun _ => 0 :: leBytes 16 Config.endpointUuid.toNat)

/-- GET_MCTP_VERSION_SUPPORT (R452). -/
def execGetMctpVersionSupport (s : State) : Ans := .next (s.mctp 4 fun _ => 0 :: Config.mctpVersions 0)

/-- GET_MESSAGE_TYPE_SUPPORT (R452): types 0, 5 and 6. -/
def execGetMessageTypeSupport (s : State) : Ans := .next (s.mctp 5 fun _ => [0, 3, 0, 5, 6])

end Sys2Proof.Machine
end

