-- ==== Sys2Proof/Machine/Engine.lean ====
section
/-!
DEFINITION. The public-key engine at work (R158, R162, R163, R184): what each of its operations does, and how its work ends.
-/
namespace Sys2Proof.Machine

/-- Operations that draw randomness: they wait until the start-up test has passed (R181). -/
def PkeOp.draws : PkeOp → Bool
  | .ecKeygen | .kemEncaps | .ecSign | .mldsaSign => true
  | _ => false

/-- The key-exchange seed of a set-up is drawn with prediction resistance into its slot (R142, R146, R182). -/
def State.drawSeed (n : Nat) (s : State) : State :=
  (s.fill n 0 5 0 true false false false ((s.free.setWidth 384).setWidth 512)).drawnPr

/-- The responder's half of the exchange (R158): its exchange data, and the handshake secret, which goes to its slot. The transcript is a
free value. -/
def State.encaps (hand : List Nat) (req : List Byte) (s : State) : State × List Byte :=
  let seed := (s.slot (firstSlot hand)).value
  let rsp := p384Point seed ++ Config.mlkemCipher (req.drop 97) s.free
  let hyb := hybridSecret (Config.p384Ecdh (p384Key seed) (req.take 97)) (Config.mlkemShared (req.drop 97) s.free) req rsp
  ((s.drawn.fill (hand.getD 1 0) 0 1 1 true false false false (secretVal (Config.spdmHandshake hyb s.drawn.free))).used, rsp)

/-- One operation of the engine: what it leaves in the key store, and the work as it goes on. -/
def State.pkeRun (j : PkeJob) (op : PkeOp) (s : State) : State × PkeJob :=
  match op, j.ends with
  | .ecKeygen, .exchange t sid _ _ => ((s.session t sid).elim s fun x => s.drawSeed (firstSlot x.hand), j)
  | .ecKeygen, .request k si => (if (s.sess k si).st = 1 then each (s.sess k si).hand State.drawSeed s else s, j)
  | .kemEncaps, .exchange t sid req _ =>
    match s.session t sid with
    | none => (s, j)
    | some x =>
      let (u, rsp) := s.encaps x.hand req
      (u, { j with ends := .exchange t sid req rsp, sign := j.sign.map fun y => (y.1, y.2.1, req ++ rsp) })
  | .ecSign, _ =>
    match j.sign with
    | some (n, _, msg) => (s.drawnPr, { j with sig := j.sig ++ ecSig (s.slot n).value msg s.free })
    | none => (s, j)
  | .mldsaSign, _ =>
    match j.sign with
    | some (n, label, msg) => (s.drawn, { j with sig := j.sig ++ mldsaSig (s.slot n).value label msg s.free })
    | none => (s, j)
  | _, _ => (s, j)

/-- A response with its signature. -/
def Resp.signed (sig : List Byte) : Resp → Resp
  | .challengeAuth _ => .challengeAuth sig
  | .measurements b _ => .measurements b sig
  | .csr _ => .csr sig
  | r => r

/-- The work is complete and its result goes out; a signature whose key has been zeroised is refused (R475). -/
def State.pkeEnd (j : PkeJob) (s : State) : State :=
  let gone := j.sign.any fun x => decide ((s.slot x.1).st ≠ 1)
  match j.ends with
  | .attest p body => if gone then s.endsWith p .lcForbids else s.okTrailer p 0 (body ++ j.sig)
  | .resp t r => s.respond t (if gone then .errUnspecified else r.signed j.sig)
  | .exchange t sid _ rsp =>
    match s.session t sid with
    | none => s
    | some x => if gone then (s.endSecured x).respond t .errUnspecified else s.respond t (.keyExchangeRsp sid rsp j.sig)
  | .request k si =>
    match (s.sess k si).hand with
    | n :: _ => s.emit (.exchange (.link k si) (p384Point (s.slot n).value ++ Config.mlkemPublic (mlkemSeed (s.slot n).value)))
    | [] => s
  | .finish t sid authOk => s.finishEnd t sid authOk
  | .bind k si b ev => s.bindEnd k si b ev
  | .amend t sid a => s.amendEnd t sid a

/-- PKE_OP_DONE (R184): the first operation of the work in the engine completes; after the last one the work ends. An operation that draws
randomness waits until the random source is ready. -/
def execPkeOpDone (ecc : Ecc) (s : State) : Ans :=
  .next (
    match s.key.pke with
    | [] => s
    | j :: rest =>
      let op := j.ops.head?
      if op.any PkeOp.draws ∧ !s.key.rngReady then s
      else s.eccRead ecc (j.sign.elim 0 fun x => x.1) (fun t =>
        let (u, w) := match op with
          | some o => t.pkeRun j o
          | none => (t, j)
        let next := { w with ops := w.ops.tail }
        if next.ops.isEmpty then (u.modKey fun k => { k with pke := rest }).pkeEnd next else u.pkeNext next rest))

end Sys2Proof.Machine
end

