-- ==== Sys2Proof/Machine/Observe.lean ====
section
/-!
DEFINITION. Counters, trace rings, marks, tensor dumps and the press record as commands reach them (chapter 15), and the rounding seed
and step of sealed arithmetic (R248).
-/
namespace Sys2Proof.Machine

/-! Counters (R506 to R508). -/

/-- CNT_READ (R508): both counters are captured together; the second reads 0 beyond its set. -/
def execCntRead (h : Hdr) (scope index : Nat) (s : State) : Ans :=
  .next (s.admitCmd ⟨0x0701, [.device, .tenant, .mgmt], .all, 3, 0, false⟩ h
    (chk (decide (scope < 2)) .badParam 16 ++ chk (decide (index < if scope = 0 then 32 else 1024)) .badParam 17
      ++ chk (decide (scope ≤ 1 → (h.issuer = .mgmt ↔ scope = 1))) .refusedIssuer 16)
    (fun p t =>
      let v (i : Nat) : Nat := (if scope = 0 then t.readCntr h.part i else t.readGlob i).toNat
      t.ok p (v index + v (index + 1) * 2 ^ 64)))

/-- The Q counters of a partition are published, and where counter 24 has risen a throttle notice is formed; which of its three
causes it names is a free value (R507, R513). -/
def State.publish (p : Nat) (s : State) : State :=
  let held := (s.obs.cnt.get 0 (32 * p + 24) - s.obs.pub.get 0 (32 * p + 24)).toNat
  let t := s.modObs fun o =>
    { o with pub := [6, 7, 24].foldl (fun u i => u.set 0 (32 * p + i) (o.cnt.get 0 (32 * p + i))) o.pub }
  if held = 0 then t
  else (t.trace p 0xC 0 0 false (BitVec.ofNat 64 (held % 2 ^ 32 + s.free.toNat % 8 * 2 ^ 32)) 0xFFFF).used

/-- QUANTISATION_INSTANT (R507). -/
def execQuantisationInstant (s : State) : Ans :=
  .next (if s.service ≠ .full then s
    else each (parts16.filter fun p => decide (s.pst p ≠ 0) && decide (s.pst p ≠ 5)) State.publish s)

/-! Trace rings (R509 to R518). -/

/-- The one LIVE object of a partition, SYSTEM bit 0, in which a range lies wholly. -/
def State.objectOf (s : State) (p a n : Nat) : Option Nat :=
  let o := (s.plotOf (a / 65536)).obj
  if s.ringInside p a n && (plotsOf a n).all fun x => decide ((s.plotOf x).obj = o) then some o else none

/-- A Live region of the partition lies 1 TiB or more above PBASE (R510). -/
def State.farRegion (s : State) (p : Nat) : Bool :=
  let u := s.unitSize
  (s.part p).ranges.any fun r => (List.range (r.2 / u)).any fun i =>
    decide ((s.part p).pbase + 2 ^ 40 < r.1 + (i + 1) * u)
      && (s.unitEntries (r.1 + i * u)).any fun l => l.any fun e => decide ((s.anchor e).st = 1)

/-- The ring's place is as R509 gives. -/
def State.ringPlace (s : State) (p r base log2 : Nat) : Bool :=
  let n := 1024 * 2 ^ log2
  decide (base % n = 0) && (s.objectOf p base n).isSome
    && rings4.all fun i =>
      let g := s.ring p i
      decide (i = r) || decide (g.st = 0) || !overlaps base n g.base (1024 * 2 ^ g.log2)

/-- TRACE_CFG (R510). While records of the earlier configuration are still held, which are never dropped (R225), the command waits at
admission (DESIGN CHOICE, log entry 66: the spec names no wait). -/
def execTraceCfg (h : Hdr) (ring base log2KiB mode post : Nat) (ids : Bool) (s : State) : Ans :=
  .next (
    let g := s.ring h.part ring
    s.admitWith ⟨0x0702, [.device, .tenant], .am, 17, 0, false⟩ h [] (if g.staged.isEmpty || s.vbrOf h.part then none else some 0)
      (chk (decide (ring < 4) && !g.active) .badParam 16 ++ chk (decide (2 ≤ log2KiB) && decide (log2KiB ≤ 20)) .badParam 26
        ++ chk (decide (mode < 3)) .badParam 27 ++ chk (s.ringPlace h.part ring base log2KiB) .badParam 18
        ++ chk (!ids || !s.farRegion h.part) .badParam 32)
      (fun p t =>
        (t.setRing h.part ring
          { Ring.off with st := 1, base := base, log2 := log2KiB, mode := mode, post := post, ids := ids,
                          cfgn := (g.cfgn + 1) % 256, ignored := g.ignored,
                          obj := (s.objectOf h.part base (1024 * 2 ^ log2KiB)).getD 0 }).ok p 0))

/-- A TRACE_CTRL action: the states in which it is refused, and what it does. -/
def State.traceCtl (h : Hdr) (ring : Nat) (bad : List Nat) (act : State → State) (s : State) : Ans :=
  .next (s.admitCmd ⟨0x0703, [.device, .tenant], .am, 3, 0, false⟩ h
    (chk (decide (ring < 4)) .badParam 16 ++ chk (!bad.contains (s.ring h.part ring).st) .badParam 18)
    (fun p t => (act t).ok p 0))

/-- TRACE_CTRL action 1, start (R511). -/
def execTraceStart (h : Hdr) (ring : Nat) (s : State) : Ans :=
  s.traceCtl h ring [0, 4, 5] fun t =>
    let g := t.ring h.part ring
    if g.st = 1 then t.setRing h.part ring { g with st := 2 } else t

/-- TRACE_CTRL action 0, stop (R511). -/
def execTraceStop (h : Hdr) (ring : Nat) (s : State) : Ans := s.traceCtl h ring [0] (State.stopRing h.part ring)

/-- TRACE_CTRL action 2, trigger now (R516). -/
def execTraceTriggerNow (h : Hdr) (ring : Nat) (s : State) : Ans := s.traceCtl h ring [] (State.trigger h.part ring 1)

/-- TRACE_CTRL action 3, release freeze (R511). -/
def execTraceReleaseFreeze (h : Hdr) (ring : Nat) (s : State) : Ans :=
  s.traceCtl h ring [0, 1, 2, 3, 4] fun t => t.setRing h.part ring { t.ring h.part ring with st := 2 }

/-- TRACE_SECTOR_TIMEOUT (R514): 64 us with no record added; the slots formed of a sector go out. -/
def execTraceSectorTimeout (p ring : Nat) (s : State) : Ans :=
  .next (
    let g := s.ring p ring
    if p < 16 ∧ ring < 4 ∧ !g.staged.isEmpty then (s.setRing p ring { g with due := true }).writeRing p ring false else s)

/-- Set a context's mark, as far as the write is one that R518 names. -/
def State.mark (rq : Rq) (ctx layer op : Nat) (s : State) : State :=
  let k := s.ctx ctx
  if !rq.dbg ∧ (rq.origin = 1 ∨ rq.origin = 2) ∧ k.st = 1 ∧ k.part = rq.part then
    (s.modCtx ctx fun x => { x with layer := layer, op := op }).trace k.part 0xB 0 0 false (BitVec.ofNat 64 (op + layer * 2 ^ 16)) ctx
  else s.flag rObsStatus 7

/-- OBS_MARK (R518). -/
def execObsMark (rq : Rq) (ctx layer op : Nat) (s : State) : Ans :=
  .next (s.portWrite rq true fun r t => (t.mark r (ctx % 65536) (layer % 65536) (op % 65536), false))

/-! Rounding seed and step (R248). -/

/-- SA_SEED (R248): 0xFFFF clears SEED_VALID. -/
def execSaSeed (h : Hdr) (slot : Nat) (s : State) : Ans :=
  .next (s.admitCmd ⟨0x0509, [.tenant, .device], .am, 2, 0, false⟩ h
    (chk (decide (slot = 0xFFFF) || s.controlSlot h.part slot) .badParam 16)
    (fun p t => (t.modSg fun g =>
      { g with seed := g.seed.set none h.part (if slot = 0xFFFF then none else some slot) }).ok p 0))

/-- SA_STEP (R248): dumps that wait for the step are due (R520). -/
def execSaStep (h : Hdr) (step : Word) (s : State) : Ans :=
  .next (s.admitCmd ⟨0x050A, [.tenant, .device], .am, 4, 0, false⟩ h []
    (fun p t =>
      let u := (t.modSg fun g => { g with step := g.step.set 0 h.part step }).ok p 0
      (u.modObs fun o =>
        { o with dumps := o.dumps.map fun d => if d.part = h.part ∧ d.step = step then { d with due := true } else d }).dumpNext
        h.part))

/-! Tensor dumps (R519 to R523). -/

/-- TENSOR_REG (R519). -/
def execTensorReg (h : Hdr) (name : Word) (base len : Nat) (s : State) : Ans :=
  .next (
    let o := s.objectOf h.part base len
    let mine (x : Obj) : Bool := decide (h.issuer = .tenant) || x.shared || decide (x.owner = 0xFFFF) || decide (x.owner = h.ctx)
    s.admitCmd ⟨0x0704, [.device, .tenant], .am, 20, 0, false⟩ h
      (chk (decide (name ≠ 0) && !(s.obs.dumps.any fun d => decide (d.part = h.part) && decide (d.name = name) && d.cap.isSome))
          .badParam 16
        ++ chk (decide (base % 256 = 0)) .badParam 20 ++ chk (decide (len % 256 = 0) && decide (len ≤ 2 ^ 30)) .badParam 28
        ++ (if len = 0 then chk (s.tensor h.part name).isSome .badParam 28
          else chk (o.any fun i => mine (s.obj h.part i)) .badParam 20
            ++ chk ((s.tensor h.part name).isSome || decide ((s.obs.tensors.filter fun x => decide (x.1 = h.part)).length < 64))
              .outOfSlots 16))
      (fun p t => (t.modObs fun b =>
        let rest := b.tensors.filter fun x => !(decide (x.1 = h.part) && decide (x.2.name = name))
        let i := o.getD 0
        { b with tensors := if len = 0 then rest
            else rest ++ [(h.part, { name := name, base := base, len := len, obj := i, gen := (s.obj h.part i).gen })] }).ok p 0))

/-- The 64-byte header of a dump chunk (R522). -/
def State.dumpHeader (s : State) (d : Dump) (x : Tensor) (i : Nat) (st : Status) : List Byte :=
  leBytes 2 1 ++ leBytes 2 i ++ leBytes 2 x.chunks ++ leBytes 2 (s.memberOf d.part)
    ++ [BitVec.ofNat 8 d.part, BitVec.ofNat 8 (stCode st), 0, 0] ++ leBytes 4 d.name.toNat ++ leBytes 4 d.step.toNat
    ++ leBytes 8 (s.domainOf d.part).toNat ++ leBytes 4 (65536 * i) ++ leBytes 4 (x.chunkLen i) ++ leBytes 8 s.now ++ leBytes 8 s.now
    ++ List.replicate 12 0

/-- DUMP_CHUNK_CAPTURE (R521 to R523): `data` is what the protected reads of the chunk returned, `st` their outcome; another outcome
than DONE carries zero data. The chunk is sealed as a record of the session (R43). -/
def execDumpChunkCapture (p : Nat) (data : List Byte) (st : Status) (s : State) : Ans :=
  .next (
    match s.obs.dumps.find? fun d => decide (d.part = p) && d.cap.isSome with
    | none => s
    | some d => match d.cap with
      | none => s
      | some (x, sid, i) =>
        let n := x.chunkLen i
        let (s, rd) := s.innerRead p (x.base + 65536 * i) n
        let st := firstBad rd st
        let body := if st = .done then (data ++ List.replicate (n - data.length) 0).take n else List.replicate n 0
        let e := { d with cap := some (x, sid, i + 1) }
        let (u, rec) := s.sealRec sid (s.dumpHeader d x i st ++ body)
        let t := (u.modObs fun o => { o with dumps := o.dumps.map fun z => if z = d then e else z }).cdmWrite p
          (.dump p (s.dumpBase p + x.recordAt i) rec)
        if x.chunks ≤ i + 1 then (t.dumpEnd e 0).dumpNext p else t)

/-- DUMP_STEP_TIMEOUT (R520): 10 s of domain time have passed since the entry fired and no capture has begun. -/
def execDumpStepTimeout (p i : Nat) (s : State) : Ans :=
  .next (
    match s.obs.dumps.find? fun d => decide (d.part = p) && decide (d.idx = i) && d.cap.isNone with
    | some d => s.dumpEnd d 5
    | none => s)

/-! The press record (R524 to R528). -/

/-- The 32 bytes of a press record (R525). -/
def Press.bytes (x : Press) : List Byte :=
  [BitVec.ofNat 8 x.source, BitVec.ofNat 8 (stCode x.status), match x.part with | some p => BitVec.ofNat 8 p | none => 16,
   BitVec.ofNat 8 (b2n x.clock + 2 * b2n x.freeze)] ++ leBytes 4 x.seq.toNat ++ leBytes 8 x.stamp ++ leBytes 8 x.addr
    ++ leBytes 8 x.info.toNat

/-- The record of a SEQ: in the ring, else in the log, else zeros (R528). -/
def State.pressAt (s : State) (q : Word) : List Byte :=
  let x := s.obs.press.get Press.empty (q.toNat % 32768)
  let back := (s.obs.pressSeq - q).toNat
  if x ≠ Press.empty ∧ x.seq = q ∧ 1 ≤ back ∧ back ≤ 32768 then x.bytes
  else match s.obs.log.find? fun y => decide (y.seq = q) with
    | some y => y.bytes
    | none => List.replicate 32 0

/-- PRESS_READ (R528). -/
def execPressRead (h : Hdr) (first : Word) (count : Nat) (s : State) : Ans :=
  .next (s.admitCmd ⟨0x0705, [.mgmt], .all, 6, 0, false⟩ h (chk (decide (1 ≤ count) && decide (count ≤ 32768)) .badParam 20)
    (fun p t => t.okTrailer p 0 ((List.range count).map fun i => t.pressAt (first + BitVec.ofNat 32 i)).flatten))

/-- PRESS_RELEASE (R526): it releases whatever holds; with no freeze in force it changes nothing. -/
def execPressRelease (h : Hdr) (s : State) : Ans :=
  .next (s.admitCmd ⟨0x0706, [.mgmt], .all, 0, 0, false⟩ h [] (fun p t => (t.unfreeze true true true).ok p 0))

/-- Records not yet flushed, oldest first. -/
def State.unflushed (s : State) : List Press :=
  (List.range (min 32768 (s.obs.pressSeq - s.obs.flushed).toNat)).filterMap fun i =>
    let q := s.obs.flushed + BitVec.ofNat 32 i
    let x := s.obs.press.get Press.empty (q.toNat % 32768)
    if x ≠ Press.empty ∧ x.seq = q then some x else none

/-- Write the records not yet flushed to the log (R527). -/
def State.flushPress (s : State) : State :=
  let l := s.unflushed
  if !s.flashOk || l.isEmpty then s
  else (s.modObs fun o => { o with log := (l.reverse ++ o.log).take 1048576, flushed := o.pressSeq }).emit
    (.flashPress s.obs.flushed l.length)

/-- PRESS_FLUSH (R527): while Tolaro runs. -/
def execPressFlush (s : State) : Ans :=
  .next (if s.boot.phase = .ready ∨ s.boot.phase = .tolaro then s.flushPress else s)

end Sys2Proof.Machine
end

