-- ==== Sys2Proof/Machine/Schedule.lean ====
section
/-!
DEFINITION. Scheduled actions (R122 to R133), their propagation in the domain (R128, R129), the global stop and its end (R134 to R140).
-/
namespace Sys2Proof.Machine

/-! Firing (R124 to R126, R130, R133). -/

/-- The stagger offset of an entry in ns (R133). -/
def State.stagger (s : State) (e : Sched) : Nat :=
  if e.stagger then
    let m := if e.block then s.fld rDtStagger 29 16 else s.memberOf e.part
    m * 40503 % 16384 * (64 * s.fld rDtStagger 15 0) / 16384
  else 0

/-- Domain time has reached the entry's instant (R124); nothing fires in OFF (R130). -/
def State.isDue (s : State) (e : Sched) : Bool := decide (s.dt.st ≠ 0) && decide (e.instant + s.stagger e ≤ s.now)

/-- An entry fires: its trace record, LATE, the record of a firing while UNLOCKED, the advance of a periodic entry, then its action
(R126, R129, R130, R513). -/
def State.fire (i : Nat) (late : Bool) (act : Sched → State → State) (s : State) : State :=
  let e := s.sched i
  let who := if e.block then none else some e.part
  let s1 := if e.block then s
    else s.trace e.part 5 0 (e.id.setWidth 64) false (BitVec.ofNat 64 (e.action + 256 * b2n late)) 0xFFFF
  let s2 := when (decide (s.dt.st = 4)) (State.press 7 .done who i) s1
  let s3 := when late (fun t => (t.press 7 .done who i).cntr e.part 11 1) s2
  act e (s3.setSched i { e.advance s.now with st := 2, late := late })

/-- Entry `i` starts before entry `j`: its firing instant is earlier, or at one instant its ACTION code is lower, or its index (R124,
R125). -/
def State.startsBefore (s : State) (i j : Nat) : Bool :=
  let a := s.sched i
  let b := s.sched j
  let x := a.instant + s.stagger a
  let y := b.instant + s.stagger b
  decide (x < y) || (decide (x = y) && (decide (a.action < b.action) || (decide (a.action = b.action) && decide (i < j))))

/-- The ARMED entries that are due and start before entry `j`, in their order (R125). -/
def State.dueBefore (s : State) (j : Nat) : List Nat :=
  ((List.range 256).filter fun i => decide ((s.sched i).st = 1) && s.isDue (s.sched i) && s.startsBefore i j).insertionSort
    fun a b => s.startsBefore a b

/-! Actions that complete at once. -/

/-- COMMIT (R123, R15). -/
def State.actCommit (i : Nat) (e : Sched) (s : State) : State := (s.commitNamed (e.param.toNat % 65536)).schedEnds i

/-- Ports of a mask. -/
def State.maskPorts (s : State) (e : Sched) : List Nat := s.ports.filter fun k => bit e.param k

/-- EPOCH (R320, R321): both directions of every OPEN session of the ports. -/
def State.actEpoch (i : Nat) (e : Sched) (s : State) : State :=
  (each (s.maskPorts e) (fun k t => each (sessIdx.filter fun si => decide ((t.sess k si).st = 3))
    (fun si u => (u.modSess k si fun x => { x with rxNew := true }).epochChange k si) t) s).schedEnds i

/-- RESALT of a port (R326): skipped while a flow uses the count before the newest. -/
def State.resaltPort (k : Nat) (s : State) : State :=
  let q := s.port k
  if q.flows.any fun f => decide (f.r + 1 = q.salt) then s.modPort k fun y => { y with skipped := satAdd 255 y.skipped 1 }
  else ((s.modPort k fun y => { y with salt := y.salt + 1 }).glob (128 + 8 * k + 7) 1).saltKeys k

/-- RESALT (R326). -/
def State.actResalt (i : Nat) (e : Sched) (s : State) : State := (each (s.maskPorts e) State.resaltPort s).schedEnds i

/-- TRACE_TRIG (R516, R492): skipped and counted while the partition is FENCED. -/
def State.actTrace (i : Nat) (e : Sched) (s : State) : State :=
  let r := e.param.toNat % 65536
  (if s.pst e.part = 4 then s.cntr e.part 12 1 else if r < 4 then s.trigger e.part r 2 else s).schedEnds i

/-- DUMP (R520): the entry stays ACTIVE until its dump ends. -/
def State.actDump (i : Nat) (e : Sched) (s : State) : State :=
  let name : Word := e.param.setWidth 32
  let step : Word := (e.param >>> 32).setWidth 32
  let d : Dump := { part := e.part, idx := i, name := name, step := step, due := decide (s.sg.step.get 0 e.part = step), cap := none }
  if (s.tensor e.part name).isNone then s.dumpEnd d 1
  else if s.pst e.part = 4 then s.dumpEnd d 2
  else (s.modObs fun o => { o with dumps := o.dumps ++ [d] }).dumpNext e.part

/-- Rest level of a trigger output (R89, R97). -/
def State.restLevel (s : State) (o : Nat) : Bool := bit (s.fuseW 0x12) o

/-- TRIG_OUT (R132): the pulse begins or is extended; a one-shot entry is ACTIVE until the pulse ends. -/
def State.actTrig (i : Nat) (e : Sched) (s : State) : State :=
  let o := e.param.toNat % 16
  let t := (s.modDt fun d => { d with pulse := setBit d.pulse o true, overlaps := d.overlaps + b2n (bit d.pulse o) }).modPins fun q =>
    { q with trigOut := setBit q.trigOut o (!s.restLevel o) }
  if e.period = 0 then t else t.schedEnds i

/-- TRIG_PULSE_END (R132). -/
def execTrigPulseEnd (o : Nat) (s : State) : Ans :=
  .next (
    if o < 16 ∧ bit s.dt.pulse o then
      let t := (s.modDt fun d => { d with pulse := setBit d.pulse o false }).modPins fun q =>
        { q with trigOut := setBit q.trigOut o (s.restLevel o) }
      each ((List.range 256).filter fun i =>
        decide ((s.sched i).st = 2) && decide ((s.sched i).action = 8) && decide ((s.sched i).param.toNat % 16 = o)) State.schedEnds t
    else s)

/-! The global stop (R136 to R140). -/

/-- The STOP of a partition. -/
def State.stop (s : State) (p : Nat) : Stop := s.dt.stops.get Stop.none p
/-- Store a STOP. -/
def State.setStop (p : Nat) (x : Stop) (s : State) : State := s.modDt fun d => { d with stops := d.stops.set Stop.none p x }

/-- A frame that was held by the stop takes its effect (R140). -/
def State.applyHeld (p : Nat) (x : HeldRx) (s : State) : State :=
  match x with
  | .route h out f => s.applyRoute h out f (1 + p)
  | .cmd c =>
    match c with
    | .ratomicReplyRx h r =>
      State.unlessBreach h.port r.status (State.unlessBreach h.port r.origStatus (State.applyReply h r (1 + p))) s
    | .ratomicRequestRx h r m => s.applyAtomic h r m (1 + p)
    | .outcomeQueryRx h r => s.applyQuery h r (1 + p)
    | .remoteRwRequestRx h r => s.applyRw h r (1 + p)
    | .contributionAckRx h d st => State.unlessBreach h.port st (State.applyAck h d st (1 + p)) s
    | .contributionRx h src d el m => s.applyContrib h src d el m (1 + p)
    | .resultAckRx h src d st => State.unlessBreach h.port st (State.applyResultAck h src d st (1 + p)) s
    | .resultChunkRx h sw d st b m => State.unlessBreach h.port st (State.applyResult h sw d st b m (1 + p)) s
    | .domainFenceSignalRx h op er og ix ep sp oq => s.applyFence h op er og ix ep sp oq (1 + p)
    | .spdmCarriageRx h d => s.applyCarriage h d (1 + p)
    | .openRx h m => s.applyOpen h m (1 + p)
    | .closeRx h _ _ => s.applyClose h (1 + p)
    | _ => s

/-- Fence waits of a partition whose fence was signalled while it was stopped complete (R139). -/
def State.wakeStopped (p : Nat) (s : State) : State :=
  let ws := s.obju.waits.filter fun w =>
    (s.fence w.1 w.2.1).signalled && decide ((if w.2.1 < 0xF000 then (s.fence w.1 w.2.1).part else w.1) = p)
  each ((ws.map fun w => (w.1, w.2.1)).dedup) (fun w t => finishing (t.wake w.1 w.2)) s

/-- The egress frames of a partition that a STOP held: CSTOP waits for their seals (R140). -/
def State.markHeld (p : Nat) (s : State) : State :=
  s.modLnk fun l =>
    { l with ports := l.ports.mapAll Port.idle fun _ q =>
        { q with q := q.q.map fun i => if i.f.si = 1 + p ∧ !stopKind i.f.kind then { i with held := true } else i } }

/-- A stop ends (R140): held frames take their effect in order and waits go on; the held egress frames are sealed with fresh stamps as
the shaper picks them, and then CSTOP falls when no other STOP is ACTIVE. -/
def State.resume (p i : Nat) (s : State) : State :=
  let x := s.stop p
  let t := ((((s.markHeld p).setStop p Stop.none).modDt fun d => { d with stopLog := d.stopLog ++ [(p, x.since, s.now)] }).schedEnds
    x.idx).schedEnds i
  ((each x.heldRx (State.applyHeld p) t).wakeStopped p).lowerCstop

/-- A RESUME that waits for its STOP goes on once the stop has completed (R140). -/
def State.resumeGo (p : Nat) (s : State) : State :=
  let x := s.stop p
  match x.resume with
  | some i => if x.active ∧ x.complete then s.resume p i else s
  | none => s

/-- A stop whose markers have come on every OPEN session completes and signals its fence with DONE (R137). -/
def State.stopTry (p : Nat) (s : State) : State :=
  let x := s.stop p
  if x.active && !x.complete && (s.openPorts p).all fun k => x.got.contains k then
    let t := s.setStop p { x with complete := true }
    (if t.fenceOk p x.fence then finishing (t.signal p x.fence 0) else t).resumeGo p
  else s

/-- STOP (R136): a second one while one is ACTIVE ends at once, with a press record. Markers that came before it fired count. -/
def State.actStop (i : Nat) (e : Sched) (s : State) : State :=
  let old := s.stop e.part
  if old.active then (s.press 7 .badParam (some e.part) i).schedEnds i
  else
    let got := if old.origin = e.origin ∧ old.id = e.id then old.got else []
    let lim := e.param.toNat / 2 ^ 16 % 2 ^ 16
    (s.raiseCstop.setStop e.part
      { Stop.none with active := true, idx := i, origin := e.origin, id := e.id, cutAt := e.instant + s.stagger e, since := s.now, fence := e.param.toNat % 2 ^ 16,
                       limit := if lim = 0 then 100 else lim, got := got }).stopTry e.part

/-- The KIND 0x30 payload (R316). -/
def markerPayload (x : Stop) : List Byte := [0x30, 0, 0, 0] ++ leBytes 2 x.origin ++ [0, 0] ++ leBytes 4 x.id.toNat ++ List.replicate 20 0

/-- STOP_MARKER_SEND (R137): the port holds no frame that was sealed before the cut. -/
def execStopMarkerSend (k p : Nat) (s : State) : Ans :=
  .next (
    let x := s.stop p
    if x.active ∧ !x.sent.contains k ∧ (s.sess k (1 + p)).st = 3 ∧ (s.port k).txq = [] then
      (s.setStop p { x with sent := x.sent ++ [k] }).enqueue k (ctrlFrame (1 + p) 0x30 (markerPayload x))
    else s)

/-- A verified marker reaches its partition (R137); one that comes before the STOP has fired here is kept. -/
def State.applyMarker (k origin : Nat) (id : Word) (si : Nat) (s : State) : State :=
  let p := si - 1
  let x := s.stop p
  if si = 0 then s
  else if x.active then
    if x.origin = origin ∧ x.id = id then (s.setStop p { x with got := x.got ++ [k] }).stopTry p else s
  else if x.origin = origin ∧ x.id = id then s.setStop p { x with got := x.got ++ [k] }
  else s.setStop p { Stop.none with origin := origin, id := id, got := [k] }

/-- STOP_MARKER_RX. -/
def execStopMarkerRx (h : RxHdr) (origin : Nat) (id : Word) (s : State) : Ans :=
  .next (s.rx h 0x30 (.cmd (.stopMarkerRx h origin id)) (State.applyMarker h.port origin id))

/-- STOP_MARKER_TIMEOUT (R137): a marker has not arrived within the limit; the fence is signalled MEMBER_LOST, and a RESUME that waits
goes on. -/
def execStopMarkerTimeout (p : Nat) (s : State) : Ans := .next ((s.stopLoses p (s.openPorts p)).resumeGo p)

/-- RESUME (R140): one that names no ACTIVE STOP of the partition ends with a press record; one that comes before the completion
waits for it. -/
def State.actResume (i : Nat) (e : Sched) (s : State) : State :=
  let x := s.stop e.part
  if !x.active ∨ x.id ≠ e.param.setWidth 32 then (s.press 7 .badParam (some e.part) i).schedEnds i
  else if x.complete then s.resume e.part i
  else s.setStop e.part { x with resume := some i }

/-- What an entry does when it fires, by its ACTION (R123). -/
def State.action (i : Nat) (e : Sched) (s : State) : State :=
  match e.action with
  | 1 => s.actCommit i e
  | 2 => s.actEpoch i e
  | 3 => s.actResalt i e
  | 4 => s.actStop i e
  | 5 => s.actResume i e
  | 6 => s.actTrace i e
  | 7 => s.actDump i e
  | 8 => s.actTrig i e
  | _ => s.schedEnds i

/-- An entry that is ARMED and due fires. -/
def State.fireDue (i : Nat) (s : State) : State :=
  if (s.sched i).st = 1 ∧ s.isDue (s.sched i) then s.fire i false (State.action i) else s

/-- A scheduled action's command: the entry is ARMED for that action and due. What is due and starts before it has fired by then: entries
of one edge start in the order of their ACTION codes, then of their indices (R125). -/
def State.fires (i code : Nat) (act : Sched → State → State) (s : State) : State :=
  if (s.sched i).st = 1 ∧ (s.sched i).action = code ∧ s.isDue (s.sched i) then
    let t := each (s.dueBefore i) State.fireDue s
    if (t.sched i).st = 1 ∧ (t.sched i).action = code ∧ t.isDue (t.sched i) then t.fire i false act else t
  else s

/-- SCHED_COMMIT (R123). -/
def execSchedCommit (i : Nat) (s : State) : Ans := .next (s.fires i 1 (State.actCommit i))
/-- SCHED_EPOCH (R320). -/
def execSchedEpoch (i : Nat) (s : State) : Ans := .next (s.fires i 2 (State.actEpoch i))
/-- SCHED_RESALT (R326). -/
def execSchedResalt (i : Nat) (s : State) : Ans := .next (s.fires i 3 (State.actResalt i))
/-- SCHED_STOP (R136). -/
def execSchedStop (i : Nat) (s : State) : Ans := .next (s.fires i 4 (State.actStop i))
/-- SCHED_TRACE_TRIG (R516). -/
def execSchedTraceTrig (i : Nat) (s : State) : Ans := .next (s.fires i 6 (State.actTrace i))
/-- SCHED_DUMP (R520). -/
def execSchedDump (i : Nat) (s : State) : Ans := .next (s.fires i 7 (State.actDump i))
/-- SCHED_TRIG_OUT (R132). -/
def execSchedTrigOut (i : Nat) (s : State) : Ans := .next (s.fires i 8 (State.actTrig i))

/-- SCHED_RESUME (R140): the entry fires, or, when it has fired and its STOP has completed since, the stop ends. -/
def execSchedResume (i : Nat) (s : State) : Ans :=
  .next (
    let e := s.sched i
    let x := s.stop e.part
    if e.st = 2 ∧ e.action = 5 ∧ x.active ∧ x.resume = some i then if x.complete then s.resume e.part i else s
    else s.fires i 5 (State.actResume i))

/-! Domain entries (R128, R129). -/

/-- The 32 bytes of an entry (R122). -/
def Sched.bytes (e : Sched) : List Byte :=
  leBytes 8 e.instant ++ leBytes 4 e.period
    ++ [BitVec.ofNat 8 e.action, BitVec.ofNat 8 e.st,
        BitVec.ofNat 8 (e.part % 16 + 16 * b2n e.block + 32 * b2n e.stagger + 64 * b2n e.domain + 128 * b2n e.late), BitVec.ofNat 8 e.missed]
    ++ leBytes 4 e.id.toNat ++ leBytes 8 e.param.toNat ++ leBytes 2 e.origin ++ [0, 0]

/-- The entry that a request asks for. -/
def schedOf (p origin : Nat) (e : SchedReq) : Sched :=
  { st := 1, instant := e.instant, period := e.period, action := e.action, part := p, block := e.block, stagger := e.stagger,
    domain := e.domain, late := false, missed := 0, id := e.id, param := e.param, origin := origin }

/-- The KIND 0x31 and 0x32 payloads (R316). -/
def entryPayload (e : Sched) : List Byte := 0x31 :: List.replicate 15 0 ++ e.bytes
/-- The KIND 0x32 payload. -/
def cancelPayload (origin : Nat) (id : Word) : List Byte :=
  [0x32, 0, 0, 0] ++ leBytes 2 origin ++ [0, 0] ++ leBytes 4 id.toNat ++ List.replicate 20 0

/-- A frame of a DOMAIN entry or cancel has been handled: a repeat is discarded. -/
def State.see (p origin : Nat) (id : Word) (cancel : Bool) (s : State) : State :=
  s.modDt fun d => { d with seen := (p, origin, id, cancel) :: d.seen }

/-- A DOMAIN entry arrives (R128, R129): it is forwarded once and armed here; one whose instant has passed fires at once, LATE. With
STAGGER its instant here is the staggered one (R133), so an entry between the two is armed and not late (DEDUCED, log entry 57). An
entry that finds the table full leaves a press record. -/
def State.applyEntry (h : RxHdr) (e : SchedReq) (origin si : Nat) (s : State) : State :=
  let p := si - 1
  if si = 0 ∨ s.dt.seen.contains (p, origin, e.id, false) then s
  else
    let x := { schedOf p origin e with domain := true, block := false }
    let t := (s.see p origin e.id false).broadcast p 0x31 (some h.port) (entryPayload x)
    match t.freeSched with
    | none => t.press 7 .outOfSlots (some p) origin
    | some i =>
      let u := t.setSched i x
      if u.isDue x then u.fire i true (State.action i) else u

/-- DOMAIN_SCHED_ENTRY_RX. -/
def execDomainSchedEntryRx (h : RxHdr) (e : SchedReq) (origin : Nat) (s : State) : Ans :=
  .next (s.rx h 0x31 (.cmd (.domainSchedEntryRx h e origin)) (State.applyEntry h e origin))

/-- Cancel the ARMED entries that a condition picks. -/
def State.unarm (f : Sched → Bool) (s : State) : State :=
  s.modDt fun d => { d with sched := d.sched.filter fun x => !(decide (x.2.st = 1) && f x.2) }

/-- A DOMAIN cancel arrives (R128). -/
def State.applyCancel (h : RxHdr) (origin : Nat) (id : Word) (si : Nat) (s : State) : State :=
  let p := si - 1
  if si = 0 ∨ s.dt.seen.contains (p, origin, id, true) then s
  else ((s.see p origin id true).unarm fun e =>
    decide (e.part = p) && !e.block && e.domain && decide (e.origin = origin) && decide (e.id = id) && !s.isDue e).broadcast p 0x32
      (some h.port) (cancelPayload origin id)

/-- DOMAIN_SCHED_CANCEL_RX. -/
def execDomainSchedCancelRx (h : RxHdr) (origin : Nat) (id : Word) (s : State) : Ans :=
  .next (s.rx h 0x32 (.cmd (.domainSchedCancelRx h origin id)) (State.applyCancel h origin id))

/-! Commands (R123, R390). -/

/-- A register window that is there. -/
def State.windowThere (s : State) (w : Nat) : Bool :=
  !(rowsAt s.params.profile (0x10000 * w)).isEmpty && !unitAbsent s.params (0x10000 * w)

/-- The partition uses a sector group: it holds an anchor entry in the group's range that is Live or Wilted (R103). -/
def State.partUses (s : State) (n p : Nat) : Bool :=
  s.sg.anchors.any fun x => decide (s.ancFirst n ≤ x.1) && decide (x.1 < s.ancFirst n + s.ancCount n)
    && decide (x.2.st ≠ 0) && decide (x.2.part = p)

/-- An issuer that R123 lists for an action; a DEVICE commits the windows of its partition's units alone: the sector groups that the
partition uses. -/
def State.mayAct (s : State) (i : Issuer) (p action param : Nat) : Bool :=
  if action = 1 then
    decide (i = .mgmt) || decide (i = .host)
      || (decide (i = .device) && (s.groupWin (param % 65536)).any fun n => s.partUses n p)
  else if action = 2 ∨ action = 3 ∨ action = 7 then decide (i = .tenant)
  else if 4 ≤ action ∧ action ≤ 6 then decide (i = .tenant) || decide (i = .device)
  else if action = 8 then decide (i ≠ .tenant)
  else true

/-- ORIGIN of an entry that is armed here (R390). -/
def State.schedOrigin (s : State) (p : Nat) (block : Bool) : Nat := if block then 0x3FFF else s.memberOf p

/-- An entry that is live. -/
def State.liveEntry (s : State) (block : Bool) (origin : Nat) (id : Word) : Option Nat :=
  (List.range 256).find? fun i =>
    let e := s.sched i
    decide (e.st ≠ 0) && decide (e.block = block) && decide (e.origin = origin) && decide (e.id = id)

/-- SCHED_ARM (R123, R128, R390). -/
def execSchedArm (h : Hdr) (e : SchedReq) (s : State) : Ans :=
  .next (
    let origin := s.schedOrigin h.part e.block
    let staff := decide (h.issuer = .mgmt) || decide (h.issuer = .host)
    s.admitCmd ⟨0x0601, [.mgmt, .host, .tenant, .device], .all, 26, 0, false⟩ h
      (chk (!e.block || staff) .refusedIssuer 29 ++ chk (s.mayAct h.issuer h.part e.action e.param.toNat) .refusedIssuer 28
        ++ chk (decide (1 ≤ e.action) && decide (e.action ≤ 8)) .badParam 28
        ++ chk (!e.block || decide (e.action = 1) || decide (e.action = 8)) .badParam 28
        ++ chk (!e.block || !e.domain) .badParam 29
        ++ chk (e.block || decide (s.pst h.part ≠ 0)) .badParam 2
        ++ chk (!e.domain || (decide (s.pst h.part = 3) && decide (s.now + 1000000 ≤ e.instant))) .badParam 16
        ++ chk (decide (e.action ≠ 1) || s.windowThere (e.param.toNat % 65536)) .badParam 34
        ++ chk (decide (e.action ≠ 2 ∧ e.action ≠ 3) || decide (e.param.toNat % 2 ^ 18 < 2 ^ s.params.fpCount)) .badParam 34
        ++ chk (s.liveEntry e.block origin e.id).isNone .badParam 30 ++ chk s.freeSched.isSome .outOfSlots 16)
      (fun p t =>
        let x := schedOf (if e.block then 0 else h.part) origin e
        let i := t.freeSched.getD 0
        let u := t.setSched i x
        (if e.domain then (u.see h.part origin e.id false).broadcast h.part 0x31 none (entryPayload x) else u).ok p i))

/-- SCHED_CANCEL (R131, R390): an entry that has fired, or is due, is found fired. -/
def execSchedCancel (h : Hdr) (id : Word) (block : Bool) (s : State) : Ans :=
  .next (
    let origin := s.schedOrigin h.part block
    let staff := decide (h.issuer = .mgmt) || decide (h.issuer = .host)
    let hit := (s.liveEntry block origin id).map fun i => (i, s.sched i)
    s.admitCmd ⟨0x0602, [.mgmt, .host, .tenant, .device], .all, 5, 0, false⟩ h
      (chk (!block || staff) .refusedIssuer 20
        ++ chk (hit.all fun x => (block || decide (x.2.part = h.part)) && s.mayAct h.issuer h.part x.2.action x.2.param.toNat) .refusedIssuer 16
        ++ chk (hit.any fun x => decide (x.2.st = 1) && !s.isDue x.2) .badParam 16)
      (fun p t =>
        match hit with
        | some (i, e) =>
          let u := t.setSched i Sched.free
          (if e.domain then (u.see h.part origin id true).broadcast h.part 0x32 none (cancelPayload origin id) else u).ok p 0
        | none => t.endsWith p .badParam))

end Sys2Proof.Machine
end

