-- ==== Sys2Proof/Machine/Clock.lean ====
section
/-!
DEFINITION. What the passing of time does by itself: an idle step is one VCLK cycle, and in reset one TREF period of 6.4 ns (log
entry 3). Timeouts, intervals and firings are commands of their own.
-/
namespace Sys2Proof.Machine

/-- A TREF edge: domain time advances, and the nanoseconds spent UNLOCKED are counted in every partition (R105, R507). -/
def State.tickDt (s : State) : State :=
  if s.dt.st = 0 then s.modDt fun d => { d with edge := s.sg.clk }
  else
    let t := s.modDt fun d => { d with cnt := d.cnt + BitVec.ofNat 104 s.dtIncrement, edge := s.sg.clk }
    if s.dt.st = 4 then each s.held (fun p u => u.cntr p 10 (t.dt.cnt.toNat / 2 ^ 40 - s.dt.cnt.toNat / 2 ^ 40)) t else t

/-- The buckets of a port fill: 64 hundredths of a byte for each 100 MB/s of RATE, up to BURST (R329). -/
def State.fillTokens (k : Nat) (q : Port) (s : State) : Tab Nat :=
  [1, 2, 3, 4, 5, 6].foldl (fun t c =>
    t.set 0 c (min (6400 * max 65 (s.fld (rLnkTb k (c - 1)) 31 16)) (t.get 0 c + 64 * s.fld (rLnkTb k (c - 1)) 10 0))) q.tokens

/-- The SOF beat of a marked frame is transferred: the frame is stamped (R78). -/
def markSof (at_ : Int) : List (Nat × Option Int) → List (Nat × Option Int)
  | [] => []
  | (label, none) :: r => (label, some at_) :: r
  | x :: r => x :: markSof at_ r

/-- A port transfers one beat of its oldest sealed frame (R76, R314), and picking goes on. -/
def State.tickBeat (k : Nat) (s : State) : State :=
  match (s.port k).txq with
  | [] => s
  | x :: rest =>
    let t := s.modPort k fun q =>
      { q with stalled := false, txq := if x.beats ≤ 1 then rest else { x with beats := x.beats - 1, sof := false } :: rest }
    if x.sof ∧ x.label.isSome then t.modPtp k fun y => { y with txMarks := markSof s.fine y.txMarks } else t

/-- A port's buckets fill (R329). -/
def State.tickPort (k : Nat) (s : State) : State := s.modPort k fun q => { q with tokens := s.fillTokens k q }

/-- A TREF edge (R105). -/
def State.trefEdge (s : State) : State := each s.ports State.tickPort { s.tickDt with tref := s.tref + 1 }

/-- One VCLK cycle passes: the ports transfer a beat each, the stamp clock counts, a TREF edge comes after the cycles of its period
(R106), and a RESUME whose STOP has completed goes on (R140). In reset nothing runs but the time base. -/
def tick (s : State) : State :=
  let t := { s with out := [] }
  if s.service = .off then { t with tref := t.tref + 1 }
  else
    let u := (each t.ports State.tickBeat t).modSg fun g => { g with clk := g.clk + 1 }
    let v := if max 1 (Config.vclkPerTref u.tref) ≤ u.sg.clk - u.dt.edge then u.trefEdge else u
    (each parts16 State.resumeGo v).lowerCstop

end Sys2Proof.Machine
end

