-- ==== Sys2Proof/Machine/Reseal.lean ====
section
/-!
DEFINITION. The re-seal sweep (R170 to R173, R199, R229, R252): a region read and verified under slot A, and written under slot B.
-/
namespace Sys2Proof.Machine

/-- Work in a region that the sweep's lock waits for (R170). -/
def State.regionBusy (s : State) (e : Nat) : Bool :=
  s.sg.accs.any (fun a => decide (a.entry = e)) || s.sg.merge.any (fun m => decide (m.entry = e) && !m.ops.isEmpty)
    || s.sg.saQ.any (fun w => decide (w.entry = e))
    || s.sg.wr.any fun w => match w.what with
      | .sector lbn _ => decide (lbn / s.sectsPerRegion = e)
      | .line l _ => decide (l.entry = e)
      | .pass _ => false

/-! What the sweep reads. -/

/-- Words of a line as the sweep has them: those held, else what memory returned; and whether they came with UE. -/
def State.sweptLine (s : State) (got : Swept) (l : LineId) : List DWord × Bool :=
  match s.line l with
  | some x => (x.words, x.ue)
  | none => match got.lines.find? fun x => decide (x.1 = l.kind) && decide (x.2.1 = l.idx) with
    | some x => ((List.range 8).map fun i => x.2.2.1.getD i 0, x.2.2.2)
    | none => (zeroWords, false)

/-- An item of the tree as the sweep has it. -/
structure SweptItem where
  /-- Its parent counter. -/
  parent : DWord
  words : List DWord
  /-- It or its MAC line came with UE, on it or above it on the path. -/
  ue : Bool
  /-- Metadata index of the uppermost item on the path that fails its MAC. -/
  bad : Option Nat
  deriving DecidableEq, Repr

/-- One step down the path of version block `j`: a held item is used as it is, one under a parent counter of 0 is zeros, another is
compared with its MAC under slot A's tree key (R194, R200, R205). -/
def State.sweptStep (s : State) (got : Swept) (n e j : Nat) (up : SweptItem) (lvl : Nat) : SweptItem :=
  let l := pathLine n e j lvl
  let ctr := if s.topLevel ≤ lvl then (s.anchor e).counter else up.words.getD (childSlot j (lvl + 1)) 0
  let x := s.sweptLine got l
  let m := s.sweptLine got (s.macLine l)
  if (s.verified l).isSome then { parent := ctr, words := x.1, ue := up.ue, bad := up.bad }
  else if ctr = 0 then { parent := ctr, words := zeroWords, ue := up.ue, bad := up.bad }
  else
    let fails := decide (s.itemMac (treeKey (s.slot (s.anchor e).slot).value (s.anchor e).part (s.anchor e).slot) l ctr x.1
      ≠ m.1.getD (s.macIdx l.kind l.idx % 8) 0)
    { parent := ctr, words := x.1, ue := up.ue || x.2 || m.2,
      bad := match up.bad with | some i => some i | none => if fails then some (s.metaIdx l) else none }

/-- Version block `j` of a region, with what its path found. -/
def State.sweptVer (s : State) (got : Swept) (n e j : Nat) : SweptItem :=
  ((List.range (s.topLevel + 1)).reverse).foldl (s.sweptStep got n e j) { parent := 0, words := zeroWords, ue := false, bad := none }

/-- What a sector of the region becomes: it was never written or its plot has no live object, so that it takes the unowned form; it is
poisoned; or it holds data. -/
inductive SweptSect where
  | unowned
  | poisoned (obj gen : Nat) (version : DWord)
  | holds (obj gen : Nat) (version : DWord) (plain : Sector)
  deriving DecidableEq, Repr

/-- What the checks of a sector give, as of an ordinary read (R171, R227): the region turns Wilted, a tamper with what the breach names,
or what the sector becomes. Its new version is one above the old; one at its end stays there. -/
inductive SweptGo where
  | wilt
  | tamper (addr : Nat)
  | go (x : SweptSect)
  deriving DecidableEq, Repr

/-- Read and verify a sector under slot A (R170 step 2, R171, R227, R228). The unowned form is version 0 with a tag of zeros, nothing
being written to the sector (DESIGN CHOICE, log entry 67: the spec names the form and defines it nowhere). -/
def State.sweptSect (s : State) (got : Swept) (n e : Nat) (x : SweptItem) (sect : Nat) : SweptGo :=
  let a := s.anchor e
  let tag := s.sweptLine got (tagLine n e sect)
  let data := (got.sects.find? fun y => decide (y.1 = sect)).map fun y => y.2
  let ver := x.words.getD (sect % 8) 0
  let next := if ver = BitVec.allOnes 64 then ver else ver + 1
  let pl := s.plotOf (s.sectAddr n e sect / 65536)
  let ue := decide (ver ≠ 0) && (tag.2 || data.any fun y => y.2)
  let ks := s.keysOf a.part { slot := a.slot, obj := pl.obj, gen := pl.gen }
  let lbn := s.lbn e sect
  let cipher := (data.map fun y => y.1).getD 0
  let stored := tag.1.getD (sect % 8) 0
  let mark := poisonMark ks ver.toNat lbn pl.gen
  if x.ue then .wilt
  else match x.bad with
    | some i => if ue then .wilt else .tamper i
    | none =>
      if !pl.bound then .go .unowned
      else if ver = 0 then .go (.holds pl.obj pl.gen next 0)
      else if ue || decide (stored = mark) then .go (.poisoned pl.obj pl.gen next)
      else if stored ≠ sectTag ks cipher ver.toNat lbn pl.gen then .tamper lbn
      else .go (.holds pl.obj pl.gen next (Config.xtsDec ks.data ks.twk (tweak lbn ver.toNat pl.gen) cipher))

/-- What the whole region becomes, sector by sector in ascending order; the first failure decides (R171). -/
def State.sweptRegion (s : State) (got : Swept) (n e : Nat) : SweptGo ⊕ List SweptSect :=
  ((List.range (s.sectsPerRegion / 8)).foldl (fun (acc : SweptGo ⊕ List SweptSect) j =>
    match acc with
    | .inl f => .inl f
    | .inr _ =>
      let x := s.sweptVer got n e j
      (List.range 8).foldl (fun (acc : SweptGo ⊕ List SweptSect) i =>
        match acc with
        | .inl f => .inl f
        | .inr l => match s.sweptSect got n e x (8 * j + i) with
          | .go y => .inr (l ++ [y])
          | f => .inl f) acc) (.inr []))

/-! What the sweep writes. -/

/-- Version of a sector under slot B. -/
def SweptSect.version : SweptSect → DWord
  | .unowned => 0
  | .poisoned _ _ v => v
  | .holds _ _ v _ => v

/-- A sector under slot B: its tag or poison mark, and the ciphertext where it holds data (R170 steps 2 to 4, R191). -/
def State.sealUnder (s : State) (p new e sect : Nat) : SweptSect → DWord × Option Sector
  | .unowned => (0, none)
  | .poisoned obj gen v => (poisonMark (s.keysOf p { slot := new, obj := obj, gen := gen }) v.toNat (s.lbn e sect) gen, none)
  | .holds obj gen v plain =>
    let ks := s.keysOf p { slot := new, obj := obj, gen := gen }
    let c := Config.xtsEnc ks.data ks.twk (tweak (s.lbn e sect) v.toNat gen) plain
    (sectTag ks c v.toNat (s.lbn e sect) gen, some c)

/-- Groups of eight words. -/
def eights (l : List DWord) : List (List DWord) :=
  (List.range ((l.length + 7) / 8)).map fun i => (List.range 8).map fun k => l.getD (8 * i + k) 0

/-- The counter of a line of the rebuilt tree: 1, or 0 for one of zeros, which counts as never written back (DESIGN CHOICE, log entry
67: the spec says that the tree is rebuilt and not with which counters). -/
def builtCtr (w : List DWord) : DWord := if w.all (fun x => decide (x = 0)) then 0 else 1

/-- The levels of a rebuilt tree over one level, upwards: the lines of each. -/
def builtTree : Nat → List (List DWord) → List (List (List DWord))
  | 0, l => [l]
  | k + 1, l => l :: builtTree k (eights (l.map builtCtr))

/-- Write one metadata line of zeros or more to memory on its port. -/
def State.sweepLine (l : LineId) (w : List DWord) (s : State) : State :=
  let d : Sector := BitVec.ofNat 2048 ((w.zipIdx.map fun x => x.1.toNat * 2 ^ (64 * x.2)).sum)
  (s.msWrite l.group (s.linePort l) (s.toMs l.group (s.lineLocal l)) 1 d (BitVec.ofNat 256 (2 ^ 64 - 1)) (.line l w)).glob
    (64 + 8 * l.group + 3) 1

/-- Write the region under slot B: its sectors, its tag lines, its version blocks and nodes that are not zeros, and their MAC lines; then
its anchor entry changes in one write (R170 steps 2 to 5, R200). -/
def State.resealTo (p n e new : Nat) (l : List SweptSect) (s : State) : State :=
  let out := l.zipIdx.map fun x => (x.2, s.sealUnder p new e x.2 x.1, x.1)
  let tree := builtTree s.topLevel (eights (l.map SweptSect.version))
  let kind (lvl : Nat) : LineKind := if lvl = 0 then .ver else .node lvl
  let items : List (LineId × List DWord) := (tree.zipIdx.map fun y =>
    y.1.zipIdx.map fun z => (({ group := n, entry := e, kind := kind y.2, idx := z.2 } : LineId), z.1)).flatten
  let tk := treeKey (s.slot new).value p new
  let macs := eights (items.map fun y => if builtCtr y.2 = 0 then 0 else s.itemMac tk y.1 1 y.2)
  let tags := eights (out.map fun y => y.2.1.1)
  let lines := items.filter (fun y => decide (builtCtr y.2 ≠ 0))
    ++ (tags.zipIdx.map fun y => (({ group := n, entry := e, kind := .tag, idx := y.2 } : LineId), y.1))
    ++ (macs.zipIdx.map fun y => (({ group := n, entry := e, kind := .mac, idx := y.2 } : LineId), y.1))
  let t := (s.dropRegion e).modSg fun g => { g with merge := g.merge.filter fun m => decide (m.entry ≠ e) }
  let u := each out (fun y v => match y.2.1.2, y.2.2 with
    | some c, .holds _ _ _ plain =>
      (v.msWrite n 0 (v.sectAddr n e y.1) 4 c (BitVec.allOnes 256) (.sector (v.lbn e y.1) plain)).glob (64 + 8 * n + 1) 1
    | _, _ => v) t
  let w := each lines (fun y v => v.sweepLine y.1 y.2) u
  w.setAnchor e { w.anchor e with
    slot := new, counter := builtCtr ((tree.getLast?.bind fun y => y.head?).getD zeroWords), err := 0, full := false }

/-- The zero-fill of a region (R502 step 3): it is Live under slot Z while every sector is written with zeros under object 0, generation 0
as a first write, with its metadata, and Unowned again. -/
def State.zeroRegion (p e z : Nat) (s : State) : State :=
  match s.groupOfEntry e with
  | none => s
  | some n => (s.resealTo p n e z (List.replicate s.sectsPerRegion (.holds 0 0 1 0))).setAnchor e Anchor.unowned

/-- RESEAL_REGION (R170, R171, R252): the sweep of group `n` takes its next region of partition `p`, once nothing in it is in flight; its
DIRTY merge entries are written back under slot A first, and the command is given again. What the reads return comes with it. -/
def execResealRegion (p n : Nat) (got : Swept) (s : State) : Ans :=
  .next (
    let r := s.reseal p
    match (s.regionsOn p r.old).filter fun e => decide (s.groupOfEntry e = some n) with
    | [] => s
    | e :: _ =>
      if !r.active || !s.runs || decide (s.pst p = 5) || s.regionBusy e then s
      else if s.sg.merge.any fun m => decide (m.entry = e) && m.dirty then (s.backWhere fun m => decide (m.entry = e)).flow
      else
        let next (u : State) : State := (u.setReseal p { u.reseal p with done := (u.reseal p).done + 1 }).resealEnd p
        let passed (u : State) : State := next (u.setAnchor e { u.anchor e with slot := r.new, counter := 0, full := false })
        let (t, a) := (s.commitWindow 2).useRegion e
        if a.restoring then t
        else if a.st = 2 then passed t
        else match t.sweptRegion got n e with
          | .inl (.tamper i) => t.breach 1 i
          | .inl _ => passed (t.wiltRegion e .block)
          | .inr l => next (t.resealTo p n e r.new l))

end Sys2Proof.Machine
end

