-- ==== Sys2Proof/Machine/Recovery.lean ====
section
/-!
DEFINITION. The handshakes with the host (R86), the steps of reset below the chip (R490 to R497), the scrub between users (R501 to
R504), and the chip and power-cycle requests (R498 to R500).
-/
namespace Sys2Proof.Machine

/-! Reset steps in progress. -/

/-- A reset step begins. -/
def State.addStep (x : Step) (s : State) : State := s.modRst fun r => { r with steps := r.steps ++ [x] }
/-- The steps that a condition picks end. -/
def State.endSteps (f : Step → Bool) (s : State) : State := s.modRst fun r => { r with steps := r.steps.filter fun x => !f x }

/-- Host engines mapped to a partition (R491). -/
def State.engines (s : State) (q : Nat) : List Nat :=
  if s.params.profile = .a then (List.range 32).filter fun e => bit (s.reg (rRstEng e)) 31 && decide (s.fld (rRstEng e) 3 0 = q) else []

/-- The step is an engine reset of host engine `e`. -/
def Step.onEngine (e : Nat) : Step → Bool
  | .engine d _ _ _ _ => decide (d = e)
  | _ => false
/-- The step is an engine reset that serves partition `q`. -/
def Step.onPart (q : Nat) : Step → Bool
  | .engine _ d _ _ _ => decide (d = q)
  | _ => false
/-- The step is a context reset or a teardown's drain of context `c`. -/
def Step.onCtx (c : Nat) : Step → Bool
  | .context d _ => decide (d = c)
  | _ => false
/-- The command of a context reset. -/
def Step.ctxCmd : Step → Option Pend
  | .context _ p => p
  | _ => none
/-- The commands that an engine reset answers. -/
def Step.engCmds : Step → List Pend
  | .engine _ _ _ ps _ => ps
  | _ => []

/-- The engine reset of a host engine that is running. -/
def State.engStep (s : State) (e : Nat) : Option Step := s.rst.steps.find? (Step.onEngine e)

/-- The fence handshake of a partition has been acknowledged (R86). -/
def State.fenceUp (s : State) (q : Nat) : Bool := bit s.pins.pfenceReq q && bit s.pins.pfenceAck q

/-- ENG_RST_REQ rises once the partition is fenced and the last handshake has ended (R86, R495). -/
def State.engGo (x : Step) (s : State) : State :=
  match x with
  | .engine e q false _ _ =>
    if !bit s.pins.engReq e && !bit s.pins.engAck e && (decide (q = 16) || s.fenceUp q) then
      s.modPins fun y => { y with engReq := setBit y.engReq e true }
    else s
  | _ => s

/-! Leaving FENCED (R493). -/

/-- A reset behind a fence ends: with the last of them the partition returns to its earlier state, and one that was BOUND waits for
a session while the instance is LOCKED. -/
def State.unfence (q : Nat) (s : State) : State :=
  let x := s.part q
  if x.st ≠ 4 then s
  else
    let t := s.modPart q fun y => { y with holds := y.holds - 1 }
    if 1 < x.holds then t
    else if x.before = 2 then t.tryJoin q
    else (t.modPart q fun y => { y with st := y.before }).lowerPfence q

/-! Entry to SCRUBBING (R501). -/

/-- Links, TDI and streams of the partition. -/
def State.scrubPorts (q : Nat) (s : State) : State :=
  let s1 := s.closePart q 1
  let s2 := each (s1.ports.filter fun k => decide ((s1.sess k (1 + q)).st = 1) || decide ((s1.sess k (1 + q)).st = 2))
    (fun k t => t.sessDown k (1 + q)) s1
  let s3 := s2.tdiError q
  let owned := ((List.range s3.params.hcCount).map fun h => (List.range 8).map fun i => (h, i)).flatten.filter fun x =>
    decide (s3.streamOwner x.1 x.2 = some q)
  let s4 := each owned (fun x t => t.streamDown x.1 x.2) s3
  each (s4.slotsWhere fun _ v => decide (v.part = q) && !v.block && decide (v.use = 2)) State.retire s4

/-- Contexts of the partition end without fault records: a teardown finishes, a context reset is answered FENCED, and the queues
are removed with the commands on them (R418, R497, R501). -/
def State.scrubCtxs (q : Nat) (s : State) : State :=
  let cs := s.ctxsOf q
  let onQueue (p : Pend) : Bool := match p.h.path with | .ctxq c _ => cs.contains c | _ => false
  let s1 := each cs (fun c t => each (List.range 8) (fun i => State.removeQueue (16 + 8 * c + i)) t)
    (s.modCmd fun m => { m with inflight := m.inflight.filter fun p => !onQueue p })
  let torn := ((s.obju.tear.filter fun x => cs.contains x.1).map fun x => x.2.ends .done)
    ++ ((s.rst.steps.filter fun x => cs.any fun c => x.onCtx c).filterMap Step.ctxCmd).map fun p => p.ends .fenced
  let s2 := (s1.endSteps fun x => cs.any fun c => x.onCtx c).modObju fun o =>
    { o with ctxs := o.ctxs.filter (fun x => !cs.contains x.1), tear := o.tear.filter (fun x => !cs.contains x.1),
             waiting := o.waiting.filter fun x => !cs.contains x.1 }
  s2.complete (torn.filter fun d => !onQueue d.p)

/-- Commands of the partition that are still in flight are answered FENCED, but for those that wait for the scrub and for a CARRY,
which ends with its inner command. -/
def State.scrubCmds (q : Nat) (s : State) : State :=
  let rest := s.cmd.inflight.filter fun p => decide (p.h.part = q) && !(s.part q).rels.contains p && decide (p.opc ≠ 0x0002)
  let t := (s.modKey fun k =>
    { k with cce := k.cce.filter (fun m => !(m.p.any fun p => rest.contains p)),
             pke := k.pke.filter fun j => match j.ends with | .attest p _ => !rest.contains p | _ => true,
             reseal := k.reseal.upd Reseal.none q fun r => { r with active := false, p := none } }).modObju fun o =>
    { o with waits := o.waits.filter (fun w => !rest.contains w.2.2),
             objs := o.objs.mapAll Obj.vacant fun i x => if i / 2 ^ 25 = q then { x with free := none } else x }
  t.complete (rest.map fun p => p.ends .fenced)

/-- Fences, schedule entries, the STOP, trace rings, tensors, dumps, doorbell slots, counters and the rejoin record. -/
def State.scrubTables (q : Nat) (s : State) : State :=
  let mine := (s.obju.fences.filter fun x => x.2.used && decide (x.2.part = q)).map fun x => x.1
  let s1 := s.modObju fun o =>
    { o with fences := o.fences.filter (fun x => !mine.contains x.1), freed := o.freed ++ mine,
             dfences := o.dfences.filter (fun x => decide (x.1 / 4096 ≠ q)), adbs := o.adbs.filter fun x => decide (x.1 / 64 ≠ q) }
  let s2 := s1.modDt fun d =>
    { d with sched := d.sched.filter (fun x => x.2.block || decide (x.2.part ≠ q)), stops := d.stops.drop q }
  let s3 := s2.lowerCstop
  let s4 := s3.modObs fun o =>
    { o with rings := o.rings.filter (fun x => decide (x.1 / 4 ≠ q)), tensors := o.tensors.filter (fun x => decide (x.1 ≠ q)),
             dumps := o.dumps.filter fun d => decide (d.part ≠ q) }
  (s4.eraseRecord q).zeroCntrs q

/-- Accesses, arithmetic and egress of the partition that are still held: nothing of it leaves but replies on other queues. -/
def State.scrubFlow (q : Nat) (s : State) : State :=
  let t := s.modSg fun g =>
    { g with accs := g.accs.filter (fun a => decide (a.part ≠ q)), saQ := g.saQ.filter (fun w => decide (w.op.part ≠ q)),
             merge := g.merge.map fun m => { m with ops := m.ops.filter fun o => decide (o.part ≠ q) } }
  let u := t.modRem fun r => { r with serves := r.serves.filter fun x => decide (x.part ≠ q) }
  let held := ((u.cmd.cdm.filter fun x => decide (x.1 = q)).map (fun x => x.2.2)
      ++ (u.cmd.cdmWait.filter fun x => decide (x.1 = q)).map fun x => x.2).filter fun o => match o with
    | .reply r => !(match r.path with | .ctxq _ _ => true | _ => false)
    | _ => false
  (each held State.cdmMake (u.modCmd fun c =>
    { c with cdm := c.cdm.filter (fun x => decide (x.1 ≠ q)), cdmWait := c.cdmWait.filter fun x => decide (x.1 ≠ q) })).cdmRefill

/-- A partition whose fence and engine resets are complete enters SCRUBBING (R501, R502). -/
def State.enterScrub (q : Nat) (s : State) : State :=
  let t := ((((s.scrubPorts q).scrubFlow q).scrubCtxs q).scrubCmds q).scrubTables q
  t.modPart q fun x => { x with st := 5, scrub := 1, wantScrub := false, holds := 0, reserved := 0 }

/-- What the fences and handshakes that have come allow: engine resets go on, and partitions that wait for theirs enter
SCRUBBING. -/
def State.resetsGo (s : State) : State :=
  let t := each s.rst.steps State.engGo s
  each (parts16.filter fun q => (t.part q).wantScrub && t.fenceUp q && !(t.rst.steps.any (Step.onPart q))) State.enterScrub t

/-! Beginning steps (R494, R495, R501). -/

/-- An engine reset of host engine `e` for partition `q` (16: none) begins, or the running one also answers the commands. -/
def State.engineStep (e q : Nat) (ps : List Pend) (s : State) : State :=
  match s.engStep e with
  | some _ => s.modRst fun r =>
      { r with steps := r.steps.map fun x =>
          match x with
          | .engine d u a l f => if d = e then .engine d u a (l ++ ps) f else x
          | _ => x }
  | none => ((when (decide (q < 16)) (State.fencePart q) s).addStep (.engine e q false ps false)).resetsGo

/-- The partition step begins: the fence, the resets of every engine mapped to it, then SCRUBBING; a scrub that runs already
answers the commands as well and goes on unchanged (R40, R504). -/
def State.partStep (q : Nat) (ps : List Pend) (zeroFill : Bool) (s : State) : State :=
  let x := s.part q
  if x.st = 0 then s
  else if x.st = 5 ∨ x.wantScrub then
    s.modPart q fun y => { y with rels := y.rels ++ ps, zeroFill := y.zeroFill || (zeroFill && decide (x.st ≠ 5)) }
  else
    let t := ((s.fencePart q).modPart q fun y => { y with wantScrub := true, rels := y.rels ++ ps, zeroFill := zeroFill }).addStep
      (.partition q)
    (each (t.engines q) (fun e u => when ((u.engStep e).isNone) (State.addStep (.engine e q false [] true)) u) t).resetsGo

/-- An engine reset ends: the fence ends, and each command that no other engine reset answers gets its reply (R495, R497). -/
def State.engineEnd (x : Step) (s : State) : State :=
  match x with
  | .engine e q _ ps forPart =>
    let t := (s.endSteps (Step.onEngine e)).count rRstCount 15 8 1
    let u := when (!forPart && decide (q < 16)) (State.unfence q) t
    let last := ps.filter fun p => !(u.rst.steps.any fun y => y.engCmds.contains p)
    (u.complete (last.map fun p => { p.ends .done with result := 2 })).resetsGo
  | _ => s

/-! Handshakes (R86, R88). A pin is taken as it stands while the block is in reset; only its level is kept then (R67). -/

/-- PFENCE_ACK rises: what is left of the partition is answered, and it is FENCED; the REQ of a fence that has ended meanwhile falls now
(R86). -/
def execPfenceAckRise (q : Nat) (s : State) : Ans :=
  .next (
    if 16 ≤ q then s
    else
      let t := s.modPins fun y => { y with pfenceAck := setBit y.pfenceAck q true }
      if s.service = .off ∨ !bit s.pins.pfenceReq q then t
      else if s.pfenceWant q then (t.fenceMn fun _ p => decide (p = q)).resetsGo
      else t.lowerPfence q)

/-- PFENCE_ACK falls: the handshake is complete, and a fence that waited for it raises PFENCE_REQ (R86). -/
def execPfenceAckFall (q : Nat) (s : State) : Ans :=
  .next (
    if 16 ≤ q then s
    else
      let t := s.modPins fun y => { y with pfenceAck := setBit y.pfenceAck q false }
      if s.service ≠ .off ∧ s.pfenceWant q then t.raisePfence q else t)

/-- ENG_RST_ACK rises: ENG_RST_REQ falls (R495). -/
def execEngRstAckRise (e : Nat) (s : State) : Ans :=
  .next (
    if 32 ≤ e then s
    else
      let t := s.modPins fun y => { y with engAck := setBit y.engAck e true }
      match t.engStep e with
      | some (.engine _ q false ps f) =>
        if s.service ≠ .off ∧ bit s.pins.engReq e then
          (t.modPins fun y => { y with engReq := setBit y.engReq e false }).modRst fun r =>
            { r with steps := r.steps.map fun x => if x.onEngine e then .engine e q true ps f else x }
        else t
      | _ => t)

/-- ENG_RST_ACK falls: the engine reset ends (R495). -/
def execEngRstAckFall (e : Nat) (s : State) : Ans :=
  .next (
    if 32 ≤ e then s
    else
      let t := s.modPins fun y => { y with engAck := setBit y.engAck e false }
      if s.service = .off then t
      else match t.engStep e with
        | some (.engine d q true ps f) => t.engineEnd (.engine d q true ps f)
        | _ => t.resetsGo)

/-- CSTOP_ACK rises: the host's compute is quiescent (R88); the CSTOP of a STOP that has ended meanwhile falls now (R86). -/
def execCstopAckRise (s : State) : Ans :=
  .next (
    let t := s.modPins fun y => { y with cstopAck := true }
    if s.service = .off ∨ s.boot.phase ≠ .ready then t else t.lowerCstop)

/-- CSTOP_ACK falls: a STOP that waited for it raises CSTOP (R86). -/
def execCstopAckFall (s : State) : Ans :=
  .next (
    let t := s.modPins fun y => { y with cstopAck := false }
    if s.service ≠ .off ∧ s.dt.stops.any (fun x => x.2.active) then t.raiseCstop else t)

/-! Context steps (R494, R417). -/

/-- A context reset whose commands have all been answered ends (R494, R497). -/
def State.ctxResetEnd (c : Nat) (s : State) : State :=
  if (s.ctx c).resetting && s.drained c then
    let ps := (s.rst.steps.filter (Step.onCtx c)).filterMap Step.ctxCmd
    let t := (s.endSteps (Step.onCtx c)).modCtx c fun k => { k with resetting := false }
    (t.count rRstCount 7 0 ps.length).complete (ps.map fun p => { p.ends .done with result := 1 })
  else s

/-- TEARDOWN_DRAIN_END: every admitted command of the context has been answered, so its context reset ends, or its teardown runs
its remaining steps (R417, R494). -/
def execTeardownDrainEnd (ctx : Nat) (s : State) : Ans :=
  .next (
    let t := s.ctxResetEnd ctx
    if (t.ctx ctx).st = 3 ∧ t.drained ctx then (t.endSteps (Step.onCtx ctx)).teardownEnd ctx else t)

/-- RST_CONTEXT (R494). -/
def execRstContext (h : Hdr) (ctx : Nat) (s : State) : Ans :=
  .next (s.admitWith ⟨0x0801, [.host, .device], .all, 2, 0, false⟩ h [] (s.restoreFirst h.part ctx) (s.ctxFails h.part ctx 16)
    (fun p t =>
      let u := (t.modCtx ctx fun k => { k with resetting := true }).addStep (.context ctx (some p))
      (((u.discardQueues ctx).tilesFenced h.part fun x => decide (x.ctx = ctx)).drainCtx ctx).ctxResetEnd ctx))

/-! Engine and partition steps (R491, R495, R501). -/

/-- RST_ENGINE (R491, R495). -/
def execRstEngine (h : Hdr) (engine : Nat) (s : State) : Ans :=
  .next (
    let mapped := bit (s.reg (rRstEng engine)) 31
    let q := if mapped then s.fld (rRstEng engine) 3 0 else 16
    s.admitCmd ⟨0x0802, [.mgmt, .host], .a, 1, 0, false⟩ h
      (chk (decide (engine < 32)) .badParam 16
        ++ chk (!mapped || (decide (s.pst q ≠ 0) && decide (s.pst q ≠ 5) && !(s.part q).wantScrub)) .badParam 16)
      (fun p t => t.engineStep engine q [p]))

/-- RST_PARTITION (R491, R501, R504). -/
def execRstPartition (h : Hdr) (s : State) : Ans :=
  .next (s.admitCmd ⟨0x0803, [.mgmt, .host], .all, 0, 0, false⟩ h (chk (decide (s.pst h.part ≠ 0)) .badParam 2)
    (fun p t => t.partStep h.part [p] false))

/-- The row of PART_RELEASE. -/
def releaseRow : Row := ⟨0x0102, [.mgmt, .host], .all, 1, 0, false⟩

/-- PART_RELEASE (R39, R40, R501): of a FREE partition it only erases the rejoin record that Tolaro still holds (R448). -/
def execPartRelease (h : Hdr) (zeroFill : Bool) (s : State) : Ans :=
  .next (
    let taken := s.admits && s.pathOpen h.path && (s.admitWait releaseRow.opc h [] none true).isNone
      && decide ((failStatus (s.headFails releaseRow h)).1 = .done)
    let t := if taken && decide (s.pst h.part = 0) then s.eraseRecord h.part else s
    t.admitCmd releaseRow h (chk (decide (t.pst h.part ≠ 0)) .badParam 2) (fun p u => u.partStep h.part [p] zeroFill))

/-- DOMAIN_TEARDOWN (R442, R501): CLOSE with reason 4, then the scrub. -/
def execDomainTeardown (h : Hdr) (s : State) : Ans :=
  .next (s.admitCmd ⟨0x0108, [.tenant], .all, 0, 0, false⟩ h (chk (s.part h.part).man.isSome .badParam 2)
    (fun p t => (t.closePart h.part 4).partStep h.part [p] false))

/-! The scrub (R502). -/

/-- Step 1 has ended: slots retire, merge entries, metadata lines and derived keys go, reductions end. -/
def State.scrubRetire (q : Nat) (s : State) : State :=
  let t := each (s.slotsWhere fun _ v => decide (v.part = q) && !v.block) State.retire s
  let mine (e : Nat) : Bool := let a := s.anchor e; decide (a.st ≠ 0) && decide (a.part = q)
  let u := t.modSg fun g =>
    { g with merge := g.merge.filter (fun m => decide (m.part ≠ q)), mdc := g.mdc.filter fun l => !mine l.id.entry }
  let v := u.modKey fun k =>
    { k with dkc := k.dkc.filter fun t => !(decide ((s.slot t.1.slot).part = q) && !(s.slot t.1.slot).block) }
  each (v.rem.pool.filter fun x => decide (x.part = q))
    (fun x w => (w.endReduction .memberLost x).modRem fun r =>
      { r with pool := r.pool.filter fun y => decide (¬(y.part = q ∧ y.hdr.rid = x.hdr.rid)) }) v

/-- Anchor entries of the partition. -/
def State.entriesOf (s : State) (q : Nat) : List Nat :=
  (s.sg.anchors.filter fun x => decide (x.2.st ≠ 0) && decide (x.2.part = q)).map fun x => x.1

/-- Step 2 has ended: every anchor entry is Unowned, memory slots are EMPTY, object and plot tables are gone. -/
def State.scrubAnchors (q : Nat) (s : State) : State :=
  let t := each (s.entriesOf q) (fun e u => u.setAnchor e Anchor.unowned) s
  let u := each (t.slotsWhere fun _ v => decide (v.part = q) && !v.block && decide (v.use = 0))
    (fun n v => (v.retire n).finishRetire n) t
  let lo := u.obju.ptFirst.get 0 q
  let plots := (s.obju.plots.filter fun x => (s.part q).ranges.any fun r =>
    decide (r.1 / 65536 ≤ x.1) && decide (x.1 < (r.1 + r.2) / 65536)).map fun x => x.1
  (u.modObju fun o =>
    { o with objs := o.objs.filter (fun x => decide (x.1 / 2 ^ 25 ≠ q)),
             plots := o.plots.filter (fun x => !plots.contains x.1 && !(decide (lo ≤ x.1) && decide (x.1 < lo + o.ptCount.get 0 q))),
             ptFirst := o.ptFirst.set 0 q 0, ptCount := o.ptCount.set 0 q 0, nextId := o.nextId.drop q }).modSg fun g =>
    { g with plotCache := g.plotCache.filter fun x => !plots.contains x }

/-- Step 4: the partition is FREE, PFENCE_REQ falls, the releasing commands are answered. -/
def State.scrubFree (q : Nat) (s : State) : State :=
  let ps := (s.part q).rels
  let t := (((s.modPart q fun _ => Part.free).dropShare q).lowerPfence q).count rRstCount 23 16 1
  let u := (t.modDt fun d => { d with seen := d.seen.filter fun x => decide (x.1 ≠ q) }).modObju fun o =>
    { o with oseq := o.oseq.drop q, seenFence := o.seenFence.filter fun x => decide (x.1 ≠ q) }
  let v := (u.modRem fun r =>
    { r with past := r.past.filter (fun x => decide (x.1 ≠ q)), pastC := r.pastC.filter fun x => decide (x.1 ≠ q) }).modLnk fun l =>
      { l with seenLost := l.seenLost.filter fun x => decide (x.1 ≠ q) }
  v.complete (ps.map fun p => { p.ends .done with result := if p.opc / 256 = 8 then 3 else 0 })

/-- SCRUB_STEP_DONE (R502): the step in progress completes and the next starts; a breach halt supersedes the scrub (R504). -/
def execScrubStepDone (p : Nat) (s : State) : Ans :=
  .next (
    let x := s.part p
    let go (n : Nat) (t : State) : State := t.modPart p fun y => { y with scrub := n }
    if !s.runs ∨ x.st ≠ 5 then s
    else match x.scrub with
      | 1 => go 2 (s.scrubRetire p)
      | 2 =>
        if x.zeroFill ∧ s.params.profile ≠ .s then
          match s.key.rngReady, (s.scrubAnchors p).takeSlot p with
          | true, some z =>
            let t := ((s.scrubAnchors p).endSteps fun y => decide (y = .partition p)).fill z p 0 0 false false true false
              ((s.free.setWidth 256).setWidth 512)
            go 3 (t.drawnPr.modPart p fun y => { y with zslot := some z, zero := s.entriesOf p })
          | _, _ => s
        else go 4 ((s.scrubAnchors p).endSteps fun y => decide (y = .partition p))
      | 3 =>
        if x.zero = [] then
          go 4 ((each x.zslot.toList (fun n v => (v.retire n).finishRetire n) s).modPart p fun y => { y with zslot := none })
        else s
      | 4 => s.scrubFree p
      | _ => s)

/-- ZERO_FILL_REGION (R502): a region is written with zeros under slot Z, flushed and set Unowned again. -/
def execZeroFillRegion (p e : Nat) (s : State) : Ans :=
  .next (
    match (s.part p).zslot with
    | some z =>
      if s.runs ∧ (s.part p).st = 5 ∧ (s.part p).scrub = 3 ∧ (s.part p).zero.contains e then
        ((s.modPart p fun y => { y with zero := y.zero.filter fun x => decide (x ≠ e) }).setAnchor e Anchor.unowned).zeroRegion p e z
      else s
    | none => s)

/-! The chip and power-cycle steps (R92, R496, R498 to R500). -/

/-- The body of the power-cycle message after its type byte (R500). -/
def State.pwrBody (s : State) (reason src : Nat) (dt : BitVec 64) : List Byte :=
  beBytes 4 (s.reg rRstPwrcycCfg).toNat ++ [1, BitVec.ofNat 8 reason, BitVec.ofNat 8 src, 0] ++ leBytes 8 dt.toNat
    ++ (beBytes 48 s.devid.toNat).take 8

/-- Send the power-cycle message to the endpoint that assigned the endpoint ID, where there is one (R500). -/
def State.sendPwr (s : State) : State :=
  match s.boot.pwrMsg with
  | some (reason, src, dt) =>
    if s.service ≠ .off ∧ s.att.eid.isSome then s.emit (.pwrMsg (s.pwrBody reason src dt)) else s
  | none => s

/-- PWRCYC_REQ rises and the power-cycle message is sent (R92, R499, R500). -/
def State.askPower (reason src : Nat) (s : State) : State :=
  ((s.modPins fun p => { p with pwrcycReq := true }).modBoot fun b =>
    { b with pwrMsg := some (reason, src, BitVec.ofNat 64 s.now) }).sendPwr

/-- The chip step hangs: 200 ms have passed since CHIP_RST_REQ rose and RESET_N is high (R92, R496). -/
def State.chipHung (s : State) : State :=
  if s.pins.chipRstReq ∧ s.pins.resetN ∧ s.rst.steps.contains .chip then
    ((s.endSteps fun x => decide (x = .chip)).count rRstCount 31 24 1).askPower 1 s.boot.chipCause
  else s

/-- CHIP_RST_REQ_TIMEOUT (R92). -/
def execChipRstReqTimeout (s : State) : Ans := .next s.chipHung

/-- POWER_CYCLE_MESSAGE_RESEND (R500). -/
def execPowerCycleMessageResend (s : State) : Ans := .next (if s.pins.pwrcycReq then s.sendPwr else s)

/-- RST_CHIP (R385, R498). -/
def execRstChip (h : Hdr) (s : State) : Ans :=
  .next (s.admitCmd ⟨0x0805, [.mgmt, .host], .all, 0, 0, false⟩ h (chk (!h.signal) .badParam 3) (fun _ t => t.chipRequest 8))

/-- PWR_CYCLE (R385, R499). -/
def execPwrCycle (h : Hdr) (s : State) : Ans :=
  .next (s.admitCmd ⟨0x0806, [.mgmt], .all, 0, 0, false⟩ h (chk (!h.signal) .badParam 3)
    (fun _ t =>
      let u := ((each parts16 State.raisePfence t.fenceAll).wipeMemSlots).askPower 2 0
      u.modBoot fun b => { b with pwrOff := true }))

/-- LOCKSTEP_MISMATCH (R480). -/
def execLockstepMismatch (s : State) : Ans := .next (if s.service = .off then s else s.critical 5 .done none 0)

/-! Escalation (R496). -/

/-- The context step hangs: the engines of the context's partition are reset in parallel, or the partition step runs. -/
def State.escalateCtx (c : Nat) (s : State) : State :=
  if !(s.rst.steps.any (Step.onCtx c)) then s
  else
    let ps := (s.rst.steps.filter (Step.onCtx c)).filterMap Step.ctxCmd
    let q := (s.ctx c).part
    let t := ((s.endSteps (Step.onCtx c)).modCtx c fun k => { k with resetting := false }).count rRstCount 31 24 1
    if (t.engines q).isEmpty then t.partStep q ps false else each (t.engines q) (fun e => State.engineStep e q ps) t

/-- The engine reset of a host engine hangs: the partition step runs, or the chip step for an engine that serves no partition. A
handshake under way goes on as it stands. -/
def State.escalateEng (e : Nat) (s : State) : State :=
  match s.engStep e with
  | some (.engine _ q _ ps false) =>
    let t := (s.endSteps (Step.onEngine e)).count rRstCount 31 24 1
    if q < 16 then t.partStep q ps false else t.chipRequest 9
  | _ => s

/-- ESCALATION_DEADLINE (R496): step 1 a context, 2 an engine (a host engine below 32, sector group n as 32 + n), 3 a partition,
4 the chip. -/
def execEscalationDeadline (step target : Nat) (s : State) : Ans :=
  .next (
    if s.service = .off then s
    else match step with
      | 1 => s.escalateCtx target
      | 2 =>
        if target < 32 then s.escalateEng target
        else if s.rst.steps.contains (.unitGroup (target - 32)) then
          ((s.endSteps fun x => decide (x = .unitGroup (target - 32))).count rRstCount 31 24 1).chipRequest 9
        else s
      | 3 =>
        if s.rst.steps.contains (.partition target) then
          ((s.endSteps fun x => decide (x = .partition target)).count rRstCount 31 24 1).chipRequest 9
        else s
      | 4 => s.chipHung
      | _ => s)

end Sys2Proof.Machine
end

