-- ==== Sys2Proof/Machine/Reset.lean ====
section
/-!
DEFINITION. The reset of the block: its sources and what each class keeps (R478, R479, R484), the reset inputs, the storm limiter and
the start of bring-up (R482, R483, R485), warm reset and retention (R63 to R65, R486 to R488), the watchdog, the supply warning and
the sensors (R66, R90, R481).
-/
namespace Sys2Proof.Machine

/-! What a reset keeps (R61, R479). -/

/-- The stored registers after a reset: their retained bits; a chip-class reset also returns GLB_ILV and the SGn registers to 0
(R102). -/
def Regf.kept (q : Params) (warm lost : Bool) (r : Regf) : Regf :=
  let one (x : Nat × Word) : Nat × Word :=
    let m : Word := match regRow q.profile x.1 with
      | some row => if lost || (!warm && (decide (x.1 < 0x30000) || decide (0x60000 ≤ x.1))) then 0 else row.retained
      | none => 0
    (x.1, (x.2 &&& m) ||| (regReset q.profile x.1 &&& ~~~m))
  { Regf.reset with regs := (r.regs.map one).filter fun x => decide (x.2 ≠ regReset q.profile x.1) }

/-- The pins after a reset: inputs stand as they are, outputs take their reset values, the retained ones stay (R67, R97). -/
def Pins.kept (lost : Bool) (p : Pins) : Pins :=
  { Pins.reset with
    vddRet := p.vddRet, resetN := p.resetN, warmArmed := p.warmArmed, supplyLow := p.supplyLow, retReq := p.retReq, strap := p.strap,
    pidSel := p.pidSel, fpUp := p.fpUp, hcUp := p.hcUp, pfenceAck := p.pfenceAck, engAck := p.engAck, cstopAck := p.cstopAck,
    dbgEn := p.dbgEn, sns := if lost then 0 else p.sns, breachN := p.breachN && !lost, pwrcycReq := p.pwrcycReq && !lost }

/-- Bring-up and life-cycle state while the block is in reset. -/
def Boot.kept (source : Nat) (warm lost : Bool) (b : Boot) : Boot :=
  { Boot.reset with
    phase := .inReset, warmClass := warm, retLatch := b.retLatch && !lost, storm := if lost then [] else b.storm, rstnSeen := lost,
    dbgAuth := if warm && decide (source ≠ 11) then b.dbgAuth else 0, pwrOff := b.pwrOff && !lost,
    pwrMsg := if lost then none else b.pwrMsg }

/-- The key store: a warm-class reset keeps LIVE and RETIRING slots with RETAIN and the re-seals (R61, R151). -/
def Key.kept (warm : Bool) (k : Key) : Key :=
  if warm then
    { Key.reset with slots := k.slots.filter fun x => x.2.retain && (decide (x.2.st = 1) || decide (x.2.st = 2)),
                     reseal := k.reseal.mapAll Reseal.none fun _ r => { r with p := none } }
  else Key.reset

/-- Units that are awake at a reset gate within the budget of R295; the removal of VDD_CORE gates them all. -/
def Share.kept (off : Bool) (x : Share) : Share :=
  if off then Share.reset
  else { Share.reset with units := x.units.mapAll GUnit.gated (fun _ u => { u with demand := none }), winWake := x.winWake,
                          winGate := x.winGate }

/-- The anchor table; a chip-class reset leaves it to the initialisation of R201. -/
def Sg.kept (lost : Bool) (g : Sg) : Sg := { Sg.reset with anchors := if lost then [] else g.anchors }

/-- Object and plot tables stand in protected memory, which a warm-class reset keeps; no command's reference survives (R489). -/
def ObjU.kept (warm : Bool) (o : ObjU) : ObjU :=
  if warm then
    { ObjU.reset with nextId := o.nextId, ptFirst := o.ptFirst, ptCount := o.ptCount, plots := o.plots,
                      objs := o.objs.mapAll Obj.vacant fun _ x => { x with refs := 0, free := none } }
  else ObjU.reset

/-- What stands in private flash (R427, R428, R446). -/
def Att.kept (a : Att) : Att :=
  { Att.reset with chain := a.chain, fabricRoots := a.fabricRoots, mgmtRoots := a.mgmtRoots, rejoin := a.rejoin }

/-- The press record and its log (R61, R524, R527). -/
def Obs.kept (lost : Bool) (o : Obs) : Obs :=
  if lost then { Obs.reset with log := o.log, logLc := o.logLc }
  else { Obs.reset with press := o.press, pressSeq := o.pressSeq, flushed := o.flushed, frzBreach := o.frzBreach,
                        frzReset := o.frzReset, frzSupply := o.frzSupply, frzLost := o.frzLost, log := o.log, logLc := o.logLc }

/-- A fuse bit that is being programmed when a reset comes may be cut short: it reads either way (R464, R469, R484). -/
def State.cutBurn (s : State) : State :=
  match s.boot.burnGo, s.boot.burnQ with
  | true, (w, b) :: _ => (if bit s.free 0 then s.burn w b else s).used
  | _, _ => s

/-- Bring-up has begun and not ended (R484). -/
def State.bringingUp (s : State) : Bool :=
  !(decide (s.boot.phase = .inReset) || decide (s.boot.phase = .stormHold) || decide (s.boot.phase = .ready))

/-- Escalation step that led to a reset (RST_CAUSE.STEP): the power-cycle step after a chip step that hung, else the chip step. -/
def State.causeStep (s : State) (source : Nat) : Nat :=
  if s.pins.pwrcycReq && s.boot.pwrMsg.any (fun m => decide (m.1 = 1)) && s.pins.chipRstReq then 5
  else if source = 9 then 4 else 0

/-- A reset of the block takes effect (R478, R479): `lost` when VDD_RET has been removed. With the retention latch set it is a retention
exit, whatever raised it (R63). A reset during bring-up keeps only what both classes keep (R484). -/
def State.takeReset (source0 : Nat) (warm1 lost : Bool) (s : State) : State :=
  let exits := s.boot.retLatch && !lost
  let source := if exits then 11 else source0
  let warm0 := warm1 || exits
  let again := s.bringingUp
  let warm := warm0 && (!again || s.boot.warmClass)
  let prev := if lost then 0 else s.fld rRstCause 3 0
  let step := if lost then 0 else s.causeStep source
  let t := (if lost then s else s.freezePress .reset 8 .done none source).cutBurn
  let u : State :=
    { t with
      regf := t.regf.kept t.params warm lost, pins := t.pins.kept lost, boot := t.boot.kept source warm lost,
      dt := { Dt.reset with trefLost := t.dt.trefLost }, key := t.key.kept warm, sg := t.sg.kept lost, share := t.share.kept (lost || exits),
      rem := Rem.reset, lnk := Lnk.reset, hst := Hst.reset, cmd := Cmd.reset, obju := t.obju.kept warm, att := t.att.kept,
      rst := Rst.reset, obs := t.obs.kept lost }
  let v := (((u.setFld rRstCause 3 0 source).setFld rRstCause 23 20 prev).setFld rRstCause 27 24 step).modBoot fun b =>
    { b with anchorInit := warm && t.boot.anchorInit }
  if again then v.flag rRstCause 17 else v

/-! Leaving reset (R482, R483, R485). -/

/-- Bring-up starts: fuse sensing (R483). -/
def State.bringUp (s : State) : State :=
  s.modBoot fun b => { b with phase := .sensing, storm := b.storm ++ [s.tref], retLatch := false }

/-- 10 ms of TREF (R485). -/
def stormWindow : Nat := 1562500

/-- The bring-ups that started within the last 10 ms (R485). -/
def State.recent (s : State) : List Nat := s.boot.storm.filter fun t => decide (s.tref - t < stormWindow)

/-- The block leaves reset once RESET_N is high and TREF and the supplies are there; the ninth bring-up within 10 ms is held back
(R482, R483, R485). -/
def State.leaveReset (s : State) : State :=
  if s.boot.phase ≠ .inReset ∨ !s.pins.vddRet ∨ !s.pins.resetN ∨ s.dt.trefLost then s
  else if 8 ≤ s.recent.length then s.modBoot fun b => { b with phase := .stormHold, storm := s.recent }
  else (s.modBoot fun b => { b with storm := s.recent }).bringUp

/-- POWER_ON (R62): VDD_RET is applied, and the next reset counts as power-on. -/
def execPowerOn (s : State) : Ans :=
  .next (
    if s.pins.vddRet then s
    else ((s.modPins fun p => { p with vddRet := true }).takeReset 1 false true).leaveReset)

/-- VDD_RET_REMOVE (R62): everything of the retention domain is cleared. -/
def execVddRetRemove (s : State) : Ans :=
  .next (
    if s.pins.vddRet then
      ((s.takeReset 1 false true).modPins fun p => { p with vddRet := false }).modBoot fun b => { b with porPending := true }
    else s)

/-- The source that a reset by RESET_N records (R63, R478): a retention exit, the cause of a pending request, else RESET_N; only the first
is of the warm class. -/
def State.resetSource (s : State) : Nat × Bool :=
  if s.boot.retLatch then (11, true) else if s.boot.chipCause ≠ 0 then (s.boot.chipCause, false) else (2, false)

/-- RESET_N_ASSERT (R482). A low that is accepted while the block is held in a chip-class reset is part of that reset. -/
def execResetNAssert (s : State) : Ans :=
  .next (
    let t := s.modPins fun p => { p with resetN := false }
    if !s.pins.vddRet then t
    else
      let (src, warm) := s.resetSource
      let u :=
        if s.boot.phase = .stormHold then (t.takeReset src warm false).modBoot fun b => { b with phase := .stormHold }
        else if s.boot.phase = .inReset ∧ !s.boot.warmClass then t
        else t.takeReset src warm false
      u.modBoot fun b => { b with rstnSeen := true })

/-- RESET_N_RELEASE (R482): RESET_N has been high for 1 us. -/
def execResetNRelease (s : State) : Ans := .next ((s.modPins fun p => { p with resetN := true }).leaveReset)

/-- STORM_HOLD_EXPIRE (R485). -/
def execStormHoldExpire (s : State) : Ans :=
  .next (
    if s.boot.phase = .stormHold then
      (((s.modBoot fun b => { b with storm := [], phase := .inReset }).flag rRstCause 19)).leaveReset
    else s)

/-- TREF_LOST (R59): no edge for 100 ns. -/
def execTrefLost (s : State) : Ans :=
  .next (
    let t := s.modDt fun d => { d with trefLost := true }
    if t.dt.st = 2 then t.dtTo 3 else t)

/-- TREF_RETURN (R59, R483): a reset that waited for TREF ends. -/
def execTrefReturn (s : State) : Ans :=
  .next (
    let t := s.modDt fun d => { d with trefLost := false }
    if t.service = .off then t.leaveReset else t)

/-! Flushing (R63, R208, R252, R486). -/

/-- Every dirty merge entry and metadata line has been written back and acknowledged. -/
def State.flushed (s : State) : Bool :=
  !(s.sg.merge.any fun m => m.dirty) && !(s.sg.mdc.any fun l => decide (l.st = .dirty)) && s.sg.wr.isEmpty
    && !(s.sg.accs.any fun a => decide (a.kind = .back))

/-! Warm reset (R486, R487). -/

/-- A warm reset is asked for: before BLOCK_READY there is nothing to flush and it takes effect at once, else partitions are fenced and
the flush begins (R484, R486). -/
def State.warmRequest (source : Nat) (s : State) : State :=
  if s.service = .off ∨ s.boot.breached ∨ s.pins.chipRstReq ∨ s.boot.warmRun.isSome then s
  else if s.boot.phase ≠ .ready then (s.takeReset source true false).leaveReset
  else (((s.press 8 .done none source).fenceAll).backWhere fun _ => true).modBoot fun b => { b with warmRun := some source, flush := true }

/-- WARM_REQ_N_ASSERT (R482, R486). -/
def execWarmReqNAssert (s : State) : Ans :=
  .next (
    if s.service = .off ∨ !s.pins.warmArmed then s
    else (s.modPins fun p => { p with warmArmed := false }).warmRequest 3)

/-- WARM_REQ_N_RELEASE (R482). -/
def execWarmReqNRelease (s : State) : Ans := .next (s.modPins fun p => { p with warmArmed := true })

/-- RST_WARM (R385, R486). -/
def execRstWarm (h : Hdr) (s : State) : Ans :=
  .next (s.admitCmd ⟨0x0804, [.mgmt, .host], .all, 0, 0, false⟩ h (chk (!h.signal) .badParam 3) (fun _ t => t.warmRequest 4))

/-- WARM_FLUSH_DONE (R486): the reset takes effect. -/
def execWarmFlushDone (s : State) : Ans :=
  .next (
    match s.boot.warmRun with
    | some src => if s.flushed then (s.takeReset src true false).leaveReset else s
    | none => s)

/-- WARM_FLUSH_OVERRUN (R487): the reset takes effect as a chip-class one, its source unchanged. -/
def execWarmFlushOverrun (s : State) : Ans :=
  .next (
    match s.boot.warmRun with
    | some src => ((s.takeReset src false false).flag rRstCause 18).leaveReset
    | none => s)

/-- WATCHDOG_EXPIRE (R481): the command-processor watchdog, while Tolaro runs and the processor is not halted. -/
def execWatchdogExpire (s : State) : Ans :=
  .next (
    if s.boot.halted ∨ !(s.boot.phase = .tolaro ∨ s.boot.phase = .ready) then s
    else if s.pins.blockReady then s.warmRequest 5 else s.chipRequest 5)

/-! Retention (R63 to R65). -/

/-- RET_REQ_RISE (R63): partitions are fenced and dirty metadata is flushed. -/
def execRetReqRise (s : State) : Ans :=
  .next (
    let t := s.modPins fun p => { p with retReq := true }
    if !s.runs ∨ s.pins.retReq ∨ s.pins.chipRstReq ∨ s.boot.warmRun.isSome then t
    else
      let fresh := if s.boot.retRun then [] else s.held.filter fun p => decide (s.pst p ≠ 5)
      ((each fresh State.fencePart t).backWhere fun _ => true).modBoot fun b =>
        { b with retRun := true, flush := true, retFenced := b.retFenced ++ fresh })

/-- The partitions that retention entry fenced return to their earlier states (R65). -/
def State.retUndo (s : State) : State :=
  each s.boot.retFenced State.unfence (s.modBoot fun b => { b with retFenced := [], retLatch := false })

/-- RETENTION_FLUSH_DONE (R63): RET_READY rises and the retention latch is set; a request withdrawn meanwhile is undone (R65). -/
def execRetentionFlushDone (s : State) : Ans :=
  .next (
    if s.boot.retRun ∧ s.flushed ∧ s.boot.warmRun = none then
      let t := s.modBoot fun b => { b with retRun := false, flush := false }
      if s.pins.retReq then
        (t.modBoot fun b => { b with retLatch := true }).modPins fun p => { p with retReady := true }
      else t.retUndo
    else s)

/-- RET_REQ_FALL (R65). -/
def execRetReqFall (s : State) : Ans :=
  .next (
    let t := s.modPins fun p => { p with retReq := false }
    if s.service ≠ .off ∧ s.pins.retReady then (t.modPins fun p => { p with retReady := false }).retUndo else t)

/-! Supply warning and sensors (R66, R90). -/

/-- SUPPLY_WARN_ASSERT (R66): the supply-fail record is written and the press record freezes. -/
def execSupplyWarnAssert (s : State) : Ans :=
  .next (
    if s.pins.supplyLow ∨ !s.pins.vddRet then s
    else (s.modPins fun p => { p with supplyLow := true }).freezePress .supply 11 .done none 0)

/-- A sensor capture causes a breach halt as soon as the block has sensed its fuses (R90, R505). -/
def State.snsFire (s : State) : State :=
  if s.pins.sns ≠ 0 ∧ s.boot.sensed ∧ s.service ≠ .off ∧ !s.boot.breached then
    (s.modPins fun p => { p with sns := 0 }).breach 10 0
  else s

/-- SENSOR_CAPTURE (R90): an input at a level for 2 ns is captured when it is enabled and the level is its active one, in reset too. -/
def execSensorCapture (i : Nat) (level : Bool) (s : State) : Ans :=
  .next (
    if 16 ≤ i ∨ !bit (s.fuseW 0x11) i ∨ bit (s.fuseW 0x11) (16 + i) ≠ level ∨ !s.pins.vddRet then s
    else (s.modPins fun p => { p with sns := setBit p.sns i true }).snsFire)

end Sys2Proof.Machine
end

