-- ==== Sys2Proof/Machine/Boot.lean ====
section
/-!
DEFINITION. Bring-up (R483): fuse sensing and the profile check (R3, R4, R94), the life-cycle decision and the burns of Snowdrop (R154,
R461, R463, R464, R470), Snowdrop's derivations (R152 to R157), Tolaro's boot with the adoption of partitions (R448, R489).
-/
namespace Sys2Proof.Machine

/-! Life-cycle codes (R459, R463). States: 0 MAKER, 1 INTEGRATOR, 2 FIELDED, 3 RETURNED, 4 SCRAPPED, 7 UNDECIDED. -/

/-- The code of a state. -/
def lcCode (st : Nat) : Nat := 2 ^ (16 * st) - 1

/-- The state of a valid code. -/
def codeLc (v : Nat) : Option Nat := (List.range 5).find? fun st => decide (lcCode st = v)

/-- Words of the copies a, b and c. -/
def lcCopies : List Nat := [0x0A, 0x0C, 0x0E]

/-- The vote of a copy: an invalid one votes SCRAPPED. -/
def State.vote (s : State) (w : Nat) : Nat := (codeLc (s.fuse64 w)).getD 4

/-- The state with at least two votes. -/
def State.majority (s : State) : Option Nat :=
  let a := s.vote 0x0A
  let b := s.vote 0x0C
  let c := s.vote 0x0E
  if a = b ∨ a = c then some a else if b = c then some b else none

/-- A value has no 1 outside a code. -/
def within (v code : Nat) : Bool := decide (v &&& code = v)

/-- The state to which the copies are completed (R463). -/
def State.lcTarget (s : State) : Option Nat :=
  match codeLc (s.fuse64 0x08) with
  | some j =>
    if (lcCopies.all fun w => (codeLc (s.fuse64 w)).all fun x => decide (x ≤ j))
        ∧ 2 ≤ (lcCopies.filter fun w => within (s.fuse64 w) (lcCode j)).length then some j else s.majority
  | none => s.majority

/-- The bits of a code that are still 0 from word `w` on, in burning order (R461). -/
def State.missing (s : State) (w code n : Nat) : List (Nat × Nat) :=
  ((List.range n).filter fun b => code.testBit b && !bit (s.fuseW (w + b / 32)) (b % 32)).map fun b => (w + b / 32, b % 32)

/-! The burn engine (R461, R469, R531). -/

/-- The next program operation starts, unless a supply warning, a breach halt or a pending chip reset holds it. -/
def State.burnStart (s : State) : State :=
  match s.boot.burnQ with
  | (w, b) :: _ =>
    if s.boot.burnGo || s.pins.supplyLow || s.boot.breached || s.pins.chipRstReq then s
    else (s.emit (.fusePgm w b)).modBoot fun x => { x with burnGo := true }
  | [] => s

/-- Burns are to be made for a goal. -/
def State.setBurns (g : Goal) (l : List (Nat × Nat)) (s : State) : State :=
  s.modBoot fun b => { b with burnGoal := g, burnQ := l, burnGo := false, burnTry := 0, burnBad := false }

/-- Bring-up moves to a phase. -/
def State.phaseTo (p : Phase) (s : State) : State := s.modBoot fun b => { b with phase := p, burnGoal := .none }

/-- HUS_SET is not in force, and the part is not a MAKER part whose secret is still blank: it cannot be used (R154). -/
def State.husLost (s : State) : Bool :=
  !s.control 0x33 && (decide (s.boot.lc ≠ 0) || (List.range 8).any fun w => decide (s.fuseW w ≠ 0))

/-- Snowdrop stops without deriving a root (R4, R155, R457). -/
def State.stopBoot (s : State) : State :=
  ((s.phaseTo .stopped).modKey fun k => { k with rootLocked := true, rootSel := 0 }).modBoot fun b =>
    { b with husFault := b.husFault || s.husLost }

/-- The secret's words and control: HUS_SET in force lets Snowdrop go on; a blank MAKER part draws its secret; any other part has no
root (R154). -/
def State.husGate (s : State) : State :=
  if s.control 0x33 then s.phaseTo .snowdrop
  else if !s.husLost then s.phaseTo .husWait
  else (s.phaseTo .snowdrop).modBoot fun b => { b with husFault := true }

/-- After the wipe, or where none is due: SCRAPPED stops (R457). -/
def State.afterWipe (s : State) : State := if s.boot.lc = 4 then s.stopBoot else s.husGate

/-- The wipe of a RETURNED or SCRAPPED part, unless WIPED is in force (R470). -/
def State.wipe (s : State) : State := if s.control 0x31 then s.afterWipe else (s.phaseTo .wiping).emit .flashErase

/-- What follows the life-cycle decision (R4, R457, R464). -/
def State.afterDecision (s : State) : State :=
  if s.boot.mismatch ∨ s.boot.lc = 7 then s.stopBoot
  else if s.boot.lc = 3 ∨ s.boot.lc = 4 then (s.phaseTo .burning).setBurns .fieldedDis (s.missing 0x30 0xFFFFFF 24)
  else s.husGate

/-- The decision is made (R463): kept slots that are LC_BOUND go when the state differs from the one at their creation (R151). -/
def State.settle463 (s : State) : State :=
  let lc := if s.boot.senseErr then 7 else s.majority.getD 7
  let t := s.modBoot fun b =>
    { b with decided := true, lc := lc, resumed := decide (0 < b.burnBits),
             copyStuck := decide (lc ≠ 7) && lcCopies.any fun w => !within (s.fuse64 w) (lcCode lc) }
  (t.clearSlots fun _ v => v.lcb && decide (v.lcAt ≠ lc)).afterDecision

/-- The end of a transition: a press record gives its bits, and the block asks for its reset (R467, R468). -/
def State.lcReset (s : State) : State := ((s.press 9 .done none s.boot.burnBits).setBurns .none []).chipRequest 10

/-- The control that a transition burns last: FIELDED_DIS into RETURNED and SCRAPPED, DBG_DIS where the token asks (R467). -/
def State.lcControl (target : Nat) (dis : Bool) (s : State) : State :=
  s.setBurns (.control target)
    (if 3 ≤ target then s.missing 0x30 0xFFFFFF 24 else if dis then s.missing 0x32 0xFFFFFF 24 else [])

/-- Every burn of a goal has been made or has failed. -/
def State.goalDone (s : State) : State :=
  match s.boot.burnGoal with
  | .none => s
  | .copies => s.settle463
  | .fieldedDis => s.wipe
  | .wiped => (s.modBoot fun b => { b with wipePending := !s.control 0x31 }).afterWipe
  | .husWords =>
    let drawn := s.boot.husDraw.getD 0
    let same := (List.range 8).all fun w => decide (s.fuseW w = (drawn >>> (32 * w)).setWidth 32)
    let t := s.modBoot fun b => { b with husDraw := none }
    if same then t.setBurns .husSet (t.missing 0x33 0xFFFFFF 24)
    else (t.phaseTo .snowdrop).modBoot fun b => { b with husFault := true }
  | .husSet => if s.control 0x33 then s.phaseTo .snowdrop else (s.phaseTo .snowdrop).modBoot fun b => { b with husFault := true }
  | .journal target dis =>
    if s.boot.burnBad then s.lcReset else s.setBurns (.copyA target dis) (s.missing 0x0A (lcCode target) 64)
  | .copyA target dis => s.setBurns (.copyB target dis) (s.missing 0x0C (lcCode target) 64)
  | .copyB target dis => s.setBurns (.copyC target dis) (s.missing 0x0E (lcCode target) 64)
  | .copyC target dis => s.lcControl target dis
  | .control _ => s.lcReset

/-- Burns go on: goals with nothing left to burn are done; no chain of goals is longer than the fuel. -/
def burnPump : Nat → State → State
  | 0, s => s
  | n + 1, s =>
    if s.boot.burnGoal = .none ∨ s.boot.breached ∨ s.pins.chipRstReq then s
    else if s.boot.burnQ.isEmpty then burnPump n s.goalDone
    else s.burnStart

/-- Burns go on. -/
def State.burnOn (s : State) : State := burnPump 8 s

/-- FUSE_PGM_DONE (R461, R468): the bit is retried up to three times, else it counts as failed; a failed bit abandons the journal, or the
copy that a transition is writing. -/
def execFusePgmDone (reads1 : Bool) (s : State) : Ans :=
  .next (
    match s.boot.burnGo, s.boot.burnQ with
    | true, (w, b) :: rest =>
      if reads1 then
        ((s.burn w b).modBoot fun x =>
          { x with burnGo := false, burnQ := rest, burnTry := 0, burnBits := satAdd 65535 x.burnBits 1 }).burnOn
      else if s.boot.burnTry < 3 then (s.modBoot fun x => { x with burnGo := false, burnTry := x.burnTry + 1 }).burnOn
      else
        let drop := match s.boot.burnGoal with
          | .journal _ _ | .copyA _ _ | .copyB _ _ | .copyC _ _ => true
          | _ => false
        ((s.flag rLcStatus 21).modBoot fun x =>
          { x with burnGo := false, burnQ := if drop then [] else rest, burnTry := 0, burnBad := true,
                   burnFails := satAdd 255 x.burnFails 1 }).burnOn
    | _, _ => s)

/-- SUPPLY_WARN_RELEASE (R66, R469, R531): burns of Snowdrop resume; a transition that was interrupted resets the block. -/
def execSupplyWarnRelease (s : State) : Ans :=
  .next (
    if !s.pins.supplyLow then s
    else
      let t := s.modPins fun p => { p with supplyLow := false }
      if s.service = .off then t
      else if s.boot.burning then t.chipRequest 10
      else t.burnStart)

/-! Fuse sensing, the profile check and the decision (R3, R4, R94, R97, R463). -/

/-- The profile check passes: strap, fuse field and netlist agree (R3, R4). -/
def State.profileOk (s : State) : Bool :=
  let w := s.fuseW 0x10
  let a := bits w 1 0
  let b := bits w 9 8
  let c := bits w 17 16
  let maj := if a = b ∨ a = c then some a else if b = c then some b else none
  let n := profCode s.params.profile
  decide (maj = some n) && decide (s.pins.strap = n)

/-- FUSE_SENSE_DONE (R94, R463, R532): outputs take the fuse map, a sensor capture that was latched in reset halts the block (R505), and
the life-cycle state is decided. -/
def execFuseSenseDone (err : Bool) (s : State) : Ans :=
  .next (
    if s.boot.phase ≠ .sensing then s
    else
      let t := (s.modBoot fun b => { b with sensed := true, senseErr := err, mismatch := err || !s.profileOk }).modPins fun p =>
        { p with trigOut := (s.fuseW 0x12).setWidth 16, pfenceReq := ~~~((s.fuseW 0x13).setWidth 16), engReq := ~~~(s.fuseW 0x14),
                 cstop := !bit (s.fuseW 0x15) 0 }
      let u := t.snsFire
      if u.boot.breached then u.phaseTo .stopped
      else
        let v := u.modBoot fun b => { b with noMajority := !err && s.majority.isNone }
        if v.boot.mismatch then v.settle463
        else
          let todo := v.lcTarget.elim [] fun st =>
            (lcCopies.map fun w => if within (v.fuse64 w) (lcCode st) then v.missing w (lcCode st) 64 else []).flatten
          ((v.phaseTo .burning).setBurns .copies todo).burnOn)

/-- HUS_GENERATE (R154): the secret is drawn and its words are burned. -/
def execHusGenerate (s : State) : Ans :=
  .next (
    if s.boot.phase = .husWait ∧ s.key.rngReady ∧ !s.boot.breached ∧ !s.pins.chipRstReq then
      let v : BitVec 256 := s.free.setWidth 256
      let t := s.drawnPr.modBoot fun b => { b with husDraw := some v, phase := .burning }
      (t.setBurns .husWords (t.missing 0 v.toNat 256)).burnOn
    else s)

/-- USER_AREA_ERASE_DONE (R470): the area reads back as erased and WIPED is burned, or the wipe stays pending. -/
def execUserAreaEraseDone (erased readBack : Bool) (s : State) : Ans :=
  .next (
    if s.boot.phase ≠ .wiping ∨ s.boot.breached ∨ s.pins.chipRstReq then s
    else if erased && readBack then
      let t := (s.modAtt fun a => { a with chain := none, fabricRoots := [], mgmtRoots := [], rejoin := [] }).modObs fun o =>
        { o with log := [] }
      ((t.phaseTo .burning).setBurns .wiped (t.missing 0x31 0xFFFFFF 24)).burnOn
    else (s.modBoot fun b => { b with wipePending := true }).afterWipe)

/-- ANCHOR_INIT_DONE (R201): every anchor entry is Unowned. -/
def execAnchorInitDone (s : State) : Ans :=
  .next (
    if s.service = .off ∨ !s.boot.decided ∨ s.boot.warmClass ∨ s.boot.anchorInit then s
    else (s.modSg fun g => { g with anchors := [] }).modBoot fun b => { b with anchorInit := true })

/-! Snowdrop (R152 to R157). -/

/-- No root is derived (R153, R154, R470). -/
def State.noRoot (s : State) : Bool :=
  s.boot.husFault || (decide (s.boot.lc = 2) && s.control 0x30) || (decide (s.boot.lc = 3) && !s.control 0x31)

/-- A root by its tag byte (R152, R157). -/
def State.root (s : State) (tag : Nat) : List Byte := kdfH (s.fuseBytes 0 8) "VMR.ROOT" [BitVec.ofNat 8 tag] 384

/-- A slot value from its bytes. -/
def slotVal (l : List Byte) : BitVec 512 := BitVec.ofNat 512 (ofBe l)

/-- Tag bytes of the identity root and the seal root that a state reaches. -/
def rootTags (lc : Nat) : Nat × Nat := if lc = 0 then (1, 1) else if lc = 1 then (2, 2) else if lc = 2 then (3, 4) else (5, 5)

/-- The identity seeds and seal keys stand in slots 0 to 3, and the alias certificate is issued (R155, R157, R426). -/
def State.deriveKeys (s : State) : State :=
  let ident := s.root (rootTags s.boot.lc).1
  let sealRoot := s.root (rootTags s.boot.lc).2
  let fw := beBytes 48 s.key.mfw.toNat ++ leBytes 4 s.key.svn
  let pr : List Byte := [BitVec.ofNat 8 (profCode s.params.profile)]
  let cdi := kdfH ident "VMR.CDI" (fw ++ [BitVec.ofNat 8 s.boot.lc, BitVec.ofNat 8 s.boot.dbgAuth]) 384
  let t := s.fill 0 0 4 1 true false false false (slotVal (kdfH ident "VMR.DEVID" pr 384))
  let u := t.fill 1 0 4 1 true false false true (slotVal (kdfH cdi "VMR.ALIAS" pr 384))
  let v := u.fill 2 0 3 1 true false false false (slotVal (kdfH sealRoot "VMR.SEAL.FL" [] 256))
  let w := v.fill 3 0 3 1 true false false true (slotVal (kdfH sealRoot "VMR.SEAL.FW" fw 256))
  (w.modKey fun k => { k with rootSel := s.boot.lc + 1 }).modAtt fun a => { a with aliasCert := true }

/-- SNOWDROP (R155): the Tolaro image is measured, keys are derived, kept slots that are MEAS_BOUND go when the measurement differs
(R151), slot 4 is drawn once the random source is ready (R146, R181), BREACH_N rises where R91 allows, and the reset and supply freezes end (R526). -/
def execSnowdrop (mfw : Digest) (svn flashMiB : Nat) (s : State) : Ans :=
  .next (
    if s.boot.phase ≠ .snowdrop ∨ !(s.boot.warmClass ∨ s.boot.anchorInit ∨ s.params.profile = .s) ∨ s.boot.breached
        ∨ s.pins.chipRstReq ∨ !s.key.rngReady then s
    else
      let t := (s.modKey fun k => { k with mfw := mfw, svn := svn % 2 ^ 32 }).clearSlots fun _ v => v.meas && decide (v.mAt ≠ mfw)
      let u := if t.noRoot then t else t.deriveKeys
      let v := (u.fill 4 0 3 0 true false false false ((u.free.setWidth 256).setWidth 512)).drawnPr
      let w := (v.modKey fun k => { k with rootLocked := true }).modBoot fun b => { b with bootAuth := b.dbgAuth }
      let x := (w.modAtt fun a => { a with flash := some flashMiB }).modObs fun o =>
        { o with log := if o.logLc = s.boot.lc then o.log else [], logLc := s.boot.lc }
      ((x.modPins fun p => { p with breachN := p.breachN || s.boot.rstnSeen }).unfreeze false true true).phaseTo .tolaro)

/-! Tolaro's boot (R448, R483, R489, R524, R527). -/

/-- After power-on the press record goes on from the log: the records of this boot take the SEQ values above it (R524). -/
def State.pressGoOn (s : State) : State :=
  match s.obs.log with
  | y :: _ =>
    if s.fld rRstCause 3 0 = 1 then
      let l := s.unflushed
      let base := y.seq + 1
      s.modObs fun o =>
        { o with press := l.zipIdx.foldl (fun t x =>
                   let q := base + BitVec.ofNat 32 x.2
                   t.set Press.empty (q.toNat % 32768) { x.1 with seq := q }) [],
                 pressSeq := base + BitVec.ofNat 32 l.length, flushed := base }
    else s
  | [] => s

/-- The rejoin record of a partition that can be opened (R448). -/
def State.record (s : State) (p : Nat) : Option Rejoin :=
  if s.flashOk then (s.att.rejoin.get none p).filter fun r => decide (r.lcAt = s.boot.lc) else none

/-- Records that no reassignment may use are erased: all of them after a breach halt, and those of another life-cycle state
(R448). -/
def State.dropRecords (s : State) : State :=
  let all := decide (s.fld rRstCause 3 0 = 6)
  s.modAtt fun a => { a with rejoin := a.rejoin.mapAll none fun _ r => if all then none else r.filter fun y => decide (y.lcAt = s.boot.lc) }

/-- The retained memory slot of a partition: the new one of a re-seal under way, else its LIVE memory slot (R489). -/
def State.keptSlot (s : State) (p : Nat) : Option Nat :=
  let r := s.reseal p
  if r.active then some r.new
  else (s.slotsWhere fun _ v => decide (v.part = p) && !v.block && decide (v.use = 0) && decide (v.st = 1)).head?

/-- Adoption of a partition (R489). -/
def State.adopt (p : Nat) (r : Rejoin) (slot : Nat) (s : State) : State :=
  let t := s.take p r slot
  let objs := (t.obju.objs.filter fun x => decide (x.1 / 2 ^ 25 = p)).map fun x => (x.1 % 2 ^ 25, x.2)
  let go := objs.filter fun x => decide (x.1 ≠ 0) && (decide (x.2.st = 2)
    || (decide (x.2.st = 1) && (x.2.system || (decide (x.2.owner ≠ 0xFFFF) && !x.2.shared))))
  let u := each go (fun x v => v.retireObj p x.1) t
  u.modObju fun o =>
    { o with objs := o.objs.mapAll Obj.vacant fun k x => if k / 2 ^ 25 = p ∧ x.st ≠ 0 then { x with owner := 0xFFFF } else x }

/-- A record that cannot be used is erased, with a press record (R448). -/
def State.recordFails (p : Nat) (st : Status) (s : State) : State := (s.eraseRecord p).press 5 st (some p) 0

/-- After a warm-class reset: partitions are adopted, and what belongs to no valid record is released: anchor entries become Unowned
and the slots retire (R489). -/
def State.adoptAll (s : State) : State :=
  let t := each parts16 (fun p u =>
    match u.record p with
    | some r =>
      if u.params.profile = .s then u.take p r 0
      else match u.keptSlot p with
        | some n => u.adopt p r n
        | none => u.recordFails p .outOfSlots
    | none => u) s
  let lone (q : Nat) : Bool := decide (t.pst q = 0)
  let es := (t.sg.anchors.filter fun x => lone x.2.part).map fun x => x.1
  let u := each es (fun e v => v.setAnchor e Anchor.unowned) t
  let v := each (u.slotsWhere fun _ x => !x.block && lone x.part) State.retire u
  let w := v.modKey fun k => { k with reseal := k.reseal.filter fun x => !lone x.1 }
  w.modObju fun o =>
    { o with objs := o.objs.filter (fun x => !lone (x.1 / 2 ^ 25)),
             ptFirst := o.ptFirst.filter (fun x => !lone x.1), ptCount := o.ptCount.filter (fun x => !lone x.1),
             nextId := o.nextId.filter (fun x => !lone x.1),
             plots := o.plots.filter fun x => parts16.any fun p => !lone p && (t.part p).ranges.any fun r =>
               decide (r.1 / 65536 ≤ x.1) && decide (x.1 < (r.1 + r.2) / 65536) }

/-- The checks of PART_ASSIGN and REGION_ADD on a record (R283, R145, R386, R410, R448). -/
def State.recordUsable (s : State) (p : Nat) (r : Rejoin) : Status :=
  if !(s.shareOk p r && r.man.all fun m => (s.ownMember m).isSome && (s.partOfDomain m.domain).isNone) then .badParam
  else if !s.dfFits r.man then .outOfSlots
  else if s.params.profile = .s then .done
  else match s.recordEntries r with
    | none => .badParam
    | some es =>
      if !(s.allUnowned es && decide (1 ≤ r.otPlots) && decide (r.otPlots ≤ r.psize / 65536)) then .badParam
      else if !(s.canTake p 1 && s.recordFits r.man) then .outOfSlots
      else .done

/-- Reassignment of a partition by a new assignment (R448). -/
def State.reassign (p : Nat) (r : Rejoin) (s : State) : State :=
  match s.recordUsable p r with
  | .done => (s.assignNew p r).1.tryJoin p
  | e => s.recordFails p e

/-- TOLARO_BOOT_DONE (R483): the press record is flushed, partitions are reassigned where R448 allows, the default schedule entries of the
enabled ports are armed (R127), units take over their outputs (R97) and BLOCK_READY rises. PFENCE_REQ, ENG_RST_REQ and CSTOP fall from the
output reset map's levels whatever their acknowledgements show: no reset step raised them, so R86's order does not bind them (log entry
60). -/
def execTolaroBootDone (s : State) : Ans :=
  .next (
    if s.boot.phase ≠ .tolaro ∨ s.boot.breached ∨ s.pins.chipRstReq ∨ s.boot.pwrOff then s
    else
      let t := s.pressGoOn.flushPress.dropRecords
      let u :=
        if t.boot.warmClass then t.adoptAll
        else if t.params.profile = .s then each parts16 (fun p v => match v.record p with | some r => v.reassign p r | none => v) t
        else t
      let v := each u.ports State.armDefaults u
      (v.modPins fun p => { p with blockReady := true, pfenceReq := 0, engReq := 0, cstop := false }).phaseTo .ready)

/-- REJOIN_REASSIGN (R448): every group that the recorded range maps onto is enabled, and the partition is assigned anew, or the record
that cannot be used is erased. -/
def execRejoinReassign (part : Nat) (s : State) : Ans :=
  .next (
    if !s.runs ∨ s.pins.chipRstReq ∨ s.boot.warmClass ∨ !(s.boot.phase = .tolaro ∨ s.boot.phase = .ready) ∨ s.pst part ≠ 0 ∨ 16 ≤ part
        ∨ !s.key.rngReady then s
    else match s.record part with
      | none => s
      | some r =>
        if (s.recordEntries r).isSome ∨ s.groups.all s.sgOn then s.reassign part r else s)

end Sys2Proof.Machine
end

