-- ==== Sys2Proof/Machine/Lifecycle.lean ====
section
/-!
DEFINITION. Life-cycle transitions (R465 to R468), debug challenges and tokens (R471 to R476), halting and stepping the command
processor (R477).
-/
namespace Sys2Proof.Machine

/-! Tokens (R471, R472). -/

/-- A signer's key fits its role (R472): Yarrel's and the integrator's debug keys by their fused hashes, an owner's by its manifest. -/
def State.signerOk (s : State) (x : Signer) : Bool :=
  let hash := beBytes 48 (Config.sha384 x.key).toNat
  x.sigOk && (if x.role = 1 then decide (hash = s.fuseBytes 0x24 12)
    else if x.role = 2 then decide (hash = s.fuseBytes 0x18 12)
    else (s.part x.part).man.any fun m => decide (m.tenantKey = x.key))

/-- The signer entries are exactly the required ones, given as role and partition. -/
def signersAre (want : List (Nat × Nat)) (l : List Signer) : Bool :=
  decide (l.length = want.length) && want.all fun x => l.any fun y => decide (y.role = x.1) && decide (y.part = x.2)

/-- A token is valid for a purpose, target, state and challenge, with the signers required (R472). -/
def State.tokenOk (s : State) (t : Token) (purpose target frm : Nat) (challenge : BitVec 128) (want : List (Nat × Nat)) : Bool :=
  t.layoutOk && decide (t.purpose = purpose) && decide (t.target = target) && decide (t.frm = frm)
    && decide (t.challenge = challenge) && (!t.disableDebug || (decide (purpose = 1) && decide (target = 2)))
    && decide ((s.slot 0).st = 1) && decide (t.devid = s.devid) && signersAre want t.signers && t.signers.all s.signerOk

/-! LC_TRANSITION (R465 to R468). -/

/-- A permitted transition (R465): into INTEGRATOR only with both debug-key hashes fused. -/
def State.lcAllowed (s : State) (target : Nat) : Bool :=
  let filled (w : Nat) : Bool := (List.range 12).any fun i => decide (s.fuseW (w + i) ≠ 0)
  match s.boot.lc, target with
  | 0, 1 => filled 0x18 && filled 0x24
  | 1, 2 => true
  | 2, 3 => true
  | n, 4 => decide (n ≤ 3)
  | _, _ => false

/-- The token of a transition (R465, R466): none for SCRAPPED, else signed by the integrator into FIELDED and by Yarrel otherwise. -/
def State.lcTokenOk (s : State) (target : Nat) (token : Option Token) : Bool :=
  match token with
  | none => decide (target = 4)
  | some t => decide (target ≠ 4) && s.tokenOk t 1 target s.boot.lc 0 [(if target = 2 then 2 else 1, 0)]

/-- LC_TRANSITION (R466, R467): admission stops and the journal is burned. -/
def execLcTransition (h : Hdr) (target : Nat) (token : Option Token) (s : State) : Ans :=
  .next (s.admitCmd ⟨0x0901, [.mgmt], .all, 1, 0, true⟩ h
    (chk (!h.signal) .badParam 3
      ++ chk (s.lcAllowed target && s.held.isEmpty && !s.pins.supplyLow && decide (s.boot.dbgAuth = 0)) .lcForbids 16
      ++ chk (s.lcTokenOk target token) .authFailed 16)
    (fun _ t =>
      let u := (t.press 9 .done none target).modBoot fun b => { b with burning := true }
      (u.setBurns (.journal target (token.any fun x => x.disableDebug)) (u.missing 0x08 (lcCode target) 64)).burnOn))

/-! Debug grants (R473 to R475). -/

/-- The level that a state accepts (R456). -/
def lcLevel (lc : Nat) : Option Nat := if lc = 2 then some 2 else if lc = 0 ∨ lc = 1 ∨ lc = 3 then some 1 else none

/-- DBG_CHALLENGE (R473). -/
def execDbgChallenge (h : Hdr) (level : Nat) (s : State) : Ans :=
  .next (s.admitWith ⟨0x0902, [.mgmt, .host, .tenant], .all, 1, 0, false⟩ h [] s.rngHold
    (chk (decide (level = 1) || decide (level = 2)) .badParam 16
      ++ chk (decide (lcLevel s.boot.lc = some level) && !s.control 0x32 && decide (s.boot.dbgAuth = 0)
        && (decide (s.boot.lc ≠ 3) || s.control 0x31)) .lcForbids 16)
    (fun p t =>
      let v : BitVec 128 := t.free.setWidth 128
      ((t.drawn).modBoot fun b => { b with challenge := some (v, level) }).ok p v.toNat))

/-- The signers that a level requires (R474). -/
def State.debugSigners (s : State) (level : Nat) : List (Nat × Nat) :=
  if level = 1 then [(if s.boot.lc = 1 then 2 else 1, 0)]
  else (1, 0) :: (parts16.filter fun p => decide (s.pst p ≠ 0) && (s.part p).man.isSome).map fun p => (3, p)

/-- The row of DBG_TOKEN. -/
def tokenRow : Row := ⟨0x0903, [.mgmt, .host, .tenant], .all, 0, 0, true⟩

/-- DBG_TOKEN (R474, R475): whatever its outcome, the challenge ends (R473). -/
def execDbgToken (h : Hdr) (token : Token) (s : State) : Ans :=
  .next (
    let taken := s.admits && s.pathOpen h.path && (s.admitWait tokenRow.opc h [] none (s.issuerOk tokenRow h || !tokenRow.prof.has s.params.profile)).isNone
    let t := when taken (State.modBoot fun b => { b with challenge := none }) s
    let (chal, level) := s.boot.challenge.getD (0, 0)
    t.admitCmd tokenRow h
      (chk s.boot.challenge.isSome .lcForbids 0
        ++ chk (!(decide (token.purpose = 3) && parts16.any fun p => decide (s.pst p = 1))) .lcForbids 0
        ++ chk (s.tokenOk token (level + 1) level 0 chal (s.debugSigners level)) .authFailed 0)
      (fun p u =>
        let v := (u.clearSlots fun n x => decide (n = 1) || x.meas).modBoot fun b => { b with dbgAuth := level }
        (v.press 9 .done none level).ok p level))

/-- CHALLENGE_EXPIRE (R473). -/
def execChallengeExpire (s : State) : Ans := .next (s.modBoot fun b => { b with challenge := none })

/-! The command processor under the debug port (R458, R477). -/

/-- LC_DBG_CORE.HALT is written: a halted processor admits nothing, and its watchdog starts anew when it resumes. -/
def State.coreHalt (halt : Bool) (s : State) : State :=
  let t := (s.setFld rLcDbgCore 0 0 (b2n halt)).modBoot fun b => { b with halted := halt }
  if halt then t else t.modRst fun r => { r with remain := r.timeout }

/-- LC_DBG_CORE.STEP is written 1: one instruction runs while the processor is halted; STEP reads 0 again when it has. -/
def State.coreStep (s : State) : State := if s.boot.halted then s.modBoot fun b => { b with dbgSteps := b.dbgSteps + 1 } else s

/-- A debug-port write of LC_DBG_CORE at level 1 acts; the control port changes nothing there. -/
def State.coreWrite (rq : Rq) (act : State → State) (s : State) : State := s.ctlWrite rq (fun t => if rq.dbg then act t else t)

/-- DEBUG_HALT (R477). -/
def execDebugHalt (rq : Rq) (halt : Bool) (s : State) : Ans := .next (s.coreWrite rq (State.coreHalt halt))

/-- DEBUG_STEP (R477). -/
def execDebugStep (rq : Rq) (s : State) : Ans := .next (s.coreWrite rq State.coreStep)

end Sys2Proof.Machine
end

