-- ==== Sys2Proof/Machine/Mailbox.lean ====
section
/-!
DEFINITION. A secured message that carries a command packet of a header alone, on the management mailbox or a DOE mailbox (R53,
R381): the opcodes of R382 that take no parameter run; those that take parameters find none below PLEN. A packet with parameters
is the row of its own opcode, on the same path.
-/
namespace Sys2Proof.Machine

/-- The opcodes of R382 that take parameters. -/
def paramRows : List Row := [
  ⟨0x0003, [.mgmt, .host, .tenant], .all, 4, 0, false⟩, ⟨0x0101, [.mgmt, .host], .all, 30, 0, false⟩,
  ⟨0x0102, [.mgmt, .host], .all, 1, 0, false⟩, ⟨0x0103, [.mgmt, .host], .am, 1, 0, false⟩,
  ⟨0x0104, [.mgmt, .host], .am, 16, 0, false⟩, ⟨0x0105, [.tenant, .device], .am, 8, 0, false⟩,
  ⟨0x0106, [.tenant], .all, 1, 0, false⟩, ⟨0x0107, [.mgmt, .host, .tenant], .all, 1, 0, true⟩,
  ⟨0x0002, [.host, .device], .all, 28, 0, false⟩, ⟨0x0201, [.host], .all, 6, 0, false⟩,
  ⟨0x0202, [.host, .device], .all, 2, 0, false⟩, ⟨0x0203, [.host], .all, 24, 0, false⟩,
  ⟨0x0204, [.host], .all, 3, 0, false⟩, ⟨0x0301, [.device, .tenant], .am, 5, 0, false⟩,
  ⟨0x0302, [.device, .tenant], .am, 7, 0, false⟩, ⟨0x0303, [.device, .tenant], .am, 7, 0, false⟩,
  ⟨0x0310, [.device], .a, 48, 0, false⟩, ⟨0x0311, [.device], .a, 28, 0, false⟩,
  ⟨0x0312, [.device], .a, 16, 0, false⟩, ⟨0x0313, [.device], .a, 64, 1, false⟩,
  ⟨0x0401, [.device, .tenant], .all, 1, 0, false⟩, ⟨0x0402, [.device, .tenant], .all, 3, 0, false⟩,
  ⟨0x0403, [.device, .host], .all, 2, 0, false⟩, ⟨0x0404, [.device, .tenant], .all, 2, 0, false⟩,
  ⟨0x0405, [.device, .tenant], .all, 2, 0, false⟩, ⟨0x0406, [.device], .all, 4, 0, false⟩,
  ⟨0x0502, [.tenant], .all, 34, 0, false⟩, ⟨0x0503, [.tenant, .device], .all, 1, 0, false⟩,
  ⟨0x0504, [.tenant], .all, 1, 0, true⟩, ⟨0x0505, [.tenant], .all, 4, 0, false⟩,
  ⟨0x0506, [.tenant], .all, 2, 0, true⟩, ⟨0x0507, [.tenant, .device], .all, 2, 0, false⟩,
  ⟨0x0508, [.tenant], .all, 22, 0, true⟩, ⟨0x0509, [.tenant, .device], .am, 2, 0, false⟩,
  ⟨0x050A, [.tenant, .device], .am, 4, 0, false⟩, ⟨0x0601, [.mgmt, .host, .tenant, .device], .all, 26, 0, false⟩,
  ⟨0x0602, [.mgmt, .host, .tenant, .device], .all, 5, 0, false⟩,
  ⟨0x0701, [.device, .tenant, .mgmt], .all, 3, 0, false⟩, ⟨0x0702, [.device, .tenant], .am, 17, 0, false⟩,
  ⟨0x0703, [.device, .tenant], .am, 3, 0, false⟩, ⟨0x0704, [.device, .tenant], .am, 20, 0, false⟩,
  ⟨0x0705, [.mgmt], .all, 6, 0, false⟩, ⟨0x0801, [.host, .device], .all, 2, 0, false⟩,
  ⟨0x0802, [.mgmt, .host], .a, 1, 0, false⟩, ⟨0x0901, [.mgmt], .all, 1, 0, true⟩,
  ⟨0x0902, [.mgmt, .host, .tenant], .all, 1, 0, false⟩]

/-- A token that is not there: no byte of it is laid out as R471 gives. -/
def noToken : Token :=
  { layoutOk := false, purpose := 0, target := 0, frm := 0, disableDebug := false, challenge := 0, devid := 0, signers := [] }

/-- A packet that no opcode of R382 takes: BAD_OPCODE, once it reaches admission. -/
def State.badOpcode (opc : Nat) (h : Hdr) (s : State) : State :=
  if !s.admits || !s.pathOpen h.path then s
  else
    let (t, p) := s.takePacket opc h true
    (t.reserve 1 h.path).refuse p (.badOpcode, 0xFF)

/-- A packet of a header alone, by opcode. -/
def bareCommand (opc : Nat) (h : Hdr) (s : State) : Ans :=
  if opc = 0x0000 then execNop h s
  else if opc = 0x0001 then execIdentify h s
  else if opc = 0x0108 then execDomainTeardown h s
  else if opc = 0x0501 then execKeyReseal h s
  else if opc = 0x0706 then execPressRelease h s
  else if opc = 0x0803 then execRstPartition h s
  else if opc = 0x0804 then execRstWarm h s
  else if opc = 0x0805 then execRstChip h s
  else if opc = 0x0806 then execPwrCycle h s
  else if opc = 0x0903 then execDbgToken h noToken s
  else match paramRows.find? fun r => decide (r.opc = opc) with
    | some r => .next (s.admitCmd r h [] (fun _ t => t))
    | none => .next (s.badOpcode opc h)

/-- The header of a packet of a header alone. -/
def bareHdr (path : Path) (issuer : Issuer) (part : Nat) (seq : Word) : Hdr :=
  { path := path, issuer := issuer, part := part, size := 0, ordered := false, noreply := false, signal := false, ctx := 0xFFFF,
    plen := 0, seq := seq, fence := 0, bad := none, trailer := 0 }

/-- A record of a live session that does not verify (R53): the packet is discarded, the failure counted, the sender answered
AUTH_FAILED. -/
def State.badRecord (path : Path) (part : Nat) (seq : Word) (opc : Nat) (s : State) : State :=
  if !s.admits || !s.pathOpen path then s
  else
    (s.cntr part 9 1).emit (.reply
      { opcode := opc, status := .authFailed, final := true, path := path, ctx := 0xFFFF, sqHead := 0, seq := seq,
        part := part, detail := 0xFF, phase := false, x := 0, result := 0, trailer := [], ringAt := 0, dev := false })

/-- MAILBOX_SECURED_MESSAGE (R53, R381). A link carries no command packet (R364). -/
def execMailboxSecuredMessage (t : Transport) (sid : Nat) (verifies : Bool) (issuer : Issuer) (part : Nat) (seq : Word)
    (opcode : Nat) (s : State) : Ans :=
  match t with
  | .mgmt =>
    if verifies then bareCommand opcode (bareHdr (.mgmt sid) issuer part seq) s
    else .next (s.badRecord (.mgmt sid) part seq opcode)
  | .doe h =>
    if verifies then bareCommand opcode (bareHdr (.doe h sid) issuer part seq) s
    else .next (s.badRecord (.doe h sid) part seq opcode)
  | .link _ _ => .next s

end Sys2Proof.Machine
end

