-- ==== Sys2Proof/Machine/Flags.lean ====
section
/-!
DEFINITION. What the registers report (the read-only fields of the register tables): one definition per window. A register that no
view names reads its stored bits, C-class fields at their shadow (R16).
-/
namespace Sys2Proof.Machine

/-- The requester sees an item of partition `p`: with ORIGIN 1 or 2 only its own (the register sections of each chapter); the debug
port reads with the rights of ORIGIN 0 (R477). -/
def rqSees (rq : Rq) (p : Nat) : Bool := rq.dbg || decide (rq.origin = 0) || decide (rq.part = p)

/-- The partition for which a register that belongs to the requester acts: none for ORIGIN 0 and the debug port. -/
def rqPart (rq : Rq) : Option Nat := if rq.dbg ∨ rq.origin = 0 then none else some rq.part

/-- A value shown to those who see partition `p`. -/
def shown (rq : Rq) (p : Nat) (w : Word) : Word := if rqSees rq p then w else 0

/-- A half of a 64-bit value. -/
def half (hi : Bool) (v : Nat) : Word := BitVec.ofNat 32 (if hi then v / 2 ^ 32 else v)

/-- The stored bits, C-class fields at their shadow (R16). -/
def State.stored (s : State) (off : Nat) : Word :=
  match regRow s.params.profile off, s.regf.shadow.find off with
  | some r, some w => (s.reg off &&& ~~~r.c) ||| (w &&& r.c)
  | _, _ => s.reg off

/-- A C-class write of a window awaits its commit point. -/
def State.commitDue (s : State) (win : Nat) : Bool := s.regf.shadow.any fun x => decide (x.1 / 0x10000 = win)

/-- The index of a register in a family of stride `st` from `base`. -/
def idxOf (off base st : Nat) : Nat := (off - base) / st

/-! GLB (R4, R18, R94, R293, R294, R38, R86). -/

/-- The state of a partition as GLB_PART_STATE gives it: FENCED once the block has answered after PFENCE_ACK (R86). -/
def State.partShown (s : State) (p : Nat) : Nat :=
  if s.pst p = 4 ∧ !bit s.pins.pfenceAck p then (s.part p).before else s.pst p

/-- GLB_PART_STATE for a requester. -/
def State.partMap (s : State) (rq : Rq) : Nat :=
  (parts16.map fun p => if rqSees rq p then s.partShown p * 2 ^ (3 * p) else 0).sum

/-- GLB_WAKE_STATUS. -/
def State.wakeStatus (s : State) : Word :=
  let here := (List.range 114).filter s.unitHere
  let w (l : List Nat) : Nat := (l.map unitWeight).sum
  put 11 (w (here.filter fun u => !(s.gunit u).awake && (s.gunit u).demand.isSome)) ||| put 0 (w (here.filter fun u => (s.gunit u).awake))

/-- Registers of the GLB window. -/
def State.viewGlb (rq : Rq) (off : Nat) (s : State) : Word :=
  if off = rGlbRelease then releaseWord
  else if off = rGlbProfile then s.glbProfile
  else if off = rGlbConfig then s.glbConfig
  else if off = rGlbFuseStatus then
    putB 0 s.boot.sensed ||| putB 1 s.boot.senseErr ||| put 16 (if s.boot.sensed then bits (s.fuseW 0x11) 15 0 else 0)
  else if off = rGlbWakeStatus then s.wakeStatus
  else if off = rGlbPartState then half false (s.partMap rq)
  else if off = rGlbPartStateHi then half true (s.partMap rq)
  else if rGlbCacheWays 0 ≤ off ∧ off < rGlbCacheWays 16 then
    let p := idxOf off (rGlbCacheWays 0) 4
    shown rq p (put 16 (s.share.dkc.get 0xFFFF p).toNat ||| put 0 (s.share.mdc.get 0xFFFF p).toNat)
  else s.stored off

/-! DT (R105, R113, R116 to R122). -/

/-- The 32 bytes of a schedule entry as a number (R122). -/
def schedBytes (x : Sched) : Nat :=
  x.instant + x.period * 2 ^ 64 + x.action * 2 ^ 96 + x.st * 2 ^ 104
    + (x.part + b2n x.block * 16 + b2n x.stagger * 32 + b2n x.domain * 64 + b2n x.late * 128) * 2 ^ 112
    + x.missed * 2 ^ 120 + x.id.toNat * 2 ^ 128 + x.param.toNat * 2 ^ 160 + x.origin * 2 ^ 224

/-- DT_STATUS. -/
def State.dtStatus (s : State) : Word :=
  s.stored rDtStatus ||| putB 26 s.dt.bound ||| put 17 (s.dt.sched.filter fun x => decide (x.2.st ≠ 0)).length
    ||| put 13 (min 15 s.dt.steps) ||| put 8 s.dt.slave ||| putB 7 (s.commitDue 1) ||| putB 4 (decide (8 < s.dt.steps))
    ||| putB 3 s.dt.trefLost ||| put 0 s.dt.st

/-- Registers of the DT window. -/
def State.viewDt (off : Nat) (s : State) : Word :=
  if off = rDtNow then half false s.now
  else if off = rDtNowHi then half true s.now
  else if off = rDtFrac then put 0 s.dt.frac
  else if off = rDtStatus then s.dtStatus
  else if off = rDtRate then half false s.dt.rate
  else if off = rDtRateHi then half true s.dt.rate
  else if off = rDtOffset then BitVec.ofInt 32 s.dt.offset
  else if rDtSchedData 0 ≤ off ∧ off < rDtSchedData 8 then
    BitVec.ofNat 32 (schedBytes (s.sched (s.fld rDtSchedIdx 7 0)) / 2 ^ (32 * idxOf off (rDtSchedData 0) 4))
  else s.stored off

/-! KEY (R143, R145, R152, R154, R155, R169 to R173, R177, R181 to R183). -/

/-- The attribute word of a slot (R143). -/
def Slot.attrOf (x : Slot) : Word :=
  put 12 (if x.block then 0 else x.part) ||| putB 11 x.block ||| put 9 x.st ||| putB 8 x.retain ||| putB 7 x.meas ||| putB 6 x.lcb
    ||| put 4 x.origin ||| putB 3 x.exportable ||| put 0 x.use

/-- KEY_STATUS. -/
def State.keyStatus (s : State) : Word :=
  s.stored rKeyStatus ||| put 16 s.key.cceFaults ||| putB 12 (s.boot.sensed && s.control 0x33) ||| putB 11 s.key.rngFailed
    ||| putB 10 s.key.rngReady ||| putB 9 s.key.rootLocked ||| putB 8 (s.boot.sensed && s.control 0x30) ||| put 5 s.key.rootSel
    ||| putB 3 (s.key.reseal.any fun x => x.2.active) ||| putB 2 (s.commitDue 2) ||| putB 0 s.boot.husFault

/-- Registers of the KEY window. -/
def State.viewKey (rq : Rq) (off : Nat) (s : State) : Word :=
  if off = rKeyStatus then s.keyStatus
  else if off = rKeyCount then
    put 16 (s.key.slots.filter fun x => decide (x.2.st ≠ 0)).length ||| put 0 (s.key.slots.filter fun x => decide (x.2.st = 1)).length
  else if off = rKeySlotAttr then
    let n := s.fld rKeySlotIdx 11 0
    let x := s.slot n
    if (rqPart rq).isSome && (x.block || decide (n < 128)) then 0 else shown rq x.part x.attrOf
  else if rKeyQuota 0 ≤ off ∧ off < rKeyQuota 16 then s.stored off ||| put 16 (s.poolUsed (idxOf off (rKeyQuota 0) 4))
  else if rKeyReseal 0 ≤ off ∧ off < rKeyReseal 16 then
    let r := s.reseal (idxOf off (rKeyReseal 0) 4)
    putB 31 r.active ||| put 12 r.new ||| put 0 r.old
  else if rKeyResealDone 0 ≤ off ∧ off < rKeyResealDone 16 then put 0 (s.reseal (idxOf off (rKeyResealDone 0) 4)).done
  else if off = rKeyRngStatus then put 16 s.key.reseeds ||| put 8 s.key.failRun ||| put 0 s.key.failTotal
  else s.stored off

/-! SG and RP (R197 to R201, R208, R221, R247, R249, R257, R259, R270 to R272, R279 to R285). -/

/-- SGn_ANCHOR_STATE. -/
def State.anchorView (rq : Rq) (n : Nat) (s : State) : Word :=
  let e := s.fld (rSgAnchorIdx n) 20 0
  let a := s.anchor e
  let w := putB 18 (decide (s.ancFirst n ≤ e) && decide (e < s.ancFirst n + s.ancCount n))
    ||| put 6 (if a.st = 0 then 0 else a.slot) ||| put 2 a.part ||| put 0 (if a.restoring then 3 else a.st)
  if a.st = 0 ∧ !a.restoring ∧ (rqPart rq).isNone then w else shown rq a.part w

/-- Registers of the window of sector group `n`, by offset within it. -/
def State.viewSg (rq : Rq) (n o : Nat) (s : State) : Word :=
  let off := 0x100000 + 0x10000 * n + o
  if o = 0x40 then put 0 s.sg.vbr.toNat
  else if o = 0x44 then putB 1 s.boot.flush ||| putB 0 s.boot.anchorInit
  else if o = 0x4C then s.anchorView rq n
  else if 0x80 ≤ o ∧ o < 0xC0 then
    let p := (o - 0x80) / 4
    let due := s.share.weightNew.find (16 * n + p)
    shown rq p (putB 31 (s.share.strict.get false p) ||| put 16 (s.share.merge.get 0 p)
      ||| put 8 ((due.getD none).getD (s.share.weight.get 1 (16 * n + p))) ||| put 0 (s.share.allot.get 0 p))
  else if o = 0xC0 then
    put 16 s.mergeReserved ||| putB 15 (s.share.weightNew.any fun x => decide (x.1 / 16 = n)) ||| put 0 s.allotSum
  else if o = 0x8000 then
    s.stored off ||| put 16 (s.sg.merge.filter fun m => decide (m.group = n)).length ||| put 8 (s.sg.retries.get 0 n)
      ||| putB 0 (s.commitDue (0x10 + n))
  else if 0x8040 ≤ o ∧ o < 0x8080 then
    let p := (o - 0x8040) / 4
    shown rq p (match s.sg.seed.get none p with
      | some k => putB 12 true ||| put 0 k
      | none => 0)
  else if 0x8080 ≤ o ∧ o < 0x80C0 then
    let p := (o - 0x8080) / 4
    shown rq p (s.sg.step.get 0 p)
  else if o = 0x8104 then put 24 s.rem.indet ||| put 0 s.rem.ops.length
  else if o = 0x8800 then put 0 s.rem.memo.length
  else if o = 0x8804 then put 16 s.rem.late ||| put 0 s.rem.full
  else s.stored off

/-- Registers of the RP window. -/
def State.viewRp (off : Nat) (s : State) : Word :=
  if off = rRpStatus then
    s.stored off ||| put 17 s.rem.pool.length ||| put 0 (s.rem.pool.map fun x => x.hdr.total).sum
  else if off = rRpLedger then put 24 s.rem.rpRetries ||| put 0 (s.rem.pool.map fun x => x.hdr.n * chunksOf x.hdr).sum
  else if off = rRpRetry then s.stored off ||| put 16 s.rem.givenUp
  else s.stored off

/-! LNK (R301, R302, R319, R325, R326). -/

/-- LNKk_SESS_STATE. -/
def State.sessView (rq : Rq) (k : Nat) (s : State) : Word :=
  let i := s.fld (rLnkSessIdx k) 4 0
  let x := s.sess k i
  let w := put 14 (x.rxEp % 16) ||| put 10 (x.txEp % 16) ||| put 3 (min 15 x.attempts) ||| put 0 x.st
  if 17 ≤ i then 0
  else if i = 0 then put 18 0x3FFF ||| w
  else shown rq (i - 1) (put 18 x.peer ||| w)

/-- Registers of the window of link port `k`, by offset within it. -/
def State.viewLnk (rq : Rq) (k o : Nat) (s : State) : Word :=
  let off := 0x200000 + 0x10000 * k + o
  if o = 0 then
    s.stored off ||| put 7 ((List.range 17).filter fun i => decide ((s.sess k i).st ≠ 0)).length ||| put 4 (s.sess k 0).st
      ||| putB 3 (s.commitDue (0x20 + k)) ||| putB 0 (bit s.pins.fpUp k)
  else if o = 0x98 then s.sessView rq k
  else if o = 0xB0 then
    let q := s.port k
    put 24 (min 255 q.skipped) ||| put 16 (min 255 (q.waits / 1000)) ||| putB 15 (q.flows.any fun f => decide (f.r ≠ q.salt))
      ||| put 0 q.flows.length
  else s.stored off

/-! HST (R340, R341, R348, R351, R354, R356, R357). -/

/-- HST_STREAMh_s: a key set is programmed for receive when each sub-stream holds it. -/
def State.streamView (h i : Nat) (s : State) : Word :=
  let x := s.stream h i
  let has (set : Nat) : Bool := (List.range 3).all fun sub => ((s.ideKeys h i sub true).slotOf set).isSome
  put 8 (x.id % 256) ||| put 4 ((s.streamOwner h i).getD 0) ||| putB 3 (has 1) ||| putB 2 (has 0)
    ||| putB 1 (decide ((s.ideKeys h i 0 false).go = some 1)) ||| putB 0 x.secure

/-- Registers of the HST window. -/
def State.viewHst (rq : Rq) (off : Nat) (s : State) : Word :=
  if off = rHstStatus then put 14 s.hst.prs.length ||| put 0 s.hst.atc.length
  else if off = rHstPortStatus 0 ∨ off = rHstPortStatus 1 then
    let h := if off = rHstPortStatus 0 then 0 else 1
    s.stored off ||| put 10 (s.hst.invs.filter fun x => decide (x.1 = h)).length
      ||| put 3 (s.hst.tiles.filter fun x => decide (x.2.st ≠ 0) && decide (x.2.h = h)).length ||| putB 0 (bit s.pins.hcUp h)
  else if 0x80100 ≤ off ∧ off < 0x80180 then
    let p := (off - 0x80100) / 8
    if off % 8 = 0 then shown rq p (s.stored off)
    else
      let x := s.tdi p
      shown rq p (put 16 x.refused ||| put 4 x.stream ||| putB 3 x.ideOpt ||| put 0 x.st)
  else if 0x80200 ≤ off ∧ off < 0x80280 then s.streamView ((off - 0x80200) / 0x40) ((off - 0x80200) % 0x40 / 4)
  else if 0x80400 ≤ off ∧ off < 0x80440 then
    let p := (off - 0x80400) / 4
    shown rq p (BitVec.ofNat 32 ((List.range 16).map fun t => (s.tile p t).st * 4 ^ t).sum)
  else s.stored off

/-! CMD (R364 to R370, R387). -/

/-- The key of the queue that CMD_Q_IDX selects. -/
def State.qShown (s : State) : Nat := bellKey (bit (s.reg rCmdQIdx) 3) (s.fld rCmdQIdx 31 16) (s.fld rCmdQIdx 2 0)

/-- A word about the selected queue: that of another partition reads 0; a host queue is of no partition. -/
def State.queueView (rq : Rq) (f : Queue → Word) (s : State) : Word :=
  let k := s.qShown
  let q := s.queue k
  if !q.valid then 0 else if k < 16 then f q else shown rq (s.ctx ((k - 16) / 8)).part (f q)

/-- Registers of the CMD window. -/
def State.viewCmd (rq : Rq) (off : Nat) (s : State) : Word :=
  if off = rCmdStatus then
    let staged := (List.range 4).filter fun i => (s.cmd.stages.get none (i + 1)).isSome
    let mbox := s.cmd.sessions.filter fun x => x.live && match x.t with | .link _ _ => false | _ => true
    s.stored off ||| put 16 s.residents ||| put 12 (staged.map fun i => 2 ^ i).sum ||| put 8 mbox.length ||| putB 0 s.pins.blockReady
  else if off = rCmdDbErr then
    let (ctx, origin, part, q, why) := s.cmd.dbErr
    put 16 ctx ||| put 10 origin ||| put 6 part ||| put 3 q ||| put 0 why
  else if off = rCmdQPtrs then s.queueView rq fun q => put 16 q.head ||| put 0 q.tail
  else if off = rCmdQState then
    s.queueView rq fun q =>
      put 16 q.reserved ||| put 7 q.log2 ||| put 5 q.owner ||| put 2 q.wait ||| putB 1 q.destroying ||| putB 0 q.valid
  else s.stored off

/-! OBJ (R36, R392, R395, R398, R401, R403, R406, R410, R413, R419). -/

/-- Some Live plot of a partition lies beyond the reach of its plot table (R395). -/
def State.outOfReach (s : State) (p : Nat) : Bool :=
  let u := s.unitSize
  let lo := 65536 * s.ptFirst p
  let hi := lo + 65536 * s.ptCount p
  decide (s.pst p ≠ 0) && (s.part p).ranges.any fun r => (List.range (r.2 / u)).any fun i =>
    let b := r.1 + i * u
    (decide (b < lo) || decide (hi < b + u)) && (s.unitEntries b).any fun l => l.all fun e => decide ((s.anchor e).st = 1)

/-- The registers about the context that OBJ_CTX_IDX selects. -/
def State.ctxView (rq : Rq) (off : Nat) (s : State) : Word :=
  let c := s.fld rObjCtxIdx 15 0
  let k := s.ctx c
  if k.st = 0 then 0
  else shown rq k.part (
    if off = rObjCtxInfo then
      putB 31 k.ovf.isSome ||| put 22 k.fqCount ||| put 18 k.part ||| putB 17 k.resident ||| put 15 k.st
    else if off = rObjCtxFq then put 8 k.fqHead ||| put 0 k.fqTail
    else if s.params.profile = .s then 0
    else half (decide (off = rObjCtxBaseHi)) k.base)

/-- OBJ_FENCE_STATE and OBJ_FENCE_EPOCH of the fence that OBJ_FENCE_IDX selects; a FREE fence reads as the registers' reset values, 0. -/
def State.fenceView (rq : Rq) (epoch : Bool) (s : State) : Word :=
  let f := s.fld rObjFenceIdx 15 0
  let p := s.fld rObjFenceIdx 19 16
  let x := s.fence p f
  let q := if f < 0xF000 then x.part else p
  if !s.fenceOk q f then 0
  else shown rq q (
    if epoch then (if f < 0xF000 then 0 else x.epoch)
    else put 24 x.payload ||| put 20 q ||| put 18 (if x.signalled then 2 else 1) ||| put 0 x.owner)

/-- The request, result and address registers of an allocation doorbell slot of the requester's partition (R401). -/
def State.adbView (rq : Rq) (off : Nat) (s : State) : Word :=
  match rqPart rq with
  | none => 0
  | some p =>
    let a := s.adb p ((off - 0x71000) / 0x20)
    let o := off % 0x20
    if o = 0x00 then put 0 a.plots
    else if o = 0x04 then put 16 a.ctx ||| putB 0 a.shared
    else if o = 0x08 then put 8 a.gen ||| put 0 (stCode a.status)
    else if o = 0x0C then put 0 a.obj
    else if o = 0x10 then half false a.addr
    else half true a.addr

/-- Valid entries of the object cache: at least those pinned; the manual does not say which others stay (a free value). -/
def State.objCache (s : State) : Nat := min 8192 (s.pinned + s.free.toNat % 8193)

/-- Registers of the OBJ window. -/
def State.viewObj (rq : Rq) (off : Nat) (s : State) : Word :=
  if off = rObjStatus then s.stored off ||| put 8 (min 4096 (parts16.map s.dfCount).sum)
  else if off = rObjCacheStatus then put 14 s.pinned ||| put 0 s.objCache
  else if off = rObjPlotStatus then put 0 s.sg.plotCache.length
  else if off = rObjFenceCount then put 16 (s.obju.fences.filter fun x => x.2.used).length ||| put 0 s.sharesUsed
  else if off = rObjCtxInfo ∨ off = rObjCtxFq ∨ off = rObjCtxBase ∨ off = rObjCtxBaseHi then s.ctxView rq off
  else if off = rObjFenceState then s.fenceView rq false
  else if off = rObjFenceEpoch then s.fenceView rq true
  else if 0x70100 ≤ off ∧ off < 0x70200 then
    let p := (off - 0x70100) / 0x10
    let o := off % 0x10
    shown rq p (
      if o = 0 then half false (s.ptFirst p)
      else if o = 4 then half true (s.ptFirst p)
      else if o = 8 then putB 31 (s.outOfReach p) ||| put 0 (s.ptCount p)
      else put 0 (s.liveObjs p))
  else if 0x71000 ≤ off then s.adbView rq off
  else s.stored off

/-! LC (R456 to R463, R467, R470, R473 to R477). -/

/-- State code of a 64-bit copy; 7 when it is no valid code. -/
def State.copyView (s : State) (w : Nat) : Nat := if s.boot.sensed then (codeLc (s.fuse64 w)).getD 7 else 0

/-- LC_STATUS: fields that the fuses give read 0 until sensing, STATE reads 7 until the decision (R532). -/
def State.lcStatus (s : State) : Word :=
  let on (w : Nat) : Bool := s.boot.sensed && s.control w
  s.stored rLcStatus ||| putB 26 s.boot.wipePending ||| putB 25 (on 0x32) ||| putB 24 (on 0x31) ||| putB 23 (on 0x30)
    ||| putB 22 s.boot.burning ||| putB 20 s.boot.noMajority ||| putB 19 s.boot.resumed ||| putB 18 s.boot.copyStuck
    ||| put 15 (s.copyView 0x0E) ||| put 12 (s.copyView 0x0C) ||| put 9 (s.copyView 0x0A) ||| put 6 (s.copyView 0x08)
    ||| put 0 (if s.boot.decided then s.boot.lc else 7)

/-- LC_FUSE_DATA. -/
def State.fuseView (s : State) : Word :=
  let i := s.fld rLcFuseIdx 3 0
  if !s.boot.sensed then 0 else if i < 8 then s.fuseW (0x08 + i) else if i < 11 then s.fuseW (0x30 + i - 8) else 0

/-- The debug port may look at arrays (R458): level 1, and in RETURNED only once WIPED is in force. -/
def State.arraysOpen (s : State) (rq : Rq) : Bool :=
  rq.dbg && decide (s.boot.dbgAuth = 1) && (decide (s.boot.lc = 0) || decide (s.boot.lc = 1) || (decide (s.boot.lc = 3) && s.control 0x31))

/-- LC_DBG_ARRAY_DATA (R458). -/
def State.arrayView (rq : Rq) (s : State) : Word :=
  let a := s.fld rLcDbgArraySel 31 28
  if s.arraysOpen rq && decide (a < 7) then Config.arrayWord a (s.fld rLcDbgArraySel 27 23) (s.fld rLcDbgArraySel 22 0) else 0

/-- Registers of the LC window. -/
def State.viewLc (rq : Rq) (off : Nat) (s : State) : Word :=
  if off = rLcStatus then s.lcStatus
  else if off = rLcDbg then
    putB 7 s.boot.halted ||| put 5 (s.boot.challenge.elim 0 fun x => x.2) ||| putB 4 s.boot.challenge.isSome ||| put 2 s.boot.bootAuth
      ||| put 0 s.boot.dbgAuth
  else if off = rLcFuseData then s.fuseView
  else if off = rLcBurn then put 16 s.boot.burnFails ||| put 0 s.boot.burnBits
  else if off = rLcDbgArrayData then s.arrayView rq
  else s.stored off

/-! RST (R478, R481, R485, R489 to R504). -/

/-- Ladder step of a reset step: 1 context, 2 engine, 3 partition, 4 chip. -/
def Step.level : Step → Nat
  | .context _ _ => 1
  | .engine _ _ _ _ _ => 2
  | .unitGroup _ => 2
  | .partition _ => 3
  | .chip => 4

/-- RST_STATUS.ESC_STEP. -/
def State.escStep (s : State) : Nat := if s.pins.pwrcycReq then 5 else (s.rst.steps.map Step.level).foldl max 0

/-- RST_ESC_TARGET: the step in progress on each rung; PART is that of the highest. -/
def State.escTarget (s : State) : Word :=
  let ctx := s.rst.steps.findSome? fun x => match x with | .context c _ => some c | _ => none
  let eng := s.rst.steps.findSome? fun x => match x with
    | .engine e _ _ _ _ => some (put 11 e)
    | .unitGroup n => some (put 8 1 ||| put 4 n)
    | _ => none
  let part (l : Nat) : Option Nat := s.rst.steps.findSome? fun x =>
    if x.level ≠ l then none
    else match x with
      | .partition q => some q
      | .engine _ q _ _ _ => some (q % 16)
      | .context c _ => some (s.ctx c).part
      | _ => none
  put 16 (ctx.getD 0xFFFF) ||| eng.getD 0 ||| put 0 ((part 3 <|> part 2 <|> part 1).getD 0)

/-- Registers of the RST window. -/
def State.viewRst (rq : Rq) (off : Nat) (s : State) : Word :=
  if off = rRstStatus then
    s.stored off ||| put 8 (min 8 s.recent.length) ||| putB 7 s.pins.pwrcycReq ||| putB 6 s.pins.chipRstReq
      ||| putB 4 (parts16.any fun p => decide ((s.part p).scrub = 3) && (s.part p).zeroFill) ||| put 0 s.escStep
  else if off = rRstEscTarget then s.escTarget
  else if off = rRstWdog then put 16 s.rst.remain ||| put 0 s.rst.timeout
  else if rRstEng 0 ≤ off ∧ off < rRstEng 32 then
    let e := idxOf off (rRstEng 0) 4
    shown rq (s.fld off 3 0) (s.stored off ||| putB 5 (bit s.pins.engReq e || bit s.pins.engAck e))
  else s.stored off

/-! OBS (R508 to R527). -/

/-- The ring that a requester's OBS_TRACE_IDX selects. -/
def State.traceView (rq : Rq) (off : Nat) (s : State) : Word :=
  match rqPart rq with
  | none => 0
  | some p =>
    let i := s.obs.ringIdx.get 0 p
    let g := s.ring p i
    if off = rObsTraceIdx then put 0 i
    else if off = rObsTraceSel then s.traceSel p i
    else if off = rObsTraceState then
      put 24 (min 255 g.ignored) ||| put 16 g.cfgn ||| put 11 g.log2 ||| putB 10 g.ids ||| put 8 g.mode ||| put 0 g.st
    else if off = rObsTraceSeq then put 0 g.seq
    else if off = rObsTraceTrig then g.trig
    else put 0 g.drops

/-- Registers of the OBS window. -/
def State.viewObs (rq : Rq) (off : Nat) (s : State) : Word :=
  if off = rObsStatus then
    s.stored off ||| putB 5 s.obs.frzSupply ||| putB 4 s.obs.frzReset ||| putB 3 s.obs.frzBreach ||| putB 2 s.frozen
      ||| putB 0 s.flashAbsent
  else if off = rObsPressSeq then s.obs.pressSeq
  else if off = rObsPressFlushed then s.obs.flushed
  else if off = rObsCntData ∨ off = rObsCntDataHi then
    match rqPart rq with
    | none => 0
    | some p => half (decide (off = rObsCntDataHi)) (s.readCntr p (s.fld rObsCntIdx 4 0)).toNat
  else if rObsTraceIdx ≤ off ∧ off ≤ rObsTraceDrops then s.traceView rq off
  else if 0x50100 ≤ off ∧ off < 0x50200 ∧ off % 0x10 = 0xC then
    let p := (off - 0x50100) / 0x10
    let (res, dumps, chunks) := s.obs.dumpDone.get (0, 0, 0) p
    put 16 (chunks % 65536) ||| put 8 (min 255 dumps) ||| putB 7 (s.dumpBusy p) ||| put 0 res
  else s.stored off

/-- What a read of a register of the window returns. -/
def State.view (rq : Rq) (off : Nat) (s : State) : Word :=
  if off < 0x10000 then s.viewGlb rq off
  else if off < 0x20000 then s.viewDt off
  else if off < 0x30000 then s.viewKey rq off
  else if off < 0x40000 then s.viewLc rq off
  else if off < 0x50000 then s.viewRst rq off
  else if off < 0x60000 then s.viewObs rq off
  else if off < 0x70000 then s.viewCmd rq off
  else if off < 0x80000 then s.viewObj rq off
  else if off < 0x90000 then s.viewHst rq off
  else if off < 0x200000 then
    (if s.params.profile = .s then s.viewRp off else s.viewSg rq ((off - 0x100000) / 0x10000) (off % 0x10000))
  else s.viewLnk rq ((off - 0x200000) / 0x10000) (off % 0x10000)

end Sys2Proof.Machine
end

