-- ==== Sys2Proof/Machine/Access.lean ====
section
/-!
DEFINITION. REGISTER_WRITE: an access of the control port or the debug port to the register window (R8 to R18, R82 to R85, R458,
R477, R532). Writes of registers whose write is a command of its own act as that command does.
-/
namespace Sys2Proof.Machine

/-! BUSY_STATIC (R15, R17). -/

/-- Where a refusal of a direct write is reported: the register and the bit STATIC_REFUSED of the owning unit (R17). -/
def State.staticMark (s : State) (off : Nat) : Nat × Nat :=
  if off < 0x10000 then (rGlbIlv, 2)
  else if off < 0x20000 then (rDtStatus, 6)
  else if off < 0x30000 then (rKeyStatus, 1)
  else if off < 0x50000 then (rRstStatus, 5)
  else if off < 0x60000 then (rObsStatus, 1)
  else if off < 0x80000 then (rCmdStatus, 1)
  else if off < 0x90000 then
    (rHstPortStatus (if off < 0x80020 then 0 else if off < 0x80100 then 1 else if off < 0x80180 then s.fld off 16 16 else 0), 2)
  else if off < 0x200000 then
    (if s.params.profile = .s then (rRpStatus, 30) else (rSgMemCtrl ((off - 0x100000) / 0x10000), 8))
  else (rLnkStatus ((off - 0x200000) / 0x10000), 2)

/-- The unit that owns the S-class fields of a register is enabled (R15 and the register sections of each chapter). -/
def State.staticOn (s : State) (off : Nat) : Bool :=
  let notFree (p : Nat) : Bool := decide (s.pst p ≠ 0)
  if off < 0x10000 then s.groups.any s.sgOn
  else if off < 0x20000 then bit (s.reg rDtCtrl) 0
  else if off < 0x30000 then notFree (idxOf off (rKeyQuota 0) 4)
  else if off < 0x50000 then
    if off = rRstPwrcycCfg then s.pins.pwrcycReq else bit (s.reg off) 31 && notFree (s.fld off 3 0)
  else if off < 0x60000 then s.dumpBusy ((off - 0x50100) / 0x10)
  else if off < 0x80000 then
    if off < 0x60100 then bit (s.reg (rCmdHqCfg ((off - 0x60040) / 0x20))) 0 else s.cmd.stages.any fun x => x.2.isSome
  else if off < 0x90000 then
    if off < 0x80100 then bit (s.reg (rHstPortCfg ((off - 0x80010) / 0x10))) 0
    else if off < 0x80180 then notFree ((off - 0x80100) / 8)
    else bit (s.reg (rHstPortCfg 0)) 0 || bit (s.reg (rHstPortCfg 1)) 0
  else if off < 0x200000 then
    if s.params.profile = .s then notFree (idxOf off (rRpQuota 0) 4) else s.sgOn ((off - 0x100000) / 0x10000)
  else s.lnkOn ((off - 0x200000) / 0x10000)

/-! One register word (R12 to R17). -/

/-- A word written under the access type and class of each field: S-class fields keep their value and the refusal is reported when the
write would change one while its unit is enabled; L-class fields take the value; W1C bits and counts clear; C-class fields go to the
shadow. -/
def State.plainWrite (off : Nat) (w : Word) (s : State) : State :=
  match regRow s.params.profile off with
  | none => s
  | some r =>
    let old := s.reg off
    let bad := decide ((w ^^^ old) &&& r.s ≠ 0) && s.staticOn off
    let m := r.l ||| (if bad then 0 else r.s)
    let a := ((old &&& ~~~m) ||| (w &&& m)) &&& ~~~(w &&& r.w1c)
    let b := r.counts.foldl (fun x f => if bits w f.1 f.2 = 0 then x else setBits x f.1 f.2 0) a
    let t := s.setReg off b
    let u := if r.c = 0 then t else t.modRegf fun x => { x with shadow := x.shadow.put off (w &&& r.c) }
    if bad then u.flag (s.staticMark off).1 (s.staticMark off).2 else u

/-- A write of a trace register, for the requester's partition (the OBS registers): with ORIGIN 0 it is ignored. -/
def State.traceWrite (rq : Rq) (off : Nat) (w : Word) (s : State) : State :=
  match rqPart rq with
  | none => s
  | some p =>
    if off = rObsTraceIdx then s.modObs fun o => { o with ringIdx := o.ringIdx.set 0 p (bits w 1 0) }
    else if off = rObsTraceSel then
      s.modObs fun o => { o with sel := o.sel.set 0x140DFF (4 * p + o.ringIdx.get 0 p) (w &&& 0x011F0FFF) }
    else s

/-- LC_DBG_CORE and LC_DBG_ARRAY_SEL are written through the debug port alone (R458, R477). -/
def State.debugWrite (rq : Rq) (off : Nat) (w : Word) (s : State) : State :=
  if !rq.dbg then s
  else if off = rLcDbgArraySel then s.plainWrite off w
  else
    let t := s.coreHalt (bit w 0)
    if bit w 1 then t.coreStep else t

/-- ENABLE of a host queue, with its S-class fields, is written (R366, R388). -/
def State.hqCfgWrite (n : Nat) (w : Word) (s : State) : State :=
  let off := rCmdHqCfg n
  let t := s.plainWrite off (setBit w 0 (bit (s.reg off) 0))
  if bit w 0 then t.hostQueueOpen n else t.hostQueueClose n

/-- The word of a 32-bit register, or a half of a pair, takes a value. -/
def State.wordWrite (rq : Rq) (off : Nat) (w : Word) (s : State) : State :=
  if off = rGlbBuserr then
    let t := s.plainWrite off w
    if bit (t.reg off) 0 then t else t.setFld off 21 2 0
  else if off = rDtCtrl then s.dtCtrl (bit w 0) (bit w 1) (bit w 2)
  else if 0x50030 ≤ off ∧ off < 0x50048 then s.traceWrite rq off w
  else if off = rLcDbgCore ∨ off = rLcDbgArraySel then s.debugWrite rq off w
  else if 0x60050 ≤ off ∧ off < 0x600C0 ∧ off % 0x20 = 0x10 then s.hqCfgWrite ((off - 0x60040) / 0x20) w
  else if off = rCmdStatus then
    let t := s.plainWrite off w
    if bit (t.reg off) 2 then t else t.modCmd fun c => { c with dbErr := (0, 0, 0, 0, 0) }
  else if off = rHstPortStatus 0 ∨ off = rHstPortStatus 1 then
    let h := if off = rHstPortStatus 0 then 0 else 1
    let t := s.plainWrite off w
    if bit w 1 then t.modHst fun x => { x with priOff := x.priOff.filter fun p => decide (s.tdiPort p ≠ some h) } else t
  else if 0x80100 ≤ off ∧ off < 0x80180 ∧ off % 8 = 4 then
    if bits w 31 16 = 0 then s else s.modTdi ((off - 0x80100) / 8) fun x => { x with refused := 0 }
  else if 0x100000 ≤ off ∧ off < 0x180000 ∧ off % 0x10000 = 0x20 ∧ s.params.profile ≠ .s then
    (s.setReg off (s.reg off &&& ~~~(w &&& 0x300))).sgWrite ((off - 0x100000) / 0x10000) (bit w 0)
  else if 0x200000 ≤ off ∧ off % 0x10000 = 4 then s.lnkWrite ((off - 0x200000) / 0x10000) (bit w 0)
  else s.plainWrite off w

/-! LO/HI pairs (R11). -/

/-- A pair is written: LO only where it is given. The pairs that submit or trigger act as their commands do. Whether it is answered with
ERR. -/
def State.pairWrite (rq : Rq) (lo : Nat) (l : Option Word) (h : Word) (s : State) : State × Bool :=
  let v := l.getD 0
  if lo = rCmdDoorbell then (s.bell rq (bit v 20) (bits h 15 0) (bits v 19 17) (bit v 16) (bits v 15 0), false)
  else if lo = rObjFqDb then (s.fqWrite rq (bits h 15 0) (bits v 7 0), false)
  else if lo = rObsMark then (s.mark rq (bits h 15 0) (bits v 31 16) (bits v 15 0), false)
  else if 0x71000 ≤ lo ∧ lo < 0x71800 ∧ lo % 0x20 = 0 then
    s.adbSubmit rq ((lo - 0x71000) / 0x20) (bits v 23 0) (bit h 0) (bits h 31 16)
  else
    let t := match l with
      | some x => s.wordWrite rq lo x
      | none => s
    (t.wordWrite rq (lo + 4) h, false)

/-- Who holds a LO half: the debug port, or ORIGIN and PART (R11). -/
def rqCode (rq : Rq) : Nat := if rq.dbg then 64 else 16 * rq.origin + rq.part

/-- The LO half that a requester holds, and the state without it. -/
def State.takeHeld (rq : Rq) (lo : Nat) (s : State) : State × Option Word :=
  let mine (x : Nat × Nat × Word) : Bool := decide (x.1 = lo) && decide (x.2.1 = rqCode rq)
  (s.modRegf fun r => { r with held := r.held.filter fun x => !mine x }, (s.regf.held.find? mine).map fun x => x.2.2)

/-- A LO half is held for its requester; a second one replaces it. A doorbell slot that is ACCEPTED takes none (R401). -/
def State.holdLo (rq : Rq) (lo : Nat) (w : Word) (s : State) : State × Bool :=
  if 0x71000 ≤ lo ∧ lo < 0x71800 ∧ lo % 0x20 = 0 ∧ (rqPart rq).isSome ∧ (s.adb rq.part ((lo - 0x71000) / 0x20)).status = .accepted then
    (s.flag rObjStatus 1, true)
  else
    let t := (s.takeHeld rq lo).1
    (t.modRegf fun r => { r with held := r.held ++ [(lo, rqCode rq, w)] }, false)

/-! Accesses (R9, R10). -/

/-- The row of a register that is present at an offset (R10, R57). -/
def State.present (s : State) (off : Nat) : Option RegRow :=
  if unitAbsent s.params off then none else regRow s.params.profile off

/-- A 32-bit write of a present register. -/
def State.write32 (rq : Rq) (off : Nat) (r : RegRow) (w : Word) (s : State) : State × Bool :=
  match r.half with
  | .one => (s.wordWrite rq off w, false)
  | .lo => s.holdLo rq off w
  | .hi =>
    let (t, l) := s.takeHeld rq (off - 4)
    t.pairWrite rq (off - 4) l w

/-- A 32-bit read of a present register; `snap` is what the control port's access before it left. -/
def State.read32 (rq : Rq) (off : Nat) (r : RegRow) (snap : Option (Nat × Word)) (s : State) : State × Word :=
  let v := s.view rq off
  match r.half with
  | .one => (when (decide (off = rObjCacheStatus)) State.used s, v)
  | .lo =>
    let t := when (decide (off = rDtNow)) (State.modDt fun d => { d with frac := d.cnt.toNat / 2 ^ 24 % 65536 }) s
    (if rq.dbg then t else t.modRegf fun x => { x with snap := some (off + 4, s.view rq (off + 4)) }, v)
  | .hi =>
    (s, match snap with
      | some (o, x) => if !rq.dbg ∧ o = off then x else v
      | none => v)

/-- One 32-bit half of an access: the value read, whether it is answered with ERR, whether R10 applies. -/
def State.half32 (rq : Rq) (write : Bool) (off : Nat) (w : Word) (snap : Option (Nat × Word)) (s : State) :
    State × Word × Bool × Bool :=
  match s.present off with
  | none => (s, 0, false, true)
  | some r =>
    if write then
      let (t, e) := s.write32 rq off r w
      (t, 0, e, false)
    else
      let (t, v) := s.read32 rq off r snap
      (t, v, false, false)

/-- A 64-bit access to a LO/HI pair: both halves at once (R11). -/
def State.access64 (rq : Rq) (write : Bool) (lo : Nat) (v : DWord) (s : State) : State × DWord × Bool :=
  if write then
    let (t, e) := (s.takeHeld rq lo).1.pairWrite rq lo (some (v.setWidth 32)) ((v >>> 32).setWidth 32)
    (t, 0, e)
  else
    (when (decide (lo = rDtNow)) (State.modDt fun d => { d with frac := d.cnt.toNat / 2 ^ 24 % 65536 }) s,
      BitVec.ofNat 64 ((s.view rq lo).toNat + (s.view rq (lo + 4)).toNat * 2 ^ 32), false)

/-- An access of a size and alignment that R9 takes. -/
def State.access (rq : Rq) (write : Bool) (addr size : Nat) (v : DWord) (s : State) : State × DWord × Bool :=
  let snap := s.regf.snap
  let t := if rq.dbg then s else s.otherAccess
  if size = 32 then
    let (u, x, e, gone) := t.half32 rq write addr (v.setWidth 32) snap
    (when gone (State.busErr addr) u, x.setWidth 64, e)
  else match t.present addr with
    | some r =>
      if r.half = .lo then t.access64 rq write addr v
      else
        let (u, x, e, g) := t.half32 rq write addr (v.setWidth 32) none
        let (w, y, f, g') := u.half32 rq write (addr + 4) ((v >>> 32).setWidth 32) none
        (when (g || g') (State.busErr (addr + 4)) w, BitVec.ofNat 64 (x.toNat + y.toNat * 2 ^ 32), e || f)
    | none =>
      let (w, y, f, _) := t.half32 rq write (addr + 4) ((v >>> 32).setWidth 32) none
      (w.busErr addr, BitVec.ofNat 64 (y.toNat * 2 ^ 32), f)

/-- The service in force lets the control port make the access (R4, R457, R499, R532): before the decision reads of the GLB and LC
windows, restricted to identity the same, with a profile mismatch the GLB window alone. -/
def State.ctlServes (s : State) (a : Access) : Bool :=
  let glb := decide (a.addr % 0x400000 < 0x10000)
  let lc := decide (0x30000 ≤ a.addr % 0x400000) && decide (a.addr % 0x400000 < 0x40000)
  match s.service with
  | .off => false
  | .early => !a.write && (glb || lc)
  | .identity => !a.write && (glb || (lc && !s.boot.mismatch))
  | .full => true

/-- The debug port makes the access: granted, 32 bits, aligned; at level 2 writes go to the OBS window alone (R85, R458). -/
def State.dbgServes (s : State) (a : Access) : Bool :=
  let obs := decide (0x50000 ≤ a.addr % 0x400000) && decide (a.addr % 0x400000 < 0x60000)
  s.dbgWrites (!a.write || obs) && decide (a.size = 32) && decide (a.addr % 4 = 0)

/-- Size and alignment as R9 asks, and an ORIGIN that is not reserved (R82). -/
def ctlForm (a : Access) : Bool :=
  decide (a.rq.origin ≠ 3) && ((decide (a.size = 32) && decide (a.addr % 4 = 0)) || (decide (a.size = 64) && decide (a.addr % 8 = 0)))

/-- REGISTER_WRITE, and a read by the same port. -/
def execRegisterWrite (a : Access) (s : State) : Ans :=
  let addr := a.addr % 0x400000
  .next (
    if s.service = .off then s
    else if a.rq.dbg then
      if s.dbgServes a then
        let (t, v, e) := s.access (rqOf a.rq) a.write addr a.size a.wdata
        t.emit (.dbg v e)
      else s.emit (.dbg 0 true)
    else if ctlForm a && s.ctlServes a then
      let (t, v, e) := s.access (rqOf a.rq) a.write addr a.size a.wdata
      t.emit (.ctl v e)
    else s.otherAccess.emit (.ctl 0 true))

end Sys2Proof.Machine
end

