-- ==== Sys2Proof/Machine/Dispatch.lean ====
section
/-!
DEFINITION. The meaning of each command: one arm per constructor of Instr, one direct call of that command's own definition.
-/
namespace Sys2Proof.Machine

/-- The effect of a command on everything but the queue. -/
def exec (i : Instr) (s : State) : Host.Outcome State Fault Refusal :=
  match i with
  | .registerWrite a => Sys2Proof.Machine.execRegisterWrite a s
  | .cClassCommit window => Sys2Proof.Machine.execCClassCommit window s
  | .powerOn => Sys2Proof.Machine.execPowerOn s
  | .resetNAssert => Sys2Proof.Machine.execResetNAssert s
  | .resetNRelease => Sys2Proof.Machine.execResetNRelease s
  | .stormHoldExpire => Sys2Proof.Machine.execStormHoldExpire s
  | .warmReqNAssert => Sys2Proof.Machine.execWarmReqNAssert s
  | .warmFlushDone => Sys2Proof.Machine.execWarmFlushDone s
  | .warmFlushOverrun => Sys2Proof.Machine.execWarmFlushOverrun s
  | .fuseSenseDone err => Sys2Proof.Machine.execFuseSenseDone err s
  | .fusePgmDone reads1 => Sys2Proof.Machine.execFusePgmDone reads1 s
  | .husGenerate => Sys2Proof.Machine.execHusGenerate s
  | .userAreaEraseDone erased readBack => Sys2Proof.Machine.execUserAreaEraseDone erased readBack s
  | .anchorInitDone => Sys2Proof.Machine.execAnchorInitDone s
  | .snowdrop mfw svn flashMiB => Sys2Proof.Machine.execSnowdrop mfw svn flashMiB s
  | .tolaroBootDone => Sys2Proof.Machine.execTolaroBootDone s
  | .rejoinReassign part => Sys2Proof.Machine.execRejoinReassign part s
  | .watchdogExpire => Sys2Proof.Machine.execWatchdogExpire s
  | .retReqRise => Sys2Proof.Machine.execRetReqRise s
  | .retentionFlushDone => Sys2Proof.Machine.execRetentionFlushDone s
  | .retReqFall => Sys2Proof.Machine.execRetReqFall s
  | .supplyWarnAssert => Sys2Proof.Machine.execSupplyWarnAssert s
  | .supplyWarnRelease => Sys2Proof.Machine.execSupplyWarnRelease s
  | .sensorCapture j level => Sys2Proof.Machine.execSensorCapture j level s
  | .chipRstReqTimeout => Sys2Proof.Machine.execChipRstReqTimeout s
  | .powerCycleMessageResend => Sys2Proof.Machine.execPowerCycleMessageResend s
  | .trefLost => Sys2Proof.Machine.execTrefLost s
  | .trefReturn => Sys2Proof.Machine.execTrefReturn s
  | .fpLinkUpRise k => Sys2Proof.Machine.execFpLinkUpRise k s
  | .fpLinkUpFall k => Sys2Proof.Machine.execFpLinkUpFall k s
  | .hcLinkUpFall h => Sys2Proof.Machine.execHcLinkUpFall h s
  | .pfenceAckRise q => Sys2Proof.Machine.execPfenceAckRise q s
  | .pfenceAckFall q => Sys2Proof.Machine.execPfenceAckFall q s
  | .engRstAckRise e => Sys2Proof.Machine.execEngRstAckRise e s
  | .engRstAckFall e => Sys2Proof.Machine.execEngRstAckFall e s
  | .cstopAckRise => Sys2Proof.Machine.execCstopAckRise s
  | .measImage idx image => Sys2Proof.Machine.execMeasImage idx image s
  | .measLockRise => Sys2Proof.Machine.execMeasLockRise s
  | .measDiscardAfterLock => Sys2Proof.Machine.execMeasDiscardAfterLock s
  | .dtEnable rq gm backup => Sys2Proof.Machine.execDtEnable rq gm backup s
  | .dtDisable rq => Sys2Proof.Machine.execDtDisable rq s
  | .syncInterval => Sys2Proof.Machine.execSyncInterval s
  | .pdelayReqInterval => Sys2Proof.Machine.execPdelayReqInterval s
  | .announceInterval => Sys2Proof.Machine.execAnnounceInterval s
  | .ptpMessage h m domainNumber sdoId tsadj => Sys2Proof.Machine.execPtpMessage h m domainNumber sdoId tsadj s
  | .txTimestampReturn k lat => Sys2Proof.Machine.execTxTimestampReturn k lat s
  | .txTimestampTimeout k => Sys2Proof.Machine.execTxTimestampTimeout k s
  | .syncTimeout => Sys2Proof.Machine.execSyncTimeout s
  | .holdoverLimitExpire => Sys2Proof.Machine.execHoldoverLimitExpire s
  | .holdoverBoundExpire => Sys2Proof.Machine.execHoldoverBoundExpire s
  | .backupGmTakeover => Sys2Proof.Machine.execBackupGmTakeover s
  | .schedCommit j => Sys2Proof.Machine.execSchedCommit j s
  | .schedEpoch j => Sys2Proof.Machine.execSchedEpoch j s
  | .schedResalt j => Sys2Proof.Machine.execSchedResalt j s
  | .schedStop j => Sys2Proof.Machine.execSchedStop j s
  | .schedResume j => Sys2Proof.Machine.execSchedResume j s
  | .schedTraceTrig j => Sys2Proof.Machine.execSchedTraceTrig j s
  | .schedDump j => Sys2Proof.Machine.execSchedDump j s
  | .schedTrigOut j => Sys2Proof.Machine.execSchedTrigOut j s
  | .trigPulseEnd o => Sys2Proof.Machine.execTrigPulseEnd o s
  | .stopMarkerSend k p => Sys2Proof.Machine.execStopMarkerSend k p s
  | .stopMarkerRx h origin id => Sys2Proof.Machine.execStopMarkerRx h origin id s
  | .stopMarkerTimeout p => Sys2Proof.Machine.execStopMarkerTimeout p s
  | .domainSchedEntryRx h e origin => Sys2Proof.Machine.execDomainSchedEntryRx h e origin s
  | .domainSchedCancelRx h origin id => Sys2Proof.Machine.execDomainSchedCancelRx h origin id s
  | .rngStartupPass => Sys2Proof.Machine.execRngStartupPass s
  | .healthTestWindow pass => Sys2Proof.Machine.execHealthTestWindow pass s
  | .drbgReseed => Sys2Proof.Machine.execDrbgReseed s
  | .slotRetireComplete slot readBack ecc => Sys2Proof.Machine.execSlotRetireComplete slot readBack ecc s
  | .slotRelease slot => Sys2Proof.Machine.execSlotRelease slot s
  | .derivationDone slot obj gen ecc => Sys2Proof.Machine.execDerivationDone slot obj gen ecc s
  | .cceMessageDone checkOk ecc => Sys2Proof.Machine.execCceMessageDone checkOk ecc s
  | .pkeOpDone ecc => Sys2Proof.Machine.execPkeOpDone ecc s
  | .mldsaSignRestart => Sys2Proof.Machine.execMldsaSignRestart s
  | .resealRegion p n got => Sys2Proof.Machine.execResealRegion p n got s
  | .mnRead q flips ecc => Sys2Proof.Machine.execMnRead q flips ecc s
  | .mnWrite q data be flips ecc => Sys2Proof.Machine.execMnWrite q data be flips ecc s
  | .mnScalarAtomic q data be flips mism => Sys2Proof.Machine.execMnScalarAtomic q data be flips mism s
  | .mnVectorAccumulate q data be flips mism => Sys2Proof.Machine.execMnVectorAccumulate q data be flips mism s
  | .msReadResponse n port tag data ue last => Sys2Proof.Machine.execMsReadResponse n port tag data ue last s
  | .msWriteAck n port tag => Sys2Proof.Machine.execMsWriteAck n port tag s
  | .accessVerifyDone id => Sys2Proof.Machine.execAccessVerifyDone id s
  | .sectorLockGrant id => Sys2Proof.Machine.execSectorLockGrant id s
  | .metadataWriteBack l => Sys2Proof.Machine.execMetadataWriteBack l s
  | .anchorPatrol e flips => Sys2Proof.Machine.execAnchorPatrol e flips s
  | .anchorRestore e => Sys2Proof.Machine.execAnchorRestore e s
  | .mergeIdleWriteBack n lbn ecc => Sys2Proof.Machine.execMergeIdleWriteBack n lbn ecc s
  | .egressRelease g => Sys2Proof.Machine.execEgressRelease g s
  | .laneGate u => Sys2Proof.Machine.execLaneGate u s
  | .laneWake => Sys2Proof.Machine.execLaneWake s
  | .ratomicRequestRx h r mism => Sys2Proof.Machine.execRatomicRequestRx h r mism s
  | .outcomeQueryRx h r => Sys2Proof.Machine.execOutcomeQueryRx h r s
  | .ratomicReplyRx h r => Sys2Proof.Machine.execRatomicReplyRx h r s
  | .ratomicRetry p txid => Sys2Proof.Machine.execRatomicRetry p txid s
  | .ratomicDeadline p txid => Sys2Proof.Machine.execRatomicDeadline p txid s
  | .memoEntryExpire domain src txid => Sys2Proof.Machine.execMemoEntryExpire domain src txid s
  | .remoteRwRequestRx h r => Sys2Proof.Machine.execRemoteRwRequestRx h r s
  | .contributionRx h src c elems mism => Sys2Proof.Machine.execContributionRx h src c elems mism s
  | .contributionAckRx h c st => Sys2Proof.Machine.execContributionAckRx h c st s
  | .contributionResend p rid cidx chunk => Sys2Proof.Machine.execContributionResend p rid cidx chunk s
  | .reductionTimeout p rid => Sys2Proof.Machine.execReductionTimeout p rid s
  | .resultChunkRx h sw c st data mism => Sys2Proof.Machine.execResultChunkRx h sw c st data mism s
  | .resultAckRx h src c st => Sys2Proof.Machine.execResultAckRx h src c st s
  | .resultChunkResend p rid chunk => Sys2Proof.Machine.execResultChunkResend p rid chunk s
  | .resultChunkGiveUp p rid chunk => Sys2Proof.Machine.execResultChunkGiveUp p rid chunk s
  | .resultLedgerExpire domain sw rid chunk => Sys2Proof.Machine.execResultLedgerExpire domain sw rid chunk s
  | .sessionSetupStart k si => Sys2Proof.Machine.execSessionSetupStart k si s
  | .sessionSetupTimeout k si => Sys2Proof.Machine.execSessionSetupTimeout k si s
  | .sessionRetryBackoff k si => Sys2Proof.Machine.execSessionRetryBackoff k si s
  | .openRx h member => Sys2Proof.Machine.execOpenRx h member s
  | .closeRx h reason member => Sys2Proof.Machine.execCloseRx h reason member s
  | .closingTimeout k si => Sys2Proof.Machine.execClosingTimeout k si s
  | .lnkEnable rq k => Sys2Proof.Machine.execLnkEnable rq k s
  | .lnkDisable rq k => Sys2Proof.Machine.execLnkDisable rq k s
  | .keepaliveTx k si => Sys2Proof.Machine.execKeepaliveTx k si s
  | .keepaliveRx h dtState hseq => Sys2Proof.Machine.execKeepaliveRx h dtState hseq s
  | .keepaliveTimeout k si => Sys2Proof.Machine.execKeepaliveTimeout k si s
  | .memberLostNoticeRx h reporter lost dt => Sys2Proof.Machine.execMemberLostNoticeRx h reporter lost dt s
  | .frameEnqueue k f => Sys2Proof.Machine.execFrameEnqueue k f s
  | .frameSeal k => Sys2Proof.Machine.execFrameSeal k s
  | .txStall k => Sys2Proof.Machine.execTxStall k s
  | .coverSlot k => Sys2Proof.Machine.execCoverSlot k s
  | .epochCountLimit k si => Sys2Proof.Machine.execEpochCountLimit k si s
  | .epochChangeDeferred k si => Sys2Proof.Machine.execEpochChangeDeferred k si s
  | .rxEpochRetire k si => Sys2Proof.Machine.execRxEpochRetire k si s
  | .flowEntryTimeout k flow => Sys2Proof.Machine.execFlowEntryTimeout k flow s
  | .flowEntryGrant k => Sys2Proof.Machine.execFlowEntryGrant k s
  | .getVersion t => Sys2Proof.Machine.execGetVersion t s
  | .getCapabilities t => Sys2Proof.Machine.execGetCapabilities t s
  | .negotiateAlgorithms t offered => Sys2Proof.Machine.execNegotiateAlgorithms t offered s
  | .getDigests t => Sys2Proof.Machine.execGetDigests t s
  | .getCertificate t slot => Sys2Proof.Machine.execGetCertificate t slot s
  | .challenge t slot => Sys2Proof.Machine.execChallenge t slot s
  | .getMeasurements t index sid => Sys2Proof.Machine.execGetMeasurements t index sid s
  | .keyExchange t x => Sys2Proof.Machine.execKeyExchange t x s
  | .finish t sid authOk => Sys2Proof.Machine.execFinish t sid authOk s
  | .endSession t sid => Sys2Proof.Machine.execEndSession t sid s
  | .heartbeat t sid => Sys2Proof.Machine.execHeartbeat t sid s
  | .heartbeatLoss t sid => Sys2Proof.Machine.execHeartbeatLoss t sid s
  | .keyUpdate t sid => Sys2Proof.Machine.execKeyUpdate t sid s
  | .getCsr t sid => Sys2Proof.Machine.execGetCsr t sid s
  | .setCertificate t sid chain => Sys2Proof.Machine.execSetCertificate t sid chain s
  | .spdmCarriageRx h c => Sys2Proof.Machine.execSpdmCarriageRx h c s
  | .linkBind k si b ev => Sys2Proof.Machine.execLinkBind k si b ev s
  | .amend t sid a => Sys2Proof.Machine.execAmend t sid a s
  | .amendFetch k si held => Sys2Proof.Machine.execAmendFetch k si held s
  | .provision t sid sub hashes => Sys2Proof.Machine.execProvision t sid sub hashes s
  | .doeObjectRx h proto lenBytes => Sys2Proof.Machine.execDoeObjectRx h proto lenBytes s
  | .doeAbort h => Sys2Proof.Machine.execDoeAbort h s
  | .configRequestRx h write func off data locked => Sys2Proof.Machine.execConfigRequestRx h write func off data locked s
  | .hostTlpTx h t => Sys2Proof.Machine.execHostTlpTx h t s
  | .hostTlpRx h t => Sys2Proof.Machine.execHostTlpRx h t s
  | .ideKmQuery h sid => Sys2Proof.Machine.execIdeKmQuery h sid s
  | .ideKmKeyProg h sid stream sub rx set key => Sys2Proof.Machine.execIdeKmKeyProg h sid stream sub rx set key s
  | .ideKmKSetGo h sid stream sub rx set => Sys2Proof.Machine.execIdeKmKSetGo h sid stream sub rx set s
  | .ideKmKSetStop h sid stream sub rx set => Sys2Proof.Machine.execIdeKmKSetStop h sid stream sub rx set s
  | .getTdispVersion h sid p => Sys2Proof.Machine.execGetTdispVersion h sid p s
  | .getTdispCapabilities h sid p => Sys2Proof.Machine.execGetTdispCapabilities h sid p s
  | .lockInterfaceRequest h sid p => Sys2Proof.Machine.execLockInterfaceRequest h sid p s
  | .getDeviceInterfaceReport h sid p => Sys2Proof.Machine.execGetDeviceInterfaceReport h sid p s
  | .getDeviceInterfaceState h sid p => Sys2Proof.Machine.execGetDeviceInterfaceState h sid p s
  | .startInterfaceRequest h sid p => Sys2Proof.Machine.execStartInterfaceRequest h sid p s
  | .stopInterfaceRequest h sid p => Sys2Proof.Machine.execStopInterfaceRequest h sid p s
  | .tdispUnsupportedRequest h sid p => Sys2Proof.Machine.execTdispUnsupportedRequest h sid p s
  | .functionLevelReset h rid => Sys2Proof.Machine.execFunctionLevelReset h rid s
  | .translationCompletion h tag ok pages => Sys2Proof.Machine.execTranslationCompletion h tag ok pages s
  | .translationTimeout h tag => Sys2Proof.Machine.execTranslationTimeout h tag s
  | .atsInvalidateRequest h itag rid pasid va len => Sys2Proof.Machine.execAtsInvalidateRequest h itag rid pasid va len s
  | .invalidationComplete h itag => Sys2Proof.Machine.execInvalidationComplete h itag s
  | .prgResponse h prg code => Sys2Proof.Machine.execPrgResponse h prg code s
  | .priTimeout prg => Sys2Proof.Machine.execPriTimeout prg s
  | .tileOpen h m => Sys2Proof.Machine.execTileOpen h m s
  | .tileClose h m => Sys2Proof.Machine.execTileClose h m s
  | .submissionDoorbell rq hostQ ctx queue index => Sys2Proof.Machine.execSubmissionDoorbell rq hostQ ctx queue index s
  | .replyDoorbell rq hostQ ctx queue index => Sys2Proof.Machine.execReplyDoorbell rq hostQ ctx queue index s
  | .hostQueueEnable rq n => Sys2Proof.Machine.execHostQueueEnable rq n s
  | .hostQueueDisable rq n => Sys2Proof.Machine.execHostQueueDisable rq n s
  | .mailboxSecuredMessage t sid verifies issuer part seq opcode => Sys2Proof.Machine.execMailboxSecuredMessage t sid verifies issuer part seq opcode s
  | .storedReplyExpire sid seq => Sys2Proof.Machine.execStoredReplyExpire sid seq s
  | .nop h => Sys2Proof.Machine.execNop h s
  | .identify h => Sys2Proof.Machine.execIdentify h s
  | .carry h sid recAddr recLen rplAddr rplLen maxReply opens => Sys2Proof.Machine.execCarry h sid recAddr recLen rplAddr rplLen maxReply opens s
  | .replyPoll h seq => Sys2Proof.Machine.execReplyPoll h seq s
  | .partAssign h mode stage strict allot merge weight mdc dkc pbase psize otPlots => Sys2Proof.Machine.execPartAssign h mode stage strict allot merge weight mdc dkc pbase psize otPlots s
  | .partRelease h zeroFill => Sys2Proof.Machine.execPartRelease h zeroFill s
  | .partShare h weight => Sys2Proof.Machine.execPartShare h weight s
  | .regionAdd h base size => Sys2Proof.Machine.execRegionAdd h base size s
  | .regionRearm h addr => Sys2Proof.Machine.execRegionRearm h addr s
  | .partPolicy h policy => Sys2Proof.Machine.execPartPolicy h policy s
  | .manifestStage h stage m => Sys2Proof.Machine.execManifestStage h stage m s
  | .domainTeardown h => Sys2Proof.Machine.execDomainTeardown h s
  | .ctxCreate h ctx pasid pasidValid => Sys2Proof.Machine.execCtxCreate h ctx pasid pasidValid s
  | .ctxDestroy h ctx => Sys2Proof.Machine.execCtxDestroy h ctx s
  | .teardownDrainEnd ctx => Sys2Proof.Machine.execTeardownDrainEnd ctx s
  | .queueCreate h ctx queue log2 owner sq rq => Sys2Proof.Machine.execQueueCreate h ctx queue log2 owner sq rq s
  | .queueDestroy h ctx queue => Sys2Proof.Machine.execQueueDestroy h ctx queue s
  | .objAlloc h plots shared => Sys2Proof.Machine.execObjAlloc h plots shared s
  | .objFree h obj gen => Sys2Proof.Machine.execObjFree h obj gen s
  | .freeRetire p obj => Sys2Proof.Machine.execFreeRetire p obj s
  | .objQuery h obj gen => Sys2Proof.Machine.execObjQuery h obj gen s
  | .ratomic h dst op attr obj gen offset operand compare => Sys2Proof.Machine.execRatomic h dst op attr obj gen offset operand compare s
  | .raccum h dst op attr obj gen offset srcObj srcGen srcOff src st => Sys2Proof.Machine.execRaccum h dst op attr obj gen offset srcObj srcGen srcOff src st s
  | .outcomeQuery h dst txid issue => Sys2Proof.Machine.execOutcomeQuery h dst txid issue s
  | .outcomeQueryResend p txid => Sys2Proof.Machine.execOutcomeQueryResend p txid s
  | .reduceContrib h kind c sw srcObj srcGen srcOff src st => Sys2Proof.Machine.execReduceContrib h kind c sw srcObj srcGen srcOff src st s
  | .fenceCreate h domain => Sys2Proof.Machine.execFenceCreate h domain s
  | .fenceSignal h fence error => Sys2Proof.Machine.execFenceSignal h fence error s
  | .fenceWait h fence => Sys2Proof.Machine.execFenceWait h fence s
  | .fenceReset h fence => Sys2Proof.Machine.execFenceReset h fence s
  | .fenceDestroy h fence => Sys2Proof.Machine.execFenceDestroy h fence s
  | .fenceShare h fence ctx => Sys2Proof.Machine.execFenceShare h fence ctx s
  | .domainFenceSignalRx h op error origin index fepoch stamp oseq => Sys2Proof.Machine.execDomainFenceSignalRx h op error origin index fepoch stamp oseq s
  | .keyReseal h => Sys2Proof.Machine.execKeyReseal h s
  | .keyAttest h slot nonce => Sys2Proof.Machine.execKeyAttest h slot nonce s
  | .keyControlGen h exportable retain measBound => Sys2Proof.Machine.execKeyControlGen h exportable retain measBound s
  | .keyImport h exportable retain measBound value => Sys2Proof.Machine.execKeyImport h exportable retain measBound value s
  | .keyWrap h slot wrapSlot => Sys2Proof.Machine.execKeyWrap h slot wrapSlot s
  | .keyUnwrap h wrapSlot blob => Sys2Proof.Machine.execKeyUnwrap h wrapSlot blob s
  | .keyRetire h slot => Sys2Proof.Machine.execKeyRetire h slot s
  | .cceOp tolaro h slot mode decrypt ivGen len iv msg => Sys2Proof.Machine.execCceOp tolaro h slot mode decrypt ivGen len iv msg s
  | .saSeed h slot => Sys2Proof.Machine.execSaSeed h slot s
  | .saStep h step => Sys2Proof.Machine.execSaStep h step s
  | .schedArm h e => Sys2Proof.Machine.execSchedArm h e s
  | .schedCancel h id block => Sys2Proof.Machine.execSchedCancel h id block s
  | .cntRead h scope index => Sys2Proof.Machine.execCntRead h scope index s
  | .traceCfg h ring base log2KiB mode post ids => Sys2Proof.Machine.execTraceCfg h ring base log2KiB mode post ids s
  | .traceStart h ring => Sys2Proof.Machine.execTraceStart h ring s
  | .traceStop h ring => Sys2Proof.Machine.execTraceStop h ring s
  | .traceTriggerNow h ring => Sys2Proof.Machine.execTraceTriggerNow h ring s
  | .traceReleaseFreeze h ring => Sys2Proof.Machine.execTraceReleaseFreeze h ring s
  | .traceSectorTimeout p ring => Sys2Proof.Machine.execTraceSectorTimeout p ring s
  | .tensorReg h name base len => Sys2Proof.Machine.execTensorReg h name base len s
  | .dumpChunkCapture p data st => Sys2Proof.Machine.execDumpChunkCapture p data st s
  | .dumpStepTimeout p j => Sys2Proof.Machine.execDumpStepTimeout p j s
  | .pressRead h first count => Sys2Proof.Machine.execPressRead h first count s
  | .pressRelease h => Sys2Proof.Machine.execPressRelease h s
  | .pressFlush => Sys2Proof.Machine.execPressFlush s
  | .rstContext h ctx => Sys2Proof.Machine.execRstContext h ctx s
  | .rstEngine h engine => Sys2Proof.Machine.execRstEngine h engine s
  | .rstPartition h => Sys2Proof.Machine.execRstPartition h s
  | .rstWarm h => Sys2Proof.Machine.execRstWarm h s
  | .rstChip h => Sys2Proof.Machine.execRstChip h s
  | .pwrCycle h => Sys2Proof.Machine.execPwrCycle h s
  | .escalationDeadline step target => Sys2Proof.Machine.execEscalationDeadline step target s
  | .scrubStepDone p => Sys2Proof.Machine.execScrubStepDone p s
  | .zeroFillRegion p e => Sys2Proof.Machine.execZeroFillRegion p e s
  | .lcTransition h target token => Sys2Proof.Machine.execLcTransition h target token s
  | .dbgChallenge h level => Sys2Proof.Machine.execDbgChallenge h level s
  | .dbgToken h token => Sys2Proof.Machine.execDbgToken h token s
  | .challengeExpire => Sys2Proof.Machine.execChallengeExpire s
  | .debugHalt rq halt => Sys2Proof.Machine.execDebugHalt rq halt s
  | .debugStep rq => Sys2Proof.Machine.execDebugStep rq s
  | .sgEnable rq n => Sys2Proof.Machine.execSgEnable rq n s
  | .sgDisable rq n => Sys2Proof.Machine.execSgDisable rq n s
  | .allocDoorbell rq slot plots shared ctx => Sys2Proof.Machine.execAllocDoorbell rq slot plots shared ctx s
  | .allocDoorbellDone p slot => Sys2Proof.Machine.execAllocDoorbellDone p slot s
  | .faultQueueDoorbell rq ctx head => Sys2Proof.Machine.execFaultQueueDoorbell rq ctx head s
  | .contextRestore ctx => Sys2Proof.Machine.execContextRestore ctx s
  | .obsMark rq ctx layer op => Sys2Proof.Machine.execObsMark rq ctx layer op s
  | .quantisationInstant => Sys2Proof.Machine.execQuantisationInstant s
  | .setEndpointId eid sender => Sys2Proof.Machine.execSetEndpointId eid sender s
  | .getEndpointId => Sys2Proof.Machine.execGetEndpointId s
  | .getEndpointUuid => Sys2Proof.Machine.execGetEndpointUuid s
  | .getMctpVersionSupport => Sys2Proof.Machine.execGetMctpVersionSupport s
  | .getMessageTypeSupport => Sys2Proof.Machine.execGetMessageTypeSupport s
  | .entdaa addr => Sys2Proof.Machine.execEntdaa addr s
  | .hotJoinRequest => Sys2Proof.Machine.execHotJoinRequest s
  | .setMaxLength write len => Sys2Proof.Machine.execSetMaxLength write len s
  | .cstopAckFall => Sys2Proof.Machine.execCstopAckFall s
  | .warmReqNRelease => Sys2Proof.Machine.execWarmReqNRelease s
  | .vddRetRemove => Sys2Proof.Machine.execVddRetRemove s
  | .hcLinkUpRise h => Sys2Proof.Machine.execHcLinkUpRise h s
  | .frameRxDiscard h kind => Sys2Proof.Machine.execFrameRxDiscard h kind s
  | .frameRoute h outPort f => Sys2Proof.Machine.execFrameRoute h outPort f s
  | .lockstepMismatch => Sys2Proof.Machine.execLockstepMismatch s

end Sys2Proof.Machine
end

