-- ==== Sys2Proof/Machine/Wires.lean ====
section
/-!
DEFINITION. The streams of frames and TLPs as they stand on the wires, beat by beat (R76, R77, R80), and the levels of the outputs that
State holds no field for (R67, R89, R94, R97).
-/
namespace Sys2Proof.Machine

/-- A beat of 512 bits: DATA with byte 0 in bits 7:0, whether it is the first and the last of its frame or TLP, and the count of valid units
in the last beat: NBYTES, bytes modulo 64, of a frame (R76); NDW, doublewords modulo 16, of a TLP (R80). -/
structure WireBeat where
  data : BitVec 512
  first : Bool
  last : Bool
  count : Nat
  deriving DecidableEq, Repr

/-- Beats of a byte string: 64 bytes a beat, the unit of the count given in bytes. The fuel is the number of bytes. -/
def cutBeats (unit : Nat) : Nat → Bool → List Byte → List WireBeat
  | 0, _, _ => []
  | n + 1, first, l =>
    let b : WireBeat :=
      { data := BitVec.ofNat 512 (ofLe (l.take 64)), first := first, last := decide (l.length ≤ 64),
        count := if l.length ≤ 64 then (l.length / unit) % (64 / unit) else 0 }
    if l.length ≤ 64 then [b] else b :: cutBeats unit n false (l.drop 64)

/-- Bytes of a beat: 64, or as many as the count of the last one says, 0 meaning all. -/
def WireBeat.bytes (unit : Nat) (b : WireBeat) : List Byte :=
  (leBytes 64 b.data.toNat).take (if b.last ∧ b.count ≠ 0 then b.count * unit else 64)

/-- Take the beats of one frame or TLP: the first is marked as first and no other is, the last is marked as last and no other is. -/
def takeBeats (unit : Nat) : Bool → List WireBeat → Option (List Byte)
  | _, [] => none
  | first, b :: r =>
    if b.first ≠ first then none
    else if b.last then (if r.isEmpty then some (b.bytes unit) else none)
    else (takeBeats unit false r).map fun l => b.bytes unit ++ l

/-- The bytes of a sealed frame (R305): header, payload, tag; `f.payload` holds the sealed payload with its tag. -/
def TxFrame.bytes (f : TxFrame) : List Byte := headerBytes f (f.payload.length - 16) ++ f.payload

/-- The beats of a frame on FPk_TX (R76, R77). -/
def TxFrame.beats (f : TxFrame) : List WireBeat := cutBeats 1 f.bytes.length true f.bytes

/-- The frame on FPk_RX whose beats are these; one with a line error is discarded (R76). -/
def rxFrame (err : Bool) (l : List WireBeat) : Option (List Byte) := if err then none else takeBeats 1 true l

/-- The bytes of a TLP (R80): header and prefixes, then its payload. -/
def tlpBytes (t : Tlp) : List Byte := Config.tlpHeader (tlpFields t) ++ t.payload

/-- The beats of a TLP on a host cipher stream (R80). -/
def tlpBeats (t : Tlp) : List WireBeat := cutBeats 4 (tlpBytes t).length true (tlpBytes t)

/-! Outputs (R67, R97). -/

/-- Outputs whose level follows from the rest of the state. -/
inductive OutPin where
  | dtBcast | dtBcastLock | fuseAddr | fuseRd | fusePgm | fusePgmBit | xspiSck | xspiCsN | xspiRstN | xspiDqOut | xspiDqOe
  | i3cSdaOut | i3cSdaOe | measReady
  deriving DecidableEq, Repr

/-- The level of an output. While a reset is asserted and until fuse sensing completes it is the one R67 gives (R97). DT_BCAST carries the
domain-time nanoseconds, truncated to 64 bits (R89); the fuse port the program operation under way (R94); the flash and management bus
drivers their idle levels, as what a transfer drives is the buses' own matter (R93, R95). -/
def State.level (s : State) (o : OutPin) : Nat :=
  let on := s.boot.sensed && decide (s.boot.phase ≠ .inReset)
  match o with
  | .dtBcast => if on then s.now % 2 ^ 64 else 0
  | .dtBcastLock => if on && decide (s.dt.st = 2) then 1 else 0
  | .fuseAddr => if s.boot.burnGo then (s.boot.burnQ.headD (0, 0)).1 else 0
  | .fuseRd => if s.boot.phase = .sensing then 1 else 0
  | .fusePgm => b2n s.boot.burnGo
  | .fusePgmBit => if s.boot.burnGo then (s.boot.burnQ.headD (0, 0)).2 else 0
  | .xspiSck => 0
  | .xspiCsN => 1
  | .xspiRstN => b2n (on && decide (s.boot.phase ≠ .burning))
  | .xspiDqOut => 0
  | .xspiDqOe => 0
  | .i3cSdaOut => 0
  | .i3cSdaOe => 0
  | .measReady => b2n (on && decide (s.service ≠ .off))

end Sys2Proof.Machine
end

