-- ==== Sys2Proof/Safety.lean ====
section
/-!
DEFINITION. The terms that claims use: what it is for a command packet to be accepted and the state its effect begins in, what a
fuse array keeps, and what a safe step is.
-/
namespace Sys2Proof.Machine

/-- A packet of an opcode's row is admitted (R367, R370, R372, R373, R376): the block admits and its path is open, nothing makes it wait
at the head of its queue, its entries in a DEVICE-owned ring have been read, the opcode exists in the profile, and no check of its
header fails. -/
def State.Accepts (s : State) (r : Row) (h : Hdr) (refs : List Nat) : Prop :=
  s.admits = true ∧ s.pathOpen h.path = true
    ∧ s.admitWait r.opc h refs none (s.issuerOk r h || !r.prof.has s.params.profile) = none ∧ (s.ringRead h).2 = .done
    ∧ r.prof.has (s.ringRead h).1.params.profile = true ∧ (s.ringRead h).1.headFails r h = []

/-- The state in which the effect of an accepted packet begins, and the packet as its command holds it: it has left its ring, holds its
references and reply entries, and an A command has been answered ACCEPTED (R368, R370, R376, R403). -/
def State.begun (s : State) (r : Row) (h : Hdr) (refs : List Nat) : State × Pend :=
  ((s.ringRead h).1.takePacket r.opc h true).1.accept ((s.ringRead h).1.takePacket r.opc h true).2 refs

/-- An accepted packet, then its effect. -/
def State.afterAdmission (s : State) (r : Row) (h : Hdr) (refs : List Nat) (f : Pend → State → State) : State :=
  f (s.begun r h refs).2 (s.begun r h refs).1

/-- The control port reaches a register whose write is a command, with the rights to act: the block is in full service and ORIGIN is not
the reserved one (R4, R82). -/
def State.PortOpen (s : State) (rq : Rq) : Prop := s.service = .full ∧ rq.dbg = false ∧ rq.origin ≠ 3

/-- A frame of a KIND passes the six receive checks (R310) and is for session index `si`, its state then `t`; no ACTIVE STOP holds it
(R136). -/
def State.Receives (s : State) (h : RxHdr) (kind si : Nat) (t : State) : Prop :=
  s.rxAccept h kind = (t, some si) ∧ (si = 0 ∨ (t.dt.stops.get Stop.none (si - 1)).active = false)

/-- SPDM requests of a transport are served (R431): the block is in full service and the transport carries SPDM. -/
def State.Serves (s : State) (t : Transport) : Prop := s.service = .full ∧ s.carries t = true

/-- From one state to another no blown fuse bit is lost (R94). -/
def State.OtpKept (s t : State) : Prop := ∀ w i, bit (s.fuseW w) i = true → bit (t.fuseW w) i = true

/-- A safe step: it goes on, the netlist and the fuses as R56 and R94 have them. -/
def State.SafeStep (s : State) : Prop := ∃ t, step s = .next t ∧ t.params = s.params ∧ s.OtpKept t

end Sys2Proof.Machine
end

