-- ==== Sys2Proof/WellFormed.lean ====
section
/-!
DEFINITION. Well-formed commands: every operand fits the field that carries it (a port's payload, a packet's bytes, a message's
bytes) and every number names a port, partition or unit that the largest profile has. A well-formed command may still be refused;
exec gives a meaning to every command, well-formed or not.
-/
namespace Sys2Proof

/-- A requester: ORIGIN of 2 bits, PART of 4 (R82). -/
def Rq.wf (r : Rq) : Bool := decide (r.origin < 4) && decide (r.part < 16)

/-- A register access: 22 address bits (R82); SIZE is 32 or 64 bits, and 32 at the debug port (R85). -/
def Access.wf (a : Access) : Bool :=
  Rq.wf a.rq && decide (a.addr < 2 ^ 22) && (decide (a.size = 32) || (decide (a.size = 64) && !a.rq.dbg))

/-- A transport: a host port's DOE mailbox, or a session of a link. -/
def Transport.wf : Transport → Bool
  | .mgmt => true
  | .doe h => decide (h < 2)
  | .link k si => decide (k < 18) && decide (si < 17)

/-- A path of a packet (R364). -/
def Path.wf : Path → Bool
  | .hostq n => decide (n < 4)
  | .ctxq c q => decide (c < 65535) && decide (q < 8)
  | .mgmt sid => decide (sid < 2 ^ 32)
  | .doe h sid => decide (h < 2) && decide (sid < 2 ^ 32)
  | .carried _ => true

/-- A packet header (R371); a trailer has at most 4 MiB (R374). -/
def Hdr.wf (h : Hdr) : Bool :=
  Path.wf h.path && decide (h.part < 16) && decide (h.size < 4) && decide (h.ctx < 65536) && decide (h.plen < 65536)
    && decide (h.fence < 65536) && h.bad.all (fun n => decide (n < 256))

/-- A memory-stream request (R69): 64-byte aligned, within one sector. -/
def MnReq.wf (q : MnReq) : Bool :=
  decide (q.group < 8) && decide (q.port < 4) && decide (q.addr < 2 ^ 52) && decide (q.addr % 64 = 0) && decide (q.len < 4)
    && decide (q.addr % 256 + 64 * (q.len + 1) ≤ 256) && decide (q.op < 64) && decide (q.tag < 1024) && decide (q.ctx < 65536)

/-- A frame header (R305): a length of 72 to 4,136 bytes. -/
def RxHdr.wf (h : RxHdr) : Bool :=
  decide (h.port < 18) && decide (h.sess < 65536) && decide (h.epoch < 16) && decide (h.tc < 8) && decide (h.seq < 2 ^ 64)
    && decide (h.stamp < 2 ^ 48) && decide (h.entropy < 65536) && decide (h.plen < 65536)

/-- A metadata line (R202): tree levels 1 to 4. -/
def LineId.wf (l : LineId) : Bool :=
  decide (l.group < 8) && decide (l.entry < 2 ^ 21)
    && match l.kind with
      | .node n => decide (1 ≤ n) && decide (n ≤ 4)
      | _ => true

/-- A gate (R224, R225). -/
def Gate.wf : Gate → Bool
  | .fabric k => decide (k < 18)
  | .host h => decide (h < 2)
  | .north n => decide (n < 8)
  | .cdm => true
  | .trace => true

/-- A schedule request (R390). -/
def SchedReq.wf (e : SchedReq) : Bool :=
  decide (e.instant < 2 ^ 64) && decide (e.period < 2 ^ 32) && decide (e.action < 256)

/-- A remote atomic request or query (R268). -/
def RaReq.wf (r : RaReq) : Bool :=
  decide (r.op < 256) && decide (r.src < 65536) && decide (r.dst < 65536) && decide (r.issue < 2 ^ 64) && decide (r.obj < 2 ^ 32)
    && decide (r.gen < 2 ^ 24) && decide (r.offset < 2 ^ 40) && decide (r.data.length < 65536)

/-- A remote atomic reply (R268). -/
def RaRep.wf (r : RaRep) : Bool :=
  decide (r.outcome < 256) && decide (r.src < 65536) && decide (r.dst < 65536) && decide (r.exec < 2 ^ 64)

/-- A remote read or write request (R313). -/
def RwReq.wf (r : RwReq) : Bool :=
  decide (r.src < 65536) && decide (r.dst < 65536) && decide (r.issue < 2 ^ 64) && decide (r.obj < 2 ^ 32) && decide (r.gen < 2 ^ 24)
    && decide (r.offset < 2 ^ 40) && decide (r.length < 65536)

/-- A contribution header (R260). -/
def Contrib.wf (c : Contrib) : Bool :=
  decide (c.fmt < 256) && decide (c.out < 256) && decide (c.n < 65536) && decide (c.cidx < 65536) && decide (c.dest < 65536)
    && decide (c.chunk < 65536) && decide (c.count < 65536) && decide (c.chunkElems < 65536) && decide (c.total < 2 ^ 32)
    && decide (c.destObj < 2 ^ 32) && decide (c.destGen < 2 ^ 24) && decide (c.destSect < 2 ^ 32)

/-- A frame for an egress queue: a payload of 32 to 4,096 bytes (R305). -/
def EgFrame.wf (f : EgFrame) : Bool :=
  decide (f.si < 17) && decide (f.kind < 256) && decide (f.tc < 8) && decide (f.src < 65536) && decide (f.dst < 65536)
    && decide (f.label < 65536) && decide (32 ≤ f.payload.length) && decide (f.payload.length ≤ 4096)

/-- What a KEY_EXCHANGE shows. -/
def KeyEx.wf (x : KeyEx) : Bool := decide (x.sid < 2 ^ 32)

/-- A carriage payload (R434). -/
def Carriage.wf (c : Carriage) : Bool := decide (c.target < 256) && decide (c.offset < 2 ^ 32) && decide (c.msgLen < 2 ^ 32)

/-- A bind record (R436). -/
def Bind.wf (b : Bind) : Bool :=
  decide (b.rxIdx < 65536) && decide (b.member < 65536) && decide (b.part < 256) && decide (b.mseq < 2 ^ 32) && decide (b.major < 65536)
    && decide (b.dtState < 256) && decide (b.port < 256)

/-- A manifest (R437): member numbers of 14 bits. -/
def Manifest.wf (m : Manifest) : Bool :=
  decide (m.mseq < 2 ^ 32) && decide (m.size ≤ 4194304) && m.members.all fun x => decide (x.num < 16384)

/-- An amendment (R444). -/
def Amendment.wf (a : Amendment) : Bool :=
  decide (a.mseq < 2 ^ 32) && decide (a.base < 2 ^ 32) && a.changes.all fun x => decide (x.num < 16384)

/-- A TLP (R335): routing ID of 16 bits, PASID of 20. -/
def Tlp.wf (t : Tlp) : Bool :=
  decide (t.rid < 65536) && decide (t.addr < 2 ^ 64) && t.pasid.all (fun x => decide (x < 2 ^ 20)) && decide (t.tag < 2 ^ 14)
    && t.stream.all (fun x => decide (x < 256))

/-- A translated page (R351). -/
def Page.wf (g : Page) : Bool := decide (g.va < 2 ^ 64) && decide (g.pa < 2 ^ 64) && decide (0 < g.size)

/-- A tile message (R357). -/
def TileMsg.wf (m : TileMsg) : Bool :=
  decide (m.rid < 65536) && decide (m.vid < 65536) && decide (m.tile < 256) && decide (m.ctx < 65536) && decide (m.base < 2 ^ 64)
    && decide (m.rowBytes < 2 ^ 32) && decide (m.pitch < 2 ^ 32) && decide (m.rows < 65536)

/-- A token (R471). -/
def Token.wf (t : Token) : Bool :=
  decide (t.purpose < 256) && decide (t.target < 256) && decide (t.frm < 256) && t.signers.all fun x => decide (x.part < 256)

/-- A well-formed command. -/
def Instr.wf : Instr → Bool
  | .registerWrite a => Access.wf a
  | .cClassCommit window => decide (window < 1024)
  | .powerOn => true
  | .resetNAssert => true
  | .resetNRelease => true
  | .stormHoldExpire => true
  | .warmReqNAssert => true
  | .warmFlushDone => true
  | .warmFlushOverrun => true
  | .fuseSenseDone _ => true
  | .fusePgmDone _ => true
  | .husGenerate => true
  | .userAreaEraseDone _ _ => true
  | .anchorInitDone => true
  | .snowdrop _ svn flashMiB => decide (svn < 2 ^ 32) && decide (flashMiB < 2 ^ 32)
  | .tolaroBootDone => true
  | .rejoinReassign part => decide (part < 16)
  | .watchdogExpire => true
  | .retReqRise => true
  | .retentionFlushDone => true
  | .retReqFall => true
  | .supplyWarnAssert => true
  | .supplyWarnRelease => true
  | .sensorCapture i _ => decide (i < 16)
  | .chipRstReqTimeout => true
  | .powerCycleMessageResend => true
  | .trefLost => true
  | .trefReturn => true
  | .fpLinkUpRise k => decide (k < 18)
  | .fpLinkUpFall k => decide (k < 18)
  | .hcLinkUpFall h => decide (h < 2)
  | .pfenceAckRise q => decide (q < 16)
  | .pfenceAckFall q => decide (q < 16)
  | .engRstAckRise e => decide (e < 32)
  | .engRstAckFall e => decide (e < 32)
  | .cstopAckRise => true
  | .measImage idx _ => decide (idx < 16)
  | .measLockRise => true
  | .measDiscardAfterLock => true
  | .dtEnable rq _ _ => Rq.wf rq
  | .dtDisable rq => Rq.wf rq
  | .syncInterval => true
  | .pdelayReqInterval => true
  | .announceInterval => true
  | .ptpMessage h _ domainNumber sdoId _ => RxHdr.wf h && decide (domainNumber < 256) && decide (sdoId < 4096)
  | .txTimestampReturn k _ => decide (k < 18)
  | .txTimestampTimeout k => decide (k < 18)
  | .syncTimeout => true
  | .holdoverLimitExpire => true
  | .holdoverBoundExpire => true
  | .backupGmTakeover => true
  | .schedCommit i => decide (i < 256)
  | .schedEpoch i => decide (i < 256)
  | .schedResalt i => decide (i < 256)
  | .schedStop i => decide (i < 256)
  | .schedResume i => decide (i < 256)
  | .schedTraceTrig i => decide (i < 256)
  | .schedDump i => decide (i < 256)
  | .schedTrigOut i => decide (i < 256)
  | .trigPulseEnd o => decide (o < 16)
  | .stopMarkerSend k p => decide (k < 18) && decide (p < 16)
  | .stopMarkerRx h origin _ => RxHdr.wf h && decide (origin < 16384)
  | .stopMarkerTimeout p => decide (p < 16)
  | .domainSchedEntryRx h e origin => RxHdr.wf h && SchedReq.wf e && decide (origin < 16384)
  | .domainSchedCancelRx h origin _ => RxHdr.wf h && decide (origin < 16384)
  | .rngStartupPass => true
  | .healthTestWindow _ => true
  | .drbgReseed => true
  | .slotRetireComplete slot _ _ => decide (slot < 4096)
  | .slotRelease slot => decide (slot < 4096)
  | .derivationDone slot obj gen _ => decide (slot < 4096) && decide (obj < 2 ^ 32) && decide (gen < 2 ^ 24)
  | .cceMessageDone _ _ => true
  | .pkeOpDone _ => true
  | .mldsaSignRestart => true
  | .resealRegion p n _ => decide (p < 16) && decide (n < 8)
  | .mnRead q flips _ => MnReq.wf q && decide (flips < 256)
  | .mnWrite q _ _ flips _ => MnReq.wf q && decide (flips < 256)
  | .mnScalarAtomic q _ _ flips mism => MnReq.wf q && decide (flips < 256) && decide (mism < 65536)
  | .mnVectorAccumulate q _ _ flips mism => MnReq.wf q && decide (flips < 256) && decide (mism < 65536)
  | .msReadResponse n port tag _ _ _ => decide (n < 8) && decide (port < 4) && decide (tag < 1024)
  | .msWriteAck n port tag => decide (n < 8) && decide (port < 4) && decide (tag < 1024)
  | .accessVerifyDone _ => true
  | .sectorLockGrant _ => true
  | .metadataWriteBack l => LineId.wf l
  | .anchorPatrol e flips => decide (e < 2 ^ 21) && decide (flips < 256)
  | .anchorRestore e => decide (e < 2 ^ 21)
  | .mergeIdleWriteBack n lbn _ => decide (n < 8) && decide (lbn < 2 ^ 47)
  | .egressRelease g => Gate.wf g
  | .laneGate u => decide (u < 114)
  | .laneWake => true
  | .ratomicRequestRx h r mism => RxHdr.wf h && RaReq.wf r && decide (mism < 65536)
  | .outcomeQueryRx h r => RxHdr.wf h && RaReq.wf r
  | .ratomicReplyRx h r => RxHdr.wf h && RaRep.wf r
  | .ratomicRetry p _ => decide (p < 16)
  | .ratomicDeadline p _ => decide (p < 16)
  | .memoEntryExpire _ src _ => decide (src < 16384)
  | .remoteRwRequestRx h r => RxHdr.wf h && RwReq.wf r
  | .contributionRx h src c _ mism => RxHdr.wf h && decide (src < 16384) && Contrib.wf c && decide (mism < 65536)
  | .contributionAckRx h c _ => RxHdr.wf h && Contrib.wf c
  | .contributionResend p _ cidx chunk => decide (p < 16) && decide (cidx < 65536) && decide (chunk < 65536)
  | .reductionTimeout p _ => decide (p < 16)
  | .resultChunkRx h sw c _ _ _ => RxHdr.wf h && decide (sw < 65536) && Contrib.wf c
  | .resultAckRx h src c _ => RxHdr.wf h && decide (src < 16384) && Contrib.wf c
  | .resultChunkResend p _ chunk => decide (p < 16) && decide (chunk < 65536)
  | .resultChunkGiveUp p _ chunk => decide (p < 16) && decide (chunk < 65536)
  | .resultLedgerExpire _ sw _ chunk => decide (sw < 65536) && decide (chunk < 65536)
  | .sessionSetupStart k si => decide (k < 18) && decide (si < 17)
  | .sessionSetupTimeout k si => decide (k < 18) && decide (si < 17)
  | .sessionRetryBackoff k si => decide (k < 18) && decide (si < 17)
  | .openRx h member => RxHdr.wf h && decide (member < 16384)
  | .closeRx h reason member => RxHdr.wf h && decide (reason < 256) && decide (member < 16384)
  | .closingTimeout k si => decide (k < 18) && decide (si < 17)
  | .lnkEnable rq k => Rq.wf rq && decide (k < 18)
  | .lnkDisable rq k => Rq.wf rq && decide (k < 18)
  | .keepaliveTx k si => decide (k < 18) && decide (si < 17)
  | .keepaliveRx h dtState hseq => RxHdr.wf h && decide (dtState < 256) && decide (hseq < 2 ^ 64)
  | .keepaliveTimeout k si => decide (k < 18) && decide (si < 17)
  | .memberLostNoticeRx h reporter lost dt =>
      RxHdr.wf h && decide (reporter < 16384) && decide (lost < 16384) && decide (dt < 256)
  | .frameEnqueue k f => decide (k < 18) && EgFrame.wf f
  | .frameSeal k => decide (k < 18)
  | .txStall k => decide (k < 18)
  | .coverSlot k => decide (k < 18)
  | .epochCountLimit k si => decide (k < 18) && decide (si < 17)
  | .epochChangeDeferred k si => decide (k < 18) && decide (si < 17)
  | .rxEpochRetire k si => decide (k < 18) && decide (si < 17)
  | .flowEntryTimeout k _ => decide (k < 18)
  | .flowEntryGrant k => decide (k < 18)
  | .getVersion t => Transport.wf t
  | .getCapabilities t => Transport.wf t
  | .negotiateAlgorithms t _ => Transport.wf t
  | .getDigests t => Transport.wf t
  | .getCertificate t slot => Transport.wf t && decide (slot < 256)
  | .challenge t slot => Transport.wf t && decide (slot < 256)
  | .getMeasurements t index sid => Transport.wf t && decide (index < 256) && sid.all (fun x => decide (x < 2 ^ 32))
  | .keyExchange t x => Transport.wf t && KeyEx.wf x
  | .finish t sid _ => Transport.wf t && decide (sid < 2 ^ 32)
  | .endSession t sid => Transport.wf t && decide (sid < 2 ^ 32)
  | .heartbeat t sid => Transport.wf t && decide (sid < 2 ^ 32)
  | .heartbeatLoss t sid => Transport.wf t && decide (sid < 2 ^ 32)
  | .keyUpdate t sid => Transport.wf t && decide (sid < 2 ^ 32)
  | .getCsr t sid => Transport.wf t && sid.all (fun x => decide (x < 2 ^ 32))
  | .setCertificate t sid _ => Transport.wf t && sid.all (fun x => decide (x < 2 ^ 32))
  | .spdmCarriageRx h c => RxHdr.wf h && Carriage.wf c
  | .linkBind k si b _ => decide (k < 18) && decide (si < 17) && Bind.wf b
  | .amend t sid a => Transport.wf t && decide (sid < 2 ^ 32) && Amendment.wf a
  | .amendFetch k si held => decide (k < 18) && decide (si < 17) && decide (held < 2 ^ 32)
  | .provision t sid sub _ => Transport.wf t && decide (sid < 2 ^ 32) && decide (sub < 256)
  | .doeObjectRx h proto lenBytes => decide (h < 2) && decide (proto < 256) && decide (lenBytes < 2 ^ 21)
  | .doeAbort h => decide (h < 2)
  | .configRequestRx h _ func off _ _ => decide (h < 2) && decide (func < 256) && decide (off < 4096)
  | .hostTlpTx h t => decide (h < 2) && Tlp.wf t
  | .hostTlpRx h t => decide (h < 2) && Tlp.wf t
  | .ideKmQuery h sid => decide (h < 2) && decide (sid < 2 ^ 32)
  | .ideKmKeyProg h sid stream _ _ set _ => decide (h < 2) && decide (sid < 2 ^ 32) && decide (stream < 256) && decide (set < 256)
  | .ideKmKSetGo h sid stream _ _ set => decide (h < 2) && decide (sid < 2 ^ 32) && decide (stream < 256) && decide (set < 256)
  | .ideKmKSetStop h sid stream _ _ set => decide (h < 2) && decide (sid < 2 ^ 32) && decide (stream < 256) && decide (set < 256)
  | .getTdispVersion h sid p => decide (h < 2) && decide (sid < 2 ^ 32) && decide (p < 16)
  | .getTdispCapabilities h sid p => decide (h < 2) && decide (sid < 2 ^ 32) && decide (p < 16)
  | .lockInterfaceRequest h sid p => decide (h < 2) && decide (sid < 2 ^ 32) && decide (p < 16)
  | .getDeviceInterfaceReport h sid p => decide (h < 2) && decide (sid < 2 ^ 32) && decide (p < 16)
  | .getDeviceInterfaceState h sid p => decide (h < 2) && decide (sid < 2 ^ 32) && decide (p < 16)
  | .startInterfaceRequest h sid p => decide (h < 2) && decide (sid < 2 ^ 32) && decide (p < 16)
  | .stopInterfaceRequest h sid p => decide (h < 2) && decide (sid < 2 ^ 32) && decide (p < 16)
  | .tdispUnsupportedRequest h sid p => decide (h < 2) && decide (sid < 2 ^ 32) && decide (p < 16)
  | .functionLevelReset h rid => decide (h < 2) && decide (rid < 65536)
  | .translationCompletion h tag _ pages => decide (h < 2) && decide (tag < 1024) && pages.all Page.wf
  | .translationTimeout h tag => decide (h < 2) && decide (tag < 1024)
  | .atsInvalidateRequest h itag rid pasid va len =>
      decide (h < 2) && decide (itag < 32) && decide (rid < 65536) && pasid.all (fun x => decide (x < 2 ^ 20))
       && decide (va < 2 ^ 64) && decide (len < 2 ^ 64)
  | .invalidationComplete h itag => decide (h < 2) && decide (itag < 32)
  | .prgResponse h prg code => decide (h < 2) && decide (prg < 512) && decide (code < 16)
  | .priTimeout prg => decide (prg < 512)
  | .tileOpen h m => decide (h < 2) && TileMsg.wf m
  | .tileClose h m => decide (h < 2) && TileMsg.wf m
  | .submissionDoorbell rq _ ctx queue index => Rq.wf rq && decide (ctx < 65536) && decide (queue < 256) && decide (index < 65536)
  | .replyDoorbell rq _ ctx queue index => Rq.wf rq && decide (ctx < 65536) && decide (queue < 256) && decide (index < 65536)
  | .hostQueueEnable rq n => Rq.wf rq && decide (n < 4)
  | .hostQueueDisable rq n => Rq.wf rq && decide (n < 4)
  | .mailboxSecuredMessage t sid _ _ part _ opcode =>
      Transport.wf t && decide (sid < 2 ^ 32) && decide (part < 16) && decide (opcode < 65536)
  | .storedReplyExpire sid _ => decide (sid < 2 ^ 32)
  | .nop h => Hdr.wf h
  | .identify h => Hdr.wf h
  | .carry h sid recAddr recLen rplAddr rplLen maxReply _ =>
      Hdr.wf h && decide (sid < 2 ^ 32) && decide (recAddr < 2 ^ 64) && decide (recLen < 2 ^ 32) && decide (rplAddr < 2 ^ 64)
       && decide (rplLen < 2 ^ 32) && decide (maxReply < 2 ^ 32)
  | .replyPoll h _ => Hdr.wf h
  | .partAssign h mode stage _ allot merge weight _ _ pbase psize otPlots =>
      Hdr.wf h && decide (mode < 256) && decide (stage < 256) && decide (allot < 256) && decide (merge < 256)
       && decide (weight < 256) && decide (pbase < 2 ^ 64) && decide (psize < 2 ^ 64) && decide (otPlots < 2 ^ 32)
  | .partRelease h _ => Hdr.wf h
  | .partShare h weight => Hdr.wf h && decide (weight < 256)
  | .regionAdd h base size => Hdr.wf h && decide (base < 2 ^ 64) && decide (size < 2 ^ 64)
  | .regionRearm h addr => Hdr.wf h && decide (addr < 2 ^ 64)
  | .partPolicy h _ => Hdr.wf h
  | .manifestStage h stage m => Hdr.wf h && decide (stage < 256) && Manifest.wf m
  | .domainTeardown h => Hdr.wf h
  | .ctxCreate h ctx pasid _ => Hdr.wf h && decide (ctx < 65536) && decide (pasid < 2 ^ 20)
  | .ctxDestroy h ctx => Hdr.wf h && decide (ctx < 65536)
  | .teardownDrainEnd ctx => decide (ctx < 65536)
  | .queueCreate h ctx queue log2 owner sq rq =>
      Hdr.wf h && decide (ctx < 65536) && decide (queue < 256) && decide (log2 < 256) && decide (owner < 256)
       && decide (sq < 2 ^ 64) && decide (rq < 2 ^ 64)
  | .queueDestroy h ctx queue => Hdr.wf h && decide (ctx < 65536) && decide (queue < 256)
  | .objAlloc h plots _ => Hdr.wf h && decide (plots < 2 ^ 32)
  | .objFree h obj gen => Hdr.wf h && decide (obj < 2 ^ 32) && decide (gen < 2 ^ 24)
  | .freeRetire p obj => decide (p < 16) && decide (obj < 2 ^ 32)
  | .objQuery h obj gen => Hdr.wf h && decide (obj < 2 ^ 32) && decide (gen < 2 ^ 24)
  | .ratomic h dst op _ obj gen offset _ _ =>
      Hdr.wf h && decide (dst < 65536) && decide (op < 256) && decide (obj < 2 ^ 32) && decide (gen < 2 ^ 24)
       && decide (offset < 2 ^ 40)
  | .raccum h dst op _ obj gen offset srcObj srcGen srcOff _ _ =>
      Hdr.wf h && decide (dst < 65536) && decide (op < 256) && decide (obj < 2 ^ 32) && decide (gen < 2 ^ 24)
       && decide (offset < 2 ^ 40) && decide (srcObj < 2 ^ 32) && decide (srcGen < 2 ^ 24) && decide (srcOff < 2 ^ 40)
  | .outcomeQuery h dst _ issue => Hdr.wf h && decide (dst < 65536) && decide (issue < 2 ^ 64)
  | .outcomeQueryResend p _ => decide (p < 16)
  | .reduceContrib h kind c sw srcObj srcGen srcOff _ _ =>
      Hdr.wf h && decide (kind < 256) && Contrib.wf c && decide (sw < 65536) && decide (srcObj < 2 ^ 32)
       && decide (srcGen < 2 ^ 24) && decide (srcOff < 2 ^ 40)
  | .fenceCreate h _ => Hdr.wf h
  | .fenceSignal h fence error => Hdr.wf h && decide (fence < 65536) && decide (error < 256)
  | .fenceWait h fence => Hdr.wf h && decide (fence < 65536)
  | .fenceReset h fence => Hdr.wf h && decide (fence < 65536)
  | .fenceDestroy h fence => Hdr.wf h && decide (fence < 65536)
  | .fenceShare h fence ctx => Hdr.wf h && decide (fence < 65536) && decide (ctx < 65536)
  | .domainFenceSignalRx h op error origin index _ stamp _ =>
      RxHdr.wf h && decide (op < 256) && decide (error < 256) && decide (origin < 16384) && decide (index < 4096)
       && decide (stamp < 2 ^ 64)
  | .keyReseal h => Hdr.wf h
  | .keyAttest h slot _ => Hdr.wf h && decide (slot < 65536)
  | .keyControlGen h _ _ _ => Hdr.wf h
  | .keyImport h _ _ _ _ => Hdr.wf h
  | .keyWrap h slot wrapSlot => Hdr.wf h && decide (slot < 65536) && decide (wrapSlot < 65536)
  | .keyUnwrap h wrapSlot _ => Hdr.wf h && decide (wrapSlot < 65536)
  | .keyRetire h slot => Hdr.wf h && decide (slot < 65536)
  | .cceOp _ h slot mode _ _ len _ _ => Hdr.wf h && decide (slot < 65536) && decide (mode < 256) && decide (len < 65536)
  | .saSeed h slot => Hdr.wf h && decide (slot < 65536)
  | .saStep h _ => Hdr.wf h
  | .schedArm h e => Hdr.wf h && SchedReq.wf e
  | .schedCancel h _ _ => Hdr.wf h
  | .cntRead h scope index => Hdr.wf h && decide (scope < 256) && decide (index < 65536)
  | .traceCfg h ring base log2KiB mode post _ =>
      Hdr.wf h && decide (ring < 65536) && decide (base < 2 ^ 64) && decide (log2KiB < 256) && decide (mode < 256)
       && decide (post < 2 ^ 32)
  | .traceStart h ring => Hdr.wf h && decide (ring < 65536)
  | .traceStop h ring => Hdr.wf h && decide (ring < 65536)
  | .traceTriggerNow h ring => Hdr.wf h && decide (ring < 65536)
  | .traceReleaseFreeze h ring => Hdr.wf h && decide (ring < 65536)
  | .traceSectorTimeout p ring => decide (p < 16) && decide (ring < 65536)
  | .tensorReg h _ base len => Hdr.wf h && decide (base < 2 ^ 64) && decide (len < 2 ^ 64)
  | .dumpChunkCapture p _ _ => decide (p < 16)
  | .dumpStepTimeout p i => decide (p < 16) && decide (i < 256)
  | .pressRead h _ count => Hdr.wf h && decide (count < 65536)
  | .pressRelease h => Hdr.wf h
  | .pressFlush => true
  | .rstContext h ctx => Hdr.wf h && decide (ctx < 65536)
  | .rstEngine h engine => Hdr.wf h && decide (engine < 256)
  | .rstPartition h => Hdr.wf h
  | .rstWarm h => Hdr.wf h
  | .rstChip h => Hdr.wf h
  | .pwrCycle h => Hdr.wf h
  | .escalationDeadline step target => decide (step < 5) && decide (target < 65536)
  | .scrubStepDone p => decide (p < 16)
  | .zeroFillRegion p e => decide (p < 16) && decide (e < 2 ^ 21)
  | .lcTransition h target token => Hdr.wf h && decide (target < 256) && token.all Token.wf
  | .dbgChallenge h level => Hdr.wf h && decide (level < 256)
  | .dbgToken h token => Hdr.wf h && Token.wf token
  | .challengeExpire => true
  | .debugHalt rq _ => Rq.wf rq
  | .debugStep rq => Rq.wf rq
  | .sgEnable rq n => Rq.wf rq && decide (n < 8)
  | .sgDisable rq n => Rq.wf rq && decide (n < 8)
  | .allocDoorbell rq slot plots _ ctx => Rq.wf rq && decide (slot < 64) && decide (plots < 2 ^ 32) && decide (ctx < 65536)
  | .allocDoorbellDone p slot => decide (p < 16) && decide (slot < 64)
  | .faultQueueDoorbell rq ctx head => Rq.wf rq && decide (ctx < 65536) && decide (head < 2 ^ 32)
  | .contextRestore ctx => decide (ctx < 65536)
  | .obsMark rq ctx layer op => Rq.wf rq && decide (ctx < 65536) && decide (layer < 65536) && decide (op < 65536)
  | .quantisationInstant => true
  | .setEndpointId eid sender => decide (eid < 256) && decide (sender < 256)
  | .getEndpointId => true
  | .getEndpointUuid => true
  | .getMctpVersionSupport => true
  | .getMessageTypeSupport => true
  | .entdaa addr => decide (addr < 128)
  | .hotJoinRequest => true
  | .setMaxLength _ len => decide (len < 65536)
  | .cstopAckFall => true
  | .warmReqNRelease => true
  | .vddRetRemove => true
  | .hcLinkUpRise h => decide (h < 2)
  | .frameRxDiscard h kind => RxHdr.wf h && decide (kind < 256)
  | .frameRoute h outPort f => RxHdr.wf h && decide (outPort < 18) && EgFrame.wf f
  | .lockstepMismatch => true

end Sys2Proof
end

