-- ==== Sys2Proof/Certificates/Slice0/Obligations.lean ====
section
/-!
DEFINITION. The statements for the provers. Each docstring names the rules it formalises; a clause that rests on a choice of the
model says so and names the log entry.
-/
open Sys2Proof Sys2Proof.Machine

/-! The step, the whole machine and reset. -/

/-- The command at the front of the queue runs with the queue's rest; the outputs of the step before are gone (log entries 3, 10). -/
def Obligations.StepRunsFrontCommand : Prop :=
  ∀ (c : Instr) (rest : List Instr) (s : State), s.pending = c :: rest →
    step s = exec c { s with pending := rest, out := [] }

/-- The integration parameters are fixed when the netlist is built: whatever the state and the command, a step leaves them as they are, and a
read of GLB_CONFIG in service gives its word, whose fields are the counts and the anchor span (R56). -/
def Obligations.NetlistParametersFixed : Prop :=
  (∀ s t : State, step s = .next t → t.params = s.params)
    ∧ (∀ s : State, s.service ≠ .off →
      ∃ t, exec (.registerWrite { rq := ⟨false, 0, 0⟩, write := false, addr := 0x8, size := 32, wdata := 0 }) s = .next t
        ∧ t.out = s.out ++ [.ctl (s.glbConfig.setWidth 64) false])
    ∧ ∀ s : State, s.params.sgCount ≤ 8 → s.params.fpCount ≤ 18 → s.params.hcCount ≤ 2 →
      bits s.glbConfig 3 0 = s.params.sgCount ∧ bits s.glbConfig 8 4 = s.params.fpCount ∧ bits s.glbConfig 10 9 = s.params.hcCount
        ∧ bit s.glbConfig 11 = s.params.span8

/-- OTP bits cannot return to 0: no step, whatever the command and the state, loses a blown fuse bit (R459). -/
def Obligations.BlownFuseBitsStayBlown : Prop := ∀ s t : State, step s = .next t → s.OtpKept t

/-- The fuse array keeps its canonical form (rising word addresses, no word listed that reads 0) on every step. -/
def Obligations.FuseArrayStaysCanonical : Prop :=
  ∀ s t : State, Tab.wf 0 s.fuse = true → step s = .next t → Tab.wf 0 t.fuse = true

/-- No command writes the queue or the time base; an idle step leaves the queue and takes the time base at most one TREF period further, in
reset exactly one (log entry 3). -/
def Obligations.CommandsLeaveQueueAndTimeBase : Prop :=
  (∀ (c : Instr) (s t : State), exec c s = .next t → t.pending = s.pending ∧ t.tref = s.tref)
    ∧ ∀ s t : State, s.pending = [] → step s = .next t → t.pending = [] ∧ s.tref ≤ t.tref ∧ t.tref ≤ s.tref + 1 ∧ t.fuse = s.fuse
      ∧ t.boot = s.boot ∧ (s.service = .off → t.tref = s.tref + 1)

/-- Every command and the idle step answer a next state: nothing that the spec's table lists stops the block. -/
def Obligations.EveryStepGoesOn : Prop := (∀ s : State, ∃ t, step s = .next t) ∧ ∀ (c : Instr) (s : State), ∃ t, exec c s = .next t

/-- The machine right after a power-on reset, as far as the spec gives the values: the queue is empty, domain time is OFF with its counter 0 (R108,
R117), every slot EMPTY and every partition FREE, the outputs of the reset map at their values before sensing (R97), BLOCK_READY and CHIP_RST_REQ
low, the broadcast time, the fuse program pulse, the flash, management-bus and measurement outputs as R67 lists them, and the arrays that hold
no entry canonical.
Where a clause goes beyond the spec's words it is the model's choice (log entries 5, 6). -/
def Obligations.ResetLeavesSpecifiedValues : Prop :=
  State.reset.pending = [] ∧ State.reset.dt.st = 0 ∧ State.reset.dt.cnt = 0
    ∧ (∀ n, State.reset.slot n = Slot.empty) ∧ (∀ p, State.reset.pst p = 0)
    ∧ State.reset.pins.trigOut = 0 ∧ State.reset.pins.pfenceReq = 0xFFFF ∧ State.reset.pins.engReq = 0xFFFFFFFF
    ∧ State.reset.pins.cstop = true ∧ State.reset.pins.blockReady = false ∧ State.reset.pins.chipRstReq = false
    ∧ State.reset.level .dtBcast = 0 ∧ State.reset.level .dtBcastLock = 0 ∧ State.reset.level .fusePgm = 0
    ∧ State.reset.level .xspiSck = 0 ∧ State.reset.level .xspiCsN = 1 ∧ State.reset.level .xspiRstN = 0
    ∧ State.reset.level .xspiDqOut = 0 ∧ State.reset.level .xspiDqOe = 0
    ∧ State.reset.level .i3cSdaOut = 0 ∧ State.reset.level .i3cSdaOe = 0 ∧ State.reset.level .measReady = 0
    ∧ Tab.wf 0 State.reset.fuse = true

/-- The commands that may change bring-up, life-cycle or debug state: resets, boot, fuse and debug commands, the commands whose checks can end in a
breach halt or a critical-state error, and the accesses that can. -/
def touchesLifeCycle : Instr → Bool
  | .registerWrite _ | .powerOn | .resetNAssert | .resetNRelease | .stormHoldExpire | .warmReqNAssert | .warmFlushDone
  | .warmFlushOverrun | .fuseSenseDone _ | .fusePgmDone _ | .husGenerate | .userAreaEraseDone _ _ | .anchorInitDone | .snowdrop _ _ _
  | .tolaroBootDone | .watchdogExpire | .retReqRise | .retentionFlushDone | .retReqFall | .supplyWarnRelease | .sensorCapture _ _
  | .chipRstReqTimeout | .trefReturn | .healthTestWindow _ | .slotRetireComplete _ _ _ | .derivationDone _ _ _ _ | .cceMessageDone _ _
  | .pkeOpDone _ | .resealRegion _ _ _ | .accessVerifyDone _ | .metadataWriteBack _ | .mailboxSecuredMessage _ _ _ _ _ _ _
  | .rstWarm _ | .rstChip _ | .pwrCycle _ | .escalationDeadline _ _ | .lcTransition _ _ _ | .dbgChallenge _ _ | .dbgToken _ _
  | .challengeExpire | .debugHalt _ _ | .debugStep _ | .vddRetRemove | .lockstepMismatch => true
  | _ => false

/-- No other command changes bring-up, life-cycle or debug state, and none of those others programs a fuse: the life-cycle state, the debug
authorisation, the challenge and the breach halt move only under the commands that the rules name. -/
def Obligations.LifeCycleStateMovesOnlyUnderItsCommands : Prop :=
  ∀ (c : Instr) (s t : State), touchesLifeCycle c = false → exec c s = .next t → t.boot = s.boot ∧ t.fuse = s.fuse

/-! Command packets. `s.Accepts row h refs` says that the packet with header `h` is admitted under its row of R382 (opcode, issuers, profiles,
PLEN of its parameters, least SIZE, trailer); `s.afterAdmission row h refs f` is the state in which its effect `f` has run on the admitted
packet. Whatever `f` does not name is as admission left it. -/

/-- Admission in general (R24, R372, R375 to R377): where the block admits nothing or the path is not there, a packet changes nothing; one that
waits only shows why in its queue's WAIT; one that fails a check gets its refusal, with the lowest code of all checks that fail, one whose
entries a DEVICE-owned ring would not give the failure of that read, and one whose opcode the profile has not BAD_OPCODE; any other packet's
effect runs.
Where a clause goes beyond the spec's words it is the model's choice (log entries 13, 14). -/
def Obligations.AdmissionEndsInOneOfFourWays : Prop :=
  ∀ (s : State) (r : Row) (h : Hdr) (refs : List Nat) (hold : Option Nat) (fails : List Fail) (act : Pend → State → State),
    (s.admits = false ∨ s.pathOpen h.path = false → s.admitWith r h refs hold fails act = s)
    ∧ (s.admits = true → s.pathOpen h.path = true → ∀ w,
        s.admitWait r.opc h refs hold (s.issuerOk r h || !r.prof.has s.params.profile) = some w → s.admitWith r h refs hold fails act = s.hold w h refs)
    ∧ (s.admits = true → s.pathOpen h.path = true →
        s.admitWait r.opc h refs hold (s.issuerOk r h || !r.prof.has s.params.profile) = none →
        ∀ t, s.ringRead h = (t, .done) → r.prof.has t.params.profile = true → t.headFails r h ++ fails ≠ [] → (∀ x ∈ fails, x.1 ≠ .done) →
        ∃ st off, st ≠ .done ∧ st ∈ (t.headFails r h ++ fails).map (fun x => x.1)
          ∧ (∀ x ∈ t.headFails r h ++ fails, stCode st ≤ stCode x.1)
          ∧ s.admitWith r h refs hold fails act
            = ((t.takePacket r.opc h (decide (st ≠ .refusedIssuer))).1.reserve 1 h.path).refuse
                (t.takePacket r.opc h (decide (st ≠ .refusedIssuer))).2 (st, off))
    ∧ (s.admits = true → s.pathOpen h.path = true →
        s.admitWait r.opc h refs hold (s.issuerOk r h || !r.prof.has s.params.profile) = none →
        ∀ t st, s.ringRead h = (t, st) → (st ≠ .done ∨ r.prof.has t.params.profile = false) →
        s.admitWith r h refs hold fails act
          = ((t.takePacket r.opc h (decide ((if st ≠ .done then st else .badOpcode) ≠ .refusedIssuer))).1.reserve 1 h.path).refuse
              (t.takePacket r.opc h (decide ((if st ≠ .done then st else .badOpcode) ≠ .refusedIssuer))).2
              (if st ≠ .done then st else .badOpcode, 0xFF))
    ∧ (s.Accepts r h refs → hold = none → fails = [] → s.admitWith r h refs hold fails act = s.afterAdmission r h refs act)

/-- Class 0x00 (R380 to R382): NOP and IDENTIFY complete with DONE, IDENTIFY with the release, profile and configuration words and the member
number; REPLY_POLL returns the stored reply of its sequence number; CARRY of a record that opens puts its inner packet on its way.
Where a clause goes beyond the spec's words it is the model's choice (log entry 44). -/
def Obligations.GeneralPacketsComplete : Prop :=
  (∀ (s : State) (h : Hdr), s.Accepts ⟨0x0000, [.mgmt, .host, .tenant, .device], .all, 0, 0, false⟩ h [] →
    exec (.nop h) s = .next (s.afterAdmission ⟨0x0000, [.mgmt, .host, .tenant, .device], .all, 0, 0, false⟩ h [] fun p t => t.ok p 0))
  ∧ (∀ (s : State) (h : Hdr), s.Accepts ⟨0x0001, [.mgmt, .host, .tenant, .device], .all, 0, 0, false⟩ h [] →
    exec (.identify h) s = .next (s.afterAdmission ⟨0x0001, [.mgmt, .host, .tenant, .device], .all, 0, 0, false⟩ h [] fun p t =>
      t.ok p (0x00040002 + t.glbProfile.toNat * 2 ^ 32 + t.glbConfig.toNat * 2 ^ 64 + t.memberOf h.part * 2 ^ 96)))
  ∧ (∀ (s : State) (h : Hdr) (seq : Word), s.Accepts ⟨0x0003, [.mgmt, .host, .tenant], .all, 4, 0, false⟩ h [] →
    ∀ (sid : Nat) (r : Reply), (s.begun ⟨0x0003, [.mgmt, .host, .tenant], .all, 4, 0, false⟩ h []).1.pollSid h.path = some sid →
      ((s.begun ⟨0x0003, [.mgmt, .host, .tenant], .all, 4, 0, false⟩ h []).1.cmd.stored.find?
        fun x => decide (x.1 = sid) && decide (x.2.seq = seq)) = some (sid, r) →
      exec (.replyPoll h seq) s = .next (s.afterAdmission ⟨0x0003, [.mgmt, .host, .tenant], .all, 4, 0, false⟩ h [] fun p t =>
        t.complete [{ p.ends .done with stored := some r }]))
  ∧ (∀ (s : State) (h : Hdr) (sid ra rl pa pl mx : Nat), s.Accepts ⟨0x0002, [.host, .device], .all, 28, 0, false⟩ h [] → mx ≤ pl →
      ((s.begun ⟨0x0002, [.host, .device], .all, 28, 0, false⟩ h []).1.cmd.sessions.any fun x => decide (x.sid = sid) && x.live) = true →
    exec (.carry h sid ra rl pa pl mx true) s = .next (s.afterAdmission ⟨0x0002, [.host, .device], .all, 28, 0, false⟩ h [] fun p t =>
      t.modCmd fun c => { c with carries := c.carries ++ [{ id := c.carryNo, p := p, sid := sid, rplAddr := pa, rplLen := pl }],
                                 carryNo := c.carryNo + 1 }))

/-- Class 0x01 (R284, R386, R387, R440, R442, R501): partitions. PART_ASSIGN of a FREE partition takes its share, its regions and its memory key and
leaves it LOCAL, or in BOUND and on its way to JOINED with a staged manifest; PART_RELEASE and DOMAIN_TEARDOWN start the scrub (a FREE partition has no
release, and one without a manifest no teardown); the others change what their parameter names.
Where a clause goes beyond the spec's words it is the model's choice (log entries 23, 33, 34). -/
def Obligations.PartitionPacketsComplete : Prop :=
  (∀ (s : State) (h : Hdr) (strict : Bool) (allot merge weight : Nat) (mdc dkc : BitVec 16) (pbase psize ot : Nat) (es : List Nat),
    let r : Rejoin := { man := none, amends := [], policy := 4, strict := strict, allot := allot, merge := merge, weight := weight, mdc := mdc,
                        dkc := dkc, pbase := pbase, psize := psize, otPlots := ot, added := [], lcAt := s.boot.lc }
    s.Accepts ⟨0x0101, [.mgmt, .host], .all, 30, 0, false⟩ h [] → s.pst h.part = 0 → s.params.profile ≠ .s → s.key.rngReady = true →
    s.shareOk h.part r = true → s.rangeEntries pbase psize = some es → s.allUnowned es = true → 1 ≤ ot → ot ≤ psize / 65536 →
    s.canTake h.part 1 = true → s.dfFits none = true → s.recordFits none = true → s.boot.dbgAuth ≠ 2 →
    ∀ u : State, ((s.begun ⟨0x0101, [.mgmt, .host], .all, 30, 0, false⟩ h []).1.eraseRecord h.part).assignNew h.part r = (u, .done) →
    exec (.partAssign h 0 0 strict allot merge weight mdc dkc pbase psize ot) s
      = .next ((u.tryJoin h.part).ok (s.begun ⟨0x0101, [.mgmt, .host], .all, 30, 0, false⟩ h []).2 es.length))
  ∧ (∀ (s : State) (h : Hdr) (strict : Bool) (allot merge weight : Nat) (mdc dkc : BitVec 16) (stage : Nat) (m : Manifest),
    let r : Rejoin := { man := some m, amends := [], policy := m.policy.setWidth 3, strict := strict, allot := allot, merge := merge, weight := weight,
                        mdc := mdc, dkc := dkc, pbase := 0, psize := 0, otPlots := 0, added := [], lcAt := s.boot.lc }
    s.Accepts ⟨0x0101, [.mgmt, .host], .all, 30, 0, false⟩ h [] → s.pst h.part = 0 → s.params.profile = .s → 1 ≤ stage → stage ≤ 4 →
    s.stage stage = some m → (s.ownMember m).isSome = true → s.partOfDomain m.domain = none → s.shareOk h.part r = true →
    s.dfFits (some m) = true → s.recordFits (some m) = true → s.boot.dbgAuth ≠ 2 →
    ∀ u : State, (((s.begun ⟨0x0101, [.mgmt, .host], .all, 30, 0, false⟩ h []).1.eraseRecord h.part).modCmd fun c =>
        { c with stages := c.stages.set none stage none }).assignNew h.part r = (u, .done) →
    exec (.partAssign h 1 stage strict allot merge weight mdc dkc 0 0 0) s
      = .next ((u.tryJoin h.part).ok (s.begun ⟨0x0101, [.mgmt, .host], .all, 30, 0, false⟩ h []).2 0))
  ∧ (∀ (s : State) (h : Hdr) (z : Bool), s.Accepts ⟨0x0102, [.mgmt, .host], .all, 1, 0, false⟩ h [] → s.pst h.part ≠ 0 →
    exec (.partRelease h z) s = .next (s.afterAdmission ⟨0x0102, [.mgmt, .host], .all, 1, 0, false⟩ h [] fun p t => t.partStep h.part [p] z))
  ∧ (∀ (s : State) (h : Hdr) (w : Nat), s.Accepts ⟨0x0103, [.mgmt, .host], .am, 1, 0, false⟩ h [] → s.pst h.part ≠ 0 →
    exec (.partShare h w) s = .next (s.afterAdmission ⟨0x0103, [.mgmt, .host], .am, 1, 0, false⟩ h [] fun p t =>
      (t.modShare fun x => { x with weightNew := t.groups.foldl (fun y n => y.put (16 * n + h.part) (some (w % 256))) x.weightNew }).ok p 0))
  ∧ (∀ (s : State) (h : Hdr) (base size : Nat) (es : List Nat), s.Accepts ⟨0x0104, [.mgmt, .host], .am, 16, 0, false⟩ h [] →
      (s.pst h.part = 1 ∨ s.pst h.part = 2 ∨ s.pst h.part = 3) → s.rangeEntries base size = some es → s.allUnowned es = true →
    exec (.regionAdd h base size) s = .next (s.afterAdmission ⟨0x0104, [.mgmt, .host], .am, 16, 0, false⟩ h [] fun p t =>
      ((each es (State.ownRegion h.part) (t.modPart h.part fun x => { x with added := x.added ++ [(base, size)] })).writeRecord h.part).ok p es.length))
  ∧ (∀ (s : State) (h : Hdr) (addr e : Nat), s.Accepts ⟨0x0105, [.tenant, .device], .am, 8, 0, false⟩ h [] → s.regionAt addr = some e →
      (s.anchor e).st = 2 → (s.anchor e).part = h.part → (s.anchor e).counter = 0 → (s.reseal h.part).active = false →
    exec (.regionRearm h addr) s = .next (s.afterAdmission ⟨0x0105, [.tenant, .device], .am, 8, 0, false⟩ h [] fun p t =>
      (((t.dropRegion e).modSg fun g => { g with merge := g.merge.filter fun m => decide (m.entry ≠ e) }).setAnchor e
        { t.anchor e with st := 1, counter := 0, err := 0, full := false }).ok p 0))
  ∧ (∀ (s : State) (h : Hdr) (pol : BitVec 8), s.Accepts ⟨0x0106, [.tenant], .all, 1, 0, false⟩ h [] → pol.toNat < 8 →
    exec (.partPolicy h pol) s = .next (s.afterAdmission ⟨0x0106, [.tenant], .all, 1, 0, false⟩ h [] fun p t =>
      ((t.setPolicy h.part (bit pol 0) (bit pol 1) (bit pol 2)).writeRecord h.part).ok p 0))
  ∧ (∀ (s : State) (h : Hdr) (stage : Nat) (m : Manifest), s.Accepts ⟨0x0107, [.mgmt, .host, .tenant], .all, 1, 0, true⟩ h [] →
      1 ≤ stage → stage ≤ 4 → 0 < h.trailer → s.pair rCmdStageBase ≠ 0 →
      (s.begun ⟨0x0107, [.mgmt, .host, .tenant], .all, 1, 0, true⟩ h []).1.manifestCheck m = .done →
    exec (.manifestStage h stage m) s = .next (s.afterAdmission ⟨0x0107, [.mgmt, .host, .tenant], .all, 1, 0, true⟩ h [] fun p t =>
      (t.modCmd fun c => { c with stages := c.stages.set none stage (some m) }).ok p 0))
  ∧ (∀ (s : State) (h : Hdr), s.Accepts ⟨0x0108, [.tenant], .all, 0, 0, false⟩ h [] → (s.part h.part).man.isSome = true →
    exec (.domainTeardown h) s = .next (s.afterAdmission ⟨0x0108, [.tenant], .all, 0, 0, false⟩ h [] fun p t =>
      (t.closePart h.part 4).partStep h.part [p] false))

/-- Class 0x02 (R366, R367, R388, R393, R415): CTX_CREATE makes a LIVE context whose context object is allocated (not in the S-profile), CTX_DESTROY
puts a context into TEARDOWN, QUEUE_CREATE makes a queue over its two rings, QUEUE_DESTROY destroys one.
Where a clause goes beyond the spec's words it is the model's choice (log entry 54). -/
def Obligations.ContextPacketsComplete : Prop :=
  (∀ (s : State) (h : Hdr) (ctx pasid : Nat) (pv : Bool), s.Accepts ⟨0x0201, [.host], .all, 6, 0, false⟩ h [] → ctx ≠ 0xFFFF →
      (s.ctx ctx).st = 0 → s.pst h.part ≠ 0 → s.pst h.part ≠ 5 → s.params.profile = .s → s.obju.ctxs.length < 1024 →
    exec (.ctxCreate h ctx pasid pv) s = .next (s.afterAdmission ⟨0x0201, [.host], .all, 6, 0, false⟩ h [] fun p t =>
      ((t.makeRoom.1.modCtx ctx fun _ =>
        { Ctx.free with st := 1, resident := t.makeRoom.2, part := h.part, pasid := if pv then some pasid else none }).touchCtx ctx).ok p ctx))
  ∧ (∀ (s : State) (h : Hdr) (ctx pasid : Nat) (pv : Bool) (u : State) (i g x : Nat),
      s.Accepts ⟨0x0201, [.host], .all, 6, 0, false⟩ h [] → ctx ≠ 0xFFFF → (s.ctx ctx).st = 0 → s.pst h.part ≠ 0 → s.pst h.part ≠ 5 →
      s.params.profile ≠ .s → (s.wouldAlloc h.part 1).isSome = true →
      (s.begun ⟨0x0201, [.host], .all, 6, 0, false⟩ h []).1.alloc h.part 1 ctx false true = (u, .ok (i, g, x)) →
    exec (.ctxCreate h ctx pasid pv) s
      = .next (((u.makeRoom.1.modCtx ctx fun _ =>
          { Ctx.free with st := 1, resident := u.makeRoom.2, part := h.part, obj := i, base := 65536 * x, pasid := if pv then some pasid else none }
          ).touchCtx ctx).ok (s.begun ⟨0x0201, [.host], .all, 6, 0, false⟩ h []).2 ctx))
  ∧ (∀ (s : State) (h : Hdr) (ctx : Nat), s.Accepts ⟨0x0202, [.host, .device], .all, 2, 0, false⟩ h [] → ctx < 0xFFFF → (s.ctx ctx).resident = true →
      (s.ctx ctx).st ≠ 0 → (s.ctx ctx).st ≠ 3 → (s.ctx ctx).part = h.part →
    exec (.ctxDestroy h ctx) s = .next (s.afterAdmission ⟨0x0202, [.host, .device], .all, 2, 0, false⟩ h [] fun p t =>
      ((((((t.modCtx ctx fun k => { k with st := 3 }).modObju fun o => { o with tear := o.tear ++ [(ctx, p)] }).modRst
        fun r => { r with steps := r.steps ++ [.context ctx none] }).discardQueues ctx).tilesFenced h.part fun x => decide (x.ctx = ctx)).drainCtx ctx)))
  ∧ (∀ (s : State) (h : Hdr) (ctx queue log2 sq rq : Nat), s.Accepts ⟨0x0203, [.host], .all, 24, 0, false⟩ h [] → ctx < 0xFFFF →
      (s.ctx ctx).resident = true → (s.ctx ctx).st ≠ 0 → (s.ctx ctx).st ≠ 3 → (s.ctx ctx).part = h.part → queue < 8 →
      (s.queue (16 + 8 * ctx + queue)).valid = false → 4 ≤ log2 → log2 ≤ 16 → sq % max (64 * 2 ^ log2) 4096 = 0 →
      rq % max (32 * 2 ^ log2) 4096 = 0 → s.ringOk h.part 1 sq (64 * 2 ^ log2) = true → s.ringOk h.part 1 rq (32 * 2 ^ log2) = true →
      s.pinWait h.part [] = false →
    exec (.queueCreate h ctx queue log2 1 sq rq) s = .next (s.afterAdmission ⟨0x0203, [.host], .all, 24, 0, false⟩ h [] fun p t =>
      (t.modQueue (16 + 8 * ctx + queue) fun _ =>
        { Queue.none with valid := true, owner := 1, log2 := log2, sq := sq, rq := rq, phase := true, rings := false }).ok p 0))
  ∧ (∀ (s : State) (h : Hdr) (ctx queue : Nat), s.Accepts ⟨0x0204, [.host], .all, 3, 0, false⟩ h [] → ctx < 0xFFFF → (s.ctx ctx).resident = true →
      (s.ctx ctx).st ≠ 0 → (s.ctx ctx).st ≠ 3 → (s.ctx ctx).part = h.part → queue < 8 → (s.queue (16 + 8 * ctx + queue)).valid = true →
      (s.queue (16 + 8 * ctx + queue)).destroying = false →
    exec (.queueDestroy h ctx queue) s = .next (s.afterAdmission ⟨0x0204, [.host], .all, 3, 0, false⟩ h [] fun p t =>
      t.destroyQueue (.ctxq ctx queue) (some p)))

/-- Class 0x03 on objects (R396, R398, R404, R382): OBJ_ALLOC answers the handle and address of its allocation, OBJ_FREE puts the entry into
FREEING, OBJ_QUERY answers size and address. -/
def Obligations.ObjectPacketsComplete : Prop :=
  (∀ (s : State) (h : Hdr) (plots : Nat) (shared : Bool) (u : State) (i g x : Nat),
      s.Accepts ⟨0x0301, [.device, .tenant], .am, 5, 0, false⟩ h [] → 0 < plots → plots ≤ 0xFFFFFF → (s.wouldAlloc h.part plots).isSome = true →
      (s.begun ⟨0x0301, [.device, .tenant], .am, 5, 0, false⟩ h []).1.alloc h.part plots h.ctx shared false = (u, .ok (i, g, x)) →
    exec (.objAlloc h plots shared) s
      = .next (u.ok (s.begun ⟨0x0301, [.device, .tenant], .am, 5, 0, false⟩ h []).2 (i + g * 2 ^ 32 + 65536 * x * 2 ^ 64)))
  ∧ (∀ (s : State) (h : Hdr) (obj gen : Nat), s.Accepts ⟨0x0302, [.device, .tenant], .am, 7, 0, false⟩ h [] → s.handleFails h obj gen 16 = [] →
    exec (.objFree h obj gen) s = .next (s.afterAdmission ⟨0x0302, [.device, .tenant], .am, 7, 0, false⟩ h [] fun p t =>
      t.modObj h.part obj fun x => { x with st := 2, free := some p }))
  ∧ (∀ (s : State) (h : Hdr) (obj gen : Nat), s.Accepts ⟨0x0303, [.device, .tenant], .am, 7, 0, false⟩ h [] → s.handleFails h obj gen 16 = [] →
    exec (.objQuery h obj gen) s = .next (s.afterAdmission ⟨0x0303, [.device, .tenant], .am, 7, 0, false⟩ h [] fun p t =>
      t.ok p ((t.obj h.part obj).plots + 65536 * (t.obj h.part obj).first * 2 ^ 32)))

/-- Class 0x03 on other members (R268, R270, R273, R383, R384): RATOMIC and RACCUM take the partition's next TXID and leave an outstanding operation
with its request sent, OUTCOME_QUERY an outstanding query, REDUCE_CONTRIB an outstanding contribution. A source that cannot be read ends RACCUM and
REDUCE_CONTRIB with the status of the read (R384, R535).
Where a clause goes beyond the spec's words it is the model's choice (log entries 26, 54). -/
def Obligations.RemotePacketsComplete : Prop :=
  (∀ (s : State) (h : Hdr) (dst op : Nat) (attr : BitVec 8) (obj gen offset : Nat) (x y : BitVec 128),
      s.Accepts ⟨0x0310, [.device], .a, 48, 0, false⟩ h [] → s.atomicsOut < 65536 → 0x10 ≤ op → op ≤ 0x16 → scalarOk op attr = true →
      offset % sizeBytes (bits attr 1 0) = 0 → s.isLost h.part dst = false → (sizeBytes (bits attr 1 0) ≠ 16 ∨ s.featureOn h.part dst 1 = true) →
    exec (.ratomic h dst op attr obj gen offset x y) s = .next (s.afterAdmission ⟨0x0310, [.device], .a, 48, 0, false⟩ h [] fun p t =>
      ((t.takeTxid h.part).newOp
        { part := h.part, p := p, query := false, op := op, attr := attr, dst := dst, txid := (t.part h.part).txid, issue := t.now, obj := obj,
          gen := gen, offset := offset, data := leBytes 16 x.toNat ++ leBytes 16 y.toNat, sent := 1, src := none }).cntr h.part 16 1))
  ∧ (∀ (s : State) (h : Hdr) (dst op : Nat) (attr : BitVec 8) (obj gen offset so sg sf size : Nat) (src : List Byte),
      s.Accepts ⟨0x0311, [.device], .a, 28, 0, false⟩ h [so] → s.atomicsOut < 65536 → 0x20 ≤ op → op ≤ 0x2D → vectorOk op attr = true →
      offset % 256 = 0 → sf % 256 = 0 → srcSize op (bits attr 1 0) = some size → sf + size ≤ 65536 * (s.obj h.part so).plots →
      s.handleFails h so sg 32 = [] → s.isLost h.part dst = false → (srcMx op = false ∨ s.featureOn h.part dst 0 = true) →
    ∀ (t u : State) (p : Pend) (rd : Status), s.begun ⟨0x0311, [.device], .a, 28, 0, false⟩ h [so] = (t, p) →
      t.srcRead h.part so sf size = (u, rd) →
      (rd = .done → exec (.raccum h dst op attr obj gen offset so sg sf src .done) s = .next (((u.takeTxid h.part).newOp
        { part := h.part, p := p, query := false, op := op, attr := attr, dst := dst, txid := (t.part h.part).txid, issue := t.now, obj := obj,
          gen := gen, offset := offset, data := (padTo size src).take size, sent := 1, src := some so }).cntr h.part 16 1))
      ∧ (∀ st, rd ≠ .done → exec (.raccum h dst op attr obj gen offset so sg sf src st) s = .next (u.endsWith p rd))
      ∧ ∀ st, rd = .done → st ≠ .done → exec (.raccum h dst op attr obj gen offset so sg sf src st) s = .next (u.endsWith p st))
  ∧ (∀ (s : State) (h : Hdr) (dst : Nat) (txid : Word) (issue : Nat), s.Accepts ⟨0x0312, [.device], .a, 16, 0, false⟩ h [] →
      s.isLost h.part dst = false →
    exec (.outcomeQuery h dst txid issue) s = .next (s.afterAdmission ⟨0x0312, [.device], .a, 16, 0, false⟩ h [] fun p t =>
      t.newOp { part := h.part, p := p, query := true, op := 0, attr := 0, dst := dst, txid := txid, issue := issue, obj := 0, gen := 0,
                offset := 0, data := [], sent := 1, src := none }))
  ∧ (∀ (s : State) (h : Hdr) (c : Contrib) (sw so sg sf : Nat) (src : List Byte), s.Accepts ⟨0x0313, [.device], .a, 64, 1, false⟩ h [so] →
      contribOk c = true → sf + c.count * srcBits c.fmt / 8 ≤ 65536 * (s.obj h.part so).plots → s.handleFails h so sg 68 = [] →
      s.isLost h.part sw = false →
    ∀ (t u : State) (p : Pend) (rd : Status), s.begun ⟨0x0313, [.device], .a, 64, 1, false⟩ h [so] = (t, p) →
      t.srcRead h.part so sf (c.count * srcBits c.fmt / 8) = (u, rd) →
      let o : ContribOp := { part := h.part, p := p, c := c, sw := sw, src := so,
                             data := (padTo (c.count * srcBits c.fmt / 8) src).take (c.count * srcBits c.fmt / 8) }
      (rd = .done → exec (.reduceContrib h 0x50 c sw so sg sf src .done) s
        = .next (((u.modRem fun r => { r with contribs := r.contribs ++ [o] }).sendContrib o false).traceContrib o false .done))
      ∧ (∀ st, rd ≠ .done → exec (.reduceContrib h 0x50 c sw so sg sf src st) s = .next (u.endsWith p rd))
      ∧ ∀ st, rd = .done → st ≠ .done → exec (.reduceContrib h 0x50 c sw so sg sf src st) s = .next (u.endsWith p st))

/-- Class 0x04 (R406 to R413): FENCE_CREATE takes a free number for its owner, FENCE_SIGNAL signals and wakes, FENCE_WAIT joins the waiters (at once
awake on a signalled fence of a partition that is not stopped), FENCE_RESET makes a fence unsignalled and a domain fence's epoch one more, FENCE_DESTROY
frees, FENCE_SHARE adds a context that does not hold the fence yet. -/
def Obligations.FencePacketsComplete : Prop :=
  (∀ (s : State) (h : Hdr) (f : Nat), s.Accepts ⟨0x0401, [.device, .tenant], .all, 1, 0, false⟩ h [] → s.obju.freed = [] → s.obju.fenceNext = f →
      f < 0xF000 → (s.begun ⟨0x0401, [.device, .tenant], .all, 1, 0, false⟩ h []).1.obju.freed = [] →
    exec (.fenceCreate h false) s = .next (s.afterAdmission ⟨0x0401, [.device, .tenant], .all, 1, 0, false⟩ h [] fun p t =>
      ((t.setFence h.part f { Fence.free with used := true, part := h.part, owner := if h.issuer = .device then h.ctx else 0xFFFF }).modObju
        fun o => { o with fenceNext := o.fenceNext + 1 }).ok p f))
  ∧ (∀ (s : State) (h : Hdr) (i : Nat), s.Accepts ⟨0x0401, [.device, .tenant], .all, 1, 0, false⟩ h [] →
      ((List.range (s.dfCount h.part)).find? fun j => decide ((s.fence h.part (0xF000 + j)).owner = 0xFFFF)) = some i →
    exec (.fenceCreate h true) s = .next (s.afterAdmission ⟨0x0401, [.device, .tenant], .all, 1, 0, false⟩ h [] fun p t =>
      (t.setFence h.part (0xF000 + i) { t.fence h.part (0xF000 + i) with owner := h.ctx, shares := [] }).ok p (0xF000 + i)))
  ∧ (∀ (s : State) (h : Hdr) (f e : Nat), s.Accepts ⟨0x0402, [.device, .tenant], .all, 3, 0, false⟩ h [] →
      s.maySignal h.issuer h.part h.ctx f = true → signalCode e = true →
    exec (.fenceSignal h f e) s = .next (s.afterAdmission ⟨0x0402, [.device, .tenant], .all, 3, 0, false⟩ h [] fun p t =>
      (finishing (t.signal h.part f e)).ok p 0))
  ∧ (∀ (s : State) (h : Hdr) (f : Nat), s.Accepts ⟨0x0403, [.device, .host], .all, 2, 0, false⟩ h [] → s.fenceOk h.part f = true →
      (h.issuer = .host ∨ s.maySignal h.issuer h.part h.ctx f = true) →
    exec (.fenceWait h f) s = .next (s.afterAdmission ⟨0x0403, [.device, .host], .all, 2, 0, false⟩ h [] fun p t =>
      let u := t.modObju fun o => { o with waits := o.waits ++ [(h.part, f, p)] }
      if (t.fence h.part f).signalled && !t.stopped h.part then finishing (u.wake h.part f) else u))
  ∧ (∀ (s : State) (h : Hdr) (f : Nat), s.Accepts ⟨0x0404, [.device, .tenant], .all, 2, 0, false⟩ h [] →
      s.maySignal h.issuer h.part h.ctx f = true →
    exec (.fenceReset h f) s = .next (s.afterAdmission ⟨0x0404, [.device, .tenant], .all, 2, 0, false⟩ h [] fun p t =>
      if f < 0xF000 then (t.setFence h.part f { t.fence h.part f with signalled := false, payload := 0 }).ok p 0
      else ((t.setFence h.part f { t.fence h.part f with signalled := false, payload := 0, epoch := (t.fence h.part f).epoch + 1 }).propagate
        h.part f 2 0).ok p 0))
  ∧ (∀ (s : State) (h : Hdr) (f : Nat), s.Accepts ⟨0x0405, [.device, .tenant], .all, 2, 0, false⟩ h [] → s.fenceOk h.part f = true →
      (h.issuer = .tenant ∨ (s.fence h.part f).owner = h.ctx ∨ ((s.fence h.part f).owner = 0xFFFF ∧ (s.fence h.part f).shares.contains h.ctx)) →
    exec (.fenceDestroy h f) s = .next (s.afterAdmission ⟨0x0405, [.device, .tenant], .all, 2, 0, false⟩ h [] fun p t =>
      (t.destroyFence h.part f).ok p 0))
  ∧ (∀ (s : State) (h : Hdr) (f c : Nat), s.Accepts ⟨0x0406, [.device], .all, 4, 0, false⟩ h [] → s.fenceOk h.part f = true →
      (s.fence h.part f).owner = h.ctx → s.ctxFails h.part c 18 = [] → h.ctx ≠ c → (s.fence h.part f).shares.contains c = false →
      s.sharesUsed < 16384 → (s.ctx c).resident = true →
    exec (.fenceShare h f c) s = .next (s.afterAdmission ⟨0x0406, [.device], .all, 4, 0, false⟩ h [] fun p t =>
      (t.setFence h.part f { t.fence h.part f with shares := (t.fence h.part f).shares ++ [c] }).ok p 0))

/-- Class 0x05 (R144, R147, R169, R174 to R180, R248): KEY_CONTROL_GEN, KEY_IMPORT and KEY_UNWRAP fill a new control slot, KEY_RETIRE retires one,
KEY_WRAP answers the wrapped blob, KEY_ATTEST queues a signature of the alias key, CCE_OP queues its message, of a partition or of Tolaro, KEY_RESEAL makes a new memory slot and
starts the sweep, SA_SEED and SA_STEP set the rounding seed slot and the step. A value that the DRBG gives is a free value (log entry 2). -/
def Obligations.KeyPacketsComplete : Prop :=
  (∀ (s : State) (h : Hdr) (n : Nat), s.Accepts ⟨0x0501, [.tenant, .device], .am, 0, 0, false⟩ h [] → s.key.rngReady = true →
      (s.reseal h.part).active = false → (s.pst h.part = 1 ∨ s.pst h.part = 2 ∨ s.pst h.part = 3) → (s.takeSlot h.part).isSome = true →
      (s.begun ⟨0x0501, [.tenant, .device], .am, 0, 0, false⟩ h []).1.takeSlot h.part = some n →
    exec (.keyReseal h) s = .next (s.afterAdmission ⟨0x0501, [.tenant, .device], .am, 0, 0, false⟩ h [] fun p t =>
      ((((t.fill n h.part 0 0 false false true false ((t.free.setWidth 256).setWidth 512)).drawnPr).modPart h.part fun x => { x with slot := n }).setReseal
        h.part { active := true, new := n, old := (t.part h.part).slot, done := 0, p := some p }).resealEnd h.part))
  ∧ (∀ (s : State) (h : Hdr) (slot : Nat) (nonce : BitVec 256), s.Accepts ⟨0x0502, [.tenant], .all, 34, 0, false⟩ h [] → s.key.rngReady = true →
      s.ownSlot h.part slot [1, 2] = true → (s.slot 1).st = 1 →
    exec (.keyAttest h slot nonce) s = .next (s.afterAdmission ⟨0x0502, [.tenant], .all, 34, 0, false⟩ h [] fun p t =>
      t.pkeAdd { link := false, ops := [.ecSign, .mldsaSign],
                 sign := some (1, ascii "VMR.KAR", ascii "VMR.KAR" ++ t.attestBody h.part slot nonce), sig := [],
                 ends := .attest p (t.attestBody h.part slot nonce) }))
  ∧ (∀ (s : State) (h : Hdr) (e r m : Bool), s.Accepts ⟨0x0503, [.tenant, .device], .all, 1, 0, false⟩ h [] → s.key.rngReady = true →
      (s.takeSlot h.part).isSome = true →
    exec (.keyControlGen h e r m) s = .next (s.afterAdmission ⟨0x0503, [.tenant, .device], .all, 1, 0, false⟩ h [] fun p t =>
      t.drawnPr.newControl p 0 e r m ((t.free.setWidth 256).setWidth 512)))
  ∧ (∀ (s : State) (h : Hdr) (e r m : Bool) (v : BitVec 256), s.Accepts ⟨0x0504, [.tenant], .all, 1, 0, true⟩ h [] → h.trailer = 32 →
      (s.takeSlot h.part).isSome = true →
    exec (.keyImport h e r m v) s = .next (s.afterAdmission ⟨0x0504, [.tenant], .all, 1, 0, true⟩ h [] fun p t =>
      t.newControl p 2 e r m (v.setWidth 512)))
  ∧ (∀ (s : State) (h : Hdr) (slot w : Nat), s.Accepts ⟨0x0505, [.tenant], .all, 4, 0, false⟩ h [] → s.key.rngReady = true →
      s.ownSlot h.part slot [1] = true → (s.slot slot).exportable = true → s.controlSlot h.part w = true →
    exec (.keyWrap h slot w) s = .next (s.afterAdmission ⟨0x0505, [.tenant], .all, 4, 0, false⟩ h [] fun p t =>
      t.drawn.okTrailer p 0 (wrapBlob (t.slot slot) (t.slot w) (t.free.setWidth 128))))
  ∧ (∀ (s : State) (h : Hdr) (w : Nat) (b : List Byte), s.Accepts ⟨0x0506, [.tenant], .all, 2, 0, true⟩ h [] → s.controlSlot h.part w = true →
      h.trailer = b.length → b.length = 80 → (s.takeSlot h.part).isSome = true →
      ∀ (t : State) (p : Pend) (attr : Word), s.begun ⟨0x0506, [.tenant], .all, 2, 0, true⟩ h [] = (t, p) →
      attr = BitVec.ofNat 32 (ofLe ((b.drop 2).take 4)) → ofLe (b.take 2) = 2 → ofLe ((b.drop 6).take 2) = 32 → ofLe ((b.drop 8).take 8) = 0 →
      bits attr 2 0 = 3 →
    (blobTagOk (t.slot w) b = true → exec (.keyUnwrap h w b) s
      = .next (t.newControl p 2 (bit attr 3) (bit attr 8) (bit attr 7) (blobValue (t.slot w) b)))
    ∧ (blobTagOk (t.slot w) b = false → exec (.keyUnwrap h w b) s = .next (t.endsWith p .authFailed)))
  ∧ (∀ (s : State) (h : Hdr) (slot : Nat), s.Accepts ⟨0x0507, [.tenant, .device], .all, 2, 0, false⟩ h [] → s.controlSlot h.part slot = true →
    exec (.keyRetire h slot) s = .next (s.afterAdmission ⟨0x0507, [.tenant, .device], .all, 2, 0, false⟩ h [] fun p t => (t.retire slot).ok p 0))
  ∧ (∀ (s : State) (h : Hdr) (slot mode len : Nat) (dec g : Bool) (iv : BitVec 128) (msg : List Byte),
      s.Accepts ⟨0x0508, [.tenant], .all, 22, 0, true⟩ h [] → (g = true → s.key.rngReady = true) → s.controlSlot h.part slot = true → mode < 3 → 1 ≤ len → len ≤ 4096 → h.trailer = len →
      msg.length = len → (mode = 0 → dec = true → len % 16 = 0) → (mode = 1 → g = false → iv.toNat % 2 ^ 32 + (len + 15) / 16 ≤ 2 ^ 32) →
    exec (.cceOp false h slot mode dec g len iv msg) s = .next (s.afterAdmission ⟨0x0508, [.tenant], .all, 22, 0, true⟩ h [] fun p t =>
      (when g State.drawn t).modKey fun k => { k with cce := k.cce ++
        [{ p := some p, slot := slot, mode := mode, decrypt := dec, ivGen := g, iv := if g then t.free.setWidth 128 else iv, msg := msg,
           again := false }] }))
  ∧ (∀ (s : State) (h : Hdr) (slot mode len : Nat) (dec g : Bool) (iv : BitVec 128) (msg : List Byte),
      (s.boot.phase = .tolaro ∨ s.boot.phase = .ready) → (s.slot slot).st = 1 → (s.slot slot).block = true → (s.slot slot).use = 3 → mode < 3 →
      1 ≤ msg.length → msg.length ≤ 4096 → (mode = 0 → dec = true → msg.length % 16 = 0) →
      (mode = 1 → g = false → iv.toNat % 2 ^ 32 + (msg.length + 15) / 16 ≤ 2 ^ 32) → (g = true → s.key.rngReady = true) →
    exec (.cceOp true h slot mode dec g len iv msg) s = .next ((when g State.drawn s).modKey fun k => { k with cce := k.cce ++
      [{ p := none, slot := slot, mode := mode, decrypt := dec, ivGen := g, iv := if g then s.free.setWidth 128 else iv, msg := msg,
         again := false }] }))
  ∧ (∀ (s : State) (h : Hdr) (slot : Nat), s.Accepts ⟨0x0509, [.tenant, .device], .am, 2, 0, false⟩ h [] →
      (slot = 0xFFFF ∨ s.controlSlot h.part slot = true) →
    exec (.saSeed h slot) s = .next (s.afterAdmission ⟨0x0509, [.tenant, .device], .am, 2, 0, false⟩ h [] fun p t =>
      (t.modSg fun g => { g with seed := g.seed.set none h.part (if slot = 0xFFFF then none else some slot) }).ok p 0))
  ∧ (∀ (s : State) (h : Hdr) (step : Word), s.Accepts ⟨0x050A, [.tenant, .device], .am, 4, 0, false⟩ h [] →
    exec (.saStep h step) s = .next (s.afterAdmission ⟨0x050A, [.tenant, .device], .am, 4, 0, false⟩ h [] fun p t =>
      (((t.modSg fun g => { g with step := g.step.set 0 h.part step }).ok p 0).modObs fun o =>
        { o with dumps := o.dumps.map fun d => if d.part = h.part ∧ d.step = step then { d with due := true } else d }).dumpNext h.part))

/-- Class 0x06 (R122, R128, R131, R390): SCHED_ARM writes a FREE entry that is then ARMED, SCHED_CANCEL frees one that is ARMED and not due; with DOMAIN
the frame goes to the other members and the pair is remembered.
Where a clause goes beyond the spec's words it is the model's choice (log entry 35). -/
def Obligations.SchedulePacketsComplete : Prop :=
  (∀ (s : State) (h : Hdr) (e : SchedReq) (i : Nat), s.Accepts ⟨0x0601, [.mgmt, .host, .tenant, .device], .all, 26, 0, false⟩ h [] →
      (e.block = true → (h.issuer = .mgmt ∨ h.issuer = .host) ∧ (e.action = 1 ∨ e.action = 8) ∧ e.domain = false) →
      s.mayAct h.issuer h.part e.action e.param.toNat = true → 1 ≤ e.action → e.action ≤ 8 → (e.block = false → s.pst h.part ≠ 0) →
      (e.domain = true → s.pst h.part = 3 ∧ s.now + 1000000 ≤ e.instant) → (e.action = 1 → s.windowThere (e.param.toNat % 65536) = true) →
      ((e.action = 2 ∨ e.action = 3) → e.param.toNat % 2 ^ 18 < 2 ^ s.params.fpCount) →
      s.liveEntry e.block (s.schedOrigin h.part e.block) e.id = none → s.freeSched.isSome = true →
      (s.begun ⟨0x0601, [.mgmt, .host, .tenant, .device], .all, 26, 0, false⟩ h []).1.freeSched = some i →
    exec (.schedArm h e) s = .next (s.afterAdmission ⟨0x0601, [.mgmt, .host, .tenant, .device], .all, 26, 0, false⟩ h [] fun p t =>
      let x := schedOf (if e.block then 0 else h.part) (s.schedOrigin h.part e.block) e
      if e.domain then (((t.setSched i x).see h.part (s.schedOrigin h.part e.block) e.id false).broadcast h.part 0x31 none (entryPayload x)).ok p i
      else (t.setSched i x).ok p i))
  ∧ (∀ (s : State) (h : Hdr) (id : Word) (block : Bool) (i : Nat), s.Accepts ⟨0x0602, [.mgmt, .host, .tenant, .device], .all, 5, 0, false⟩ h [] →
      (block = true → h.issuer = .mgmt ∨ h.issuer = .host) → s.liveEntry block (s.schedOrigin h.part block) id = some i →
      (block = true ∨ (s.sched i).part = h.part) → s.mayAct h.issuer h.part (s.sched i).action (s.sched i).param.toNat = true →
      (s.sched i).st = 1 → s.isDue (s.sched i) = false →
    exec (.schedCancel h id block) s = .next (s.afterAdmission ⟨0x0602, [.mgmt, .host, .tenant, .device], .all, 5, 0, false⟩ h [] fun p t =>
      if (s.sched i).domain then
        (((t.setSched i Sched.free).see h.part (s.schedOrigin h.part block) id true).broadcast h.part 0x32 none
          (cancelPayload (s.schedOrigin h.part block) id)).ok p 0
      else (t.setSched i Sched.free).ok p 0))

/-- Class 0x07 (R508, R510, R511, R516, R519, R526, R528): CNT_READ answers two counters, TRACE_CFG leaves its ring STOPPED with the next
configuration number, TRACE_CTRL starts, stops, triggers and releases, TENSOR_REG writes or removes a registration, PRESS_READ answers records,
PRESS_RELEASE ends every freeze.
Where a clause goes beyond the spec's words it is the model's choice (log entries 36, 66). -/
def Obligations.ObservabilityPacketsComplete : Prop :=
  (∀ (s : State) (h : Hdr) (index : Nat), s.Accepts ⟨0x0701, [.device, .tenant, .mgmt], .all, 3, 0, false⟩ h [] → h.issuer ≠ .mgmt → index < 32 →
    exec (.cntRead h 0 index) s = .next (s.afterAdmission ⟨0x0701, [.device, .tenant, .mgmt], .all, 3, 0, false⟩ h [] fun p t =>
      t.ok p ((t.readCntr h.part index).toNat + (t.readCntr h.part (index + 1)).toNat * 2 ^ 64)))
  ∧ (∀ (s : State) (h : Hdr) (index : Nat), s.Accepts ⟨0x0701, [.device, .tenant, .mgmt], .all, 3, 0, false⟩ h [] → h.issuer = .mgmt → index < 1024 →
    exec (.cntRead h 1 index) s = .next (s.afterAdmission ⟨0x0701, [.device, .tenant, .mgmt], .all, 3, 0, false⟩ h [] fun p t =>
      t.ok p ((t.readGlob index).toNat + (t.readGlob (index + 1)).toNat * 2 ^ 64)))
  ∧ (∀ (s : State) (h : Hdr) (ring base lg mode post : Nat), s.Accepts ⟨0x0702, [.device, .tenant], .am, 17, 0, false⟩ h [] → ring < 4 →
      ((s.ring h.part ring).staged.isEmpty || s.vbrOf h.part) = true → (s.ring h.part ring).active = false → 2 ≤ lg → lg ≤ 20 → mode < 3 → s.ringPlace h.part ring base lg = true →
    exec (.traceCfg h ring base lg mode post false) s = .next (s.afterAdmission ⟨0x0702, [.device, .tenant], .am, 17, 0, false⟩ h [] fun p t =>
      (t.setRing h.part ring
        { Ring.off with st := 1, base := base, log2 := lg, mode := mode, post := post, ids := false,
                        cfgn := ((s.ring h.part ring).cfgn + 1) % 256, ignored := (s.ring h.part ring).ignored,
                        obj := (s.objectOf h.part base (1024 * 2 ^ lg)).getD 0 }).ok p 0))
  ∧ (∀ (s : State) (h : Hdr) (ring : Nat), s.Accepts ⟨0x0703, [.device, .tenant], .am, 3, 0, false⟩ h [] → ring < 4 → (s.ring h.part ring).st = 1 →
    exec (.traceStart h ring) s = .next (s.afterAdmission ⟨0x0703, [.device, .tenant], .am, 3, 0, false⟩ h [] fun p t =>
      if (t.ring h.part ring).st = 1 then (t.setRing h.part ring { t.ring h.part ring with st := 2 }).ok p 0 else t.ok p 0))
  ∧ (∀ (s : State) (h : Hdr) (ring : Nat), s.Accepts ⟨0x0703, [.device, .tenant], .am, 3, 0, false⟩ h [] → ring < 4 → (s.ring h.part ring).st ≠ 0 →
    exec (.traceStop h ring) s = .next (s.afterAdmission ⟨0x0703, [.device, .tenant], .am, 3, 0, false⟩ h [] fun p t =>
      (t.stopRing h.part ring).ok p 0))
  ∧ (∀ (s : State) (h : Hdr) (ring : Nat), s.Accepts ⟨0x0703, [.device, .tenant], .am, 3, 0, false⟩ h [] → ring < 4 →
    exec (.traceTriggerNow h ring) s = .next (s.afterAdmission ⟨0x0703, [.device, .tenant], .am, 3, 0, false⟩ h [] fun p t =>
      (t.trigger h.part ring 1).ok p 0))
  ∧ (∀ (s : State) (h : Hdr) (ring : Nat), s.Accepts ⟨0x0703, [.device, .tenant], .am, 3, 0, false⟩ h [] → ring < 4 → (s.ring h.part ring).st = 5 →
    exec (.traceReleaseFreeze h ring) s = .next (s.afterAdmission ⟨0x0703, [.device, .tenant], .am, 3, 0, false⟩ h [] fun p t =>
      (t.setRing h.part ring { t.ring h.part ring with st := 2 }).ok p 0))
  ∧ (∀ (s : State) (h : Hdr) (name : Word) (base len i : Nat), s.Accepts ⟨0x0704, [.device, .tenant], .am, 20, 0, false⟩ h [] → name ≠ 0 →
      (s.obs.dumps.any fun d => decide (d.part = h.part) && decide (d.name = name) && d.cap.isSome) = false → base % 256 = 0 → len % 256 = 0 →
      0 < len → len ≤ 2 ^ 30 → s.objectOf h.part base len = some i →
      (h.issuer = .tenant ∨ (s.obj h.part i).shared = true ∨ (s.obj h.part i).owner = 0xFFFF ∨ (s.obj h.part i).owner = h.ctx) →
      (s.obs.tensors.filter fun x => decide (x.1 = h.part)).length < 64 →
    exec (.tensorReg h name base len) s = .next (s.afterAdmission ⟨0x0704, [.device, .tenant], .am, 20, 0, false⟩ h [] fun p t =>
      (t.modObs fun b => { b with tensors := (b.tensors.filter fun x => !(decide (x.1 = h.part) && decide (x.2.name = name)))
        ++ [(h.part, { name := name, base := base, len := len, obj := i, gen := (s.obj h.part i).gen })] }).ok p 0))
  ∧ (∀ (s : State) (h : Hdr) (first : Word) (n : Nat), s.Accepts ⟨0x0705, [.mgmt], .all, 6, 0, false⟩ h [] → 1 ≤ n → n ≤ 32768 →
    exec (.pressRead h first n) s = .next (s.afterAdmission ⟨0x0705, [.mgmt], .all, 6, 0, false⟩ h [] fun p t =>
      t.okTrailer p 0 ((List.range n).map fun i => t.pressAt (first + BitVec.ofNat 32 i)).flatten))
  ∧ (∀ (s : State) (h : Hdr), s.Accepts ⟨0x0706, [.mgmt], .all, 0, 0, false⟩ h [] →
    exec (.pressRelease h) s = .next (s.afterAdmission ⟨0x0706, [.mgmt], .all, 0, 0, false⟩ h [] fun p t => (t.unfreeze true true true).ok p 0))

/-- Class 0x08 (R385, R486, R494 to R499, R504): RST_CONTEXT drains a context of the partition, RST_ENGINE (of an engine in no partition too) and RST_PARTITION start their steps, RST_WARM,
RST_CHIP and PWR_CYCLE, which take no FENCE and send no final reply of their own, start the warm reset, the chip request and the power cycle.
Where a clause goes beyond the spec's words it is the model's choice (log entries 38, 41). -/
def Obligations.ResetPacketsComplete : Prop :=
  (∀ (s : State) (h : Hdr) (c : Nat), s.Accepts ⟨0x0801, [.host, .device], .all, 2, 0, false⟩ h [] → c < 0xFFFF → (s.ctx c).resident = true →
      (s.ctx c).st ≠ 0 → (s.ctx c).st ≠ 3 → (s.ctx c).part = h.part →
    exec (.rstContext h c) s = .next (s.afterAdmission ⟨0x0801, [.host, .device], .all, 2, 0, false⟩ h [] fun p t =>
      ((((((t.modCtx c fun k => { k with resetting := true }).addStep (.context c (some p))).discardQueues c).tilesFenced h.part
        fun x => decide (x.ctx = c)).drainCtx c).ctxResetEnd c)))
  ∧ (∀ (s : State) (h : Hdr) (e : Nat), s.Accepts ⟨0x0802, [.mgmt, .host], .a, 1, 0, false⟩ h [] → e < 32 → bit (s.reg (rRstEng e)) 31 = true →
      s.pst (s.fld (rRstEng e) 3 0) ≠ 0 → s.pst (s.fld (rRstEng e) 3 0) ≠ 5 → (s.part (s.fld (rRstEng e) 3 0)).wantScrub = false →
    exec (.rstEngine h e) s = .next (s.afterAdmission ⟨0x0802, [.mgmt, .host], .a, 1, 0, false⟩ h [] fun p t =>
      t.engineStep e (s.fld (rRstEng e) 3 0) [p]))
  ∧ (∀ (s : State) (h : Hdr) (e : Nat), s.Accepts ⟨0x0802, [.mgmt, .host], .a, 1, 0, false⟩ h [] → e < 32 → bit (s.reg (rRstEng e)) 31 = false →
    exec (.rstEngine h e) s = .next (s.afterAdmission ⟨0x0802, [.mgmt, .host], .a, 1, 0, false⟩ h [] fun p t => t.engineStep e 16 [p]))
  ∧ (∀ (s : State) (h : Hdr), s.Accepts ⟨0x0803, [.mgmt, .host], .all, 0, 0, false⟩ h [] → s.pst h.part ≠ 0 →
    exec (.rstPartition h) s = .next (s.afterAdmission ⟨0x0803, [.mgmt, .host], .all, 0, 0, false⟩ h [] fun p t => t.partStep h.part [p] false))
  ∧ (∀ (s : State) (h : Hdr), s.Accepts ⟨0x0804, [.mgmt, .host], .all, 0, 0, false⟩ h [] → h.signal = false →
    exec (.rstWarm h) s = .next (s.afterAdmission ⟨0x0804, [.mgmt, .host], .all, 0, 0, false⟩ h [] fun _ t => t.warmRequest 4))
  ∧ (∀ (s : State) (h : Hdr), s.Accepts ⟨0x0805, [.mgmt, .host], .all, 0, 0, false⟩ h [] → h.signal = false →
    exec (.rstChip h) s = .next (s.afterAdmission ⟨0x0805, [.mgmt, .host], .all, 0, 0, false⟩ h [] fun _ t => t.chipRequest 8))
  ∧ (∀ (s : State) (h : Hdr), s.Accepts ⟨0x0806, [.mgmt], .all, 0, 0, false⟩ h [] → h.signal = false →
    exec (.pwrCycle h) s = .next (s.afterAdmission ⟨0x0806, [.mgmt], .all, 0, 0, false⟩ h [] fun _ t =>
      (((each parts16 State.raisePfence t.fenceAll).wipeMemSlots).askPower 2 0).modBoot fun b => { b with pwrOff := true }))

/-- Class 0x09 (R465 to R467, R473 to R475): LC_TRANSITION stops admission and burns the journal of its target, DBG_CHALLENGE answers a fresh challenge
that replaces the one before, DBG_TOKEN with every signature that its level asks for grants the level, and MEAS_BOUND slots and the alias seed go.
Where a clause goes beyond the spec's words it is the model's choice (log entries 4, 39). -/
def Obligations.LifeCyclePacketsComplete : Prop :=
  (∀ (s : State) (h : Hdr) (target : Nat) (tok : Option Token), s.Accepts ⟨0x0901, [.mgmt], .all, 1, 0, true⟩ h [] → h.signal = false →
      s.lcAllowed target = true → s.held = [] → s.pins.supplyLow = false → s.boot.dbgAuth = 0 → s.lcTokenOk target tok = true →
    exec (.lcTransition h target tok) s = .next (s.afterAdmission ⟨0x0901, [.mgmt], .all, 1, 0, true⟩ h [] fun _ t =>
      let u := (t.press 9 .done none target).modBoot fun b => { b with burning := true }
      (u.setBurns (.journal target (tok.any fun x => x.disableDebug)) (u.missing 0x08 (lcCode target) 64)).burnOn))
  ∧ (∀ (s : State) (h : Hdr) (level : Nat), s.Accepts ⟨0x0902, [.mgmt, .host, .tenant], .all, 1, 0, false⟩ h [] → s.key.rngReady = true →
      (level = 1 ∨ level = 2) → lcLevel s.boot.lc = some level → s.control 0x32 = false → s.boot.dbgAuth = 0 → (s.boot.lc ≠ 3 ∨ s.control 0x31 = true) →
    exec (.dbgChallenge h level) s = .next (s.afterAdmission ⟨0x0902, [.mgmt, .host, .tenant], .all, 1, 0, false⟩ h [] fun p t =>
      (t.drawn.modBoot fun b => { b with challenge := some (t.free.setWidth 128, level) }).ok p (BitVec.setWidth 128 t.free).toNat))
  ∧ (∀ (s : State) (h : Hdr) (tok : Token) (chal : BitVec 128) (level : Nat),
      (s.modBoot fun b => { b with challenge := none }).Accepts ⟨0x0903, [.mgmt, .host, .tenant], .all, 0, 0, true⟩ h [] →
      s.admits = true → s.pathOpen h.path = true → s.admitWait 0x0903 h [] none (s.issuerOk ⟨0x0903, [.mgmt, .host, .tenant], .all, 0, 0, true⟩ h) = none → s.boot.challenge = some (chal, level) →
      (tok.purpose = 3 → (parts16.any fun p => decide (s.pst p = 1)) = false) →
      s.tokenOk tok (level + 1) level 0 chal (s.debugSigners level) = true →
    exec (.dbgToken h tok) s
      = .next ((s.modBoot fun b => { b with challenge := none }).afterAdmission ⟨0x0903, [.mgmt, .host, .tenant], .all, 0, 0, true⟩ h [] fun p t =>
          (((t.clearSlots fun n x => decide (n = 1) || x.meas).modBoot fun b => { b with dbgAuth := level }).press 9 .done none level).ok p level))

/-- MAILBOX_SECURED_MESSAGE (R53, R381): a record that verifies is the command packet it carries, one that does not is refused and counted; a link
carries no command packet.
Where a clause goes beyond the spec's words it is the model's choice (log entries 4, 44). -/
def Obligations.SecuredMessagesCarryPackets : Prop :=
  ∀ (s : State) (sid h part op : Nat) (v : Bool) (i : Issuer) (seq : Word),
    (op = 0x0000 → exec (.mailboxSecuredMessage .mgmt sid true i part seq op) s = exec (.nop (bareHdr (.mgmt sid) i part seq)) s)
    ∧ (op = 0x0001 → exec (.mailboxSecuredMessage (.doe h) sid true i part seq op) s = exec (.identify (bareHdr (.doe h sid) i part seq)) s)
    ∧ (op = 0x0804 → exec (.mailboxSecuredMessage .mgmt sid true i part seq op) s = exec (.rstWarm (bareHdr (.mgmt sid) i part seq)) s)
    ∧ exec (.mailboxSecuredMessage .mgmt sid false i part seq op) s = .next (s.badRecord (.mgmt sid) part seq op)
    ∧ exec (.mailboxSecuredMessage (.doe h) sid false i part seq op) s = .next (s.badRecord (.doe h sid) part seq op)
    ∧ ∀ k si, exec (.mailboxSecuredMessage (.link k si) sid v i part seq op) s = .next s

/-! Registers (chapter 1). -/

/-- What a 32-bit write does to each bit of a register, and to no other register (R12 to R17): L-class bits take the value, S-class bits take it
unless the write would change one while its unit is enabled (then every S-class bit stays and the unit's refusal flag is set), a W1C bit is cleared by
writing 1, every other bit stays; the value of C-class bits goes to the shadow.
Where a clause goes beyond the spec's words it is the model's choice (log entries 15, 16). -/
def Obligations.RegisterBitsFollowTheirClass : Prop :=
  ∀ (s : State) (off : Nat) (w : Word) (r : RegRow), regRow s.params.profile off = some r → r.counts = [] →
    let refused := decide ((w ^^^ s.reg off) &&& r.s ≠ 0) && s.staticOn off
    let t := s.plainWrite off w
    (∀ o, o ≠ off → o ≠ (s.staticMark off).1 → t.reg o = s.reg o)
    ∧ (refused = true → bit (t.reg (s.staticMark off).1) (s.staticMark off).2 = true)
    ∧ (∀ i, i < 32 → (refused = true → off ≠ (s.staticMark off).1) →
        bit (t.reg off) i
          = ((if bit r.l i || (!refused && bit r.s i) then bit w i else bit (s.reg off) i) && !(bit w i && bit r.w1c i)))
    ∧ (r.c ≠ 0 → t.regf.shadow.find off = some (w &&& r.c))
    ∧ (r.c = 0 → t.regf.shadow = s.regf.shadow)

/-- REGISTER_WRITE and its read (R4, R9, R10, R67, R532): in reset nothing answers; an access of a wrong size or alignment, and a write before the
life-cycle decision or restricted to identity, is answered with ERR and changes no register; an access to an offset where no register is reads 0, is
ignored, and is counted and recorded; GLB_RELEASE reads release 4.2; a write of GLB_WAKE sets its fields and nothing else.
Where a clause goes beyond the spec's words it is the model's choice (log entry 19). -/
def Obligations.RegisterAccessesAreAnswered : Prop :=
  (∀ (s : State) (a : Access), s.service = .off → exec (.registerWrite a) s = .next s)
  ∧ (∀ (s : State) (a : Access), s.service ≠ .off → a.rq.dbg = false →
      ¬((a.size = 32 ∧ a.addr % 4 = 0) ∨ (a.size = 64 ∧ a.addr % 8 = 0)) →
      exec (.registerWrite a) s = .next (s.otherAccess.emit (.ctl 0 true)))
  ∧ (∀ (s : State) (a : Access), s.service = .early ∨ s.service = .identity → a.rq.dbg = false → a.write = true →
      exec (.registerWrite a) s = .next (s.otherAccess.emit (.ctl 0 true)))
  ∧ (∀ (s : State) (rq : Rq) (write : Bool) (addr : Nat) (d : DWord), s.PortOpen rq → addr < 0x400000 → addr % 4 = 0 → s.present addr = none →
      exec (.registerWrite { rq := rq, write := write, addr := addr, size := 32, wdata := d }) s
        = .next ((s.otherAccess.busErr addr).emit (.ctl 0 false)))
  ∧ (∀ (s : State) (rq : Rq), s.PortOpen rq →
      exec (.registerWrite { rq := rq, write := false, addr := 0, size := 32, wdata := 0 }) s
        = .next (s.otherAccess.emit (.ctl 0x00040002 false)))
  ∧ (∀ (s : State) (rq : Rq) (d : DWord), s.PortOpen rq → ∃ t,
      exec (.registerWrite { rq := rq, write := true, addr := 0x80, size := 32, wdata := d }) s = .next t
        ∧ t.reg 0x80 = (s.reg 0x80 &&& 0xF8000000) ||| (BitVec.setWidth 32 d &&& 0x7FFFFFF) ∧ (∀ o, o ≠ 0x80 → t.reg o = s.reg o) ∧ t.out = s.out ++ [.ctl 0 false]
        ∧ t.pins = s.pins ∧ t.boot = s.boot ∧ t.dt = s.dt ∧ t.key = s.key ∧ t.sg = s.sg ∧ t.att = s.att ∧ t.obs = s.obs)

/-- What a 32-bit read of GLB_BUSERR shows after an access to an offset where no register is (R10, R18, R507): VALID with the word address of the first
such access since VALID was cleared, OVERFLOW when another came, and global counter 39 one more.
Where a clause goes beyond the spec's words it is the model's choice (log entry 17). -/
def Obligations.BusErrorsAreRecorded : Prop :=
  ∀ (s : State) (addr : Nat), addr < 0x400000 → addr % 4 = 0 →
    let t := s.busErr addr
    (bit (s.reg 0xC) 0 = false → s.reg 0xC = 0 → bit (t.reg 0xC) 0 = true ∧ bits (t.reg 0xC) 21 2 = addr / 4 ∧ bit (t.reg 0xC) 1 = false)
    ∧ (bit (s.reg 0xC) 0 = true → bit (t.reg 0xC) 0 = true ∧ bits (t.reg 0xC) 21 2 = bits (s.reg 0xC) 21 2 ∧ bit (t.reg 0xC) 1 = true)
    ∧ t.obs.glob.get 0 39 = s.obs.glob.get 0 39 + 1 ∧ ∀ o, o ≠ 0xC → t.reg o = s.reg o

/-- C_CLASS_COMMIT (R16, R284, R331): a window whose unit is idle commits; the DT window while a TRIG_OUT entry is ARMED, a sector group with work and a
port with frames keep their shadows. -/
def Obligations.ClassCCommitsWhenIdle : Prop :=
  (∀ s : State, s.service ≠ .off → s.trigIdle = true → exec (.cClassCommit 1) s = .next (s.commitWindow 1))
  ∧ (∀ s : State, s.trigIdle = false → exec (.cClassCommit 1) s = .next s)
  ∧ (∀ (s : State) (n : Nat), s.service ≠ .off → s.params.profile ≠ .s → n < s.params.sgCount → s.params.sgCount ≤ 8 → s.groupIdle n = true →
      exec (.cClassCommit (0x10 + n)) s = .next ((s.commitWindow (0x10 + n)).commitWeights n))
  ∧ (∀ (s : State) (n : Nat), s.params.profile ≠ .s → n < s.params.sgCount → s.params.sgCount ≤ 8 → s.groupIdle n = false →
      exec (.cClassCommit (0x10 + n)) s = .next s)
  ∧ (∀ (s : State) (k : Nat), k < 18 → s.portIdle k = false → exec (.cClassCommit (0x20 + k)) s = .next s)
  ∧ ∀ s : State, exec (.cClassCommit 2) s = .next s

/-- SG_ENABLE and SG_DISABLE (R99 to R103): a group whose checks hold is enabled with CFG_ERR 0, one that fails a check stays disabled with the check's
number in CFG_ERR and its flag set; a group that no partition uses is disabled, a group in use stays enabled with CFG_ERR 6.
Where a clause goes beyond the spec's words it is the model's choice (log entries 20, 53). -/
def Obligations.SectorGroupEnableIsChecked : Prop :=
  ∀ (s : State) (rq : Rq) (n : Nat), s.PortOpen rq → n < s.params.sgCount → s.params.profile ≠ .s →
    (∃ t u, exec (.sgEnable rq n) s = .next t ∧ exec (.sgDisable rq n) s = .next u
      ∧ t.out = s.out ++ [.ctl 0 false] ∧ u.out = s.out ++ [.ctl 0 false]
      ∧ (s.sgOn n = false → s.cfgErr n = 0 → t = ((s.otherAccess.setFld (rSgMemCtrl n) 6 4 0).flag (rSgMemCtrl n) 0).emit (.ctl 0 false))
      ∧ (s.sgOn n = false → s.cfgErr n ≠ 0 →
          t = ((s.otherAccess.setFld (rSgMemCtrl n) 6 4 (s.cfgErr n)).flag (rSgMemCtrl n) 9).emit (.ctl 0 false))
      ∧ (s.sgOn n = true → s.groupUsed n = true → u = ((s.otherAccess.setFld (rSgMemCtrl n) 6 4 6).flag (rSgMemCtrl n) 9).emit (.ctl 0 false))
      ∧ (s.groupUsed n = false → u = (s.otherAccess.setFld (rSgMemCtrl n) 0 0 0).emit (.ctl 0 false)))

/-! Power, reset, bring-up (chapters 2, 13 and 14). -/

/-- What a reset of the block keeps (R61, R63, R97, R295, R478, R479, R484; with the retention latch set every reset is a retention exit): the block is then in reset with the cause recorded, every output at its value of the
reset map but those of the retention domain, and no partition, context, queue, link, host stream or reset step left; a warm-class reset keeps
exactly LIVE and RETIRING slots with RETAIN, a chip-class one no slot; the anchor table and the press record go only when VDD_RET has been removed.
Where a clause goes beyond the spec's words it is the model's choice (log entries 7, 32). -/
def Obligations.ResetKeepsWhatItsClassKeeps : Prop :=
  ∀ (s : State) (source : Nat) (warm lost : Bool), source < 16 →
    let exits := s.boot.retLatch && !lost
    let t := s.takeReset source warm lost
    t.boot.phase = .inReset ∧ t.service = .off ∧ t.fld rRstCause 3 0 = (if exits then 11 else source)
    ∧ t.pins.pfenceReq = 0xFFFF ∧ t.pins.engReq = 0xFFFFFFFF ∧ t.pins.cstop = true ∧ t.pins.trigOut = 0 ∧ t.pins.blockReady = false
    ∧ t.pins.chipRstReq = false ∧ t.pins.retReady = false
    ∧ t.dt.st = 0 ∧ t.dt.cnt = 0 ∧ (∀ p, t.pst p = 0) ∧ t.cmd = Cmd.reset ∧ t.lnk = Lnk.reset ∧ t.hst = Hst.reset ∧ t.rem = Rem.reset
    ∧ (lost = true ∨ exits = true → t.share = Share.reset)
    ∧ (lost = false → exits = false → t.share.winWake = s.share.winWake ∧ t.share.winGate = s.share.winGate)
    ∧ t.rst.steps = [] ∧ t.obju.ctxs = [] ∧ t.obju.fences = []
    ∧ (∀ x ∈ t.key.slots, x ∈ s.key.slots ∧ x.2.retain = true ∧ (x.2.st = 1 ∨ x.2.st = 2) ∧ (warm = true ∨ exits = true))
    ∧ (warm = true ∨ exits = true → s.bringingUp = false → ∀ x ∈ s.key.slots, x.2.retain = true → (x.2.st = 1 ∨ x.2.st = 2) → x ∈ t.key.slots)
    ∧ t.sg.anchors = (if lost then [] else s.sg.anchors) ∧ t.sg.mdc = [] ∧ t.sg.accs = []
    ∧ (lost = true → t.obs.press = [] ∧ t.obs.pressSeq = 0 ∧ t.pins.breachN = false ∧ t.pins.pwrcycReq = false ∧ t.pins.sns = 0)
    ∧ (lost = false → t.pins.breachN = s.pins.breachN ∧ t.pins.pwrcycReq = s.pins.pwrcycReq ∧ t.pins.sns = s.pins.sns)
    ∧ t.obs.log = s.obs.log ∧ t.params = s.params

/-- The reset inputs and sources (R62, R482, R483, R485 to R487): each takes the reset with its source and class; leaving reset starts fuse sensing,
and the ninth start within 10 ms is held back until the hold ends.
Where a clause goes beyond the spec's words it is the model's choice (log entries 12, 37). -/
def Obligations.ResetInputsTakeTheirReset : Prop :=
  (∀ s : State, s.pins.vddRet = false →
    exec .powerOn s = .next (((s.modPins fun p => { p with vddRet := true }).takeReset 1 false true).leaveReset))
  ∧ (∀ s : State, s.pins.vddRet = true →
    exec .vddRetRemove s = .next (((s.takeReset 1 false true).modPins fun p => { p with vddRet := false }).modBoot fun b => { b with porPending := true }))
  ∧ (∀ s : State, s.pins.vddRet = true → s.boot.phase ≠ .stormHold → s.boot.phase ≠ .inReset → s.boot.chipCause = 0 → s.boot.retLatch = false →
    exec .resetNAssert s = .next (((s.modPins fun p => { p with resetN := false }).takeReset 2 false false).modBoot fun b => { b with rstnSeen := true }))
  ∧ (∀ s : State, s.pins.vddRet = true → s.boot.phase ≠ .stormHold → s.boot.phase ≠ .inReset → s.boot.chipCause ≠ 0 → s.boot.retLatch = false →
    exec .resetNAssert s
      = .next (((s.modPins fun p => { p with resetN := false }).takeReset s.boot.chipCause false false).modBoot fun b => { b with rstnSeen := true }))
  ∧ (∀ s : State, s.pins.vddRet = true → s.boot.phase ≠ .stormHold → s.boot.phase ≠ .inReset → s.boot.retLatch = true →
    exec .resetNAssert s = .next (((s.modPins fun p => { p with resetN := false }).takeReset 11 true false).modBoot fun b => { b with rstnSeen := true }))
  ∧ (∀ s : State, s.boot.phase = .inReset → s.pins.vddRet = true → s.dt.trefLost = false → s.recent.length < 8 →
    exec .resetNRelease s = .next ((s.modPins fun p => { p with resetN := true }).modBoot fun b =>
      { b with storm := s.recent ++ [s.tref], phase := .sensing, retLatch := false }))
  ∧ (∀ s : State, s.boot.phase = .inReset → s.pins.vddRet = true → s.dt.trefLost = false → 8 ≤ s.recent.length →
    exec .resetNRelease s = .next ((s.modPins fun p => { p with resetN := true }).modBoot fun b => { b with phase := .stormHold, storm := s.recent }))
  ∧ (∀ s : State, s.boot.phase = .stormHold → s.pins.vddRet = true → s.pins.resetN = true → s.dt.trefLost = false → ∃ t,
    exec .stormHoldExpire s = .next t ∧ t.boot.phase = .sensing ∧ t.boot.storm = [s.tref] ∧ bit (t.reg rRstCause) 19 = true)
  ∧ (∀ s : State, s.boot.phase = .ready → s.service = .full → s.pins.warmArmed = true → s.boot.breached = false → s.pins.chipRstReq = false →
      s.boot.warmRun = none →
    exec .warmReqNAssert s = .next (((((s.modPins fun p => { p with warmArmed := false }).press 8 .done none 3).fenceAll).backWhere fun _ => true).modBoot fun b =>
      { b with warmRun := some 3, flush := true }))
  ∧ (∀ s : State, exec .warmReqNRelease s = .next (s.modPins fun p => { p with warmArmed := true }))
  ∧ (∀ (s : State) (src : Nat), s.boot.warmRun = some src → s.flushed = true →
    exec .warmFlushDone s = .next ((s.takeReset src true false).leaveReset))
  ∧ (∀ (s : State) (src : Nat), s.boot.warmRun = some src →
    exec .warmFlushOverrun s = .next (((s.takeReset src false false).flag rRstCause 18).leaveReset))
  ∧ (∀ s : State, s.boot.halted = false → s.boot.phase = .ready → s.pins.blockReady = true → exec .watchdogExpire s = .next (s.warmRequest 5))
  ∧ (∀ s : State, s.boot.halted = false → s.boot.phase = .tolaro → s.pins.blockReady = false → exec .watchdogExpire s = .next (s.chipRequest 5))

/-- Chip requests, the power cycle and TREF (R59, R92, R117, R480, R496, R500).
Where a clause goes beyond the spec's words it is the model's choice (log entries 12, 28, 37). -/
def Obligations.ChipRequestsAndTrefEvents : Prop :=
  (∀ s : State, s.pins.chipRstReq = true → s.pins.resetN = true → s.rst.steps.contains .chip = true →
    exec .chipRstReqTimeout s = .next (((s.endSteps fun x => decide (x = .chip)).count rRstCount 31 24 1).askPower 1 s.boot.chipCause))
  ∧ (∀ (s : State) (reason src : Nat) (d : BitVec 64), s.pins.pwrcycReq = true → s.boot.pwrMsg = some (reason, src, d) → s.service ≠ .off →
      s.att.eid.isSome = true → exec .powerCycleMessageResend s = .next (s.emit (.pwrMsg (s.pwrBody reason src d))))
  ∧ (∀ s : State, s.service ≠ .off → exec .lockstepMismatch s = .next ((s.press 5 .done none 0).chipRequest 7))
  ∧ (∀ s : State, s.dt.st ≠ 2 → exec .trefLost s = .next (s.modDt fun d => { d with trefLost := true }))
  ∧ (∀ s : State, s.dt.st = 2 → exec .trefLost s = .next ((s.modDt fun d => { d with trefLost := true }).dtTo 3))
  ∧ (∀ s : State, s.service ≠ .off → exec .trefReturn s = .next (s.modDt fun d => { d with trefLost := false }))
  ∧ (∀ s : State, s.service = .off → exec .trefReturn s = .next (s.modDt fun d => { d with trefLost := false }).leaveReset)

/-- Retention entry and exit, the supply warning and the sensor captures (R63, R65, R66, R90, R469, R505): RET_REQ fences the partitions that are not
being scrubbed and flushes; with the flush done RET_READY rises and the latch is set; a withdrawn request is undone; a supply warning freezes the press
record on its record; an enabled sensor at its active level is captured, and halts the block once its fuses are sensed.
Where a clause goes beyond the spec's words it is the model's choice (log entry 37). -/
def Obligations.RetentionSupplyAndSensors : Prop :=
  (∀ s : State, s.runs = true → s.pins.retReq = false → s.pins.chipRstReq = false → s.boot.warmRun = none → s.boot.retRun = false →
    exec .retReqRise s
      = .next (((each (s.held.filter fun p => decide (s.pst p ≠ 5)) State.fencePart (s.modPins fun p => { p with retReq := true })).backWhere
          fun _ => true).modBoot fun b =>
          { b with retRun := true, flush := true, retFenced := b.retFenced ++ s.held.filter fun p => decide (s.pst p ≠ 5) }))
  ∧ (∀ s : State, s.boot.retRun = true → s.flushed = true → s.boot.warmRun = none → s.pins.retReq = true →
    exec .retentionFlushDone s = .next ((s.modBoot fun b => { b with retRun := false, flush := false, retLatch := true }).modPins fun p =>
      { p with retReady := true }))
  ∧ (∀ s : State, s.boot.retRun = true → s.flushed = true → s.boot.warmRun = none → s.pins.retReq = false →
    exec .retentionFlushDone s = .next (s.modBoot fun b => { b with retRun := false, flush := false }).retUndo)
  ∧ (∀ s : State, s.service ≠ .off → s.pins.retReady = true →
    exec .retReqFall s = .next (s.modPins fun p => { p with retReq := false, retReady := false }).retUndo)
  ∧ (∀ s : State, s.pins.retReady = false → exec .retReqFall s = .next (s.modPins fun p => { p with retReq := false }))
  ∧ (∀ s : State, s.pins.supplyLow = false → s.pins.vddRet = true →
    exec .supplyWarnAssert s = .next ((s.modPins fun p => { p with supplyLow := true }).freezePress .supply 11 .done none 0))
  ∧ (∀ s : State, s.pins.supplyLow = true → s.service ≠ .off → s.boot.burning = true →
    exec .supplyWarnRelease s = .next ((s.modPins fun p => { p with supplyLow := false }).chipRequest 10))
  ∧ (∀ s : State, s.pins.supplyLow = true → s.service ≠ .off → s.boot.burning = false →
    exec .supplyWarnRelease s = .next (s.modPins fun p => { p with supplyLow := false }).burnStart)
  ∧ (∀ (s : State) (i : Nat) (level : Bool), i < 16 → bit (s.fuseW 0x11) i = true → bit (s.fuseW 0x11) (16 + i) = level → s.pins.vddRet = true →
      s.boot.sensed = false → exec (.sensorCapture i level) s = .next (s.modPins fun p => { p with sns := setBit p.sns i true }))
  ∧ (∀ (s : State) (i : Nat) (level : Bool), i < 16 → bit (s.fuseW 0x11) i = true → bit (s.fuseW 0x11) (16 + i) = level → s.pins.vddRet = true →
      s.boot.sensed = true → s.service ≠ .off → s.boot.breached = false →
    exec (.sensorCapture i level) s = .next ((s.modPins fun p => { p with sns := 0 }).breach 10 0))
  ∧ (∀ (s : State) (i : Nat) (level : Bool), 16 ≤ i ∨ bit (s.fuseW 0x11) i = false ∨ bit (s.fuseW 0x11) (16 + i) ≠ level →
    exec (.sensorCapture i level) s = .next s)

/-- The breach halt (R232): every held egress item is discarded, BREACH_N falls, CHIP_RST_REQ rises with cause 6, no memory slot is
left LIVE or RETIRING (the wipe zeroises each), requests to memory, operations that wait and control-engine messages go, a warm reset or retention entry under
way ends, the derived-key cache and the metadata cache are invalidated, and no unit but the registers runs.
Where a clause goes beyond the spec's words it is the model's choice (log entry 46). -/
def Obligations.BreachHaltsTheBlock : Prop :=
  ∀ (s : State) (src addr : Nat), s.boot.breached = false →
    let t := s.breach src addr
    t.boot.breached = true ∧ t.runs = false ∧ t.admits = false ∧ t.pins.breachN = false ∧ t.pins.chipRstReq = true ∧ t.boot.chipCause = 6
    ∧ t.rst.steps.contains .chip = true ∧ t.sg.mdc = [] ∧ t.sg.merge = [] ∧ t.sg.accs = [] ∧ t.sg.rds = [] ∧ t.sg.north = [] ∧ t.hst.held = [] ∧ t.cmd.cdm = []
    ∧ t.key.dkc = []
    ∧ (∀ n, (t.slot n).use = 0 → (t.slot n).st = 0 ∨ (t.slot n).st = 3)
    ∧ (∀ n, (s.slot n).use = 0 → (s.slot n).st ≠ 0 → (s.slot n).st ≠ 3 → s.key.refill.get none n = none →
        (s.wipeMemSlots.slot n).st = 0 ∨ ((s.wipeMemSlots.slot n).st = 3 ∧ (s.wipeMemSlots.slot n).value = 0))
    ∧ t.boot.warmRun = none ∧ t.boot.retRun = false ∧ t.sg.saQ = [] ∧ t.key.cce = [] ∧ t.fuse = s.fuse ∧ t.params = s.params

/-- Bring-up (R94, R154, R201, R461, R463, R470, R532): the fuses are sensed and the outputs take the fuse map, then the copies of the
life-cycle state that agree with the decision are completed, or an error or a profile that differs decides without burns; a burn pulse that reads back blows its bit
and the next is tried; the secret is drawn and its words burned; an erased user area is marked WIPED and its contents go; the anchor is Unowned.
Where a clause goes beyond the spec's words it is the model's choice (log entries 19, 34, 39). -/
def Obligations.BringUpEventsTakeEffect : Prop :=
  (∀ s : State, s.boot.phase = .sensing → s.boot.breached = false → s.pins.sns = 0 →
    let t := (s.modBoot fun b => { b with sensed := true, senseErr := true, mismatch := true }).modPins fun p =>
      { p with trigOut := (s.fuseW 0x12).setWidth 16, pfenceReq := ~~~((s.fuseW 0x13).setWidth 16), engReq := ~~~(s.fuseW 0x14),
               cstop := !bit (s.fuseW 0x15) 0 }
    exec (.fuseSenseDone true) s = .next (t.modBoot fun b => { b with noMajority := false }).settle463)
  ∧ (∀ s : State, s.boot.phase = .sensing → s.boot.breached = false → s.pins.sns = 0 → s.profileOk = true →
    let t := ((s.modBoot fun b => { b with sensed := true, senseErr := false, mismatch := false }).modPins fun p =>
      { p with trigOut := (s.fuseW 0x12).setWidth 16, pfenceReq := ~~~((s.fuseW 0x13).setWidth 16), engReq := ~~~(s.fuseW 0x14),
               cstop := !bit (s.fuseW 0x15) 0 }).modBoot fun b => { b with noMajority := s.majority.isNone }
    exec (.fuseSenseDone false) s = .next ((t.phaseTo .burning).setBurns .copies (t.lcTarget.elim [] fun st =>
      (lcCopies.map fun w => if within (t.fuse64 w) (lcCode st) then t.missing w (lcCode st) 64 else []).flatten)).burnOn)
  ∧ (∀ (s : State) (w b : Nat) (rest : List (Nat × Nat)), s.boot.burnGo = true → s.boot.burnQ = (w, b) :: rest →
    exec (.fusePgmDone true) s = .next ((s.burn w b).modBoot fun x =>
      { x with burnGo := false, burnQ := rest, burnTry := 0, burnBits := satAdd 65535 x.burnBits 1 }).burnOn)
  ∧ (∀ (s : State) (w b : Nat) (rest : List (Nat × Nat)), s.boot.burnGo = true → s.boot.burnQ = (w, b) :: rest → s.boot.burnTry < 3 →
    exec (.fusePgmDone false) s = .next (s.modBoot fun x => { x with burnGo := false, burnTry := x.burnTry + 1 }).burnOn)
  ∧ (∀ s : State, s.boot.phase = .husWait → s.key.rngReady = true → s.boot.breached = false → s.pins.chipRstReq = false →
    let v : BitVec 256 := s.free.setWidth 256
    let t := s.drawnPr.modBoot fun b => { b with husDraw := some v, phase := .burning }
    exec .husGenerate s = .next (t.setBurns .husWords (t.missing 0 v.toNat 256)).burnOn)
  ∧ (∀ s : State, s.boot.phase = .wiping → s.boot.breached = false → s.pins.chipRstReq = false →
    let t := (s.modAtt fun a => { a with chain := none, fabricRoots := [], mgmtRoots := [], rejoin := [] }).modObs fun o => { o with log := [] }
    exec (.userAreaEraseDone true true) s = .next ((t.phaseTo .burning).setBurns .wiped (t.missing 0x31 0xFFFFFF 24)).burnOn)
  ∧ (∀ s : State, s.service ≠ .off → s.boot.decided = true → s.boot.warmClass = false → s.boot.anchorInit = false →
    exec .anchorInitDone s = .next ((s.modSg fun g => { g with anchors := [] }).modBoot fun b => { b with anchorInit := true }))

/-- Snowdrop and Tolaro (R151, R155, R448, R483, R526): Snowdrop records the measurement, retires kept slots bound to another one, derives the keys, draws
the sealing secret of slot 4, raises BREACH_N once RESET_N has been seen and goes to Tolaro; at the end of Tolaro BLOCK_READY rises with every fence and engine request low;
a partition whose rejoin record can be used is assigned anew.
Where a clause goes beyond the spec's words it is the model's choice (log entries 7, 32, 35, 50, 60). -/
def Obligations.BootImagesTakeEffect : Prop :=
  (∀ (s : State) (mfw : Digest) (svn mib : Nat), s.boot.phase = .snowdrop → s.boot.anchorInit = true → s.boot.breached = false →
      s.pins.chipRstReq = false → s.key.rngReady = true →
    ∃ t : State, exec (.snowdrop mfw svn mib) s = .next t ∧ t.boot.phase = .tolaro ∧ t.key.mfw = mfw ∧ t.key.svn = svn % 2 ^ 32
      ∧ t.key.rootLocked = true ∧ t.att.flash = some mib ∧ t.pins.breachN = (s.pins.breachN || s.boot.rstnSeen) ∧ t.boot.bootAuth = s.boot.dbgAuth)
  ∧ (∀ s : State, s.boot.phase = .tolaro → s.boot.breached = false → s.pins.chipRstReq = false → s.boot.pwrOff = false →
    ∃ t : State, exec .tolaroBootDone s = .next t ∧ t.boot.phase = .ready ∧ t.pins.blockReady = true ∧ t.pins.pfenceReq = 0 ∧ t.pins.engReq = 0
      ∧ t.pins.cstop = false)
  ∧ (∀ (s : State) (p : Nat) (r : Rejoin), s.runs = true → s.pins.chipRstReq = false → s.boot.warmClass = false →
      s.boot.phase = .tolaro ∨ s.boot.phase = .ready → s.pst p = 0 → p < 16 → s.key.rngReady = true → s.record p = some r →
      (s.recordEntries r).isSome = true →
    exec (.rejoinReassign p) s = .next (s.reassign p r))

/-- Handshakes of fences and resets (R86, R88, R494 to R496): the acknowledge pins are followed; PFENCE_ACK high answers what is left of the partition, or
lowers a request whose fence has been withdrawn, and low lets a
fence that waited raise its request; ENG_RST_ACK high lowers the request, low ends the engine reset; an overdue step escalates.
Where a clause goes beyond the spec's words it is the model's choice (log entries 37, 45). -/
def Obligations.HandshakesAreFollowed : Prop :=
  (∀ (s : State) (q : Nat), q < 16 → s.service ≠ .off → bit s.pins.pfenceReq q = true → s.pfenceWant q = true →
    exec (.pfenceAckRise q) s = .next (((s.modPins fun y => { y with pfenceAck := setBit y.pfenceAck q true }).fenceMn fun _ p =>
      decide (p = q)).resetsGo))
  ∧ (∀ (s : State) (q : Nat), q < 16 → s.service ≠ .off → bit s.pins.pfenceReq q = true → s.pfenceWant q = false →
    exec (.pfenceAckRise q) s = .next ((s.modPins fun y => { y with pfenceAck := setBit y.pfenceAck q true }).lowerPfence q))
  ∧ (∀ (s : State) (q : Nat), q < 16 → s.service ≠ .off → s.pfenceWant q = true →
    exec (.pfenceAckFall q) s = .next ((s.modPins fun y => { y with pfenceAck := setBit y.pfenceAck q false }).raisePfence q))
  ∧ (∀ (s : State) (e d q : Nat) (ps : List Pend) (f : Bool), e < 32 → s.service ≠ .off → bit s.pins.engReq e = true →
      s.engStep e = some (.engine d q false ps f) →
    exec (.engRstAckRise e) s = .next (((s.modPins fun y => { y with engAck := setBit y.engAck e true }).modPins fun y =>
      { y with engReq := setBit y.engReq e false }).modRst fun r =>
        { r with steps := r.steps.map fun x => if x.onEngine e then .engine e q true ps f else x }))
  ∧ (∀ (s : State) (e d q : Nat) (ps : List Pend) (f : Bool), e < 32 → s.service ≠ .off →
      s.engStep e = some (.engine d q true ps f) →
    exec (.engRstAckFall e) s = .next ((s.modPins fun y => { y with engAck := setBit y.engAck e false }).engineEnd (.engine d q true ps f)))
  ∧ (∀ (s : State) (e : Nat), e < 32 → s.service ≠ .off → s.engStep e = none →
    exec (.engRstAckFall e) s = .next (s.modPins fun y => { y with engAck := setBit y.engAck e false }).resetsGo)
  ∧ (∀ s : State, s.service ≠ .off → s.boot.phase = .ready →
    exec .cstopAckRise s = .next (s.modPins fun y => { y with cstopAck := true }).lowerCstop)
  ∧ (∀ s : State, s.service = .off ∨ s.boot.phase ≠ .ready →
    exec .cstopAckRise s = .next (s.modPins fun y => { y with cstopAck := true }))
  ∧ (∀ s : State, s.service ≠ .off → s.dt.stops.any (fun x => x.2.active) = true →
    exec .cstopAckFall s = .next (s.modPins fun y => { y with cstopAck := false }).raiseCstop)
  ∧ (∀ (s : State) (p : Nat), s.service ≠ .off → s.rst.steps.contains (.partition p) = true →
    exec (.escalationDeadline 3 p) s
      = .next (((s.endSteps fun x => decide (x = .partition p)).count rRstCount 31 24 1).chipRequest 9))
  ∧ (∀ s : State, s.service ≠ .off → exec (.escalationDeadline 4 0) s = .next s.chipHung)

/-- Scrub and teardown (R417, R501, R502): the scrub goes through its steps, anchors of the partition set Unowned, its regions filled with zeros under
a slot of their own where it asked,
its slots retired, the partition FREE; a drained teardown runs its remaining steps.
Where a clause goes beyond the spec's words it is the model's choice (log entry 38). -/
def Obligations.ScrubStepsFollow : Prop :=
  (∀ (s : State) (p : Nat), s.runs = true → (s.part p).st = 5 → (s.part p).scrub = 1 →
    exec (.scrubStepDone p) s = .next ((s.scrubRetire p).modPart p fun y => { y with scrub := 2 }))
  ∧ (∀ (s : State) (p : Nat), s.runs = true → (s.part p).st = 5 → (s.part p).scrub = 2 →
      (s.part p).zeroFill = false ∨ s.params.profile = .s →
    exec (.scrubStepDone p) s
      = .next (((s.scrubAnchors p).endSteps fun y => decide (y = .partition p)).modPart p fun y => { y with scrub := 4 }))
  ∧ (∀ (s : State) (p z : Nat), s.runs = true → (s.part p).st = 5 → (s.part p).scrub = 2 → (s.part p).zeroFill = true → s.params.profile ≠ .s →
      s.key.rngReady = true → (s.scrubAnchors p).takeSlot p = some z →
    exec (.scrubStepDone p) s
      = .next (((((s.scrubAnchors p).endSteps fun y => decide (y = .partition p)).fill z p 0 0 false false true false
          ((s.free.setWidth 256).setWidth 512)).drawnPr.modPart p fun y => { y with zslot := some z, zero := s.entriesOf p }).modPart p fun y =>
          { y with scrub := 3 }))
  ∧ (∀ (s : State) (p z : Nat), s.runs = true → (s.part p).st = 5 → (s.part p).scrub = 3 → (s.part p).zero = [] → (s.part p).zslot = some z →
    exec (.scrubStepDone p) s = .next ((((s.retire z).finishRetire z).modPart p fun y => { y with zslot := none }).modPart p fun y =>
      { y with scrub := 4 }))
  ∧ (∀ (s : State) (p : Nat), s.runs = true → (s.part p).st = 5 → (s.part p).scrub = 4 → exec (.scrubStepDone p) s = .next (s.scrubFree p))
  ∧ (∀ (s : State) (p e z : Nat), s.runs = true → (s.part p).st = 5 → (s.part p).scrub = 3 → (s.part p).zero.contains e = true →
      (s.part p).zslot = some z →
    exec (.zeroFillRegion p e) s
      = .next (((s.modPart p fun y => { y with zero := y.zero.filter fun x => decide (x ≠ e) }).setAnchor e Anchor.unowned).zeroRegion p e z))
  ∧ (∀ (s : State) (c : Nat), ((s.ctxResetEnd c).ctx c).st = 3 → (s.ctxResetEnd c).drained c = true →
    exec (.teardownDrainEnd c) s = .next (((s.ctxResetEnd c).endSteps (Step.onCtx c)).teardownEnd c))

/-- Domain time (R59, R110, R115, R117, R121): the control commands write DT_CTRL; losing the source in LOCKED goes to HOLDOVER, the limit to UNLOCKED and
the bound clears BOUND; a backup grandmaster takes over; the intervals send their messages on the ports of their role.
Where a clause goes beyond the spec's words it is the model's choice (log entries 28, 45, 55). -/
def Obligations.DomainTimeEventsTakeEffect : Prop :=
  (∀ (s : State) (rq : Rq) (gm bk : Bool), s.PortOpen rq →
    exec (.dtEnable rq gm bk) s = .next ((s.otherAccess.dtCtrl true gm bk).emit (.ctl 0 false)))
  ∧ (∀ (s : State) (rq : Rq), s.PortOpen rq →
    exec (.dtDisable rq) s = .next ((s.otherAccess.dtCtrl false (bit (s.otherAccess.reg rDtCtrl) 1)
      (bit (s.otherAccess.reg rDtCtrl) 2)).emit (.ctl 0 false)))
  ∧ (∀ s : State, s.dt.st = 2 → s.dt.slave ≠ 31 → exec .syncTimeout s = .next (s.dtTo 3))
  ∧ (∀ s : State, s.dt.st = 3 → exec .holdoverLimitExpire s = .next (s.dtTo 4))
  ∧ (∀ s : State, s.dt.st = 3 → exec .holdoverBoundExpire s = .next (s.modDt fun d => { d with bound := false }))
  ∧ (∀ s : State, s.dt.st ≠ 0 → bit (s.reg rDtCtrl) 2 = true → bit (s.reg rDtCtrl) 1 = false → s.followable = none →
    exec .backupGmTakeover s = .next (s.modDt fun d => { d with takeover := true, slave := 31, steps := 0 }))
  ∧ (∀ s : State, exec .syncInterval s = .next (each (s.ptpPorts fun r => decide (r = 1))
      (fun k t => (t.ptpSend k true 1 (t.ptp k).seq 0 0 0).ptpNext k) s))
  ∧ (∀ s : State, exec .pdelayReqInterval s = .next (each (s.ptpPorts fun r => decide (r ≠ 0))
      (fun k t => ((t.ptpSend k true 2 (t.ptp k).seq 0 0 0).modPtp k fun y => { y with t1 := none, t2 := none, t4 := none }).ptpNext k) s))
  ∧ (∀ s : State, exec .announceInterval s = .next (each (s.ptpPorts fun r => decide (r = 1))
      (fun k t => (t.ptpSend k false 6 (t.ptp k).seq 0 t.dt.steps t.dt.st).ptpNext k) s))

/-- Time stamps and messages of the precision time protocol (R78, R110 to R114): the oldest marked frame's stamp gives the follow-up of a Sync or a Pdelay_Resp, or t1
of a Pdelay exchange; a stamp that is not returned drops the sample and counts; a message of the block-owned session is taken at its
receive time; one of a partition's session, of another domain or profile, or of another kind is counted. -/
def Obligations.TimeStampsAndMessagesAreTaken : Prop :=
  (∀ (s : State) (k label : Nat) (i lat : Int) (rest : List (Nat × Option Int)), (s.ptp k).txMarks = (label, some i) :: rest →
    let tx := i + (Int.ofNat (s.fld (rDtPortLat k) 15 0) + lat) * 256
    let t := s.modPtp k fun y => { y with txMarks := rest }
    exec (.txTimestampReturn k lat) s = .next
      (if label % 4 = 1 then t.ptpSend k false 4 (label / 4) tx 0 0
       else if label % 4 = 2 then t.modPtp k fun y => { y with t1 := some (label / 4, tx) } else t.ptpSend k false 5 (label / 4) tx 0 0))
  ∧ (∀ (s : State) (k : Nat) (m : Nat × Option Int) (rest : List (Nat × Option Int)), (s.ptp k).txMarks = m :: rest →
    exec (.txTimestampTimeout k) s
      = .next ((s.modPtp k fun y => { y with txMarks := rest }).modDt fun d => { d with tsDropped := d.tsDropped + 1 }))
  ∧ (∀ (s t : State) (h : RxHdr) (m : PtpKind) (adj : Int), (h.cover = true ∨ h.event = ptpEvent m) → s.Receives h 0x13 0 t → m ≠ .other →
      t.dt.st ≠ 0 → t.fld (rDtPortCfg h.port) 1 0 ≠ 0 →
    exec (.ptpMessage h m 0 0 adj) s
      = .next (t.ptpTake h.port (t.fine - (Int.ofNat (t.fld (rDtPortLat h.port) 31 16) + adj) * 256) m))
  ∧ (∀ (s t : State) (h : RxHdr) (m : PtpKind) (adj : Int) (d x si : Nat), (h.cover = true ∨ h.event = ptpEvent m) → s.Receives h 0x13 si t →
      (si ≠ 0 ∨ d ≠ 0 ∨ x ≠ 0 ∨ m = .other) →
    exec (.ptpMessage h m d x adj) s = .next (t.modDt fun d => { d with ptpIgnored := d.ptpIgnored + 1 }))

/-- Measurements of the chip (R96, R429): an image extends its register with sha384(reg || sha384(image)) until MEAS_LOCK; after lock a transfer is counted,
closes every partition link session with reason 5 and ends every TENANT session. -/
def Obligations.MeasurementsExtendUntilLock : Prop :=
  (∀ (s : State) (i : Nat) (image : List Byte), s.service ≠ .off → s.att.measLock = false →
    exec (.measImage i image) s = .next (s.modAtt fun a =>
      { a with meas := a.meas.upd 0 (i % 16) fun r => Config.sha384 (beBytes 48 r.toNat ++ beBytes 48 (Config.sha384 image).toNat) }))
  ∧ (∀ (s : State) (i : Nat) (image : List Byte), s.service ≠ .off → s.att.measLock = true →
    let u := each parts16 (fun p => State.closePart p 5) (s.modAtt fun a => { a with discards := satAdd 65535 a.discards 1 })
    exec (.measImage i image) s = .next (each (u.cmd.sessions.filter u.isTenant) (fun x v => (v.emit (.req x.t 1)).endSecured x) u))
  ∧ (∀ s : State, s.service ≠ .off → exec .measLockRise s = .next (s.modAtt fun a => { a with measLock := true }))
  ∧ (∀ s : State, s.service ≠ .off → s.att.measLock = true →
    let u := each parts16 (fun p => State.closePart p 5) (s.modAtt fun a => { a with discards := satAdd 65535 a.discards 1 })
    exec .measDiscardAfterLock s = .next (each (u.cmd.sessions.filter u.isTenant) (fun x v => (v.emit (.req x.t 1)).endSecured x) u))

/-- The management bus (R451, R452): the block gives its 48-bit identifier and takes its bus address, joins, takes lengths of 64 to 256 bytes and answers the five control
messages of the component transport once it has an address, each after an in-band interrupt; endpoint identifiers 0 to 7 and 255 are refused (a choice of the model from the transport's own reserved values).
Where a clause goes beyond the spec's words it is the model's choice (log entries 9, 40, 71). -/
def Obligations.ManagementBusAnswers : Prop :=
  (∀ (s : State) (a : Nat), s.service ≠ .off →
    exec (.entdaa a) s = .next ((s.modAtt fun x => { x with i3cAddr := some (a % 128), hotJoin := false }).emit (.provisionalId s.provisionalId)))
  ∧ (∀ s : State, s.service ≠ .off → s.att.hotJoin = true →
    exec .hotJoinRequest s = .next ((s.modAtt fun a => { a with hotJoin := false }).emit .hotJoin))
  ∧ (∀ (s : State) (w : Bool) (n : Nat), s.busOn = true → 64 ≤ n → n ≤ 256 →
    exec (.setMaxLength w n) s = .next (s.modAtt fun a => if w then { a with maxWrite := n } else { a with maxRead := n }))
  ∧ (∀ (s : State) (w : Bool) (n : Nat), n < 64 ∨ 256 < n → exec (.setMaxLength w n) s = .next s)
  ∧ (∀ (s : State) (e f : Nat), s.busOn = true → 8 ≤ e → e < 255 →
    exec (.setEndpointId e f) s = .next (((s.modAtt fun a => { a with eid := some (e, f) }).emit (.ibi Config.ibiPending)).emit (.mctp 1 [0, 0, BitVec.ofNat 8 e, 0])))
  ∧ (∀ (s : State) (e f : Nat), s.busOn = true → e < 8 ∨ 255 ≤ e → exec (.setEndpointId e f) s = .next ((s.emit (.ibi Config.ibiPending)).emit (.mctp 1 [2])))
  ∧ (∀ s : State, s.busOn = true →
    exec .getEndpointId s = .next ((s.emit (.ibi Config.ibiPending)).emit (.mctp 2 [0, BitVec.ofNat 8 (s.att.eid.elim 0 fun e => e.1), 0, 0])))
  ∧ (∀ s : State, s.busOn = true → exec .getEndpointUuid s = .next ((s.emit (.ibi Config.ibiPending)).emit (.mctp 3 (0 :: leBytes 16 Config.endpointUuid.toNat))))
  ∧ (∀ s : State, s.busOn = true → exec .getMctpVersionSupport s = .next ((s.emit (.ibi Config.ibiPending)).emit (.mctp 4 (0 :: Config.mctpVersions 0))))
  ∧ (∀ s : State, s.busOn = true → exec .getMessageTypeSupport s = .next ((s.emit (.ibi Config.ibiPending)).emit (.mctp 5 [0, 3, 0, 5, 6])))

/-- Schedule entries that fire (R123, R132, R136, R140, R320, R326, R516, R520): an ARMED entry of its action that is due fires with its action's effect, after
the entries that come before it; a
resume entry that waited for its STOP to complete ends it; one that is not due does not fire; the pulse of a trigger output ends at its resting level.
Where a clause goes beyond the spec's words it is the model's choice (log entry 35). -/
def Obligations.ScheduledActionsFire : Prop :=
  (∀ (s t : State) (i : Nat), (s.sched i).st = 1 → s.isDue (s.sched i) = true → t = each (s.dueBefore i) State.fireDue s →
      t.sched i = s.sched i → t.isDue (s.sched i) = true →
    ((s.sched i).action = 1 → exec (.schedCommit i) s = .next (t.fire i false (State.actCommit i)))
    ∧ ((s.sched i).action = 2 → exec (.schedEpoch i) s = .next (t.fire i false (State.actEpoch i)))
    ∧ ((s.sched i).action = 3 → exec (.schedResalt i) s = .next (t.fire i false (State.actResalt i)))
    ∧ ((s.sched i).action = 4 → exec (.schedStop i) s = .next (t.fire i false (State.actStop i)))
    ∧ ((s.sched i).action = 5 → exec (.schedResume i) s = .next (t.fire i false (State.actResume i)))
    ∧ ((s.sched i).action = 6 → exec (.schedTraceTrig i) s = .next (t.fire i false (State.actTrace i)))
    ∧ ((s.sched i).action = 7 → exec (.schedDump i) s = .next (t.fire i false (State.actDump i)))
    ∧ ((s.sched i).action = 8 → exec (.schedTrigOut i) s = .next (t.fire i false (State.actTrig i))))
  ∧ (∀ (s : State) (i : Nat), (s.sched i).st ≠ 1 ∨ s.isDue (s.sched i) = false →
    exec (.schedCommit i) s = .next s ∧ exec (.schedEpoch i) s = .next s ∧ exec (.schedResalt i) s = .next s
    ∧ exec (.schedStop i) s = .next s ∧ exec (.schedTraceTrig i) s = .next s ∧ exec (.schedDump i) s = .next s
    ∧ exec (.schedTrigOut i) s = .next s)
  ∧ (∀ (s : State) (i : Nat), (s.sched i).st = 2 → (s.sched i).action = 5 → (s.stop (s.sched i).part).active = true →
      (s.stop (s.sched i).part).resume = some i → (s.stop (s.sched i).part).complete = true →
    exec (.schedResume i) s = .next (s.resume (s.sched i).part i))
  ∧ (∀ (s : State) (o : Nat), o < 16 → bit s.dt.pulse o = true →
    exec (.trigPulseEnd o) s = .next (each ((List.range 256).filter fun i =>
        decide ((s.sched i).st = 2) && decide ((s.sched i).action = 8) && decide ((s.sched i).param.toNat % 16 = o)) State.schedEnds
      ((s.modDt fun d => { d with pulse := setBit d.pulse o false }).modPins fun q => { q with trigOut := setBit q.trigOut o (s.restLevel o) })))

/-- Domain schedules and stops (R128, R131, R137): a marker goes on a session whose sealed frames are gone; received markers, entries and cancels take
effect; a marker that does not come loses the stop.
Where a clause goes beyond the spec's words it is the model's choice (log entries 35, 45, 56, 57). -/
def Obligations.DomainScheduleFramesTakeEffect : Prop :=
  (∀ (s : State) (k p : Nat), (s.stop p).active = true → (s.stop p).sent.contains k = false → (s.sess k (1 + p)).st = 3 → (s.port k).txq = [] →
    exec (.stopMarkerSend k p) s
      = .next ((s.setStop p { s.stop p with sent := (s.stop p).sent ++ [k] }).enqueue k (ctrlFrame (1 + p) 0x30 (markerPayload (s.stop p)))))
  ∧ (∀ (s t : State) (h : RxHdr) (o si : Nat) (id : Word), s.Receives h 0x30 si t →
    exec (.stopMarkerRx h o id) s = .next (t.applyMarker h.port o id si))
  ∧ (∀ (s : State) (p : Nat), exec (.stopMarkerTimeout p) s = .next ((s.stopLoses p (s.openPorts p)).resumeGo p))
  ∧ (∀ (s t : State) (h : RxHdr) (e : SchedReq) (o si : Nat), s.Receives h 0x31 si t →
    exec (.domainSchedEntryRx h e o) s = .next (t.applyEntry h e o si))
  ∧ (∀ (s t : State) (h : RxHdr) (o si : Nat) (id : Word), s.Receives h 0x32 si t →
    exec (.domainSchedCancelRx h o id) s = .next (t.applyCancel h o id si))

/-- Random numbers and engines (R145, R147, R166, R176, R177, R181 to R184): the start-up test makes the RNG ready, failed windows count and the sixteenth in a row is critical; a re-seed clears the
draws; a slot retires when nothing uses it and is freed when no anchor names it; a derivation delivers its key set; the engines complete their first message or operation.
Where a clause goes beyond the spec's words it is the model's choice (log entries 2, 45, 69). -/
def Obligations.KeyEnginesProceed : Prop :=
  (∀ s : State, s.service ≠ .off → exec .rngStartupPass s = .next (s.modKey fun k => { k with rngReady := true }))
  ∧ (∀ s : State, s.service ≠ .off → exec (.healthTestWindow true) s = .next (s.modKey fun k => { k with failRun := 0 }))
  ∧ (∀ s : State, s.service ≠ .off → s.key.failRun < 15 →
    exec (.healthTestWindow false) s
      = .next (s.modKey fun k => { k with failRun := s.key.failRun + 1, failTotal := satAdd 255 k.failTotal 1 }))
  ∧ (∀ s : State, s.service ≠ .off → s.key.failRun = 15 → s.key.rngFailed = false →
    exec (.healthTestWindow false) s
      = .next (((s.modKey fun k => { k with failRun := 16, failTotal := satAdd 255 k.failTotal 1 }).modKey fun k =>
          { k with rngFailed := true }).critical 2 .done none 0))
  ∧ (∀ s : State, s.key.rngReady = true →
    exec .drbgReseed s = .next (s.modKey fun k => { k with reseeds := satAdd 65535 k.reseeds 1, draws := 0 }))
  ∧ (∀ (s : State) (n : Nat), (s.slot n).st = 2 → s.slotBusy n = false → s.boot.phase = .ready →
    exec (.slotRetireComplete n true .none) s = .next (s.finishRetire n)
    ∧ exec (.slotRetireComplete n false .none) s = .next (s.critical 2 .done (if (s.slot n).block then none else some (s.slot n).part) n))
  ∧ (∀ (s : State) (n : Nat), (s.slot n).st = 3 → s.anchorNames n = false → exec (.slotRelease n) s = .next (s.setSlot n Slot.empty))
  ∧ (∀ (s : State) (a b c : Nat) (d : Deriv), (s.key.deriv.find? fun d => decide (d.tag = { slot := a, obj := b, gen := c })) = some d → d.stale = false →
      (s.slot a).st = 1 →
    exec (.derivationDone a b c .none) s
      = .next (((s.modKey fun k => { k with deriv := k.deriv.erase d }).insertKey d.part { slot := a, obj := b, gen := c }).flow)
    ∧ exec (.derivationDone a b c .double) s = .next (s.critical 2 .done (if (s.slot a).block then none else some (s.slot a).part) a))
  ∧ (∀ (s : State) (m : CceMsg) (rest : List CceMsg) (p : Pend) (out : List Byte), s.key.cce = m :: rest → m.p = some p →
      (m.mode ≠ 1 ∨ m.iv.toNat % 2 ^ 32 + (m.msg.length + 15) / 16 ≤ 2 ^ 32) →
      cceRun ((s.slot m.slot).value.setWidth 256) m = some out →
    exec (.cceMessageDone true .none) s
      = .next ((s.modKey fun k => { k with cce := rest }).okTrailer p 0 ((if m.ivGen then blockBytes m.iv else []) ++ out)))
  ∧ (∀ (s : State) (j : PkeJob) (rest : List PkeJob) (n : Nat) (label msg body : List Byte) (p : Pend), s.key.pke = j :: rest →
      j.ops = [.mldsaSign] → j.sign = some (n, label, msg) → (s.slot n).st = 1 → j.ends = .attest p body → s.key.rngReady = true →
    exec (.pkeOpDone .none) s = .next ((s.drawn.modKey fun k => { k with pke := rest }).okTrailer p 0
      (body ++ (j.sig ++ mldsaSig (s.slot n).value label msg s.free))))
  ∧ (∀ (s : State) (j : PkeJob) (rest : List PkeJob) (n : Nat) (label msg : List Byte) (op : PkeOp) (ops : List PkeOp), s.key.pke = j :: rest →
      j.ops = .ecSign :: op :: ops → j.sign = some (n, label, msg) → s.key.rngReady = true →
    exec (.pkeOpDone .none) s = .next (s.drawnPr.pkeNext
      { j with sig := j.sig ++ ecSig (s.slot n).value msg s.free, ops := op :: ops } rest))
  ∧ (∀ (s : State) (j : PkeJob) (rest : List PkeJob), s.key.pke = j :: rest → j.ops.head? = some .mldsaSign →
    exec .mldsaSignRestart s = .next (s.drawn.modKey fun k => { k with signRestarts := k.signRestarts + 1 }))

/-- The re-seal sweep (R170, R171, R252): the next region of the group that is not busy takes the new slot, its dirty merge entries written back first; a Wilted one
at once; a tamper halts the block, a region that cannot be verified is Wilted, any other is written whole under the new slot.
Where a clause goes beyond the spec's words it is the model's choice (log entries 32, 67). -/
def Obligations.ResealSweepTakesRegions : Prop :=
  ∀ (s t : State) (a : Anchor) (p n e : Nat) (rest : List Nat) (got : Swept),
    ((s.regionsOn p (s.reseal p).old).filter fun e => decide (s.groupOfEntry e = some n)) = e :: rest →
    (s.reseal p).active = true → s.runs = true → s.pst p ≠ 5 → s.regionBusy e = false →
    let next (u : State) : State := (u.setReseal p { u.reseal p with done := (u.reseal p).done + 1 }).resealEnd p
    let passed (u : State) : State := next (u.setAnchor e { u.anchor e with slot := (s.reseal p).new, counter := 0, full := false })
    ((∃ m ∈ s.sg.merge, m.entry = e ∧ m.dirty = true) →
      exec (.resealRegion p n got) s = .next (s.backWhere fun m => decide (m.entry = e)).flow)
    ∧ ((∀ m ∈ s.sg.merge, m.entry = e → m.dirty = false) → (s.commitWindow 2).useRegion e = (t, a) → a.restoring = false →
      (a.st = 2 → exec (.resealRegion p n got) s = .next (passed t))
      ∧ (∀ l : List SweptSect, a.st ≠ 2 → t.sweptRegion got n e = .inr l →
        exec (.resealRegion p n got) s = .next (next (t.resealTo p n e (s.reseal p).new l)))
      ∧ (∀ i : Nat, a.st ≠ 2 → t.sweptRegion got n e = .inl (.tamper i) → exec (.resealRegion p n got) s = .next (t.breach 1 i))
      ∧ (a.st ≠ 2 → t.sweptRegion got n e = .inl .wilt → exec (.resealRegion p n got) s = .next (passed (t.wiltRegion e .block))))

/-- Requests of the memory network port (R69, R187, R212 to R216, R234 to R258): one that the gate turns away is answered with its status; a read or write of an
unprotected address passes through to the memory; a protected one joins the merge entry that serves its sector, or reaches the sector; an atomic is carried out by the
arithmetic unit, with the rounding seed of its arrival.
Where a clause goes beyond the spec's words it is the model's choice (log entries 23, 24, 62, 63, 69). -/
def Obligations.MemoryRequestsTakeEffect : Prop :=
  (∀ (s t : State) (q : MnReq) (flips : Nat) (ecc : Bool) (p : Option Nat) (st : Status), s.mnThere q = true →
    (s.upset q.addr q.group flips).mnGate q (decide (q.op = 0) && lenOk q) = (t, .refuse p st) →
    exec (.mnRead q flips ecc) s = .next (t.mnNo q false p st))
  ∧ (∀ (s t : State) (q : MnReq) (flips : Nat) (ecc : Bool) (p : Option Nat), s.mnThere q = true →
    (s.upset q.addr q.group flips).mnGate q (decide (q.op = 0) && lenOk q) = (t, .pass p) →
    exec (.mnRead q flips ecc) s = .next (t.msRead q.group q.port q.addr (q.len + 1) (.pass q)))
  ∧ (∀ (s t : State) (q : MnReq) (flips : Nat) (ecc : Bool) (p e sect slot : Nat) (plot : PlotRes), s.mnThere q = true →
      (s.upset q.addr q.group flips).mnGate q (decide (q.op = 0) && lenOk q) = (t, .prot p e sect slot plot) →
    let a : Acc := Acc.mk0 .read .mn q p e sect (t.lbn e sect) slot plot 0 0
    exec (.mnRead q flips ecc) s = .next (match t.entryFor { a with id := t.sg.nextAcc } with
      | some m => (t.joinEntry m { a.op with mism := if ecc then 3 else 0 }).flow
      | none => t.reach a))
  ∧ (∀ (s t : State) (q : MnReq) (data : Sector) (be : BitVec 256) (flips : Nat) (ecc : Bool) (p : Option Nat), s.mnThere q = true →
      (s.upset q.addr q.group flips).mnGate q (decide (q.op = 1) && lenOk q && decide (be.toNat < 2 ^ (64 * (q.len + 1)))) = (t, .pass p) →
    exec (.mnWrite q data be flips ecc) s = .next (t.passWrite q p data be))
  ∧ (∀ (s t : State) (q : MnReq) (data : Sector) (be : BitVec 256) (flips : Nat) (ecc : Bool) (p e sect slot : Nat) (plot : PlotRes), s.mnThere q = true →
      (s.upset q.addr q.group flips).mnGate q (decide (q.op = 1) && lenOk q && decide (be.toNat < 2 ^ (64 * (q.len + 1)))) = (t, .prot p e sect slot plot) →
    let a : Acc := Acc.mk0 (if decide (q.len = 3) && decide (be = BitVec.allOnes 256) then .full else .partW)
      .mn q p e sect (t.lbn e sect) slot plot (data <<< reqShift q) (be <<< (q.addr % 256))
    exec (.mnWrite q data be flips ecc) s = .next (match t.entryFor { a with id := t.sg.nextAcc } with
      | some m => (t.joinEntry m { a.op with mism := if ecc then 3 else 0 }).flow
      | none => t.reach a))
  ∧ (∀ (s t : State) (q : MnReq) (data : Beat) (be : BitVec 128) (flips mism p e sect slot : Nat) (plot : PlotRes), s.mnThere q = true →
      (s.upset q.addr q.group flips).mnGate q (scalarOk q.op q.attr && decide (q.len = 0) && lenOk q && scalarBe (sizeBytes (bits q.attr 1 0)) be)
        = (t, .prot p e sect slot plot) →
    exec (.mnScalarAtomic q data be flips mism) s = .next (t.arith
      { q := q, data := data.setWidth 2048, be := be.setWidth 256, part := p, mism := mism, reply := scalarRet q.op q.attr,
        dest := .mn, round := none } e sect slot plot))
  ∧ (∀ (s t : State) (q : MnReq) (data : Sector) (be : BitVec 256) (flips mism p e sect slot : Nat) (plot : PlotRes), s.mnThere q = true → bit q.attr 2 = false →
      (s.upset q.addr q.group flips).mnGate q (vectorOk q.op q.attr && decide (q.addr % 256 = 0)
          && decide (q.len + 1 = ((srcSize q.op (bits q.attr 1 0)).getD 0 + 63) / 64) && enablesOk q.op (bits q.attr 1 0) be)
        = (t, .prot p e sect slot plot) →
    exec (.mnVectorAccumulate q data be flips mism) s = .next (t.arith
      { q := { q with attr := q.attr &&& 0xFB#8 }, data := data, be := be, part := p, mism := mism, reply := false,
        dest := .mn, round := none } e sect slot plot))
  ∧ (∀ (s t : State) (q : MnReq) (data : Sector) (be : BitVec 256) (flips mism r p e sect slot : Nat) (plot : PlotRes), s.mnThere q = true →
      bit q.attr 2 = true → accFloat (bits q.attr 1 0) = true → s.mnPart q = some r → (s.roundSeed r).isSome = true →
      (s.upset q.addr q.group flips).mnGate q (vectorOk q.op q.attr && decide (q.addr % 256 = 0)
          && decide (q.len + 1 = ((srcSize q.op (bits q.attr 1 0)).getD 0 + 63) / 64) && enablesOk q.op (bits q.attr 1 0) be)
        = (t, .prot p e sect slot plot) →
    exec (.mnVectorAccumulate q data be flips mism) s = .next (t.arith
      { q := q, data := data, be := be, part := p, mism := mism, reply := false, dest := .mn, round := t.roundNow p } e sect slot plot))

/-- The memory side and its upkeep (R69 to R75, R198, R207, R209, R213, R230, R252, R294 to R296): responses and acknowledgements go where their request
waits; a ready access is verified, a waiting partial write takes a free lock; patrol, restore, write-back and gating proceed.
Where a clause goes beyond the spec's words it is the model's choice (log entries 24, 33, 61, 69). -/
def Obligations.MemorySideProceeds : Prop :=
  (∀ (s : State) (n port tag : Nat) (d : Beat) (ue : Bool) (r : MsRd) (q : MnReq), s.service ≠ .off → tag < 1024 →
      (s.sg.rds.find? fun x => decide (x.group = n) && decide (x.port = port) && decide (x.tag = tag) && decide (tag < 1024)) = some r → r.what = .pass q →
    exec (.msReadResponse n port tag d ue true) s
      = .next (((s.modSg fun g => { g with rds := s.sg.rds.filter fun x => decide (x ≠ r) }).msNext n port).emit
          (.mnD q.group q.port q.tag [if ue then 0 else d] (if ue then .poisoned else .done) false true)))
  ∧ (∀ (s : State) (n port tag : Nat) (w : MsWr) (q : MnReq), s.service ≠ .off → tag < 1024 →
      (s.sg.wr.find? fun x => decide (x.group = n) && decide (x.port = port) && decide (x.tag = tag) && decide (tag < 1024)) = some w → w.what = .pass q →
    exec (.msWriteAck n port tag) s
      = .next (((s.modSg fun g => { g with wr := g.wr.filter fun x => decide (x ≠ w) }).msNext n port).mnNoData q true .done))
  ∧ (∀ (s : State) (i : Nat) (a : Acc), s.acc i = some a → s.runs = true → s.ready a = true →
      (∀ b ∈ s.sg.accs, ∀ x, b.serve ≠ .plot i x) → exec (.accessVerifyDone i) s = .next (s.verify a))
  ∧ (∀ (s : State) (i : Nat) (a : Acc), s.acc i = some a → a.waiting = true → a.kind.locks = true → s.mayStart a = true →
    exec (.sectorLockGrant i) s = .next ((s.cntr a.part 7 (Config.waitedCycles s.fresh)).used.issue a).flow)
  ∧ (∀ (s : State) (l : LineId) (x : Line), s.line l = some x → s.runs = true → ¬(x.way = 16 ∧ x.st = .clean ∧ s.lineUsed l = false) →
      s.leaves x = true → l.kind = .tag ∨ l.kind = .mac → exec (.metadataWriteBack l) s = .next (s.sendLine x x.words))
  ∧ (∀ (s t u : State) (l : LineId) (x : Line) (a : Anchor) (ms : List LineId), s.line l = some x → s.runs = true →
      ¬(x.way = 16 ∧ x.st = .clean ∧ s.lineUsed l = false) → s.leaves x = true → l.kind ≠ .tag → l.kind ≠ .mac → treeLevel l.kind = s.topLevel →
      s.useRegion l.entry = (t, a) → a.st = 1 → treeLevel l.kind = t.topLevel → t.needLine a.part (t.macLine l) = (u, ms) →
      (ms.any fun m => (u.line m).any fun y => !y.here) = false → treeLevel l.kind = u.topLevel →
    exec (.metadataWriteBack l) s = .next (u.backNode x (treeLevel l.kind)))
  ∧ (∀ (s t : State) (e flips : Nat) (a : Anchor) (bad : Bool), e < 2097152 → s.runs = true →
      (s.setAnchor e { s.anchor e with err := (s.anchor e).err + flips }).useAnchor e = (t, a, bad) →
    exec (.anchorPatrol e flips) s = .next (if bad ∧ !a.restoring then (t.wiltRegion e .block).flow else t))
  ∧ (∀ (s : State) (e p : Nat), (s.anchor e).restoring = true →
      (s.held.find? fun p => (s.part p).ranges.any fun r => s.regionIn e r.1 r.2) = some p →
    exec (.anchorRestore e) s
      = .next (s.setAnchor e { Anchor.unowned with counter := BitVec.allOnes 64, part := p, slot := (s.part p).slot, st := 2 }))
  ∧ (∀ (s : State) (e : Nat), (s.anchor e).restoring = true →
      (s.held.find? fun p => (s.part p).ranges.any fun r => s.regionIn e r.1 r.2) = none →
    exec (.anchorRestore e) s = .next (s.setAnchor e Anchor.unowned))
  ∧ (∀ (s : State) (n lbn : Nat) (m : MEntry), s.entry n lbn = some m → s.runs = true → m.dirty = true → m.ready = true → m.ops = [] →
      (s.sg.accs.any fun a => decide (a.kind = .back) && decide (a.lbn = lbn)) = false →
    exec (.mergeIdleWriteBack n lbn false) s = .next (s.backEntry m).flow
    ∧ exec (.mergeIdleWriteBack n lbn true) s = .next ((s.mismatch n .done (some m.part) m.addr).saHalt n lbn).flow)
  ∧ (∀ (s : State) (u : Nat), s.unitHere u = true → (s.gunit u).awake = true → (s.gunit u).demand = none → s.neverGates u = false →
      s.fld rGlbWake 15 8 ≠ 0 → s.share.winGate + unitWeight u ≤ s.wakeStep →
    exec (.laneGate u) s
      = .next ((s.modUnit u fun y => { y with awake := false }).modShare fun y => { y with winGate := y.winGate + unitWeight u }))
  ∧ (∀ (s : State) (u : Nat), s.unitHere u = true → (s.gunit u).awake = true → s.gatesAll = true → s.share.winGate + unitWeight u ≤ s.wakeStep →
    exec (.laneGate u) s
      = .next ((s.modUnit u fun y => { y with awake := false }).modShare fun y => { y with winGate := y.winGate + unitWeight u }))
  ∧ (∀ s : State, s.gatesAll = false →
    exec .laneWake s = .next (each (s.modShare fun x => { x with winWake := 0, winGate := 0 }).wakeOrder State.wakeOne
      (s.modShare fun x => { x with winWake := 0, winGate := 0 })))

/-- Remote operations (R262, R266 to R273, R313, R383): frames received for the memory, the memoisation cache and the queries take effect; a retry is sent before 3 ms, the deadline
ends the operation INDETERMINATE or MEMBER_LOST, a query is repeated up to ten times; an entry that expires leaves the memo. Nothing of it happens in a STOP.
Where a clause goes beyond the spec's words it is the model's choice (log entries 25, 45, 62, 64, 65). -/
def Obligations.RemoteOperationsProceed : Prop :=
  (∀ (s t : State) (h : RxHdr) (r : RaReq) (m si : Nat), s.Receives h 0x40 si t →
    exec (.ratomicRequestRx h r m) s = .next (t.applyAtomic h r m si))
  ∧ (∀ (s t : State) (h : RxHdr) (r : RaReq) (si : Nat), s.Receives h 0x42 si t → exec (.outcomeQueryRx h r) s = .next (t.applyQuery h r si))
  ∧ (∀ (s t : State) (h : RxHdr) (r : RaRep) (si : Nat), s.Receives h (if r.query then 0x43 else 0x41) si t →
      r.status ≠ .breach → r.origStatus ≠ .breach → exec (.ratomicReplyRx h r) s = .next (t.applyReply h r si))
  ∧ (∀ (s t : State) (h : RxHdr) (r : RwReq) (si : Nat), s.Receives h (if r.write then 0x22 else 0x20) si t →
    exec (.remoteRwRequestRx h r) s = .next (t.applyRw h r si))
  ∧ (∀ (s t u v : State) (h : RxHdr) (r : RaReq) (m p a g e sect slot : Nat) (plot : PlotRes), s.Receives h 0x40 (p + 1) t →
      r.dst = t.memberOf p → t.params.profile = .m → t.memoRule p (t.domainOf p) r.src r.txid r.issue = none →
      t.atomicRuns (t.domainOf p) r = false → t.atomicOk p r = true →
      t.remotePlace p r.obj r.gen r.offset (if r.op < 0x20 then sizeBytes (bits r.attr 1 0) else 256) = (u, .ok (a, g, e, sect, slot)) →
      bit u.sg.saStop g = false → u.plotLook p a = (v, plot) →
    exec (.ratomicRequestRx h r m) s = .next (v.arith (atomicOp p g a h r (t.domainOf p) m (v.roundNow p)) e sect slot plot))
  ∧ (∀ (s t : State) (h : RxHdr) (r : RaReq) (m p oc ex : Nat) (st : Status) (res : BitVec 128), s.Receives h 0x40 (p + 1) t →
      r.dst = t.memberOf p → t.params.profile = .m → t.memoRule p (t.domainOf p) r.src r.txid r.issue = some (st, oc, ex, res) →
    exec (.ratomicRequestRx h r m) s
      = .next ((t.memoCount st oc).sendReplyTo h.port p 0x41 r.obj st oc 0 r.dst r.src r.txid ex res))
  ∧ (∀ (s t : State) (h : RxHdr) (r : RaReq) (p : Nat) (m : Memo), s.Receives h 0x42 (p + 1) t → r.dst = t.memberOf p → t.params.profile = .m →
      t.memoOf (t.domainOf p) r.src r.txid = some m → m.executed = true →
    exec (.outcomeQueryRx h r) s = .next (t.sendReplyTo h.port p 0x43 r.obj .done 1 (stCode m.status) r.dst r.src r.txid m.exec m.result))
  ∧ (∀ (s t : State) (h : RxHdr) (r : RaReq) (p : Nat), s.Receives h 0x42 (p + 1) t → r.dst = t.memberOf p → t.params.profile = .m →
      t.memoOf (t.domainOf p) r.src r.txid = none → t.elapsed p r.issue ≤ 3500000 → t.memoUsed < 262144 →
    exec (.outcomeQueryRx h r) s = .next ((t.memoAdd { domain := t.domainOf p, src := r.src, txid := r.txid, issue := r.issue, exec := 0, status := .done, result := 0, executed := false }).sendReplyTo h.port p 0x43 r.obj .done 2 0 r.dst r.src r.txid 0 0))
  ∧ (∀ (s t : State) (h : RxHdr) (r : RaRep) (p : Nat) (o : RemOp), s.Receives h (if r.query then 0x43 else 0x41) (p + 1) t →
      r.status ≠ .breach → r.origStatus ≠ .breach → r.dst = t.memberOf p → t.findOp p r.txid r.query = some o → o.dst = r.src →
      (r.query = true ∨ r.status ≠ .outOfSlots) →
    exec (.ratomicReplyRx h r) s = .next ((t.flowAnswered h.port p o.dst o.kind o.obj).finishOp o r.status r.outcome
      (if r.query then stCode r.origStatus % 256 else 0) (if r.query ∨ o.op < 0x20 then r.result else 0)))
  ∧ (∀ (s t : State) (h : RxHdr) (r : RaRep) (si : Nat), s.Receives h (if r.query then 0x43 else 0x41) si t → r.status = .breach →
    exec (.ratomicReplyRx h r) s = .next (t.discard (rLnkErrFormat h.port) h.port))
  ∧ (∀ (s t u : State) (h : RxHdr) (r : RwReq) (p : Nat) (x : Nat × Nat × Nat × Nat × Nat), s.Receives h 0x22 (p + 1) t → r.write = true → r.dst = t.memberOf p →
      t.params.profile = .m → t.memoRule p (t.domainOf p) r.src r.txid r.issue = none →
      (t.rem.serves.any fun y => decide (y.domain = t.domainOf p) && decide (y.r.src = r.src) && decide (y.r.txid = r.txid)) = false →
      r.offset % 64 = 0 → r.length % 64 = 0 → r.length ≤ 4048 → 0 < r.length → r.data.length = r.length →
      t.remotePlace p r.obj r.gen r.offset r.length = (u, .ok x) →
    exec (.remoteRwRequestRx h r) s = .next (u.startServe p (t.domainOf p) r none))
  ∧ (∀ (s t u : State) (h : RxHdr) (r : RwReq) (p : Nat) (x : Nat × Nat × Nat × Nat × Nat), s.Receives h 0x20 (p + 1) t → r.write = false → r.dst = t.memberOf p →
      t.params.profile = .m → t.pst p ≠ 4 → t.pst p ≠ 5 →
      r.offset % 64 = 0 → r.length % 64 = 0 → r.length ≤ 4048 → 0 < r.length → r.data = [] →
      t.remotePlace p r.obj r.gen r.offset r.length = (u, .ok x) →
    exec (.remoteRwRequestRx h r) s = .next (u.startServe p (t.domainOf p) r none))
  ∧ (∀ (s : State) (p : Nat) (x : Word) (o : RemOp), s.findOp p x false = some o → s.elapsed p o.issue < 3000000 → s.stopped p = false →
    exec (.ratomicRetry p x) s = .next (s.sendOp o true))
  ∧ (∀ (s : State) (p : Nat) (x : Word) (o : RemOp), s.findOp p x false = some o → s.stopped p = false →
    exec (.ratomicDeadline p x) s = .next ((s.finishOp o (if s.isLost p o.dst then .memberLost else .indeterminate) 3 0 0).keepPast o))
  ∧ (∀ (s : State) (p : Nat) (x : Word) (o : RemOp), s.findOp p x true = some o → s.stopped p = false → 10 ≤ o.sent →
    exec (.outcomeQueryResend p x) s = .next ((s.finishOp o .indeterminate 3 0 0).keepPast o))
  ∧ (∀ (s : State) (p : Nat) (x : Word) (o : RemOp), s.findOp p x true = some o → s.stopped p = false → o.sent < 10 →
    exec (.outcomeQueryResend p x) s = .next ((s.modRem fun r => { r with ops := r.ops.map fun z =>
      if z = o then { o with sent := o.sent + 1 } else z }).sendOp { o with sent := o.sent + 1 } true))
  ∧ (∀ (s : State) (d : DWord) (src : Nat) (x : Word), (s.partOfDomain d).any s.stopped = false →
    exec (.memoEntryExpire d src x) s = .next (s.modRem fun r =>
      { r with memo := r.memo.filter fun m => decide (¬(m.domain = d ∧ m.src = src ∧ m.txid = x)) }))

/-- Reductions (R261, R262, R266, R267, R384): contributions and their acknowledgements, result chunks and theirs take effect on reception; what is not acknowledged is sent again while
no STOP holds; a chunk given up counts and is done; a reduction overdue ends MEMBER_LOST; a ledger entry that expires goes.
Where a clause goes beyond the spec's words it is the model's choice (log entries 26, 27, 45, 64). -/
def Obligations.ReductionsProceed : Prop :=
  (∀ (s t : State) (h : RxHdr) (src : Nat) (c : Contrib) (es : List Byte) (m si : Nat), s.Receives h 0x50 si t →
    exec (.contributionRx h src c es m) s = .next (t.applyContrib h src c es m si))
  ∧ (∀ (s t : State) (h : RxHdr) (c : Contrib) (st : Status) (si : Nat), s.Receives h 0x51 si t → st ≠ .breach →
    exec (.contributionAckRx h c st) s = .next (t.applyAck h c st si))
  ∧ (∀ (s t : State) (h : RxHdr) (sw : Nat) (c : Contrib) (st : Status) (d : List Byte) (m : List Nat) (si : Nat), s.Receives h 0x52 si t → st ≠ .breach →
    exec (.resultChunkRx h sw c st d m) s = .next (t.applyResult h sw c st d m si))
  ∧ (∀ (s t : State) (h : RxHdr) (src : Nat) (c : Contrib) (st : Status) (si : Nat), s.Receives h 0x53 si t → st ≠ .breach →
    exec (.resultAckRx h src c st) s = .next (t.applyResultAck h src c st si))
  ∧ (∀ (s t : State) (h : RxHdr) (src p : Nat) (c : Contrib) (es : List Byte) (x : Reduction), s.Receives h 0x50 (p + 1) t → t.params.profile = .s →
      t.pst p ≠ 4 → t.pst p ≠ 5 → contribOk c = true → es.length = c.count * srcBits c.fmt / 8 → t.reduction p c.rid = some x →
      sameReduction x.hdr c = true → x.ledger.contains (c.cidx, c.chunk) = false → x.ended = false →
    exec (.contributionRx h src c es 0) s = .next (t.applyElems p src x c es))
  ∧ (∀ (s t : State) (h : RxHdr) (src p : Nat) (c : Contrib) (es : List Byte), s.Receives h 0x50 (p + 1) t → t.params.profile = .s →
      t.pst p ≠ 4 → t.pst p ≠ 5 → contribOk c = true → es.length = c.count * srcBits c.fmt / 8 → t.reduction p c.rid = none → t.poolRoom p c = true →
    exec (.contributionRx h src c es 0) s = .next (t.applyElems p src { part := p, hdr := c, accs := List.replicate c.total Accum.zero, ledger := [], members := [], sent := [], done := [], ended := false } c es))
  ∧ (∀ (s t : State) (h : RxHdr) (p : Nat) (c : Contrib) (st : Status) (o : ContribOp), s.Receives h 0x51 (p + 1) t → st ≠ .breach →
      t.findContrib p c.rid c.cidx c.chunk = some o →
    exec (.contributionAckRx h c st) s = .next
      ((((t.flowLess h.port (flowBlock (t.memberOf p) (t.sess h.port (p + 1)).peer p (tcOf 0x50) c.rid.toNat 0)).modRem fun r =>
        { r with contribs := r.contribs.erase o }).traceContrib o true st).complete [o.p.ends st]))
  ∧ (∀ (s t : State) (h : RxHdr) (sw p : Nat) (c : Contrib) (d : List Byte) (m : List Nat), s.Receives h 0x52 (p + 1) t → t.params.sgCount ≠ 0 →
      (t.rem.resLed.find? fun x => decide (x.domain = t.domainOf p) && decide (x.sw = sw) && decide (x.rid = c.rid) && decide (x.chunk = c.chunk)) = none →
      t.pst p ≠ 4 → t.pst p ≠ 5 →
      (t.rem.serves.any fun x => decide (x.domain = t.domainOf p) && (x.res.any fun y => decide (y.1 = sw) && decide (y.2.rid = c.rid)
        && decide (y.2.chunk = c.chunk))) = false →
      t.rem.resLed.length + (t.rem.serves.filter fun x => x.res.isSome).length < 16384 →
      contribOk { c with cidx := 0 } = true → d.length = c.count * outBytes c.out →
    exec (.resultChunkRx h sw c .done d m) s = .next (if bit c.mode 1 then t.startAccum p (t.domainOf p) sw c d m
      else t.startServe p (t.domainOf p) { write := true, src := sw, dst := 0, txid := c.rid, issue := 0, obj := c.destObj, gen := c.destGen, offset := 256 * c.destSect + c.chunk * c.chunkElems * outBytes c.out, length := d.length, data := d } (some (sw, c))))
  ∧ (∀ (s t : State) (h : RxHdr) (src p : Nat) (c : Contrib) (st : Status) (x : Reduction), s.Receives h 0x53 (p + 1) t → st ≠ .breach →
      st ≠ .outOfSlots → t.reduction p c.rid = some x →
    exec (.resultAckRx h src c st) s = .next ((t.flowLess h.port (flowBlock (t.memberOf p) (t.sess h.port (p + 1)).peer p (tcOf 0x52) c.rid.toNat 0)).putReduction
      (x.acked src c.chunk)))
  ∧ (∀ (s : State) (p : Nat) (rid : Word) (i ch : Nat) (o : ContribOp), s.findContrib p rid i ch = some o → s.stopped p = false →
    exec (.contributionResend p rid i ch) s = .next (s.sendContrib o true))
  ∧ (∀ (s : State) (p : Nat) (rid : Word) (x : Reduction), s.reduction p rid = some x → s.stopped p = false → x.ended = false →
    exec (.reductionTimeout p rid) s = .next (s.endReduction .memberLost x))
  ∧ (∀ (s : State) (p ch : Nat) (rid : Word) (x : Reduction) (y : Nat × List Nat × Status × Nat), s.reduction p rid = some x →
      (x.sent.find? fun y => decide (y.1 = ch)) = some y → s.stopped p = false → s.elapsed p y.2.2.2 < 3000000 →
    exec (.resultChunkResend p rid ch) s = .next (each y.2.1 (fun d => State.sendTo p d 0x52 (tcOf 0x52) true
      (contribBytes x.hdr 0x52 0 ch (chunkCount x.hdr ch) (stCode y.2.2.1) ++ if y.2.2.1 = .done then x.chunkData ch else [])) s))
  ∧ (∀ (s : State) (p ch : Nat) (rid : Word) (x : Reduction), s.reduction p rid = some x → (x.sent.any fun y => decide (y.1 = ch)) = true →
      s.stopped p = false →
    exec (.resultChunkGiveUp p rid ch) s
      = .next (((s.modRem fun r => { r with givenUp := satAdd 65535 r.givenUp 1 }).press 12 .done (some p) ch).putReduction
          { x with sent := x.sent.filter (fun y => decide (y.1 ≠ ch)), done := x.done ++ [ch] }))
  ∧ (∀ (s : State) (d : DWord) (sw ch : Nat) (rid : Word), (s.partOfDomain d).any s.stopped = false →
    exec (.resultLedgerExpire d sw rid ch) s = .next (s.modRem fun r =>
      { r with resLed := r.resLed.filter fun x => decide (¬(x.domain = d ∧ x.sw = sw ∧ x.rid = rid ∧ x.chunk = ch)) }))

/-- Link sessions (R67, R79, R302, R303, R315 to R318, R412, R413): set-up starts, fails at its timeouts and is tried again after the back-off; OPEN and CLOSE frames
move it; a port that goes down takes every session with it; keepalives are sent where they are owed, and one that does not come ends the session and raises MEMBER_LOST for its peers.
Where a clause goes beyond the spec's words it is the model's choice (log entries 22, 45). -/
def Obligations.LinkSessionsFollowTheirEvents : Prop :=
  (∀ (s : State) (k si : Nat), (s.sess k si).st = 0 → (s.sess k si).backoff = false → si < 17 → s.canSetup k si = true →
    exec (.sessionSetupStart k si) s = .next (s.setup k si))
  ∧ (∀ (s : State) (k si : Nat), (s.sess k si).st = 1 ∨ (s.sess k si).st = 2 → exec (.sessionSetupTimeout k si) s = .next (s.setupFails k si))
  ∧ (∀ (s : State) (k si : Nat), (s.sess k si).backoff = true →
    let t := s.modSess k si fun x => { x with backoff := false }
    exec (.sessionRetryBackoff k si) s = .next (if (t.sess k si).st = 0 ∧ si < 17 ∧ t.canSetup k si then t.setup k si else t))
  ∧ (∀ (s t : State) (h : RxHdr) (m si : Nat), s.Receives h 0x11 si t → exec (.openRx h m) s = .next (t.applyOpen h m si))
  ∧ (∀ (s t : State) (h : RxHdr) (r m si : Nat), s.Receives h 0x12 si t → exec (.closeRx h r m) s = .next (t.applyClose h si))
  ∧ (∀ (s t : State) (h : RxHdr) (m si : Nat), s.Receives h 0x11 si t → (t.sess h.port si).st = 2 → (t.sess h.port si).peer = m →
    exec (.openRx h m) s = .next ((t.modSess h.port si fun x => { x with gotOpen := true }).tryOpen h.port si))
  ∧ (∀ (s t : State) (h : RxHdr) (r m si : Nat), s.Receives h 0x12 si t → (t.sess h.port si).st = 3 →
    exec (.closeRx h r m) s = .next ((t.modSess h.port si fun y => { y with gotClose := true }).closeSess h.port si 0))
  ∧ (∀ (s : State) (k si : Nat), (s.sess k si).st = 4 → exec (.closingTimeout k si) s = .next (s.sessDown k si))
  ∧ (∀ (s : State) (rq : Rq) (k : Nat), s.PortOpen rq →
    exec (.lnkEnable rq k) s = .next ((s.otherAccess.lnkWrite k true).emit (.ctl 0 false))
    ∧ exec (.lnkDisable rq k) s = .next ((s.otherAccess.lnkWrite k false).emit (.ctl 0 false)))
  ∧ (∀ (s : State) (k : Nat), k < s.params.fpCount →
    let t := s.modPins fun q => { q with fpUp := setBit q.fpUp k true }
    exec (.fpLinkUpRise k) s = .next (if (t.sess k 0).st = 0 ∧ !(t.sess k 0).backoff ∧ t.canSetup k 0 then t.setup k 0 else t))
  ∧ (∀ (s : State) (k : Nat), k < s.params.fpCount →
    let was := sessIdx.filter fun si => decide ((s.sess k si).st ≠ 0)
    exec (.fpLinkUpFall k) s = .next ((each was (fun si u => u.modSess k si fun x => { x with lossDue := true, lastRx := (s.sess k si).lastRx })
      ((s.modPins fun q => { q with fpUp := setBit q.fpUp k false }).sessDown k 0)).modPort k fun q => { q with txq := [] }))
  ∧ (∀ (s : State) (k si : Nat), (s.sess k si).st = 3 → si = 0 ∨ bit (s.reg (rLnkKa k)) 31 = true →
    exec (.keepaliveTx k si) s = .next (s.enqueue k (ctrlFrame si 0x01 ([0x01, BitVec.ofNat 8 s.dt.st, 0, 0] ++ leBytes 8 (s.sess k si).hTop
      ++ List.replicate 20 0))))
  ∧ (∀ (s t : State) (h : RxHdr) (d q si : Nat), s.Receives h 0x01 si t → exec (.keepaliveRx h d q) s = .next t)
  ∧ (∀ (s : State) (k p : Nat), (s.sess k (p + 1)).st = 3 →
    exec (.keepaliveTimeout k (p + 1)) s
      = .next (((s.sessDown k (p + 1)).modSess k (p + 1) fun y => { y with lossDue := false }).raiseLost k (p + 1) (s.sess k (p + 1)).peer
        (s.sess k (p + 1)).lastRx))
  ∧ (∀ (s t : State) (h : RxHdr) (r l d si : Nat), s.Receives h 0x34 si t →
    exec (.memberLostNoticeRx h r l d) s = .next (t.applyLost h r l d si))
  ∧ (∀ (s t : State) (h : RxHdr) (op e o i : Nat) (fe : Word) (st : Nat) (os : Word) (si : Nat), s.Receives h 0x33 si t →
    exec (.domainFenceSignalRx h op e o i fe st os) s = .next (t.applyFence h op e o i fe st os si))
  ∧ (∀ (s t : State) (h : RxHdr) (r l d p : Nat), s.Receives h 0x34 (p + 1) t → t.lnk.seenLost.contains (p, l, d) = false → r ≠ l →
    exec (.memberLostNoticeRx h r l d) s
      = .next ((t.modLnk fun x => { x with seenLost := (p, l, d) :: x.seenLost }).recordLost p l r d (some h.port)))
  ∧ (∀ (s t : State) (h : RxHdr) (e o i : Nat) (st : Nat) (os : Word) (p : Nat), s.Receives h 0x33 (p + 1) t → i < t.dfCount p →
      t.obju.seenFence.contains (p, o, os) = false → signalCode e = true →
    exec (.domainFenceSignalRx h 1 e o i (t.fence p (0xF000 + i)).epoch st os) s
      = .next (finishing (((t.modObju fun x => { x with seenFence := (p, o, os) :: x.seenFence }).broadcast p 0x33 (some h.port)
          (dfPayload 1 e o i (t.fence p (0xF000 + i)).epoch st os)).signalHere p (0xF000 + i) e)))

/-- Frames (R46, R224, R225, R310, R314, R320, R321, R325, R327, R332): a payload joins the egress of an OPEN session with room; the picked frame, or a cover frame, is sealed; a stall, an epoch
change and the retirement of an epoch take effect; a received frame that fails a check changes only its window and counters; a switch seals a hop's frame again.
Where a clause goes beyond the spec's words it is the model's choice (log entries 2, 22). -/
def Obligations.FramesAreQueuedAndSealed : Prop :=
  (∀ (s : State) (k : Nat) (f : EgFrame), s.runs = true → k < s.params.fpCount → f.si < 17 → (s.sess k f.si).st = 3 →
      f.payload.length ≤ 4096 →
      f.si = 0 ∨ (s.holdRoom k f = true ∧ (isRequest f.kind = true → s.pst (f.si - 1) ≠ 4 ∧ s.pst (f.si - 1) ≠ 5)) →
    exec (.frameEnqueue k f) s = .next (s.enqueue k f))
  ∧ (∀ (s : State) (k : Nat) (i : EgItem), s.mayPick k = true → s.coverOn k = false → (s.refill k).pick k = some i →
    exec (.frameSeal k) s = .next (((s.refill k).sealPick k i).refill k))
  ∧ (∀ (s : State) (k : Nat) (i : EgItem), s.mayPick k = true → s.coverOn k = true → (s.refill k).pick k = some i →
    exec (.coverSlot k) s = .next (((s.refill k).sealPick k i).refill k))
  ∧ (∀ (s : State) (k : Nat), s.mayPick k = true → s.coverOn k = true → (s.refill k).pick k = none → (s.sess k (s.port k).coverTurn).st = 3 →
      (s.port k).coverTurn = 0 →
    exec (.coverSlot k) s = .next (((s.modPort k fun q => { q with coverTurn := 1 }).sealFrame k
      { si := 0, kind := 0x02, tc := 0, retry := false, event := false, src := 0, dst := 0, label := 0, payload := [0x02] }).glob (128 + 8 * k + 4) 1))
  ∧ (∀ (s : State) (k : Nat), (s.port k).txq ≠ [] →
    exec (.txStall k) s = .next ((s.modPort k fun q => { q with stalled := true }).flag (rLnkStatus k) 1))
  ∧ (∀ (s : State) (k si : Nat), 2 ^ 36 ≤ (s.sess k si).epCnt → exec (.epochCountLimit k si) s = .next (s.epochChange k si))
  ∧ (∀ (s : State) (k si : Nat), (s.sess k si).epWait = true → (s.sess k si).st = 3 →
    exec (.epochChangeDeferred k si) s = .next (s.epochMove k si))
  ∧ (∀ (s t : State) (k si : Nat) (l : List Nat), (s.sess k si).rxNew = true → (s.sess k si).st ≠ 0 →
      s.nextSecret 2 (s.sess k si).rxEp (s.sess k si).slots = (t, l) →
    exec (.rxEpochRetire k si) s = .next (t.modSess k si fun y => { y with rxEp := y.rxEp + 1, rxNew := false, slots := l }))
  ∧ (∀ (s : State) (k : Nat) (f : BitVec 128), exec (.flowEntryTimeout k f) s = .next (s.flowLess k f))
  ∧ (∀ (s : State) (k n : Nat), (s.port k).flows.length < 8192 → ((s.port k).q.findIdx? fun i => i.flowWait) = some n →
    exec (.flowEntryGrant k) s = .next (s.modPort k fun q =>
      { q with q := q.q.zipIdx.map fun x => if x.2 = n then { x.1 with flowWait := false } else x.1 }))
  ∧ (∀ (s : State) (h : RxHdr) (kind : Nat), s.rxAccept h kind = ((s.rxAccept h kind).1, none) →
    exec (.frameRxDiscard h kind) s = .next (s.rxAccept h kind).1)
  ∧ (∀ (s t : State) (h : RxHdr) (k si : Nat) (f : EgFrame), s.params.profile = .s → s.Receives h f.kind si t →
    exec (.frameRoute h k f) s = .next (t.applyRoute h k f si))
  ∧ (∀ (s t : State) (h : RxHdr) (k p : Nat) (f : EgFrame), s.params.profile = .s → s.Receives h f.kind (p + 1) t →
      (isRequest f.kind = false ∨ (t.isLost p f.dst = false ∧ t.pst p ≠ 4)) → (t.sess k (p + 1)).st = 3 → k < t.params.fpCount →
    exec (.frameRoute h k f) s = .next (t.enqueue k { f with si := p + 1, retry := h.retry }))

/-- SPDM identity and measurement requests (R427 to R433): versions, capabilities, algorithms, digests, certificates, the challenge of slot 1, the measurements and the
certificate signing request are answered over a transport that is served; certificates and algorithms that do not fit get their error.
Where a clause goes beyond the spec's words it is the model's choice (log entries 4, 29). -/
def Obligations.SpdmRequestsAreAnswered : Prop :=
  ∀ (s : State) (t : Transport), s.Serves t →
    exec (.getVersion t) s = .next (s.respond t .version13)
    ∧ exec (.getCapabilities t) s = .next (s.respond t .capabilities)
    ∧ exec (.negotiateAlgorithms t true) s
      = .next (((s.modAtt fun a => { a with negotiated := a.negotiated.filter fun x => decide (x ≠ t) }).modAtt fun a =>
          { a with negotiated := t :: a.negotiated }).respond t .algorithms)
    ∧ exec (.negotiateAlgorithms t false) s
      = .next ((s.modAtt fun a => { a with negotiated := a.negotiated.filter fun x => decide (x ≠ t) }).respond t .errAlgorithms)
    ∧ exec (.getDigests t) s = .next (s.respond t (.digests (s.slot0.map fun c => Config.sha384 c.bytes)))
    ∧ (∀ n, s.certBytes n ≠ [] → exec (.getCertificate t n) s = .next (s.respond t (.certificate n (s.certBytes n))))
    ∧ (∀ n, s.certBytes n = [] → exec (.getCertificate t n) s = .next (s.respond t .errInvalidRequest))
    ∧ exec (.challenge t 1) s = .next (s.aliasSigned t [] (.challengeAuth []))
    ∧ (∀ n, n ≠ 1 → exec (.challenge t n) s = .next (s.respond t .errInvalidRequest))
    ∧ (s.params.profile ≠ .m → s.att.measLock = false → ∀ i sid, exec (.getMeasurements t i sid) s = .next (s.respond t .errBusy))
    ∧ (s.params.profile = .m ∨ s.att.measLock = true → ∀ i sid v, 1 ≤ i → i ≤ 24 → s.measurement (s.boundTo t sid) i = some v →
        exec (.getMeasurements t i sid) s = .next (s.aliasSigned t v (.measurements [(i, v)] [])))
    ∧ (∀ sid, sid.any (s.inMgmt t) = true → (s.slot 0).st = 1 → exec (.getCsr t sid) s
        = .next (s.pkeAdd (signJob false 0 (ascii "VMR.SPDM") (beBytes 48 s.devid.toNat) (.resp t (.csr [])))))
    ∧ (∀ sid chain, sid.any (s.inMgmt t) = true → (s.slot 0).st = 1 → chain.leaf = s.devid → s.slot0 = none →
        exec (.setCertificate t sid chain) s = .next ((s.modAtt fun a => { a with chain := some chain }).respond t .setCertificateRsp))

/-- SPDM sessions (R158, R431 to R435, R442, R445): KEY_EXCHANGE takes a session and its slots, FINISH, checked by the public-key engine, makes it live, KEY_UPDATE gives it new slots, HEARTBEAT answers, END_SESSION and a lost heartbeat end it;
provisioning, amendments and carried messages take effect; amendments and binds go to the public-key engine; a bind on a SETUP session that fails its checks fails the admission.
Where a clause goes beyond the spec's words it is the model's choice (log entries 4, 29, 54, 58, 59). -/
def Obligations.SecuredSessionsFollowTheirRequests : Prop :=
  (∀ (s : State) (t : Transport) (x : KeyEx) (l : List Nat), s.Serves t → s.att.negotiated.contains t = true → x.elementOk = true →
      s.sessionSlots t = some l → (s.slot 1).st = 1 → s.cmd.sessions.any (fun y => decide (y.sid = x.sid)) = false →
      (if isLink t then 3 else 2) ≤ s.handFree.length →
    exec (.keyExchange t x) s = .next (((s.abandonAsk t).modCmd fun c =>
      { c with sessions := c.sessions ++ [({ sid := x.sid, t := t, leaf := x.leaf, root := x.root, live := false, slots := l,
                                             hand := s.handFree.take (if isLink t then 3 else 2), born := s.cmd.sessNo, seq := 0, tdi := none } : Secured)],
               sessNo := c.sessNo + 1 }).pkeAdd { signJob (isLink t) 1 (ascii "VMR.SPDM") x.exch (.exchange t x.sid x.exch []) with
                 ops := [.ecKeygen, .ecdh, .kemEncaps, .ecSign, .mldsaSign] }))
  ∧ (∀ (s : State) (t : Transport) (sid : Nat) (ok : Bool) (x : Secured), s.Serves t → s.session t sid = some x → x.live = false →
      (s.slot (x.hand.getD 1 0)).st = 1 →
    exec (.finish t sid ok) s = .next (s.pkeAdd { link := isLink t, ops := [.ecVerify, .mldsaVerify], sign := none, sig := [], ends := .finish t sid ok }))
  ∧ (∀ (s u : State) (j : PkeJob) (rest : List PkeJob) (sid : Nat) (x : Secured), s.key.pke = j :: rest → j.ops = [.mldsaVerify] → j.sign = none →
      j.ends = .finish .mgmt sid true → u = (s.modKey fun k => { k with pke := rest }) → u.session .mgmt sid = some x → x.live = false →
    exec (.pkeOpDone .none) s = .next ((((u.sessionSecrets x).1.retireAll (x.hand.take 2)).modCmd fun c =>
      { c with sessions := c.sessions.map fun y => if y = x then { y with live := true, slots := x.slots, hand := [] } else y }).respond .mgmt .finishRsp))
  ∧ (∀ (s u : State) (j : PkeJob) (rest : List PkeJob) (sid : Nat) (x : Secured), s.key.pke = j :: rest → j.ops = [.mldsaVerify] → j.sign = none →
      j.ends = .finish .mgmt sid false → u = (s.modKey fun k => { k with pke := rest }) → u.session .mgmt sid = some x → x.live = false →
    exec (.pkeOpDone .none) s = .next ((u.endSecured x).respond .mgmt .errUnspecified))
  ∧ (∀ (s u : State) (j : PkeJob) (rest : List PkeJob) (k si sid : Nat) (x : Secured), s.key.pke = j :: rest → j.ops = [.mldsaVerify] → j.sign = none →
      j.ends = .finish (.link k si) sid true → u = (s.modKey fun k => { k with pke := rest }) → u.session (.link k si) sid = some x → x.live = false →
    exec (.pkeOpDone .none) s = .next (((((u.sessionSecrets x).1.retireAll (x.hand.take 2)).modCmd fun c =>
      { c with sessions := c.sessions.map fun y => if y = x then { y with live := true, slots := [x.hand.getD 2 0], hand := [] } else y }).modSess k si fun y =>
        { y with authed := true }).respond (.link k si) .finishRsp))
  ∧ (∀ (s : State) (t : Transport) (sid : Nat) (x : Secured), (∀ k i, t ≠ .link k (i + 1)) → s.Serves t → s.secured t sid = some x →
    exec (.endSession t sid) s = .next ((s.respond t .endSessionAck).endSecured x))
  ∧ (∀ (s : State) (k i sid : Nat) (x : Secured), s.Serves (.link k (i + 1)) → s.secured (.link k (i + 1)) sid = some x →
    exec (.endSession (.link k (i + 1)) sid) s = .next (s.respond (.link k (i + 1)) .errUnspecified))
  ∧ (∀ (s : State) (t : Transport) (sid : Nat), s.Serves t →
    exec (.heartbeat t sid) s = .next (s.respond t (if (s.secured t sid).isSome then .heartbeatAck else .errInvalidRequest)))
  ∧ (∀ (s : State) (t : Transport) (sid : Nat) (x : Secured), isLink t = false → s.session t sid = some x → exec (.heartbeatLoss t sid) s = .next (s.endSecured x))
  ∧ (∀ (s : State) (t : Transport) (sid : Nat) (x : Secured), s.Serves t → s.secured t sid = some x →
    let l := nextSlots t x.slots
    let vals := x.slots.map fun n => secretVal (Config.spdmUpdate ((s.slot n).value.setWidth 384))
    exec (.keyUpdate t sid) s = .next (((each (l.zip vals) (fun y v => v.renew y.1 1 1 y.2)
        (each (x.slots.filter fun n => !l.contains n) State.retire s)).modCmd fun c =>
      { c with sessions := c.sessions.map fun y => if y = x then { y with slots := l } else y }).respond t .keyUpdateAck))
  ∧ (∀ (s : State) (t : Transport) (sid : Nat) (hs : List Digest), s.Serves t → s.inMgmt t sid = true →
    (hs.length ≤ 3 → exec (.provision t sid 1 hs) s = .next ((s.modAtt fun a => { a with fabricRoots := hs }).respond t (.vmr 4 .done [])))
    ∧ (hs.length ≤ 4 → exec (.provision t sid 2 hs) s = .next ((s.modAtt fun a => { a with mgmtRoots := hs }).respond t (.vmr 4 .done []))))
  ∧ (∀ (s : State) (k si p : Nat) (a : Amendment), s.Serves (.link k si) → s.linkLive k si = true →
      s.partOfDomain a.domain = some p → s.mseq p < a.mseq →
    exec (.amend (.link k si) 0 a) s
      = .next (s.pkeAdd { link := true, ops := [.ecVerify, .mldsaVerify], sign := none, sig := [], ends := .amend (.link k si) 0 a }))
  ∧ (∀ (s : State) (k si p : Nat) (a : Amendment), s.Serves (.link k si) → s.linkLive k si = true →
      s.partOfDomain a.domain = some p → a.mseq ≤ s.mseq p →
    exec (.amend (.link k si) 0 a) s = .next (s.respond (.link k si) (.vmr 2 .done [])))
  ∧ (∀ (s u : State) (j : PkeJob) (rest : List PkeJob) (k si p : Nat) (a : Amendment) (m : Manifest), s.key.pke = j :: rest → j.ops = [.mldsaVerify] →
      j.sign = none → j.ends = .amend (.link k si) 0 a → u = (s.modKey fun k => { k with pke := rest }) → u.linkLive k si = true →
      u.partOfDomain a.domain = some p → u.mseq p < a.mseq → a.base = u.mseq p → (u.part p).man = some m → amendShape m a = true → a.sigOk = true →
    exec (.pkeOpDone .none) s = .next ((u.respond (.link k si) (.vmr 2 .done [])).amendApply p a (some k)))
  ∧ (∀ (s : State) (k si held : Nat), s.Serves (.link k si) → s.linkLive k si = true →
    exec (.amendFetch k si held) s = .next (s.respond (.link k si) (.vmr 3 .done
      (((s.part (si - 1)).amends.filter fun a => decide (held < a.mseq)).map amendBytes).flatten)))
  ∧ (∀ (s : State) (k si : Nat) (b : Bind) (ev : Evidence), s.Serves (.link k si) → s.mayBind k si = true →
    exec (.linkBind k si b ev) s = .next (s.pkeAdd { link := true, ops := (if (s.sess k si).hand = [] then [] else [.ecdh, .kemDecaps]) ++ [.ecVerify, .mldsaVerify], sign := none, sig := [], ends := .bind k si b ev }))
  ∧ (∀ (s u : State) (j : PkeJob) (rest : List PkeJob) (k : Nat) (b : Bind) (ev : Evidence), s.key.pke = j :: rest → j.ops = [.mldsaVerify] →
      j.sign = none → j.ends = .bind k 0 b ev → u = (s.modKey fun k => { k with pke := rest }) → u.mayBind k 0 = true → (u.bindCheck k 0 b ev).1 = 0 →
    exec (.pkeOpDone .none) s = .next (u.bindDone k 0 b ev (u.sess k 0).slots))
  ∧ (∀ (s u : State) (j : PkeJob) (rest : List PkeJob) (k si n : Nat) (st : Status) (b : Bind) (ev : Evidence), s.key.pke = j :: rest → j.ops = [.mldsaVerify] →
      j.sign = none → j.ends = .bind k si b ev → u = (s.modKey fun k => { k with pke := rest }) → u.mayBind k si = true → u.bindWaits k si b ev = false →
      u.bindCheck k si b ev = (n + 1, st) →
    exec (.pkeOpDone .none) s = .next (u.admissionFails k si (n + 1) st (if n + 1 ≤ 2 then .errUnspecified else .vmr 1 st [])))
  ∧ (∀ (s t : State) (h : RxHdr) (c : Carriage), s.Receives h 0x10 0 t → c.target = 0xFF → c.domain = 0 →
    exec (.spdmCarriageRx h c) s = .next (t.modPort h.port fun q => { q with carr := carry1 q.carr c }))

/-- Host ports (R67, R334 to R339, R343 to R345): a port that carries no protection passes TLPs both ways; a requester outside every interface goes by the stream of the root; data object exchange takes one object
at a time; configuration requests outside the capabilities pass; a link that falls takes its streams, interfaces and sessions.
Where a clause goes beyond the spec's words it is the model's choice (log entries 30, 31, 70). -/
def Obligations.HostPortsCarryTheirTraffic : Prop :=
  (∀ (s : State) (h : Nat) (t : Tlp), s.service ≠ .off → h < s.params.hcCount → s.boot.breached = false → s.hstOn h = false →
    exec (.hostTlpTx h t) s = .next (s.emit (.tlp h 0 t)) ∧ exec (.hostTlpRx h t) s = .next (s.emit (.tlp h 1 t)))
  ∧ (∀ (s : State) (h : Nat) (t : Tlp), s.service ≠ .off → h < s.params.hcCount → s.boot.breached = false → s.hstOn h = true →
      s.tdiOf h t.rid = none → s.mustHold h none t = false →
    exec (.hostTlpTx h t) s = .next (s.sendTlp h (if (s.stream h 0).secure then .on 0 false else .clear) t))
  ∧ (∀ (s : State) (h p : Nat) (t : Tlp), s.service ≠ .off → h < s.params.hcCount → s.boot.breached = false → s.hstOn h = true →
      s.tdiOf h t.rid = some p → s.pst p ≠ 4 → s.pst p ≠ 5 → t.kind = .memRd ∨ t.kind = .memWr → t.translated = false →
    exec (.hostTlpTx h t) s = .next (s.tileTlp h p t))
  ∧ (∀ (s : State) (h i : Nat) (t : Tlp), s.service ≠ .off → h < s.params.hcCount → s.boot.breached = false → s.hstOn h = true →
      t.stream = some i → (s.stream h i).secure = true → t.ideOk = false →
    exec (.hostTlpRx h t) s = .next (s.ideFail h i))
  ∧ (∀ (s : State) (h : Nat) (t : Tlp), s.service ≠ .off → h < s.params.hcCount → s.boot.breached = false → s.hstOn h = true →
      t.stream = none → t.kind = .memRd ∨ t.kind = .memWr → s.tdiOf h t.rid = none →
    exec (.hostTlpRx h t) s = .next (s.emit (.tlp h 1 t)))
  ∧ (∀ (s : State) (h proto n : Nat), s.service = .full → h < s.params.hcCount → proto = 1 ∨ proto = 2 → n ≤ 262144 → s.hst.doe.get none h = none →
    exec (.doeObjectRx h proto n) s = .next (s.modHst fun x => { x with doe := x.doe.set none h (some (proto, n)) }))
  ∧ (∀ (s : State) (h n : Nat), s.service = .full → h < s.params.hcCount → n ≤ 262144 → s.hst.doe.get none h = none →
    exec (.doeObjectRx h 0 n) s = .next (s.emit (.resp (.doe h) .doeDiscovery)))
  ∧ (∀ (s : State) (h : Nat), exec (.doeAbort h) s = .next (s.modHst fun x => { x with doe := x.doe.set none h none }))
  ∧ (∀ (s : State) (h func off : Nat) (d : Word), s.service ≠ .off → h < s.params.hcCount → s.hstOn h = false →
    exec (.configRequestRx h false func off d false) s = .next (s.emit (.tlp h 1
      { kind := .cfg, rid := func, addr := off, len := 4, pasid := none, tag := 0, translated := false, ctx := 0xFFFF,
        stream := none, tbit := false, ideOk := true, ro := false, ido := false, payload := [] })))
  ∧ (∀ (s : State) (h func off : Nat) (d : Word) (locked : Bool), s.service ≠ .off → h < s.params.hcCount → s.hstOn h = true →
      func = s.fld (rHstPortCap h) 31 24 → s.fld (rHstPortCap h) 11 0 ≠ 0 → s.fld (rHstPortCap h) 11 0 ≤ off → off < s.fld (rHstPortCap h) 11 0 + doeLen →
      (s.fld (rHstPortCap h) 23 12 = 0 ∨ off < s.fld (rHstPortCap h) 23 12 ∨ s.fld (rHstPortCap h) 23 12 + ideLen ≤ off) →
    exec (.configRequestRx h true func off d locked) s = .next ((s.modHst fun x =>
        { x with cfg := (x.cfg.filter fun c => decide (¬(c.1 = h ∧ c.2.1 = off))) ++ [(h, off, d)] }).emit (.cfgCpl h 0))
    ∧ exec (.configRequestRx h false func off d locked) s
      = .next (s.emit (.cfgCpl h (((s.hst.cfg.find? fun c => decide (c.1 = h ∧ c.2.1 = off)).map fun c => c.2.2).getD
          (Config.cfgWord (off - s.fld (rHstPortCap h) 11 0))))))
  ∧ (∀ (s : State) (h : Nat), h < s.params.hcCount →
    exec (.hcLinkUpRise h) s = .next (s.modPins fun q => { q with hcUp := setBit q.hcUp h true }))
  ∧ (∀ (s : State) (h : Nat), h < s.params.hcCount →
    let t := each (List.range 8) (State.streamDown h) (s.modPins fun q => { q with hcUp := setBit q.hcUp h false })
    let mine := parts16.filter fun p => decide (s.tdiPort p = some h)
    let u := (each mine State.tdiError t).modHst fun x =>
      { x with trs := x.trs.filter (fun r => decide (r.h ≠ h)), prs := x.prs.filter (fun r => decide (r.h ≠ h)),
               prWait := x.prWait.filter (fun r => decide (r.1 ≠ h)), doe := x.doe.set none h none }
    exec (.hcLinkUpFall h) s = .next (each mine (fun p v => v.tilesFault p .unmapped) (u.endSecuredWhere fun x => decide (x.t = .doe h))))

/-- Link keys of the host streams and device interfaces (R340, R341, R347 to R350): in a secured session of the port's mailbox a key is programmed into a free slot, a set goes and stops; interface requests are answered, and LOCK, START and
STOP move the interface; a function-level reset stops it.
Where a clause goes beyond the spec's words it is the model's choice (log entries 30, 31, 72). -/
def Obligations.StreamKeysAndInterfacesFollow : Prop :=
  (∀ (s : State) (h sid : Nat), s.doeSess h sid = true →
    exec (.ideKmQuery h sid) s = .next (s.respond (.doe h) (.ideKmReport ((List.range 8).map fun i => (i, s.stream h i)))))
  ∧ (∀ (s : State) (h sid i set p n : Nat) (sub : SubStream) (rx : Bool) (key : BitVec 256), s.doeSess h sid = true →
      s.streamOwner h i = some p → i < 8 → set < 2 → (s.ideKeys h i (subNo sub) rx).used.contains set = false → s.pst p ≠ 0 →
      (s.ideKeys h i (subNo sub) rx).slotOf set = none → s.takeSlot p = some n →
    exec (.ideKmKeyProg h sid i sub rx set key) s
      = .next ((((s.fill n p 2 2 false false false false (key.setWidth 512)).modKeys h i (subNo sub) rx fun x =>
          x.putSlot set (some n)).tryStream h i).ideAnswer h true))
  ∧ (∀ (s : State) (h sid i set : Nat) (sub : SubStream) (rx : Bool), s.doeSess h sid = true → i < 8 → set < 2 →
      ((s.ideKeys h i (subNo sub) rx).slotOf set).isSome = true →
    exec (.ideKmKSetGo h sid i sub rx set) s
      = .next ((((s.modKeys h i (subNo sub) rx fun x =>
          { x with go := some set, used := if x.used.contains set then x.used else x.used ++ [set] }).modHst fun x =>
        { x with ideSent := x.ideSent.set 0 (keyNo h i (subNo sub) rx) 0 }).tryStream h i).ideAnswer h true))
  ∧ (∀ (s : State) (h sid i set n : Nat) (sub : SubStream), s.doeSess h sid = true →
      (s.ideKeys h i (subNo sub) false).slotOf set = some n → (s.ideKeys h i (subNo sub) false).go ≠ some set →
      (s.ideKeys h i (subNo sub) false).go.isSome = true →
    exec (.ideKmKSetStop h sid i sub false set) s = .next (((s.retire n).modKeys h i (subNo sub) false fun _ =>
      { (s.ideKeys h i (subNo sub) false).putSlot set none with go := (s.ideKeys h i (subNo sub) false).go, used := (s.ideKeys h i (subNo sub) false).used.erase set }).ideAnswer h true))
  ∧ (∀ (s : State) (h sid i set n : Nat) (sub : SubStream), s.doeSess h sid = true → set < 2 →
      (s.ideKeys h i (subNo sub) true).slotOf set = some n → ((s.ideKeys h i (subNo sub) true).slotOf (1 - set)).isSome = true →
    exec (.ideKmKSetStop h sid i sub true set) s = .next (((s.retire n).modKeys h i (subNo sub) true fun _ =>
      { (s.ideKeys h i (subNo sub) true).putSlot set none with go := if (s.ideKeys h i (subNo sub) true).go = some set then none else (s.ideKeys h i (subNo sub) true).go, used := (s.ideKeys h i (subNo sub) true).used.erase set }).ideAnswer h true))
  ∧ (∀ (s : State) (h sid p : Nat), s.doeSess h sid = true → s.tdiPort p = some h → p < 16 →
    exec (.getTdispVersion h sid p) s = .next (s.respond (.doe h) (.tdisp true (s.tdi p).st))
    ∧ exec (.getTdispCapabilities h sid p) s = .next (s.respond (.doe h) (.tdisp true (s.tdi p).st))
    ∧ exec (.getDeviceInterfaceState h sid p) s = .next (s.respond (.doe h) (.tdisp true (s.tdi p).st))
    ∧ exec (.getDeviceInterfaceReport h sid p) s = .next (s.respond (.doe h) (.tdispReport p (s.memberOf p) (s.tdi p).locked))
    ∧ exec (.stopInterfaceRequest h sid p) s = .next ((s.tdiStop p).respond (.doe h) (.tdisp true ((s.tdiStop p).tdi p).st))
    ∧ exec (.tdispUnsupportedRequest h sid p) s = .next (s.respond (.doe h) .tdispUnsupported))
  ∧ (∀ (s : State) (h sid p : Nat), s.doeSess h sid = true → s.tdiPort p ≠ some h →
    exec (.getTdispVersion h sid p) s = .next (s.respond (.doe h) (.tdisp false 0)))
  ∧ (∀ (s : State) (h sid p i : Nat), s.doeSess h sid = true → p < 16 → s.tdiPort p = some h → s.lockStream h p = some i → (s.tdi p).st = 0 →
      s.pst p = 1 ∨ s.pst p = 2 ∨ s.pst p = 3 →
    exec (.lockInterfaceRequest h sid p) s = .next (((s.modTdi p fun x => { x with st := 1, stream := i, locked := (s.part p).ranges }).modCmd fun c =>
      { c with sessions := c.sessions.map fun x => if x.sid = sid ∧ x.t = .doe h then { x with tdi := some p }
          else if x.tdi = some p then { x with tdi := none } else x }).tdispAnswer h p true))
  ∧ (∀ (s : State) (h sid p : Nat), s.doeSess h sid = true → p < 16 → s.tdiPort p = some h → (s.tdi p).st = 1 → (s.part p).vmAssign = true →
    exec (.startInterfaceRequest h sid p) s = .next ((s.modTdi p fun x => { x with st := 2 }).tdispAnswer h p true))
  ∧ (∀ (s : State) (h rid p : Nat), s.hstOn h = true → s.tdiOf h rid = some p → exec (.functionLevelReset h rid) s = .next (s.tdiStop p))

/-- Translations, pages and tiles (R353 to R363): a completion that is not stale ends its request with the pages it brought, a timeout with none; an invalidation removes the entries it covers and is
acknowledged when no read uses them; a page response asks again, switches paging off or fails the page; tiles open and close.
Where a clause goes beyond the spec's words it is the model's choice (log entries 31, 45, 68). -/
def Obligations.TranslationsAndTilesFollow : Prop :=
  (∀ (s : State) (h tag : Nat) (ok : Bool) (ps : List Page) (r : TrReq), s.boot.breached = false →
      (s.hst.trs.find? fun r => decide (r.h = h) && decide (r.tag = tag)) = some r →
    (r.stale = false → exec (.translationCompletion h tag ok ps) s = .next (s.trEnds r (if ok then ps else [])))
    ∧ (r.stale = true → exec (.translationCompletion h tag ok ps) s = .next ((s.modHst fun x =>
        { x with trs := x.trs.map fun y => if y = r then { y with stale := false } else y }).emit (.transReq h tag r.va)))
    ∧ exec (.translationTimeout h tag) s = .next (s.trEnds r []))
  ∧ (∀ (s : State) (h itag rid p va len : Nat) (pasid : Option Nat), s.tdiOf h rid = some p → s.hstOn h = true →
      (s.hst.invs.filter fun x => decide (x.1 = h)).length < 32 →
    let same (q : Option Nat) : Bool := decide (pasid = none) || decide (q = pasid) || decide (q = none)
    let gone := s.hst.atc.filter fun e => decide (e.part = p) && same e.pasid && overlaps e.va (e.size * e.pages) va len
    let used (a n : Nat) : Bool := gone.any fun e => overlaps a n e.va (e.size * e.pages)
    let reads := ((s.hst.tiles.filter fun x => decide (x.1 / 16 = p)).map fun x =>
      (x.2.reads.filter fun r => used r.2.1 (max 1 r.2.2)).map fun r => r.1).flatten
    exec (.atsInvalidateRequest h itag rid pasid va len) s = .next ((s.modHst fun x =>
      { x with atc := x.atc.filter fun e => !gone.contains e,
               trs := x.trs.map (fun r =>
                 if decide (r.part = p) && same r.pasid && overlaps r.va 65536 va len then { r with stale := true } else r),
               invs := x.invs ++ [(h, itag, reads)] }).pump h))
  ∧ (∀ (s : State) (h itag : Nat) (x : Nat × Nat × List Nat), s.boot.breached = false →
      (s.hst.invs.find? fun x => decide (x.1 = h) && decide (x.2.1 = itag)) = some x → x.2.2 = [] →
    exec (.invalidationComplete h itag) s = .next ((s.modHst fun y => { y with invs := y.invs.erase x }).emit (.invCpl h itag)))
  ∧ (∀ (s : State) (h prg : Nat) (r : PrReq), s.boot.breached = false →
      (s.hst.prs.find? fun r => decide (r.h = h) && decide (r.prg = prg)) = some r →
    exec (.prgResponse h prg 0) s = .next ((s.modHst fun x => { x with prs := x.prs.erase r }).askPage h r.part r.pasid r.va).prNext
    ∧ exec (.prgResponse h prg 1) s = .next ((s.modHst fun x => { x with prs := x.prs.erase r }).pageFail h r.part r.pasid r.va).prNext)
  ∧ (∀ (s : State) (prg : Nat) (r : PrReq), s.boot.breached = false → (s.hst.prs.find? fun r => decide (r.prg = prg)) = some r →
    exec (.priTimeout prg) s = .next ((s.modHst fun x => { x with prs := x.prs.erase r }).pageFail r.h r.part r.pasid r.va).prNext)
  ∧ (∀ (s : State) (h p : Nat) (m : TileMsg), s.tileVid h m = true →
      s.tdiOf h m.rid = some p → s.tileRefused h p m
        { st := 1, h := h, ctx := m.ctx, pasid := (s.ctx m.ctx).pasid, rd := bit m.dir 0, wr := bit m.dir 1, base := m.base,
          rowBytes := m.rowBytes, pitch := m.pitch, rows := m.rows, held := [], reads := [], sent := 0, born := s.hst.tileNo,
          closing := false } = true →
    exec (.tileOpen h m) s = .next (s.fault p m.ctx 2 .badParam m.base 0 m.tile false))
  ∧ (∀ (s : State) (h p : Nat) (m : TileMsg),
    let x : Tile :=
      { st := 1, h := h, ctx := m.ctx, pasid := (s.ctx m.ctx).pasid, rd := bit m.dir 0, wr := bit m.dir 1, base := m.base,
        rowBytes := m.rowBytes, pitch := m.pitch, rows := m.rows, held := [], reads := [], sent := 0, born := s.hst.tileNo,
        closing := false }
    let t := ((s.modTile p m.tile fun _ => x).modHst fun y => { y with tileNo := y.tileNo + 1 }).trace p 8 0
      (BitVec.ofNat 64 m.base) true (BitVec.ofNat 64 (m.tile + 256)) m.ctx
    s.tileVid h m = true → s.tdiOf h m.rid = some p →
      s.tileRefused h p m x = false → (s.hst.tiles.filter fun y => decide (y.2.st ≠ 0) && decide (y.2.h = h)).length < 64 →
      s.pst p ≠ 4 → s.pst p ≠ 5 → (s.ctx m.ctx).st ≠ 3 → (s.ctx m.ctx).resetting = false → s.atsOn h = true →
    exec (.tileOpen h m) s = .next ((each x.pages (State.touchAtc p x.pasid) t).pump h))
  ∧ (∀ (s : State) (h p : Nat) (m : TileMsg), s.tileVid h m = true →
      s.tdiOf h m.rid = some p → (s.tile p (m.tile % 16)).st = 2 →
    exec (.tileClose h m) s = .next ((s.modTile p (m.tile % 16) fun y => { y with closing := true }).tileClosed p (m.tile % 16)))

/-- Doorbells and marks (R365, R369, R388, R401, R424, R518): a control-port write that is a command acts with the rights of its ORIGIN and is
answered without error, but for an allocation doorbell that its slot refuses, which is answered with ERR.
Where a clause goes beyond the spec's words it is the model's choice (log entry 20). -/
def Obligations.DoorbellsTakeEffect : Prop :=
  ∀ (s : State) (rq : Rq), s.PortOpen rq →
    (∀ hq c q i, exec (.submissionDoorbell rq hq c q i) s = .next ((s.otherAccess.bell (rqOf rq) hq c q false i).emit (.ctl 0 false)))
    ∧ (∀ hq c q i, exec (.replyDoorbell rq hq c q i) s = .next ((s.otherAccess.bell (rqOf rq) hq c q true i).emit (.ctl 0 false)))
    ∧ (∀ n, exec (.hostQueueEnable rq n) s = .next ((s.otherAccess.hostQueueOpen n).emit (.ctl 0 false)))
    ∧ (∀ n, exec (.hostQueueDisable rq n) s = .next ((s.otherAccess.hostQueueClose n).emit (.ctl 0 false)))
    ∧ (∀ i pl sh c, exec (.allocDoorbell rq i pl sh c) s
        = .next ((s.otherAccess.adbSubmit (rqOf rq) i pl sh c).1.emit (.ctl 0 (s.otherAccess.adbSubmit (rqOf rq) i pl sh c).2)))
    ∧ (∀ c hd, exec (.faultQueueDoorbell rq c hd) s = .next ((s.otherAccess.fqWrite (rqOf rq) c hd).emit (.ctl 0 false)))
    ∧ (∀ c l o, exec (.obsMark rq c l o) s
        = .next ((s.otherAccess.mark (rqOf rq) (c % 65536) (l % 65536) (o % 65536)).emit (.ctl 0 false)))

/-- Events that finish earlier work (R37, R140, R224, R381, R401, R404, R473, R477, R507, R514, R520 to R523, R527): a freed object retires when nothing refers to it; an allocation completes; a spilled context returns; held egress
is released; trace, dump and press work goes on; a stored reply and a challenge expire; the processor halts and steps.
Where a clause goes beyond the spec's words it is the model's choice (log entries 24, 36, 45, 73). -/
def Obligations.DeferredWorkCompletes : Prop :=
  (∀ (s : State) (p o : Nat), (s.obj p o).st = 2 → (s.obj p o).refs = 0 → exec (.freeRetire p o) s = .next (s.retireObj p o))
  ∧ (∀ (s t : State) (p i o g x : Nat), (s.adb p i).status = .accepted → (s.ctx (s.adb p i).ctx).st = 1 → (s.ctx (s.adb p i).ctx).resident = true →
      (s.ctx (s.adb p i).ctx).part = p →
      s.alloc p (s.adb p i).plots (s.adb p i).ctx (s.adb p i).shared false = (t, .ok (o, g, x)) →
    exec (.allocDoorbellDone p i) s
      = .next (t.setAdb p i { s.adb p i with obj := o, gen := g, addr := 65536 * x, status := .done }))
  ∧ (∀ (s r t : State) (c : Nat), (s.ctx c).st ≠ 0 → (s.ctx c).resident = false → s.makeRoom = (r, true) → r.params.profile ≠ .s →
      r.innerRead (s.ctx c).part (s.ctx c).base 4096 = (t, .done) →
    let u := (t.modCtx c fun k => { k with resident := true }).touchCtx c
    exec (.contextRestore c) s = .next (each (u.obju.waiting.filter fun w => decide (w.1 = c)) (fun w => State.faultTo c w.2)
      (u.modObju fun o => { o with waiting := o.waiting.filter fun w => decide (w.1 ≠ c) })))
  ∧ (∀ (s : State) (k : Nat), s.runs = true →
    exec (.egressRelease (.fabric k)) s = .next (s.freeFabric k) ∧ exec (.egressRelease (.host k)) s = .next (s.freeHost k)
    ∧ exec (.egressRelease (.north k)) s = .next (s.freeNorth k) ∧ exec (.egressRelease .cdm) s = .next s.freeCdm
    ∧ exec (.egressRelease .trace) s = .next s.freeTrace)
  ∧ (∀ s : State, s.service = .full → exec .quantisationInstant s
      = .next (each (parts16.filter fun p => decide (s.pst p ≠ 0) && decide (s.pst p ≠ 5)) State.publish s))
  ∧ (∀ (s : State) (p r : Nat), p < 16 → r < 4 → (s.ring p r).staged ≠ [] →
    exec (.traceSectorTimeout p r) s = .next ((s.setRing p r { s.ring p r with due := true }).writeRing p r false))
  ∧ (∀ (s t u : State) (p sid i : Nat) (data rec : List Byte) (d : Dump) (x : Tensor),
      (s.obs.dumps.find? fun d => decide (d.part = p) && d.cap.isSome) = some d → d.cap = some (x, sid, i) → i + 1 < x.chunks →
      s.innerRead p (x.base + 65536 * i) (x.chunkLen i) = (t, .done) →
      t.sealRec sid (t.dumpHeader d x i .done ++ (data ++ List.replicate (x.chunkLen i - data.length) 0).take (x.chunkLen i)) = (u, rec) →
    exec (.dumpChunkCapture p data .done) s = .next ((u.modObs fun o => { o with dumps := o.dumps.map fun z =>
        if z = d then { d with cap := some (x, sid, i + 1) } else z }).cdmWrite p (.dump p (t.dumpBase p + x.recordAt i) rec)))
  ∧ (∀ (s : State) (p i : Nat) (d : Dump), (s.obs.dumps.find? fun d => decide (d.part = p) && decide (d.idx = i) && d.cap.isNone) = some d →
    exec (.dumpStepTimeout p i) s = .next (s.dumpEnd d 5))
  ∧ (∀ s : State, s.boot.phase = .ready ∨ s.boot.phase = .tolaro → exec .pressFlush s = .next s.flushPress)
  ∧ (∀ (s : State) (sid : Nat) (seq : Word) (x : Nat × Reply), (s.cmd.stored.find? fun x => decide (x.1 = sid) && decide (x.2.seq = seq)) = some x →
    exec (.storedReplyExpire sid seq) s = .next (s.modCmd fun c => { c with stored := c.stored.erase x }))
  ∧ (∀ s : State, exec .challengeExpire s = .next (s.modBoot fun b => { b with challenge := none }))
  ∧ (∀ (s : State) (rq : Rq), s.service ≠ .off → rq.dbg = true → s.dbgWrites false = true →
    (∀ halt, exec (.debugHalt rq halt) s = .next ((s.coreHalt halt).emit (.dbg 0 false)))
    ∧ exec (.debugStep rq) s = .next (s.coreStep.emit (.dbg 0 false)))
  ∧ (∀ (s : State) (rq : Rq) (halt : Bool), s.PortOpen rq →
    exec (.debugHalt rq halt) s = .next (s.otherAccess.emit (.ctl 0 false)) ∧ exec (.debugStep rq) s = .next (s.otherAccess.emit (.ctl 0 false)))

/-- Slot transitions (R147): retirement takes a LIVE slot to RETIRING; when nothing uses it, after bring-up, its value is zeroised, and it is RETIRED while an anchor entry names a memory slot, else EMPTY, unless the successor of an epoch handover waits for it;
a RETIRED slot that no anchor entry names becomes EMPTY; no other slot and no other unit changes, and a slot in another state stays as it is. -/
def Obligations.SlotsChangeStateOnlyAsTheTableAllows : Prop :=
  (∀ (s : State) (n : Nat), (s.slot n).st = 1 →
    (s.retire n).slot n = { s.slot n with st := 2 } ∧ ∀ m, m ≠ n → (s.retire n).slot m = s.slot m)
  ∧ (∀ (s : State) (n : Nat), (s.slot n).st ≠ 1 → s.retire n = s)
  ∧ (∀ (s : State) (n : Nat), (s.slot n).st = 2 → s.slotBusy n = false → s.boot.phase = .ready → s.key.refill.get none n = none →
    ∃ t, exec (.slotRetireComplete n true .none) s = .next t ∧ (t.slot n).value = 0
      ∧ (t.slot n).st = (if (s.slot n).use = 0 ∧ s.anchorNames n = true then 3 else 0) ∧ (∀ m, m ≠ n → t.slot m = s.slot m)
      ∧ t.sg = s.sg ∧ t.boot = s.boot ∧ t.pins = s.pins ∧ t.out = s.out)
  ∧ (∀ (s : State) (n : Nat), (s.slot n).st = 3 → s.anchorNames n = false →
    ∃ t, exec (.slotRelease n) s = .next t ∧ t.slot n = Slot.empty ∧ (∀ m, m ≠ n → t.slot m = s.slot m) ∧ t.sg = s.sg ∧ t.out = s.out)
  ∧ (∀ (s : State) (n : Nat), (s.slot n).st ≠ 2 ∨ s.slotBusy n = true ∨ s.boot.phase ≠ .ready →
    ∀ ok ecc, exec (.slotRetireComplete n ok ecc) s = .next s)
  ∧ (∀ (s : State) (n : Nat), (s.slot n).st ≠ 3 ∨ s.anchorNames n = true → exec (.slotRelease n) s = .next s)

/-- Status replies (R22): a reply is 32 bytes, its byte 2 is the code of its status, and every code that the block returns is one of the table. -/
def Obligations.RepliesCarryTheTablesCodes : Prop :=
  ∀ r : Reply, r.bytes.length = 32 ∧ r.bytes[2]? = some (BitVec.ofNat 8 (stCode r.status))
    ∧ stCode r.status ∈ [0x00, 0x01, 0x10, 0x11, 0x12, 0x13, 0x14, 0x20, 0x21, 0x22, 0x23, 0x24, 0x25, 0x26, 0x27, 0x30, 0x31, 0x3F]

/-- The debug challenge (R473): DBG_CHALLENGE draws it with its LEVEL and returns it, in place of any earlier one; the next DBG_TOKEN, whatever its outcome, its time and any reset end it;
and it is refused with LC_FORBIDS where the state does not accept LEVEL, DBG_DIS is in force, DBG_AUTH is not 0, or a RETURNED part is not wiped. -/
def Obligations.OneChallengeIsLive : Prop :=
  (∀ (s : State) (h : Hdr) (level : Nat), s.Accepts ⟨0x0902, [.mgmt, .host, .tenant], .all, 1, 0, false⟩ h [] → s.key.rngReady = true →
      level = 1 ∨ level = 2 → lcLevel s.boot.lc = some level → s.control 0x32 = false → s.boot.dbgAuth = 0 → s.boot.lc ≠ 3 ∨ s.control 0x31 = true →
    exec (.dbgChallenge h level) s = .next (s.afterAdmission ⟨0x0902, [.mgmt, .host, .tenant], .all, 1, 0, false⟩ h [] fun p t =>
      (t.drawn.modBoot fun b => { b with challenge := some (t.free.setWidth 128, level) }).ok p (t.free.setWidth 128 : BitVec 128).toNat))
  ∧ (∀ (s : State) (h : Hdr) (level : Nat), s.Accepts ⟨0x0902, [.mgmt, .host, .tenant], .all, 1, 0, false⟩ h [] → s.key.rngReady = true →
      level = 1 ∨ level = 2 → (lcLevel s.boot.lc ≠ some level ∨ s.control 0x32 = true ∨ s.boot.dbgAuth ≠ 0 ∨ (s.boot.lc = 3 ∧ s.control 0x31 = false)) →
    exec (.dbgChallenge h level) s
      = .next ((((s.ringRead h).1.takePacket 0x0902 h true).1.reserve 1 h.path).refuse ((s.ringRead h).1.takePacket 0x0902 h true).2 (.lcForbids, 0xFF)))
  ∧ (∀ (s t : State) (h : Hdr) (k : Token), s.admits = true → s.pathOpen h.path = true → 
      s.admitWait tokenRow.opc h [] none (s.issuerOk tokenRow h || !tokenRow.prof.has s.params.profile) = none →
    exec (.dbgToken h k) s = .next t → t.boot.challenge = none)
  ∧ (∀ s : State, exec .challengeExpire s = .next (s.modBoot fun b => { b with challenge := none }))
  ∧ (∀ (s : State) (c : Nat) (warm lost : Bool), (s.takeReset c warm lost).boot.challenge = none)

/-- Commands that only concern command queues, objects, contexts, fences, slots, link frames, gating and observability. -/
def staysInItsUnit : Instr → Bool
  | .nop _ | .identify _ | .carry _ _ _ _ _ _ _ _ | .replyPoll _ _ | .storedReplyExpire _ _ | .submissionDoorbell _ _ _ _ _ | .replyDoorbell _ _ _ _ _
  | .hostQueueEnable _ _ | .hostQueueDisable _ _ | .queueCreate _ _ _ _ _ _ _ | .queueDestroy _ _ _ | .objAlloc _ _ _ | .objFree _ _ _
  | .freeRetire _ _ | .objQuery _ _ _ | .allocDoorbell _ _ _ _ _ | .allocDoorbellDone _ _ | .contextRestore _ | .ctxCreate _ _ _ _
  | .fenceCreate _ _ | .fenceSignal _ _ _ | .fenceWait _ _ | .fenceReset _ _ | .fenceDestroy _ _ | .fenceShare _ _ _ | .faultQueueDoorbell _ _ _
  | .regionRearm _ _ | .msWriteAck _ _ _ | .anchorRestore _ | .sgEnable _ _ | .sgDisable _ _ | .partShare _ _ | .laneGate _ | .laneWake
  | .rngStartupPass | .drbgReseed | .slotRetireComplete _ true .none | .slotRelease _ | .keyControlGen _ _ _ _ | .keyImport _ _ _ _ _ | .keyRetire _ _
  | .cceOp _ _ _ _ _ _ _ _ _ | .keyWrap _ _ _ | .keyUnwrap _ _ _ | .keyAttest _ _ _ | .mldsaSignRestart | .saSeed _ _
  | .sessionSetupStart _ _ | .sessionRetryBackoff _ _ | .keepaliveTx _ _ | .frameRxDiscard _ _ | .flowEntryTimeout _ _ | .flowEntryGrant _
  | .txStall _ | .frameEnqueue _ _ | .epochCountLimit _ _ | .epochChangeDeferred _ _ | .rxEpochRetire _ _ | .ratomicRetry _ _
  | .contributionResend _ _ _ _ | .resultChunkResend _ _ _ | .cntRead _ _ _ | .quantisationInstant | .traceCfg _ _ _ _ _ _ _
  | .traceStart _ _ | .traceStop _ _ | .traceTriggerNow _ _ | .traceReleaseFreeze _ _ | .traceSectorTimeout _ _ | .obsMark _ _ _ _
  | .tensorReg _ _ _ _ | .pressRead _ _ _ | .pressRelease _ | .pressFlush => true
  | _ => false

/-- Those of them that answer no command packet and discard no frame; they end no data object in progress on a host port and count no
message of domain time. -/
def leavesHostPorts : Instr → Bool
  | .storedReplyExpire _ _ | .submissionDoorbell _ _ _ _ _ | .replyDoorbell _ _ _ _ _ | .hostQueueEnable _ _ | .allocDoorbell _ _ _ _ _
  | .allocDoorbellDone _ _ | .contextRestore _ | .faultQueueDoorbell _ _ _ | .msWriteAck _ _ _ | .anchorRestore _ | .sgEnable _ _ | .sgDisable _ _
  | .laneGate _ | .laneWake | .rngStartupPass | .drbgReseed | .slotRetireComplete _ true .none | .slotRelease _ | .mldsaSignRestart | .keepaliveTx _ _
  | .flowEntryTimeout _ _ | .flowEntryGrant _ | .txStall _ | .frameEnqueue _ _ | .epochCountLimit _ _ | .epochChangeDeferred _ _
  | .rxEpochRetire _ _ | .ratomicRetry _ _ | .contributionResend _ _ _ _ | .resultChunkResend _ _ _ | .quantisationInstant
  | .traceSectorTimeout _ _ | .obsMark _ _ _ _ | .pressFlush => true
  | _ => false

/-- Session set-ups and discarded frames: they may lose the parent of domain time, or count its messages. -/
def touchesDomainTime : Instr → Bool
  | .sessionSetupStart _ _ | .sessionRetryBackoff _ _ | .frameRxDiscard _ _ => true
  | _ => false

/-- The frame of the commands that only concern queues, objects, contexts, fences, slots, link frames, gating and observability: bring-up and life-cycle state, pins, attestation with the partitions, reset steps, remote operations and domain time stay as they are, the host ports too
where no reply or frame is involved, and so do the fuses, the netlist parameters, the queue of commands and the time base. A session set-up may lose the parent of domain time, a discarded frame may be one of its
messages: those leave bring-up and life-cycle state, fuses, parameters, queue and time base. -/
def Obligations.UnitCommandsLeaveTheOtherUnits : Prop :=
  (∀ (c : Instr) (s t : State), staysInItsUnit c = true → exec c s = .next t →
    t.boot = s.boot ∧ t.fuse = s.fuse ∧ t.params = s.params ∧ t.pending = s.pending ∧ t.tref = s.tref)
  ∧ (∀ (c : Instr) (s t : State), staysInItsUnit c = true → touchesDomainTime c = false → exec c s = .next t →
    t.pins = s.pins ∧ t.dt = s.dt ∧ t.att = s.att ∧ t.rst = s.rst ∧ t.rem = s.rem)
  ∧ (∀ (c : Instr) (s t : State), leavesHostPorts c = true → exec c s = .next t → t.hst = s.hst)
end

