-- ==== Sys2Proof/Laws/Admit.lean ====
section
/-!
SUPPORT. What admission answers: the four ends of State.admitWith, and the one that an accepted packet takes.
-/
namespace Sys2Proof.Laws
open Sys2Proof.Machine

theorem chk_true (e : Status) (n : Nat) : chk true e n = [] := rfl

theorem admitWith_closed (s : State) (r : Row) (h : Hdr) (refs : List Nat) (hold : Option Nat) (fails : List Fail)
    (act : Pend → State → State) (hc : s.admits = false ∨ s.pathOpen h.path = false) : s.admitWith r h refs hold fails act = s := by
  unfold State.admitWith
  rcases hc with hc | hc <;> simp [hc]

theorem admitWith_waits (s : State) (r : Row) (h : Hdr) (refs : List Nat) (hold : Option Nat) (fails : List Fail)
    (act : Pend → State → State) (w : Nat) (ha : s.admits = true) (hp : s.pathOpen h.path = true)
    (hw : s.admitWait r.opc h refs hold (s.issuerOk r h || !r.prof.has s.params.profile) = some w) : s.admitWith r h refs hold fails act = s.hold w h refs := by
  unfold State.admitWith
  simp [ha, hp, hw]

theorem admitWith_accepts (s : State) (r : Row) (h : Hdr) (refs : List Nat) (hold : Option Nat) (fails : List Fail)
    (act : Pend → State → State) (ha : s.Accepts r h refs) (hh : hold = none) (hf : fails = []) :
    s.admitWith r h refs hold fails act = s.afterAdmission r h refs act := by
  obtain ⟨h1, h2, h3, h4, h5, h6⟩ := ha
  subst hh hf
  have e : failStatus ((s.ringRead h).1.headFails r h) = (.done, 0xFF) := by rw [h6]; rfl
  unfold State.admitWith
  rw [h1, h2, h3]
  simp [e, h4, h5, State.afterAdmission, State.begun]

theorem admit_accepts (s : State) (r : Row) (h : Hdr) (fails : List Fail) (act : Pend → State → State)
    (ha : s.Accepts r h []) (hf : fails = []) : s.admitCmd r h fails act = s.afterAdmission r h [] act :=
  admitWith_accepts s r h [] none fails act ha rfl hf

theorem portWrite_open (s : State) (rq : Rq) (obs : Bool) (act : Rq → State → State × Bool) (hp : s.PortOpen rq) :
    s.portWrite rq obs act = (act (rqOf rq) s.otherAccess).1.emit (.ctl 0 (act (rqOf rq) s.otherAccess).2) := by
  obtain ⟨h1, h2, h3⟩ := hp
  unfold State.portWrite
  simp [h1, h2, h3]

theorem rqOf_origin (rq : Rq) (h : rq.dbg = false) : (rqOf rq).origin = rq.origin := by
  unfold rqOf
  simp [h]
  split <;> simp_all

theorem ctlWrite_open (s : State) (rq : Rq) (act : State → State) (hp : s.PortOpen rq) :
    s.ctlWrite rq act = (act s.otherAccess).emit (.ctl 0 false) := by
  have h := rqOf_origin rq hp.2.1
  unfold State.ctlWrite
  rw [portWrite_open s rq false _ hp]
  simp [h, hp.2.2]

theorem rx_receives (s t : State) (h : RxHdr) (kind si : Nat) (c : HeldRx) (act : Nat → State → State)
    (hr : s.Receives h kind si t) : s.rx h kind c act = act si t := by
  obtain ⟨h1, h2⟩ := hr
  unfold State.rx
  rw [h1]
  rcases h2 with h2 | h2 <;> simp [h2]

theorem spdm_serves (s : State) (t : Transport) (ident : Bool) (act : State → State) (hs : s.Serves t) : s.spdm t ident act = act s := by
  obtain ⟨h1, h2⟩ := hs
  unfold State.spdm
  simp [h1, h2]

end Sys2Proof.Laws
end

