-- ==== Sys2Proof/Laws/Apart.lean ====
section
/-!
SUPPORT. Bring-up and life-cycle state, pins, domain time, partitions and management, reset units, remote operations: no operation below
changes any of them. One law for each operation and each command of that kind; a reply may end a data object of a host port.
-/
set_option linter.unusedSimpArgs false
set_option linter.unusedVariables false
set_option linter.unusedTactic false
set_option linter.unreachableTactic false
namespace Sys2Proof.Machine

/-- The units that the operations of this file leave as they are. -/
def State.apart (s : State) : Boot × Pins × Dt × Att × Rst × Rem := (s.boot, s.pins, s.dt, s.att, s.rst, s.rem)

theorem apart_State_modObs (f) (s : State) : (State.modObs f s).apart = s.apart := rfl

theorem apart_State_modSg (f) (s : State) : (State.modSg f s).apart = s.apart := rfl

theorem apart_State_modCmd (f) (s : State) : (State.modCmd f s).apart = s.apart := rfl

theorem apart_State_modKey (f) (s : State) : (State.modKey f s).apart = s.apart := rfl

theorem apart_State_modObju (f) (s : State) : (State.modObju f s).apart = s.apart := rfl

theorem apart_State_modRegf (f) (s : State) : (State.modRegf f s).apart = s.apart := rfl

theorem apart_State_modLnk (f) (s : State) : (State.modLnk f s).apart = s.apart := rfl

theorem apart_State_modShare (f) (s : State) : (State.modShare f s).apart = s.apart := rfl

theorem apart_State_modHst (f) (s : State) : (State.modHst f s).apart = s.apart := rfl

theorem apart_State_emit (x) (s : State) : (s.emit x).apart = s.apart := rfl

theorem apart_State_used (s : State) : (s.used).apart = s.apart := rfl

theorem apart_foldl {α} (f : State → α → State) (l : List α) (s : State) (h : ∀ t x, (f t x).apart = t.apart) : (l.foldl f s).apart = s.apart := by
  induction l generalizing s with
  | nil => rfl
  | cons a l ih => exact (ih (f s a)).trans (h s a)

theorem apart_foldFst {α β} (f : State × β → α → State × β) (l : List α) (x : State × β) (h : ∀ x k, (f x k).1.apart = x.1.apart) :
    (l.foldl f x).1.apart = x.1.apart := by
  induction l generalizing x with
  | nil => rfl
  | cons a l ih => exact (ih (f x a)).trans (h x a)

theorem apart_each {α} (l : List α) (f : α → State → State) (s : State) (h : ∀ x t, (f x t).apart = t.apart) : (each l f s).apart = s.apart := by
  unfold each
  induction l generalizing s with
  | nil => rfl
  | cons a l ih => exact (ih (f a s)).trans (h a s)

theorem apart_when (b) (f : State → State) (s : State) (h : ∀ t, (f t).apart = t.apart) : (when b f s).apart = s.apart := by
  unfold when; split
  · exact h s
  · rfl

theorem apart_State_setReg (a1) (a2) (s : State) : (State.setReg a1 a2 s).apart = s.apart := by
  unfold State.setReg
  simp only [apart_State_modRegf, eq_self]

theorem apart_State_setFld (a1) (a2) (a3) (a4) (s : State) : (State.setFld a1 a2 a3 a4 s).apart = s.apart := by
  unfold State.setFld
  simp only [apart_State_setReg, eq_self]

theorem apart_State_flag (a1) (a2) (s : State) : (State.flag a1 a2 s).apart = s.apart := by
  unfold State.flag
  simp only [apart_State_setReg, eq_self]

theorem apart_State_count (a1) (a2) (a3) (a4) (s : State) : (State.count a1 a2 a3 a4 s).apart = s.apart := by
  unfold State.count
  simp only [apart_State_setFld, eq_self]

theorem apart_State_busErr (a1) (s : State) : (State.busErr a1 s).apart = s.apart := by
  unfold State.busErr
  simp only [apart_State_flag, apart_State_setReg, apart_State_modObs, apply_ite State.apart, ite_self, eq_self]

theorem apart_State_glob (a1) (a2) (s : State) : (State.glob a1 a2 s).apart = s.apart := by
  unfold State.glob
  simp only [apart_State_modObs, eq_self]

theorem apart_State_cntr (a1) (a2) (a3) (s : State) : (State.cntr a1 a2 a3 s).apart = s.apart := by
  unfold State.cntr
  simp only [apart_State_glob, apart_State_modObs, apply_ite State.apart, ite_self, eq_self]

theorem apart_State_zeroCntrs (a1) (s : State) : (State.zeroCntrs a1 s).apart = s.apart := by
  unfold State.zeroCntrs
  simp only [apart_State_modObs, eq_self]

theorem apart_State_pressLoss (s : State) : (State.pressLoss s).apart = s.apart := by
  unfold State.pressLoss
  simp only [apart_State_modObs, apart_State_glob, apart_State_count, eq_self]

theorem apart_State_pressW (a1) (a2) (a3) (a4) (a5) (a6) (s : State) : (State.pressW a1 a2 a3 a4 a5 a6 s).apart = s.apart := by
  unfold State.pressW
  simp only [apart_State_pressLoss, apart_State_glob, apart_State_modObs, apply_ite State.apart, ite_self, eq_self]

theorem apart_State_press (a1) (a2) (a3) (a4) (s : State) : (State.press a1 a2 a3 a4 s).apart = s.apart := by
  unfold State.press
  simp only [apart_State_used, apart_State_pressW, eq_self, apart_State_used]

theorem apart_State_setFreeze (a1) (s : State) : (State.setFreeze a1 s).apart = s.apart := by
  unfold State.setFreeze
  simp only [apart_State_modObs, eq_self]

theorem apart_State_freezePress (a1) (a2) (a3) (a4) (a5) (s : State) : (State.freezePress a1 a2 a3 a4 a5 s).apart = s.apart := by
  unfold State.freezePress
  simp only [apart_State_setFreeze, apart_State_used, apart_State_pressW, eq_self, apart_State_used]

theorem apart_State_unfreeze (a1) (a2) (a3) (s : State) : (State.unfreeze a1 a2 a3 s).apart = s.apart := by
  unfold State.unfreeze
  simp only [apart_State_modObs, apart_State_pressW, apply_ite State.apart, ite_self, eq_self]

theorem apart_State_modUnit (a1) (a2) (s : State) : (State.modUnit a1 a2 s).apart = s.apart := by
  unfold State.modUnit
  simp only [apart_State_modShare, eq_self]

theorem apart_State_wants (a1) (s : State) : (State.wants a1 s).apart = s.apart := by
  unfold State.wants
  repeat' (first | with_reducible rfl | (simp only [apart_State_modUnit, apply_ite State.apart, apply_ite Prod.fst, ite_self, implies_true, eq_self, apart_foldl, apart_each, apart_when, apart_State_emit, apart_State_used]; done) | (simp only [apart_State_modUnit, apply_ite State.apart, apply_ite Prod.fst, ite_self, implies_true, eq_self, apart_foldl, apart_each, apart_when, apart_State_emit, apart_State_used]) | split | (refine (apart_each _ _ _ (fun x t => ?_)).trans ?_) | (refine (apart_when _ _ _ (fun t => ?_)).trans ?_) | (refine (apart_foldl _ _ _ (fun t x => ?_)).trans ?_) | (rename_i h; refine (congrArg (fun x => State.apart (Prod.fst x)) h).symm.trans ?_; simp only [apart_State_modUnit, apply_ite State.apart, apply_ite Prod.fst, ite_self, implies_true, eq_self, apart_foldl, apart_each, apart_when, apart_State_emit, apart_State_used]; done) | (refine (apart_foldFst _ _ _ (fun x k => ?_)).trans ?_) | intro x)

theorem apart_State_groupWork (a1) (a2) (s : State) : (State.groupWork a1 a2 s).apart = s.apart := by
  unfold State.groupWork
  simp only [apart_State_wants, apart_State_modShare, apply_ite State.apart, ite_self, eq_self]

theorem apart_State_setSlot (a1) (a2) (s : State) : (State.setSlot a1 a2 s).apart = s.apart := by
  unfold State.setSlot
  simp only [apart_State_modKey, eq_self]

theorem apart_State_modSlot (a1) (a2) (s : State) : (State.modSlot a1 a2 s).apart = s.apart := by
  unfold State.modSlot
  simp only [apart_State_setSlot, eq_self]

theorem apart_State_burn (a1) (a2) (s : State) : (State.burn a1 a2 s).apart = s.apart := by
  unfold State.burn
  rfl

theorem apart_State_fill (a1) (a2) (a3) (a4) (a5) (a6) (a7) (a8) (a9) (s : State) : (State.fill a1 a2 a3 a4 a5 a6 a7 a8 a9 s).apart = s.apart := by
  unfold State.fill
  simp only [apart_State_setSlot, eq_self]

theorem apart_State_dropDkc (a1) (s : State) : (State.dropDkc a1 s).apart = s.apart := by
  unfold State.dropDkc
  simp only [apart_State_modKey, eq_self]

theorem apart_State_dropTag (a1) (s : State) : (State.dropTag a1 s).apart = s.apart := by
  unfold State.dropTag
  simp only [apart_State_modKey, eq_self]

theorem apart_State_retire (a1) (s : State) : (State.retire a1 s).apart = s.apart := by
  unfold State.retire
  simp only [apart_State_modKey, apart_State_dropDkc, apart_State_modSlot, apply_ite State.apart, ite_self, eq_self]

theorem apart_State_refillSlot (a1) (s : State) : (State.refillSlot a1 s).apart = s.apart := by
  unfold State.refillSlot
  repeat' (first | with_reducible rfl | (simp only [apart_State_modKey, apart_State_fill, apply_ite State.apart, apply_ite Prod.fst, ite_self, implies_true, eq_self, apart_foldl, apart_each, apart_when, apart_State_emit, apart_State_used]; done) | (simp only [apart_State_modKey, apart_State_fill, apply_ite State.apart, apply_ite Prod.fst, ite_self, implies_true, eq_self, apart_foldl, apart_each, apart_when, apart_State_emit, apart_State_used]) | split | (refine (apart_each _ _ _ (fun x t => ?_)).trans ?_) | (refine (apart_when _ _ _ (fun t => ?_)).trans ?_) | (refine (apart_foldl _ _ _ (fun t x => ?_)).trans ?_) | (rename_i h; refine (congrArg (fun x => State.apart (Prod.fst x)) h).symm.trans ?_; simp only [apart_State_modKey, apart_State_fill, apply_ite State.apart, apply_ite Prod.fst, ite_self, implies_true, eq_self, apart_foldl, apart_each, apart_when, apart_State_emit, apart_State_used]; done) | (refine (apart_foldFst _ _ _ (fun x k => ?_)).trans ?_) | intro x)

theorem apart_State_finishRetire (a1) (s : State) : (State.finishRetire a1 s).apart = s.apart := by
  unfold State.finishRetire
  simp only [apart_State_modSlot, apart_State_refillSlot, apart_State_setSlot, apply_ite State.apart, ite_self, eq_self]

theorem apart_State_settleSlot (a1) (s : State) : (State.settleSlot a1 s).apart = s.apart := by
  unfold State.settleSlot
  simp only [apart_State_finishRetire, apply_ite State.apart, ite_self, eq_self]

theorem apart_State_retireFor (a1) (a2) (s : State) : (State.retireFor a1 a2 s).apart = s.apart := by
  unfold State.retireFor
  simp only [apart_State_modKey, apart_State_retire, eq_self]

theorem apart_State_retireAll (a1) (s : State) : (State.retireAll a1 s).apart = s.apart := by
  unfold State.retireAll
  simp only [apart_State_modKey, apart_each, apart_State_retire, implies_true, eq_self, apart_each]

theorem apart_State_renew (a1) (a2) (a3) (a4) (s : State) : (State.renew a1 a2 a3 a4 s).apart = s.apart := by
  unfold State.renew
  simp only [apart_State_fill, apart_State_settleSlot, apart_State_retire, eq_self]

theorem apart_State_wipeMemSlots (s : State) : (State.wipeMemSlots s).apart = s.apart := by
  unfold State.wipeMemSlots
  simp only [apart_each, apart_State_finishRetire, apart_State_retire, apart_State_modKey, implies_true, eq_self, apart_each]

theorem apart_State_clearSlots (a1) (s : State) : (State.clearSlots a1 s).apart = s.apart := by
  unfold State.clearSlots
  simp only [apart_State_modKey, eq_self]

theorem apart_State_pkeAdd (a1) (s : State) : (State.pkeAdd a1 s).apart = s.apart := by
  unfold State.pkeAdd
  simp only [apart_State_modKey, eq_self]

theorem apart_State_setAnchor (a1) (a2) (s : State) : (State.setAnchor a1 a2 s).apart = s.apart := by
  unfold State.setAnchor
  simp only [apart_State_modSg, eq_self]

theorem apart_State_useAnchor (a1) (s : State) : (State.useAnchor a1 s).1.apart = s.apart := by
  unfold State.useAnchor
  simp only [apart_State_press, apart_State_glob, apart_State_setAnchor, apply_ite State.apart, apply_ite Prod.fst, ite_self, eq_self]

theorem apart_State_wiltAnchor (a1) (s : State) : (State.wiltAnchor a1 s).apart = s.apart := by
  unfold State.wiltAnchor
  simp only [apart_State_setAnchor, apart_State_modSg, apart_State_cntr, apart_State_press, eq_self]

theorem apart_State_useRegion (a1) (s : State) : (State.useRegion a1 s).1.apart = s.apart := by
  unfold State.useRegion
  simp only [apart_State_useAnchor, apart_State_cntr, apart_State_wiltAnchor, apply_ite State.apart, apply_ite Prod.fst, ite_self, eq_self]

theorem apart_State_modLine (a1) (a2) (s : State) : (State.modLine a1 a2 s).apart = s.apart := by
  unfold State.modLine
  simp only [apart_State_modSg, eq_self]

theorem apart_State_insertLine (a1) (a2) (s : State) : (State.insertLine a1 a2 s).apart = s.apart := by
  unfold State.insertLine
  repeat' (first | with_reducible rfl | (simp only [apart_State_modSg, apply_ite State.apart, apply_ite Prod.fst, ite_self, implies_true, eq_self, apart_foldl, apart_each, apart_when, apart_State_emit, apart_State_used]; done) | (simp only [apart_State_modSg, apply_ite State.apart, apply_ite Prod.fst, ite_self, implies_true, eq_self, apart_foldl, apart_each, apart_when, apart_State_emit, apart_State_used]) | split | (refine (apart_each _ _ _ (fun x t => ?_)).trans ?_) | (refine (apart_when _ _ _ (fun t => ?_)).trans ?_) | (refine (apart_foldl _ _ _ (fun t x => ?_)).trans ?_) | (rename_i h; refine (congrArg (fun x => State.apart (Prod.fst x)) h).symm.trans ?_; simp only [apart_State_modSg, apply_ite State.apart, apply_ite Prod.fst, ite_self, implies_true, eq_self, apart_foldl, apart_each, apart_when, apart_State_emit, apart_State_used]; done) | (refine (apart_foldFst _ _ _ (fun x k => ?_)).trans ?_) | intro x)

theorem apart_State_touchLine (a1) (s : State) : (State.touchLine a1 s).apart = s.apart := by
  unfold State.touchLine
  repeat' (first | with_reducible rfl | (simp only [apart_State_modSg, apply_ite State.apart, apply_ite Prod.fst, ite_self, implies_true, eq_self, apart_foldl, apart_each, apart_when, apart_State_emit, apart_State_used]; done) | (simp only [apart_State_modSg, apply_ite State.apart, apply_ite Prod.fst, ite_self, implies_true, eq_self, apart_foldl, apart_each, apart_when, apart_State_emit, apart_State_used]) | split | (refine (apart_each _ _ _ (fun x t => ?_)).trans ?_) | (refine (apart_when _ _ _ (fun t => ?_)).trans ?_) | (refine (apart_foldl _ _ _ (fun t x => ?_)).trans ?_) | (rename_i h; refine (congrArg (fun x => State.apart (Prod.fst x)) h).symm.trans ?_; simp only [apart_State_modSg, apply_ite State.apart, apply_ite Prod.fst, ite_self, implies_true, eq_self, apart_foldl, apart_each, apart_when, apart_State_emit, apart_State_used]; done) | (refine (apart_foldFst _ _ _ (fun x k => ?_)).trans ?_) | intro x)

theorem apart_State_dropRegion (a1) (s : State) : (State.dropRegion a1 s).apart = s.apart := by
  unfold State.dropRegion
  simp only [apart_State_modSg, eq_self]

theorem apart_State_msQRead (a1) (s : State) : (State.msQRead a1 s).apart = s.apart := by
  unfold State.msQRead
  simp only [apart_State_emit, apply_ite State.apart, ite_self, eq_self, apart_State_emit]

theorem apart_State_msQWrite (a1) (s : State) : (State.msQWrite a1 s).apart = s.apart := by
  unfold State.msQWrite
  simp only [apart_State_emit, apply_ite State.apart, ite_self, eq_self, apart_State_emit]

theorem apart_State_msRead (a1) (a2) (a3) (a4) (a5) (s : State) : (State.msRead a1 a2 a3 a4 a5 s).apart = s.apart := by
  unfold State.msRead
  simp only [apart_State_msQRead, apart_State_modSg, eq_self]

theorem apart_State_msWrite (a1) (a2) (a3) (a4) (a5) (a6) (a7) (s : State) : (State.msWrite a1 a2 a3 a4 a5 a6 a7 s).apart = s.apart := by
  unfold State.msWrite
  simp only [apart_State_msQWrite, apart_State_modSg, eq_self]

theorem apart_State_msNext (a1) (a2) (s : State) : (State.msNext a1 a2 s).apart = s.apart := by
  unfold State.msNext
  repeat' (first | with_reducible rfl | (simp only [apart_State_msQRead, apart_State_modSg, apart_State_msQWrite, apply_ite State.apart, apply_ite Prod.fst, ite_self, implies_true, eq_self, apart_foldl, apart_each, apart_when, apart_State_emit, apart_State_used]; done) | (simp only [apart_State_msQRead, apart_State_modSg, apart_State_msQWrite, apply_ite State.apart, apply_ite Prod.fst, ite_self, implies_true, eq_self, apart_foldl, apart_each, apart_when, apart_State_emit, apart_State_used]) | split | (refine (apart_each _ _ _ (fun x t => ?_)).trans ?_) | (refine (apart_when _ _ _ (fun t => ?_)).trans ?_) | (refine (apart_foldl _ _ _ (fun t x => ?_)).trans ?_) | (rename_i h; refine (congrArg (fun x => State.apart (Prod.fst x)) h).symm.trans ?_; simp only [apart_State_msQRead, apart_State_modSg, apart_State_msQWrite, apply_ite State.apart, apply_ite Prod.fst, ite_self, implies_true, eq_self, apart_foldl, apart_each, apart_when, apart_State_emit, apart_State_used]; done) | (refine (apart_foldFst _ _ _ (fun x k => ?_)).trans ?_) | intro x)

theorem apart_State_fetchLine (a1) (a2) (s : State) : (State.fetchLine a1 a2 s).apart = s.apart := by
  unfold State.fetchLine
  repeat' (first | with_reducible rfl | (simp only [apart_State_insertLine, apart_State_cntr, apart_State_glob, apart_State_msRead, apply_ite State.apart, apply_ite Prod.fst, ite_self, implies_true, eq_self, apart_foldl, apart_each, apart_when, apart_State_emit, apart_State_used]; done) | (simp only [apart_State_insertLine, apart_State_cntr, apart_State_glob, apart_State_msRead, apply_ite State.apart, apply_ite Prod.fst, ite_self, implies_true, eq_self, apart_foldl, apart_each, apart_when, apart_State_emit, apart_State_used]) | split | (refine (apart_each _ _ _ (fun x t => ?_)).trans ?_) | (refine (apart_when _ _ _ (fun t => ?_)).trans ?_) | (refine (apart_foldl _ _ _ (fun t x => ?_)).trans ?_) | (rename_i h; refine (congrArg (fun x => State.apart (Prod.fst x)) h).symm.trans ?_; simp only [apart_State_insertLine, apart_State_cntr, apart_State_glob, apart_State_msRead, apply_ite State.apart, apply_ite Prod.fst, ite_self, implies_true, eq_self, apart_foldl, apart_each, apart_when, apart_State_emit, apart_State_used]; done) | (refine (apart_foldFst _ _ _ (fun x k => ?_)).trans ?_) | intro x)

theorem apart_State_needLine (a1) (a2) (s : State) : (State.needLine a1 a2 s).1.apart = s.apart := by
  unfold State.needLine
  repeat' (first | with_reducible rfl | (simp only [apart_State_touchLine, apart_State_fetchLine, apply_ite State.apart, apply_ite Prod.fst, ite_self, implies_true, eq_self, apart_foldl, apart_each, apart_when, apart_State_emit, apart_State_used]; done) | (simp only [apart_State_touchLine, apart_State_fetchLine, apply_ite State.apart, apply_ite Prod.fst, ite_self, implies_true, eq_self, apart_foldl, apart_each, apart_when, apart_State_emit, apart_State_used]) | split | (refine (apart_each _ _ _ (fun x t => ?_)).trans ?_) | (refine (apart_when _ _ _ (fun t => ?_)).trans ?_) | (refine (apart_foldl _ _ _ (fun t x => ?_)).trans ?_) | (rename_i h; refine (congrArg (fun x => State.apart (Prod.fst x)) h).symm.trans ?_; simp only [apart_State_touchLine, apart_State_fetchLine, apply_ite State.apart, apply_ite Prod.fst, ite_self, implies_true, eq_self, apart_foldl, apart_each, apart_when, apart_State_emit, apart_State_used]; done) | (refine (apart_foldFst _ _ _ (fun x k => ?_)).trans ?_) | intro x)

theorem apart_walkLevel (a1) (a2) (a3) (a4) (x : State × Option DWord × List LineId) (l) :
    (State.walkLevel a1 a2 a3 a4 x l).1.apart = x.1.apart := by
  obtain ⟨s, o, ls⟩ := x
  unfold State.walkLevel
  simp only []
  split
  · exact apart_State_needLine ..
  · split
    · split
      · exact (apart_State_insertLine ..).trans (apart_State_insertLine ..)
      · exact apart_State_insertLine ..
    · exact (apart_State_needLine ..).trans (apart_State_fetchLine ..)

theorem apart_walkFold (a1) (a2) (a3) (a4) (l : List Nat) (x : State × Option DWord × List LineId) :
    (l.foldl (State.walkLevel a1 a2 a3 a4) x).1.apart = x.1.apart := by
  induction l generalizing x with
  | nil => rfl
  | cons a l ih => exact (ih _).trans (apart_walkLevel ..)

theorem apart_State_walkFrom (a1) (a2) (a3) (a4) (a5) (s : State) : (State.walkFrom a1 a2 a3 a4 a5 s).1.apart = s.apart := by
  unfold State.walkFrom
  exact (apart_walkFold ..).trans (apart_each _ _ _ fun _ _ => apart_State_touchLine ..)

theorem apart_State_walk (a1) (a2) (a3) (a4) (s : State) : (State.walk a1 a2 a3 a4 s).1.apart = s.apart := apart_State_walkFrom ..

theorem apart_State_useKey (a1) (a2) (s : State) : (State.useKey a1 a2 s).apart = s.apart := by
  unfold State.useKey
  repeat' (first | with_reducible rfl | (simp only [apart_State_modKey, apart_State_cntr, apply_ite State.apart, apply_ite Prod.fst, ite_self, implies_true, eq_self, apart_foldl, apart_each, apart_when, apart_State_emit, apart_State_used]; done) | (simp only [apart_State_modKey, apart_State_cntr, apply_ite State.apart, apply_ite Prod.fst, ite_self, implies_true, eq_self, apart_foldl, apart_each, apart_when, apart_State_emit, apart_State_used]) | split | (refine (apart_each _ _ _ (fun x t => ?_)).trans ?_) | (refine (apart_when _ _ _ (fun t => ?_)).trans ?_) | (refine (apart_foldl _ _ _ (fun t x => ?_)).trans ?_) | (rename_i h; refine (congrArg (fun x => State.apart (Prod.fst x)) h).symm.trans ?_; simp only [apart_State_modKey, apart_State_cntr, apply_ite State.apart, apply_ite Prod.fst, ite_self, implies_true, eq_self, apart_foldl, apart_each, apart_when, apart_State_emit, apart_State_used]; done) | (refine (apart_foldFst _ _ _ (fun x k => ?_)).trans ?_) | intro x)

theorem apart_State_insertKey (a1) (a2) (s : State) : (State.insertKey a1 a2 s).apart = s.apart := by
  unfold State.insertKey
  repeat' (first | with_reducible rfl | (simp only [apart_State_modKey, apply_ite State.apart, apply_ite Prod.fst, ite_self, implies_true, eq_self, apart_foldl, apart_each, apart_when, apart_State_emit, apart_State_used]; done) | (simp only [apart_State_modKey, apply_ite State.apart, apply_ite Prod.fst, ite_self, implies_true, eq_self, apart_foldl, apart_each, apart_when, apart_State_emit, apart_State_used]) | split | (refine (apart_each _ _ _ (fun x t => ?_)).trans ?_) | (refine (apart_when _ _ _ (fun t => ?_)).trans ?_) | (refine (apart_foldl _ _ _ (fun t x => ?_)).trans ?_) | (rename_i h; refine (congrArg (fun x => State.apart (Prod.fst x)) h).symm.trans ?_; simp only [apart_State_modKey, apply_ite State.apart, apply_ite Prod.fst, ite_self, implies_true, eq_self, apart_foldl, apart_each, apart_when, apart_State_emit, apart_State_used]; done) | (refine (apart_foldFst _ _ _ (fun x k => ?_)).trans ?_) | intro x)

theorem apart_State_setAcc (a1) (s : State) : (State.setAcc a1 s).apart = s.apart := by
  unfold State.setAcc
  simp only [apart_State_modSg, eq_self]

theorem apart_State_dropAcc (a1) (s : State) : (State.dropAcc a1 s).apart = s.apart := by
  unfold State.dropAcc
  simp only [apart_State_modSg, eq_self]

theorem apart_State_fetch (a1) (s : State) : (State.fetch a1 s).apart = s.apart := by
  unfold State.fetch
  repeat' (first | with_reducible rfl | (simp only [apart_State_useKey, apart_State_walk, apart_State_needLine, apart_State_msRead, apart_State_groupWork, apart_State_setAcc, apply_ite State.apart, apply_ite Prod.fst, ite_self, implies_true, eq_self, apart_foldl, apart_each, apart_when, apart_State_emit, apart_State_used]; done) | (simp only [apart_State_useKey, apart_State_walk, apart_State_needLine, apart_State_msRead, apart_State_groupWork, apart_State_setAcc, apply_ite State.apart, apply_ite Prod.fst, ite_self, implies_true, eq_self, apart_foldl, apart_each, apart_when, apart_State_emit, apart_State_used]) | split | (refine (apart_each _ _ _ (fun x t => ?_)).trans ?_) | (refine (apart_when _ _ _ (fun t => ?_)).trans ?_) | (refine (apart_foldl _ _ _ (fun t x => ?_)).trans ?_) | (rename_i h; refine (congrArg (fun x => State.apart (Prod.fst x)) h).symm.trans ?_; simp only [apart_State_useKey, apart_State_walk, apart_State_needLine, apart_State_msRead, apart_State_groupWork, apart_State_setAcc, apply_ite State.apart, apply_ite Prod.fst, ite_self, implies_true, eq_self, apart_foldl, apart_each, apart_when, apart_State_emit, apart_State_used]; done) | (refine (apart_foldFst _ _ _ (fun x k => ?_)).trans ?_) | intro x)

theorem apart_State_issue (a1) (s : State) : (State.issue a1 s).apart = s.apart := by
  unfold State.issue
  simp only [apart_State_useRegion, apart_State_setAcc, apart_State_fetch, apply_ite State.apart, ite_self, eq_self]

theorem apart_State_takeNo (s : State) : (State.takeNo s).apart = s.apart := by
  unfold State.takeNo
  simp only [apart_State_modSg, eq_self]

theorem apart_State_startAs (a1) (a2) (s : State) : (State.startAs a1 a2 s).apart = s.apart := by
  unfold State.startAs
  simp only [apart_State_modSg, apart_State_issue, apart_State_glob, apply_ite State.apart, ite_self, eq_self]

theorem apart_State_start (a1) (s : State) : (State.start a1 s).apart = s.apart := by
  unfold State.start
  simp only [apart_State_startAs, apart_State_takeNo, eq_self]

theorem apart_State_plotLook (a1) (a2) (s : State) : (State.plotLook a1 a2 s).1.apart = s.apart := by
  unfold State.plotLook
  simp only [apart_State_modSg, apply_ite State.apart, apply_ite Prod.fst, ite_self, eq_self]

theorem apart_State_innerPlot (a1) (a2) (s : State) : (State.innerPlot a1 a2 s).1.apart = s.apart := by
  unfold State.innerPlot
  simp only [apart_State_plotLook, apply_ite State.apart, apply_ite Prod.fst, ite_self, eq_self]

theorem apart_State_innerPlace (a1) (a2) (s : State) : (State.innerPlace a1 a2 s).1.apart = s.apart := by
  unfold State.innerPlace
  repeat' (first | with_reducible rfl | (simp only [apart_State_press, apart_State_useRegion, apart_State_innerPlot, apply_ite State.apart, apply_ite Prod.fst, ite_self, implies_true, eq_self, apart_foldl, apart_each, apart_when, apart_State_emit, apart_State_used]; done) | (simp only [apart_State_press, apart_State_useRegion, apart_State_innerPlot, apply_ite State.apart, apply_ite Prod.fst, ite_self, implies_true, eq_self, apart_foldl, apart_each, apart_when, apart_State_emit, apart_State_used]) | split | (refine (apart_each _ _ _ (fun x t => ?_)).trans ?_) | (refine (apart_when _ _ _ (fun t => ?_)).trans ?_) | (refine (apart_foldl _ _ _ (fun t x => ?_)).trans ?_) | (rename_i h; refine (congrArg (fun x => State.apart (Prod.fst x)) h).symm.trans ?_; simp only [apart_State_press, apart_State_useRegion, apart_State_innerPlot, apply_ite State.apart, apply_ite Prod.fst, ite_self, implies_true, eq_self, apart_foldl, apart_each, apart_when, apart_State_emit, apart_State_used]; done) | (refine (apart_foldFst _ _ _ (fun x k => ?_)).trans ?_) | intro x)

theorem apart_State_plotSays (a1) (a2) (a3) (s : State) : (State.plotSays a1 a2 a3 s).apart = s.apart := by
  unfold State.plotSays
  repeat' (first | with_reducible rfl | (simp only [apart_State_modSg, apart_State_setAcc, apart_State_useKey, apply_ite State.apart, apply_ite Prod.fst, ite_self, implies_true, eq_self, apart_foldl, apart_each, apart_when, apart_State_emit, apart_State_used]; done) | (simp only [apart_State_modSg, apart_State_setAcc, apart_State_useKey, apply_ite State.apart, apply_ite Prod.fst, ite_self, implies_true, eq_self, apart_foldl, apart_each, apart_when, apart_State_emit, apart_State_used]) | split | (refine (apart_each _ _ _ (fun x t => ?_)).trans ?_) | (refine (apart_when _ _ _ (fun t => ?_)).trans ?_) | (refine (apart_foldl _ _ _ (fun t x => ?_)).trans ?_) | (rename_i h; refine (congrArg (fun x => State.apart (Prod.fst x)) h).symm.trans ?_; simp only [apart_State_modSg, apart_State_setAcc, apart_State_useKey, apply_ite State.apart, apply_ite Prod.fst, ite_self, implies_true, eq_self, apart_foldl, apart_each, apart_when, apart_State_emit, apart_State_used]; done) | (refine (apart_foldFst _ _ _ (fun x k => ?_)).trans ?_) | intro x)

theorem apart_State_readPlot (a1) (a2) (a3) (s : State) : (State.readPlot a1 a2 a3 s).apart = s.apart := by
  unfold State.readPlot
  repeat' (first | with_reducible rfl | (simp only [apart_State_innerPlace, apart_State_plotSays, apart_State_start, apply_ite State.apart, apply_ite Prod.fst, ite_self, implies_true, eq_self, apart_foldl, apart_each, apart_when, apart_State_emit, apart_State_used]; done) | (simp only [apart_State_innerPlace, apart_State_plotSays, apart_State_start, apply_ite State.apart, apply_ite Prod.fst, ite_self, implies_true, eq_self, apart_foldl, apart_each, apart_when, apart_State_emit, apart_State_used]) | split | (refine (apart_each _ _ _ (fun x t => ?_)).trans ?_) | (refine (apart_when _ _ _ (fun t => ?_)).trans ?_) | (refine (apart_foldl _ _ _ (fun t x => ?_)).trans ?_) | (rename_i h; refine (congrArg (fun x => State.apart (Prod.fst x)) h).symm.trans ?_; simp only [apart_State_innerPlace, apart_State_plotSays, apart_State_start, apply_ite State.apart, apply_ite Prod.fst, ite_self, implies_true, eq_self, apart_foldl, apart_each, apart_when, apart_State_emit, apart_State_used]; done) | (refine (apart_foldFst _ _ _ (fun x k => ?_)).trans ?_) | intro x)

theorem apart_State_startPlotAs (a1) (a2) (s : State) : (State.startPlotAs a1 a2 s).apart = s.apart := by
  unfold State.startPlotAs
  simp only [apart_State_startAs, apart_State_readPlot, apply_ite State.apart, ite_self, eq_self]

theorem apart_State_startPlot (a1) (s : State) : (State.startPlot a1 s).apart = s.apart := by
  unfold State.startPlot
  simp only [apart_State_startPlotAs, apart_State_takeNo, eq_self]

theorem apart_State_innerAcc (a1) (a2) (a3) (a4) (a5) (s : State) : (State.innerAcc a1 a2 a3 a4 a5 s).1.apart = s.apart := by
  unfold State.innerAcc
  repeat' (first | with_reducible rfl | (simp only [apart_State_innerPlace, apart_State_startPlot, apply_ite State.apart, apply_ite Prod.fst, ite_self, implies_true, eq_self, apart_foldl, apart_each, apart_when, apart_State_emit, apart_State_used]; done) | (simp only [apart_State_innerPlace, apart_State_startPlot, apply_ite State.apart, apply_ite Prod.fst, ite_self, implies_true, eq_self, apart_foldl, apart_each, apart_when, apart_State_emit, apart_State_used]) | split | (refine (apart_each _ _ _ (fun x t => ?_)).trans ?_) | (refine (apart_when _ _ _ (fun t => ?_)).trans ?_) | (refine (apart_foldl _ _ _ (fun t x => ?_)).trans ?_) | (rename_i h; refine (congrArg (fun x => State.apart (Prod.fst x)) h).symm.trans ?_; simp only [apart_State_innerPlace, apart_State_startPlot, apply_ite State.apart, apply_ite Prod.fst, ite_self, implies_true, eq_self, apart_foldl, apart_each, apart_when, apart_State_emit, apart_State_used]; done) | (refine (apart_foldFst _ _ _ (fun x k => ?_)).trans ?_) | intro x)

theorem apart_State_innerSect (a1) (a2) (a3) (a4) (s : State) : (State.innerSect a1 a2 a3 a4 s).1.apart = s.apart := by
  unfold State.innerSect
  simp only [apart_State_innerAcc, eq_self]

theorem apart_State_innerWrite (a1) (a2) (a3) (s : State) : (State.innerWrite a1 a2 a3 s).1.apart = s.apart := by
  unfold State.innerWrite
  simp only [apart_State_innerSect, eq_self]

theorem apart_State_innerRead (a1) (a2) (a3) (s : State) : (State.innerRead a1 a2 a3 s).1.apart = s.apart := by
  unfold State.innerRead
  repeat' (first | with_reducible rfl | (simp only [apart_State_innerAcc, apply_ite State.apart, apply_ite Prod.fst, ite_self, implies_true, eq_self, apart_foldl, apart_each, apart_when, apart_State_emit, apart_State_used]; done) | (simp only [apart_State_innerAcc, apply_ite State.apart, apply_ite Prod.fst, ite_self, implies_true, eq_self, apart_foldl, apart_each, apart_when, apart_State_emit, apart_State_used]) | split | (refine (apart_each _ _ _ (fun x t => ?_)).trans ?_) | (refine (apart_when _ _ _ (fun t => ?_)).trans ?_) | (refine (apart_foldl _ _ _ (fun t x => ?_)).trans ?_) | (rename_i h; refine (congrArg (fun x => State.apart (Prod.fst x)) h).symm.trans ?_; simp only [apart_State_innerAcc, apply_ite State.apart, apply_ite Prod.fst, ite_self, implies_true, eq_self, apart_foldl, apart_each, apart_when, apart_State_emit, apart_State_used]; done) | (refine (apart_foldFst _ _ _ (fun x k => ?_)).trans ?_) | intro x)

theorem apart_State_modSess (a1) (a2) (a3) (s : State) : (State.modSess a1 a2 a3 s).apart = s.apart := by
  unfold State.modSess
  simp only [apart_State_modLnk, eq_self]

theorem apart_State_modPort (a1) (a2) (s : State) : (State.modPort a1 a2 s).apart = s.apart := by
  unfold State.modPort
  simp only [apart_State_modLnk, eq_self]

theorem apart_State_enqueue (a1) (a2) (s : State) : (State.enqueue a1 a2 s).apart = s.apart := by
  unfold State.enqueue
  simp only [apart_State_modPort, eq_self]

theorem apart_State_refill (a1) (s : State) : (State.refill a1 s).apart = s.apart := by
  unfold State.refill
  simp only [apart_State_modPort, eq_self]

theorem apart_State_broadcast (a1) (a2) (a3) (a4) (s : State) : (State.broadcast a1 a2 a3 a4 s).apart = s.apart := by
  unfold State.broadcast
  simp only [apart_each, apart_State_enqueue, implies_true, eq_self, apart_each]

theorem apart_State_sendFlow (a1) (a2) (a3) (a4) (a5) (a6) (a7) (s : State) : (State.sendFlow a1 a2 a3 a4 a5 a6 a7 s).apart = s.apart := by
  unfold State.sendFlow
  repeat' (first | with_reducible rfl | (simp only [apart_State_enqueue, apply_ite State.apart, apply_ite Prod.fst, ite_self, implies_true, eq_self, apart_foldl, apart_each, apart_when, apart_State_emit, apart_State_used]; done) | (simp only [apart_State_enqueue, apply_ite State.apart, apply_ite Prod.fst, ite_self, implies_true, eq_self, apart_foldl, apart_each, apart_when, apart_State_emit, apart_State_used]) | split | (refine (apart_each _ _ _ (fun x t => ?_)).trans ?_) | (refine (apart_when _ _ _ (fun t => ?_)).trans ?_) | (refine (apart_foldl _ _ _ (fun t x => ?_)).trans ?_) | (rename_i h; refine (congrArg (fun x => State.apart (Prod.fst x)) h).symm.trans ?_; simp only [apart_State_enqueue, apply_ite State.apart, apply_ite Prod.fst, ite_self, implies_true, eq_self, apart_foldl, apart_each, apart_when, apart_State_emit, apart_State_used]; done) | (refine (apart_foldFst _ _ _ (fun x k => ?_)).trans ?_) | intro x)

theorem apart_State_sendTo (a1) (a2) (a3) (a4) (a5) (a6) (s : State) : (State.sendTo a1 a2 a3 a4 a5 a6 s).apart = s.apart := by
  unfold State.sendTo
  simp only [apart_State_sendFlow, eq_self]

theorem apart_State_setRing (a1) (a2) (a3) (s : State) : (State.setRing a1 a2 a3 s).apart = s.apart := by
  unfold State.setRing
  simp only [apart_State_modObs, eq_self]

theorem apart_State_writeSect (a1) (a2) (a3) (s : State) : (State.writeSect a1 a2 a3 s).apart = s.apart := by
  unfold State.writeSect
  repeat' (first | with_reducible rfl | (simp only [apart_State_setRing, apart_State_innerWrite, apart_State_emit, apart_State_cntr, apply_ite State.apart, apply_ite Prod.fst, ite_self, implies_true, eq_self, apart_foldl, apart_each, apart_when, apart_State_emit, apart_State_used]; done) | (simp only [apart_State_setRing, apart_State_innerWrite, apart_State_emit, apart_State_cntr, apply_ite State.apart, apply_ite Prod.fst, ite_self, implies_true, eq_self, apart_foldl, apart_each, apart_when, apart_State_emit, apart_State_used]) | split | (refine (apart_each _ _ _ (fun x t => ?_)).trans ?_) | (refine (apart_when _ _ _ (fun t => ?_)).trans ?_) | (refine (apart_foldl _ _ _ (fun t x => ?_)).trans ?_) | (rename_i h; refine (congrArg (fun x => State.apart (Prod.fst x)) h).symm.trans ?_; simp only [apart_State_setRing, apart_State_innerWrite, apart_State_emit, apart_State_cntr, apply_ite State.apart, apply_ite Prod.fst, ite_self, implies_true, eq_self, apart_foldl, apart_each, apart_when, apart_State_emit, apart_State_used]; done) | (refine (apart_foldFst _ _ _ (fun x k => ?_)).trans ?_) | intro x)

theorem apart_State_writeRing (a1) (a2) (a3) (s : State) : (State.writeRing a1 a2 a3 s).apart = s.apart := by
  unfold State.writeRing
  simp only [apart_State_writeSect, implies_true, eq_self, apart_foldl]

theorem apart_State_formIn (a1) (a2) (a3) (a4) (a5) (a6) (a7) (a8) (s : State) : (State.formIn a1 a2 a3 a4 a5 a6 a7 a8 s).apart = s.apart := by
  unfold State.formIn
  simp only [apart_State_writeRing, apart_when, apart_State_cntr, apart_State_setRing, apply_ite State.apart, ite_self, implies_true, eq_self, apart_when]

theorem apart_State_trace (a1) (a2) (a3) (a4) (a5) (a6) (a7) (s : State) : (State.trace a1 a2 a3 a4 a5 a6 a7 s).apart = s.apart := by
  unfold State.trace
  simp only [apart_each, apart_State_formIn, implies_true, eq_self, apart_each]

theorem apart_State_trigger (a1) (a2) (a3) (s : State) : (State.trigger a1 a2 a3 s).apart = s.apart := by
  unfold State.trigger
  simp only [apart_State_formIn, apart_State_writeRing, apart_State_setRing, apply_ite State.apart, ite_self, eq_self]

theorem apart_State_stopRing (a1) (a2) (s : State) : (State.stopRing a1 a2 s).apart = s.apart := by
  unfold State.stopRing
  simp only [apart_State_formIn, apart_State_writeRing, apart_State_setRing, apply_ite State.apart, ite_self, eq_self]

theorem apart_State_modCtx (a1) (a2) (s : State) : (State.modCtx a1 a2 s).apart = s.apart := by
  unfold State.modCtx
  simp only [apart_State_modObju, eq_self]

theorem apart_State_faultPut (a1) (a2) (s : State) : (State.faultPut a1 a2 s).apart = s.apart := by
  unfold State.faultPut
  simp only [apart_State_innerWrite, apart_State_emit, apart_State_modCtx, apart_State_cntr, apply_ite State.apart, ite_self, eq_self, apart_State_emit]

theorem apart_State_faultOvf (a1) (a2) (s : State) : (State.faultOvf a1 a2 s).apart = s.apart := by
  unfold State.faultOvf
  simp only [apart_State_modCtx, eq_self]

theorem apart_State_faultTo (a1) (a2) (s : State) : (State.faultTo a1 a2 s).apart = s.apart := by
  unfold State.faultTo
  simp only [apart_State_modObju, apart_State_faultOvf, apart_State_faultPut, apply_ite State.apart, ite_self, eq_self]

theorem apart_State_fault (a1) (a2) (a3) (a4) (a5) (a6) (a7) (a8) (s : State) : (State.fault a1 a2 a3 a4 a5 a6 a7 a8 s).apart = s.apart := by
  unfold State.fault
  repeat' (first | with_reducible rfl | (simp only [apart_State_press, apart_State_cntr, apart_State_faultTo, apart_State_trace, apart_each, apart_State_trigger, apply_ite State.apart, apply_ite Prod.fst, ite_self, implies_true, eq_self, apart_foldl, apart_each, apart_when, apart_State_emit, apart_State_used]; done) | (simp only [apart_State_press, apart_State_cntr, apart_State_faultTo, apart_State_trace, apart_each, apart_State_trigger, apply_ite State.apart, apply_ite Prod.fst, ite_self, implies_true, eq_self, apart_foldl, apart_each, apart_when, apart_State_emit, apart_State_used]) | split | (refine (apart_each _ _ _ (fun x t => ?_)).trans ?_) | (refine (apart_when _ _ _ (fun t => ?_)).trans ?_) | (refine (apart_foldl _ _ _ (fun t x => ?_)).trans ?_) | (rename_i h; refine (congrArg (fun x => State.apart (Prod.fst x)) h).symm.trans ?_; simp only [apart_State_press, apart_State_cntr, apart_State_faultTo, apart_State_trace, apart_each, apart_State_trigger, apply_ite State.apart, apply_ite Prod.fst, ite_self, implies_true, eq_self, apart_foldl, apart_each, apart_when, apart_State_emit, apart_State_used]; done) | (refine (apart_foldFst _ _ _ (fun x k => ?_)).trans ?_) | intro x)

theorem apart_State_modQueue (a1) (a2) (s : State) : (State.modQueue a1 a2 s).apart = s.apart := by
  unfold State.modQueue
  simp only [apart_State_modCmd, eq_self]

theorem apart_State_sealRec (a1) (a2) (s : State) : (State.sealRec a1 a2 s).1.apart = s.apart := by
  unfold State.sealRec
  repeat' (first | with_reducible rfl | (simp only [apart_State_modCmd, apply_ite State.apart, apply_ite Prod.fst, ite_self, implies_true, eq_self, apart_foldl, apart_each, apart_when, apart_State_emit, apart_State_used]; done) | (simp only [apart_State_modCmd, apply_ite State.apart, apply_ite Prod.fst, ite_self, implies_true, eq_self, apart_foldl, apart_each, apart_when, apart_State_emit, apart_State_used]) | split | (refine (apart_each _ _ _ (fun x t => ?_)).trans ?_) | (refine (apart_when _ _ _ (fun t => ?_)).trans ?_) | (refine (apart_foldl _ _ _ (fun t x => ?_)).trans ?_) | (rename_i h; refine (congrArg (fun x => State.apart (Prod.fst x)) h).symm.trans ?_; simp only [apart_State_modCmd, apply_ite State.apart, apply_ite Prod.fst, ite_self, implies_true, eq_self, apart_foldl, apart_each, apart_when, apart_State_emit, apart_State_used]; done) | (refine (apart_foldFst _ _ _ (fun x k => ?_)).trans ?_) | intro x)

theorem apart_State_cdmMake (a1) (s : State) : (State.cdmMake a1 s).apart = s.apart := by
  unfold State.cdmMake
  simp only [apart_State_emit, apply_ite State.apart, ite_self, eq_self, apart_State_emit]

theorem apart_State_cdmWrite (a1) (a2) (s : State) : (State.cdmWrite a1 a2 s).apart = s.apart := by
  unfold State.cdmWrite
  simp only [apart_State_cdmMake, apart_State_modCmd, apply_ite State.apart, ite_self, eq_self]

theorem apart_State_cdmRefill (s : State) : (State.cdmRefill s).apart = s.apart := by
  unfold State.cdmRefill
  simp only [apart_each, apart_State_cdmWrite, apart_State_modCmd, implies_true, eq_self, apart_each]

theorem apart_State_deviceReply (a1) (s : State) : (State.deviceReply a1 s).apart = s.apart := by
  unfold State.deviceReply
  repeat' (first | with_reducible rfl | (simp only [apart_State_innerWrite, apart_when, apart_State_emit, apply_ite State.apart, apply_ite Prod.fst, ite_self, implies_true, eq_self, apart_foldl, apart_each, apart_when, apart_State_emit, apart_State_used]; done) | (simp only [apart_State_innerWrite, apart_when, apart_State_emit, apply_ite State.apart, apply_ite Prod.fst, ite_self, implies_true, eq_self, apart_foldl, apart_each, apart_when, apart_State_emit, apart_State_used]) | split | (refine (apart_each _ _ _ (fun x t => ?_)).trans ?_) | (refine (apart_when _ _ _ (fun t => ?_)).trans ?_) | (refine (apart_foldl _ _ _ (fun t x => ?_)).trans ?_) | (rename_i h; refine (congrArg (fun x => State.apart (Prod.fst x)) h).symm.trans ?_; simp only [apart_State_innerWrite, apart_when, apart_State_emit, apply_ite State.apart, apply_ite Prod.fst, ite_self, implies_true, eq_self, apart_foldl, apart_each, apart_when, apart_State_emit, apart_State_used]; done) | (refine (apart_foldFst _ _ _ (fun x k => ?_)).trans ?_) | intro x)

theorem apart_State_ringReply (a1) (a2) (s : State) : (State.ringReply a1 a2 s).apart = s.apart := by
  unfold State.ringReply
  simp only [apart_State_modQueue, apart_State_deviceReply, apart_State_cdmWrite, apply_ite State.apart, ite_self, eq_self]

theorem apart_State_storeReply (a1) (a2) (s : State) : (State.storeReply a1 a2 s).apart = s.apart := by
  unfold State.storeReply
  simp only [apart_State_modCmd, eq_self]

theorem apart_State_respond (a1) (a2) (s : State) : (State.respond a1 a2 s).apart = s.apart := by
  unfold State.respond
  repeat' (first | with_reducible rfl | (simp only [apart_State_emit, apart_State_modHst, apply_ite State.apart, apply_ite Prod.fst, ite_self, implies_true, eq_self, apart_foldl, apart_each, apart_when, apart_State_emit, apart_State_used]; done) | (simp only [apart_State_emit, apart_State_modHst, apply_ite State.apart, apply_ite Prod.fst, ite_self, implies_true, eq_self, apart_foldl, apart_each, apart_when, apart_State_emit, apart_State_used]) | split | (refine (apart_each _ _ _ (fun x t => ?_)).trans ?_) | (refine (apart_when _ _ _ (fun t => ?_)).trans ?_) | (refine (apart_foldl _ _ _ (fun t x => ?_)).trans ?_) | (rename_i h; refine (congrArg (fun x => State.apart (Prod.fst x)) h).symm.trans ?_; simp only [apart_State_emit, apart_State_modHst, apply_ite State.apart, apply_ite Prod.fst, ite_self, implies_true, eq_self, apart_foldl, apart_each, apart_when, apart_State_emit, apart_State_used]; done) | (refine (apart_foldFst _ _ _ (fun x k => ?_)).trans ?_) | intro x)

theorem apart_State_sendReply (a1) (a2) (s : State) : (State.sendReply a1 a2 s).apart = s.apart := by
  unfold State.sendReply
  repeat' (first | with_reducible rfl | (simp only [apart_State_storeReply, apart_State_emit, apart_State_modHst, apart_State_ringReply, apply_ite State.apart, apply_ite Prod.fst, ite_self, implies_true, eq_self, apart_foldl, apart_each, apart_when, apart_State_emit, apart_State_used]; done) | (simp only [apart_State_storeReply, apart_State_emit, apart_State_modHst, apart_State_ringReply, apply_ite State.apart, apply_ite Prod.fst, ite_self, implies_true, eq_self, apart_foldl, apart_each, apart_when, apart_State_emit, apart_State_used]) | split | (refine (apart_each _ _ _ (fun x t => ?_)).trans ?_) | (refine (apart_when _ _ _ (fun t => ?_)).trans ?_) | (refine (apart_foldl _ _ _ (fun t x => ?_)).trans ?_) | (rename_i h; refine (congrArg (fun x => State.apart (Prod.fst x)) h).symm.trans ?_; simp only [apart_State_storeReply, apart_State_emit, apart_State_modHst, apart_State_ringReply, apply_ite State.apart, apply_ite Prod.fst, ite_self, implies_true, eq_self, apart_foldl, apart_each, apart_when, apart_State_emit, apart_State_used]; done) | (refine (apart_foldFst _ _ _ (fun x k => ?_)).trans ?_) | intro x)

theorem apart_State_setFence (a1) (a2) (a3) (s : State) : (State.setFence a1 a2 a3 s).apart = s.apart := by
  unfold State.setFence
  simp only [apart_State_modObju, eq_self]

theorem apart_State_wake (a1) (a2) (s : State) : (State.wake a1 a2 s).1.apart = s.apart := by
  unfold State.wake
  simp only [apart_State_modObju, apart_each, apart_State_trace, implies_true, eq_self, apart_each]

theorem apart_State_signalHere (a1) (a2) (a3) (s : State) : (State.signalHere a1 a2 a3 s).1.apart = s.apart := by
  unfold State.signalHere
  simp only [apart_State_trace, apart_State_setFence, apart_State_wake, apply_ite State.apart, apply_ite Prod.fst, ite_self, eq_self]

theorem apart_State_propagate (a1) (a2) (a3) (a4) (s : State) : (State.propagate a1 a2 a3 a4 s).apart = s.apart := by
  unfold State.propagate
  simp only [apart_State_modObju, apart_State_broadcast, eq_self]

theorem apart_State_signal (a1) (a2) (a3) (s : State) : (State.signal a1 a2 a3 s).1.apart = s.apart := by
  unfold State.signal
  simp only [apart_State_signalHere, apart_State_propagate, apply_ite State.apart, ite_self, eq_self]

theorem apart_State_modObj (a1) (a2) (a3) (s : State) : (State.modObj a1 a2 a3 s).apart = s.apart := by
  unfold State.modObj
  simp only [apart_State_modObju, eq_self]

theorem apart_State_unref (a1) (a2) (s : State) : (State.unref a1 a2 s).apart = s.apart := by
  unfold State.unref
  simp only [apart_each, apart_State_modObj, implies_true, eq_self, apart_each]

theorem apart_State_releaseRings (a1) (s : State) : (State.releaseRings a1 s).apart = s.apart := by
  unfold State.releaseRings
  simp only [apart_State_modQueue, apart_State_unref, apply_ite State.apart, ite_self, eq_self]

theorem apart_State_removeQueue (a1) (s : State) : (State.removeQueue a1 s).apart = s.apart := by
  unfold State.removeQueue
  simp only [apart_State_modCmd, apart_State_releaseRings, eq_self]

theorem apart_State_reapQueue (a1) (s : State) : (State.reapQueue a1 s).1.apart = s.apart := by
  unfold State.reapQueue
  repeat' (first | with_reducible rfl | (simp only [apart_State_setFld, apart_State_removeQueue, apply_ite State.apart, apply_ite Prod.fst, ite_self, implies_true, eq_self, apart_foldl, apart_each, apart_when, apart_State_emit, apart_State_used]; done) | (simp only [apart_State_setFld, apart_State_removeQueue, apply_ite State.apart, apply_ite Prod.fst, ite_self, implies_true, eq_self, apart_foldl, apart_each, apart_when, apart_State_emit, apart_State_used]) | split | (refine (apart_each _ _ _ (fun x t => ?_)).trans ?_) | (refine (apart_when _ _ _ (fun t => ?_)).trans ?_) | (refine (apart_foldl _ _ _ (fun t x => ?_)).trans ?_) | (rename_i h; refine (congrArg (fun x => State.apart (Prod.fst x)) h).symm.trans ?_; simp only [apart_State_setFld, apart_State_removeQueue, apply_ite State.apart, apply_ite Prod.fst, ite_self, implies_true, eq_self, apart_foldl, apart_each, apart_when, apart_State_emit, apart_State_used]; done) | (refine (apart_foldFst _ _ _ (fun x k => ?_)).trans ?_) | intro x)

theorem apart_State_carried (a1) (s : State) : (State.carried a1 s).1.apart = s.apart := by
  unfold State.carried
  repeat' (first | with_reducible rfl | (simp only [apart_State_modCmd, apart_State_sealRec, apart_State_cdmWrite, apply_ite State.apart, apply_ite Prod.fst, ite_self, implies_true, eq_self, apart_foldl, apart_each, apart_when, apart_State_emit, apart_State_used]; done) | (simp only [apart_State_modCmd, apart_State_sealRec, apart_State_cdmWrite, apply_ite State.apart, apply_ite Prod.fst, ite_self, implies_true, eq_self, apart_foldl, apart_each, apart_when, apart_State_emit, apart_State_used]) | split | (refine (apart_each _ _ _ (fun x t => ?_)).trans ?_) | (refine (apart_when _ _ _ (fun t => ?_)).trans ?_) | (refine (apart_foldl _ _ _ (fun t x => ?_)).trans ?_) | (rename_i h; refine (congrArg (fun x => State.apart (Prod.fst x)) h).symm.trans ?_; simp only [apart_State_modCmd, apart_State_sealRec, apart_State_cdmWrite, apply_ite State.apart, apply_ite Prod.fst, ite_self, implies_true, eq_self, apart_foldl, apart_each, apart_when, apart_State_emit, apart_State_used]; done) | (refine (apart_foldFst _ _ _ (fun x k => ?_)).trans ?_) | intro x)

theorem apart_State_complete1 (a1) (s : State) : (State.complete1 a1 s).1.apart = s.apart := by
  unfold State.complete1
  repeat' (first | with_reducible rfl | (simp only [apart_State_unref, apart_State_modCmd, apart_State_modQueue, apart_State_trace, apart_State_sendReply, apart_State_signal, apart_State_carried, apart_State_reapQueue, apply_ite State.apart, apply_ite Prod.fst, ite_self, implies_true, eq_self, apart_foldl, apart_each, apart_when, apart_State_emit, apart_State_used]; done) | (simp only [apart_State_unref, apart_State_modCmd, apart_State_modQueue, apart_State_trace, apart_State_sendReply, apart_State_signal, apart_State_carried, apart_State_reapQueue, apply_ite State.apart, apply_ite Prod.fst, ite_self, implies_true, eq_self, apart_foldl, apart_each, apart_when, apart_State_emit, apart_State_used]) | split | (refine (apart_each _ _ _ (fun x t => ?_)).trans ?_) | (refine (apart_when _ _ _ (fun t => ?_)).trans ?_) | (refine (apart_foldl _ _ _ (fun t x => ?_)).trans ?_) | (rename_i h; refine (congrArg (fun x => State.apart (Prod.fst x)) h).symm.trans ?_; simp only [apart_State_unref, apart_State_modCmd, apart_State_modQueue, apart_State_trace, apart_State_sendReply, apart_State_signal, apart_State_carried, apart_State_reapQueue, apply_ite State.apart, apply_ite Prod.fst, ite_self, implies_true, eq_self, apart_foldl, apart_each, apart_when, apart_State_emit, apart_State_used]; done) | (refine (apart_foldFst _ _ _ (fun x k => ?_)).trans ?_) | intro x)

theorem apart_completeFuel (n) (ds) (s : State) : (completeFuel n ds s).apart = s.apart := by
  induction n generalizing ds s with
  | zero => cases ds <;> rfl
  | succ n ih =>
    cases ds with
    | nil => rfl
    | cons d ds => exact (ih _ _).trans (apart_State_complete1 d s)

theorem apart_State_complete (a1) (s : State) : (State.complete a1 s).apart = s.apart := apart_completeFuel ..

theorem apart_finishing (x : State × List Done) : (finishing x).apart = x.1.apart := apart_State_complete ..

theorem apart_State_sendChunk (a1) (a2) (a3) (a4) (s : State) : (State.sendChunk a1 a2 a3 a4 s).1.apart = s.apart := by
  unfold State.sendChunk
  simp only [apart_each, apart_State_sendTo, implies_true, eq_self, apart_each]

theorem apart_State_traceSess (a1) (a2) (s : State) : (State.traceSess a1 a2 s).apart = s.apart := by
  unfold State.traceSess
  simp only [apart_State_trace, apply_ite State.apart, ite_self, eq_self]

theorem apart_State_sessTo (a1) (a2) (a3) (s : State) : (State.sessTo a1 a2 a3 s).apart = s.apart := by
  unfold State.sessTo
  simp only [apart_State_traceSess, apart_State_modSess, eq_self]

theorem apart_State_modTile (a1) (a2) (a3) (s : State) : (State.modTile a1 a2 a3 s).apart = s.apart := by
  unfold State.modTile
  simp only [apart_State_modHst, eq_self]

theorem apart_State_send (a1) (s : State) : (State.send a1 s).apart = s.apart := by
  unfold State.send
  simp only [apart_State_emit, apply_ite State.apart, ite_self, eq_self, apart_State_emit]

theorem apart_State_tileFault (a1) (a2) (a3) (a4) (a5) (s : State) : (State.tileFault a1 a2 a3 a4 a5 s).apart = s.apart := by
  unfold State.tileFault
  simp only [apart_State_modHst, apart_each, apart_State_send, apart_State_fault, apart_State_trace, apart_State_modTile, implies_true, eq_self, apart_each]

theorem apart_State_tilesFenced (a1) (a2) (s : State) : (State.tilesFenced a1 a2 s).apart = s.apart := by
  unfold State.tilesFenced
  simp only [apart_each, apart_State_tileFault, implies_true, eq_self, apart_each]

theorem apart_State_mnNoData (a1) (a2) (a3) (s : State) : (State.mnNoData a1 a2 a3 s).apart = s.apart := by
  unfold State.mnNoData
  simp only [apart_State_emit, eq_self, apart_State_emit]

theorem apart_State_fenceMn (a1) (s : State) : (State.fenceMn a1 s).apart = s.apart := by
  unfold State.fenceMn
  simp only [apart_each, apart_State_mnNoData, apart_State_modSg, implies_true, eq_self, apart_each]

theorem apart_State_dropFrames (a1) (a2) (s : State) : (State.dropFrames a1 a2 s).apart = s.apart := by
  unfold State.dropFrames
  simp only [apart_State_modLnk, eq_self]

theorem apart_State_endWaits (a1) (a2) (s : State) : (State.endWaits a1 a2 s).apart = s.apart := by
  unfold State.endWaits
  simp only [apart_State_complete, apart_State_modObju, eq_self]

theorem apart_State_backEntry (a1) (s : State) : (State.backEntry a1 s).apart = s.apart := by
  unfold State.backEntry
  simp only [apart_State_start, eq_self]

theorem apart_State_backWhere (a1) (s : State) : (State.backWhere a1 s).apart = s.apart := by
  unfold State.backWhere
  simp only [apart_each, apart_State_backEntry, implies_true, eq_self, apart_each]

theorem apart_State_discardEgress (s : State) : (State.discardEgress s).apart = s.apart := by
  unfold State.discardEgress
  simp only [apart_State_modObs, apart_State_modHst, apart_State_modSg, apart_State_modCmd, apart_State_modLnk, eq_self]

theorem apart_State_passFenced (s : State) : (State.passFenced s).apart = s.apart := by
  unfold State.passFenced
  repeat' (first | with_reducible rfl | (simp only [apart_State_modSg, apart_each, apart_State_mnNoData, apart_State_emit, apply_ite State.apart, apply_ite Prod.fst, ite_self, implies_true, eq_self, apart_foldl, apart_each, apart_when, apart_State_emit, apart_State_used]; done) | (simp only [apart_State_modSg, apart_each, apart_State_mnNoData, apart_State_emit, apply_ite State.apart, apply_ite Prod.fst, ite_self, implies_true, eq_self, apart_foldl, apart_each, apart_when, apart_State_emit, apart_State_used]) | split | (refine (apart_each _ _ _ (fun x t => ?_)).trans ?_) | (refine (apart_when _ _ _ (fun t => ?_)).trans ?_) | (refine (apart_foldl _ _ _ (fun t x => ?_)).trans ?_) | (rename_i h; refine (congrArg (fun x => State.apart (Prod.fst x)) h).symm.trans ?_; simp only [apart_State_modSg, apart_each, apart_State_mnNoData, apart_State_emit, apply_ite State.apart, apply_ite Prod.fst, ite_self, implies_true, eq_self, apart_foldl, apart_each, apart_when, apart_State_emit, apart_State_used]; done) | (refine (apart_foldFst _ _ _ (fun x k => ?_)).trans ?_) | intro x)

theorem apart_State_refuse (a1) (a2) (s : State) : (State.refuse a1 a2 s).apart = s.apart := by
  unfold State.refuse
  simp only [apart_State_carried, apart_State_sendReply, apart_State_trace, apart_State_signal, apart_State_complete, apply_ite State.apart, apply_ite Prod.fst, ite_self, eq_self, apart_finishing]

theorem apart_State_touchCtx (a1) (s : State) : (State.touchCtx a1 s).apart = s.apart := by
  unfold State.touchCtx
  simp only [apart_State_modCtx, apply_ite State.apart, ite_self, eq_self]

theorem apart_State_takePacket (a1) (a2) (a3) (s : State) : (State.takePacket a1 a2 a3 s).1.apart = s.apart := by
  unfold State.takePacket
  repeat' (first | with_reducible rfl | (simp only [apart_State_modQueue, apart_State_glob, apart_State_count, apart_State_trace, apart_State_touchCtx, apply_ite State.apart, apply_ite Prod.fst, ite_self, implies_true, eq_self, apart_foldl, apart_each, apart_when, apart_State_emit, apart_State_used]; done) | (simp only [apart_State_modQueue, apart_State_glob, apart_State_count, apart_State_trace, apart_State_touchCtx, apply_ite State.apart, apply_ite Prod.fst, ite_self, implies_true, eq_self, apart_foldl, apart_each, apart_when, apart_State_emit, apart_State_used]) | split | (refine (apart_each _ _ _ (fun x t => ?_)).trans ?_) | (refine (apart_when _ _ _ (fun t => ?_)).trans ?_) | (refine (apart_foldl _ _ _ (fun t x => ?_)).trans ?_) | (rename_i h; refine (congrArg (fun x => State.apart (Prod.fst x)) h).symm.trans ?_; simp only [apart_State_modQueue, apart_State_glob, apart_State_count, apart_State_trace, apart_State_touchCtx, apply_ite State.apart, apply_ite Prod.fst, ite_self, implies_true, eq_self, apart_foldl, apart_each, apart_when, apart_State_emit, apart_State_used]; done) | (refine (apart_foldFst _ _ _ (fun x k => ?_)).trans ?_) | intro x)

theorem apart_State_reserve (a1) (a2) (s : State) : (State.reserve a1 a2 s).apart = s.apart := by
  unfold State.reserve
  repeat' (first | with_reducible rfl | (simp only [apart_State_modQueue, apply_ite State.apart, apply_ite Prod.fst, ite_self, implies_true, eq_self, apart_foldl, apart_each, apart_when, apart_State_emit, apart_State_used]; done) | (simp only [apart_State_modQueue, apply_ite State.apart, apply_ite Prod.fst, ite_self, implies_true, eq_self, apart_foldl, apart_each, apart_when, apart_State_emit, apart_State_used]) | split | (refine (apart_each _ _ _ (fun x t => ?_)).trans ?_) | (refine (apart_when _ _ _ (fun t => ?_)).trans ?_) | (refine (apart_foldl _ _ _ (fun t x => ?_)).trans ?_) | (rename_i h; refine (congrArg (fun x => State.apart (Prod.fst x)) h).symm.trans ?_; simp only [apart_State_modQueue, apply_ite State.apart, apply_ite Prod.fst, ite_self, implies_true, eq_self, apart_foldl, apart_each, apart_when, apart_State_emit, apart_State_used]; done) | (refine (apart_foldFst _ _ _ (fun x k => ?_)).trans ?_) | intro x)

theorem apart_State_hold (a1) (a2) (a3) (s : State) : (State.hold a1 a2 a3 s).apart = s.apart := by
  unfold State.hold
  repeat' (first | with_reducible rfl | (simp only [apart_State_modQueue, apart_State_used, apart_State_cntr, apart_State_count, apply_ite State.apart, apply_ite Prod.fst, ite_self, implies_true, eq_self, apart_foldl, apart_each, apart_when, apart_State_emit, apart_State_used]; done) | (simp only [apart_State_modQueue, apart_State_used, apart_State_cntr, apart_State_count, apply_ite State.apart, apply_ite Prod.fst, ite_self, implies_true, eq_self, apart_foldl, apart_each, apart_when, apart_State_emit, apart_State_used]) | split | (refine (apart_each _ _ _ (fun x t => ?_)).trans ?_) | (refine (apart_when _ _ _ (fun t => ?_)).trans ?_) | (refine (apart_foldl _ _ _ (fun t x => ?_)).trans ?_) | (rename_i h; refine (congrArg (fun x => State.apart (Prod.fst x)) h).symm.trans ?_; simp only [apart_State_modQueue, apart_State_used, apart_State_cntr, apart_State_count, apply_ite State.apart, apply_ite Prod.fst, ite_self, implies_true, eq_self, apart_foldl, apart_each, apart_when, apart_State_emit, apart_State_used]; done) | (refine (apart_foldFst _ _ _ (fun x k => ?_)).trans ?_) | intro x)

theorem apart_State_accept (a1) (a2) (s : State) : (State.accept a1 a2 s).1.apart = s.apart := by
  unfold State.accept
  simp only [apart_each, apart_State_modObj, apart_State_reserve, apart_State_modCmd, apart_State_sendReply, apply_ite State.apart, ite_self, implies_true, eq_self, apart_each]

theorem apart_State_ringRead (a1) (s : State) : (State.ringRead a1 s).1.apart = s.apart := by
  unfold State.ringRead
  repeat' (first | with_reducible rfl | (simp only [apart_State_innerRead, apply_ite State.apart, apply_ite Prod.fst, ite_self, implies_true, eq_self, apart_foldl, apart_each, apart_when, apart_State_emit, apart_State_used]; done) | (simp only [apart_State_innerRead, apply_ite State.apart, apply_ite Prod.fst, ite_self, implies_true, eq_self, apart_foldl, apart_each, apart_when, apart_State_emit, apart_State_used]) | split | (refine (apart_each _ _ _ (fun x t => ?_)).trans ?_) | (refine (apart_when _ _ _ (fun t => ?_)).trans ?_) | (refine (apart_foldl _ _ _ (fun t x => ?_)).trans ?_) | (rename_i h; refine (congrArg (fun x => State.apart (Prod.fst x)) h).symm.trans ?_; simp only [apart_State_innerRead, apply_ite State.apart, apply_ite Prod.fst, ite_self, implies_true, eq_self, apart_foldl, apart_each, apart_when, apart_State_emit, apart_State_used]; done) | (refine (apart_foldFst _ _ _ (fun x k => ?_)).trans ?_) | intro x)

theorem apart_State_admitWith (a1) (a2) (a3) (a4) (a5) (a6) (s : State) (ha6 : ∀ x0 t, State.apart (a6 x0 t) = t.apart) : (State.admitWith a1 a2 a3 a4 a5 a6 s).apart = s.apart := by
  unfold State.admitWith
  repeat' (first | with_reducible rfl | (simp only [apart_State_hold, apart_State_ringRead, apart_State_takePacket, apart_State_refuse, apart_State_reserve, apart_State_accept, ha6, apply_ite State.apart, apply_ite Prod.fst, ite_self, implies_true, eq_self, apart_foldl, apart_each, apart_when, apart_State_emit, apart_State_used]; done) | (simp only [apart_State_hold, apart_State_ringRead, apart_State_takePacket, apart_State_refuse, apart_State_reserve, apart_State_accept, ha6, apply_ite State.apart, apply_ite Prod.fst, ite_self, implies_true, eq_self, apart_foldl, apart_each, apart_when, apart_State_emit, apart_State_used]) | split | (refine (apart_each _ _ _ (fun x t => ?_)).trans ?_) | (refine (apart_when _ _ _ (fun t => ?_)).trans ?_) | (refine (apart_foldl _ _ _ (fun t x => ?_)).trans ?_) | (rename_i h; refine (congrArg (fun x => State.apart (Prod.fst x)) h).symm.trans ?_; simp only [apart_State_hold, apart_State_ringRead, apart_State_takePacket, apart_State_refuse, apart_State_reserve, apart_State_accept, ha6, apply_ite State.apart, apply_ite Prod.fst, ite_self, implies_true, eq_self, apart_foldl, apart_each, apart_when, apart_State_emit, apart_State_used]; done) | (refine (apart_foldFst _ _ _ (fun x k => ?_)).trans ?_) | intro x)

theorem apart_State_admitCmd (a1) (a2) (a3) (a4) (s : State) (ha4 : ∀ x0 t, State.apart (a4 x0 t) = t.apart) : (State.admitCmd a1 a2 a3 a4 s).apart = s.apart := by
  unfold State.admitCmd
  simp only [apart_State_admitWith, ha4, implies_true, eq_self]

theorem apart_State_ok (a1) (a2) (s : State) : (State.ok a1 a2 s).apart = s.apart := by
  unfold State.ok
  simp only [apart_State_complete, eq_self]

theorem apart_State_okTrailer (a1) (a2) (a3) (s : State) : (State.okTrailer a1 a2 a3 s).apart = s.apart := by
  unfold State.okTrailer
  simp only [apart_State_complete, eq_self]

theorem apart_State_endsWith (a1) (a2) (s : State) : (State.endsWith a1 a2 s).apart = s.apart := by
  unfold State.endsWith
  simp only [apart_State_complete, eq_self]

theorem apart_State_otherAccess (s : State) : (State.otherAccess s).apart = s.apart := by
  unfold State.otherAccess
  simp only [apart_State_modRegf, eq_self]

theorem apart_State_portWrite (a1) (a2) (a3) (s : State) (ha3 : ∀ x0 t, State.apart (a3 x0 t).1 = t.apart) : (State.portWrite a1 a2 a3 s).apart = s.apart := by
  unfold State.portWrite
  simp only [apart_State_emit, apart_State_otherAccess, ha3, apply_ite State.apart, ite_self, eq_self, apart_State_emit]

theorem apart_State_ctlWrite (a1) (a2) (s : State) (ha2 : ∀ t, State.apart (a2 t) = t.apart) : (State.ctlWrite a1 a2 s).apart = s.apart := by
  unfold State.ctlWrite
  simp only [apart_State_portWrite, ha2, apply_ite State.apart, ite_self, implies_true, eq_self]

theorem apart_innerBytesFuel (n) (p) (a) (l) (s : State) : (innerBytesFuel n p a l s).1.apart = s.apart := by
  induction n generalizing a l s with
  | zero => rfl
  | succ n ih =>
    unfold innerBytesFuel
    split
    · rfl
    · simp only []
      exact (ih _ _ _).trans (apart_State_innerWrite ..)

theorem apart_State_innerBytes (a1) (a2) (a3) (s : State) : (State.innerBytes a1 a2 a3 s).1.apart = s.apart := by
  unfold State.innerBytes
  simp only [apart_innerBytesFuel, eq_self]

theorem apart_State_writeObj (a1) (a2) (s : State) : (State.writeObj a1 a2 s).1.apart = s.apart := by
  unfold State.writeObj
  simp only [apart_State_innerBytes, eq_self]

theorem apart_State_zeroPlot (a1) (a2) (s : State) : (State.zeroPlot a1 a2 s).apart = s.apart := by
  unfold State.zeroPlot
  repeat' (first | with_reducible rfl | (simp only [apart_each, apart_State_modLine, apart_State_insertLine, apply_ite State.apart, apply_ite Prod.fst, ite_self, implies_true, eq_self, apart_foldl, apart_each, apart_when, apart_State_emit, apart_State_used]; done) | (simp only [apart_each, apart_State_modLine, apart_State_insertLine, apply_ite State.apart, apply_ite Prod.fst, ite_self, implies_true, eq_self, apart_foldl, apart_each, apart_when, apart_State_emit, apart_State_used]) | split | (refine (apart_each _ _ _ (fun x t => ?_)).trans ?_) | (refine (apart_when _ _ _ (fun t => ?_)).trans ?_) | (refine (apart_foldl _ _ _ (fun t x => ?_)).trans ?_) | (rename_i h; refine (congrArg (fun x => State.apart (Prod.fst x)) h).symm.trans ?_; simp only [apart_each, apart_State_modLine, apart_State_insertLine, apply_ite State.apart, apply_ite Prod.fst, ite_self, implies_true, eq_self, apart_foldl, apart_each, apart_when, apart_State_emit, apart_State_used]; done) | (refine (apart_foldFst _ _ _ (fun x k => ?_)).trans ?_) | intro x)

theorem apart_State_bindPlots (a1) (a2) (a3) (a4) (a5) (a6) (s : State) : (State.bindPlots a1 a2 a3 a4 a5 a6 s).apart = s.apart := by
  unfold State.bindPlots
  simp only [apart_each, apart_State_modObju, apart_State_zeroPlot, implies_true, eq_self, apart_each]

theorem apart_State_alloc (a1) (a2) (a3) (a4) (a5) (s : State) : (State.alloc a1 a2 a3 a4 a5 s).1.apart = s.apart := by
  unfold State.alloc
  repeat' (first | with_reducible rfl | (simp only [apart_State_modObju, apart_State_modObj, apart_State_writeObj, apart_State_bindPlots, apart_State_press, apply_ite State.apart, apply_ite Prod.fst, ite_self, implies_true, eq_self, apart_foldl, apart_each, apart_when, apart_State_emit, apart_State_used]; done) | (simp only [apart_State_modObju, apart_State_modObj, apart_State_writeObj, apart_State_bindPlots, apart_State_press, apply_ite State.apart, apply_ite Prod.fst, ite_self, implies_true, eq_self, apart_foldl, apart_each, apart_when, apart_State_emit, apart_State_used]) | split | (refine (apart_each _ _ _ (fun x t => ?_)).trans ?_) | (refine (apart_when _ _ _ (fun t => ?_)).trans ?_) | (refine (apart_foldl _ _ _ (fun t x => ?_)).trans ?_) | (rename_i h; refine (congrArg (fun x => State.apart (Prod.fst x)) h).symm.trans ?_; simp only [apart_State_modObju, apart_State_modObj, apart_State_writeObj, apart_State_bindPlots, apart_State_press, apply_ite State.apart, apply_ite Prod.fst, ite_self, implies_true, eq_self, apart_foldl, apart_each, apart_when, apart_State_emit, apart_State_used]; done) | (refine (apart_foldFst _ _ _ (fun x k => ?_)).trans ?_) | intro x)

theorem apart_State_dropOld (a1) (a2) (a3) (s : State) : (State.dropOld a1 a2 a3 s).apart = s.apart := by
  unfold State.dropOld
  simp only [apart_State_modSg, apart_each, apart_State_dropTag, implies_true, eq_self, apart_each]

theorem apart_State_retireObj (a1) (a2) (s : State) : (State.retireObj a1 a2 s).apart = s.apart := by
  unfold State.retireObj
  repeat' (first | with_reducible rfl | (simp only [apart_State_modSg, apart_State_modObju, apart_State_modObj, apart_State_dropOld, apart_State_writeObj, apart_each, apart_State_stopRing, apart_State_complete, apply_ite State.apart, apply_ite Prod.fst, ite_self, implies_true, eq_self, apart_foldl, apart_each, apart_when, apart_State_emit, apart_State_used]; done) | (simp only [apart_State_modSg, apart_State_modObju, apart_State_modObj, apart_State_dropOld, apart_State_writeObj, apart_each, apart_State_stopRing, apart_State_complete, apply_ite State.apart, apply_ite Prod.fst, ite_self, implies_true, eq_self, apart_foldl, apart_each, apart_when, apart_State_emit, apart_State_used]) | split | (refine (apart_each _ _ _ (fun x t => ?_)).trans ?_) | (refine (apart_when _ _ _ (fun t => ?_)).trans ?_) | (refine (apart_foldl _ _ _ (fun t x => ?_)).trans ?_) | (rename_i h; refine (congrArg (fun x => State.apart (Prod.fst x)) h).symm.trans ?_; simp only [apart_State_modSg, apart_State_modObju, apart_State_modObj, apart_State_dropOld, apart_State_writeObj, apart_each, apart_State_stopRing, apart_State_complete, apply_ite State.apart, apply_ite Prod.fst, ite_self, implies_true, eq_self, apart_foldl, apart_each, apart_when, apart_State_emit, apart_State_used]; done) | (refine (apart_foldFst _ _ _ (fun x k => ?_)).trans ?_) | intro x)

theorem apart_State_setAdb (a1) (a2) (a3) (s : State) : (State.setAdb a1 a2 a3 s).apart = s.apart := by
  unfold State.setAdb
  simp only [apart_State_modObju, eq_self]

theorem apart_State_adbSubmit (a1) (a2) (a3) (a4) (a5) (s : State) : (State.adbSubmit a1 a2 a3 a4 a5 s).1.apart = s.apart := by
  unfold State.adbSubmit
  simp only [apart_State_flag, apart_State_used, apart_State_cntr, apart_State_touchCtx, apart_State_setAdb, apply_ite State.apart, apply_ite Prod.fst, ite_self, eq_self, apart_State_used]

theorem apart_State_spill (a1) (s : State) : (State.spill a1 s).1.apart = s.apart := by
  unfold State.spill
  repeat' (first | with_reducible rfl | (simp only [apart_State_innerSect, apart_when, apart_State_modCtx, apply_ite State.apart, apply_ite Prod.fst, ite_self, implies_true, eq_self, apart_foldl, apart_each, apart_when, apart_State_emit, apart_State_used]; done) | (simp only [apart_State_innerSect, apart_when, apart_State_modCtx, apply_ite State.apart, apply_ite Prod.fst, ite_self, implies_true, eq_self, apart_foldl, apart_each, apart_when, apart_State_emit, apart_State_used]) | split | (refine (apart_each _ _ _ (fun x t => ?_)).trans ?_) | (refine (apart_when _ _ _ (fun t => ?_)).trans ?_) | (refine (apart_foldl _ _ _ (fun t x => ?_)).trans ?_) | (rename_i h; refine (congrArg (fun x => State.apart (Prod.fst x)) h).symm.trans ?_; simp only [apart_State_innerSect, apart_when, apart_State_modCtx, apply_ite State.apart, apply_ite Prod.fst, ite_self, implies_true, eq_self, apart_foldl, apart_each, apart_when, apart_State_emit, apart_State_used]; done) | (refine (apart_foldFst _ _ _ (fun x k => ?_)).trans ?_) | intro x)

theorem apart_State_makeRoom (s : State) : (State.makeRoom s).1.apart = s.apart := by
  unfold State.makeRoom
  repeat' (first | with_reducible rfl | (simp only [apart_State_spill, apply_ite State.apart, apply_ite Prod.fst, ite_self, implies_true, eq_self, apart_foldl, apart_each, apart_when, apart_State_emit, apart_State_used]; done) | (simp only [apart_State_spill, apply_ite State.apart, apply_ite Prod.fst, ite_self, implies_true, eq_self, apart_foldl, apart_each, apart_when, apart_State_emit, apart_State_used]) | split | (refine (apart_each _ _ _ (fun x t => ?_)).trans ?_) | (refine (apart_when _ _ _ (fun t => ?_)).trans ?_) | (refine (apart_foldl _ _ _ (fun t x => ?_)).trans ?_) | (rename_i h; refine (congrArg (fun x => State.apart (Prod.fst x)) h).symm.trans ?_; simp only [apart_State_spill, apply_ite State.apart, apply_ite Prod.fst, ite_self, implies_true, eq_self, apart_foldl, apart_each, apart_when, apart_State_emit, apart_State_used]; done) | (refine (apart_foldFst _ _ _ (fun x k => ?_)).trans ?_) | intro x)

theorem apart_State_discardQueues (a1) (s : State) : (State.discardQueues a1 s).apart = s.apart := by
  unfold State.discardQueues
  simp only [apart_each, apart_State_modQueue, apply_ite State.apart, ite_self, implies_true, eq_self, apart_each]

theorem apart_State_destroyFence (a1) (a2) (s : State) : (State.destroyFence a1 a2 s).apart = s.apart := by
  unfold State.destroyFence
  simp only [apart_State_endWaits, apart_State_modObju, apart_State_setFence, apply_ite State.apart, ite_self, eq_self]

theorem apart_State_tearFences (a1) (a2) (s : State) : (State.tearFences a1 a2 s).apart = s.apart := by
  unfold State.tearFences
  simp only [apart_each, apart_State_destroyFence, apart_State_signal, apart_State_setFence, apart_State_modObju, apply_ite State.apart, ite_self, implies_true, eq_self, apart_each, apart_finishing]

theorem apart_State_teardownEnd (c) (s : State) : (s.teardownEnd c).apart = s.apart := by
  unfold State.teardownEnd
  extract_lets k p s0 objs s1 s2 same s3 s4 s5 s6 dn
  split
  · rfl
  · have h0 : ∀ c (s : State), (each (List.range 8) (fun q => State.releaseRings (16 + 8 * c + q)) s).apart = s.apart :=
      fun c s => apart_each _ _ _ fun _ _ => apart_State_releaseRings ..
    have h1 : ∀ p (l : List Nat) (s : State), (each l (fun i t => t.modObj p i fun x => { x with st := 2 }) s).apart = s.apart :=
      fun p l s => apart_each _ _ _ fun _ _ => apart_State_modObj ..
    have h2 : ∀ p (l : List Nat) (s : State), (each l (State.retireObj p) s).apart = s.apart :=
      fun p l s => apart_each _ _ _ fun _ _ => apart_State_retireObj ..
    have h3 : ∀ c (s : State), (each (List.range 8) (fun q => State.removeQueue (16 + 8 * c + q)) s).apart = s.apart :=
      fun c s => apart_each _ _ _ fun _ _ => apart_State_removeQueue ..
    have w1 : ∀ b f (s : State), (when b (State.modHst f) s).apart = s.apart := fun b f s => apart_when _ _ _ fun _ => apart_State_modHst ..
    have w2 : ∀ b p i (s : State), (when b (State.retireObj p i) s).apart = s.apart := fun b p i s => apart_when _ _ _ fun _ => apart_State_retireObj ..
    have e : s2.apart = s.apart := (h2 ..).trans ((h1 ..).trans (h0 ..))
    split
    · exact e
    · exact (apart_State_complete ..).trans <| (apart_State_modObju ..).trans <| (h3 ..).trans <| (w2 ..).trans <|
        (apart_State_tearFences ..).trans <| (w1 ..).trans e

theorem apart_State_unstall (a1) (s : State) : (State.unstall a1 s).apart = s.apart := by
  unfold State.unstall
  simp only [apart_State_modCtx, eq_self]

theorem apart_State_fqConsume (a1) (a2) (s : State) : (State.fqConsume a1 a2 s).apart = s.apart := by
  unfold State.fqConsume
  repeat' (first | with_reducible rfl | (simp only [apart_State_modCtx, apart_State_faultTo, apart_State_unstall, apply_ite State.apart, apply_ite Prod.fst, ite_self, implies_true, eq_self, apart_foldl, apart_each, apart_when, apart_State_emit, apart_State_used]; done) | (simp only [apart_State_modCtx, apart_State_faultTo, apart_State_unstall, apply_ite State.apart, apply_ite Prod.fst, ite_self, implies_true, eq_self, apart_foldl, apart_each, apart_when, apart_State_emit, apart_State_used]) | split | (refine (apart_each _ _ _ (fun x t => ?_)).trans ?_) | (refine (apart_when _ _ _ (fun t => ?_)).trans ?_) | (refine (apart_foldl _ _ _ (fun t x => ?_)).trans ?_) | (rename_i h; refine (congrArg (fun x => State.apart (Prod.fst x)) h).symm.trans ?_; simp only [apart_State_modCtx, apart_State_faultTo, apart_State_unstall, apply_ite State.apart, apply_ite Prod.fst, ite_self, implies_true, eq_self, apart_foldl, apart_each, apart_when, apart_State_emit, apart_State_used]; done) | (refine (apart_foldFst _ _ _ (fun x k => ?_)).trans ?_) | intro x)

theorem apart_State_fqWrite (a1) (a2) (a3) (s : State) : (State.fqWrite a1 a2 a3 s).apart = s.apart := by
  unfold State.fqWrite
  simp only [apart_State_fqConsume, apart_State_flag, apply_ite State.apart, ite_self, eq_self]

theorem apart_State_mnFault (a1) (a2) (a3) (s : State) : (State.mnFault a1 a2 a3 s).apart = s.apart := by
  unfold State.mnFault
  simp only [apart_State_fault, eq_self]

theorem apart_State_mnRefuse (a1) (a2) (a3) (a4) (s : State) : (State.mnRefuse a1 a2 a3 a4 s).apart = s.apart := by
  unfold State.mnRefuse
  simp only [apart_when, apart_State_mnFault, apart_State_mnNoData, apart_State_cntr, implies_true, eq_self, apart_when]

theorem apart_State_sampleMn (a1) (a2) (a3) (s : State) : (State.sampleMn a1 a2 a3 s).apart = s.apart := by
  unfold State.sampleMn
  simp only [apart_State_modObs, apart_each, apart_State_formIn, implies_true, eq_self, apart_each]

theorem apart_State_putEntry (a1) (s : State) : (State.putEntry a1 s).apart = s.apart := by
  unfold State.putEntry
  simp only [apart_State_modSg, eq_self]

theorem apart_State_dropEntry (a1) (s : State) : (State.dropEntry a1 s).apart = s.apart := by
  unfold State.dropEntry
  simp only [apart_State_modSg, eq_self]

theorem apart_State_entryEnd (a1) (a2) (s : State) : (State.entryEnd a1 a2 s).apart = s.apart := by
  unfold State.entryEnd
  repeat' (first | with_reducible rfl | (simp only [apart_State_dropEntry, apply_ite State.apart, apply_ite Prod.fst, ite_self, implies_true, eq_self, apart_foldl, apart_each, apart_when, apart_State_emit, apart_State_used]; done) | (simp only [apart_State_dropEntry, apply_ite State.apart, apply_ite Prod.fst, ite_self, implies_true, eq_self, apart_foldl, apart_each, apart_when, apart_State_emit, apart_State_used]) | split | (refine (apart_each _ _ _ (fun x t => ?_)).trans ?_) | (refine (apart_when _ _ _ (fun t => ?_)).trans ?_) | (refine (apart_foldl _ _ _ (fun t x => ?_)).trans ?_) | (rename_i h; refine (congrArg (fun x => State.apart (Prod.fst x)) h).symm.trans ?_; simp only [apart_State_dropEntry, apply_ite State.apart, apply_ite Prod.fst, ite_self, implies_true, eq_self, apart_foldl, apart_each, apart_when, apart_State_emit, apart_State_used]; done) | (refine (apart_foldFst _ _ _ (fun x k => ?_)).trans ?_) | intro x)

theorem apart_State_mismatch (a1) (a2) (a3) (a4) (s : State) : (State.mismatch a1 a2 a3 a4 s).apart = s.apart := by
  unfold State.mismatch
  simp only [apart_State_press, apart_State_glob, apart_State_modSg, eq_self]

theorem apart_State_mergeTake (a1) (a2) (s : State) : (State.mergeTake a1 a2 s).apart = s.apart := by
  unfold State.mergeTake
  repeat' (first | with_reducible rfl | (simp only [apart_State_dropEntry, apart_when, apart_State_glob, apart_State_backEntry, apply_ite State.apart, apply_ite Prod.fst, ite_self, implies_true, eq_self, apart_foldl, apart_each, apart_when, apart_State_emit, apart_State_used]; done) | (simp only [apart_State_dropEntry, apart_when, apart_State_glob, apart_State_backEntry, apply_ite State.apart, apply_ite Prod.fst, ite_self, implies_true, eq_self, apart_foldl, apart_each, apart_when, apart_State_emit, apart_State_used]) | split | (refine (apart_each _ _ _ (fun x t => ?_)).trans ?_) | (refine (apart_when _ _ _ (fun t => ?_)).trans ?_) | (refine (apart_foldl _ _ _ (fun t x => ?_)).trans ?_) | (rename_i h; refine (congrArg (fun x => State.apart (Prod.fst x)) h).symm.trans ?_; simp only [apart_State_dropEntry, apart_when, apart_State_glob, apart_State_backEntry, apply_ite State.apart, apply_ite Prod.fst, ite_self, implies_true, eq_self, apart_foldl, apart_each, apart_when, apart_State_emit, apart_State_used]; done) | (refine (apart_foldFst _ _ _ (fun x k => ?_)).trans ?_) | intro x)

theorem apart_State_commitPath (a1) (s : State) : (State.commitPath a1 s).apart = s.apart := by
  unfold State.commitPath
  repeat' (first | with_reducible rfl | (simp only [apart_each, apart_State_modLine, apart_State_insertLine, apply_ite State.apart, apply_ite Prod.fst, ite_self, implies_true, eq_self, apart_foldl, apart_each, apart_when, apart_State_emit, apart_State_used]; done) | (simp only [apart_each, apart_State_modLine, apart_State_insertLine, apply_ite State.apart, apply_ite Prod.fst, ite_self, implies_true, eq_self, apart_foldl, apart_each, apart_when, apart_State_emit, apart_State_used]) | split | (refine (apart_each _ _ _ (fun x t => ?_)).trans ?_) | (refine (apart_when _ _ _ (fun t => ?_)).trans ?_) | (refine (apart_foldl _ _ _ (fun t x => ?_)).trans ?_) | (rename_i h; refine (congrArg (fun x => State.apart (Prod.fst x)) h).symm.trans ?_; simp only [apart_each, apart_State_modLine, apart_State_insertLine, apply_ite State.apart, apply_ite Prod.fst, ite_self, implies_true, eq_self, apart_foldl, apart_each, apart_when, apart_State_emit, apart_State_used]; done) | (refine (apart_foldFst _ _ _ (fun x k => ?_)).trans ?_) | intro x)

theorem apart_State_setWord (a1) (a2) (a3) (s : State) : (State.setWord a1 a2 a3 s).apart = s.apart := by
  unfold State.setWord
  simp only [apart_State_modLine, eq_self]

theorem apart_State_ensureLine (a1) (a2) (s : State) : (State.ensureLine a1 a2 s).apart = s.apart := by
  unfold State.ensureLine
  simp only [apart_State_insertLine, apply_ite State.apart, ite_self, eq_self]

theorem apart_State_bumpVersion (a1) (a2) (s : State) : (State.bumpVersion a1 a2 s).1.apart = s.apart := by
  unfold State.bumpVersion
  simp only [apart_State_ensureLine, apart_State_setWord, apply_ite State.apart, apply_ite Prod.fst, ite_self, eq_self]

theorem apart_State_poisonSect (a1) (a2) (s : State) : (State.poisonSect a1 a2 s).apart = s.apart := by
  unfold State.poisonSect
  simp only [apart_State_setWord, apart_State_ensureLine, apart_State_bumpVersion, apply_ite State.apart, ite_self, eq_self]

theorem apart_State_poisonAll (a1) (a2) (a3) (s : State) : (State.poisonAll a1 a2 a3 s).apart = s.apart := by
  unfold State.poisonAll
  simp only [apart_each, apart_State_poisonSect, implies_true, eq_self, apart_each]

theorem apart_State_putSector (a1) (a2) (a3) (a4) (s : State) : (State.putSector a1 a2 a3 a4 s).apart = s.apart := by
  unfold State.putSector
  simp only [apart_State_bumpVersion, apart_State_setWord, apart_State_ensureLine, apart_State_glob, apart_State_cntr, apart_State_msWrite, eq_self]

theorem apart_State_giveRead (a1) (a2) (s : State) : (State.giveRead a1 a2 s).apart = s.apart := by
  unfold State.giveRead
  simp only [apart_State_emit, eq_self, apart_State_emit]

theorem apart_State_plotDone (a1) (a2) (a3) (s : State) : (State.plotDone a1 a2 a3 s).apart = s.apart := by
  unfold State.plotDone
  simp only [apart_State_plotSays, apart_State_modSg, eq_self]

theorem apart_State_kick (s : State) : (State.kick s).apart = s.apart := by
  unfold State.kick
  repeat' (first | with_reducible rfl | (simp only [apart_each, apart_State_issue, apply_ite State.apart, apply_ite Prod.fst, ite_self, implies_true, eq_self, apart_foldl, apart_each, apart_when, apart_State_emit, apart_State_used]; done) | (simp only [apart_each, apart_State_issue, apply_ite State.apart, apply_ite Prod.fst, ite_self, implies_true, eq_self, apart_foldl, apart_each, apart_when, apart_State_emit, apart_State_used]) | split | (refine (apart_each _ _ _ (fun x t => ?_)).trans ?_) | (refine (apart_when _ _ _ (fun t => ?_)).trans ?_) | (refine (apart_foldl _ _ _ (fun t x => ?_)).trans ?_) | (rename_i h; refine (congrArg (fun x => State.apart (Prod.fst x)) h).symm.trans ?_; simp only [apart_each, apart_State_issue, apply_ite State.apart, apply_ite Prod.fst, ite_self, implies_true, eq_self, apart_foldl, apart_each, apart_when, apart_State_emit, apart_State_used]; done) | (refine (apart_foldFst _ _ _ (fun x k => ?_)).trans ?_) | intro x)

theorem apart_State_startFill (a1) (a2) (s : State) : (State.startFill a1 a2 s).apart = s.apart := by
  unfold State.startFill
  simp only [apart_State_startPlotAs, apart_State_putEntry, eq_self]

theorem apart_State_plotGate (a1) (a2) (a3) (s : State) : (State.plotGate a1 a2 a3 s).1.apart = s.apart := by
  unfold State.plotGate
  repeat' (first | with_reducible rfl | (simp only [apart_State_plotLook, apply_ite State.apart, apply_ite Prod.fst, ite_self, implies_true, eq_self, apart_foldl, apart_each, apart_when, apart_State_emit, apart_State_used]; done) | (simp only [apart_State_plotLook, apply_ite State.apart, apply_ite Prod.fst, ite_self, implies_true, eq_self, apart_foldl, apart_each, apart_when, apart_State_emit, apart_State_used]) | split | (refine (apart_each _ _ _ (fun x t => ?_)).trans ?_) | (refine (apart_when _ _ _ (fun t => ?_)).trans ?_) | (refine (apart_foldl _ _ _ (fun t x => ?_)).trans ?_) | (rename_i h; refine (congrArg (fun x => State.apart (Prod.fst x)) h).symm.trans ?_; simp only [apart_State_plotLook, apply_ite State.apart, apply_ite Prod.fst, ite_self, implies_true, eq_self, apart_foldl, apart_each, apart_when, apart_State_emit, apart_State_used]; done) | (refine (apart_foldFst _ _ _ (fun x k => ?_)).trans ?_) | intro x)

theorem apart_State_upset (a1) (a2) (a3) (s : State) : (State.upset a1 a2 a3 s).apart = s.apart := by
  unfold State.upset
  repeat' (first | with_reducible rfl | (simp only [apart_State_setAnchor, apply_ite State.apart, apply_ite Prod.fst, ite_self, implies_true, eq_self, apart_foldl, apart_each, apart_when, apart_State_emit, apart_State_used]; done) | (simp only [apart_State_setAnchor, apply_ite State.apart, apply_ite Prod.fst, ite_self, implies_true, eq_self, apart_foldl, apart_each, apart_when, apart_State_emit, apart_State_used]) | split | (refine (apart_each _ _ _ (fun x t => ?_)).trans ?_) | (refine (apart_when _ _ _ (fun t => ?_)).trans ?_) | (refine (apart_foldl _ _ _ (fun t x => ?_)).trans ?_) | (rename_i h; refine (congrArg (fun x => State.apart (Prod.fst x)) h).symm.trans ?_; simp only [apart_State_setAnchor, apply_ite State.apart, apply_ite Prod.fst, ite_self, implies_true, eq_self, apart_foldl, apart_each, apart_when, apart_State_emit, apart_State_used]; done) | (refine (apart_foldFst _ _ _ (fun x k => ?_)).trans ?_) | intro x)

theorem apart_State_mnNo (a1) (a2) (a3) (a4) (s : State) : (State.mnNo a1 a2 a3 a4 s).apart = s.apart := by
  unfold State.mnNo
  repeat' (first | with_reducible rfl | (simp only [apart_State_mnRefuse, apart_State_mnNoData, apply_ite State.apart, apply_ite Prod.fst, ite_self, implies_true, eq_self, apart_foldl, apart_each, apart_when, apart_State_emit, apart_State_used]; done) | (simp only [apart_State_mnRefuse, apart_State_mnNoData, apply_ite State.apart, apply_ite Prod.fst, ite_self, implies_true, eq_self, apart_foldl, apart_each, apart_when, apart_State_emit, apart_State_used]) | split | (refine (apart_each _ _ _ (fun x t => ?_)).trans ?_) | (refine (apart_when _ _ _ (fun t => ?_)).trans ?_) | (refine (apart_foldl _ _ _ (fun t x => ?_)).trans ?_) | (rename_i h; refine (congrArg (fun x => State.apart (Prod.fst x)) h).symm.trans ?_; simp only [apart_State_mnRefuse, apart_State_mnNoData, apply_ite State.apart, apply_ite Prod.fst, ite_self, implies_true, eq_self, apart_foldl, apart_each, apart_when, apart_State_emit, apart_State_used]; done) | (refine (apart_foldFst _ _ _ (fun x k => ?_)).trans ?_) | intro x)

theorem apart_State_passWrite (a1) (a2) (a3) (a4) (s : State) : (State.passWrite a1 a2 a3 a4 s).apart = s.apart := by
  unfold State.passWrite
  repeat' (first | with_reducible rfl | (simp only [apart_State_msWrite, apart_State_modSg, apply_ite State.apart, apply_ite Prod.fst, ite_self, implies_true, eq_self, apart_foldl, apart_each, apart_when, apart_State_emit, apart_State_used]; done) | (simp only [apart_State_msWrite, apart_State_modSg, apply_ite State.apart, apply_ite Prod.fst, ite_self, implies_true, eq_self, apart_foldl, apart_each, apart_when, apart_State_emit, apart_State_used]) | split | (refine (apart_each _ _ _ (fun x t => ?_)).trans ?_) | (refine (apart_when _ _ _ (fun t => ?_)).trans ?_) | (refine (apart_foldl _ _ _ (fun t x => ?_)).trans ?_) | (rename_i h; refine (congrArg (fun x => State.apart (Prod.fst x)) h).symm.trans ?_; simp only [apart_State_msWrite, apart_State_modSg, apply_ite State.apart, apply_ite Prod.fst, ite_self, implies_true, eq_self, apart_foldl, apart_each, apart_when, apart_State_emit, apart_State_used]; done) | (refine (apart_foldFst _ _ _ (fun x k => ?_)).trans ?_) | intro x)

theorem apart_State_lineHere (a1) (a2) (a3) (s : State) : (State.lineHere a1 a2 a3 s).apart = s.apart := by
  unfold State.lineHere
  simp only [apart_State_modLine, eq_self]

theorem apart_State_sendLine (a1) (a2) (s : State) : (State.sendLine a1 a2 s).apart = s.apart := by
  unfold State.sendLine
  simp only [apart_State_glob, apart_State_msWrite, apart_State_modSg, apart_State_modLine, apply_ite State.apart, ite_self, eq_self]

theorem apart_State_backNode (a1) (a2) (s : State) : (State.backNode a1 a2 s).apart = s.apart := by
  unfold State.backNode
  simp only [apart_State_setAnchor, apart_State_setWord, apart_State_sendLine, apply_ite State.apart, ite_self, eq_self]

theorem apart_State_discard (a1) (a2) (s : State) : (State.discard a1 a2 s).apart = s.apart := by
  unfold State.discard
  simp only [apart_State_glob, apart_State_count, eq_self]

theorem apart_State_rxAccept (a1) (a2) (s : State) : (State.rxAccept a1 a2 s).1.apart = s.apart := by
  unfold State.rxAccept
  repeat' (first | with_reducible rfl | (simp only [apart_State_discard, apart_State_modSess, apart_State_glob, apart_State_wants, apart_State_cntr, apply_ite State.apart, apply_ite Prod.fst, ite_self, implies_true, eq_self, apart_foldl, apart_each, apart_when, apart_State_emit, apart_State_used]; done) | (simp only [apart_State_discard, apart_State_modSess, apart_State_glob, apart_State_wants, apart_State_cntr, apply_ite State.apart, apply_ite Prod.fst, ite_self, implies_true, eq_self, apart_foldl, apart_each, apart_when, apart_State_emit, apart_State_used]) | split | (refine (apart_each _ _ _ (fun x t => ?_)).trans ?_) | (refine (apart_when _ _ _ (fun t => ?_)).trans ?_) | (refine (apart_foldl _ _ _ (fun t x => ?_)).trans ?_) | (rename_i h; refine (congrArg (fun x => State.apart (Prod.fst x)) h).symm.trans ?_; simp only [apart_State_discard, apart_State_modSess, apart_State_glob, apart_State_wants, apart_State_cntr, apply_ite State.apart, apply_ite Prod.fst, ite_self, implies_true, eq_self, apart_foldl, apart_each, apart_when, apart_State_emit, apart_State_used]; done) | (refine (apart_foldFst _ _ _ (fun x k => ?_)).trans ?_) | intro x)

theorem apart_State_closeSess (a1) (a2) (a3) (s : State) : (State.closeSess a1 a2 a3 s).apart = s.apart := by
  unfold State.closeSess
  simp only [apart_State_modPort, apart_State_sessTo, apart_State_enqueue, apply_ite State.apart, ite_self, eq_self]

theorem apart_State_closePart (a1) (a2) (s : State) : (State.closePart a1 a2 s).apart = s.apart := by
  unfold State.closePart
  simp only [apart_each, apart_State_closeSess, implies_true, eq_self, apart_each]

theorem apart_State_rejoinNotice (a1) (s : State) : (State.rejoinNotice a1 s).apart = s.apart := by
  unfold State.rejoinNotice
  simp only [apart_State_broadcast, eq_self]

theorem apart_State_applyFence (a1) (a2) (a3) (a4) (a5) (a6) (a7) (a8) (a9) (s : State) : (State.applyFence a1 a2 a3 a4 a5 a6 a7 a8 a9 s).apart = s.apart := by
  unfold State.applyFence
  simp only [apart_State_broadcast, apart_State_modObju, apart_State_setFence, apart_State_signalHere, apply_ite State.apart, ite_self, eq_self, apart_finishing]

theorem apart_State_saltKeys (a1) (s : State) : (State.saltKeys a1 s).apart = s.apart := by
  unfold State.saltKeys
  simp only [apart_each, apart_State_retireFor, apply_ite State.apart, ite_self, implies_true, eq_self, apart_each]

theorem apart_State_flowLess (a1) (a2) (s : State) : (State.flowLess a1 a2 s).apart = s.apart := by
  unfold State.flowLess
  simp only [apart_State_saltKeys, apart_State_modPort, eq_self]

theorem apart_State_unqueue (a1) (a2) (s : State) : (State.unqueue a1 a2 s).apart = s.apart := by
  unfold State.unqueue
  simp only [apart_State_modPort, eq_self]

theorem apart_State_nextSecret (a1) (a2) (a3) (s : State) : (State.nextSecret a1 a2 a3 s).1.apart = s.apart := by
  unfold State.nextSecret
  simp only [apart_State_retireFor, apart_State_settleSlot, eq_self]

theorem apart_State_epochMove (a1) (a2) (s : State) : (State.epochMove a1 a2 s).apart = s.apart := by
  unfold State.epochMove
  simp only [apart_State_nextSecret, apart_State_glob, apart_State_modSess, eq_self]

theorem apart_State_epochChange (a1) (a2) (s : State) : (State.epochChange a1 a2 s).apart = s.apart := by
  unfold State.epochChange
  simp only [apart_State_modSess, apart_State_epochMove, apply_ite State.apart, ite_self, eq_self]

theorem apart_State_routeReply (a1) (a2) (a3) (a4) (a5) (a6) (s : State) : (State.routeReply a1 a2 a3 a4 a5 a6 s).apart = s.apart := by
  unfold State.routeReply
  simp only [apart_State_enqueue, eq_self]

theorem apart_State_applyRoute (a1) (a2) (a3) (a4) (s : State) : (State.applyRoute a1 a2 a3 a4 s).apart = s.apart := by
  unfold State.applyRoute
  simp only [apart_State_routeReply, apart_State_enqueue, apply_ite State.apart, ite_self, eq_self]

theorem apart_State_sendOp (a1) (a2) (s : State) : (State.sendOp a1 a2 s).apart = s.apart := by
  unfold State.sendOp
  simp only [apart_State_sendTo, eq_self]

theorem apart_State_traceOp (a1) (a2) (a3) (a4) (s : State) : (State.traceOp a1 a2 a3 a4 s).apart = s.apart := by
  unfold State.traceOp
  simp only [apart_State_trace, eq_self]

theorem apart_State_srcRead (a1) (a2) (a3) (a4) (s : State) : (State.srcRead a1 a2 a3 a4 s).1.apart = s.apart := by
  unfold State.srcRead
  simp only [apart_State_innerRead, eq_self]

theorem apart_State_flowAnswered (a1) (a2) (a3) (a4) (a5) (s : State) : (State.flowAnswered a1 a2 a3 a4 a5 s).apart = s.apart := by
  unfold State.flowAnswered
  simp only [apart_State_flowLess, eq_self]

theorem apart_State_unlessBreach (a1) (a2) (a3) (s : State) (ha3 : ∀ t, State.apart (a3 t) = t.apart) : (State.unlessBreach a1 a2 a3 s).apart = s.apart := by
  unfold State.unlessBreach
  simp only [apart_State_discard, ha3, apply_ite State.apart, ite_self, eq_self]

theorem apart_State_sendReplyTo (a1) (a2) (a3) (a4) (a5) (a6) (a7) (a8) (a9) (a10) (a11) (a12) (s : State) : (State.sendReplyTo a1 a2 a3 a4 a5 a6 a7 a8 a9 a10 a11 a12 s).apart = s.apart := by
  unfold State.sendReplyTo
  simp only [apart_State_enqueue, eq_self]

theorem apart_State_remotePlace (a1) (a2) (a3) (a4) (a5) (s : State) : (State.remotePlace a1 a2 a3 a4 a5 s).1.apart = s.apart := by
  unfold State.remotePlace
  repeat' (first | with_reducible rfl | (simp only [apart_State_useRegion, apply_ite State.apart, apply_ite Prod.fst, ite_self, implies_true, eq_self, apart_foldl, apart_each, apart_when, apart_State_emit, apart_State_used]; done) | (simp only [apart_State_useRegion, apply_ite State.apart, apply_ite Prod.fst, ite_self, implies_true, eq_self, apart_foldl, apart_each, apart_when, apart_State_emit, apart_State_used]) | split | (refine (apart_each _ _ _ (fun x t => ?_)).trans ?_) | (refine (apart_when _ _ _ (fun t => ?_)).trans ?_) | (refine (apart_foldl _ _ _ (fun t x => ?_)).trans ?_) | (rename_i h; refine (congrArg (fun x => State.apart (Prod.fst x)) h).symm.trans ?_; simp only [apart_State_useRegion, apply_ite State.apart, apply_ite Prod.fst, ite_self, implies_true, eq_self, apart_foldl, apart_each, apart_when, apart_State_emit, apart_State_used]; done) | (refine (apart_foldFst _ _ _ (fun x k => ?_)).trans ?_) | intro x)

theorem apart_State_sendContrib (a1) (a2) (s : State) : (State.sendContrib a1 a2 s).apart = s.apart := by
  unfold State.sendContrib
  simp only [apart_State_sendTo, eq_self]

theorem apart_State_traceContrib (a1) (a2) (a3) (s : State) : (State.traceContrib a1 a2 a3 s).apart = s.apart := by
  unfold State.traceContrib
  simp only [apart_State_trace, eq_self]

theorem apart_State_ackContrib (a1) (a2) (a3) (a4) (s : State) : (State.ackContrib a1 a2 a3 a4 s).apart = s.apart := by
  unfold State.ackContrib
  simp only [apart_State_sendTo, eq_self]

theorem apart_State_ackResult (a1) (a2) (a3) (a4) (s : State) : (State.ackResult a1 a2 a3 a4 s).apart = s.apart := by
  unfold State.ackResult
  simp only [apart_State_sendTo, eq_self]

theorem apart_State_ptpSend (a1) (a2) (a3) (a4) (a5) (a6) (a7) (s : State) : (State.ptpSend a1 a2 a3 a4 a5 a6 a7 s).apart = s.apart := by
  unfold State.ptpSend
  simp only [apart_State_enqueue, apply_ite State.apart, ite_self, eq_self]

theorem apart_State_drawn (s : State) : (State.drawn s).apart = s.apart := by
  unfold State.drawn
  simp only [apart_State_modKey, apart_State_used, eq_self, apart_State_used]

theorem apart_State_drawnPr (s : State) : (State.drawnPr s).apart = s.apart := by
  unfold State.drawnPr
  simp only [apart_State_modKey, apart_State_used, eq_self, apart_State_used]

theorem apart_State_newControl (a1) (a2) (a3) (a4) (a5) (a6) (s : State) : (State.newControl a1 a2 a3 a4 a5 a6 s).apart = s.apart := by
  unfold State.newControl
  repeat' (first | with_reducible rfl | (simp only [apart_State_ok, apart_State_fill, apart_State_endsWith, apply_ite State.apart, apply_ite Prod.fst, ite_self, implies_true, eq_self, apart_foldl, apart_each, apart_when, apart_State_emit, apart_State_used]; done) | (simp only [apart_State_ok, apart_State_fill, apart_State_endsWith, apply_ite State.apart, apply_ite Prod.fst, ite_self, implies_true, eq_self, apart_foldl, apart_each, apart_when, apart_State_emit, apart_State_used]) | split | (refine (apart_each _ _ _ (fun x t => ?_)).trans ?_) | (refine (apart_when _ _ _ (fun t => ?_)).trans ?_) | (refine (apart_foldl _ _ _ (fun t x => ?_)).trans ?_) | (rename_i h; refine (congrArg (fun x => State.apart (Prod.fst x)) h).symm.trans ?_; simp only [apart_State_ok, apart_State_fill, apart_State_endsWith, apply_ite State.apart, apply_ite Prod.fst, ite_self, implies_true, eq_self, apart_foldl, apart_each, apart_when, apart_State_emit, apart_State_used]; done) | (refine (apart_foldFst _ _ _ (fun x k => ?_)).trans ?_) | intro x)

theorem apart_State_cceTolaro (a1) (a2) (a3) (a4) (a5) (a6) (s : State) : (State.cceTolaro a1 a2 a3 a4 a5 a6 s).apart = s.apart := by
  unfold State.cceTolaro
  simp only [apart_State_modKey, apart_when, apart_State_drawn, apply_ite State.apart, ite_self, implies_true, eq_self, apart_when]

theorem apart_State_pkeNext (a1) (a2) (s : State) : (State.pkeNext a1 a2 s).apart = s.apart := by
  unfold State.pkeNext
  simp only [apart_State_modKey, eq_self]

theorem apart_State_setReseal (a1) (a2) (s : State) : (State.setReseal a1 a2 s).apart = s.apart := by
  unfold State.setReseal
  simp only [apart_State_modKey, eq_self]

theorem apart_State_resealEnd (a1) (s : State) : (State.resealEnd a1 s).apart = s.apart := by
  unfold State.resealEnd
  repeat' (first | with_reducible rfl | (simp only [apart_State_writeObj, apart_State_modObj, apart_State_setReseal, apart_State_retire, apart_State_ok, apart_State_endsWith, apply_ite State.apart, apply_ite Prod.fst, ite_self, implies_true, eq_self, apart_foldl, apart_each, apart_when, apart_State_emit, apart_State_used]; done) | (simp only [apart_State_writeObj, apart_State_modObj, apart_State_setReseal, apart_State_retire, apart_State_ok, apart_State_endsWith, apply_ite State.apart, apply_ite Prod.fst, ite_self, implies_true, eq_self, apart_foldl, apart_each, apart_when, apart_State_emit, apart_State_used]) | split | (refine (apart_each _ _ _ (fun x t => ?_)).trans ?_) | (refine (apart_when _ _ _ (fun t => ?_)).trans ?_) | (refine (apart_foldl _ _ _ (fun t x => ?_)).trans ?_) | (rename_i h; refine (congrArg (fun x => State.apart (Prod.fst x)) h).symm.trans ?_; simp only [apart_State_writeObj, apart_State_modObj, apart_State_setReseal, apart_State_retire, apart_State_ok, apart_State_endsWith, apply_ite State.apart, apply_ite Prod.fst, ite_self, implies_true, eq_self, apart_foldl, apart_each, apart_when, apart_State_emit, apart_State_used]; done) | (refine (apart_foldFst _ _ _ (fun x k => ?_)).trans ?_) | intro x)

theorem apart_State_sgWrite (a1) (a2) (s : State) : (State.sgWrite a1 a2 s).apart = s.apart := by
  unfold State.sgWrite
  simp only [apart_State_busErr, apart_State_setFld, apart_State_flag, apply_ite State.apart, ite_self, eq_self]

theorem apart_State_commitWeights (a1) (s : State) : (State.commitWeights a1 s).apart = s.apart := by
  unfold State.commitWeights
  simp only [apart_State_modShare, apply_ite State.apart, ite_self, eq_self]

theorem apart_State_wakeOne (a1) (s : State) : (State.wakeOne a1 s).apart = s.apart := by
  unfold State.wakeOne
  simp only [apart_State_modShare, apart_State_modUnit, apply_ite State.apart, ite_self, eq_self]

theorem apart_State_modTdi (a1) (a2) (s : State) : (State.modTdi a1 a2 s).apart = s.apart := by
  unfold State.modTdi
  simp only [apart_State_modHst, eq_self]

theorem apart_State_modStream (a1) (a2) (a3) (s : State) : (State.modStream a1 a2 a3 s).apart = s.apart := by
  unfold State.modStream
  simp only [apart_State_modHst, eq_self]

theorem apart_State_modKeys (a1) (a2) (a3) (a4) (a5) (s : State) : (State.modKeys a1 a2 a3 a4 a5 s).apart = s.apart := by
  unfold State.modKeys
  simp only [apart_State_modHst, eq_self]

theorem apart_State_tilesFault (a1) (a2) (s : State) : (State.tilesFault a1 a2 s).apart = s.apart := by
  unfold State.tilesFault
  simp only [apart_each, apart_State_tileFault, implies_true, eq_self, apart_each]

theorem apart_State_tdiLeaves (a1) (a2) (s : State) : (State.tdiLeaves a1 a2 s).apart = s.apart := by
  unfold State.tdiLeaves
  simp only [apart_State_modHst, apart_State_tilesFault, eq_self]

theorem apart_State_tdiError (a1) (s : State) : (State.tdiError a1 s).apart = s.apart := by
  unfold State.tdiError
  simp only [apart_State_tdiLeaves, apart_State_modTdi, apply_ite State.apart, ite_self, eq_self]

theorem apart_State_tdiStop (a1) (s : State) : (State.tdiStop a1 s).apart = s.apart := by
  unfold State.tdiStop
  simp only [apart_State_modTdi, apart_State_tdiLeaves, apply_ite State.apart, ite_self, eq_self]

theorem apart_State_streamDown (a1) (a2) (s : State) : (State.streamDown a1 a2 s).apart = s.apart := by
  unfold State.streamDown
  simp only [apart_each, apart_State_retire, apart_State_modHst, apart_State_modStream, apart_State_tdiError, implies_true, eq_self, apart_each]

theorem apart_State_tryStream (a1) (a2) (s : State) : (State.tryStream a1 a2 s).apart = s.apart := by
  unfold State.tryStream
  simp only [apart_State_modStream, apply_ite State.apart, ite_self, eq_self]

theorem apart_State_ideAnswer (a1) (a2) (s : State) : (State.ideAnswer a1 a2 s).apart = s.apart := by
  unfold State.ideAnswer
  simp only [apart_State_respond, eq_self]

theorem apart_State_tdisp (a1) (a2) (a3) (a4) (s : State) (ha4 : ∀ t, State.apart (a4 t) = t.apart) : (State.tdisp a1 a2 a3 a4 s).apart = s.apart := by
  unfold State.tdisp
  simp only [apart_State_respond, ha4, apply_ite State.apart, ite_self, eq_self]

theorem apart_State_tdispAnswer (a1) (a2) (a3) (s : State) : (State.tdispAnswer a1 a2 a3 s).apart = s.apart := by
  unfold State.tdispAnswer
  simp only [apart_State_respond, eq_self]

theorem apart_State_ideCfg (a1) (a2) (a3) (s : State) : (State.ideCfg a1 a2 a3 s).apart = s.apart := by
  unfold State.ideCfg
  simp only [apart_State_modStream, apart_State_tryStream, apart_State_streamDown, apply_ite State.apart, ite_self, eq_self]

theorem apart_State_sendTlp (a1) (a2) (a3) (s : State) : (State.sendTlp a1 a2 a3 s).apart = s.apart := by
  unfold State.sendTlp
  repeat' (first | with_reducible rfl | (simp only [apart_State_emit, apart_State_modHst, apart_State_glob, apart_State_wants, apply_ite State.apart, apply_ite Prod.fst, ite_self, implies_true, eq_self, apart_foldl, apart_each, apart_when, apart_State_emit, apart_State_used]; done) | (simp only [apart_State_emit, apart_State_modHst, apart_State_glob, apart_State_wants, apply_ite State.apart, apply_ite Prod.fst, ite_self, implies_true, eq_self, apart_foldl, apart_each, apart_when, apart_State_emit, apart_State_used]) | split | (refine (apart_each _ _ _ (fun x t => ?_)).trans ?_) | (refine (apart_when _ _ _ (fun t => ?_)).trans ?_) | (refine (apart_foldl _ _ _ (fun t x => ?_)).trans ?_) | (rename_i h; refine (congrArg (fun x => State.apart (Prod.fst x)) h).symm.trans ?_; simp only [apart_State_emit, apart_State_modHst, apart_State_glob, apart_State_wants, apply_ite State.apart, apply_ite Prod.fst, ite_self, implies_true, eq_self, apart_foldl, apart_each, apart_when, apart_State_emit, apart_State_used]; done) | (refine (apart_foldFst _ _ _ (fun x k => ?_)).trans ?_) | intro x)

theorem apart_State_outTlp (a1) (a2) (a3) (s : State) : (State.outTlp a1 a2 a3 s).apart = s.apart := by
  unfold State.outTlp
  repeat' (first | with_reducible rfl | (simp only [apart_State_fault, apart_State_sendTlp, apply_ite State.apart, apply_ite Prod.fst, ite_self, implies_true, eq_self, apart_foldl, apart_each, apart_when, apart_State_emit, apart_State_used]; done) | (simp only [apart_State_fault, apart_State_sendTlp, apply_ite State.apart, apply_ite Prod.fst, ite_self, implies_true, eq_self, apart_foldl, apart_each, apart_when, apart_State_emit, apart_State_used]) | split | (refine (apart_each _ _ _ (fun x t => ?_)).trans ?_) | (refine (apart_when _ _ _ (fun t => ?_)).trans ?_) | (refine (apart_foldl _ _ _ (fun t x => ?_)).trans ?_) | (rename_i h; refine (congrArg (fun x => State.apart (Prod.fst x)) h).symm.trans ?_; simp only [apart_State_fault, apart_State_sendTlp, apply_ite State.apart, apply_ite Prod.fst, ite_self, implies_true, eq_self, apart_foldl, apart_each, apart_when, apart_State_emit, apart_State_used]; done) | (refine (apart_foldFst _ _ _ (fun x k => ?_)).trans ?_) | intro x)

theorem apart_State_putPage (a1) (a2) (a3) (s : State) : (State.putPage a1 a2 a3 s).apart = s.apart := by
  unfold State.putPage
  repeat' (first | with_reducible rfl | (simp only [apart_State_modHst, apply_ite State.apart, apply_ite Prod.fst, ite_self, implies_true, eq_self, apart_foldl, apart_each, apart_when, apart_State_emit, apart_State_used]; done) | (simp only [apart_State_modHst, apply_ite State.apart, apply_ite Prod.fst, ite_self, implies_true, eq_self, apart_foldl, apart_each, apart_when, apart_State_emit, apart_State_used]) | split | (refine (apart_each _ _ _ (fun x t => ?_)).trans ?_) | (refine (apart_when _ _ _ (fun t => ?_)).trans ?_) | (refine (apart_foldl _ _ _ (fun t x => ?_)).trans ?_) | (rename_i h; refine (congrArg (fun x => State.apart (Prod.fst x)) h).symm.trans ?_; simp only [apart_State_modHst, apply_ite State.apart, apply_ite Prod.fst, ite_self, implies_true, eq_self, apart_foldl, apart_each, apart_when, apart_State_emit, apart_State_used]; done) | (refine (apart_foldFst _ _ _ (fun x k => ?_)).trans ?_) | intro x)

theorem apart_State_touchAtc (a1) (a2) (a3) (s : State) : (State.touchAtc a1 a2 a3 s).apart = s.apart := by
  unfold State.touchAtc
  repeat' (first | with_reducible rfl | (simp only [apart_State_modHst, apply_ite State.apart, apply_ite Prod.fst, ite_self, implies_true, eq_self, apart_foldl, apart_each, apart_when, apart_State_emit, apart_State_used]; done) | (simp only [apart_State_modHst, apply_ite State.apart, apply_ite Prod.fst, ite_self, implies_true, eq_self, apart_foldl, apart_each, apart_when, apart_State_emit, apart_State_used]) | split | (refine (apart_each _ _ _ (fun x t => ?_)).trans ?_) | (refine (apart_when _ _ _ (fun t => ?_)).trans ?_) | (refine (apart_foldl _ _ _ (fun t x => ?_)).trans ?_) | (rename_i h; refine (congrArg (fun x => State.apart (Prod.fst x)) h).symm.trans ?_; simp only [apart_State_modHst, apply_ite State.apart, apply_ite Prod.fst, ite_self, implies_true, eq_self, apart_foldl, apart_each, apart_when, apart_State_emit, apart_State_used]; done) | (refine (apart_foldFst _ _ _ (fun x k => ?_)).trans ?_) | intro x)

theorem apart_State_askPage (a1) (a2) (a3) (a4) (s : State) : (State.askPage a1 a2 a3 a4 s).apart = s.apart := by
  unfold State.askPage
  repeat' (first | with_reducible rfl | (simp only [apart_State_emit, apart_State_glob, apart_State_modHst, apply_ite State.apart, apply_ite Prod.fst, ite_self, implies_true, eq_self, apart_foldl, apart_each, apart_when, apart_State_emit, apart_State_used]; done) | (simp only [apart_State_emit, apart_State_glob, apart_State_modHst, apply_ite State.apart, apply_ite Prod.fst, ite_self, implies_true, eq_self, apart_foldl, apart_each, apart_when, apart_State_emit, apart_State_used]) | split | (refine (apart_each _ _ _ (fun x t => ?_)).trans ?_) | (refine (apart_when _ _ _ (fun t => ?_)).trans ?_) | (refine (apart_foldl _ _ _ (fun t x => ?_)).trans ?_) | (rename_i h; refine (congrArg (fun x => State.apart (Prod.fst x)) h).symm.trans ?_; simp only [apart_State_emit, apart_State_glob, apart_State_modHst, apply_ite State.apart, apply_ite Prod.fst, ite_self, implies_true, eq_self, apart_foldl, apart_each, apart_when, apart_State_emit, apart_State_used]; done) | (refine (apart_foldFst _ _ _ (fun x k => ?_)).trans ?_) | intro x)

theorem apart_State_pumpAsk (a1) (s : State) : (State.pumpAsk a1 s).apart = s.apart := by
  unfold State.pumpAsk
  simp only [apart_each, apart_State_askPage, implies_true, eq_self, apart_each]

theorem apart_State_stage4 (a1) (a2) (a3) (a4) (a5) (s : State) : (State.stage4 a1 a2 a3 a4 a5 s).apart = s.apart := by
  unfold State.stage4
  repeat' (first | with_reducible rfl | (simp only [apart_State_sendTlp, apart_State_outTlp, apart_State_modTile, apart_State_touchAtc, apply_ite State.apart, apply_ite Prod.fst, ite_self, implies_true, eq_self, apart_foldl, apart_each, apart_when, apart_State_emit, apart_State_used]; done) | (simp only [apart_State_sendTlp, apart_State_outTlp, apart_State_modTile, apart_State_touchAtc, apply_ite State.apart, apply_ite Prod.fst, ite_self, implies_true, eq_self, apart_foldl, apart_each, apart_when, apart_State_emit, apart_State_used]) | split | (refine (apart_each _ _ _ (fun x t => ?_)).trans ?_) | (refine (apart_when _ _ _ (fun t => ?_)).trans ?_) | (refine (apart_foldl _ _ _ (fun t x => ?_)).trans ?_) | (rename_i h; refine (congrArg (fun x => State.apart (Prod.fst x)) h).symm.trans ?_; simp only [apart_State_sendTlp, apart_State_outTlp, apart_State_modTile, apart_State_touchAtc, apply_ite State.apart, apply_ite Prod.fst, ite_self, implies_true, eq_self, apart_foldl, apart_each, apart_when, apart_State_emit, apart_State_used]; done) | (refine (apart_foldFst _ _ _ (fun x k => ?_)).trans ?_) | intro x)

theorem apart_State_stage3 (a1) (a2) (a3) (a4) (a5) (s : State) : (State.stage3 a1 a2 a3 a4 a5 s).apart = s.apart := by
  unfold State.stage3
  simp only [apart_State_modHst, apart_State_stage4, apply_ite State.apart, ite_self, eq_self]

theorem apart_State_tileSend (a1) (a2) (a3) (a4) (s : State) : (State.tileSend a1 a2 a3 a4 s).apart = s.apart := by
  unfold State.tileSend
  simp only [apart_State_stage3, eq_self]

theorem apart_State_tileMove (a1) (a2) (s : State) : (State.tileMove a1 a2 s).apart = s.apart := by
  unfold State.tileMove
  simp only [apart_State_trace, apart_State_modTile, apart_each, apart_State_tileSend, apply_ite State.apart, ite_self, implies_true, eq_self, apart_each]

theorem apart_State_pump (a1) (s : State) : (State.pump a1 s).apart = s.apart := by
  unfold State.pump
  simp only [apart_State_pumpAsk, apart_each, apart_State_tileMove, implies_true, eq_self, apart_each]

theorem apart_State_pageFail (a1) (a2) (a3) (a4) (s : State) : (State.pageFail a1 a2 a3 a4 s).apart = s.apart := by
  unfold State.pageFail
  simp only [apart_each, apart_State_tileFault, apply_ite State.apart, ite_self, implies_true, eq_self, apart_each]

theorem apart_State_pageMiss (a1) (a2) (a3) (a4) (s : State) : (State.pageMiss a1 a2 a3 a4 s).apart = s.apart := by
  unfold State.pageMiss
  repeat' (first | with_reducible rfl | (simp only [apart_State_pageFail, apart_State_emit, apart_State_glob, apart_State_modHst, apply_ite State.apart, apply_ite Prod.fst, ite_self, implies_true, eq_self, apart_foldl, apart_each, apart_when, apart_State_emit, apart_State_used]; done) | (simp only [apart_State_pageFail, apart_State_emit, apart_State_glob, apart_State_modHst, apply_ite State.apart, apply_ite Prod.fst, ite_self, implies_true, eq_self, apart_foldl, apart_each, apart_when, apart_State_emit, apart_State_used]) | split | (refine (apart_each _ _ _ (fun x t => ?_)).trans ?_) | (refine (apart_when _ _ _ (fun t => ?_)).trans ?_) | (refine (apart_foldl _ _ _ (fun t x => ?_)).trans ?_) | (rename_i h; refine (congrArg (fun x => State.apart (Prod.fst x)) h).symm.trans ?_; simp only [apart_State_pageFail, apart_State_emit, apart_State_glob, apart_State_modHst, apply_ite State.apart, apply_ite Prod.fst, ite_self, implies_true, eq_self, apart_foldl, apart_each, apart_when, apart_State_emit, apart_State_used]; done) | (refine (apart_foldFst _ _ _ (fun x k => ?_)).trans ?_) | intro x)

theorem apart_State_prNext (s : State) : (State.prNext s).apart = s.apart := by
  unfold State.prNext
  repeat' (first | with_reducible rfl | (simp only [apart_State_pageMiss, apart_State_modHst, apply_ite State.apart, apply_ite Prod.fst, ite_self, implies_true, eq_self, apart_foldl, apart_each, apart_when, apart_State_emit, apart_State_used]; done) | (simp only [apart_State_pageMiss, apart_State_modHst, apply_ite State.apart, apply_ite Prod.fst, ite_self, implies_true, eq_self, apart_foldl, apart_each, apart_when, apart_State_emit, apart_State_used]) | split | (refine (apart_each _ _ _ (fun x t => ?_)).trans ?_) | (refine (apart_when _ _ _ (fun t => ?_)).trans ?_) | (refine (apart_foldl _ _ _ (fun t x => ?_)).trans ?_) | (rename_i h; refine (congrArg (fun x => State.apart (Prod.fst x)) h).symm.trans ?_; simp only [apart_State_pageMiss, apart_State_modHst, apply_ite State.apart, apply_ite Prod.fst, ite_self, implies_true, eq_self, apart_foldl, apart_each, apart_when, apart_State_emit, apart_State_used]; done) | (refine (apart_foldFst _ _ _ (fun x k => ?_)).trans ?_) | intro x)

theorem apart_State_trEnds (a1) (a2) (s : State) : (State.trEnds a1 a2 s).apart = s.apart := by
  unfold State.trEnds
  simp only [apart_each, apart_State_putPage, apart_State_modHst, apart_State_pump, apart_State_pageMiss, implies_true, eq_self, apart_each]

theorem apart_State_tileTlp (a1) (a2) (a3) (s : State) : (State.tileTlp a1 a2 a3 s).apart = s.apart := by
  unfold State.tileTlp
  repeat' (first | with_reducible rfl | (simp only [apart_State_fault, apart_State_used, apart_State_cntr, apart_State_tileSend, apart_State_pumpAsk, apart_State_modTile, apply_ite State.apart, apply_ite Prod.fst, ite_self, implies_true, eq_self, apart_foldl, apart_each, apart_when, apart_State_emit, apart_State_used]; done) | (simp only [apart_State_fault, apart_State_used, apart_State_cntr, apart_State_tileSend, apart_State_pumpAsk, apart_State_modTile, apply_ite State.apart, apply_ite Prod.fst, ite_self, implies_true, eq_self, apart_foldl, apart_each, apart_when, apart_State_emit, apart_State_used]) | split | (refine (apart_each _ _ _ (fun x t => ?_)).trans ?_) | (refine (apart_when _ _ _ (fun t => ?_)).trans ?_) | (refine (apart_foldl _ _ _ (fun t x => ?_)).trans ?_) | (rename_i h; refine (congrArg (fun x => State.apart (Prod.fst x)) h).symm.trans ?_; simp only [apart_State_fault, apart_State_used, apart_State_cntr, apart_State_tileSend, apart_State_pumpAsk, apart_State_modTile, apply_ite State.apart, apply_ite Prod.fst, ite_self, implies_true, eq_self, apart_foldl, apart_each, apart_when, apart_State_emit, apart_State_used]; done) | (refine (apart_foldFst _ _ _ (fun x k => ?_)).trans ?_) | intro x)

theorem apart_State_txTlp (a1) (a2) (s : State) : (State.txTlp a1 a2 s).apart = s.apart := by
  unfold State.txTlp
  repeat' (first | with_reducible rfl | (simp only [apart_State_emit, apart_State_stage3, apart_State_tileTlp, apart_State_used, apart_State_cntr, apply_ite State.apart, apply_ite Prod.fst, ite_self, implies_true, eq_self, apart_foldl, apart_each, apart_when, apart_State_emit, apart_State_used]; done) | (simp only [apart_State_emit, apart_State_stage3, apart_State_tileTlp, apart_State_used, apart_State_cntr, apply_ite State.apart, apply_ite Prod.fst, ite_self, implies_true, eq_self, apart_foldl, apart_each, apart_when, apart_State_emit, apart_State_used]) | split | (refine (apart_each _ _ _ (fun x t => ?_)).trans ?_) | (refine (apart_when _ _ _ (fun t => ?_)).trans ?_) | (refine (apart_foldl _ _ _ (fun t x => ?_)).trans ?_) | (rename_i h; refine (congrArg (fun x => State.apart (Prod.fst x)) h).symm.trans ?_; simp only [apart_State_emit, apart_State_stage3, apart_State_tileTlp, apart_State_used, apart_State_cntr, apply_ite State.apart, apply_ite Prod.fst, ite_self, implies_true, eq_self, apart_foldl, apart_each, apart_when, apart_State_emit, apart_State_used]; done) | (refine (apart_foldFst _ _ _ (fun x k => ?_)).trans ?_) | intro x)

theorem apart_State_ideFail (a1) (a2) (s : State) : (State.ideFail a1 a2 s).apart = s.apart := by
  unfold State.ideFail
  simp only [apart_State_streamDown, apart_State_count, eq_self]

theorem apart_State_rxCpl (a1) (a2) (s : State) : (State.rxCpl a1 a2 s).apart = s.apart := by
  unfold State.rxCpl
  simp only [apart_State_modHst, apart_State_emit, apply_ite State.apart, ite_self, eq_self, apart_State_emit]

theorem apart_State_rxReq (a1) (a2) (a3) (s : State) : (State.rxReq a1 a2 a3 s).apart = s.apart := by
  unfold State.rxReq
  simp only [apart_State_emit, apart_State_modTdi, apply_ite State.apart, ite_self, eq_self, apart_State_emit]

theorem apart_State_tileFree (a1) (a2) (s : State) : (State.tileFree a1 a2 s).apart = s.apart := by
  unfold State.tileFree
  simp only [apart_State_trace, apart_State_modTile, eq_self]

theorem apart_State_tileClosed (a1) (a2) (s : State) : (State.tileClosed a1 a2 s).apart = s.apart := by
  unfold State.tileClosed
  simp only [apart_State_tileFree, apply_ite State.apart, ite_self, eq_self]

theorem apart_State_wasHeld (a1) (a2) (s : State) : (State.wasHeld a1 a2 s).apart = s.apart := by
  unfold State.wasHeld
  simp only [apart_State_cntr, eq_self]

theorem apart_State_freeFabric (a1) (s : State) : (State.freeFabric a1 s).apart = s.apart := by
  unfold State.freeFabric
  simp only [apart_State_modPort, apart_each, apart_State_wasHeld, implies_true, eq_self, apart_each]

theorem apart_State_freeTlp (a1) (a2) (s : State) : (State.freeTlp a1 a2 s).apart = s.apart := by
  unfold State.freeTlp
  repeat' (first | with_reducible rfl | (simp only [apart_State_modHst, apart_when, apart_State_wasHeld, apart_State_stage4, apart_State_tileClosed, apply_ite State.apart, apply_ite Prod.fst, ite_self, implies_true, eq_self, apart_foldl, apart_each, apart_when, apart_State_emit, apart_State_used]; done) | (simp only [apart_State_modHst, apart_when, apart_State_wasHeld, apart_State_stage4, apart_State_tileClosed, apply_ite State.apart, apply_ite Prod.fst, ite_self, implies_true, eq_self, apart_foldl, apart_each, apart_when, apart_State_emit, apart_State_used]) | split | (refine (apart_each _ _ _ (fun x t => ?_)).trans ?_) | (refine (apart_when _ _ _ (fun t => ?_)).trans ?_) | (refine (apart_foldl _ _ _ (fun t x => ?_)).trans ?_) | (rename_i h; refine (congrArg (fun x => State.apart (Prod.fst x)) h).symm.trans ?_; simp only [apart_State_modHst, apart_when, apart_State_wasHeld, apart_State_stage4, apart_State_tileClosed, apply_ite State.apart, apply_ite Prod.fst, ite_self, implies_true, eq_self, apart_foldl, apart_each, apart_when, apart_State_emit, apart_State_used]; done) | (refine (apart_foldFst _ _ _ (fun x k => ?_)).trans ?_) | intro x)

theorem apart_State_freeHost (a1) (s : State) : (State.freeHost a1 s).apart = s.apart := by
  unfold State.freeHost
  repeat' (first | with_reducible rfl | (simp only [apart_State_freeTlp, apply_ite State.apart, apply_ite Prod.fst, ite_self, implies_true, eq_self, apart_foldl, apart_each, apart_when, apart_State_emit, apart_State_used]; done) | (simp only [apart_State_freeTlp, apply_ite State.apart, apply_ite Prod.fst, ite_self, implies_true, eq_self, apart_foldl, apart_each, apart_when, apart_State_emit, apart_State_used]) | split | (refine (apart_each _ _ _ (fun x t => ?_)).trans ?_) | (refine (apart_when _ _ _ (fun t => ?_)).trans ?_) | (refine (apart_foldl _ _ _ (fun t x => ?_)).trans ?_) | (rename_i h; refine (congrArg (fun x => State.apart (Prod.fst x)) h).symm.trans ?_; simp only [apart_State_freeTlp, apply_ite State.apart, apply_ite Prod.fst, ite_self, implies_true, eq_self, apart_foldl, apart_each, apart_when, apart_State_emit, apart_State_used]; done) | (refine (apart_foldFst _ _ _ (fun x k => ?_)).trans ?_) | intro x)

theorem apart_State_freeNorth (a1) (s : State) : (State.freeNorth a1 s).apart = s.apart := by
  unfold State.freeNorth
  simp only [apart_State_modSg, apart_each, apart_State_msWrite, apart_State_wasHeld, implies_true, eq_self, apart_each]

theorem apart_State_freeTrace (s : State) : (State.freeTrace s).apart = s.apart := by
  unfold State.freeTrace
  repeat' (first | with_reducible rfl | (simp only [apart_each, apart_State_writeRing, apart_State_wasHeld, apply_ite State.apart, apply_ite Prod.fst, ite_self, implies_true, eq_self, apart_foldl, apart_each, apart_when, apart_State_emit, apart_State_used]; done) | (simp only [apart_each, apart_State_writeRing, apart_State_wasHeld, apply_ite State.apart, apply_ite Prod.fst, ite_self, implies_true, eq_self, apart_foldl, apart_each, apart_when, apart_State_emit, apart_State_used]) | split | (refine (apart_each _ _ _ (fun x t => ?_)).trans ?_) | (refine (apart_when _ _ _ (fun t => ?_)).trans ?_) | (refine (apart_foldl _ _ _ (fun t x => ?_)).trans ?_) | (rename_i h; refine (congrArg (fun x => State.apart (Prod.fst x)) h).symm.trans ?_; simp only [apart_each, apart_State_writeRing, apart_State_wasHeld, apply_ite State.apart, apply_ite Prod.fst, ite_self, implies_true, eq_self, apart_foldl, apart_each, apart_when, apart_State_emit, apart_State_used]; done) | (refine (apart_foldFst _ _ _ (fun x k => ?_)).trans ?_) | intro x)

theorem apart_State_bellRefuse (a1) (a2) (a3) (a4) (a5) (s : State) : (State.bellRefuse a1 a2 a3 a4 a5 s).apart = s.apart := by
  unfold State.bellRefuse
  simp only [apart_State_modCmd, apart_State_glob, apart_State_flag, apply_ite State.apart, ite_self, eq_self]

theorem apart_State_bell (a1) (a2) (a3) (a4) (a5) (a6) (s : State) : (State.bell a1 a2 a3 a4 a5 a6 s).apart = s.apart := by
  unfold State.bell
  simp only [apart_State_bellRefuse, apart_State_modQueue, apart_State_touchCtx, apply_ite State.apart, ite_self, eq_self]

theorem apart_State_hostQueueOpen (a1) (s : State) : (State.hostQueueOpen a1 s).apart = s.apart := by
  unfold State.hostQueueOpen
  simp only [apart_State_flag, apart_State_modQueue, apply_ite State.apart, ite_self, eq_self]

theorem apart_State_destroyQueue (a1) (a2) (s : State) : (State.destroyQueue a1 a2 s).apart = s.apart := by
  unfold State.destroyQueue
  repeat' (first | with_reducible rfl | (simp only [apart_State_used, apart_State_modQueue, apart_State_reapQueue, apply_ite State.apart, apply_ite Prod.fst, ite_self, implies_true, eq_self, apart_foldl, apart_each, apart_when, apart_State_emit, apart_State_used, apart_finishing]; done) | (simp only [apart_State_used, apart_State_modQueue, apart_State_reapQueue, apply_ite State.apart, apply_ite Prod.fst, ite_self, implies_true, eq_self, apart_foldl, apart_each, apart_when, apart_State_emit, apart_State_used, apart_finishing]) | split | (refine (apart_each _ _ _ (fun x t => ?_)).trans ?_) | (refine (apart_when _ _ _ (fun t => ?_)).trans ?_) | (refine (apart_foldl _ _ _ (fun t x => ?_)).trans ?_) | (rename_i h; refine (congrArg (fun x => State.apart (Prod.fst x)) h).symm.trans ?_; simp only [apart_State_used, apart_State_modQueue, apart_State_reapQueue, apply_ite State.apart, apply_ite Prod.fst, ite_self, implies_true, eq_self, apart_foldl, apart_each, apart_when, apart_State_emit, apart_State_used, apart_finishing]; done) | (refine (apart_foldFst _ _ _ (fun x k => ?_)).trans ?_) | intro x)

theorem apart_State_hostQueueClose (a1) (s : State) : (State.hostQueueClose a1 s).apart = s.apart := by
  unfold State.hostQueueClose
  simp only [apart_State_destroyQueue, apply_ite State.apart, ite_self, eq_self]

theorem apart_State_ownRegion (a1) (a2) (s : State) : (State.ownRegion a1 a2 s).apart = s.apart := by
  unfold State.ownRegion
  simp only [apart_State_setAnchor, apart_State_modSg, apart_State_dropRegion, eq_self]

theorem apart_State_clearWays (a1) (a2) (s : State) : (State.clearWays a1 a2 s).apart = s.apart := by
  unfold State.clearWays
  simp only [apart_State_modKey, apart_State_modSg, eq_self]

theorem apart_State_putShare (a1) (a2) (s : State) : (State.putShare a1 a2 s).apart = s.apart := by
  unfold State.putShare
  repeat' (first | with_reducible rfl | (simp only [apart_State_modShare, apart_each, apart_State_clearWays, apply_ite State.apart, apply_ite Prod.fst, ite_self, implies_true, eq_self, apart_foldl, apart_each, apart_when, apart_State_emit, apart_State_used]; done) | (simp only [apart_State_modShare, apart_each, apart_State_clearWays, apply_ite State.apart, apply_ite Prod.fst, ite_self, implies_true, eq_self, apart_foldl, apart_each, apart_when, apart_State_emit, apart_State_used]) | split | (refine (apart_each _ _ _ (fun x t => ?_)).trans ?_) | (refine (apart_when _ _ _ (fun t => ?_)).trans ?_) | (refine (apart_foldl _ _ _ (fun t x => ?_)).trans ?_) | (rename_i h; refine (congrArg (fun x => State.apart (Prod.fst x)) h).symm.trans ?_; simp only [apart_State_modShare, apart_each, apart_State_clearWays, apply_ite State.apart, apply_ite Prod.fst, ite_self, implies_true, eq_self, apart_foldl, apart_each, apart_when, apart_State_emit, apart_State_used]; done) | (refine (apart_foldFst _ _ _ (fun x k => ?_)).trans ?_) | intro x)

theorem apart_State_dropShare (a1) (s : State) : (State.dropShare a1 s).apart = s.apart := by
  unfold State.dropShare
  repeat' (first | with_reducible rfl | (simp only [apart_State_modShare, apart_each, apply_ite State.apart, apply_ite Prod.fst, ite_self, implies_true, eq_self, apart_foldl, apart_each, apart_when, apart_State_emit, apart_State_used]; done) | (simp only [apart_State_modShare, apart_each, apply_ite State.apart, apply_ite Prod.fst, ite_self, implies_true, eq_self, apart_foldl, apart_each, apart_when, apart_State_emit, apart_State_used]) | split | (refine (apart_each _ _ _ (fun x t => ?_)).trans ?_) | (refine (apart_when _ _ _ (fun t => ?_)).trans ?_) | (refine (apart_foldl _ _ _ (fun t x => ?_)).trans ?_) | (rename_i h; refine (congrArg (fun x => State.apart (Prod.fst x)) h).symm.trans ?_; simp only [apart_State_modShare, apart_each, apply_ite State.apart, apply_ite Prod.fst, ite_self, implies_true, eq_self, apart_foldl, apart_each, apart_when, apart_State_emit, apart_State_used]; done) | (refine (apart_foldFst _ _ _ (fun x k => ?_)).trans ?_) | intro x)

theorem apart_State_newTables (a1) (a2) (s : State) : (State.newTables a1 a2 s).1.apart = s.apart := by
  unfold State.newTables
  simp only [apart_State_modObju, apart_State_modObj, apart_State_writeObj, apart_State_bindPlots, eq_self]

theorem apart_State_spdm (a1) (a2) (a3) (s : State) (ha3 : ∀ t, State.apart (a3 t) = t.apart) : (State.spdm a1 a2 a3 s).apart = s.apart := by
  unfold State.spdm
  simp only [apart_State_respond, ha3, apply_ite State.apart, ite_self, eq_self]

theorem apart_State_aliasSigned (a1) (a2) (a3) (s : State) : (State.aliasSigned a1 a2 a3 s).apart = s.apart := by
  unfold State.aliasSigned
  simp only [apart_State_pkeAdd, apart_State_respond, apply_ite State.apart, ite_self, eq_self]

theorem apart_State_abandonAsk (a1) (s : State) : (State.abandonAsk a1 s).apart = s.apart := by
  unfold State.abandonAsk
  repeat' (first | with_reducible rfl | (simp only [apart_State_modSess, apart_State_retireAll, apply_ite State.apart, apply_ite Prod.fst, ite_self, implies_true, eq_self, apart_foldl, apart_each, apart_when, apart_State_emit, apart_State_used]; done) | (simp only [apart_State_modSess, apart_State_retireAll, apply_ite State.apart, apply_ite Prod.fst, ite_self, implies_true, eq_self, apart_foldl, apart_each, apart_when, apart_State_emit, apart_State_used]) | split | (refine (apart_each _ _ _ (fun x t => ?_)).trans ?_) | (refine (apart_when _ _ _ (fun t => ?_)).trans ?_) | (refine (apart_foldl _ _ _ (fun t x => ?_)).trans ?_) | (rename_i h; refine (congrArg (fun x => State.apart (Prod.fst x)) h).symm.trans ?_; simp only [apart_State_modSess, apart_State_retireAll, apply_ite State.apart, apply_ite Prod.fst, ite_self, implies_true, eq_self, apart_foldl, apart_each, apart_when, apart_State_emit, apart_State_used]; done) | (refine (apart_foldFst _ _ _ (fun x k => ?_)).trans ?_) | intro x)

theorem apart_State_sessionSecrets (a1) (s : State) : (State.sessionSecrets a1 s).1.apart = s.apart := by
  unfold State.sessionSecrets
  repeat' (first | with_reducible rfl | (simp only [apart_State_renew, apart_State_used, apply_ite State.apart, apply_ite Prod.fst, ite_self, implies_true, eq_self, apart_foldl, apart_each, apart_when, apart_State_emit, apart_State_used]; done) | (simp only [apart_State_renew, apart_State_used, apply_ite State.apart, apply_ite Prod.fst, ite_self, implies_true, eq_self, apart_foldl, apart_each, apart_when, apart_State_emit, apart_State_used]) | split | (refine (apart_each _ _ _ (fun x t => ?_)).trans ?_) | (refine (apart_when _ _ _ (fun t => ?_)).trans ?_) | (refine (apart_foldl _ _ _ (fun t x => ?_)).trans ?_) | (rename_i h; refine (congrArg (fun x => State.apart (Prod.fst x)) h).symm.trans ?_; simp only [apart_State_renew, apart_State_used, apply_ite State.apart, apply_ite Prod.fst, ite_self, implies_true, eq_self, apart_foldl, apart_each, apart_when, apart_State_emit, apart_State_used]; done) | (refine (apart_foldFst _ _ _ (fun x k => ?_)).trans ?_) | intro x)

theorem apart_State_applyCarriage (a1) (a2) (a3) (s : State) : (State.applyCarriage a1 a2 a3 s).apart = s.apart := by
  unfold State.applyCarriage
  simp only [apart_State_modPort, apply_ite State.apart, ite_self, eq_self]

theorem apart_takeSlots (p) (n) (s : State) : (takeSlots p n s).1.apart = s.apart := by
  induction n generalizing s with
  | zero => rfl
  | succ n ih =>
    unfold takeSlots
    split
    · simp only []
      exact (ih _).trans (apart_State_fill ..)
    · rfl

theorem apart_State_bindDone (a1) (a2) (a3) (a4) (a5) (s : State) : (State.bindDone a1 a2 a3 a4 a5 s).apart = s.apart := by
  unfold State.bindDone
  simp only [apart_each, apart_State_settleSlot, apart_State_used, apart_State_fill, apart_State_modCmd, apart_State_modSess, apart_State_retireAll, apart_State_enqueue, apart_State_respond, apart_State_traceSess, apply_ite State.apart, ite_self, implies_true, eq_self, apart_each, apart_State_used]

theorem apart_State_mctp (a1) (a2) (s : State) : (State.mctp a1 a2 s).apart = s.apart := by
  unfold State.mctp
  simp only [apart_State_emit, apply_ite State.apart, ite_self, eq_self, apart_State_emit]

theorem apart_State_drawSeed (a1) (s : State) : (State.drawSeed a1 s).apart = s.apart := by
  unfold State.drawSeed
  simp only [apart_State_drawnPr, apart_State_fill, eq_self]

theorem apart_State_encaps (a1) (a2) (s : State) : (State.encaps a1 a2 s).1.apart = s.apart := by
  unfold State.encaps
  simp only [apart_State_used, apart_State_fill, apart_State_drawn, eq_self, apart_State_used]

theorem apart_State_pkeRun (j) (op) (s : State) : (State.pkeRun j op s).1.apart = s.apart := by
  unfold State.pkeRun
  repeat' (first | with_reducible rfl | split)
  · rename_i t sid _ _; show ((s.session _ _).elim s _).apart = _; cases s.session _ _
    · rfl
    · exact apart_State_drawSeed ..
  · exact apart_each _ _ _ fun _ _ => apart_State_drawSeed ..
  · rename_i h; exact (congrArg (fun x => State.apart (Prod.fst x)) h).symm.trans (apart_State_encaps ..)
  · exact apart_State_drawnPr ..
  · exact apart_State_drawn ..

theorem apart_State_publish (a1) (s : State) : (State.publish a1 s).apart = s.apart := by
  unfold State.publish
  simp only [apart_State_modObs, apart_State_used, apart_State_trace, apply_ite State.apart, ite_self, eq_self, apart_State_used]

theorem apart_State_mark (a1) (a2) (a3) (a4) (s : State) : (State.mark a1 a2 a3 a4 s).apart = s.apart := by
  unfold State.mark
  simp only [apart_State_trace, apart_State_modCtx, apart_State_flag, apply_ite State.apart, ite_self, eq_self]

theorem apart_State_flushPress (s : State) : (State.flushPress s).apart = s.apart := by
  unfold State.flushPress
  simp only [apart_State_emit, apart_State_modObs, apply_ite State.apart, ite_self, eq_self, apart_State_emit]

theorem apart_State_resaltPort (a1) (s : State) : (State.resaltPort a1 s).apart = s.apart := by
  unfold State.resaltPort
  simp only [apart_State_modPort, apart_State_saltKeys, apart_State_glob, apply_ite State.apart, ite_self, eq_self]

theorem apart_State_wakeStopped (a1) (s : State) : (State.wakeStopped a1 s).apart = s.apart := by
  unfold State.wakeStopped
  simp only [apart_each, apart_State_wake, implies_true, eq_self, apart_each, apart_finishing]

theorem apart_State_markHeld (a1) (s : State) : (State.markHeld a1 s).apart = s.apart := by
  unfold State.markHeld
  simp only [apart_State_modLnk, eq_self]

theorem apart_State_sweepLine (a1) (a2) (s : State) : (State.sweepLine a1 a2 s).apart = s.apart := by
  unfold State.sweepLine
  simp only [apart_State_glob, apart_State_msWrite, eq_self]

theorem apart_State_resealTo (a1) (a2) (a3) (a4) (a5) (s : State) : (State.resealTo a1 a2 a3 a4 a5 s).apart = s.apart := by
  unfold State.resealTo
  repeat' (first | with_reducible rfl | (simp only [apart_State_modSg, apart_State_dropRegion, apart_each, apart_State_glob, apart_State_msWrite, apart_State_sweepLine, apart_State_setAnchor, apply_ite State.apart, apply_ite Prod.fst, ite_self, implies_true, eq_self, apart_foldl, apart_each, apart_when, apart_State_emit, apart_State_used]; done) | (simp only [apart_State_modSg, apart_State_dropRegion, apart_each, apart_State_glob, apart_State_msWrite, apart_State_sweepLine, apart_State_setAnchor, apply_ite State.apart, apply_ite Prod.fst, ite_self, implies_true, eq_self, apart_foldl, apart_each, apart_when, apart_State_emit, apart_State_used]) | split | (refine (apart_each _ _ _ (fun x t => ?_)).trans ?_) | (refine (apart_when _ _ _ (fun t => ?_)).trans ?_) | (refine (apart_foldl _ _ _ (fun t x => ?_)).trans ?_) | (rename_i h; refine (congrArg (fun x => State.apart (Prod.fst x)) h).symm.trans ?_; simp only [apart_State_modSg, apart_State_dropRegion, apart_each, apart_State_glob, apart_State_msWrite, apart_State_sweepLine, apart_State_setAnchor, apply_ite State.apart, apply_ite Prod.fst, ite_self, implies_true, eq_self, apart_foldl, apart_each, apart_when, apart_State_emit, apart_State_used]; done) | (refine (apart_foldFst _ _ _ (fun x k => ?_)).trans ?_) | intro x)

theorem apart_State_zeroRegion (a1) (a2) (a3) (s : State) : (State.zeroRegion a1 a2 a3 s).apart = s.apart := by
  unfold State.zeroRegion
  repeat' (first | with_reducible rfl | (simp only [apart_State_setAnchor, apart_State_resealTo, apply_ite State.apart, apply_ite Prod.fst, ite_self, implies_true, eq_self, apart_foldl, apart_each, apart_when, apart_State_emit, apart_State_used]; done) | (simp only [apart_State_setAnchor, apart_State_resealTo, apply_ite State.apart, apply_ite Prod.fst, ite_self, implies_true, eq_self, apart_foldl, apart_each, apart_when, apart_State_emit, apart_State_used]) | split | (refine (apart_each _ _ _ (fun x t => ?_)).trans ?_) | (refine (apart_when _ _ _ (fun t => ?_)).trans ?_) | (refine (apart_foldl _ _ _ (fun t x => ?_)).trans ?_) | (rename_i h; refine (congrArg (fun x => State.apart (Prod.fst x)) h).symm.trans ?_; simp only [apart_State_setAnchor, apart_State_resealTo, apply_ite State.apart, apply_ite Prod.fst, ite_self, implies_true, eq_self, apart_foldl, apart_each, apart_when, apart_State_emit, apart_State_used]; done) | (refine (apart_foldFst _ _ _ (fun x k => ?_)).trans ?_) | intro x)

theorem apart_State_scrubCmds (a1) (s : State) : (State.scrubCmds a1 s).apart = s.apart := by
  unfold State.scrubCmds
  simp only [apart_State_modObju, apart_State_modKey, apart_State_complete, eq_self]

theorem apart_State_scrubAnchors (a1) (s : State) : (State.scrubAnchors a1 s).apart = s.apart := by
  unfold State.scrubAnchors
  simp only [apart_each, apart_State_setAnchor, apart_State_finishRetire, apart_State_retire, apart_State_modSg, apart_State_modObju, implies_true, eq_self, apart_each]

theorem apart_State_sendPwr (s : State) : (State.sendPwr s).apart = s.apart := by
  unfold State.sendPwr
  repeat' (first | with_reducible rfl | (simp only [apart_State_emit, apply_ite State.apart, apply_ite Prod.fst, ite_self, implies_true, eq_self, apart_foldl, apart_each, apart_when, apart_State_emit, apart_State_used]; done) | (simp only [apart_State_emit, apply_ite State.apart, apply_ite Prod.fst, ite_self, implies_true, eq_self, apart_foldl, apart_each, apart_when, apart_State_emit, apart_State_used]) | split | (refine (apart_each _ _ _ (fun x t => ?_)).trans ?_) | (refine (apart_when _ _ _ (fun t => ?_)).trans ?_) | (refine (apart_foldl _ _ _ (fun t x => ?_)).trans ?_) | (rename_i h; refine (congrArg (fun x => State.apart (Prod.fst x)) h).symm.trans ?_; simp only [apart_State_emit, apply_ite State.apart, apply_ite Prod.fst, ite_self, implies_true, eq_self, apart_foldl, apart_each, apart_when, apart_State_emit, apart_State_used]; done) | (refine (apart_foldFst _ _ _ (fun x k => ?_)).trans ?_) | intro x)

theorem apart_State_cutBurn (s : State) : (State.cutBurn s).apart = s.apart := by
  unfold State.cutBurn
  repeat' (first | with_reducible rfl | (simp only [apart_State_used, apart_State_burn, apply_ite State.apart, apply_ite Prod.fst, ite_self, implies_true, eq_self, apart_foldl, apart_each, apart_when, apart_State_emit, apart_State_used]; done) | (simp only [apart_State_used, apart_State_burn, apply_ite State.apart, apply_ite Prod.fst, ite_self, implies_true, eq_self, apart_foldl, apart_each, apart_when, apart_State_emit, apart_State_used]) | split | (refine (apart_each _ _ _ (fun x t => ?_)).trans ?_) | (refine (apart_when _ _ _ (fun t => ?_)).trans ?_) | (refine (apart_foldl _ _ _ (fun t x => ?_)).trans ?_) | (rename_i h; refine (congrArg (fun x => State.apart (Prod.fst x)) h).symm.trans ?_; simp only [apart_State_used, apart_State_burn, apply_ite State.apart, apply_ite Prod.fst, ite_self, implies_true, eq_self, apart_foldl, apart_each, apart_when, apart_State_emit, apart_State_used]; done) | (refine (apart_foldFst _ _ _ (fun x k => ?_)).trans ?_) | intro x)

theorem apart_State_pressGoOn (s : State) : (State.pressGoOn s).apart = s.apart := by
  unfold State.pressGoOn
  repeat' (first | with_reducible rfl | (simp only [apart_State_modObs, apply_ite State.apart, apply_ite Prod.fst, ite_self, implies_true, eq_self, apart_foldl, apart_each, apart_when, apart_State_emit, apart_State_used]; done) | (simp only [apart_State_modObs, apply_ite State.apart, apply_ite Prod.fst, ite_self, implies_true, eq_self, apart_foldl, apart_each, apart_when, apart_State_emit, apart_State_used]) | split | (refine (apart_each _ _ _ (fun x t => ?_)).trans ?_) | (refine (apart_when _ _ _ (fun t => ?_)).trans ?_) | (refine (apart_foldl _ _ _ (fun t x => ?_)).trans ?_) | (rename_i h; refine (congrArg (fun x => State.apart (Prod.fst x)) h).symm.trans ?_; simp only [apart_State_modObs, apply_ite State.apart, apply_ite Prod.fst, ite_self, implies_true, eq_self, apart_foldl, apart_each, apart_when, apart_State_emit, apart_State_used]; done) | (refine (apart_foldFst _ _ _ (fun x k => ?_)).trans ?_) | intro x)

theorem apart_State_coreWrite (a1) (a2) (s : State) (ha2 : ∀ t, State.apart (a2 t) = t.apart) : (State.coreWrite a1 a2 s).apart = s.apart := by
  unfold State.coreWrite
  simp only [apart_State_ctlWrite, ha2, apply_ite State.apart, ite_self, implies_true, eq_self]

theorem apart_State_badOpcode (a1) (a2) (s : State) : (State.badOpcode a1 a2 s).apart = s.apart := by
  unfold State.badOpcode
  simp only [apart_State_takePacket, apart_State_refuse, apart_State_reserve, apply_ite State.apart, ite_self, eq_self]

theorem apart_State_badRecord (a1) (a2) (a3) (a4) (s : State) : (State.badRecord a1 a2 a3 a4 s).apart = s.apart := by
  unfold State.badRecord
  simp only [apart_State_emit, apart_State_cntr, apply_ite State.apart, ite_self, eq_self, apart_State_emit]

theorem apart_State_plainWrite (a1) (a2) (s : State) : (State.plainWrite a1 a2 s).apart = s.apart := by
  unfold State.plainWrite
  repeat' (first | with_reducible rfl | (simp only [apart_State_setReg, apart_State_modRegf, apart_State_flag, apply_ite State.apart, apply_ite Prod.fst, ite_self, implies_true, eq_self, apart_foldl, apart_each, apart_when, apart_State_emit, apart_State_used]; done) | (simp only [apart_State_setReg, apart_State_modRegf, apart_State_flag, apply_ite State.apart, apply_ite Prod.fst, ite_self, implies_true, eq_self, apart_foldl, apart_each, apart_when, apart_State_emit, apart_State_used]) | split | (refine (apart_each _ _ _ (fun x t => ?_)).trans ?_) | (refine (apart_when _ _ _ (fun t => ?_)).trans ?_) | (refine (apart_foldl _ _ _ (fun t x => ?_)).trans ?_) | (rename_i h; refine (congrArg (fun x => State.apart (Prod.fst x)) h).symm.trans ?_; simp only [apart_State_setReg, apart_State_modRegf, apart_State_flag, apply_ite State.apart, apply_ite Prod.fst, ite_self, implies_true, eq_self, apart_foldl, apart_each, apart_when, apart_State_emit, apart_State_used]; done) | (refine (apart_foldFst _ _ _ (fun x k => ?_)).trans ?_) | intro x)

theorem apart_State_traceWrite (a1) (a2) (a3) (s : State) : (State.traceWrite a1 a2 a3 s).apart = s.apart := by
  unfold State.traceWrite
  repeat' (first | with_reducible rfl | (simp only [apart_State_modObs, apply_ite State.apart, apply_ite Prod.fst, ite_self, implies_true, eq_self, apart_foldl, apart_each, apart_when, apart_State_emit, apart_State_used]; done) | (simp only [apart_State_modObs, apply_ite State.apart, apply_ite Prod.fst, ite_self, implies_true, eq_self, apart_foldl, apart_each, apart_when, apart_State_emit, apart_State_used]) | split | (refine (apart_each _ _ _ (fun x t => ?_)).trans ?_) | (refine (apart_when _ _ _ (fun t => ?_)).trans ?_) | (refine (apart_foldl _ _ _ (fun t x => ?_)).trans ?_) | (rename_i h; refine (congrArg (fun x => State.apart (Prod.fst x)) h).symm.trans ?_; simp only [apart_State_modObs, apply_ite State.apart, apply_ite Prod.fst, ite_self, implies_true, eq_self, apart_foldl, apart_each, apart_when, apart_State_emit, apart_State_used]; done) | (refine (apart_foldFst _ _ _ (fun x k => ?_)).trans ?_) | intro x)

theorem apart_State_hqCfgWrite (a1) (a2) (s : State) : (State.hqCfgWrite a1 a2 s).apart = s.apart := by
  unfold State.hqCfgWrite
  simp only [apart_State_plainWrite, apart_State_hostQueueOpen, apart_State_hostQueueClose, apply_ite State.apart, ite_self, eq_self]

theorem apart_State_takeHeld (a1) (a2) (s : State) : (State.takeHeld a1 a2 s).1.apart = s.apart := by
  unfold State.takeHeld
  simp only [apart_State_modRegf, eq_self]

theorem apart_State_holdLo (a1) (a2) (a3) (s : State) : (State.holdLo a1 a2 a3 s).1.apart = s.apart := by
  unfold State.holdLo
  simp only [apart_State_flag, apart_State_takeHeld, apart_State_modRegf, apply_ite State.apart, apply_ite Prod.fst, ite_self, eq_self]

theorem apart_State_tickPort (a1) (s : State) : (State.tickPort a1 s).apart = s.apart := by
  unfold State.tickPort
  simp only [apart_State_modPort, eq_self]

theorem apart_execObjAlloc (a1) (a2) (a3) (s : State) : ∀ t, execObjAlloc a1 a2 a3 s = .next t → t.apart = s.apart := by
  intro t h; unfold execObjAlloc at h
  rcases h
  repeat' (first | with_reducible rfl | (simp only [apart_State_admitCmd, apart_State_alloc, apart_State_ok, apart_State_endsWith, apply_ite State.apart, apply_ite Prod.fst, ite_self, implies_true, eq_self, apart_foldl, apart_each, apart_when, apart_State_emit, apart_State_used]; done) | (simp only [apart_State_admitCmd, apart_State_alloc, apart_State_ok, apart_State_endsWith, apply_ite State.apart, apply_ite Prod.fst, ite_self, implies_true, eq_self, apart_foldl, apart_each, apart_when, apart_State_emit, apart_State_used]) | split | (refine (apart_each _ _ _ (fun x t => ?_)).trans ?_) | (refine (apart_when _ _ _ (fun t => ?_)).trans ?_) | (refine (apart_foldl _ _ _ (fun t x => ?_)).trans ?_) | (rename_i h; refine (congrArg (fun x => State.apart (Prod.fst x)) h).symm.trans ?_; simp only [apart_State_admitCmd, apart_State_alloc, apart_State_ok, apart_State_endsWith, apply_ite State.apart, apply_ite Prod.fst, ite_self, implies_true, eq_self, apart_foldl, apart_each, apart_when, apart_State_emit, apart_State_used]; done) | (refine (apart_State_admitCmd _ _ _ _ _ (fun y0 t => ?_)).trans ?_) | intro x)

theorem apart_execObjFree (a1) (a2) (a3) (s : State) : ∀ t, execObjFree a1 a2 a3 s = .next t → t.apart = s.apart := by
  intro t h; unfold execObjFree at h
  rcases h
  simp only [apart_State_admitCmd, apart_State_modObj, implies_true, eq_self]

theorem apart_execFreeRetire (a1) (a2) (s : State) : ∀ t, execFreeRetire a1 a2 s = .next t → t.apart = s.apart := by
  intro t h; unfold execFreeRetire at h
  rcases h
  simp only [apart_State_retireObj, apply_ite State.apart, ite_self, eq_self]

theorem apart_execObjQuery (a1) (a2) (a3) (s : State) : ∀ t, execObjQuery a1 a2 a3 s = .next t → t.apart = s.apart := by
  intro t h; unfold execObjQuery at h
  rcases h
  simp only [apart_State_admitCmd, apart_State_ok, implies_true, eq_self]

theorem apart_execAllocDoorbell (a1) (a2) (a3) (a4) (a5) (s : State) : ∀ t, execAllocDoorbell a1 a2 a3 a4 a5 s = .next t → t.apart = s.apart := by
  intro t h; unfold execAllocDoorbell at h
  rcases h
  simp only [apart_State_portWrite, apart_State_adbSubmit, implies_true, eq_self]

theorem apart_execAllocDoorbellDone (a1) (a2) (s : State) : ∀ t, execAllocDoorbellDone a1 a2 s = .next t → t.apart = s.apart := by
  intro t h; unfold execAllocDoorbellDone at h
  rcases h
  repeat' (first | with_reducible rfl | (simp only [apart_State_setAdb, apart_State_alloc, apply_ite State.apart, apply_ite Prod.fst, ite_self, implies_true, eq_self, apart_foldl, apart_each, apart_when, apart_State_emit, apart_State_used]; done) | (simp only [apart_State_setAdb, apart_State_alloc, apply_ite State.apart, apply_ite Prod.fst, ite_self, implies_true, eq_self, apart_foldl, apart_each, apart_when, apart_State_emit, apart_State_used]) | split | (refine (apart_each _ _ _ (fun x t => ?_)).trans ?_) | (refine (apart_when _ _ _ (fun t => ?_)).trans ?_) | (refine (apart_foldl _ _ _ (fun t x => ?_)).trans ?_) | (rename_i h; refine (congrArg (fun x => State.apart (Prod.fst x)) h).symm.trans ?_; simp only [apart_State_setAdb, apart_State_alloc, apply_ite State.apart, apply_ite Prod.fst, ite_self, implies_true, eq_self, apart_foldl, apart_each, apart_when, apart_State_emit, apart_State_used]; done) | intro x)

theorem apart_execContextRestore (a1) (s : State) : ∀ t, execContextRestore a1 s = .next t → t.apart = s.apart := by
  intro t h; unfold execContextRestore at h
  rcases h
  simp only [apart_State_makeRoom, apart_State_innerRead, apart_State_touchCtx, apart_State_modCtx, apart_each, apart_State_faultTo, apart_State_modObju, apply_ite State.apart, apply_ite Prod.fst, ite_self, implies_true, eq_self, apart_each]

theorem apart_execCtxCreate (a1) (a2) (a3) (a4) (s : State) : ∀ t, execCtxCreate a1 a2 a3 a4 s = .next t → t.apart = s.apart := by
  intro t h; unfold execCtxCreate at h
  rcases h
  repeat' (first | with_reducible rfl | (simp only [apart_State_admitCmd, apart_State_makeRoom, apart_State_ok, apart_State_touchCtx, apart_State_modCtx, apart_State_alloc, apart_State_endsWith, apply_ite State.apart, apply_ite Prod.fst, ite_self, implies_true, eq_self, apart_foldl, apart_each, apart_when, apart_State_emit, apart_State_used]; done) | (simp only [apart_State_admitCmd, apart_State_makeRoom, apart_State_ok, apart_State_touchCtx, apart_State_modCtx, apart_State_alloc, apart_State_endsWith, apply_ite State.apart, apply_ite Prod.fst, ite_self, implies_true, eq_self, apart_foldl, apart_each, apart_when, apart_State_emit, apart_State_used]) | split | (refine (apart_each _ _ _ (fun x t => ?_)).trans ?_) | (refine (apart_when _ _ _ (fun t => ?_)).trans ?_) | (refine (apart_foldl _ _ _ (fun t x => ?_)).trans ?_) | (rename_i h; refine (congrArg (fun x => State.apart (Prod.fst x)) h).symm.trans ?_; simp only [apart_State_admitCmd, apart_State_makeRoom, apart_State_ok, apart_State_touchCtx, apart_State_modCtx, apart_State_alloc, apart_State_endsWith, apply_ite State.apart, apply_ite Prod.fst, ite_self, implies_true, eq_self, apart_foldl, apart_each, apart_when, apart_State_emit, apart_State_used]; done) | (refine (apart_State_admitCmd _ _ _ _ _ (fun y0 t => ?_)).trans ?_) | intro x)

theorem apart_execFenceCreate (a1) (a2) (s : State) : ∀ t, execFenceCreate a1 a2 s = .next t → t.apart = s.apart := by
  intro t h; unfold execFenceCreate at h
  rcases h
  simp only [apart_State_admitCmd, apart_State_setFence, apart_State_modObju, apart_State_ok, apply_ite State.apart, ite_self, implies_true, eq_self]

theorem apart_execFenceSignal (a1) (a2) (a3) (s : State) : ∀ t, execFenceSignal a1 a2 a3 s = .next t → t.apart = s.apart := by
  intro t h; unfold execFenceSignal at h
  rcases h
  simp only [apart_State_admitCmd, apart_State_ok, apart_State_signal, apart_finishing, implies_true, eq_self]

theorem apart_execFenceWait (a1) (a2) (s : State) : ∀ t, execFenceWait a1 a2 s = .next t → t.apart = s.apart := by
  intro t h; unfold execFenceWait at h
  rcases h
  simp only [apart_State_admitCmd, apart_State_modObju, apart_State_wake, apart_finishing, apply_ite State.apart, ite_self, implies_true, eq_self]

theorem apart_execFenceReset (a1) (a2) (s : State) : ∀ t, execFenceReset a1 a2 s = .next t → t.apart = s.apart := by
  intro t h; unfold execFenceReset at h
  rcases h
  simp only [apart_State_admitCmd, apart_State_setFence, apart_State_ok, apart_State_propagate, apply_ite State.apart, ite_self, implies_true, eq_self]

theorem apart_execFenceDestroy (a1) (a2) (s : State) : ∀ t, execFenceDestroy a1 a2 s = .next t → t.apart = s.apart := by
  intro t h; unfold execFenceDestroy at h
  rcases h
  simp only [apart_State_admitCmd, apart_State_ok, apart_State_destroyFence, implies_true, eq_self]

theorem apart_execFenceShare (a1) (a2) (a3) (s : State) : ∀ t, execFenceShare a1 a2 a3 s = .next t → t.apart = s.apart := by
  intro t h; unfold execFenceShare at h
  rcases h
  simp only [apart_State_admitWith, apart_State_ok, apart_State_setFence, apply_ite State.apart, ite_self, implies_true, eq_self]

theorem apart_execFaultQueueDoorbell (a1) (a2) (a3) (s : State) : ∀ t, execFaultQueueDoorbell a1 a2 a3 s = .next t → t.apart = s.apart := by
  intro t h; unfold execFaultQueueDoorbell at h
  rcases h
  simp only [apart_State_portWrite, apart_State_fqWrite, apply_ite State.apart, ite_self, implies_true, eq_self]

theorem apart_execMsWriteAck (a1) (a2) (a3) (s : State) : ∀ t, execMsWriteAck a1 a2 a3 s = .next t → t.apart = s.apart := by
  intro t h; unfold execMsWriteAck at h
  rcases h
  repeat' (first | with_reducible rfl | (simp only [apart_State_msNext, apart_State_modSg, apart_State_mnNoData, apply_ite State.apart, apply_ite Prod.fst, ite_self, implies_true, eq_self, apart_foldl, apart_each, apart_when, apart_State_emit, apart_State_used]; done) | (simp only [apart_State_msNext, apart_State_modSg, apart_State_mnNoData, apply_ite State.apart, apply_ite Prod.fst, ite_self, implies_true, eq_self, apart_foldl, apart_each, apart_when, apart_State_emit, apart_State_used]) | split | (refine (apart_each _ _ _ (fun x t => ?_)).trans ?_) | (refine (apart_when _ _ _ (fun t => ?_)).trans ?_) | (refine (apart_foldl _ _ _ (fun t x => ?_)).trans ?_) | (rename_i h; refine (congrArg (fun x => State.apart (Prod.fst x)) h).symm.trans ?_; simp only [apart_State_msNext, apart_State_modSg, apart_State_mnNoData, apply_ite State.apart, apply_ite Prod.fst, ite_self, implies_true, eq_self, apart_foldl, apart_each, apart_when, apart_State_emit, apart_State_used]; done) | intro x)

theorem apart_execAnchorRestore (a1) (s : State) : ∀ t, execAnchorRestore a1 s = .next t → t.apart = s.apart := by
  intro t h; unfold execAnchorRestore at h
  rcases h
  repeat' (first | with_reducible rfl | (simp only [apart_State_setAnchor, apply_ite State.apart, apply_ite Prod.fst, ite_self, implies_true, eq_self, apart_foldl, apart_each, apart_when, apart_State_emit, apart_State_used]; done) | (simp only [apart_State_setAnchor, apply_ite State.apart, apply_ite Prod.fst, ite_self, implies_true, eq_self, apart_foldl, apart_each, apart_when, apart_State_emit, apart_State_used]) | split | (refine (apart_each _ _ _ (fun x t => ?_)).trans ?_) | (refine (apart_when _ _ _ (fun t => ?_)).trans ?_) | (refine (apart_foldl _ _ _ (fun t x => ?_)).trans ?_) | (rename_i h; refine (congrArg (fun x => State.apart (Prod.fst x)) h).symm.trans ?_; simp only [apart_State_setAnchor, apply_ite State.apart, apply_ite Prod.fst, ite_self, implies_true, eq_self, apart_foldl, apart_each, apart_when, apart_State_emit, apart_State_used]; done) | intro x)

theorem apart_execKeepaliveTx (a1) (a2) (s : State) : ∀ t, execKeepaliveTx a1 a2 s = .next t → t.apart = s.apart := by
  intro t h; unfold execKeepaliveTx at h
  rcases h
  simp only [apart_State_enqueue, apply_ite State.apart, ite_self, eq_self]

theorem apart_execFlowEntryTimeout (a1) (a2) (s : State) : ∀ t, execFlowEntryTimeout a1 a2 s = .next t → t.apart = s.apart := by
  intro t h; unfold execFlowEntryTimeout at h
  rcases h
  simp only [apart_State_flowLess, eq_self]

theorem apart_execFlowEntryGrant (a1) (s : State) : ∀ t, execFlowEntryGrant a1 s = .next t → t.apart = s.apart := by
  intro t h; unfold execFlowEntryGrant at h
  rcases h
  simp only [apart_State_modPort, apply_ite State.apart, ite_self, eq_self]

theorem apart_execTxStall (a1) (s : State) : ∀ t, execTxStall a1 s = .next t → t.apart = s.apart := by
  intro t h; unfold execTxStall at h
  rcases h
  simp only [apart_State_flag, apart_State_modPort, apply_ite State.apart, ite_self, eq_self]

theorem apart_execFrameEnqueue (a1) (a2) (s : State) : ∀ t, execFrameEnqueue a1 a2 s = .next t → t.apart = s.apart := by
  intro t h; unfold execFrameEnqueue at h
  rcases h
  simp only [apart_State_enqueue, apply_ite State.apart, ite_self, eq_self]

theorem apart_execEpochCountLimit (a1) (a2) (s : State) : ∀ t, execEpochCountLimit a1 a2 s = .next t → t.apart = s.apart := by
  intro t h; unfold execEpochCountLimit at h
  rcases h
  simp only [apart_State_epochChange, apply_ite State.apart, ite_self, eq_self]

theorem apart_execEpochChangeDeferred (a1) (a2) (s : State) : ∀ t, execEpochChangeDeferred a1 a2 s = .next t → t.apart = s.apart := by
  intro t h; unfold execEpochChangeDeferred at h
  rcases h
  simp only [apart_State_epochMove, apply_ite State.apart, ite_self, eq_self]

theorem apart_execRxEpochRetire (a1) (a2) (s : State) : ∀ t, execRxEpochRetire a1 a2 s = .next t → t.apart = s.apart := by
  intro t h; unfold execRxEpochRetire at h
  rcases h
  simp only [apart_State_nextSecret, apart_State_modSess, apply_ite State.apart, ite_self, eq_self]

theorem apart_execRatomicRetry (a1) (a2) (s : State) : ∀ t, execRatomicRetry a1 a2 s = .next t → t.apart = s.apart := by
  intro t h; unfold execRatomicRetry at h
  rcases h
  repeat' (first | with_reducible rfl | (simp only [apart_State_sendOp, apply_ite State.apart, apply_ite Prod.fst, ite_self, implies_true, eq_self, apart_foldl, apart_each, apart_when, apart_State_emit, apart_State_used]; done) | (simp only [apart_State_sendOp, apply_ite State.apart, apply_ite Prod.fst, ite_self, implies_true, eq_self, apart_foldl, apart_each, apart_when, apart_State_emit, apart_State_used]) | split | (refine (apart_each _ _ _ (fun x t => ?_)).trans ?_) | (refine (apart_when _ _ _ (fun t => ?_)).trans ?_) | (refine (apart_foldl _ _ _ (fun t x => ?_)).trans ?_) | (rename_i h; refine (congrArg (fun x => State.apart (Prod.fst x)) h).symm.trans ?_; simp only [apart_State_sendOp, apply_ite State.apart, apply_ite Prod.fst, ite_self, implies_true, eq_self, apart_foldl, apart_each, apart_when, apart_State_emit, apart_State_used]; done) | intro x)

theorem apart_execContributionResend (a1) (a2) (a3) (a4) (s : State) : ∀ t, execContributionResend a1 a2 a3 a4 s = .next t → t.apart = s.apart := by
  intro t h; unfold execContributionResend at h
  rcases h
  repeat' (first | with_reducible rfl | (simp only [apart_State_sendContrib, apply_ite State.apart, apply_ite Prod.fst, ite_self, implies_true, eq_self, apart_foldl, apart_each, apart_when, apart_State_emit, apart_State_used]; done) | (simp only [apart_State_sendContrib, apply_ite State.apart, apply_ite Prod.fst, ite_self, implies_true, eq_self, apart_foldl, apart_each, apart_when, apart_State_emit, apart_State_used]) | split | (refine (apart_each _ _ _ (fun x t => ?_)).trans ?_) | (refine (apart_when _ _ _ (fun t => ?_)).trans ?_) | (refine (apart_foldl _ _ _ (fun t x => ?_)).trans ?_) | (rename_i h; refine (congrArg (fun x => State.apart (Prod.fst x)) h).symm.trans ?_; simp only [apart_State_sendContrib, apply_ite State.apart, apply_ite Prod.fst, ite_self, implies_true, eq_self, apart_foldl, apart_each, apart_when, apart_State_emit, apart_State_used]; done) | intro x)

theorem apart_execResultChunkResend (a1) (a2) (a3) (s : State) : ∀ t, execResultChunkResend a1 a2 a3 s = .next t → t.apart = s.apart := by
  intro t h; unfold execResultChunkResend at h
  rcases h
  repeat' (first | with_reducible rfl | (simp only [apart_each, apart_State_sendTo, apply_ite State.apart, apply_ite Prod.fst, ite_self, implies_true, eq_self, apart_foldl, apart_each, apart_when, apart_State_emit, apart_State_used]; done) | (simp only [apart_each, apart_State_sendTo, apply_ite State.apart, apply_ite Prod.fst, ite_self, implies_true, eq_self, apart_foldl, apart_each, apart_when, apart_State_emit, apart_State_used]) | split | (refine (apart_each _ _ _ (fun x t => ?_)).trans ?_) | (refine (apart_when _ _ _ (fun t => ?_)).trans ?_) | (refine (apart_foldl _ _ _ (fun t x => ?_)).trans ?_) | (rename_i h; refine (congrArg (fun x => State.apart (Prod.fst x)) h).symm.trans ?_; simp only [apart_each, apart_State_sendTo, apply_ite State.apart, apply_ite Prod.fst, ite_self, implies_true, eq_self, apart_foldl, apart_each, apart_when, apart_State_emit, apart_State_used]; done) | intro x)

theorem apart_execRngStartupPass (s : State) : ∀ t, execRngStartupPass s = .next t → t.apart = s.apart := by
  intro t h; unfold execRngStartupPass at h
  rcases h
  simp only [apart_State_modKey, apply_ite State.apart, ite_self, eq_self]

theorem apart_execDrbgReseed (s : State) : ∀ t, execDrbgReseed s = .next t → t.apart = s.apart := by
  intro t h; unfold execDrbgReseed at h
  rcases h
  simp only [apart_State_modKey, apply_ite State.apart, ite_self, eq_self]

theorem apart_execSlotRelease (a1) (s : State) : ∀ t, execSlotRelease a1 s = .next t → t.apart = s.apart := by
  intro t h; unfold execSlotRelease at h
  rcases h
  simp only [apart_State_setSlot, apply_ite State.apart, ite_self, eq_self]

theorem apart_execKeyControlGen (a1) (a2) (a3) (a4) (s : State) : ∀ t, execKeyControlGen a1 a2 a3 a4 s = .next t → t.apart = s.apart := by
  intro t h; unfold execKeyControlGen at h
  rcases h
  simp only [apart_State_admitWith, apart_State_newControl, apart_State_drawnPr, implies_true, eq_self]

theorem apart_execKeyImport (a1) (a2) (a3) (a4) (a5) (s : State) : ∀ t, execKeyImport a1 a2 a3 a4 a5 s = .next t → t.apart = s.apart := by
  intro t h; unfold execKeyImport at h
  rcases h
  simp only [apart_State_admitCmd, apart_State_newControl, implies_true, eq_self]

theorem apart_execKeyRetire (a1) (a2) (s : State) : ∀ t, execKeyRetire a1 a2 s = .next t → t.apart = s.apart := by
  intro t h; unfold execKeyRetire at h
  rcases h
  simp only [apart_State_admitCmd, apart_State_ok, apart_State_retire, implies_true, eq_self]

theorem apart_execCceOp (a1) (a2) (a3) (a4) (a5) (a6) (a7) (a8) (a9) (s : State) : ∀ t, execCceOp a1 a2 a3 a4 a5 a6 a7 a8 a9 s = .next t → t.apart = s.apart := by
  intro t h; unfold execCceOp at h
  rcases h
  simp only [apart_State_cceTolaro, apart_State_admitWith, apart_State_modKey, apart_when, apart_State_drawn, apply_ite State.apart, ite_self, implies_true, eq_self, apart_when]

theorem apart_execKeyWrap (a1) (a2) (a3) (s : State) : ∀ t, execKeyWrap a1 a2 a3 s = .next t → t.apart = s.apart := by
  intro t h; unfold execKeyWrap at h
  rcases h
  simp only [apart_State_admitWith, apart_State_okTrailer, apart_State_drawn, implies_true, eq_self]

theorem apart_execKeyUnwrap (a1) (a2) (a3) (s : State) : ∀ t, execKeyUnwrap a1 a2 a3 s = .next t → t.apart = s.apart := by
  intro t h; unfold execKeyUnwrap at h
  rcases h
  simp only [apart_State_admitCmd, apart_State_endsWith, apart_State_newControl, apply_ite State.apart, ite_self, implies_true, eq_self]

theorem apart_execMldsaSignRestart (s : State) : ∀ t, execMldsaSignRestart s = .next t → t.apart = s.apart := by
  intro t h; unfold execMldsaSignRestart at h
  rcases h
  simp only [apart_State_modKey, apart_State_drawn, apply_ite State.apart, ite_self, eq_self]

theorem apart_execKeyAttest (a1) (a2) (a3) (s : State) : ∀ t, execKeyAttest a1 a2 a3 s = .next t → t.apart = s.apart := by
  intro t h; unfold execKeyAttest at h
  rcases h
  simp only [apart_State_admitWith, apart_State_pkeAdd, implies_true, eq_self]

theorem apart_execSgEnable (a1) (a2) (s : State) : ∀ t, execSgEnable a1 a2 s = .next t → t.apart = s.apart := by
  intro t h; unfold execSgEnable at h
  rcases h
  simp only [apart_State_ctlWrite, apart_State_sgWrite, implies_true, eq_self]

theorem apart_execSgDisable (a1) (a2) (s : State) : ∀ t, execSgDisable a1 a2 s = .next t → t.apart = s.apart := by
  intro t h; unfold execSgDisable at h
  rcases h
  simp only [apart_State_ctlWrite, apart_State_sgWrite, implies_true, eq_self]

theorem apart_execPartShare (a1) (a2) (s : State) : ∀ t, execPartShare a1 a2 s = .next t → t.apart = s.apart := by
  intro t h; unfold execPartShare at h
  rcases h
  simp only [apart_State_admitCmd, apart_State_ok, apart_State_modShare, implies_true, eq_self]

theorem apart_execLaneGate (a1) (s : State) : ∀ t, execLaneGate a1 s = .next t → t.apart = s.apart := by
  intro t h; unfold execLaneGate at h
  rcases h
  simp only [apart_State_modShare, apart_State_modUnit, apply_ite State.apart, ite_self, eq_self]

theorem apart_execLaneWake (s : State) : ∀ t, execLaneWake s = .next t → t.apart = s.apart := by
  intro t h; unfold execLaneWake at h
  rcases h
  simp only [apart_State_modShare, apart_each, apart_State_wakeOne, apply_ite State.apart, ite_self, implies_true, eq_self, apart_each]

theorem apart_execIdeKmQuery (a1) (a2) (s : State) : ∀ t, execIdeKmQuery a1 a2 s = .next t → t.apart = s.apart := by
  intro t h; unfold execIdeKmQuery at h
  rcases h
  simp only [apart_State_respond, apply_ite State.apart, ite_self, eq_self]

theorem apart_execIdeKmKeyProg (a1) (a2) (a3) (a4) (a5) (a6) (a7) (s : State) : ∀ t, execIdeKmKeyProg a1 a2 a3 a4 a5 a6 a7 s = .next t → t.apart = s.apart := by
  intro t h; unfold execIdeKmKeyProg at h
  rcases h
  repeat' (first | with_reducible rfl | (simp only [apart_State_ideAnswer, apart_State_retire, apart_State_tryStream, apart_State_modKeys, apart_State_fill, apply_ite State.apart, apply_ite Prod.fst, ite_self, implies_true, eq_self, apart_foldl, apart_each, apart_when, apart_State_emit, apart_State_used]; done) | (simp only [apart_State_ideAnswer, apart_State_retire, apart_State_tryStream, apart_State_modKeys, apart_State_fill, apply_ite State.apart, apply_ite Prod.fst, ite_self, implies_true, eq_self, apart_foldl, apart_each, apart_when, apart_State_emit, apart_State_used]) | split | (refine (apart_each _ _ _ (fun x t => ?_)).trans ?_) | (refine (apart_when _ _ _ (fun t => ?_)).trans ?_) | (refine (apart_foldl _ _ _ (fun t x => ?_)).trans ?_) | (rename_i h; refine (congrArg (fun x => State.apart (Prod.fst x)) h).symm.trans ?_; simp only [apart_State_ideAnswer, apart_State_retire, apart_State_tryStream, apart_State_modKeys, apart_State_fill, apply_ite State.apart, apply_ite Prod.fst, ite_self, implies_true, eq_self, apart_foldl, apart_each, apart_when, apart_State_emit, apart_State_used]; done) | intro x)

theorem apart_execIdeKmKSetGo (a1) (a2) (a3) (a4) (a5) (a6) (s : State) : ∀ t, execIdeKmKSetGo a1 a2 a3 a4 a5 a6 s = .next t → t.apart = s.apart := by
  intro t h; unfold execIdeKmKSetGo at h
  rcases h
  simp only [apart_State_ideAnswer, apart_State_tryStream, apart_State_modHst, apart_State_modKeys, apply_ite State.apart, ite_self, eq_self]

theorem apart_execIdeKmKSetStop (a1) (a2) (a3) (a4) (a5) (a6) (s : State) : ∀ t, execIdeKmKSetStop a1 a2 a3 a4 a5 a6 s = .next t → t.apart = s.apart := by
  intro t h; unfold execIdeKmKSetStop at h
  rcases h
  repeat' (first | with_reducible rfl | (simp only [apart_State_ideAnswer, apart_State_modKeys, apart_State_retire, apart_State_streamDown, apply_ite State.apart, apply_ite Prod.fst, ite_self, implies_true, eq_self, apart_foldl, apart_each, apart_when, apart_State_emit, apart_State_used]; done) | (simp only [apart_State_ideAnswer, apart_State_modKeys, apart_State_retire, apart_State_streamDown, apply_ite State.apart, apply_ite Prod.fst, ite_self, implies_true, eq_self, apart_foldl, apart_each, apart_when, apart_State_emit, apart_State_used]) | split | (refine (apart_each _ _ _ (fun x t => ?_)).trans ?_) | (refine (apart_when _ _ _ (fun t => ?_)).trans ?_) | (refine (apart_foldl _ _ _ (fun t x => ?_)).trans ?_) | (rename_i h; refine (congrArg (fun x => State.apart (Prod.fst x)) h).symm.trans ?_; simp only [apart_State_ideAnswer, apart_State_modKeys, apart_State_retire, apart_State_streamDown, apply_ite State.apart, apply_ite Prod.fst, ite_self, implies_true, eq_self, apart_foldl, apart_each, apart_when, apart_State_emit, apart_State_used]; done) | intro x)

theorem apart_execGetTdispVersion (a1) (a2) (a3) (s : State) : ∀ t, execGetTdispVersion a1 a2 a3 s = .next t → t.apart = s.apart := by
  intro t h; unfold execGetTdispVersion at h
  rcases h
  simp only [apart_State_tdisp, apart_State_tdispAnswer, implies_true, eq_self]

theorem apart_execGetTdispCapabilities (a1) (a2) (a3) (s : State) : ∀ t, execGetTdispCapabilities a1 a2 a3 s = .next t → t.apart = s.apart := by
  intro t h; unfold execGetTdispCapabilities at h
  rcases h
  simp only [apart_State_tdisp, apart_State_tdispAnswer, implies_true, eq_self]

theorem apart_execGetDeviceInterfaceState (a1) (a2) (a3) (s : State) : ∀ t, execGetDeviceInterfaceState a1 a2 a3 s = .next t → t.apart = s.apart := by
  intro t h; unfold execGetDeviceInterfaceState at h
  rcases h
  simp only [apart_State_tdisp, apart_State_tdispAnswer, implies_true, eq_self]

theorem apart_execGetDeviceInterfaceReport (a1) (a2) (a3) (s : State) : ∀ t, execGetDeviceInterfaceReport a1 a2 a3 s = .next t → t.apart = s.apart := by
  intro t h; unfold execGetDeviceInterfaceReport at h
  rcases h
  simp only [apart_State_tdisp, apart_State_respond, implies_true, eq_self]

theorem apart_execLockInterfaceRequest (a1) (a2) (a3) (s : State) : ∀ t, execLockInterfaceRequest a1 a2 a3 s = .next t → t.apart = s.apart := by
  intro t h; unfold execLockInterfaceRequest at h
  rcases h
  repeat' (first | with_reducible rfl | (simp only [apart_State_tdisp, apart_State_tdispAnswer, apart_State_modCmd, apart_State_modTdi, apply_ite State.apart, apply_ite Prod.fst, ite_self, implies_true, eq_self, apart_foldl, apart_each, apart_when, apart_State_emit, apart_State_used]; done) | (simp only [apart_State_tdisp, apart_State_tdispAnswer, apart_State_modCmd, apart_State_modTdi, apply_ite State.apart, apply_ite Prod.fst, ite_self, implies_true, eq_self, apart_foldl, apart_each, apart_when, apart_State_emit, apart_State_used]) | split | (refine (apart_each _ _ _ (fun x t => ?_)).trans ?_) | (refine (apart_when _ _ _ (fun t => ?_)).trans ?_) | (refine (apart_foldl _ _ _ (fun t x => ?_)).trans ?_) | (rename_i h; refine (congrArg (fun x => State.apart (Prod.fst x)) h).symm.trans ?_; simp only [apart_State_tdisp, apart_State_tdispAnswer, apart_State_modCmd, apart_State_modTdi, apply_ite State.apart, apply_ite Prod.fst, ite_self, implies_true, eq_self, apart_foldl, apart_each, apart_when, apart_State_emit, apart_State_used]; done) | (refine (apart_State_tdisp _ _ _ _ _ (fun t => ?_)).trans ?_) | intro x)

theorem apart_execStartInterfaceRequest (a1) (a2) (a3) (s : State) : ∀ t, execStartInterfaceRequest a1 a2 a3 s = .next t → t.apart = s.apart := by
  intro t h; unfold execStartInterfaceRequest at h
  rcases h
  simp only [apart_State_tdisp, apart_State_tdispAnswer, apart_State_modTdi, apply_ite State.apart, ite_self, implies_true, eq_self]

theorem apart_execStopInterfaceRequest (a1) (a2) (a3) (s : State) : ∀ t, execStopInterfaceRequest a1 a2 a3 s = .next t → t.apart = s.apart := by
  intro t h; unfold execStopInterfaceRequest at h
  rcases h
  simp only [apart_State_tdisp, apart_State_tdispAnswer, apart_State_tdiStop, implies_true, eq_self]

theorem apart_execTdispUnsupportedRequest (a1) (a2) (a3) (s : State) : ∀ t, execTdispUnsupportedRequest a1 a2 a3 s = .next t → t.apart = s.apart := by
  intro t h; unfold execTdispUnsupportedRequest at h
  rcases h
  simp only [apart_State_tdisp, apart_State_respond, implies_true, eq_self]

theorem apart_execFunctionLevelReset (a1) (a2) (s : State) : ∀ t, execFunctionLevelReset a1 a2 s = .next t → t.apart = s.apart := by
  intro t h; unfold execFunctionLevelReset at h
  rcases h
  repeat' (first | with_reducible rfl | (simp only [apart_State_tdiStop, apply_ite State.apart, apply_ite Prod.fst, ite_self, implies_true, eq_self, apart_foldl, apart_each, apart_when, apart_State_emit, apart_State_used]; done) | (simp only [apart_State_tdiStop, apply_ite State.apart, apply_ite Prod.fst, ite_self, implies_true, eq_self, apart_foldl, apart_each, apart_when, apart_State_emit, apart_State_used]) | split | (refine (apart_each _ _ _ (fun x t => ?_)).trans ?_) | (refine (apart_when _ _ _ (fun t => ?_)).trans ?_) | (refine (apart_foldl _ _ _ (fun t x => ?_)).trans ?_) | (rename_i h; refine (congrArg (fun x => State.apart (Prod.fst x)) h).symm.trans ?_; simp only [apart_State_tdiStop, apply_ite State.apart, apply_ite Prod.fst, ite_self, implies_true, eq_self, apart_foldl, apart_each, apart_when, apart_State_emit, apart_State_used]; done) | intro x)

theorem apart_execConfigRequestRx (a1) (a2) (a3) (a4) (a5) (a6) (s : State) : ∀ t, execConfigRequestRx a1 a2 a3 a4 a5 a6 s = .next t → t.apart = s.apart := by
  intro t h; unfold execConfigRequestRx at h
  rcases h
  simp only [apart_State_modHst, apart_State_emit, apart_State_ideCfg, apart_each, apart_State_tdiError, apply_ite State.apart, ite_self, implies_true, eq_self, apart_each, apart_State_emit]

theorem apart_execDoeObjectRx (a1) (a2) (a3) (s : State) : ∀ t, execDoeObjectRx a1 a2 a3 s = .next t → t.apart = s.apart := by
  intro t h; unfold execDoeObjectRx at h
  rcases h
  simp only [apart_State_emit, apart_State_modHst, apply_ite State.apart, ite_self, eq_self, apart_State_emit]

theorem apart_execDoeAbort (a1) (s : State) : ∀ t, execDoeAbort a1 s = .next t → t.apart = s.apart := by
  intro t h; unfold execDoeAbort at h
  rcases h
  simp only [apart_State_modHst, eq_self]

theorem apart_execTranslationCompletion (a1) (a2) (a3) (a4) (s : State) : ∀ t, execTranslationCompletion a1 a2 a3 a4 s = .next t → t.apart = s.apart := by
  intro t h; unfold execTranslationCompletion at h
  rcases h
  repeat' (first | with_reducible rfl | (simp only [apart_State_emit, apart_State_modHst, apart_State_trEnds, apply_ite State.apart, apply_ite Prod.fst, ite_self, implies_true, eq_self, apart_foldl, apart_each, apart_when, apart_State_emit, apart_State_used]; done) | (simp only [apart_State_emit, apart_State_modHst, apart_State_trEnds, apply_ite State.apart, apply_ite Prod.fst, ite_self, implies_true, eq_self, apart_foldl, apart_each, apart_when, apart_State_emit, apart_State_used]) | split | (refine (apart_each _ _ _ (fun x t => ?_)).trans ?_) | (refine (apart_when _ _ _ (fun t => ?_)).trans ?_) | (refine (apart_foldl _ _ _ (fun t x => ?_)).trans ?_) | (rename_i h; refine (congrArg (fun x => State.apart (Prod.fst x)) h).symm.trans ?_; simp only [apart_State_emit, apart_State_modHst, apart_State_trEnds, apply_ite State.apart, apply_ite Prod.fst, ite_self, implies_true, eq_self, apart_foldl, apart_each, apart_when, apart_State_emit, apart_State_used]; done) | intro x)

theorem apart_execTranslationTimeout (a1) (a2) (s : State) : ∀ t, execTranslationTimeout a1 a2 s = .next t → t.apart = s.apart := by
  intro t h; unfold execTranslationTimeout at h
  rcases h
  repeat' (first | with_reducible rfl | (simp only [apart_State_trEnds, apply_ite State.apart, apply_ite Prod.fst, ite_self, implies_true, eq_self, apart_foldl, apart_each, apart_when, apart_State_emit, apart_State_used]; done) | (simp only [apart_State_trEnds, apply_ite State.apart, apply_ite Prod.fst, ite_self, implies_true, eq_self, apart_foldl, apart_each, apart_when, apart_State_emit, apart_State_used]) | split | (refine (apart_each _ _ _ (fun x t => ?_)).trans ?_) | (refine (apart_when _ _ _ (fun t => ?_)).trans ?_) | (refine (apart_foldl _ _ _ (fun t x => ?_)).trans ?_) | (rename_i h; refine (congrArg (fun x => State.apart (Prod.fst x)) h).symm.trans ?_; simp only [apart_State_trEnds, apply_ite State.apart, apply_ite Prod.fst, ite_self, implies_true, eq_self, apart_foldl, apart_each, apart_when, apart_State_emit, apart_State_used]; done) | intro x)

theorem apart_execAtsInvalidateRequest (a1) (a2) (a3) (a4) (a5) (a6) (s : State) : ∀ t, execAtsInvalidateRequest a1 a2 a3 a4 a5 a6 s = .next t → t.apart = s.apart := by
  intro t h; unfold execAtsInvalidateRequest at h
  rcases h
  repeat' (first | with_reducible rfl | (simp only [apart_State_pump, apart_State_modHst, apply_ite State.apart, apply_ite Prod.fst, ite_self, implies_true, eq_self, apart_foldl, apart_each, apart_when, apart_State_emit, apart_State_used]; done) | (simp only [apart_State_pump, apart_State_modHst, apply_ite State.apart, apply_ite Prod.fst, ite_self, implies_true, eq_self, apart_foldl, apart_each, apart_when, apart_State_emit, apart_State_used]) | split | (refine (apart_each _ _ _ (fun x t => ?_)).trans ?_) | (refine (apart_when _ _ _ (fun t => ?_)).trans ?_) | (refine (apart_foldl _ _ _ (fun t x => ?_)).trans ?_) | (rename_i h; refine (congrArg (fun x => State.apart (Prod.fst x)) h).symm.trans ?_; simp only [apart_State_pump, apart_State_modHst, apply_ite State.apart, apply_ite Prod.fst, ite_self, implies_true, eq_self, apart_foldl, apart_each, apart_when, apart_State_emit, apart_State_used]; done) | intro x)

theorem apart_execInvalidationComplete (a1) (a2) (s : State) : ∀ t, execInvalidationComplete a1 a2 s = .next t → t.apart = s.apart := by
  intro t h; unfold execInvalidationComplete at h
  rcases h
  repeat' (first | with_reducible rfl | (simp only [apart_State_emit, apart_State_modHst, apply_ite State.apart, apply_ite Prod.fst, ite_self, implies_true, eq_self, apart_foldl, apart_each, apart_when, apart_State_emit, apart_State_used]; done) | (simp only [apart_State_emit, apart_State_modHst, apply_ite State.apart, apply_ite Prod.fst, ite_self, implies_true, eq_self, apart_foldl, apart_each, apart_when, apart_State_emit, apart_State_used]) | split | (refine (apart_each _ _ _ (fun x t => ?_)).trans ?_) | (refine (apart_when _ _ _ (fun t => ?_)).trans ?_) | (refine (apart_foldl _ _ _ (fun t x => ?_)).trans ?_) | (rename_i h; refine (congrArg (fun x => State.apart (Prod.fst x)) h).symm.trans ?_; simp only [apart_State_emit, apart_State_modHst, apply_ite State.apart, apply_ite Prod.fst, ite_self, implies_true, eq_self, apart_foldl, apart_each, apart_when, apart_State_emit, apart_State_used]; done) | intro x)

theorem apart_execPrgResponse (a1) (a2) (a3) (s : State) : ∀ t, execPrgResponse a1 a2 a3 s = .next t → t.apart = s.apart := by
  intro t h; unfold execPrgResponse at h
  rcases h
  repeat' (first | with_reducible rfl | (simp only [apart_State_modHst, apart_State_prNext, apart_State_askPage, apart_State_flag, apart_each, apart_State_pageFail, apply_ite State.apart, apply_ite Prod.fst, ite_self, implies_true, eq_self, apart_foldl, apart_each, apart_when, apart_State_emit, apart_State_used]; done) | (simp only [apart_State_modHst, apart_State_prNext, apart_State_askPage, apart_State_flag, apart_each, apart_State_pageFail, apply_ite State.apart, apply_ite Prod.fst, ite_self, implies_true, eq_self, apart_foldl, apart_each, apart_when, apart_State_emit, apart_State_used]) | split | (refine (apart_each _ _ _ (fun x t => ?_)).trans ?_) | (refine (apart_when _ _ _ (fun t => ?_)).trans ?_) | (refine (apart_foldl _ _ _ (fun t x => ?_)).trans ?_) | (rename_i h; refine (congrArg (fun x => State.apart (Prod.fst x)) h).symm.trans ?_; simp only [apart_State_modHst, apart_State_prNext, apart_State_askPage, apart_State_flag, apart_each, apart_State_pageFail, apply_ite State.apart, apply_ite Prod.fst, ite_self, implies_true, eq_self, apart_foldl, apart_each, apart_when, apart_State_emit, apart_State_used]; done) | intro x)

theorem apart_execPriTimeout (a1) (s : State) : ∀ t, execPriTimeout a1 s = .next t → t.apart = s.apart := by
  intro t h; unfold execPriTimeout at h
  rcases h
  repeat' (first | with_reducible rfl | (simp only [apart_State_prNext, apart_State_pageFail, apart_State_modHst, apply_ite State.apart, apply_ite Prod.fst, ite_self, implies_true, eq_self, apart_foldl, apart_each, apart_when, apart_State_emit, apart_State_used]; done) | (simp only [apart_State_prNext, apart_State_pageFail, apart_State_modHst, apply_ite State.apart, apply_ite Prod.fst, ite_self, implies_true, eq_self, apart_foldl, apart_each, apart_when, apart_State_emit, apart_State_used]) | split | (refine (apart_each _ _ _ (fun x t => ?_)).trans ?_) | (refine (apart_when _ _ _ (fun t => ?_)).trans ?_) | (refine (apart_foldl _ _ _ (fun t x => ?_)).trans ?_) | (rename_i h; refine (congrArg (fun x => State.apart (Prod.fst x)) h).symm.trans ?_; simp only [apart_State_prNext, apart_State_pageFail, apart_State_modHst, apply_ite State.apart, apply_ite Prod.fst, ite_self, implies_true, eq_self, apart_foldl, apart_each, apart_when, apart_State_emit, apart_State_used]; done) | intro x)

theorem apart_execHostTlpTx (a1) (a2) (s : State) : ∀ t, execHostTlpTx a1 a2 s = .next t → t.apart = s.apart := by
  intro t h; unfold execHostTlpTx at h
  rcases h
  simp only [apart_State_txTlp, eq_self]

theorem apart_execHostTlpRx (a1) (a2) (s : State) : ∀ t, execHostTlpRx a1 a2 s = .next t → t.apart = s.apart := by
  intro t h; unfold execHostTlpRx at h
  rcases h
  repeat' (first | with_reducible rfl | (simp only [apart_State_emit, apart_State_rxCpl, apart_State_rxReq, apart_State_count, apart_State_ideFail, apart_State_glob, apart_State_wants, apply_ite State.apart, apply_ite Prod.fst, ite_self, implies_true, eq_self, apart_foldl, apart_each, apart_when, apart_State_emit, apart_State_used]; done) | (simp only [apart_State_emit, apart_State_rxCpl, apart_State_rxReq, apart_State_count, apart_State_ideFail, apart_State_glob, apart_State_wants, apply_ite State.apart, apply_ite Prod.fst, ite_self, implies_true, eq_self, apart_foldl, apart_each, apart_when, apart_State_emit, apart_State_used]) | split | (refine (apart_each _ _ _ (fun x t => ?_)).trans ?_) | (refine (apart_when _ _ _ (fun t => ?_)).trans ?_) | (refine (apart_foldl _ _ _ (fun t x => ?_)).trans ?_) | (rename_i h; refine (congrArg (fun x => State.apart (Prod.fst x)) h).symm.trans ?_; simp only [apart_State_emit, apart_State_rxCpl, apart_State_rxReq, apart_State_count, apart_State_ideFail, apart_State_glob, apart_State_wants, apply_ite State.apart, apply_ite Prod.fst, ite_self, implies_true, eq_self, apart_foldl, apart_each, apart_when, apart_State_emit, apart_State_used]; done) | intro x)

theorem apart_execTileOpen (a1) (a2) (s : State) : ∀ t, execTileOpen a1 a2 s = .next t → t.apart = s.apart := by
  intro t h; unfold execTileOpen at h
  rcases h
  repeat' (first | with_reducible rfl | (simp only [apart_State_txTlp, apart_State_fault, apart_State_trace, apart_State_modHst, apart_State_modTile, apart_State_tileFault, apart_State_pump, apart_each, apart_State_touchAtc, apply_ite State.apart, apply_ite Prod.fst, ite_self, implies_true, eq_self, apart_foldl, apart_each, apart_when, apart_State_emit, apart_State_used]; done) | (simp only [apart_State_txTlp, apart_State_fault, apart_State_trace, apart_State_modHst, apart_State_modTile, apart_State_tileFault, apart_State_pump, apart_each, apart_State_touchAtc, apply_ite State.apart, apply_ite Prod.fst, ite_self, implies_true, eq_self, apart_foldl, apart_each, apart_when, apart_State_emit, apart_State_used]) | split | (refine (apart_each _ _ _ (fun x t => ?_)).trans ?_) | (refine (apart_when _ _ _ (fun t => ?_)).trans ?_) | (refine (apart_foldl _ _ _ (fun t x => ?_)).trans ?_) | (rename_i h; refine (congrArg (fun x => State.apart (Prod.fst x)) h).symm.trans ?_; simp only [apart_State_txTlp, apart_State_fault, apart_State_trace, apart_State_modHst, apart_State_modTile, apart_State_tileFault, apart_State_pump, apart_each, apart_State_touchAtc, apply_ite State.apart, apply_ite Prod.fst, ite_self, implies_true, eq_self, apart_foldl, apart_each, apart_when, apart_State_emit, apart_State_used]; done) | intro x)

theorem apart_execTileClose (a1) (a2) (s : State) : ∀ t, execTileClose a1 a2 s = .next t → t.apart = s.apart := by
  intro t h; unfold execTileClose at h
  rcases h
  repeat' (first | with_reducible rfl | (simp only [apart_State_txTlp, apart_State_tileFault, apart_State_tileClosed, apart_State_modTile, apart_State_tileFree, apply_ite State.apart, apply_ite Prod.fst, ite_self, implies_true, eq_self, apart_foldl, apart_each, apart_when, apart_State_emit, apart_State_used]; done) | (simp only [apart_State_txTlp, apart_State_tileFault, apart_State_tileClosed, apart_State_modTile, apart_State_tileFree, apply_ite State.apart, apply_ite Prod.fst, ite_self, implies_true, eq_self, apart_foldl, apart_each, apart_when, apart_State_emit, apart_State_used]) | split | (refine (apart_each _ _ _ (fun x t => ?_)).trans ?_) | (refine (apart_when _ _ _ (fun t => ?_)).trans ?_) | (refine (apart_foldl _ _ _ (fun t x => ?_)).trans ?_) | (rename_i h; refine (congrArg (fun x => State.apart (Prod.fst x)) h).symm.trans ?_; simp only [apart_State_txTlp, apart_State_tileFault, apart_State_tileClosed, apart_State_modTile, apart_State_tileFree, apply_ite State.apart, apply_ite Prod.fst, ite_self, implies_true, eq_self, apart_foldl, apart_each, apart_when, apart_State_emit, apart_State_used]; done) | intro x)

theorem apart_execSubmissionDoorbell (a1) (a2) (a3) (a4) (a5) (s : State) : ∀ t, execSubmissionDoorbell a1 a2 a3 a4 a5 s = .next t → t.apart = s.apart := by
  intro t h; unfold execSubmissionDoorbell at h
  rcases h
  simp only [apart_State_portWrite, apart_State_bell, implies_true, eq_self]

theorem apart_execReplyDoorbell (a1) (a2) (a3) (a4) (a5) (s : State) : ∀ t, execReplyDoorbell a1 a2 a3 a4 a5 s = .next t → t.apart = s.apart := by
  intro t h; unfold execReplyDoorbell at h
  rcases h
  simp only [apart_State_portWrite, apart_State_bell, implies_true, eq_self]

theorem apart_execHostQueueEnable (a1) (a2) (s : State) : ∀ t, execHostQueueEnable a1 a2 s = .next t → t.apart = s.apart := by
  intro t h; unfold execHostQueueEnable at h
  rcases h
  simp only [apart_State_ctlWrite, apart_State_hostQueueOpen, implies_true, eq_self]

theorem apart_execHostQueueDisable (a1) (a2) (s : State) : ∀ t, execHostQueueDisable a1 a2 s = .next t → t.apart = s.apart := by
  intro t h; unfold execHostQueueDisable at h
  rcases h
  simp only [apart_State_ctlWrite, apart_State_hostQueueClose, implies_true, eq_self]

theorem apart_execQueueCreate (a1) (a2) (a3) (a4) (a5) (a6) (a7) (s : State) : ∀ t, execQueueCreate a1 a2 a3 a4 a5 a6 a7 s = .next t → t.apart = s.apart := by
  intro t h; unfold execQueueCreate at h
  rcases h
  simp only [apart_State_admitWith, apart_each, apart_State_modObj, apart_State_ok, apart_State_modQueue, implies_true, eq_self, apart_each]

theorem apart_execQueueDestroy (a1) (a2) (a3) (s : State) : ∀ t, execQueueDestroy a1 a2 a3 s = .next t → t.apart = s.apart := by
  intro t h; unfold execQueueDestroy at h
  rcases h
  simp only [apart_State_admitWith, apart_State_destroyQueue, implies_true, eq_self]

theorem apart_execNop (a1) (s : State) : ∀ t, execNop a1 s = .next t → t.apart = s.apart := by
  intro t h; unfold execNop at h
  rcases h
  simp only [apart_State_admitCmd, apart_State_ok, implies_true, eq_self]

theorem apart_execIdentify (a1) (s : State) : ∀ t, execIdentify a1 s = .next t → t.apart = s.apart := by
  intro t h; unfold execIdentify at h
  rcases h
  simp only [apart_State_admitCmd, apart_State_ok, implies_true, eq_self]

theorem apart_execCarry (a1) (a2) (a3) (a4) (a5) (a6) (a7) (a8) (s : State) : ∀ t, execCarry a1 a2 a3 a4 a5 a6 a7 a8 s = .next t → t.apart = s.apart := by
  intro t h; unfold execCarry at h
  rcases h
  simp only [apart_State_admitCmd, apart_State_endsWith, apart_State_cntr, apart_State_modCmd, apply_ite State.apart, ite_self, implies_true, eq_self]

theorem apart_execReplyPoll (a1) (a2) (s : State) : ∀ t, execReplyPoll a1 a2 s = .next t → t.apart = s.apart := by
  intro t h; unfold execReplyPoll at h
  rcases h
  repeat' (first | with_reducible rfl | (simp only [apart_State_admitCmd, apart_State_endsWith, apart_State_complete, apply_ite State.apart, apply_ite Prod.fst, ite_self, implies_true, eq_self, apart_foldl, apart_each, apart_when, apart_State_emit, apart_State_used]; done) | (simp only [apart_State_admitCmd, apart_State_endsWith, apart_State_complete, apply_ite State.apart, apply_ite Prod.fst, ite_self, implies_true, eq_self, apart_foldl, apart_each, apart_when, apart_State_emit, apart_State_used]) | split | (refine (apart_each _ _ _ (fun x t => ?_)).trans ?_) | (refine (apart_when _ _ _ (fun t => ?_)).trans ?_) | (refine (apart_foldl _ _ _ (fun t x => ?_)).trans ?_) | (rename_i h; refine (congrArg (fun x => State.apart (Prod.fst x)) h).symm.trans ?_; simp only [apart_State_admitCmd, apart_State_endsWith, apart_State_complete, apply_ite State.apart, apply_ite Prod.fst, ite_self, implies_true, eq_self, apart_foldl, apart_each, apart_when, apart_State_emit, apart_State_used]; done) | (refine (apart_State_admitCmd _ _ _ _ _ (fun y0 t => ?_)).trans ?_) | intro x)

theorem apart_execStoredReplyExpire (a1) (a2) (s : State) : ∀ t, execStoredReplyExpire a1 a2 s = .next t → t.apart = s.apart := by
  intro t h; unfold execStoredReplyExpire at h
  rcases h
  simp only [apart_State_modCmd, eq_self]

theorem apart_execRegionRearm (a1) (a2) (s : State) : ∀ t, execRegionRearm a1 a2 s = .next t → t.apart = s.apart := by
  intro t h; unfold execRegionRearm at h
  rcases h
  simp only [apart_State_admitCmd, apart_State_ok, apart_State_setAnchor, apart_State_modSg, apart_State_dropRegion, implies_true, eq_self]

theorem apart_execManifestStage (a1) (a2) (a3) (s : State) : ∀ t, execManifestStage a1 a2 a3 s = .next t → t.apart = s.apart := by
  intro t h; unfold execManifestStage at h
  rcases h
  repeat' (first | with_reducible rfl | (simp only [apart_State_admitCmd, apart_State_ok, apart_State_modCmd, apart_State_endsWith, apply_ite State.apart, apply_ite Prod.fst, ite_self, implies_true, eq_self, apart_foldl, apart_each, apart_when, apart_State_emit, apart_State_used]; done) | (simp only [apart_State_admitCmd, apart_State_ok, apart_State_modCmd, apart_State_endsWith, apply_ite State.apart, apply_ite Prod.fst, ite_self, implies_true, eq_self, apart_foldl, apart_each, apart_when, apart_State_emit, apart_State_used]) | split | (refine (apart_each _ _ _ (fun x t => ?_)).trans ?_) | (refine (apart_when _ _ _ (fun t => ?_)).trans ?_) | (refine (apart_foldl _ _ _ (fun t x => ?_)).trans ?_) | (rename_i h; refine (congrArg (fun x => State.apart (Prod.fst x)) h).symm.trans ?_; simp only [apart_State_admitCmd, apart_State_ok, apart_State_modCmd, apart_State_endsWith, apply_ite State.apart, apply_ite Prod.fst, ite_self, implies_true, eq_self, apart_foldl, apart_each, apart_when, apart_State_emit, apart_State_used]; done) | (refine (apart_State_admitCmd _ _ _ _ _ (fun y0 t => ?_)).trans ?_) | intro x)

theorem apart_execGetVersion (a1) (s : State) : ∀ t, execGetVersion a1 s = .next t → t.apart = s.apart := by
  intro t h; unfold execGetVersion at h
  rcases h
  simp only [apart_State_spdm, apart_State_respond, implies_true, eq_self]

theorem apart_execGetCapabilities (a1) (s : State) : ∀ t, execGetCapabilities a1 s = .next t → t.apart = s.apart := by
  intro t h; unfold execGetCapabilities at h
  rcases h
  simp only [apart_State_spdm, apart_State_respond, implies_true, eq_self]

theorem apart_execGetDigests (a1) (s : State) : ∀ t, execGetDigests a1 s = .next t → t.apart = s.apart := by
  intro t h; unfold execGetDigests at h
  rcases h
  simp only [apart_State_spdm, apart_State_respond, implies_true, eq_self]

theorem apart_execGetCertificate (a1) (a2) (s : State) : ∀ t, execGetCertificate a1 a2 s = .next t → t.apart = s.apart := by
  intro t h; unfold execGetCertificate at h
  rcases h
  simp only [apart_State_spdm, apart_State_respond, apply_ite State.apart, ite_self, implies_true, eq_self]

theorem apart_execChallenge (a1) (a2) (s : State) : ∀ t, execChallenge a1 a2 s = .next t → t.apart = s.apart := by
  intro t h; unfold execChallenge at h
  rcases h
  simp only [apart_State_spdm, apart_State_respond, apart_State_aliasSigned, apply_ite State.apart, ite_self, implies_true, eq_self]

theorem apart_execGetMeasurements (a1) (a2) (a3) (s : State) : ∀ t, execGetMeasurements a1 a2 a3 s = .next t → t.apart = s.apart := by
  intro t h; unfold execGetMeasurements at h
  rcases h
  simp only [apart_State_spdm, apart_State_respond, apart_State_aliasSigned, apply_ite State.apart, ite_self, implies_true, eq_self]

theorem apart_execKeyExchange (a1) (a2) (s : State) : ∀ t, execKeyExchange a1 a2 s = .next t → t.apart = s.apart := by
  intro t h; unfold execKeyExchange at h
  rcases h
  repeat' (first | with_reducible rfl | (simp only [apart_State_spdm, apart_State_respond, apart_State_pkeAdd, apart_State_modCmd, apart_State_abandonAsk, apply_ite State.apart, apply_ite Prod.fst, ite_self, implies_true, eq_self, apart_foldl, apart_each, apart_when, apart_State_emit, apart_State_used]; done) | (simp only [apart_State_spdm, apart_State_respond, apart_State_pkeAdd, apart_State_modCmd, apart_State_abandonAsk, apply_ite State.apart, apply_ite Prod.fst, ite_self, implies_true, eq_self, apart_foldl, apart_each, apart_when, apart_State_emit, apart_State_used]) | split | (refine (apart_each _ _ _ (fun x t => ?_)).trans ?_) | (refine (apart_when _ _ _ (fun t => ?_)).trans ?_) | (refine (apart_foldl _ _ _ (fun t x => ?_)).trans ?_) | (rename_i h; refine (congrArg (fun x => State.apart (Prod.fst x)) h).symm.trans ?_; simp only [apart_State_spdm, apart_State_respond, apart_State_pkeAdd, apart_State_modCmd, apart_State_abandonAsk, apply_ite State.apart, apply_ite Prod.fst, ite_self, implies_true, eq_self, apart_foldl, apart_each, apart_when, apart_State_emit, apart_State_used]; done) | (refine (apart_State_spdm _ _ _ _ (fun t => ?_)).trans ?_) | intro x)

theorem apart_execFinish (a1) (a2) (a3) (s : State) : ∀ t, execFinish a1 a2 a3 s = .next t → t.apart = s.apart := by
  intro t h; unfold execFinish at h
  rcases h
  simp only [apart_State_spdm, apart_State_pkeAdd, apart_State_respond, apply_ite State.apart, ite_self, implies_true, eq_self]

theorem apart_execHeartbeat (a1) (a2) (s : State) : ∀ t, execHeartbeat a1 a2 s = .next t → t.apart = s.apart := by
  intro t h; unfold execHeartbeat at h
  rcases h
  simp only [apart_State_spdm, apart_State_respond, implies_true, eq_self]

theorem apart_execKeyUpdate (a1) (a2) (s : State) : ∀ t, execKeyUpdate a1 a2 s = .next t → t.apart = s.apart := by
  intro t h; unfold execKeyUpdate at h
  rcases h
  repeat' (first | with_reducible rfl | (simp only [apart_State_spdm, apart_State_respond, apart_State_modCmd, apart_each, apart_State_renew, apart_State_retire, apply_ite State.apart, apply_ite Prod.fst, ite_self, implies_true, eq_self, apart_foldl, apart_each, apart_when, apart_State_emit, apart_State_used]; done) | (simp only [apart_State_spdm, apart_State_respond, apart_State_modCmd, apart_each, apart_State_renew, apart_State_retire, apply_ite State.apart, apply_ite Prod.fst, ite_self, implies_true, eq_self, apart_foldl, apart_each, apart_when, apart_State_emit, apart_State_used]) | split | (refine (apart_each _ _ _ (fun x t => ?_)).trans ?_) | (refine (apart_when _ _ _ (fun t => ?_)).trans ?_) | (refine (apart_foldl _ _ _ (fun t x => ?_)).trans ?_) | (rename_i h; refine (congrArg (fun x => State.apart (Prod.fst x)) h).symm.trans ?_; simp only [apart_State_spdm, apart_State_respond, apart_State_modCmd, apart_each, apart_State_renew, apart_State_retire, apply_ite State.apart, apply_ite Prod.fst, ite_self, implies_true, eq_self, apart_foldl, apart_each, apart_when, apart_State_emit, apart_State_used]; done) | (refine (apart_State_spdm _ _ _ _ (fun t => ?_)).trans ?_) | intro x)

theorem apart_execGetCsr (a1) (a2) (s : State) : ∀ t, execGetCsr a1 a2 s = .next t → t.apart = s.apart := by
  intro t h; unfold execGetCsr at h
  rcases h
  simp only [apart_State_spdm, apart_State_pkeAdd, apart_State_respond, apply_ite State.apart, ite_self, implies_true, eq_self]

theorem apart_execLinkBind (a1) (a2) (a3) (a4) (s : State) : ∀ t, execLinkBind a1 a2 a3 a4 s = .next t → t.apart = s.apart := by
  intro t h; unfold execLinkBind at h
  rcases h
  simp only [apart_State_spdm, apart_State_pkeAdd, apart_State_respond, apply_ite State.apart, ite_self, implies_true, eq_self]

theorem apart_execAmendFetch (a1) (a2) (a3) (s : State) : ∀ t, execAmendFetch a1 a2 a3 s = .next t → t.apart = s.apart := by
  intro t h; unfold execAmendFetch at h
  rcases h
  simp only [apart_State_spdm, apart_State_respond, apply_ite State.apart, ite_self, implies_true, eq_self]

theorem apart_execGetEndpointId (s : State) : ∀ t, execGetEndpointId s = .next t → t.apart = s.apart := by
  intro t h; unfold execGetEndpointId at h
  rcases h
  simp only [apart_State_mctp, eq_self]

theorem apart_execGetEndpointUuid (s : State) : ∀ t, execGetEndpointUuid s = .next t → t.apart = s.apart := by
  intro t h; unfold execGetEndpointUuid at h
  rcases h
  simp only [apart_State_mctp, eq_self]

theorem apart_execGetMctpVersionSupport (s : State) : ∀ t, execGetMctpVersionSupport s = .next t → t.apart = s.apart := by
  intro t h; unfold execGetMctpVersionSupport at h
  rcases h
  simp only [apart_State_mctp, eq_self]

theorem apart_execGetMessageTypeSupport (s : State) : ∀ t, execGetMessageTypeSupport s = .next t → t.apart = s.apart := by
  intro t h; unfold execGetMessageTypeSupport at h
  rcases h
  simp only [apart_State_mctp, eq_self]

theorem apart_execCntRead (a1) (a2) (a3) (s : State) : ∀ t, execCntRead a1 a2 a3 s = .next t → t.apart = s.apart := by
  intro t h; unfold execCntRead at h
  rcases h
  simp only [apart_State_admitCmd, apart_State_ok, implies_true, eq_self]

theorem apart_execQuantisationInstant (s : State) : ∀ t, execQuantisationInstant s = .next t → t.apart = s.apart := by
  intro t h; unfold execQuantisationInstant at h
  rcases h
  simp only [apart_each, apart_State_publish, apply_ite State.apart, ite_self, implies_true, eq_self, apart_each]

theorem apart_execTraceCfg (a1) (a2) (a3) (a4) (a5) (a6) (a7) (s : State) : ∀ t, execTraceCfg a1 a2 a3 a4 a5 a6 a7 s = .next t → t.apart = s.apart := by
  intro t h; unfold execTraceCfg at h
  rcases h
  simp only [apart_State_admitWith, apart_State_ok, apart_State_setRing, implies_true, eq_self]

theorem apart_State_traceCtl (h) (ring) (bad) (act : State → State) (s : State) (k : ∀ t, (act t).apart = t.apart) :
    ∀ t, s.traceCtl h ring bad act = .next t → t.apart = s.apart := by
  intro t e; unfold State.traceCtl at e
  rcases e
  exact apart_State_admitCmd _ _ _ _ _ fun p t => (apart_State_ok ..).trans (k t)

theorem apart_execTraceStart (h) (ring) (s : State) : ∀ t, execTraceStart h ring s = .next t → t.apart = s.apart :=
  apart_State_traceCtl _ _ _ _ _ fun t => by
  simp only [apply_ite State.apart, apart_State_setRing, ite_self]

theorem apart_execTraceStop (h) (ring) (s : State) : ∀ t, execTraceStop h ring s = .next t → t.apart = s.apart :=
  apart_State_traceCtl _ _ _ _ _ fun t => apart_State_stopRing ..

theorem apart_execTraceTriggerNow (h) (ring) (s : State) : ∀ t, execTraceTriggerNow h ring s = .next t → t.apart = s.apart :=
  apart_State_traceCtl _ _ _ _ _ fun t => apart_State_trigger ..

theorem apart_execTraceReleaseFreeze (h) (ring) (s : State) : ∀ t, execTraceReleaseFreeze h ring s = .next t → t.apart = s.apart :=
  apart_State_traceCtl _ _ _ _ _ fun t => apart_State_setRing ..

theorem apart_execTraceSectorTimeout (a1) (a2) (s : State) : ∀ t, execTraceSectorTimeout a1 a2 s = .next t → t.apart = s.apart := by
  intro t h; unfold execTraceSectorTimeout at h
  rcases h
  simp only [apart_State_writeRing, apart_State_setRing, apply_ite State.apart, ite_self, eq_self]

theorem apart_execObsMark (a1) (a2) (a3) (a4) (s : State) : ∀ t, execObsMark a1 a2 a3 a4 s = .next t → t.apart = s.apart := by
  intro t h; unfold execObsMark at h
  rcases h
  simp only [apart_State_portWrite, apart_State_mark, implies_true, eq_self]

theorem apart_execSaSeed (a1) (a2) (s : State) : ∀ t, execSaSeed a1 a2 s = .next t → t.apart = s.apart := by
  intro t h; unfold execSaSeed at h
  rcases h
  simp only [apart_State_admitCmd, apart_State_ok, apart_State_modSg, implies_true, eq_self]

theorem apart_execTensorReg (a1) (a2) (a3) (a4) (s : State) : ∀ t, execTensorReg a1 a2 a3 a4 s = .next t → t.apart = s.apart := by
  intro t h; unfold execTensorReg at h
  rcases h
  simp only [apart_State_admitCmd, apart_State_ok, apart_State_modObs, implies_true, eq_self]

theorem apart_execPressRead (a1) (a2) (a3) (s : State) : ∀ t, execPressRead a1 a2 a3 s = .next t → t.apart = s.apart := by
  intro t h; unfold execPressRead at h
  rcases h
  simp only [apart_State_admitCmd, apart_State_okTrailer, implies_true, eq_self]

theorem apart_execPressRelease (a1) (s : State) : ∀ t, execPressRelease a1 s = .next t → t.apart = s.apart := by
  intro t h; unfold execPressRelease at h
  rcases h
  simp only [apart_State_admitCmd, apart_State_ok, apart_State_unfreeze, implies_true, eq_self]

theorem apart_execPressFlush (s : State) : ∀ t, execPressFlush s = .next t → t.apart = s.apart := by
  intro t h; unfold execPressFlush at h
  rcases h
  simp only [apart_State_flushPress, apply_ite State.apart, ite_self, eq_self]

theorem apart_execPowerCycleMessageResend (s : State) : ∀ t, execPowerCycleMessageResend s = .next t → t.apart = s.apart := by
  intro t h; unfold execPowerCycleMessageResend at h
  rcases h
  simp only [apart_State_sendPwr, apply_ite State.apart, ite_self, eq_self]

end Sys2Proof.Machine
end

