-- ==== Sys2Proof/Laws/Calm.lean ====
section
/-!
SUPPORT. Bring-up, life-cycle and debug state: no operation below changes it. One law for each operation and each command of that
kind; the commands that may change it are those of the reset, boot, life-cycle and breach rules.
-/
set_option linter.unusedSimpArgs false
set_option linter.unusedVariables false
set_option linter.unusedTactic false
set_option linter.unreachableTactic false
namespace Sys2Proof.Machine

/-- The unit that the operations of this file leave as it is. -/
def State.calm (s : State) : Boot := s.boot

theorem calm_State_modObs (f) (s : State) : (State.modObs f s).calm = s.calm := rfl

theorem calm_State_modSg (f) (s : State) : (State.modSg f s).calm = s.calm := rfl

theorem calm_State_modPins (f) (s : State) : (State.modPins f s).calm = s.calm := rfl

theorem calm_State_modCmd (f) (s : State) : (State.modCmd f s).calm = s.calm := rfl

theorem calm_State_modKey (f) (s : State) : (State.modKey f s).calm = s.calm := rfl

theorem calm_State_modObju (f) (s : State) : (State.modObju f s).calm = s.calm := rfl

theorem calm_State_modAtt (f) (s : State) : (State.modAtt f s).calm = s.calm := rfl

theorem calm_State_modRegf (f) (s : State) : (State.modRegf f s).calm = s.calm := rfl

theorem calm_State_modLnk (f) (s : State) : (State.modLnk f s).calm = s.calm := rfl

theorem calm_State_modDt (f) (s : State) : (State.modDt f s).calm = s.calm := rfl

theorem calm_State_modRst (f) (s : State) : (State.modRst f s).calm = s.calm := rfl

theorem calm_State_modShare (f) (s : State) : (State.modShare f s).calm = s.calm := rfl

theorem calm_State_modRem (f) (s : State) : (State.modRem f s).calm = s.calm := rfl

theorem calm_State_modHst (f) (s : State) : (State.modHst f s).calm = s.calm := rfl

theorem calm_State_emit (x) (s : State) : (s.emit x).calm = s.calm := rfl

theorem calm_State_used (s : State) : (s.used).calm = s.calm := rfl

theorem calm_foldl {α} (f : State → α → State) (l : List α) (s : State) (h : ∀ t x, (f t x).calm = t.calm) : (l.foldl f s).calm = s.calm := by
  induction l generalizing s with
  | nil => rfl
  | cons a l ih => exact (ih (f s a)).trans (h s a)

theorem calm_foldFst {α β} (f : State × β → α → State × β) (l : List α) (x : State × β) (h : ∀ x k, (f x k).1.calm = x.1.calm) :
    (l.foldl f x).1.calm = x.1.calm := by
  induction l generalizing x with
  | nil => rfl
  | cons a l ih => exact (ih (f x a)).trans (h x a)

theorem calm_each {α} (l : List α) (f : α → State → State) (s : State) (h : ∀ x t, (f x t).calm = t.calm) : (each l f s).calm = s.calm := by
  unfold each
  induction l generalizing s with
  | nil => rfl
  | cons a l ih => exact (ih (f a s)).trans (h a s)

theorem calm_when (b) (f : State → State) (s : State) (h : ∀ t, (f t).calm = t.calm) : (when b f s).calm = s.calm := by
  unfold when; split
  · exact h s
  · rfl

theorem calm_State_setReg (a1) (a2) (s : State) : (State.setReg a1 a2 s).calm = s.calm := by
  unfold State.setReg
  simp only [calm_State_modRegf, eq_self]

theorem calm_State_setFld (a1) (a2) (a3) (a4) (s : State) : (State.setFld a1 a2 a3 a4 s).calm = s.calm := by
  unfold State.setFld
  simp only [calm_State_setReg, eq_self]

theorem calm_State_flag (a1) (a2) (s : State) : (State.flag a1 a2 s).calm = s.calm := by
  unfold State.flag
  simp only [calm_State_setReg, eq_self]

theorem calm_State_count (a1) (a2) (a3) (a4) (s : State) : (State.count a1 a2 a3 a4 s).calm = s.calm := by
  unfold State.count
  simp only [calm_State_setFld, eq_self]

theorem calm_State_busErr (a1) (s : State) : (State.busErr a1 s).calm = s.calm := by
  unfold State.busErr
  simp only [calm_State_flag, calm_State_setReg, calm_State_modObs, apply_ite State.calm, ite_self, eq_self]

theorem calm_State_modPart (a1) (a2) (s : State) : (State.modPart a1 a2 s).calm = s.calm := by
  unfold State.modPart
  simp only [calm_State_modAtt, eq_self]

theorem calm_State_glob (a1) (a2) (s : State) : (State.glob a1 a2 s).calm = s.calm := by
  unfold State.glob
  simp only [calm_State_modObs, eq_self]

theorem calm_State_cntr (a1) (a2) (a3) (s : State) : (State.cntr a1 a2 a3 s).calm = s.calm := by
  unfold State.cntr
  simp only [calm_State_glob, calm_State_modObs, apply_ite State.calm, ite_self, eq_self]

theorem calm_State_zeroCntrs (a1) (s : State) : (State.zeroCntrs a1 s).calm = s.calm := by
  unfold State.zeroCntrs
  simp only [calm_State_modObs, eq_self]

theorem calm_State_pressLoss (s : State) : (State.pressLoss s).calm = s.calm := by
  unfold State.pressLoss
  simp only [calm_State_modObs, calm_State_glob, calm_State_count, eq_self]

theorem calm_State_pressW (a1) (a2) (a3) (a4) (a5) (a6) (s : State) : (State.pressW a1 a2 a3 a4 a5 a6 s).calm = s.calm := by
  unfold State.pressW
  simp only [calm_State_pressLoss, calm_State_glob, calm_State_modObs, apply_ite State.calm, ite_self, eq_self]

theorem calm_State_press (a1) (a2) (a3) (a4) (s : State) : (State.press a1 a2 a3 a4 s).calm = s.calm := by
  unfold State.press
  simp only [calm_State_used, calm_State_pressW, eq_self, calm_State_used]

theorem calm_State_setFreeze (a1) (s : State) : (State.setFreeze a1 s).calm = s.calm := by
  unfold State.setFreeze
  simp only [calm_State_modObs, eq_self]

theorem calm_State_freezePress (a1) (a2) (a3) (a4) (a5) (s : State) : (State.freezePress a1 a2 a3 a4 a5 s).calm = s.calm := by
  unfold State.freezePress
  simp only [calm_State_setFreeze, calm_State_used, calm_State_pressW, eq_self, calm_State_used]

theorem calm_State_unfreeze (a1) (a2) (a3) (s : State) : (State.unfreeze a1 a2 a3 s).calm = s.calm := by
  unfold State.unfreeze
  simp only [calm_State_modObs, calm_State_pressW, apply_ite State.calm, ite_self, eq_self]

theorem calm_State_dtEnter (a1) (s : State) : (State.dtEnter a1 s).calm = s.calm := by
  unfold State.dtEnter
  simp only [calm_State_press, calm_State_modDt, apply_ite State.calm, ite_self, eq_self]

theorem calm_State_modPtp (a1) (a2) (s : State) : (State.modPtp a1 a2 s).calm = s.calm := by
  unfold State.modPtp
  simp only [calm_State_modDt, eq_self]

theorem calm_State_modUnit (a1) (a2) (s : State) : (State.modUnit a1 a2 s).calm = s.calm := by
  unfold State.modUnit
  simp only [calm_State_modShare, eq_self]

theorem calm_State_wants (a1) (s : State) : (State.wants a1 s).calm = s.calm := by
  unfold State.wants
  repeat' (first | with_reducible rfl | (simp only [calm_State_modUnit, apply_ite State.calm, apply_ite Prod.fst, ite_self, implies_true, eq_self, calm_foldl, calm_each, calm_when, calm_State_emit, calm_State_used]; done) | (simp only [calm_State_modUnit, apply_ite State.calm, apply_ite Prod.fst, ite_self, implies_true, eq_self, calm_foldl, calm_each, calm_when, calm_State_emit, calm_State_used]) | split | (refine (calm_each _ _ _ (fun x t => ?_)).trans ?_) | (refine (calm_when _ _ _ (fun t => ?_)).trans ?_) | (refine (calm_foldl _ _ _ (fun t x => ?_)).trans ?_) | (rename_i h; refine (congrArg (fun x => State.calm (Prod.fst x)) h).symm.trans ?_; simp only [calm_State_modUnit, apply_ite State.calm, apply_ite Prod.fst, ite_self, implies_true, eq_self, calm_foldl, calm_each, calm_when, calm_State_emit, calm_State_used]; done) | (refine (calm_foldFst _ _ _ (fun x k => ?_)).trans ?_) | intro x)

theorem calm_State_groupWork (a1) (a2) (s : State) : (State.groupWork a1 a2 s).calm = s.calm := by
  unfold State.groupWork
  simp only [calm_State_wants, calm_State_modShare, apply_ite State.calm, ite_self, eq_self]

theorem calm_State_setSlot (a1) (a2) (s : State) : (State.setSlot a1 a2 s).calm = s.calm := by
  unfold State.setSlot
  simp only [calm_State_modKey, eq_self]

theorem calm_State_modSlot (a1) (a2) (s : State) : (State.modSlot a1 a2 s).calm = s.calm := by
  unfold State.modSlot
  simp only [calm_State_setSlot, eq_self]

theorem calm_State_burn (a1) (a2) (s : State) : (State.burn a1 a2 s).calm = s.calm := by
  unfold State.burn
  rfl

theorem calm_State_fill (a1) (a2) (a3) (a4) (a5) (a6) (a7) (a8) (a9) (s : State) : (State.fill a1 a2 a3 a4 a5 a6 a7 a8 a9 s).calm = s.calm := by
  unfold State.fill
  simp only [calm_State_setSlot, eq_self]

theorem calm_State_dropDkc (a1) (s : State) : (State.dropDkc a1 s).calm = s.calm := by
  unfold State.dropDkc
  simp only [calm_State_modKey, eq_self]

theorem calm_State_dropTag (a1) (s : State) : (State.dropTag a1 s).calm = s.calm := by
  unfold State.dropTag
  simp only [calm_State_modKey, eq_self]

theorem calm_State_retire (a1) (s : State) : (State.retire a1 s).calm = s.calm := by
  unfold State.retire
  simp only [calm_State_modKey, calm_State_dropDkc, calm_State_modSlot, apply_ite State.calm, ite_self, eq_self]

theorem calm_State_refillSlot (a1) (s : State) : (State.refillSlot a1 s).calm = s.calm := by
  unfold State.refillSlot
  repeat' (first | with_reducible rfl | (simp only [calm_State_modKey, calm_State_fill, apply_ite State.calm, apply_ite Prod.fst, ite_self, implies_true, eq_self, calm_foldl, calm_each, calm_when, calm_State_emit, calm_State_used]; done) | (simp only [calm_State_modKey, calm_State_fill, apply_ite State.calm, apply_ite Prod.fst, ite_self, implies_true, eq_self, calm_foldl, calm_each, calm_when, calm_State_emit, calm_State_used]) | split | (refine (calm_each _ _ _ (fun x t => ?_)).trans ?_) | (refine (calm_when _ _ _ (fun t => ?_)).trans ?_) | (refine (calm_foldl _ _ _ (fun t x => ?_)).trans ?_) | (rename_i h; refine (congrArg (fun x => State.calm (Prod.fst x)) h).symm.trans ?_; simp only [calm_State_modKey, calm_State_fill, apply_ite State.calm, apply_ite Prod.fst, ite_self, implies_true, eq_self, calm_foldl, calm_each, calm_when, calm_State_emit, calm_State_used]; done) | (refine (calm_foldFst _ _ _ (fun x k => ?_)).trans ?_) | intro x)

theorem calm_State_finishRetire (a1) (s : State) : (State.finishRetire a1 s).calm = s.calm := by
  unfold State.finishRetire
  simp only [calm_State_modSlot, calm_State_refillSlot, calm_State_setSlot, apply_ite State.calm, ite_self, eq_self]

theorem calm_State_settleSlot (a1) (s : State) : (State.settleSlot a1 s).calm = s.calm := by
  unfold State.settleSlot
  simp only [calm_State_finishRetire, apply_ite State.calm, ite_self, eq_self]

theorem calm_State_retireFor (a1) (a2) (s : State) : (State.retireFor a1 a2 s).calm = s.calm := by
  unfold State.retireFor
  simp only [calm_State_modKey, calm_State_retire, eq_self]

theorem calm_State_retireAll (a1) (s : State) : (State.retireAll a1 s).calm = s.calm := by
  unfold State.retireAll
  simp only [calm_State_modKey, calm_each, calm_State_retire, implies_true, eq_self, calm_each]

theorem calm_State_renew (a1) (a2) (a3) (a4) (s : State) : (State.renew a1 a2 a3 a4 s).calm = s.calm := by
  unfold State.renew
  simp only [calm_State_fill, calm_State_settleSlot, calm_State_retire, eq_self]

theorem calm_State_wipeMemSlots (s : State) : (State.wipeMemSlots s).calm = s.calm := by
  unfold State.wipeMemSlots
  simp only [calm_each, calm_State_finishRetire, calm_State_retire, calm_State_modKey, implies_true, eq_self, calm_each]

theorem calm_State_clearSlots (a1) (s : State) : (State.clearSlots a1 s).calm = s.calm := by
  unfold State.clearSlots
  simp only [calm_State_modKey, eq_self]

theorem calm_State_pkeAdd (a1) (s : State) : (State.pkeAdd a1 s).calm = s.calm := by
  unfold State.pkeAdd
  simp only [calm_State_modKey, eq_self]

theorem calm_State_setAnchor (a1) (a2) (s : State) : (State.setAnchor a1 a2 s).calm = s.calm := by
  unfold State.setAnchor
  simp only [calm_State_modSg, eq_self]

theorem calm_State_useAnchor (a1) (s : State) : (State.useAnchor a1 s).1.calm = s.calm := by
  unfold State.useAnchor
  simp only [calm_State_press, calm_State_glob, calm_State_setAnchor, apply_ite State.calm, apply_ite Prod.fst, ite_self, eq_self]

theorem calm_State_wiltAnchor (a1) (s : State) : (State.wiltAnchor a1 s).calm = s.calm := by
  unfold State.wiltAnchor
  simp only [calm_State_setAnchor, calm_State_modSg, calm_State_cntr, calm_State_press, eq_self]

theorem calm_State_useRegion (a1) (s : State) : (State.useRegion a1 s).1.calm = s.calm := by
  unfold State.useRegion
  simp only [calm_State_useAnchor, calm_State_cntr, calm_State_wiltAnchor, apply_ite State.calm, apply_ite Prod.fst, ite_self, eq_self]

theorem calm_State_modLine (a1) (a2) (s : State) : (State.modLine a1 a2 s).calm = s.calm := by
  unfold State.modLine
  simp only [calm_State_modSg, eq_self]

theorem calm_State_insertLine (a1) (a2) (s : State) : (State.insertLine a1 a2 s).calm = s.calm := by
  unfold State.insertLine
  repeat' (first | with_reducible rfl | (simp only [calm_State_modSg, apply_ite State.calm, apply_ite Prod.fst, ite_self, implies_true, eq_self, calm_foldl, calm_each, calm_when, calm_State_emit, calm_State_used]; done) | (simp only [calm_State_modSg, apply_ite State.calm, apply_ite Prod.fst, ite_self, implies_true, eq_self, calm_foldl, calm_each, calm_when, calm_State_emit, calm_State_used]) | split | (refine (calm_each _ _ _ (fun x t => ?_)).trans ?_) | (refine (calm_when _ _ _ (fun t => ?_)).trans ?_) | (refine (calm_foldl _ _ _ (fun t x => ?_)).trans ?_) | (rename_i h; refine (congrArg (fun x => State.calm (Prod.fst x)) h).symm.trans ?_; simp only [calm_State_modSg, apply_ite State.calm, apply_ite Prod.fst, ite_self, implies_true, eq_self, calm_foldl, calm_each, calm_when, calm_State_emit, calm_State_used]; done) | (refine (calm_foldFst _ _ _ (fun x k => ?_)).trans ?_) | intro x)

theorem calm_State_touchLine (a1) (s : State) : (State.touchLine a1 s).calm = s.calm := by
  unfold State.touchLine
  repeat' (first | with_reducible rfl | (simp only [calm_State_modSg, apply_ite State.calm, apply_ite Prod.fst, ite_self, implies_true, eq_self, calm_foldl, calm_each, calm_when, calm_State_emit, calm_State_used]; done) | (simp only [calm_State_modSg, apply_ite State.calm, apply_ite Prod.fst, ite_self, implies_true, eq_self, calm_foldl, calm_each, calm_when, calm_State_emit, calm_State_used]) | split | (refine (calm_each _ _ _ (fun x t => ?_)).trans ?_) | (refine (calm_when _ _ _ (fun t => ?_)).trans ?_) | (refine (calm_foldl _ _ _ (fun t x => ?_)).trans ?_) | (rename_i h; refine (congrArg (fun x => State.calm (Prod.fst x)) h).symm.trans ?_; simp only [calm_State_modSg, apply_ite State.calm, apply_ite Prod.fst, ite_self, implies_true, eq_self, calm_foldl, calm_each, calm_when, calm_State_emit, calm_State_used]; done) | (refine (calm_foldFst _ _ _ (fun x k => ?_)).trans ?_) | intro x)

theorem calm_State_dropRegion (a1) (s : State) : (State.dropRegion a1 s).calm = s.calm := by
  unfold State.dropRegion
  simp only [calm_State_modSg, eq_self]

theorem calm_State_msQRead (a1) (s : State) : (State.msQRead a1 s).calm = s.calm := by
  unfold State.msQRead
  simp only [calm_State_emit, apply_ite State.calm, ite_self, eq_self, calm_State_emit]

theorem calm_State_msQWrite (a1) (s : State) : (State.msQWrite a1 s).calm = s.calm := by
  unfold State.msQWrite
  simp only [calm_State_emit, apply_ite State.calm, ite_self, eq_self, calm_State_emit]

theorem calm_State_msRead (a1) (a2) (a3) (a4) (a5) (s : State) : (State.msRead a1 a2 a3 a4 a5 s).calm = s.calm := by
  unfold State.msRead
  simp only [calm_State_msQRead, calm_State_modSg, eq_self]

theorem calm_State_msWrite (a1) (a2) (a3) (a4) (a5) (a6) (a7) (s : State) : (State.msWrite a1 a2 a3 a4 a5 a6 a7 s).calm = s.calm := by
  unfold State.msWrite
  simp only [calm_State_msQWrite, calm_State_modSg, eq_self]

theorem calm_State_msNext (a1) (a2) (s : State) : (State.msNext a1 a2 s).calm = s.calm := by
  unfold State.msNext
  repeat' (first | with_reducible rfl | (simp only [calm_State_msQRead, calm_State_modSg, calm_State_msQWrite, apply_ite State.calm, apply_ite Prod.fst, ite_self, implies_true, eq_self, calm_foldl, calm_each, calm_when, calm_State_emit, calm_State_used]; done) | (simp only [calm_State_msQRead, calm_State_modSg, calm_State_msQWrite, apply_ite State.calm, apply_ite Prod.fst, ite_self, implies_true, eq_self, calm_foldl, calm_each, calm_when, calm_State_emit, calm_State_used]) | split | (refine (calm_each _ _ _ (fun x t => ?_)).trans ?_) | (refine (calm_when _ _ _ (fun t => ?_)).trans ?_) | (refine (calm_foldl _ _ _ (fun t x => ?_)).trans ?_) | (rename_i h; refine (congrArg (fun x => State.calm (Prod.fst x)) h).symm.trans ?_; simp only [calm_State_msQRead, calm_State_modSg, calm_State_msQWrite, apply_ite State.calm, apply_ite Prod.fst, ite_self, implies_true, eq_self, calm_foldl, calm_each, calm_when, calm_State_emit, calm_State_used]; done) | (refine (calm_foldFst _ _ _ (fun x k => ?_)).trans ?_) | intro x)

theorem calm_State_fetchLine (a1) (a2) (s : State) : (State.fetchLine a1 a2 s).calm = s.calm := by
  unfold State.fetchLine
  repeat' (first | with_reducible rfl | (simp only [calm_State_insertLine, calm_State_cntr, calm_State_glob, calm_State_msRead, apply_ite State.calm, apply_ite Prod.fst, ite_self, implies_true, eq_self, calm_foldl, calm_each, calm_when, calm_State_emit, calm_State_used]; done) | (simp only [calm_State_insertLine, calm_State_cntr, calm_State_glob, calm_State_msRead, apply_ite State.calm, apply_ite Prod.fst, ite_self, implies_true, eq_self, calm_foldl, calm_each, calm_when, calm_State_emit, calm_State_used]) | split | (refine (calm_each _ _ _ (fun x t => ?_)).trans ?_) | (refine (calm_when _ _ _ (fun t => ?_)).trans ?_) | (refine (calm_foldl _ _ _ (fun t x => ?_)).trans ?_) | (rename_i h; refine (congrArg (fun x => State.calm (Prod.fst x)) h).symm.trans ?_; simp only [calm_State_insertLine, calm_State_cntr, calm_State_glob, calm_State_msRead, apply_ite State.calm, apply_ite Prod.fst, ite_self, implies_true, eq_self, calm_foldl, calm_each, calm_when, calm_State_emit, calm_State_used]; done) | (refine (calm_foldFst _ _ _ (fun x k => ?_)).trans ?_) | intro x)

theorem calm_State_needLine (a1) (a2) (s : State) : (State.needLine a1 a2 s).1.calm = s.calm := by
  unfold State.needLine
  repeat' (first | with_reducible rfl | (simp only [calm_State_touchLine, calm_State_fetchLine, apply_ite State.calm, apply_ite Prod.fst, ite_self, implies_true, eq_self, calm_foldl, calm_each, calm_when, calm_State_emit, calm_State_used]; done) | (simp only [calm_State_touchLine, calm_State_fetchLine, apply_ite State.calm, apply_ite Prod.fst, ite_self, implies_true, eq_self, calm_foldl, calm_each, calm_when, calm_State_emit, calm_State_used]) | split | (refine (calm_each _ _ _ (fun x t => ?_)).trans ?_) | (refine (calm_when _ _ _ (fun t => ?_)).trans ?_) | (refine (calm_foldl _ _ _ (fun t x => ?_)).trans ?_) | (rename_i h; refine (congrArg (fun x => State.calm (Prod.fst x)) h).symm.trans ?_; simp only [calm_State_touchLine, calm_State_fetchLine, apply_ite State.calm, apply_ite Prod.fst, ite_self, implies_true, eq_self, calm_foldl, calm_each, calm_when, calm_State_emit, calm_State_used]; done) | (refine (calm_foldFst _ _ _ (fun x k => ?_)).trans ?_) | intro x)

theorem calm_walkLevel (a1) (a2) (a3) (a4) (x : State × Option DWord × List LineId) (l) :
    (State.walkLevel a1 a2 a3 a4 x l).1.calm = x.1.calm := by
  obtain ⟨s, o, ls⟩ := x
  unfold State.walkLevel
  simp only []
  split
  · exact calm_State_needLine ..
  · split
    · split
      · exact (calm_State_insertLine ..).trans (calm_State_insertLine ..)
      · exact calm_State_insertLine ..
    · exact (calm_State_needLine ..).trans (calm_State_fetchLine ..)

theorem calm_walkFold (a1) (a2) (a3) (a4) (l : List Nat) (x : State × Option DWord × List LineId) :
    (l.foldl (State.walkLevel a1 a2 a3 a4) x).1.calm = x.1.calm := by
  induction l generalizing x with
  | nil => rfl
  | cons a l ih => exact (ih _).trans (calm_walkLevel ..)

theorem calm_State_walkFrom (a1) (a2) (a3) (a4) (a5) (s : State) : (State.walkFrom a1 a2 a3 a4 a5 s).1.calm = s.calm := by
  unfold State.walkFrom
  exact (calm_walkFold ..).trans (calm_each _ _ _ fun _ _ => calm_State_touchLine ..)

theorem calm_State_walk (a1) (a2) (a3) (a4) (s : State) : (State.walk a1 a2 a3 a4 s).1.calm = s.calm := calm_State_walkFrom ..

theorem calm_State_useKey (a1) (a2) (s : State) : (State.useKey a1 a2 s).calm = s.calm := by
  unfold State.useKey
  repeat' (first | with_reducible rfl | (simp only [calm_State_modKey, calm_State_cntr, apply_ite State.calm, apply_ite Prod.fst, ite_self, implies_true, eq_self, calm_foldl, calm_each, calm_when, calm_State_emit, calm_State_used]; done) | (simp only [calm_State_modKey, calm_State_cntr, apply_ite State.calm, apply_ite Prod.fst, ite_self, implies_true, eq_self, calm_foldl, calm_each, calm_when, calm_State_emit, calm_State_used]) | split | (refine (calm_each _ _ _ (fun x t => ?_)).trans ?_) | (refine (calm_when _ _ _ (fun t => ?_)).trans ?_) | (refine (calm_foldl _ _ _ (fun t x => ?_)).trans ?_) | (rename_i h; refine (congrArg (fun x => State.calm (Prod.fst x)) h).symm.trans ?_; simp only [calm_State_modKey, calm_State_cntr, apply_ite State.calm, apply_ite Prod.fst, ite_self, implies_true, eq_self, calm_foldl, calm_each, calm_when, calm_State_emit, calm_State_used]; done) | (refine (calm_foldFst _ _ _ (fun x k => ?_)).trans ?_) | intro x)

theorem calm_State_insertKey (a1) (a2) (s : State) : (State.insertKey a1 a2 s).calm = s.calm := by
  unfold State.insertKey
  repeat' (first | with_reducible rfl | (simp only [calm_State_modKey, apply_ite State.calm, apply_ite Prod.fst, ite_self, implies_true, eq_self, calm_foldl, calm_each, calm_when, calm_State_emit, calm_State_used]; done) | (simp only [calm_State_modKey, apply_ite State.calm, apply_ite Prod.fst, ite_self, implies_true, eq_self, calm_foldl, calm_each, calm_when, calm_State_emit, calm_State_used]) | split | (refine (calm_each _ _ _ (fun x t => ?_)).trans ?_) | (refine (calm_when _ _ _ (fun t => ?_)).trans ?_) | (refine (calm_foldl _ _ _ (fun t x => ?_)).trans ?_) | (rename_i h; refine (congrArg (fun x => State.calm (Prod.fst x)) h).symm.trans ?_; simp only [calm_State_modKey, apply_ite State.calm, apply_ite Prod.fst, ite_self, implies_true, eq_self, calm_foldl, calm_each, calm_when, calm_State_emit, calm_State_used]; done) | (refine (calm_foldFst _ _ _ (fun x k => ?_)).trans ?_) | intro x)

theorem calm_State_setAcc (a1) (s : State) : (State.setAcc a1 s).calm = s.calm := by
  unfold State.setAcc
  simp only [calm_State_modSg, eq_self]

theorem calm_State_dropAcc (a1) (s : State) : (State.dropAcc a1 s).calm = s.calm := by
  unfold State.dropAcc
  simp only [calm_State_modSg, eq_self]

theorem calm_State_fetch (a1) (s : State) : (State.fetch a1 s).calm = s.calm := by
  unfold State.fetch
  repeat' (first | with_reducible rfl | (simp only [calm_State_useKey, calm_State_walk, calm_State_needLine, calm_State_msRead, calm_State_groupWork, calm_State_setAcc, apply_ite State.calm, apply_ite Prod.fst, ite_self, implies_true, eq_self, calm_foldl, calm_each, calm_when, calm_State_emit, calm_State_used]; done) | (simp only [calm_State_useKey, calm_State_walk, calm_State_needLine, calm_State_msRead, calm_State_groupWork, calm_State_setAcc, apply_ite State.calm, apply_ite Prod.fst, ite_self, implies_true, eq_self, calm_foldl, calm_each, calm_when, calm_State_emit, calm_State_used]) | split | (refine (calm_each _ _ _ (fun x t => ?_)).trans ?_) | (refine (calm_when _ _ _ (fun t => ?_)).trans ?_) | (refine (calm_foldl _ _ _ (fun t x => ?_)).trans ?_) | (rename_i h; refine (congrArg (fun x => State.calm (Prod.fst x)) h).symm.trans ?_; simp only [calm_State_useKey, calm_State_walk, calm_State_needLine, calm_State_msRead, calm_State_groupWork, calm_State_setAcc, apply_ite State.calm, apply_ite Prod.fst, ite_self, implies_true, eq_self, calm_foldl, calm_each, calm_when, calm_State_emit, calm_State_used]; done) | (refine (calm_foldFst _ _ _ (fun x k => ?_)).trans ?_) | intro x)

theorem calm_State_issue (a1) (s : State) : (State.issue a1 s).calm = s.calm := by
  unfold State.issue
  simp only [calm_State_useRegion, calm_State_setAcc, calm_State_fetch, apply_ite State.calm, ite_self, eq_self]

theorem calm_State_takeNo (s : State) : (State.takeNo s).calm = s.calm := by
  unfold State.takeNo
  simp only [calm_State_modSg, eq_self]

theorem calm_State_startAs (a1) (a2) (s : State) : (State.startAs a1 a2 s).calm = s.calm := by
  unfold State.startAs
  simp only [calm_State_modSg, calm_State_issue, calm_State_glob, apply_ite State.calm, ite_self, eq_self]

theorem calm_State_start (a1) (s : State) : (State.start a1 s).calm = s.calm := by
  unfold State.start
  simp only [calm_State_startAs, calm_State_takeNo, eq_self]

theorem calm_State_plotLook (a1) (a2) (s : State) : (State.plotLook a1 a2 s).1.calm = s.calm := by
  unfold State.plotLook
  simp only [calm_State_modSg, apply_ite State.calm, apply_ite Prod.fst, ite_self, eq_self]

theorem calm_State_innerPlot (a1) (a2) (s : State) : (State.innerPlot a1 a2 s).1.calm = s.calm := by
  unfold State.innerPlot
  simp only [calm_State_plotLook, apply_ite State.calm, apply_ite Prod.fst, ite_self, eq_self]

theorem calm_State_innerPlace (a1) (a2) (s : State) : (State.innerPlace a1 a2 s).1.calm = s.calm := by
  unfold State.innerPlace
  repeat' (first | with_reducible rfl | (simp only [calm_State_press, calm_State_useRegion, calm_State_innerPlot, apply_ite State.calm, apply_ite Prod.fst, ite_self, implies_true, eq_self, calm_foldl, calm_each, calm_when, calm_State_emit, calm_State_used]; done) | (simp only [calm_State_press, calm_State_useRegion, calm_State_innerPlot, apply_ite State.calm, apply_ite Prod.fst, ite_self, implies_true, eq_self, calm_foldl, calm_each, calm_when, calm_State_emit, calm_State_used]) | split | (refine (calm_each _ _ _ (fun x t => ?_)).trans ?_) | (refine (calm_when _ _ _ (fun t => ?_)).trans ?_) | (refine (calm_foldl _ _ _ (fun t x => ?_)).trans ?_) | (rename_i h; refine (congrArg (fun x => State.calm (Prod.fst x)) h).symm.trans ?_; simp only [calm_State_press, calm_State_useRegion, calm_State_innerPlot, apply_ite State.calm, apply_ite Prod.fst, ite_self, implies_true, eq_self, calm_foldl, calm_each, calm_when, calm_State_emit, calm_State_used]; done) | (refine (calm_foldFst _ _ _ (fun x k => ?_)).trans ?_) | intro x)

theorem calm_State_plotSays (a1) (a2) (a3) (s : State) : (State.plotSays a1 a2 a3 s).calm = s.calm := by
  unfold State.plotSays
  repeat' (first | with_reducible rfl | (simp only [calm_State_modSg, calm_State_setAcc, calm_State_useKey, apply_ite State.calm, apply_ite Prod.fst, ite_self, implies_true, eq_self, calm_foldl, calm_each, calm_when, calm_State_emit, calm_State_used]; done) | (simp only [calm_State_modSg, calm_State_setAcc, calm_State_useKey, apply_ite State.calm, apply_ite Prod.fst, ite_self, implies_true, eq_self, calm_foldl, calm_each, calm_when, calm_State_emit, calm_State_used]) | split | (refine (calm_each _ _ _ (fun x t => ?_)).trans ?_) | (refine (calm_when _ _ _ (fun t => ?_)).trans ?_) | (refine (calm_foldl _ _ _ (fun t x => ?_)).trans ?_) | (rename_i h; refine (congrArg (fun x => State.calm (Prod.fst x)) h).symm.trans ?_; simp only [calm_State_modSg, calm_State_setAcc, calm_State_useKey, apply_ite State.calm, apply_ite Prod.fst, ite_self, implies_true, eq_self, calm_foldl, calm_each, calm_when, calm_State_emit, calm_State_used]; done) | (refine (calm_foldFst _ _ _ (fun x k => ?_)).trans ?_) | intro x)

theorem calm_State_readPlot (a1) (a2) (a3) (s : State) : (State.readPlot a1 a2 a3 s).calm = s.calm := by
  unfold State.readPlot
  repeat' (first | with_reducible rfl | (simp only [calm_State_innerPlace, calm_State_plotSays, calm_State_start, apply_ite State.calm, apply_ite Prod.fst, ite_self, implies_true, eq_self, calm_foldl, calm_each, calm_when, calm_State_emit, calm_State_used]; done) | (simp only [calm_State_innerPlace, calm_State_plotSays, calm_State_start, apply_ite State.calm, apply_ite Prod.fst, ite_self, implies_true, eq_self, calm_foldl, calm_each, calm_when, calm_State_emit, calm_State_used]) | split | (refine (calm_each _ _ _ (fun x t => ?_)).trans ?_) | (refine (calm_when _ _ _ (fun t => ?_)).trans ?_) | (refine (calm_foldl _ _ _ (fun t x => ?_)).trans ?_) | (rename_i h; refine (congrArg (fun x => State.calm (Prod.fst x)) h).symm.trans ?_; simp only [calm_State_innerPlace, calm_State_plotSays, calm_State_start, apply_ite State.calm, apply_ite Prod.fst, ite_self, implies_true, eq_self, calm_foldl, calm_each, calm_when, calm_State_emit, calm_State_used]; done) | (refine (calm_foldFst _ _ _ (fun x k => ?_)).trans ?_) | intro x)

theorem calm_State_startPlotAs (a1) (a2) (s : State) : (State.startPlotAs a1 a2 s).calm = s.calm := by
  unfold State.startPlotAs
  simp only [calm_State_startAs, calm_State_readPlot, apply_ite State.calm, ite_self, eq_self]

theorem calm_State_startPlot (a1) (s : State) : (State.startPlot a1 s).calm = s.calm := by
  unfold State.startPlot
  simp only [calm_State_startPlotAs, calm_State_takeNo, eq_self]

theorem calm_State_innerAcc (a1) (a2) (a3) (a4) (a5) (s : State) : (State.innerAcc a1 a2 a3 a4 a5 s).1.calm = s.calm := by
  unfold State.innerAcc
  repeat' (first | with_reducible rfl | (simp only [calm_State_innerPlace, calm_State_startPlot, apply_ite State.calm, apply_ite Prod.fst, ite_self, implies_true, eq_self, calm_foldl, calm_each, calm_when, calm_State_emit, calm_State_used]; done) | (simp only [calm_State_innerPlace, calm_State_startPlot, apply_ite State.calm, apply_ite Prod.fst, ite_self, implies_true, eq_self, calm_foldl, calm_each, calm_when, calm_State_emit, calm_State_used]) | split | (refine (calm_each _ _ _ (fun x t => ?_)).trans ?_) | (refine (calm_when _ _ _ (fun t => ?_)).trans ?_) | (refine (calm_foldl _ _ _ (fun t x => ?_)).trans ?_) | (rename_i h; refine (congrArg (fun x => State.calm (Prod.fst x)) h).symm.trans ?_; simp only [calm_State_innerPlace, calm_State_startPlot, apply_ite State.calm, apply_ite Prod.fst, ite_self, implies_true, eq_self, calm_foldl, calm_each, calm_when, calm_State_emit, calm_State_used]; done) | (refine (calm_foldFst _ _ _ (fun x k => ?_)).trans ?_) | intro x)

theorem calm_State_innerSect (a1) (a2) (a3) (a4) (s : State) : (State.innerSect a1 a2 a3 a4 s).1.calm = s.calm := by
  unfold State.innerSect
  simp only [calm_State_innerAcc, eq_self]

theorem calm_State_innerWrite (a1) (a2) (a3) (s : State) : (State.innerWrite a1 a2 a3 s).1.calm = s.calm := by
  unfold State.innerWrite
  simp only [calm_State_innerSect, eq_self]

theorem calm_State_innerRead (a1) (a2) (a3) (s : State) : (State.innerRead a1 a2 a3 s).1.calm = s.calm := by
  unfold State.innerRead
  repeat' (first | with_reducible rfl | (simp only [calm_State_innerAcc, apply_ite State.calm, apply_ite Prod.fst, ite_self, implies_true, eq_self, calm_foldl, calm_each, calm_when, calm_State_emit, calm_State_used]; done) | (simp only [calm_State_innerAcc, apply_ite State.calm, apply_ite Prod.fst, ite_self, implies_true, eq_self, calm_foldl, calm_each, calm_when, calm_State_emit, calm_State_used]) | split | (refine (calm_each _ _ _ (fun x t => ?_)).trans ?_) | (refine (calm_when _ _ _ (fun t => ?_)).trans ?_) | (refine (calm_foldl _ _ _ (fun t x => ?_)).trans ?_) | (rename_i h; refine (congrArg (fun x => State.calm (Prod.fst x)) h).symm.trans ?_; simp only [calm_State_innerAcc, apply_ite State.calm, apply_ite Prod.fst, ite_self, implies_true, eq_self, calm_foldl, calm_each, calm_when, calm_State_emit, calm_State_used]; done) | (refine (calm_foldFst _ _ _ (fun x k => ?_)).trans ?_) | intro x)

theorem calm_State_modSess (a1) (a2) (a3) (s : State) : (State.modSess a1 a2 a3 s).calm = s.calm := by
  unfold State.modSess
  simp only [calm_State_modLnk, eq_self]

theorem calm_State_modPort (a1) (a2) (s : State) : (State.modPort a1 a2 s).calm = s.calm := by
  unfold State.modPort
  simp only [calm_State_modLnk, eq_self]

theorem calm_State_enqueue (a1) (a2) (s : State) : (State.enqueue a1 a2 s).calm = s.calm := by
  unfold State.enqueue
  simp only [calm_State_modPort, eq_self]

theorem calm_State_refill (a1) (s : State) : (State.refill a1 s).calm = s.calm := by
  unfold State.refill
  simp only [calm_State_modPort, eq_self]

theorem calm_State_broadcast (a1) (a2) (a3) (a4) (s : State) : (State.broadcast a1 a2 a3 a4 s).calm = s.calm := by
  unfold State.broadcast
  simp only [calm_each, calm_State_enqueue, implies_true, eq_self, calm_each]

theorem calm_State_sendFlow (a1) (a2) (a3) (a4) (a5) (a6) (a7) (s : State) : (State.sendFlow a1 a2 a3 a4 a5 a6 a7 s).calm = s.calm := by
  unfold State.sendFlow
  repeat' (first | with_reducible rfl | (simp only [calm_State_enqueue, apply_ite State.calm, apply_ite Prod.fst, ite_self, implies_true, eq_self, calm_foldl, calm_each, calm_when, calm_State_emit, calm_State_used]; done) | (simp only [calm_State_enqueue, apply_ite State.calm, apply_ite Prod.fst, ite_self, implies_true, eq_self, calm_foldl, calm_each, calm_when, calm_State_emit, calm_State_used]) | split | (refine (calm_each _ _ _ (fun x t => ?_)).trans ?_) | (refine (calm_when _ _ _ (fun t => ?_)).trans ?_) | (refine (calm_foldl _ _ _ (fun t x => ?_)).trans ?_) | (rename_i h; refine (congrArg (fun x => State.calm (Prod.fst x)) h).symm.trans ?_; simp only [calm_State_enqueue, apply_ite State.calm, apply_ite Prod.fst, ite_self, implies_true, eq_self, calm_foldl, calm_each, calm_when, calm_State_emit, calm_State_used]; done) | (refine (calm_foldFst _ _ _ (fun x k => ?_)).trans ?_) | intro x)

theorem calm_State_sendTo (a1) (a2) (a3) (a4) (a5) (a6) (s : State) : (State.sendTo a1 a2 a3 a4 a5 a6 s).calm = s.calm := by
  unfold State.sendTo
  simp only [calm_State_sendFlow, eq_self]

theorem calm_State_setRing (a1) (a2) (a3) (s : State) : (State.setRing a1 a2 a3 s).calm = s.calm := by
  unfold State.setRing
  simp only [calm_State_modObs, eq_self]

theorem calm_State_writeSect (a1) (a2) (a3) (s : State) : (State.writeSect a1 a2 a3 s).calm = s.calm := by
  unfold State.writeSect
  repeat' (first | with_reducible rfl | (simp only [calm_State_setRing, calm_State_innerWrite, calm_State_emit, calm_State_cntr, apply_ite State.calm, apply_ite Prod.fst, ite_self, implies_true, eq_self, calm_foldl, calm_each, calm_when, calm_State_emit, calm_State_used]; done) | (simp only [calm_State_setRing, calm_State_innerWrite, calm_State_emit, calm_State_cntr, apply_ite State.calm, apply_ite Prod.fst, ite_self, implies_true, eq_self, calm_foldl, calm_each, calm_when, calm_State_emit, calm_State_used]) | split | (refine (calm_each _ _ _ (fun x t => ?_)).trans ?_) | (refine (calm_when _ _ _ (fun t => ?_)).trans ?_) | (refine (calm_foldl _ _ _ (fun t x => ?_)).trans ?_) | (rename_i h; refine (congrArg (fun x => State.calm (Prod.fst x)) h).symm.trans ?_; simp only [calm_State_setRing, calm_State_innerWrite, calm_State_emit, calm_State_cntr, apply_ite State.calm, apply_ite Prod.fst, ite_self, implies_true, eq_self, calm_foldl, calm_each, calm_when, calm_State_emit, calm_State_used]; done) | (refine (calm_foldFst _ _ _ (fun x k => ?_)).trans ?_) | intro x)

theorem calm_State_writeRing (a1) (a2) (a3) (s : State) : (State.writeRing a1 a2 a3 s).calm = s.calm := by
  unfold State.writeRing
  simp only [calm_State_writeSect, implies_true, eq_self, calm_foldl]

theorem calm_State_formIn (a1) (a2) (a3) (a4) (a5) (a6) (a7) (a8) (s : State) : (State.formIn a1 a2 a3 a4 a5 a6 a7 a8 s).calm = s.calm := by
  unfold State.formIn
  simp only [calm_State_writeRing, calm_when, calm_State_cntr, calm_State_setRing, apply_ite State.calm, ite_self, implies_true, eq_self, calm_when]

theorem calm_State_trace (a1) (a2) (a3) (a4) (a5) (a6) (a7) (s : State) : (State.trace a1 a2 a3 a4 a5 a6 a7 s).calm = s.calm := by
  unfold State.trace
  simp only [calm_each, calm_State_formIn, implies_true, eq_self, calm_each]

theorem calm_State_trigger (a1) (a2) (a3) (s : State) : (State.trigger a1 a2 a3 s).calm = s.calm := by
  unfold State.trigger
  simp only [calm_State_formIn, calm_State_writeRing, calm_State_setRing, apply_ite State.calm, ite_self, eq_self]

theorem calm_State_stopRing (a1) (a2) (s : State) : (State.stopRing a1 a2 s).calm = s.calm := by
  unfold State.stopRing
  simp only [calm_State_formIn, calm_State_writeRing, calm_State_setRing, apply_ite State.calm, ite_self, eq_self]

theorem calm_State_modCtx (a1) (a2) (s : State) : (State.modCtx a1 a2 s).calm = s.calm := by
  unfold State.modCtx
  simp only [calm_State_modObju, eq_self]

theorem calm_State_faultPut (a1) (a2) (s : State) : (State.faultPut a1 a2 s).calm = s.calm := by
  unfold State.faultPut
  simp only [calm_State_innerWrite, calm_State_emit, calm_State_modCtx, calm_State_cntr, apply_ite State.calm, ite_self, eq_self, calm_State_emit]

theorem calm_State_faultOvf (a1) (a2) (s : State) : (State.faultOvf a1 a2 s).calm = s.calm := by
  unfold State.faultOvf
  simp only [calm_State_modCtx, eq_self]

theorem calm_State_faultTo (a1) (a2) (s : State) : (State.faultTo a1 a2 s).calm = s.calm := by
  unfold State.faultTo
  simp only [calm_State_modObju, calm_State_faultOvf, calm_State_faultPut, apply_ite State.calm, ite_self, eq_self]

theorem calm_State_fault (a1) (a2) (a3) (a4) (a5) (a6) (a7) (a8) (s : State) : (State.fault a1 a2 a3 a4 a5 a6 a7 a8 s).calm = s.calm := by
  unfold State.fault
  repeat' (first | with_reducible rfl | (simp only [calm_State_press, calm_State_cntr, calm_State_faultTo, calm_State_trace, calm_each, calm_State_trigger, apply_ite State.calm, apply_ite Prod.fst, ite_self, implies_true, eq_self, calm_foldl, calm_each, calm_when, calm_State_emit, calm_State_used]; done) | (simp only [calm_State_press, calm_State_cntr, calm_State_faultTo, calm_State_trace, calm_each, calm_State_trigger, apply_ite State.calm, apply_ite Prod.fst, ite_self, implies_true, eq_self, calm_foldl, calm_each, calm_when, calm_State_emit, calm_State_used]) | split | (refine (calm_each _ _ _ (fun x t => ?_)).trans ?_) | (refine (calm_when _ _ _ (fun t => ?_)).trans ?_) | (refine (calm_foldl _ _ _ (fun t x => ?_)).trans ?_) | (rename_i h; refine (congrArg (fun x => State.calm (Prod.fst x)) h).symm.trans ?_; simp only [calm_State_press, calm_State_cntr, calm_State_faultTo, calm_State_trace, calm_each, calm_State_trigger, apply_ite State.calm, apply_ite Prod.fst, ite_self, implies_true, eq_self, calm_foldl, calm_each, calm_when, calm_State_emit, calm_State_used]; done) | (refine (calm_foldFst _ _ _ (fun x k => ?_)).trans ?_) | intro x)

theorem calm_State_modQueue (a1) (a2) (s : State) : (State.modQueue a1 a2 s).calm = s.calm := by
  unfold State.modQueue
  simp only [calm_State_modCmd, eq_self]

theorem calm_State_sealRec (a1) (a2) (s : State) : (State.sealRec a1 a2 s).1.calm = s.calm := by
  unfold State.sealRec
  repeat' (first | with_reducible rfl | (simp only [calm_State_modCmd, apply_ite State.calm, apply_ite Prod.fst, ite_self, implies_true, eq_self, calm_foldl, calm_each, calm_when, calm_State_emit, calm_State_used]; done) | (simp only [calm_State_modCmd, apply_ite State.calm, apply_ite Prod.fst, ite_self, implies_true, eq_self, calm_foldl, calm_each, calm_when, calm_State_emit, calm_State_used]) | split | (refine (calm_each _ _ _ (fun x t => ?_)).trans ?_) | (refine (calm_when _ _ _ (fun t => ?_)).trans ?_) | (refine (calm_foldl _ _ _ (fun t x => ?_)).trans ?_) | (rename_i h; refine (congrArg (fun x => State.calm (Prod.fst x)) h).symm.trans ?_; simp only [calm_State_modCmd, apply_ite State.calm, apply_ite Prod.fst, ite_self, implies_true, eq_self, calm_foldl, calm_each, calm_when, calm_State_emit, calm_State_used]; done) | (refine (calm_foldFst _ _ _ (fun x k => ?_)).trans ?_) | intro x)

theorem calm_State_cdmMake (a1) (s : State) : (State.cdmMake a1 s).calm = s.calm := by
  unfold State.cdmMake
  simp only [calm_State_emit, apply_ite State.calm, ite_self, eq_self, calm_State_emit]

theorem calm_State_cdmWrite (a1) (a2) (s : State) : (State.cdmWrite a1 a2 s).calm = s.calm := by
  unfold State.cdmWrite
  simp only [calm_State_cdmMake, calm_State_modCmd, apply_ite State.calm, ite_self, eq_self]

theorem calm_State_cdmRefill (s : State) : (State.cdmRefill s).calm = s.calm := by
  unfold State.cdmRefill
  simp only [calm_each, calm_State_cdmWrite, calm_State_modCmd, implies_true, eq_self, calm_each]

theorem calm_State_deviceReply (a1) (s : State) : (State.deviceReply a1 s).calm = s.calm := by
  unfold State.deviceReply
  repeat' (first | with_reducible rfl | (simp only [calm_State_innerWrite, calm_when, calm_State_emit, apply_ite State.calm, apply_ite Prod.fst, ite_self, implies_true, eq_self, calm_foldl, calm_each, calm_when, calm_State_emit, calm_State_used]; done) | (simp only [calm_State_innerWrite, calm_when, calm_State_emit, apply_ite State.calm, apply_ite Prod.fst, ite_self, implies_true, eq_self, calm_foldl, calm_each, calm_when, calm_State_emit, calm_State_used]) | split | (refine (calm_each _ _ _ (fun x t => ?_)).trans ?_) | (refine (calm_when _ _ _ (fun t => ?_)).trans ?_) | (refine (calm_foldl _ _ _ (fun t x => ?_)).trans ?_) | (rename_i h; refine (congrArg (fun x => State.calm (Prod.fst x)) h).symm.trans ?_; simp only [calm_State_innerWrite, calm_when, calm_State_emit, apply_ite State.calm, apply_ite Prod.fst, ite_self, implies_true, eq_self, calm_foldl, calm_each, calm_when, calm_State_emit, calm_State_used]; done) | (refine (calm_foldFst _ _ _ (fun x k => ?_)).trans ?_) | intro x)

theorem calm_State_ringReply (a1) (a2) (s : State) : (State.ringReply a1 a2 s).calm = s.calm := by
  unfold State.ringReply
  simp only [calm_State_modQueue, calm_State_deviceReply, calm_State_cdmWrite, apply_ite State.calm, ite_self, eq_self]

theorem calm_State_storeReply (a1) (a2) (s : State) : (State.storeReply a1 a2 s).calm = s.calm := by
  unfold State.storeReply
  simp only [calm_State_modCmd, eq_self]

theorem calm_State_respond (a1) (a2) (s : State) : (State.respond a1 a2 s).calm = s.calm := by
  unfold State.respond
  repeat' (first | with_reducible rfl | (simp only [calm_State_emit, calm_State_modHst, apply_ite State.calm, apply_ite Prod.fst, ite_self, implies_true, eq_self, calm_foldl, calm_each, calm_when, calm_State_emit, calm_State_used]; done) | (simp only [calm_State_emit, calm_State_modHst, apply_ite State.calm, apply_ite Prod.fst, ite_self, implies_true, eq_self, calm_foldl, calm_each, calm_when, calm_State_emit, calm_State_used]) | split | (refine (calm_each _ _ _ (fun x t => ?_)).trans ?_) | (refine (calm_when _ _ _ (fun t => ?_)).trans ?_) | (refine (calm_foldl _ _ _ (fun t x => ?_)).trans ?_) | (rename_i h; refine (congrArg (fun x => State.calm (Prod.fst x)) h).symm.trans ?_; simp only [calm_State_emit, calm_State_modHst, apply_ite State.calm, apply_ite Prod.fst, ite_self, implies_true, eq_self, calm_foldl, calm_each, calm_when, calm_State_emit, calm_State_used]; done) | (refine (calm_foldFst _ _ _ (fun x k => ?_)).trans ?_) | intro x)

theorem calm_State_sendReply (a1) (a2) (s : State) : (State.sendReply a1 a2 s).calm = s.calm := by
  unfold State.sendReply
  repeat' (first | with_reducible rfl | (simp only [calm_State_storeReply, calm_State_emit, calm_State_modHst, calm_State_ringReply, apply_ite State.calm, apply_ite Prod.fst, ite_self, implies_true, eq_self, calm_foldl, calm_each, calm_when, calm_State_emit, calm_State_used]; done) | (simp only [calm_State_storeReply, calm_State_emit, calm_State_modHst, calm_State_ringReply, apply_ite State.calm, apply_ite Prod.fst, ite_self, implies_true, eq_self, calm_foldl, calm_each, calm_when, calm_State_emit, calm_State_used]) | split | (refine (calm_each _ _ _ (fun x t => ?_)).trans ?_) | (refine (calm_when _ _ _ (fun t => ?_)).trans ?_) | (refine (calm_foldl _ _ _ (fun t x => ?_)).trans ?_) | (rename_i h; refine (congrArg (fun x => State.calm (Prod.fst x)) h).symm.trans ?_; simp only [calm_State_storeReply, calm_State_emit, calm_State_modHst, calm_State_ringReply, apply_ite State.calm, apply_ite Prod.fst, ite_self, implies_true, eq_self, calm_foldl, calm_each, calm_when, calm_State_emit, calm_State_used]; done) | (refine (calm_foldFst _ _ _ (fun x k => ?_)).trans ?_) | intro x)

theorem calm_State_setFence (a1) (a2) (a3) (s : State) : (State.setFence a1 a2 a3 s).calm = s.calm := by
  unfold State.setFence
  simp only [calm_State_modObju, eq_self]

theorem calm_State_wake (a1) (a2) (s : State) : (State.wake a1 a2 s).1.calm = s.calm := by
  unfold State.wake
  simp only [calm_State_modObju, calm_each, calm_State_trace, implies_true, eq_self, calm_each]

theorem calm_State_signalHere (a1) (a2) (a3) (s : State) : (State.signalHere a1 a2 a3 s).1.calm = s.calm := by
  unfold State.signalHere
  simp only [calm_State_trace, calm_State_setFence, calm_State_wake, apply_ite State.calm, apply_ite Prod.fst, ite_self, eq_self]

theorem calm_State_propagate (a1) (a2) (a3) (a4) (s : State) : (State.propagate a1 a2 a3 a4 s).calm = s.calm := by
  unfold State.propagate
  simp only [calm_State_modObju, calm_State_broadcast, eq_self]

theorem calm_State_signal (a1) (a2) (a3) (s : State) : (State.signal a1 a2 a3 s).1.calm = s.calm := by
  unfold State.signal
  simp only [calm_State_signalHere, calm_State_propagate, apply_ite State.calm, ite_self, eq_self]

theorem calm_State_modObj (a1) (a2) (a3) (s : State) : (State.modObj a1 a2 a3 s).calm = s.calm := by
  unfold State.modObj
  simp only [calm_State_modObju, eq_self]

theorem calm_State_unref (a1) (a2) (s : State) : (State.unref a1 a2 s).calm = s.calm := by
  unfold State.unref
  simp only [calm_each, calm_State_modObj, implies_true, eq_self, calm_each]

theorem calm_State_releaseRings (a1) (s : State) : (State.releaseRings a1 s).calm = s.calm := by
  unfold State.releaseRings
  simp only [calm_State_modQueue, calm_State_unref, apply_ite State.calm, ite_self, eq_self]

theorem calm_State_removeQueue (a1) (s : State) : (State.removeQueue a1 s).calm = s.calm := by
  unfold State.removeQueue
  simp only [calm_State_modCmd, calm_State_releaseRings, eq_self]

theorem calm_State_reapQueue (a1) (s : State) : (State.reapQueue a1 s).1.calm = s.calm := by
  unfold State.reapQueue
  repeat' (first | with_reducible rfl | (simp only [calm_State_setFld, calm_State_removeQueue, apply_ite State.calm, apply_ite Prod.fst, ite_self, implies_true, eq_self, calm_foldl, calm_each, calm_when, calm_State_emit, calm_State_used]; done) | (simp only [calm_State_setFld, calm_State_removeQueue, apply_ite State.calm, apply_ite Prod.fst, ite_self, implies_true, eq_self, calm_foldl, calm_each, calm_when, calm_State_emit, calm_State_used]) | split | (refine (calm_each _ _ _ (fun x t => ?_)).trans ?_) | (refine (calm_when _ _ _ (fun t => ?_)).trans ?_) | (refine (calm_foldl _ _ _ (fun t x => ?_)).trans ?_) | (rename_i h; refine (congrArg (fun x => State.calm (Prod.fst x)) h).symm.trans ?_; simp only [calm_State_setFld, calm_State_removeQueue, apply_ite State.calm, apply_ite Prod.fst, ite_self, implies_true, eq_self, calm_foldl, calm_each, calm_when, calm_State_emit, calm_State_used]; done) | (refine (calm_foldFst _ _ _ (fun x k => ?_)).trans ?_) | intro x)

theorem calm_State_carried (a1) (s : State) : (State.carried a1 s).1.calm = s.calm := by
  unfold State.carried
  repeat' (first | with_reducible rfl | (simp only [calm_State_modCmd, calm_State_sealRec, calm_State_cdmWrite, apply_ite State.calm, apply_ite Prod.fst, ite_self, implies_true, eq_self, calm_foldl, calm_each, calm_when, calm_State_emit, calm_State_used]; done) | (simp only [calm_State_modCmd, calm_State_sealRec, calm_State_cdmWrite, apply_ite State.calm, apply_ite Prod.fst, ite_self, implies_true, eq_self, calm_foldl, calm_each, calm_when, calm_State_emit, calm_State_used]) | split | (refine (calm_each _ _ _ (fun x t => ?_)).trans ?_) | (refine (calm_when _ _ _ (fun t => ?_)).trans ?_) | (refine (calm_foldl _ _ _ (fun t x => ?_)).trans ?_) | (rename_i h; refine (congrArg (fun x => State.calm (Prod.fst x)) h).symm.trans ?_; simp only [calm_State_modCmd, calm_State_sealRec, calm_State_cdmWrite, apply_ite State.calm, apply_ite Prod.fst, ite_self, implies_true, eq_self, calm_foldl, calm_each, calm_when, calm_State_emit, calm_State_used]; done) | (refine (calm_foldFst _ _ _ (fun x k => ?_)).trans ?_) | intro x)

theorem calm_State_complete1 (a1) (s : State) : (State.complete1 a1 s).1.calm = s.calm := by
  unfold State.complete1
  repeat' (first | with_reducible rfl | (simp only [calm_State_unref, calm_State_modCmd, calm_State_modQueue, calm_State_trace, calm_State_sendReply, calm_State_signal, calm_State_carried, calm_State_reapQueue, apply_ite State.calm, apply_ite Prod.fst, ite_self, implies_true, eq_self, calm_foldl, calm_each, calm_when, calm_State_emit, calm_State_used]; done) | (simp only [calm_State_unref, calm_State_modCmd, calm_State_modQueue, calm_State_trace, calm_State_sendReply, calm_State_signal, calm_State_carried, calm_State_reapQueue, apply_ite State.calm, apply_ite Prod.fst, ite_self, implies_true, eq_self, calm_foldl, calm_each, calm_when, calm_State_emit, calm_State_used]) | split | (refine (calm_each _ _ _ (fun x t => ?_)).trans ?_) | (refine (calm_when _ _ _ (fun t => ?_)).trans ?_) | (refine (calm_foldl _ _ _ (fun t x => ?_)).trans ?_) | (rename_i h; refine (congrArg (fun x => State.calm (Prod.fst x)) h).symm.trans ?_; simp only [calm_State_unref, calm_State_modCmd, calm_State_modQueue, calm_State_trace, calm_State_sendReply, calm_State_signal, calm_State_carried, calm_State_reapQueue, apply_ite State.calm, apply_ite Prod.fst, ite_self, implies_true, eq_self, calm_foldl, calm_each, calm_when, calm_State_emit, calm_State_used]; done) | (refine (calm_foldFst _ _ _ (fun x k => ?_)).trans ?_) | intro x)

theorem calm_completeFuel (n) (ds) (s : State) : (completeFuel n ds s).calm = s.calm := by
  induction n generalizing ds s with
  | zero => cases ds <;> rfl
  | succ n ih =>
    cases ds with
    | nil => rfl
    | cons d ds => exact (ih _ _).trans (calm_State_complete1 d s)

theorem calm_State_complete (a1) (s : State) : (State.complete a1 s).calm = s.calm := calm_completeFuel ..

theorem calm_finishing (x : State × List Done) : (finishing x).calm = x.1.calm := calm_State_complete ..

theorem calm_State_setSched (a1) (a2) (s : State) : (State.setSched a1 a2 s).calm = s.calm := by
  unfold State.setSched
  simp only [calm_State_modDt, eq_self]

theorem calm_State_schedEnds (a1) (s : State) : (State.schedEnds a1 s).calm = s.calm := by
  unfold State.schedEnds
  simp only [calm_State_setSched, apply_ite State.calm, ite_self, eq_self]

theorem calm_State_dumpEnd (a1) (a2) (s : State) : (State.dumpEnd a1 a2 s).calm = s.calm := by
  unfold State.dumpEnd
  simp only [calm_State_schedEnds, calm_State_cntr, calm_State_modObs, eq_self]

theorem calm_State_dumpBegin (a1) (s : State) : (State.dumpBegin a1 s).calm = s.calm := by
  unfold State.dumpBegin
  repeat' (first | with_reducible rfl | (simp only [calm_State_dumpEnd, calm_State_modObs, apply_ite State.calm, apply_ite Prod.fst, ite_self, implies_true, eq_self, calm_foldl, calm_each, calm_when, calm_State_emit, calm_State_used]; done) | (simp only [calm_State_dumpEnd, calm_State_modObs, apply_ite State.calm, apply_ite Prod.fst, ite_self, implies_true, eq_self, calm_foldl, calm_each, calm_when, calm_State_emit, calm_State_used]) | split | (refine (calm_each _ _ _ (fun x t => ?_)).trans ?_) | (refine (calm_when _ _ _ (fun t => ?_)).trans ?_) | (refine (calm_foldl _ _ _ (fun t x => ?_)).trans ?_) | (rename_i h; refine (congrArg (fun x => State.calm (Prod.fst x)) h).symm.trans ?_; simp only [calm_State_dumpEnd, calm_State_modObs, apply_ite State.calm, apply_ite Prod.fst, ite_self, implies_true, eq_self, calm_foldl, calm_each, calm_when, calm_State_emit, calm_State_used]; done) | (refine (calm_foldFst _ _ _ (fun x k => ?_)).trans ?_) | intro x)

theorem calm_dumpPump (p) (n) (s : State) : (dumpPump p n s).calm = s.calm := by
  induction n generalizing s with
  | zero => rfl
  | succ n ih =>
    unfold dumpPump
    split
    · rfl
    · split
      · exact (ih _).trans (calm_State_dumpBegin _ s)
      · rfl

theorem calm_State_dumpNext (a1) (s : State) : (State.dumpNext a1 s).calm = s.calm := by
  unfold State.dumpNext
  simp only [calm_dumpPump, eq_self]

theorem calm_State_dumpCut (a1) (s : State) : (State.dumpCut a1 s).calm = s.calm := by
  unfold State.dumpCut
  simp only [calm_each, calm_State_dumpEnd, implies_true, eq_self, calm_each]

theorem calm_State_endSecured (a1) (s : State) : (State.endSecured a1 s).calm = s.calm := by
  unfold State.endSecured
  simp only [calm_State_modCmd, calm_State_retireAll, calm_each, calm_State_dumpNext, calm_State_dumpCut, implies_true, eq_self, calm_each]

theorem calm_State_endSecuredWhere (a1) (s : State) : (State.endSecuredWhere a1 s).calm = s.calm := by
  unfold State.endSecuredWhere
  simp only [calm_each, calm_State_endSecured, implies_true, eq_self, calm_each]

theorem calm_State_sendChunk (a1) (a2) (a3) (a4) (s : State) : (State.sendChunk a1 a2 a3 a4 s).1.calm = s.calm := by
  unfold State.sendChunk
  simp only [calm_each, calm_State_sendTo, implies_true, eq_self, calm_each]

theorem calm_State_putReduction (a1) (s : State) : (State.putReduction a1 s).calm = s.calm := by
  unfold State.putReduction
  simp only [calm_State_modRem, eq_self]

theorem calm_State_endReduction (a1) (a2) (s : State) : (State.endReduction a1 a2 s).calm = s.calm := by
  unfold State.endReduction
  repeat' (first | with_reducible rfl | (simp only [calm_State_sendChunk, calm_State_putReduction, apply_ite State.calm, apply_ite Prod.fst, ite_self, implies_true, eq_self, calm_foldl, calm_each, calm_when, calm_State_emit, calm_State_used]; done) | (simp only [calm_State_sendChunk, calm_State_putReduction, apply_ite State.calm, apply_ite Prod.fst, ite_self, implies_true, eq_self, calm_foldl, calm_each, calm_when, calm_State_emit, calm_State_used]) | split | (refine (calm_each _ _ _ (fun x t => ?_)).trans ?_) | (refine (calm_when _ _ _ (fun t => ?_)).trans ?_) | (refine (calm_foldl _ _ _ (fun t x => ?_)).trans ?_) | (rename_i h; refine (congrArg (fun x => State.calm (Prod.fst x)) h).symm.trans ?_; simp only [calm_State_sendChunk, calm_State_putReduction, apply_ite State.calm, apply_ite Prod.fst, ite_self, implies_true, eq_self, calm_foldl, calm_each, calm_when, calm_State_emit, calm_State_used]; done) | (refine (calm_foldFst _ _ _ (fun x k => ?_)).trans ?_) | intro x)

theorem calm_State_traceSess (a1) (a2) (s : State) : (State.traceSess a1 a2 s).calm = s.calm := by
  unfold State.traceSess
  simp only [calm_State_trace, apply_ite State.calm, ite_self, eq_self]

theorem calm_State_sessTo (a1) (a2) (a3) (s : State) : (State.sessTo a1 a2 a3 s).calm = s.calm := by
  unfold State.sessTo
  simp only [calm_State_traceSess, calm_State_modSess, eq_self]

theorem calm_State_stopLoses (a1) (a2) (s : State) : (State.stopLoses a1 a2 s).calm = s.calm := by
  unfold State.stopLoses
  simp only [calm_State_signal, calm_State_pressW, calm_State_modDt, apply_ite State.calm, ite_self, eq_self, calm_finishing]

theorem calm_State_reselect (s : State) : (State.reselect s).calm = s.calm := by
  unfold State.reselect
  simp only [calm_State_modDt, eq_self]

theorem calm_State_dtParentLost (a1) (s : State) : (State.dtParentLost a1 s).calm = s.calm := by
  unfold State.dtParentLost
  simp only [calm_State_reselect, calm_State_modDt, calm_State_dtEnter, apply_ite State.calm, ite_self, eq_self]

theorem calm_State_sessDown1 (a1) (a2) (s : State) : (State.sessDown1 a1 a2 s).calm = s.calm := by
  unfold State.sessDown1
  simp only [calm_State_retireAll, calm_State_modPort, calm_State_modSess, calm_State_endSecuredWhere, calm_State_dtParentLost, calm_State_stopLoses, calm_State_traceSess, apply_ite State.calm, ite_self, eq_self]

theorem calm_State_sessDown (a1) (a2) (s : State) : (State.sessDown a1 a2 s).calm = s.calm := by
  unfold State.sessDown
  simp only [calm_each, calm_State_sessDown1, apply_ite State.calm, ite_self, implies_true, eq_self, calm_each]

theorem calm_State_allDown (s : State) : (State.allDown s).calm = s.calm := by
  unfold State.allDown
  simp only [calm_each, calm_State_sessDown, implies_true, eq_self, calm_each]

theorem calm_State_endOp (a1) (s : State) : (State.endOp a1 s).calm = s.calm := by
  unfold State.endOp
  simp only [calm_State_modRem, eq_self]

theorem calm_State_endContrib (a1) (s : State) : (State.endContrib a1 s).calm = s.calm := by
  unfold State.endContrib
  simp only [calm_State_modRem, eq_self]

theorem calm_State_endRemote (a1) (a2) (a3) (s : State) : (State.endRemote a1 a2 a3 s).calm = s.calm := by
  unfold State.endRemote
  simp only [calm_State_complete, calm_each, calm_State_endContrib, calm_State_endOp, implies_true, eq_self, calm_each]

theorem calm_State_recordLost (a1) (a2) (a3) (a4) (a5) (s : State) : (State.recordLost a1 a2 a3 a4 a5 s).calm = s.calm := by
  unfold State.recordLost
  simp only [calm_State_broadcast, calm_State_cntr, calm_State_modPart, calm_each, calm_State_signalHere, calm_State_endRemote, calm_State_endReduction, calm_State_putReduction, apply_ite State.calm, ite_self, implies_true, eq_self, calm_each, calm_finishing]

theorem calm_State_raiseLost (a1) (a2) (a3) (a4) (s : State) : (State.raiseLost a1 a2 a3 a4 s).calm = s.calm := by
  unfold State.raiseLost
  simp only [calm_State_recordLost, eq_self]

theorem calm_State_modTile (a1) (a2) (a3) (s : State) : (State.modTile a1 a2 a3 s).calm = s.calm := by
  unfold State.modTile
  simp only [calm_State_modHst, eq_self]

theorem calm_State_send (a1) (s : State) : (State.send a1 s).calm = s.calm := by
  unfold State.send
  simp only [calm_State_emit, apply_ite State.calm, ite_self, eq_self, calm_State_emit]

theorem calm_State_tileFault (a1) (a2) (a3) (a4) (a5) (s : State) : (State.tileFault a1 a2 a3 a4 a5 s).calm = s.calm := by
  unfold State.tileFault
  simp only [calm_State_modHst, calm_each, calm_State_send, calm_State_fault, calm_State_trace, calm_State_modTile, implies_true, eq_self, calm_each]

theorem calm_State_tilesFenced (a1) (a2) (s : State) : (State.tilesFenced a1 a2 s).calm = s.calm := by
  unfold State.tilesFenced
  simp only [calm_each, calm_State_tileFault, implies_true, eq_self, calm_each]

theorem calm_State_mnNoData (a1) (a2) (a3) (s : State) : (State.mnNoData a1 a2 a3 s).calm = s.calm := by
  unfold State.mnNoData
  simp only [calm_State_emit, eq_self, calm_State_emit]

theorem calm_State_fenceMn (a1) (s : State) : (State.fenceMn a1 s).calm = s.calm := by
  unfold State.fenceMn
  simp only [calm_each, calm_State_mnNoData, calm_State_modSg, implies_true, eq_self, calm_each]

theorem calm_State_dropFrames (a1) (a2) (s : State) : (State.dropFrames a1 a2 s).calm = s.calm := by
  unfold State.dropFrames
  simp only [calm_State_modLnk, eq_self]

theorem calm_State_endWaits (a1) (a2) (s : State) : (State.endWaits a1 a2 s).calm = s.calm := by
  unfold State.endWaits
  simp only [calm_State_complete, calm_State_modObju, eq_self]

theorem calm_State_backEntry (a1) (s : State) : (State.backEntry a1 s).calm = s.calm := by
  unfold State.backEntry
  simp only [calm_State_start, eq_self]

theorem calm_State_backWhere (a1) (s : State) : (State.backWhere a1 s).calm = s.calm := by
  unfold State.backWhere
  simp only [calm_each, calm_State_backEntry, implies_true, eq_self, calm_each]

theorem calm_State_raisePfence (a1) (s : State) : (State.raisePfence a1 s).calm = s.calm := by
  unfold State.raisePfence
  simp only [calm_State_modPins, apply_ite State.calm, ite_self, eq_self]

theorem calm_State_lowerPfence (a1) (s : State) : (State.lowerPfence a1 s).calm = s.calm := by
  unfold State.lowerPfence
  simp only [calm_State_modPins, apply_ite State.calm, ite_self, eq_self]

theorem calm_State_raiseCstop (s : State) : (State.raiseCstop s).calm = s.calm := by
  unfold State.raiseCstop
  simp only [calm_State_modPins, apply_ite State.calm, ite_self, eq_self]

theorem calm_State_lowerCstop (s : State) : (State.lowerCstop s).calm = s.calm := by
  unfold State.lowerCstop
  simp only [calm_State_modPins, apply_ite State.calm, ite_self, eq_self]

theorem calm_State_fencePart (a1) (s : State) : (State.fencePart a1 s).calm = s.calm := by
  unfold State.fencePart
  simp only [calm_State_modPart, calm_State_raisePfence, calm_State_backWhere, calm_State_fenceMn, calm_State_dropFrames, calm_State_modHst, calm_State_tilesFenced, calm_State_endRemote, calm_State_endWaits, calm_State_dumpCut, calm_each, calm_State_sessDown, calm_State_send, apply_ite State.calm, ite_self, implies_true, eq_self, calm_each]

theorem calm_State_fenceAll (s : State) : (State.fenceAll s).calm = s.calm := by
  unfold State.fenceAll
  simp only [calm_each, calm_State_fencePart, implies_true, eq_self, calm_each]

theorem calm_State_discardEgress (s : State) : (State.discardEgress s).calm = s.calm := by
  unfold State.discardEgress
  simp only [calm_State_modObs, calm_State_modHst, calm_State_modSg, calm_State_modCmd, calm_State_modLnk, eq_self]

theorem calm_State_passFenced (s : State) : (State.passFenced s).calm = s.calm := by
  unfold State.passFenced
  repeat' (first | with_reducible rfl | (simp only [calm_State_modSg, calm_each, calm_State_mnNoData, calm_State_emit, apply_ite State.calm, apply_ite Prod.fst, ite_self, implies_true, eq_self, calm_foldl, calm_each, calm_when, calm_State_emit, calm_State_used]; done) | (simp only [calm_State_modSg, calm_each, calm_State_mnNoData, calm_State_emit, apply_ite State.calm, apply_ite Prod.fst, ite_self, implies_true, eq_self, calm_foldl, calm_each, calm_when, calm_State_emit, calm_State_used]) | split | (refine (calm_each _ _ _ (fun x t => ?_)).trans ?_) | (refine (calm_when _ _ _ (fun t => ?_)).trans ?_) | (refine (calm_foldl _ _ _ (fun t x => ?_)).trans ?_) | (rename_i h; refine (congrArg (fun x => State.calm (Prod.fst x)) h).symm.trans ?_; simp only [calm_State_modSg, calm_each, calm_State_mnNoData, calm_State_emit, apply_ite State.calm, apply_ite Prod.fst, ite_self, implies_true, eq_self, calm_foldl, calm_each, calm_when, calm_State_emit, calm_State_used]; done) | (refine (calm_foldFst _ _ _ (fun x k => ?_)).trans ?_) | intro x)

theorem calm_State_refuse (a1) (a2) (s : State) : (State.refuse a1 a2 s).calm = s.calm := by
  unfold State.refuse
  simp only [calm_State_carried, calm_State_sendReply, calm_State_trace, calm_State_signal, calm_State_complete, apply_ite State.calm, apply_ite Prod.fst, ite_self, eq_self, calm_finishing]

theorem calm_State_touchCtx (a1) (s : State) : (State.touchCtx a1 s).calm = s.calm := by
  unfold State.touchCtx
  simp only [calm_State_modCtx, apply_ite State.calm, ite_self, eq_self]

theorem calm_State_takePacket (a1) (a2) (a3) (s : State) : (State.takePacket a1 a2 a3 s).1.calm = s.calm := by
  unfold State.takePacket
  repeat' (first | with_reducible rfl | (simp only [calm_State_modQueue, calm_State_glob, calm_State_count, calm_State_trace, calm_State_touchCtx, apply_ite State.calm, apply_ite Prod.fst, ite_self, implies_true, eq_self, calm_foldl, calm_each, calm_when, calm_State_emit, calm_State_used]; done) | (simp only [calm_State_modQueue, calm_State_glob, calm_State_count, calm_State_trace, calm_State_touchCtx, apply_ite State.calm, apply_ite Prod.fst, ite_self, implies_true, eq_self, calm_foldl, calm_each, calm_when, calm_State_emit, calm_State_used]) | split | (refine (calm_each _ _ _ (fun x t => ?_)).trans ?_) | (refine (calm_when _ _ _ (fun t => ?_)).trans ?_) | (refine (calm_foldl _ _ _ (fun t x => ?_)).trans ?_) | (rename_i h; refine (congrArg (fun x => State.calm (Prod.fst x)) h).symm.trans ?_; simp only [calm_State_modQueue, calm_State_glob, calm_State_count, calm_State_trace, calm_State_touchCtx, apply_ite State.calm, apply_ite Prod.fst, ite_self, implies_true, eq_self, calm_foldl, calm_each, calm_when, calm_State_emit, calm_State_used]; done) | (refine (calm_foldFst _ _ _ (fun x k => ?_)).trans ?_) | intro x)

theorem calm_State_reserve (a1) (a2) (s : State) : (State.reserve a1 a2 s).calm = s.calm := by
  unfold State.reserve
  repeat' (first | with_reducible rfl | (simp only [calm_State_modQueue, apply_ite State.calm, apply_ite Prod.fst, ite_self, implies_true, eq_self, calm_foldl, calm_each, calm_when, calm_State_emit, calm_State_used]; done) | (simp only [calm_State_modQueue, apply_ite State.calm, apply_ite Prod.fst, ite_self, implies_true, eq_self, calm_foldl, calm_each, calm_when, calm_State_emit, calm_State_used]) | split | (refine (calm_each _ _ _ (fun x t => ?_)).trans ?_) | (refine (calm_when _ _ _ (fun t => ?_)).trans ?_) | (refine (calm_foldl _ _ _ (fun t x => ?_)).trans ?_) | (rename_i h; refine (congrArg (fun x => State.calm (Prod.fst x)) h).symm.trans ?_; simp only [calm_State_modQueue, apply_ite State.calm, apply_ite Prod.fst, ite_self, implies_true, eq_self, calm_foldl, calm_each, calm_when, calm_State_emit, calm_State_used]; done) | (refine (calm_foldFst _ _ _ (fun x k => ?_)).trans ?_) | intro x)

theorem calm_State_hold (a1) (a2) (a3) (s : State) : (State.hold a1 a2 a3 s).calm = s.calm := by
  unfold State.hold
  repeat' (first | with_reducible rfl | (simp only [calm_State_modQueue, calm_State_used, calm_State_cntr, calm_State_count, apply_ite State.calm, apply_ite Prod.fst, ite_self, implies_true, eq_self, calm_foldl, calm_each, calm_when, calm_State_emit, calm_State_used]; done) | (simp only [calm_State_modQueue, calm_State_used, calm_State_cntr, calm_State_count, apply_ite State.calm, apply_ite Prod.fst, ite_self, implies_true, eq_self, calm_foldl, calm_each, calm_when, calm_State_emit, calm_State_used]) | split | (refine (calm_each _ _ _ (fun x t => ?_)).trans ?_) | (refine (calm_when _ _ _ (fun t => ?_)).trans ?_) | (refine (calm_foldl _ _ _ (fun t x => ?_)).trans ?_) | (rename_i h; refine (congrArg (fun x => State.calm (Prod.fst x)) h).symm.trans ?_; simp only [calm_State_modQueue, calm_State_used, calm_State_cntr, calm_State_count, apply_ite State.calm, apply_ite Prod.fst, ite_self, implies_true, eq_self, calm_foldl, calm_each, calm_when, calm_State_emit, calm_State_used]; done) | (refine (calm_foldFst _ _ _ (fun x k => ?_)).trans ?_) | intro x)

theorem calm_State_accept (a1) (a2) (s : State) : (State.accept a1 a2 s).1.calm = s.calm := by
  unfold State.accept
  simp only [calm_each, calm_State_modObj, calm_State_reserve, calm_State_modCmd, calm_State_sendReply, apply_ite State.calm, ite_self, implies_true, eq_self, calm_each]

theorem calm_State_ringRead (a1) (s : State) : (State.ringRead a1 s).1.calm = s.calm := by
  unfold State.ringRead
  repeat' (first | with_reducible rfl | (simp only [calm_State_innerRead, apply_ite State.calm, apply_ite Prod.fst, ite_self, implies_true, eq_self, calm_foldl, calm_each, calm_when, calm_State_emit, calm_State_used]; done) | (simp only [calm_State_innerRead, apply_ite State.calm, apply_ite Prod.fst, ite_self, implies_true, eq_self, calm_foldl, calm_each, calm_when, calm_State_emit, calm_State_used]) | split | (refine (calm_each _ _ _ (fun x t => ?_)).trans ?_) | (refine (calm_when _ _ _ (fun t => ?_)).trans ?_) | (refine (calm_foldl _ _ _ (fun t x => ?_)).trans ?_) | (rename_i h; refine (congrArg (fun x => State.calm (Prod.fst x)) h).symm.trans ?_; simp only [calm_State_innerRead, apply_ite State.calm, apply_ite Prod.fst, ite_self, implies_true, eq_self, calm_foldl, calm_each, calm_when, calm_State_emit, calm_State_used]; done) | (refine (calm_foldFst _ _ _ (fun x k => ?_)).trans ?_) | intro x)

theorem calm_State_admitWith (a1) (a2) (a3) (a4) (a5) (a6) (s : State) (ha6 : ∀ x0 t, State.calm (a6 x0 t) = t.calm) : (State.admitWith a1 a2 a3 a4 a5 a6 s).calm = s.calm := by
  unfold State.admitWith
  repeat' (first | with_reducible rfl | (simp only [calm_State_hold, calm_State_ringRead, calm_State_takePacket, calm_State_refuse, calm_State_reserve, calm_State_accept, ha6, apply_ite State.calm, apply_ite Prod.fst, ite_self, implies_true, eq_self, calm_foldl, calm_each, calm_when, calm_State_emit, calm_State_used]; done) | (simp only [calm_State_hold, calm_State_ringRead, calm_State_takePacket, calm_State_refuse, calm_State_reserve, calm_State_accept, ha6, apply_ite State.calm, apply_ite Prod.fst, ite_self, implies_true, eq_self, calm_foldl, calm_each, calm_when, calm_State_emit, calm_State_used]) | split | (refine (calm_each _ _ _ (fun x t => ?_)).trans ?_) | (refine (calm_when _ _ _ (fun t => ?_)).trans ?_) | (refine (calm_foldl _ _ _ (fun t x => ?_)).trans ?_) | (rename_i h; refine (congrArg (fun x => State.calm (Prod.fst x)) h).symm.trans ?_; simp only [calm_State_hold, calm_State_ringRead, calm_State_takePacket, calm_State_refuse, calm_State_reserve, calm_State_accept, ha6, apply_ite State.calm, apply_ite Prod.fst, ite_self, implies_true, eq_self, calm_foldl, calm_each, calm_when, calm_State_emit, calm_State_used]; done) | (refine (calm_foldFst _ _ _ (fun x k => ?_)).trans ?_) | intro x)

theorem calm_State_admitCmd (a1) (a2) (a3) (a4) (s : State) (ha4 : ∀ x0 t, State.calm (a4 x0 t) = t.calm) : (State.admitCmd a1 a2 a3 a4 s).calm = s.calm := by
  unfold State.admitCmd
  simp only [calm_State_admitWith, ha4, implies_true, eq_self]

theorem calm_State_ok (a1) (a2) (s : State) : (State.ok a1 a2 s).calm = s.calm := by
  unfold State.ok
  simp only [calm_State_complete, eq_self]

theorem calm_State_okTrailer (a1) (a2) (a3) (s : State) : (State.okTrailer a1 a2 a3 s).calm = s.calm := by
  unfold State.okTrailer
  simp only [calm_State_complete, eq_self]

theorem calm_State_endsWith (a1) (a2) (s : State) : (State.endsWith a1 a2 s).calm = s.calm := by
  unfold State.endsWith
  simp only [calm_State_complete, eq_self]

theorem calm_State_otherAccess (s : State) : (State.otherAccess s).calm = s.calm := by
  unfold State.otherAccess
  simp only [calm_State_modRegf, eq_self]

theorem calm_State_portWrite (a1) (a2) (a3) (s : State) (ha3 : ∀ x0 t, State.calm (a3 x0 t).1 = t.calm) : (State.portWrite a1 a2 a3 s).calm = s.calm := by
  unfold State.portWrite
  simp only [calm_State_emit, calm_State_otherAccess, ha3, apply_ite State.calm, ite_self, eq_self, calm_State_emit]

theorem calm_State_ctlWrite (a1) (a2) (s : State) (ha2 : ∀ t, State.calm (a2 t) = t.calm) : (State.ctlWrite a1 a2 s).calm = s.calm := by
  unfold State.ctlWrite
  simp only [calm_State_portWrite, ha2, apply_ite State.calm, ite_self, implies_true, eq_self]

theorem calm_innerBytesFuel (n) (p) (a) (l) (s : State) : (innerBytesFuel n p a l s).1.calm = s.calm := by
  induction n generalizing a l s with
  | zero => rfl
  | succ n ih =>
    unfold innerBytesFuel
    split
    · rfl
    · simp only []
      exact (ih _ _ _).trans (calm_State_innerWrite ..)

theorem calm_State_innerBytes (a1) (a2) (a3) (s : State) : (State.innerBytes a1 a2 a3 s).1.calm = s.calm := by
  unfold State.innerBytes
  simp only [calm_innerBytesFuel, eq_self]

theorem calm_State_writeObj (a1) (a2) (s : State) : (State.writeObj a1 a2 s).1.calm = s.calm := by
  unfold State.writeObj
  simp only [calm_State_innerBytes, eq_self]

theorem calm_State_zeroPlot (a1) (a2) (s : State) : (State.zeroPlot a1 a2 s).calm = s.calm := by
  unfold State.zeroPlot
  repeat' (first | with_reducible rfl | (simp only [calm_each, calm_State_modLine, calm_State_insertLine, apply_ite State.calm, apply_ite Prod.fst, ite_self, implies_true, eq_self, calm_foldl, calm_each, calm_when, calm_State_emit, calm_State_used]; done) | (simp only [calm_each, calm_State_modLine, calm_State_insertLine, apply_ite State.calm, apply_ite Prod.fst, ite_self, implies_true, eq_self, calm_foldl, calm_each, calm_when, calm_State_emit, calm_State_used]) | split | (refine (calm_each _ _ _ (fun x t => ?_)).trans ?_) | (refine (calm_when _ _ _ (fun t => ?_)).trans ?_) | (refine (calm_foldl _ _ _ (fun t x => ?_)).trans ?_) | (rename_i h; refine (congrArg (fun x => State.calm (Prod.fst x)) h).symm.trans ?_; simp only [calm_each, calm_State_modLine, calm_State_insertLine, apply_ite State.calm, apply_ite Prod.fst, ite_self, implies_true, eq_self, calm_foldl, calm_each, calm_when, calm_State_emit, calm_State_used]; done) | (refine (calm_foldFst _ _ _ (fun x k => ?_)).trans ?_) | intro x)

theorem calm_State_bindPlots (a1) (a2) (a3) (a4) (a5) (a6) (s : State) : (State.bindPlots a1 a2 a3 a4 a5 a6 s).calm = s.calm := by
  unfold State.bindPlots
  simp only [calm_each, calm_State_modObju, calm_State_zeroPlot, implies_true, eq_self, calm_each]

theorem calm_State_alloc (a1) (a2) (a3) (a4) (a5) (s : State) : (State.alloc a1 a2 a3 a4 a5 s).1.calm = s.calm := by
  unfold State.alloc
  repeat' (first | with_reducible rfl | (simp only [calm_State_modObju, calm_State_modObj, calm_State_writeObj, calm_State_bindPlots, calm_State_press, apply_ite State.calm, apply_ite Prod.fst, ite_self, implies_true, eq_self, calm_foldl, calm_each, calm_when, calm_State_emit, calm_State_used]; done) | (simp only [calm_State_modObju, calm_State_modObj, calm_State_writeObj, calm_State_bindPlots, calm_State_press, apply_ite State.calm, apply_ite Prod.fst, ite_self, implies_true, eq_self, calm_foldl, calm_each, calm_when, calm_State_emit, calm_State_used]) | split | (refine (calm_each _ _ _ (fun x t => ?_)).trans ?_) | (refine (calm_when _ _ _ (fun t => ?_)).trans ?_) | (refine (calm_foldl _ _ _ (fun t x => ?_)).trans ?_) | (rename_i h; refine (congrArg (fun x => State.calm (Prod.fst x)) h).symm.trans ?_; simp only [calm_State_modObju, calm_State_modObj, calm_State_writeObj, calm_State_bindPlots, calm_State_press, apply_ite State.calm, apply_ite Prod.fst, ite_self, implies_true, eq_self, calm_foldl, calm_each, calm_when, calm_State_emit, calm_State_used]; done) | (refine (calm_foldFst _ _ _ (fun x k => ?_)).trans ?_) | intro x)

theorem calm_State_dropOld (a1) (a2) (a3) (s : State) : (State.dropOld a1 a2 a3 s).calm = s.calm := by
  unfold State.dropOld
  simp only [calm_State_modSg, calm_each, calm_State_dropTag, implies_true, eq_self, calm_each]

theorem calm_State_retireObj (a1) (a2) (s : State) : (State.retireObj a1 a2 s).calm = s.calm := by
  unfold State.retireObj
  repeat' (first | with_reducible rfl | (simp only [calm_State_modSg, calm_State_modObju, calm_State_modObj, calm_State_dropOld, calm_State_writeObj, calm_each, calm_State_stopRing, calm_State_complete, apply_ite State.calm, apply_ite Prod.fst, ite_self, implies_true, eq_self, calm_foldl, calm_each, calm_when, calm_State_emit, calm_State_used]; done) | (simp only [calm_State_modSg, calm_State_modObju, calm_State_modObj, calm_State_dropOld, calm_State_writeObj, calm_each, calm_State_stopRing, calm_State_complete, apply_ite State.calm, apply_ite Prod.fst, ite_self, implies_true, eq_self, calm_foldl, calm_each, calm_when, calm_State_emit, calm_State_used]) | split | (refine (calm_each _ _ _ (fun x t => ?_)).trans ?_) | (refine (calm_when _ _ _ (fun t => ?_)).trans ?_) | (refine (calm_foldl _ _ _ (fun t x => ?_)).trans ?_) | (rename_i h; refine (congrArg (fun x => State.calm (Prod.fst x)) h).symm.trans ?_; simp only [calm_State_modSg, calm_State_modObju, calm_State_modObj, calm_State_dropOld, calm_State_writeObj, calm_each, calm_State_stopRing, calm_State_complete, apply_ite State.calm, apply_ite Prod.fst, ite_self, implies_true, eq_self, calm_foldl, calm_each, calm_when, calm_State_emit, calm_State_used]; done) | (refine (calm_foldFst _ _ _ (fun x k => ?_)).trans ?_) | intro x)

theorem calm_State_setAdb (a1) (a2) (a3) (s : State) : (State.setAdb a1 a2 a3 s).calm = s.calm := by
  unfold State.setAdb
  simp only [calm_State_modObju, eq_self]

theorem calm_State_adbSubmit (a1) (a2) (a3) (a4) (a5) (s : State) : (State.adbSubmit a1 a2 a3 a4 a5 s).1.calm = s.calm := by
  unfold State.adbSubmit
  simp only [calm_State_flag, calm_State_used, calm_State_cntr, calm_State_touchCtx, calm_State_setAdb, apply_ite State.calm, apply_ite Prod.fst, ite_self, eq_self, calm_State_used]

theorem calm_State_spill (a1) (s : State) : (State.spill a1 s).1.calm = s.calm := by
  unfold State.spill
  repeat' (first | with_reducible rfl | (simp only [calm_State_innerSect, calm_when, calm_State_modCtx, apply_ite State.calm, apply_ite Prod.fst, ite_self, implies_true, eq_self, calm_foldl, calm_each, calm_when, calm_State_emit, calm_State_used]; done) | (simp only [calm_State_innerSect, calm_when, calm_State_modCtx, apply_ite State.calm, apply_ite Prod.fst, ite_self, implies_true, eq_self, calm_foldl, calm_each, calm_when, calm_State_emit, calm_State_used]) | split | (refine (calm_each _ _ _ (fun x t => ?_)).trans ?_) | (refine (calm_when _ _ _ (fun t => ?_)).trans ?_) | (refine (calm_foldl _ _ _ (fun t x => ?_)).trans ?_) | (rename_i h; refine (congrArg (fun x => State.calm (Prod.fst x)) h).symm.trans ?_; simp only [calm_State_innerSect, calm_when, calm_State_modCtx, apply_ite State.calm, apply_ite Prod.fst, ite_self, implies_true, eq_self, calm_foldl, calm_each, calm_when, calm_State_emit, calm_State_used]; done) | (refine (calm_foldFst _ _ _ (fun x k => ?_)).trans ?_) | intro x)

theorem calm_State_makeRoom (s : State) : (State.makeRoom s).1.calm = s.calm := by
  unfold State.makeRoom
  repeat' (first | with_reducible rfl | (simp only [calm_State_spill, apply_ite State.calm, apply_ite Prod.fst, ite_self, implies_true, eq_self, calm_foldl, calm_each, calm_when, calm_State_emit, calm_State_used]; done) | (simp only [calm_State_spill, apply_ite State.calm, apply_ite Prod.fst, ite_self, implies_true, eq_self, calm_foldl, calm_each, calm_when, calm_State_emit, calm_State_used]) | split | (refine (calm_each _ _ _ (fun x t => ?_)).trans ?_) | (refine (calm_when _ _ _ (fun t => ?_)).trans ?_) | (refine (calm_foldl _ _ _ (fun t x => ?_)).trans ?_) | (rename_i h; refine (congrArg (fun x => State.calm (Prod.fst x)) h).symm.trans ?_; simp only [calm_State_spill, apply_ite State.calm, apply_ite Prod.fst, ite_self, implies_true, eq_self, calm_foldl, calm_each, calm_when, calm_State_emit, calm_State_used]; done) | (refine (calm_foldFst _ _ _ (fun x k => ?_)).trans ?_) | intro x)

theorem calm_State_drainCtx (a1) (s : State) : (State.drainCtx a1 s).calm = s.calm := by
  unfold State.drainCtx
  simp only [calm_State_endWaits, calm_State_endRemote, eq_self]

theorem calm_State_discardQueues (a1) (s : State) : (State.discardQueues a1 s).calm = s.calm := by
  unfold State.discardQueues
  simp only [calm_each, calm_State_modQueue, apply_ite State.calm, ite_self, implies_true, eq_self, calm_each]

theorem calm_State_destroyFence (a1) (a2) (s : State) : (State.destroyFence a1 a2 s).calm = s.calm := by
  unfold State.destroyFence
  simp only [calm_State_endWaits, calm_State_modObju, calm_State_setFence, apply_ite State.calm, ite_self, eq_self]

theorem calm_State_tearFences (a1) (a2) (s : State) : (State.tearFences a1 a2 s).calm = s.calm := by
  unfold State.tearFences
  simp only [calm_each, calm_State_destroyFence, calm_State_signal, calm_State_setFence, calm_State_modObju, apply_ite State.calm, ite_self, implies_true, eq_self, calm_each, calm_finishing]

theorem calm_State_teardownEnd (c) (s : State) : (s.teardownEnd c).calm = s.calm := by
  unfold State.teardownEnd
  extract_lets k p s0 objs s1 s2 same s3 s4 s5 s6 dn
  split
  · rfl
  · have h0 : ∀ c (s : State), (each (List.range 8) (fun q => State.releaseRings (16 + 8 * c + q)) s).calm = s.calm :=
      fun c s => calm_each _ _ _ fun _ _ => calm_State_releaseRings ..
    have h1 : ∀ p (l : List Nat) (s : State), (each l (fun i t => t.modObj p i fun x => { x with st := 2 }) s).calm = s.calm :=
      fun p l s => calm_each _ _ _ fun _ _ => calm_State_modObj ..
    have h2 : ∀ p (l : List Nat) (s : State), (each l (State.retireObj p) s).calm = s.calm :=
      fun p l s => calm_each _ _ _ fun _ _ => calm_State_retireObj ..
    have h3 : ∀ c (s : State), (each (List.range 8) (fun q => State.removeQueue (16 + 8 * c + q)) s).calm = s.calm :=
      fun c s => calm_each _ _ _ fun _ _ => calm_State_removeQueue ..
    have w1 : ∀ b f (s : State), (when b (State.modHst f) s).calm = s.calm := fun b f s => calm_when _ _ _ fun _ => calm_State_modHst ..
    have w2 : ∀ b p i (s : State), (when b (State.retireObj p i) s).calm = s.calm := fun b p i s => calm_when _ _ _ fun _ => calm_State_retireObj ..
    have e : s2.calm = s.calm := (h2 ..).trans ((h1 ..).trans (h0 ..))
    split
    · exact e
    · exact (calm_State_complete ..).trans <| (calm_State_modObju ..).trans <| (h3 ..).trans <| (w2 ..).trans <|
        (calm_State_tearFences ..).trans <| (w1 ..).trans e

theorem calm_State_unstall (a1) (s : State) : (State.unstall a1 s).calm = s.calm := by
  unfold State.unstall
  simp only [calm_State_modCtx, eq_self]

theorem calm_State_fqConsume (a1) (a2) (s : State) : (State.fqConsume a1 a2 s).calm = s.calm := by
  unfold State.fqConsume
  repeat' (first | with_reducible rfl | (simp only [calm_State_modCtx, calm_State_faultTo, calm_State_unstall, apply_ite State.calm, apply_ite Prod.fst, ite_self, implies_true, eq_self, calm_foldl, calm_each, calm_when, calm_State_emit, calm_State_used]; done) | (simp only [calm_State_modCtx, calm_State_faultTo, calm_State_unstall, apply_ite State.calm, apply_ite Prod.fst, ite_self, implies_true, eq_self, calm_foldl, calm_each, calm_when, calm_State_emit, calm_State_used]) | split | (refine (calm_each _ _ _ (fun x t => ?_)).trans ?_) | (refine (calm_when _ _ _ (fun t => ?_)).trans ?_) | (refine (calm_foldl _ _ _ (fun t x => ?_)).trans ?_) | (rename_i h; refine (congrArg (fun x => State.calm (Prod.fst x)) h).symm.trans ?_; simp only [calm_State_modCtx, calm_State_faultTo, calm_State_unstall, apply_ite State.calm, apply_ite Prod.fst, ite_self, implies_true, eq_self, calm_foldl, calm_each, calm_when, calm_State_emit, calm_State_used]; done) | (refine (calm_foldFst _ _ _ (fun x k => ?_)).trans ?_) | intro x)

theorem calm_State_fqWrite (a1) (a2) (a3) (s : State) : (State.fqWrite a1 a2 a3 s).calm = s.calm := by
  unfold State.fqWrite
  simp only [calm_State_fqConsume, calm_State_flag, apply_ite State.calm, ite_self, eq_self]

theorem calm_State_mnFault (a1) (a2) (a3) (s : State) : (State.mnFault a1 a2 a3 s).calm = s.calm := by
  unfold State.mnFault
  simp only [calm_State_fault, eq_self]

theorem calm_State_mnRefuse (a1) (a2) (a3) (a4) (s : State) : (State.mnRefuse a1 a2 a3 a4 s).calm = s.calm := by
  unfold State.mnRefuse
  simp only [calm_when, calm_State_mnFault, calm_State_mnNoData, calm_State_cntr, implies_true, eq_self, calm_when]

theorem calm_State_sampleMn (a1) (a2) (a3) (s : State) : (State.sampleMn a1 a2 a3 s).calm = s.calm := by
  unfold State.sampleMn
  simp only [calm_State_modObs, calm_each, calm_State_formIn, implies_true, eq_self, calm_each]

theorem calm_State_memoAdd (a1) (s : State) : (State.memoAdd a1 s).calm = s.calm := by
  unfold State.memoAdd
  simp only [calm_State_modRem, eq_self]

theorem calm_State_answerAtomic (a1) (a2) (a3) (a4) (a5) (a6) (s : State) : (State.answerAtomic a1 a2 a3 a4 a5 a6 s).calm = s.calm := by
  unfold State.answerAtomic
  simp only [calm_State_memoAdd, calm_State_enqueue, eq_self]

theorem calm_State_resultDone (a1) (a2) (a3) (a4) (a5) (s : State) : (State.resultDone a1 a2 a3 a4 a5 s).calm = s.calm := by
  unfold State.resultDone
  simp only [calm_State_sendTo, calm_State_modRem, eq_self]

theorem calm_State_serveDone (a1) (a2) (a3) (a4) (s : State) : (State.serveDone a1 a2 a3 a4 s).calm = s.calm := by
  unfold State.serveDone
  repeat' (first | with_reducible rfl | (simp only [calm_State_modRem, calm_State_resultDone, calm_State_memoAdd, calm_State_sendFlow, apply_ite State.calm, apply_ite Prod.fst, ite_self, implies_true, eq_self, calm_foldl, calm_each, calm_when, calm_State_emit, calm_State_used]; done) | (simp only [calm_State_modRem, calm_State_resultDone, calm_State_memoAdd, calm_State_sendFlow, apply_ite State.calm, apply_ite Prod.fst, ite_self, implies_true, eq_self, calm_foldl, calm_each, calm_when, calm_State_emit, calm_State_used]) | split | (refine (calm_each _ _ _ (fun x t => ?_)).trans ?_) | (refine (calm_when _ _ _ (fun t => ?_)).trans ?_) | (refine (calm_foldl _ _ _ (fun t x => ?_)).trans ?_) | (rename_i h; refine (congrArg (fun x => State.calm (Prod.fst x)) h).symm.trans ?_; simp only [calm_State_modRem, calm_State_resultDone, calm_State_memoAdd, calm_State_sendFlow, apply_ite State.calm, apply_ite Prod.fst, ite_self, implies_true, eq_self, calm_foldl, calm_each, calm_when, calm_State_emit, calm_State_used]; done) | (refine (calm_foldFst _ _ _ (fun x k => ?_)).trans ?_) | intro x)

theorem calm_State_putEntry (a1) (s : State) : (State.putEntry a1 s).calm = s.calm := by
  unfold State.putEntry
  simp only [calm_State_modSg, eq_self]

theorem calm_State_dropEntry (a1) (s : State) : (State.dropEntry a1 s).calm = s.calm := by
  unfold State.dropEntry
  simp only [calm_State_modSg, eq_self]

theorem calm_State_entryEnd (a1) (a2) (s : State) : (State.entryEnd a1 a2 s).calm = s.calm := by
  unfold State.entryEnd
  repeat' (first | with_reducible rfl | (simp only [calm_State_dropEntry, apply_ite State.calm, apply_ite Prod.fst, ite_self, implies_true, eq_self, calm_foldl, calm_each, calm_when, calm_State_emit, calm_State_used]; done) | (simp only [calm_State_dropEntry, apply_ite State.calm, apply_ite Prod.fst, ite_self, implies_true, eq_self, calm_foldl, calm_each, calm_when, calm_State_emit, calm_State_used]) | split | (refine (calm_each _ _ _ (fun x t => ?_)).trans ?_) | (refine (calm_when _ _ _ (fun t => ?_)).trans ?_) | (refine (calm_foldl _ _ _ (fun t x => ?_)).trans ?_) | (rename_i h; refine (congrArg (fun x => State.calm (Prod.fst x)) h).symm.trans ?_; simp only [calm_State_dropEntry, apply_ite State.calm, apply_ite Prod.fst, ite_self, implies_true, eq_self, calm_foldl, calm_each, calm_when, calm_State_emit, calm_State_used]; done) | (refine (calm_foldFst _ _ _ (fun x k => ?_)).trans ?_) | intro x)

theorem calm_State_opFails (a1) (a2) (s : State) : (State.opFails a1 a2 s).calm = s.calm := by
  unfold State.opFails
  repeat' (first | with_reducible rfl | (simp only [calm_State_answerAtomic, calm_State_serveDone, calm_State_mnRefuse, apply_ite State.calm, apply_ite Prod.fst, ite_self, implies_true, eq_self, calm_foldl, calm_each, calm_when, calm_State_emit, calm_State_used]; done) | (simp only [calm_State_answerAtomic, calm_State_serveDone, calm_State_mnRefuse, apply_ite State.calm, apply_ite Prod.fst, ite_self, implies_true, eq_self, calm_foldl, calm_each, calm_when, calm_State_emit, calm_State_used]) | split | (refine (calm_each _ _ _ (fun x t => ?_)).trans ?_) | (refine (calm_when _ _ _ (fun t => ?_)).trans ?_) | (refine (calm_foldl _ _ _ (fun t x => ?_)).trans ?_) | (rename_i h; refine (congrArg (fun x => State.calm (Prod.fst x)) h).symm.trans ?_; simp only [calm_State_answerAtomic, calm_State_serveDone, calm_State_mnRefuse, apply_ite State.calm, apply_ite Prod.fst, ite_self, implies_true, eq_self, calm_foldl, calm_each, calm_when, calm_State_emit, calm_State_used]; done) | (refine (calm_foldFst _ _ _ (fun x k => ?_)).trans ?_) | intro x)

theorem calm_State_opsFail (a1) (a2) (s : State) : (State.opsFail a1 a2 s).calm = s.calm := by
  unfold State.opsFail
  simp only [calm_each, calm_State_opFails, implies_true, eq_self, calm_each]

theorem calm_State_opReply (a1) (a2) (a3) (s : State) : (State.opReply a1 a2 a3 s).calm = s.calm := by
  unfold State.opReply
  repeat' (first | with_reducible rfl | (simp only [calm_State_serveDone, calm_State_answerAtomic, calm_State_emit, calm_State_mnNoData, apply_ite State.calm, apply_ite Prod.fst, ite_self, implies_true, eq_self, calm_foldl, calm_each, calm_when, calm_State_emit, calm_State_used]; done) | (simp only [calm_State_serveDone, calm_State_answerAtomic, calm_State_emit, calm_State_mnNoData, apply_ite State.calm, apply_ite Prod.fst, ite_self, implies_true, eq_self, calm_foldl, calm_each, calm_when, calm_State_emit, calm_State_used]) | split | (refine (calm_each _ _ _ (fun x t => ?_)).trans ?_) | (refine (calm_when _ _ _ (fun t => ?_)).trans ?_) | (refine (calm_foldl _ _ _ (fun t x => ?_)).trans ?_) | (rename_i h; refine (congrArg (fun x => State.calm (Prod.fst x)) h).symm.trans ?_; simp only [calm_State_serveDone, calm_State_answerAtomic, calm_State_emit, calm_State_mnNoData, apply_ite State.calm, apply_ite Prod.fst, ite_self, implies_true, eq_self, calm_foldl, calm_each, calm_when, calm_State_emit, calm_State_used]; done) | (refine (calm_foldFst _ _ _ (fun x k => ?_)).trans ?_) | intro x)

theorem calm_State_mismatch (a1) (a2) (a3) (a4) (s : State) : (State.mismatch a1 a2 a3 a4 s).calm = s.calm := by
  unfold State.mismatch
  simp only [calm_State_press, calm_State_glob, calm_State_modSg, eq_self]

theorem calm_State_saHalt (a1) (a2) (s : State) : (State.saHalt a1 a2 s).calm = s.calm := by
  unfold State.saHalt
  simp only [calm_State_opsFail, calm_State_modSg, calm_State_backWhere, calm_State_modRst, calm_State_flag, eq_self]

theorem calm_State_opRun (a1) (a2) (s : State) : (State.opRun a1 a2 s).calm = s.calm := by
  unfold State.opRun
  simp only [calm_State_opFails, calm_when, calm_State_mismatch, calm_State_saHalt, calm_State_putEntry, calm_State_wants, calm_State_glob, calm_State_cntr, calm_State_opReply, calm_State_sampleMn, apply_ite State.calm, ite_self, implies_true, eq_self, calm_when]

theorem calm_State_runOps (a1) (a2) (s : State) : (State.runOps a1 a2 s).calm = s.calm := by
  unfold State.runOps
  repeat' (first | with_reducible rfl | (simp only [calm_State_entryEnd, calm_each, calm_State_opRun, calm_State_opFails, calm_State_putEntry, apply_ite State.calm, apply_ite Prod.fst, ite_self, implies_true, eq_self, calm_foldl, calm_each, calm_when, calm_State_emit, calm_State_used]; done) | (simp only [calm_State_entryEnd, calm_each, calm_State_opRun, calm_State_opFails, calm_State_putEntry, apply_ite State.calm, apply_ite Prod.fst, ite_self, implies_true, eq_self, calm_foldl, calm_each, calm_when, calm_State_emit, calm_State_used]) | split | (refine (calm_each _ _ _ (fun x t => ?_)).trans ?_) | (refine (calm_when _ _ _ (fun t => ?_)).trans ?_) | (refine (calm_foldl _ _ _ (fun t x => ?_)).trans ?_) | (rename_i h; refine (congrArg (fun x => State.calm (Prod.fst x)) h).symm.trans ?_; simp only [calm_State_entryEnd, calm_each, calm_State_opRun, calm_State_opFails, calm_State_putEntry, apply_ite State.calm, apply_ite Prod.fst, ite_self, implies_true, eq_self, calm_foldl, calm_each, calm_when, calm_State_emit, calm_State_used]; done) | (refine (calm_foldFst _ _ _ (fun x k => ?_)).trans ?_) | intro x)

theorem calm_State_joinEntry (a1) (a2) (s : State) : (State.joinEntry a1 a2 s).calm = s.calm := by
  unfold State.joinEntry
  simp only [calm_State_entryEnd, calm_State_opRun, calm_State_putEntry, apply_ite State.calm, ite_self, eq_self]

theorem calm_State_mergeTake (a1) (a2) (s : State) : (State.mergeTake a1 a2 s).calm = s.calm := by
  unfold State.mergeTake
  repeat' (first | with_reducible rfl | (simp only [calm_State_dropEntry, calm_when, calm_State_glob, calm_State_backEntry, apply_ite State.calm, apply_ite Prod.fst, ite_self, implies_true, eq_self, calm_foldl, calm_each, calm_when, calm_State_emit, calm_State_used]; done) | (simp only [calm_State_dropEntry, calm_when, calm_State_glob, calm_State_backEntry, apply_ite State.calm, apply_ite Prod.fst, ite_self, implies_true, eq_self, calm_foldl, calm_each, calm_when, calm_State_emit, calm_State_used]) | split | (refine (calm_each _ _ _ (fun x t => ?_)).trans ?_) | (refine (calm_when _ _ _ (fun t => ?_)).trans ?_) | (refine (calm_foldl _ _ _ (fun t x => ?_)).trans ?_) | (rename_i h; refine (congrArg (fun x => State.calm (Prod.fst x)) h).symm.trans ?_; simp only [calm_State_dropEntry, calm_when, calm_State_glob, calm_State_backEntry, apply_ite State.calm, apply_ite Prod.fst, ite_self, implies_true, eq_self, calm_foldl, calm_each, calm_when, calm_State_emit, calm_State_used]; done) | (refine (calm_foldFst _ _ _ (fun x k => ?_)).trans ?_) | intro x)

theorem calm_State_fillGives (a1) (a2) (a3) (a4) (s : State) : (State.fillGives a1 a2 a3 a4 s).calm = s.calm := by
  unfold State.fillGives
  repeat' (first | with_reducible rfl | (simp only [calm_State_opsFail, calm_State_dropEntry, calm_each, calm_State_opReply, calm_State_opFails, calm_State_runOps, calm_State_putEntry, calm_State_mergeTake, apply_ite State.calm, apply_ite Prod.fst, ite_self, implies_true, eq_self, calm_foldl, calm_each, calm_when, calm_State_emit, calm_State_used]; done) | (simp only [calm_State_opsFail, calm_State_dropEntry, calm_each, calm_State_opReply, calm_State_opFails, calm_State_runOps, calm_State_putEntry, calm_State_mergeTake, apply_ite State.calm, apply_ite Prod.fst, ite_self, implies_true, eq_self, calm_foldl, calm_each, calm_when, calm_State_emit, calm_State_used]) | split | (refine (calm_each _ _ _ (fun x t => ?_)).trans ?_) | (refine (calm_when _ _ _ (fun t => ?_)).trans ?_) | (refine (calm_foldl _ _ _ (fun t x => ?_)).trans ?_) | (rename_i h; refine (congrArg (fun x => State.calm (Prod.fst x)) h).symm.trans ?_; simp only [calm_State_opsFail, calm_State_dropEntry, calm_each, calm_State_opReply, calm_State_opFails, calm_State_runOps, calm_State_putEntry, calm_State_mergeTake, apply_ite State.calm, apply_ite Prod.fst, ite_self, implies_true, eq_self, calm_foldl, calm_each, calm_when, calm_State_emit, calm_State_used]; done) | (refine (calm_foldFst _ _ _ (fun x k => ?_)).trans ?_) | intro x)

theorem calm_State_tell (a1) (a2) (s : State) : (State.tell a1 a2 s).calm = s.calm := by
  unfold State.tell
  repeat' (first | with_reducible rfl | (simp only [calm_State_fillGives, calm_State_mnRefuse, calm_State_plotSays, calm_State_serveDone, apply_ite State.calm, apply_ite Prod.fst, ite_self, implies_true, eq_self, calm_foldl, calm_each, calm_when, calm_State_emit, calm_State_used]; done) | (simp only [calm_State_fillGives, calm_State_mnRefuse, calm_State_plotSays, calm_State_serveDone, apply_ite State.calm, apply_ite Prod.fst, ite_self, implies_true, eq_self, calm_foldl, calm_each, calm_when, calm_State_emit, calm_State_used]) | split | (refine (calm_each _ _ _ (fun x t => ?_)).trans ?_) | (refine (calm_when _ _ _ (fun t => ?_)).trans ?_) | (refine (calm_foldl _ _ _ (fun t x => ?_)).trans ?_) | (rename_i h; refine (congrArg (fun x => State.calm (Prod.fst x)) h).symm.trans ?_; simp only [calm_State_fillGives, calm_State_mnRefuse, calm_State_plotSays, calm_State_serveDone, apply_ite State.calm, apply_ite Prod.fst, ite_self, implies_true, eq_self, calm_foldl, calm_each, calm_when, calm_State_emit, calm_State_used]; done) | (refine (calm_foldFst _ _ _ (fun x k => ?_)).trans ?_) | intro x)

theorem calm_State_failAcc (a1) (a2) (s : State) : (State.failAcc a1 a2 s).calm = s.calm := by
  unfold State.failAcc
  simp only [calm_when, calm_State_tell, calm_State_dropAcc, implies_true, eq_self, calm_when]

theorem calm_State_wiltRegion (a1) (a2) (s : State) : (State.wiltRegion a1 a2 s).calm = s.calm := by
  unfold State.wiltRegion
  repeat' (first | with_reducible rfl | (simp only [calm_State_wiltAnchor, calm_State_mnFault, calm_State_cntr, calm_each, calm_State_failAcc, calm_State_opsFail, calm_State_dropEntry, calm_State_modSg, apply_ite State.calm, apply_ite Prod.fst, ite_self, implies_true, eq_self, calm_foldl, calm_each, calm_when, calm_State_emit, calm_State_used]; done) | (simp only [calm_State_wiltAnchor, calm_State_mnFault, calm_State_cntr, calm_each, calm_State_failAcc, calm_State_opsFail, calm_State_dropEntry, calm_State_modSg, apply_ite State.calm, apply_ite Prod.fst, ite_self, implies_true, eq_self, calm_foldl, calm_each, calm_when, calm_State_emit, calm_State_used]) | split | (refine (calm_each _ _ _ (fun x t => ?_)).trans ?_) | (refine (calm_when _ _ _ (fun t => ?_)).trans ?_) | (refine (calm_foldl _ _ _ (fun t x => ?_)).trans ?_) | (rename_i h; refine (congrArg (fun x => State.calm (Prod.fst x)) h).symm.trans ?_; simp only [calm_State_wiltAnchor, calm_State_mnFault, calm_State_cntr, calm_each, calm_State_failAcc, calm_State_opsFail, calm_State_dropEntry, calm_State_modSg, apply_ite State.calm, apply_ite Prod.fst, ite_self, implies_true, eq_self, calm_foldl, calm_each, calm_when, calm_State_emit, calm_State_used]; done) | (refine (calm_foldFst _ _ _ (fun x k => ?_)).trans ?_) | intro x)

theorem calm_State_commitPath (a1) (s : State) : (State.commitPath a1 s).calm = s.calm := by
  unfold State.commitPath
  repeat' (first | with_reducible rfl | (simp only [calm_each, calm_State_modLine, calm_State_insertLine, apply_ite State.calm, apply_ite Prod.fst, ite_self, implies_true, eq_self, calm_foldl, calm_each, calm_when, calm_State_emit, calm_State_used]; done) | (simp only [calm_each, calm_State_modLine, calm_State_insertLine, apply_ite State.calm, apply_ite Prod.fst, ite_self, implies_true, eq_self, calm_foldl, calm_each, calm_when, calm_State_emit, calm_State_used]) | split | (refine (calm_each _ _ _ (fun x t => ?_)).trans ?_) | (refine (calm_when _ _ _ (fun t => ?_)).trans ?_) | (refine (calm_foldl _ _ _ (fun t x => ?_)).trans ?_) | (rename_i h; refine (congrArg (fun x => State.calm (Prod.fst x)) h).symm.trans ?_; simp only [calm_each, calm_State_modLine, calm_State_insertLine, apply_ite State.calm, apply_ite Prod.fst, ite_self, implies_true, eq_self, calm_foldl, calm_each, calm_when, calm_State_emit, calm_State_used]; done) | (refine (calm_foldFst _ _ _ (fun x k => ?_)).trans ?_) | intro x)

theorem calm_State_setWord (a1) (a2) (a3) (s : State) : (State.setWord a1 a2 a3 s).calm = s.calm := by
  unfold State.setWord
  simp only [calm_State_modLine, eq_self]

theorem calm_State_ensureLine (a1) (a2) (s : State) : (State.ensureLine a1 a2 s).calm = s.calm := by
  unfold State.ensureLine
  simp only [calm_State_insertLine, apply_ite State.calm, ite_self, eq_self]

theorem calm_State_bumpVersion (a1) (a2) (s : State) : (State.bumpVersion a1 a2 s).1.calm = s.calm := by
  unfold State.bumpVersion
  simp only [calm_State_ensureLine, calm_State_setWord, apply_ite State.calm, apply_ite Prod.fst, ite_self, eq_self]

theorem calm_State_poisonSect (a1) (a2) (s : State) : (State.poisonSect a1 a2 s).calm = s.calm := by
  unfold State.poisonSect
  simp only [calm_State_setWord, calm_State_ensureLine, calm_State_bumpVersion, apply_ite State.calm, ite_self, eq_self]

theorem calm_State_poisonAll (a1) (a2) (a3) (s : State) : (State.poisonAll a1 a2 a3 s).calm = s.calm := by
  unfold State.poisonAll
  simp only [calm_each, calm_State_poisonSect, implies_true, eq_self, calm_each]

theorem calm_State_putSector (a1) (a2) (a3) (a4) (s : State) : (State.putSector a1 a2 a3 a4 s).calm = s.calm := by
  unfold State.putSector
  simp only [calm_State_bumpVersion, calm_State_setWord, calm_State_ensureLine, calm_State_glob, calm_State_cntr, calm_State_msWrite, eq_self]

theorem calm_State_giveRead (a1) (a2) (s : State) : (State.giveRead a1 a2 s).calm = s.calm := by
  unfold State.giveRead
  simp only [calm_State_emit, eq_self, calm_State_emit]

theorem calm_State_plotDone (a1) (a2) (a3) (s : State) : (State.plotDone a1 a2 a3 s).calm = s.calm := by
  unfold State.plotDone
  simp only [calm_State_plotSays, calm_State_modSg, eq_self]

theorem calm_State_byC (a1) (s : State) : (State.byC a1 s).calm = s.calm := by
  unfold State.byC
  repeat' (first | with_reducible rfl | (simp only [calm_State_dropAcc, calm_State_setAcc, calm_State_tell, calm_State_giveRead, calm_State_mnNoData, calm_State_mnRefuse, calm_State_plotDone, calm_State_plotSays, calm_State_fillGives, apply_ite State.calm, apply_ite Prod.fst, ite_self, implies_true, eq_self, calm_foldl, calm_each, calm_when, calm_State_emit, calm_State_used]; done) | (simp only [calm_State_dropAcc, calm_State_setAcc, calm_State_tell, calm_State_giveRead, calm_State_mnNoData, calm_State_mnRefuse, calm_State_plotDone, calm_State_plotSays, calm_State_fillGives, apply_ite State.calm, apply_ite Prod.fst, ite_self, implies_true, eq_self, calm_foldl, calm_each, calm_when, calm_State_emit, calm_State_used]) | split | (refine (calm_each _ _ _ (fun x t => ?_)).trans ?_) | (refine (calm_when _ _ _ (fun t => ?_)).trans ?_) | (refine (calm_foldl _ _ _ (fun t x => ?_)).trans ?_) | (rename_i h; refine (congrArg (fun x => State.calm (Prod.fst x)) h).symm.trans ?_; simp only [calm_State_dropAcc, calm_State_setAcc, calm_State_tell, calm_State_giveRead, calm_State_mnNoData, calm_State_mnRefuse, calm_State_plotDone, calm_State_plotSays, calm_State_fillGives, apply_ite State.calm, apply_ite Prod.fst, ite_self, implies_true, eq_self, calm_foldl, calm_each, calm_when, calm_State_emit, calm_State_used]; done) | (refine (calm_foldFst _ _ _ (fun x k => ?_)).trans ?_) | intro x)

theorem calm_State_toEntry (a1) (s : State) : (State.toEntry a1 s).calm = s.calm := by
  unfold State.toEntry
  repeat' (first | with_reducible rfl | (simp only [calm_State_joinEntry, calm_State_dropAcc, apply_ite State.calm, apply_ite Prod.fst, ite_self, implies_true, eq_self, calm_foldl, calm_each, calm_when, calm_State_emit, calm_State_used]; done) | (simp only [calm_State_joinEntry, calm_State_dropAcc, apply_ite State.calm, apply_ite Prod.fst, ite_self, implies_true, eq_self, calm_foldl, calm_each, calm_when, calm_State_emit, calm_State_used]) | split | (refine (calm_each _ _ _ (fun x t => ?_)).trans ?_) | (refine (calm_when _ _ _ (fun t => ?_)).trans ?_) | (refine (calm_foldl _ _ _ (fun t x => ?_)).trans ?_) | (rename_i h; refine (congrArg (fun x => State.calm (Prod.fst x)) h).symm.trans ?_; simp only [calm_State_joinEntry, calm_State_dropAcc, apply_ite State.calm, apply_ite Prod.fst, ite_self, implies_true, eq_self, calm_foldl, calm_each, calm_when, calm_State_emit, calm_State_used]; done) | (refine (calm_foldFst _ _ _ (fun x k => ?_)).trans ?_) | intro x)

theorem calm_State_settle (s : State) : (State.settle s).calm = s.calm := by
  unfold State.settle
  repeat' (first | with_reducible rfl | (simp only [calm_each, calm_State_toEntry, calm_State_byC, apply_ite State.calm, apply_ite Prod.fst, ite_self, implies_true, eq_self, calm_foldl, calm_each, calm_when, calm_State_emit, calm_State_used]; done) | (simp only [calm_each, calm_State_toEntry, calm_State_byC, apply_ite State.calm, apply_ite Prod.fst, ite_self, implies_true, eq_self, calm_foldl, calm_each, calm_when, calm_State_emit, calm_State_used]) | split | (refine (calm_each _ _ _ (fun x t => ?_)).trans ?_) | (refine (calm_when _ _ _ (fun t => ?_)).trans ?_) | (refine (calm_foldl _ _ _ (fun t x => ?_)).trans ?_) | (rename_i h; refine (congrArg (fun x => State.calm (Prod.fst x)) h).symm.trans ?_; simp only [calm_each, calm_State_toEntry, calm_State_byC, apply_ite State.calm, apply_ite Prod.fst, ite_self, implies_true, eq_self, calm_foldl, calm_each, calm_when, calm_State_emit, calm_State_used]; done) | (refine (calm_foldFst _ _ _ (fun x k => ?_)).trans ?_) | intro x)

theorem calm_State_kick (s : State) : (State.kick s).calm = s.calm := by
  unfold State.kick
  repeat' (first | with_reducible rfl | (simp only [calm_each, calm_State_issue, apply_ite State.calm, apply_ite Prod.fst, ite_self, implies_true, eq_self, calm_foldl, calm_each, calm_when, calm_State_emit, calm_State_used]; done) | (simp only [calm_each, calm_State_issue, apply_ite State.calm, apply_ite Prod.fst, ite_self, implies_true, eq_self, calm_foldl, calm_each, calm_when, calm_State_emit, calm_State_used]) | split | (refine (calm_each _ _ _ (fun x t => ?_)).trans ?_) | (refine (calm_when _ _ _ (fun t => ?_)).trans ?_) | (refine (calm_foldl _ _ _ (fun t x => ?_)).trans ?_) | (rename_i h; refine (congrArg (fun x => State.calm (Prod.fst x)) h).symm.trans ?_; simp only [calm_each, calm_State_issue, apply_ite State.calm, apply_ite Prod.fst, ite_self, implies_true, eq_self, calm_foldl, calm_each, calm_when, calm_State_emit, calm_State_used]; done) | (refine (calm_foldFst _ _ _ (fun x k => ?_)).trans ?_) | intro x)

theorem calm_State_startFill (a1) (a2) (s : State) : (State.startFill a1 a2 s).calm = s.calm := by
  unfold State.startFill
  simp only [calm_State_startPlotAs, calm_State_putEntry, eq_self]

theorem calm_State_saGo (w) (s : State) : ∀ t, s.saGo w = some t → t.calm = s.calm := by
  intro t h; unfold State.saGo at h
  simp only [] at h
  split at h
  · cases h
  · split at h
    · cases h; exact calm_State_opFails ..
    · split at h
      · cases h; exact calm_State_joinEntry ..
      · split at h
        · cases h; exact (calm_State_startFill ..).trans (calm_State_dropEntry ..)
        · cases h
    · split at h
      · cases h; exact calm_State_startFill ..
      · cases h
    · cases h

theorem calm_saGoD (w) (s t : State) (h : s.calm = t.calm) : ((s.saGo w).getD t).calm = t.calm := by
  cases e : s.saGo w with
  | none => rfl
  | some u => exact (calm_State_saGo w s u e).trans h

theorem calm_State_saPump (s : State) : s.saPump.calm = s.calm := by
  unfold State.saPump
  refine calm_each _ _ _ fun i t => ?_
  split
  · exact calm_saGoD _ _ _ (calm_State_modSg ..)
  · rfl

theorem calm_State_saRestart (s : State) : (State.saRestart s).calm = s.calm := by
  unfold State.saRestart
  simp only [calm_each, calm_State_count, calm_State_modRst, calm_State_modSg, implies_true, eq_self, calm_each]

theorem calm_State_flow (s : State) : (State.flow s).calm = s.calm := by
  unfold State.flow
  simp only [calm_State_saRestart, calm_State_settle, calm_State_kick, calm_State_saPump, eq_self]

theorem calm_State_reach (a1) (s : State) : (State.reach a1 s).calm = s.calm := by
  unfold State.reach
  repeat' (first | with_reducible rfl | (simp only [calm_State_flow, calm_State_tell, calm_State_joinEntry, calm_State_startPlot, apply_ite State.calm, apply_ite Prod.fst, ite_self, implies_true, eq_self, calm_foldl, calm_each, calm_when, calm_State_emit, calm_State_used]; done) | (simp only [calm_State_flow, calm_State_tell, calm_State_joinEntry, calm_State_startPlot, apply_ite State.calm, apply_ite Prod.fst, ite_self, implies_true, eq_self, calm_foldl, calm_each, calm_when, calm_State_emit, calm_State_used]) | split | (refine (calm_each _ _ _ (fun x t => ?_)).trans ?_) | (refine (calm_when _ _ _ (fun t => ?_)).trans ?_) | (refine (calm_foldl _ _ _ (fun t x => ?_)).trans ?_) | (rename_i h; refine (congrArg (fun x => State.calm (Prod.fst x)) h).symm.trans ?_; simp only [calm_State_flow, calm_State_tell, calm_State_joinEntry, calm_State_startPlot, apply_ite State.calm, apply_ite Prod.fst, ite_self, implies_true, eq_self, calm_foldl, calm_each, calm_when, calm_State_emit, calm_State_used]; done) | (refine (calm_foldFst _ _ _ (fun x k => ?_)).trans ?_) | intro x)

theorem calm_State_arith (o) (e) (sect) (slot) (plot) (s : State) : (s.arith o e sect slot plot).calm = s.calm := by
  unfold State.arith
  extract_lets i w u
  refine (calm_State_flow _).trans ?_
  split
  · rename_i t h; exact (calm_State_saGo _ _ _ h).trans (calm_State_takeNo s)
  · have e : u.calm = s.calm := (calm_State_used _).trans <| (calm_State_cntr ..).trans <| (calm_State_modSg ..).trans (calm_State_takeNo s)
    split
    · exact (calm_State_readPlot ..).trans e
    · exact e

theorem calm_State_answer (a1) (a2) (s : State) : (State.answer a1 a2 s).calm = s.calm := by
  unfold State.answer
  repeat' (first | with_reducible rfl | (simp only [calm_State_dropAcc, calm_State_glob, calm_State_cntr, calm_State_failAcc, calm_when, calm_State_giveRead, calm_State_plotDone, calm_State_serveDone, calm_State_fillGives, calm_State_putSector, calm_State_modSg, calm_State_mnNoData, apply_ite State.calm, apply_ite Prod.fst, ite_self, implies_true, eq_self, calm_foldl, calm_each, calm_when, calm_State_emit, calm_State_used]; done) | (simp only [calm_State_dropAcc, calm_State_glob, calm_State_cntr, calm_State_failAcc, calm_when, calm_State_giveRead, calm_State_plotDone, calm_State_serveDone, calm_State_fillGives, calm_State_putSector, calm_State_modSg, calm_State_mnNoData, apply_ite State.calm, apply_ite Prod.fst, ite_self, implies_true, eq_self, calm_foldl, calm_each, calm_when, calm_State_emit, calm_State_used]) | split | (refine (calm_each _ _ _ (fun x t => ?_)).trans ?_) | (refine (calm_when _ _ _ (fun t => ?_)).trans ?_) | (refine (calm_foldl _ _ _ (fun t x => ?_)).trans ?_) | (rename_i h; refine (congrArg (fun x => State.calm (Prod.fst x)) h).symm.trans ?_; simp only [calm_State_dropAcc, calm_State_glob, calm_State_cntr, calm_State_failAcc, calm_when, calm_State_giveRead, calm_State_plotDone, calm_State_serveDone, calm_State_fillGives, calm_State_putSector, calm_State_modSg, calm_State_mnNoData, apply_ite State.calm, apply_ite Prod.fst, ite_self, implies_true, eq_self, calm_foldl, calm_each, calm_when, calm_State_emit, calm_State_used]; done) | (refine (calm_foldFst _ _ _ (fun x k => ?_)).trans ?_) | intro x)

theorem calm_State_plotGate (a1) (a2) (a3) (s : State) : (State.plotGate a1 a2 a3 s).1.calm = s.calm := by
  unfold State.plotGate
  repeat' (first | with_reducible rfl | (simp only [calm_State_plotLook, apply_ite State.calm, apply_ite Prod.fst, ite_self, implies_true, eq_self, calm_foldl, calm_each, calm_when, calm_State_emit, calm_State_used]; done) | (simp only [calm_State_plotLook, apply_ite State.calm, apply_ite Prod.fst, ite_self, implies_true, eq_self, calm_foldl, calm_each, calm_when, calm_State_emit, calm_State_used]) | split | (refine (calm_each _ _ _ (fun x t => ?_)).trans ?_) | (refine (calm_when _ _ _ (fun t => ?_)).trans ?_) | (refine (calm_foldl _ _ _ (fun t x => ?_)).trans ?_) | (rename_i h; refine (congrArg (fun x => State.calm (Prod.fst x)) h).symm.trans ?_; simp only [calm_State_plotLook, apply_ite State.calm, apply_ite Prod.fst, ite_self, implies_true, eq_self, calm_foldl, calm_each, calm_when, calm_State_emit, calm_State_used]; done) | (refine (calm_foldFst _ _ _ (fun x k => ?_)).trans ?_) | intro x)

theorem calm_State_upset (a1) (a2) (a3) (s : State) : (State.upset a1 a2 a3 s).calm = s.calm := by
  unfold State.upset
  repeat' (first | with_reducible rfl | (simp only [calm_State_setAnchor, apply_ite State.calm, apply_ite Prod.fst, ite_self, implies_true, eq_self, calm_foldl, calm_each, calm_when, calm_State_emit, calm_State_used]; done) | (simp only [calm_State_setAnchor, apply_ite State.calm, apply_ite Prod.fst, ite_self, implies_true, eq_self, calm_foldl, calm_each, calm_when, calm_State_emit, calm_State_used]) | split | (refine (calm_each _ _ _ (fun x t => ?_)).trans ?_) | (refine (calm_when _ _ _ (fun t => ?_)).trans ?_) | (refine (calm_foldl _ _ _ (fun t x => ?_)).trans ?_) | (rename_i h; refine (congrArg (fun x => State.calm (Prod.fst x)) h).symm.trans ?_; simp only [calm_State_setAnchor, apply_ite State.calm, apply_ite Prod.fst, ite_self, implies_true, eq_self, calm_foldl, calm_each, calm_when, calm_State_emit, calm_State_used]; done) | (refine (calm_foldFst _ _ _ (fun x k => ?_)).trans ?_) | intro x)

theorem calm_State_mnGate (a1) (a2) (s : State) : (State.mnGate a1 a2 s).1.calm = s.calm := by
  unfold State.mnGate
  repeat' (first | with_reducible rfl | (simp only [calm_State_glob, calm_State_useAnchor, calm_State_flow, calm_State_wiltRegion, calm_State_plotGate, apply_ite State.calm, apply_ite Prod.fst, ite_self, implies_true, eq_self, calm_foldl, calm_each, calm_when, calm_State_emit, calm_State_used]; done) | (simp only [calm_State_glob, calm_State_useAnchor, calm_State_flow, calm_State_wiltRegion, calm_State_plotGate, apply_ite State.calm, apply_ite Prod.fst, ite_self, implies_true, eq_self, calm_foldl, calm_each, calm_when, calm_State_emit, calm_State_used]) | split | (refine (calm_each _ _ _ (fun x t => ?_)).trans ?_) | (refine (calm_when _ _ _ (fun t => ?_)).trans ?_) | (refine (calm_foldl _ _ _ (fun t x => ?_)).trans ?_) | (rename_i h; refine (congrArg (fun x => State.calm (Prod.fst x)) h).symm.trans ?_; simp only [calm_State_glob, calm_State_useAnchor, calm_State_flow, calm_State_wiltRegion, calm_State_plotGate, apply_ite State.calm, apply_ite Prod.fst, ite_self, implies_true, eq_self, calm_foldl, calm_each, calm_when, calm_State_emit, calm_State_used]; done) | (refine (calm_foldFst _ _ _ (fun x k => ?_)).trans ?_) | intro x)

theorem calm_State_mnNo (a1) (a2) (a3) (a4) (s : State) : (State.mnNo a1 a2 a3 a4 s).calm = s.calm := by
  unfold State.mnNo
  repeat' (first | with_reducible rfl | (simp only [calm_State_mnRefuse, calm_State_mnNoData, apply_ite State.calm, apply_ite Prod.fst, ite_self, implies_true, eq_self, calm_foldl, calm_each, calm_when, calm_State_emit, calm_State_used]; done) | (simp only [calm_State_mnRefuse, calm_State_mnNoData, apply_ite State.calm, apply_ite Prod.fst, ite_self, implies_true, eq_self, calm_foldl, calm_each, calm_when, calm_State_emit, calm_State_used]) | split | (refine (calm_each _ _ _ (fun x t => ?_)).trans ?_) | (refine (calm_when _ _ _ (fun t => ?_)).trans ?_) | (refine (calm_foldl _ _ _ (fun t x => ?_)).trans ?_) | (rename_i h; refine (congrArg (fun x => State.calm (Prod.fst x)) h).symm.trans ?_; simp only [calm_State_mnRefuse, calm_State_mnNoData, apply_ite State.calm, apply_ite Prod.fst, ite_self, implies_true, eq_self, calm_foldl, calm_each, calm_when, calm_State_emit, calm_State_used]; done) | (refine (calm_foldFst _ _ _ (fun x k => ?_)).trans ?_) | intro x)

theorem calm_State_reachMn (a1) (a2) (s : State) : (State.reachMn a1 a2 s).calm = s.calm := by
  unfold State.reachMn
  repeat' (first | with_reducible rfl | (simp only [calm_State_flow, calm_State_joinEntry, calm_State_reach, apply_ite State.calm, apply_ite Prod.fst, ite_self, implies_true, eq_self, calm_foldl, calm_each, calm_when, calm_State_emit, calm_State_used]; done) | (simp only [calm_State_flow, calm_State_joinEntry, calm_State_reach, apply_ite State.calm, apply_ite Prod.fst, ite_self, implies_true, eq_self, calm_foldl, calm_each, calm_when, calm_State_emit, calm_State_used]) | split | (refine (calm_each _ _ _ (fun x t => ?_)).trans ?_) | (refine (calm_when _ _ _ (fun t => ?_)).trans ?_) | (refine (calm_foldl _ _ _ (fun t x => ?_)).trans ?_) | (rename_i h; refine (congrArg (fun x => State.calm (Prod.fst x)) h).symm.trans ?_; simp only [calm_State_flow, calm_State_joinEntry, calm_State_reach, apply_ite State.calm, apply_ite Prod.fst, ite_self, implies_true, eq_self, calm_foldl, calm_each, calm_when, calm_State_emit, calm_State_used]; done) | (refine (calm_foldFst _ _ _ (fun x k => ?_)).trans ?_) | intro x)

theorem calm_State_passWrite (a1) (a2) (a3) (a4) (s : State) : (State.passWrite a1 a2 a3 a4 s).calm = s.calm := by
  unfold State.passWrite
  repeat' (first | with_reducible rfl | (simp only [calm_State_msWrite, calm_State_modSg, apply_ite State.calm, apply_ite Prod.fst, ite_self, implies_true, eq_self, calm_foldl, calm_each, calm_when, calm_State_emit, calm_State_used]; done) | (simp only [calm_State_msWrite, calm_State_modSg, apply_ite State.calm, apply_ite Prod.fst, ite_self, implies_true, eq_self, calm_foldl, calm_each, calm_when, calm_State_emit, calm_State_used]) | split | (refine (calm_each _ _ _ (fun x t => ?_)).trans ?_) | (refine (calm_when _ _ _ (fun t => ?_)).trans ?_) | (refine (calm_foldl _ _ _ (fun t x => ?_)).trans ?_) | (rename_i h; refine (congrArg (fun x => State.calm (Prod.fst x)) h).symm.trans ?_; simp only [calm_State_msWrite, calm_State_modSg, apply_ite State.calm, apply_ite Prod.fst, ite_self, implies_true, eq_self, calm_foldl, calm_each, calm_when, calm_State_emit, calm_State_used]; done) | (refine (calm_foldFst _ _ _ (fun x k => ?_)).trans ?_) | intro x)

theorem calm_State_lineHere (a1) (a2) (a3) (s : State) : (State.lineHere a1 a2 a3 s).calm = s.calm := by
  unfold State.lineHere
  simp only [calm_State_modLine, eq_self]

theorem calm_State_sendLine (a1) (a2) (s : State) : (State.sendLine a1 a2 s).calm = s.calm := by
  unfold State.sendLine
  simp only [calm_State_glob, calm_State_msWrite, calm_State_modSg, calm_State_modLine, apply_ite State.calm, ite_self, eq_self]

theorem calm_State_backNode (a1) (a2) (s : State) : (State.backNode a1 a2 s).calm = s.calm := by
  unfold State.backNode
  simp only [calm_State_setAnchor, calm_State_setWord, calm_State_sendLine, apply_ite State.calm, ite_self, eq_self]

theorem calm_State_ptpIgnore (s : State) : (State.ptpIgnore s).calm = s.calm := by
  unfold State.ptpIgnore
  simp only [calm_State_modDt, eq_self]

theorem calm_State_discard (a1) (a2) (s : State) : (State.discard a1 a2 s).calm = s.calm := by
  unfold State.discard
  simp only [calm_State_glob, calm_State_count, eq_self]

theorem calm_State_rxAccept (a1) (a2) (s : State) : (State.rxAccept a1 a2 s).1.calm = s.calm := by
  unfold State.rxAccept
  repeat' (first | with_reducible rfl | (simp only [calm_State_discard, calm_State_modSess, calm_State_glob, calm_State_wants, calm_State_cntr, apply_ite State.calm, apply_ite Prod.fst, ite_self, implies_true, eq_self, calm_foldl, calm_each, calm_when, calm_State_emit, calm_State_used]; done) | (simp only [calm_State_discard, calm_State_modSess, calm_State_glob, calm_State_wants, calm_State_cntr, apply_ite State.calm, apply_ite Prod.fst, ite_self, implies_true, eq_self, calm_foldl, calm_each, calm_when, calm_State_emit, calm_State_used]) | split | (refine (calm_each _ _ _ (fun x t => ?_)).trans ?_) | (refine (calm_when _ _ _ (fun t => ?_)).trans ?_) | (refine (calm_foldl _ _ _ (fun t x => ?_)).trans ?_) | (rename_i h; refine (congrArg (fun x => State.calm (Prod.fst x)) h).symm.trans ?_; simp only [calm_State_discard, calm_State_modSess, calm_State_glob, calm_State_wants, calm_State_cntr, apply_ite State.calm, apply_ite Prod.fst, ite_self, implies_true, eq_self, calm_foldl, calm_each, calm_when, calm_State_emit, calm_State_used]; done) | (refine (calm_foldFst _ _ _ (fun x k => ?_)).trans ?_) | intro x)

theorem calm_State_rx (a1) (a2) (a3) (a4) (s : State) (ha4 : ∀ x0 t, State.calm (a4 x0 t) = t.calm) : (State.rx a1 a2 a3 a4 s).calm = s.calm := by
  unfold State.rx
  repeat' (first | with_reducible rfl | (simp only [calm_State_rxAccept, calm_when, calm_State_press, calm_State_modDt, ha4, apply_ite State.calm, apply_ite Prod.fst, ite_self, implies_true, eq_self, calm_foldl, calm_each, calm_when, calm_State_emit, calm_State_used]; done) | (simp only [calm_State_rxAccept, calm_when, calm_State_press, calm_State_modDt, ha4, apply_ite State.calm, apply_ite Prod.fst, ite_self, implies_true, eq_self, calm_foldl, calm_each, calm_when, calm_State_emit, calm_State_used]) | split | (refine (calm_each _ _ _ (fun x t => ?_)).trans ?_) | (refine (calm_when _ _ _ (fun t => ?_)).trans ?_) | (refine (calm_foldl _ _ _ (fun t x => ?_)).trans ?_) | (rename_i h; refine (congrArg (fun x => State.calm (Prod.fst x)) h).symm.trans ?_; simp only [calm_State_rxAccept, calm_when, calm_State_press, calm_State_modDt, ha4, apply_ite State.calm, apply_ite Prod.fst, ite_self, implies_true, eq_self, calm_foldl, calm_each, calm_when, calm_State_emit, calm_State_used]; done) | (refine (calm_foldFst _ _ _ (fun x k => ?_)).trans ?_) | intro x)

theorem calm_State_setupFails (a1) (a2) (s : State) : (State.setupFails a1 a2 s).calm = s.calm := by
  unfold State.setupFails
  simp only [calm_State_modSess, calm_State_sessDown, eq_self]

theorem calm_State_askExchange (a1) (a2) (s : State) : (State.askExchange a1 a2 s).calm = s.calm := by
  unfold State.askExchange
  repeat' (first | with_reducible rfl | (simp only [calm_State_emit, calm_State_pkeAdd, calm_State_modSess, calm_State_setupFails, apply_ite State.calm, apply_ite Prod.fst, ite_self, implies_true, eq_self, calm_foldl, calm_each, calm_when, calm_State_emit, calm_State_used]; done) | (simp only [calm_State_emit, calm_State_pkeAdd, calm_State_modSess, calm_State_setupFails, apply_ite State.calm, apply_ite Prod.fst, ite_self, implies_true, eq_self, calm_foldl, calm_each, calm_when, calm_State_emit, calm_State_used]) | split | (refine (calm_each _ _ _ (fun x t => ?_)).trans ?_) | (refine (calm_when _ _ _ (fun t => ?_)).trans ?_) | (refine (calm_foldl _ _ _ (fun t x => ?_)).trans ?_) | (rename_i h; refine (congrArg (fun x => State.calm (Prod.fst x)) h).symm.trans ?_; simp only [calm_State_emit, calm_State_pkeAdd, calm_State_modSess, calm_State_setupFails, apply_ite State.calm, apply_ite Prod.fst, ite_self, implies_true, eq_self, calm_foldl, calm_each, calm_when, calm_State_emit, calm_State_used]; done) | (refine (calm_foldFst _ _ _ (fun x k => ?_)).trans ?_) | intro x)

theorem calm_State_setup (a1) (a2) (s : State) : (State.setup a1 a2 s).calm = s.calm := by
  unfold State.setup
  simp only [calm_State_modSess, calm_State_traceSess, calm_State_modPort, calm_State_askExchange, apply_ite State.calm, ite_self, eq_self]

theorem calm_State_closeSess (a1) (a2) (a3) (s : State) : (State.closeSess a1 a2 a3 s).calm = s.calm := by
  unfold State.closeSess
  simp only [calm_State_modPort, calm_State_sessTo, calm_State_enqueue, apply_ite State.calm, ite_self, eq_self]

theorem calm_State_closePart (a1) (a2) (s : State) : (State.closePart a1 a2 s).calm = s.calm := by
  unfold State.closePart
  simp only [calm_each, calm_State_closeSess, implies_true, eq_self, calm_each]

theorem calm_State_rejoinNotice (a1) (s : State) : (State.rejoinNotice a1 s).calm = s.calm := by
  unfold State.rejoinNotice
  simp only [calm_State_broadcast, eq_self]

theorem calm_State_tryJoin (a1) (s : State) : (State.tryJoin a1 s).calm = s.calm := by
  unfold State.tryJoin
  simp only [calm_State_rejoinNotice, calm_State_lowerPfence, calm_State_modPart, calm_State_press, apply_ite State.calm, ite_self, eq_self]

theorem calm_State_tryOpen (a1) (a2) (s : State) : (State.tryOpen a1 a2 s).calm = s.calm := by
  unfold State.tryOpen
  simp only [calm_State_traceSess, calm_State_modSess, calm_State_emit, calm_State_retireAll, calm_State_tryJoin, apply_ite State.calm, ite_self, eq_self, calm_State_emit]

theorem calm_State_applyOpen (a1) (a2) (a3) (s : State) : (State.applyOpen a1 a2 a3 s).calm = s.calm := by
  unfold State.applyOpen
  simp only [calm_State_tryOpen, calm_State_modSess, apply_ite State.calm, ite_self, eq_self]

theorem calm_State_applyClose (a1) (a2) (s : State) : (State.applyClose a1 a2 s).calm = s.calm := by
  unfold State.applyClose
  simp only [calm_State_modSess, calm_State_closeSess, calm_State_sessDown, apply_ite State.calm, ite_self, eq_self]

theorem calm_State_armDefault (a1) (a2) (a3) (s : State) : (State.armDefault a1 a2 a3 s).calm = s.calm := by
  unfold State.armDefault
  repeat' (first | with_reducible rfl | (simp only [calm_State_modDt, calm_State_setSched, apply_ite State.calm, apply_ite Prod.fst, ite_self, implies_true, eq_self, calm_foldl, calm_each, calm_when, calm_State_emit, calm_State_used]; done) | (simp only [calm_State_modDt, calm_State_setSched, apply_ite State.calm, apply_ite Prod.fst, ite_self, implies_true, eq_self, calm_foldl, calm_each, calm_when, calm_State_emit, calm_State_used]) | split | (refine (calm_each _ _ _ (fun x t => ?_)).trans ?_) | (refine (calm_when _ _ _ (fun t => ?_)).trans ?_) | (refine (calm_foldl _ _ _ (fun t x => ?_)).trans ?_) | (rename_i h; refine (congrArg (fun x => State.calm (Prod.fst x)) h).symm.trans ?_; simp only [calm_State_modDt, calm_State_setSched, apply_ite State.calm, apply_ite Prod.fst, ite_self, implies_true, eq_self, calm_foldl, calm_each, calm_when, calm_State_emit, calm_State_used]; done) | (refine (calm_foldFst _ _ _ (fun x k => ?_)).trans ?_) | intro x)

theorem calm_State_armDefaults (a1) (s : State) : (State.armDefaults a1 s).calm = s.calm := by
  unfold State.armDefaults
  simp only [calm_State_armDefault, apply_ite State.calm, ite_self, eq_self]

theorem calm_State_lnkWrite (a1) (a2) (s : State) : (State.lnkWrite a1 a2 s).calm = s.calm := by
  unfold State.lnkWrite
  simp only [calm_State_busErr, calm_State_setReg, calm_State_armDefaults, calm_each, calm_State_closeSess, calm_State_sessDown1, apply_ite State.calm, ite_self, implies_true, eq_self, calm_each]

theorem calm_State_applyLost (a1) (a2) (a3) (a4) (a5) (s : State) : (State.applyLost a1 a2 a3 a4 a5 s).calm = s.calm := by
  unfold State.applyLost
  simp only [calm_State_modLnk, calm_State_broadcast, calm_State_modPart, calm_State_recordLost, apply_ite State.calm, ite_self, eq_self]

theorem calm_State_applyFence (a1) (a2) (a3) (a4) (a5) (a6) (a7) (a8) (a9) (s : State) : (State.applyFence a1 a2 a3 a4 a5 a6 a7 a8 a9 s).calm = s.calm := by
  unfold State.applyFence
  simp only [calm_State_broadcast, calm_State_modObju, calm_State_setFence, calm_State_signalHere, apply_ite State.calm, ite_self, eq_self, calm_finishing]

theorem calm_State_saltKeys (a1) (s : State) : (State.saltKeys a1 s).calm = s.calm := by
  unfold State.saltKeys
  simp only [calm_each, calm_State_retireFor, apply_ite State.calm, ite_self, implies_true, eq_self, calm_each]

theorem calm_State_flowLess (a1) (a2) (s : State) : (State.flowLess a1 a2 s).calm = s.calm := by
  unfold State.flowLess
  simp only [calm_State_saltKeys, calm_State_modPort, eq_self]

theorem calm_State_sealFrame (a1) (a2) (s : State) : (State.sealFrame a1 a2 s).calm = s.calm := by
  unfold State.sealFrame
  simp only [calm_State_emit, calm_State_modSess, calm_State_wants, calm_State_modPort, calm_when, calm_State_modPtp, calm_State_glob, calm_State_cntr, calm_State_tryOpen, calm_State_sessDown, apply_ite State.calm, apply_ite Prod.fst, ite_self, implies_true, eq_self, calm_when, calm_State_emit]

theorem calm_State_unqueue (a1) (a2) (s : State) : (State.unqueue a1 a2 s).calm = s.calm := by
  unfold State.unqueue
  simp only [calm_State_modPort, eq_self]

theorem calm_State_sealPick (a1) (a2) (s : State) : (State.sealPick a1 a2 s).calm = s.calm := by
  unfold State.sealPick
  simp only [calm_State_modPort, calm_when, calm_State_lowerCstop, calm_State_sealFrame, calm_State_unqueue, apply_ite State.calm, ite_self, implies_true, eq_self, calm_when]

theorem calm_State_nextSecret (a1) (a2) (a3) (s : State) : (State.nextSecret a1 a2 a3 s).1.calm = s.calm := by
  unfold State.nextSecret
  simp only [calm_State_retireFor, calm_State_settleSlot, eq_self]

theorem calm_State_epochMove (a1) (a2) (s : State) : (State.epochMove a1 a2 s).calm = s.calm := by
  unfold State.epochMove
  simp only [calm_State_nextSecret, calm_State_glob, calm_State_modSess, eq_self]

theorem calm_State_epochChange (a1) (a2) (s : State) : (State.epochChange a1 a2 s).calm = s.calm := by
  unfold State.epochChange
  simp only [calm_State_modSess, calm_State_epochMove, apply_ite State.calm, ite_self, eq_self]

theorem calm_State_routeReply (a1) (a2) (a3) (a4) (a5) (a6) (s : State) : (State.routeReply a1 a2 a3 a4 a5 a6 s).calm = s.calm := by
  unfold State.routeReply
  simp only [calm_State_enqueue, eq_self]

theorem calm_State_applyRoute (a1) (a2) (a3) (a4) (s : State) : (State.applyRoute a1 a2 a3 a4 s).calm = s.calm := by
  unfold State.applyRoute
  simp only [calm_State_routeReply, calm_State_enqueue, apply_ite State.calm, ite_self, eq_self]

theorem calm_State_sendOp (a1) (a2) (s : State) : (State.sendOp a1 a2 s).calm = s.calm := by
  unfold State.sendOp
  simp only [calm_State_sendTo, eq_self]

theorem calm_State_traceOp (a1) (a2) (a3) (a4) (s : State) : (State.traceOp a1 a2 a3 a4 s).calm = s.calm := by
  unfold State.traceOp
  simp only [calm_State_trace, eq_self]

theorem calm_State_newOp (a1) (s : State) : (State.newOp a1 s).calm = s.calm := by
  unfold State.newOp
  simp only [calm_State_traceOp, calm_State_sendOp, calm_State_modRem, eq_self]

theorem calm_State_takeTxid (a1) (s : State) : (State.takeTxid a1 s).calm = s.calm := by
  unfold State.takeTxid
  simp only [calm_State_modPart, eq_self]

theorem calm_State_srcRead (a1) (a2) (a3) (a4) (s : State) : (State.srcRead a1 a2 a3 a4 s).1.calm = s.calm := by
  unfold State.srcRead
  simp only [calm_State_innerRead, eq_self]

theorem calm_State_finishOp (a1) (a2) (a3) (a4) (a5) (s : State) : (State.finishOp a1 a2 a3 a4 a5 s).calm = s.calm := by
  unfold State.finishOp
  simp only [calm_State_modRem, calm_State_complete, calm_State_traceOp, calm_when, calm_State_cntr, implies_true, eq_self, calm_when]

theorem calm_State_keepPast (a1) (s : State) : (State.keepPast a1 s).calm = s.calm := by
  unfold State.keepPast
  simp only [calm_State_modRem, eq_self]

theorem calm_State_flowAnswered (a1) (a2) (a3) (a4) (a5) (s : State) : (State.flowAnswered a1 a2 a3 a4 a5 s).calm = s.calm := by
  unfold State.flowAnswered
  simp only [calm_State_flowLess, eq_self]

theorem calm_State_unlessBreach (a1) (a2) (a3) (s : State) (ha3 : ∀ t, State.calm (a3 t) = t.calm) : (State.unlessBreach a1 a2 a3 s).calm = s.calm := by
  unfold State.unlessBreach
  simp only [calm_State_discard, ha3, apply_ite State.calm, ite_self, eq_self]

theorem calm_State_applyReply (a1) (a2) (a3) (s : State) : (State.applyReply a1 a2 a3 s).calm = s.calm := by
  unfold State.applyReply
  repeat' (first | with_reducible rfl | (simp only [calm_State_flowAnswered, calm_State_finishOp, calm_State_fault, apply_ite State.calm, apply_ite Prod.fst, ite_self, implies_true, eq_self, calm_foldl, calm_each, calm_when, calm_State_emit, calm_State_used]; done) | (simp only [calm_State_flowAnswered, calm_State_finishOp, calm_State_fault, apply_ite State.calm, apply_ite Prod.fst, ite_self, implies_true, eq_self, calm_foldl, calm_each, calm_when, calm_State_emit, calm_State_used]) | split | (refine (calm_each _ _ _ (fun x t => ?_)).trans ?_) | (refine (calm_when _ _ _ (fun t => ?_)).trans ?_) | (refine (calm_foldl _ _ _ (fun t x => ?_)).trans ?_) | (rename_i h; refine (congrArg (fun x => State.calm (Prod.fst x)) h).symm.trans ?_; simp only [calm_State_flowAnswered, calm_State_finishOp, calm_State_fault, apply_ite State.calm, apply_ite Prod.fst, ite_self, implies_true, eq_self, calm_foldl, calm_each, calm_when, calm_State_emit, calm_State_used]; done) | (refine (calm_foldFst _ _ _ (fun x k => ?_)).trans ?_) | intro x)

theorem calm_State_sendReplyTo (a1) (a2) (a3) (a4) (a5) (a6) (a7) (a8) (a9) (a10) (a11) (a12) (s : State) : (State.sendReplyTo a1 a2 a3 a4 a5 a6 a7 a8 a9 a10 a11 a12 s).calm = s.calm := by
  unfold State.sendReplyTo
  simp only [calm_State_enqueue, eq_self]

theorem calm_State_memoCount (a1) (a2) (s : State) : (State.memoCount a1 a2 s).calm = s.calm := by
  unfold State.memoCount
  simp only [calm_State_modRem, apply_ite State.calm, ite_self, eq_self]

theorem calm_State_remotePlace (a1) (a2) (a3) (a4) (a5) (s : State) : (State.remotePlace a1 a2 a3 a4 a5 s).1.calm = s.calm := by
  unfold State.remotePlace
  repeat' (first | with_reducible rfl | (simp only [calm_State_useRegion, apply_ite State.calm, apply_ite Prod.fst, ite_self, implies_true, eq_self, calm_foldl, calm_each, calm_when, calm_State_emit, calm_State_used]; done) | (simp only [calm_State_useRegion, apply_ite State.calm, apply_ite Prod.fst, ite_self, implies_true, eq_self, calm_foldl, calm_each, calm_when, calm_State_emit, calm_State_used]) | split | (refine (calm_each _ _ _ (fun x t => ?_)).trans ?_) | (refine (calm_when _ _ _ (fun t => ?_)).trans ?_) | (refine (calm_foldl _ _ _ (fun t x => ?_)).trans ?_) | (rename_i h; refine (congrArg (fun x => State.calm (Prod.fst x)) h).symm.trans ?_; simp only [calm_State_useRegion, apply_ite State.calm, apply_ite Prod.fst, ite_self, implies_true, eq_self, calm_foldl, calm_each, calm_when, calm_State_emit, calm_State_used]; done) | (refine (calm_foldFst _ _ _ (fun x k => ?_)).trans ?_) | intro x)

theorem calm_State_runAtomic (a1) (a2) (a3) (a4) (a5) (s : State) : (State.runAtomic a1 a2 a3 a4 a5 s).calm = s.calm := by
  unfold State.runAtomic
  repeat' (first | with_reducible rfl | (simp only [calm_State_answerAtomic, calm_State_remotePlace, calm_State_plotLook, calm_State_arith, apply_ite State.calm, apply_ite Prod.fst, ite_self, implies_true, eq_self, calm_foldl, calm_each, calm_when, calm_State_emit, calm_State_used]; done) | (simp only [calm_State_answerAtomic, calm_State_remotePlace, calm_State_plotLook, calm_State_arith, apply_ite State.calm, apply_ite Prod.fst, ite_self, implies_true, eq_self, calm_foldl, calm_each, calm_when, calm_State_emit, calm_State_used]) | split | (refine (calm_each _ _ _ (fun x t => ?_)).trans ?_) | (refine (calm_when _ _ _ (fun t => ?_)).trans ?_) | (refine (calm_foldl _ _ _ (fun t x => ?_)).trans ?_) | (rename_i h; refine (congrArg (fun x => State.calm (Prod.fst x)) h).symm.trans ?_; simp only [calm_State_answerAtomic, calm_State_remotePlace, calm_State_plotLook, calm_State_arith, apply_ite State.calm, apply_ite Prod.fst, ite_self, implies_true, eq_self, calm_foldl, calm_each, calm_when, calm_State_emit, calm_State_used]; done) | (refine (calm_foldFst _ _ _ (fun x k => ?_)).trans ?_) | intro x)

theorem calm_State_applyAtomic (a1) (a2) (a3) (a4) (s : State) : (State.applyAtomic a1 a2 a3 a4 s).calm = s.calm := by
  unfold State.applyAtomic
  repeat' (first | with_reducible rfl | (simp only [calm_State_sendReplyTo, calm_State_memoCount, calm_State_runAtomic, apply_ite State.calm, apply_ite Prod.fst, ite_self, implies_true, eq_self, calm_foldl, calm_each, calm_when, calm_State_emit, calm_State_used]; done) | (simp only [calm_State_sendReplyTo, calm_State_memoCount, calm_State_runAtomic, apply_ite State.calm, apply_ite Prod.fst, ite_self, implies_true, eq_self, calm_foldl, calm_each, calm_when, calm_State_emit, calm_State_used]) | split | (refine (calm_each _ _ _ (fun x t => ?_)).trans ?_) | (refine (calm_when _ _ _ (fun t => ?_)).trans ?_) | (refine (calm_foldl _ _ _ (fun t x => ?_)).trans ?_) | (rename_i h; refine (congrArg (fun x => State.calm (Prod.fst x)) h).symm.trans ?_; simp only [calm_State_sendReplyTo, calm_State_memoCount, calm_State_runAtomic, apply_ite State.calm, apply_ite Prod.fst, ite_self, implies_true, eq_self, calm_foldl, calm_each, calm_when, calm_State_emit, calm_State_used]; done) | (refine (calm_foldFst _ _ _ (fun x k => ?_)).trans ?_) | intro x)

theorem calm_State_applyQuery (a1) (a2) (a3) (s : State) : (State.applyQuery a1 a2 a3 s).calm = s.calm := by
  unfold State.applyQuery
  repeat' (first | with_reducible rfl | (simp only [calm_State_sendReplyTo, calm_State_memoAdd, apply_ite State.calm, apply_ite Prod.fst, ite_self, implies_true, eq_self, calm_foldl, calm_each, calm_when, calm_State_emit, calm_State_used]; done) | (simp only [calm_State_sendReplyTo, calm_State_memoAdd, apply_ite State.calm, apply_ite Prod.fst, ite_self, implies_true, eq_self, calm_foldl, calm_each, calm_when, calm_State_emit, calm_State_used]) | split | (refine (calm_each _ _ _ (fun x t => ?_)).trans ?_) | (refine (calm_when _ _ _ (fun t => ?_)).trans ?_) | (refine (calm_foldl _ _ _ (fun t x => ?_)).trans ?_) | (rename_i h; refine (congrArg (fun x => State.calm (Prod.fst x)) h).symm.trans ?_; simp only [calm_State_sendReplyTo, calm_State_memoAdd, apply_ite State.calm, apply_ite Prod.fst, ite_self, implies_true, eq_self, calm_foldl, calm_each, calm_when, calm_State_emit, calm_State_used]; done) | (refine (calm_foldFst _ _ _ (fun x k => ?_)).trans ?_) | intro x)

theorem calm_State_startServe (a1) (a2) (a3) (a4) (s : State) : (State.startServe a1 a2 a3 a4 s).calm = s.calm := by
  unfold State.startServe
  repeat' (first | with_reducible rfl | (simp only [calm_State_modRem, calm_each, calm_State_remotePlace, calm_State_serveDone, calm_State_plotLook, calm_State_reach, apply_ite State.calm, apply_ite Prod.fst, ite_self, implies_true, eq_self, calm_foldl, calm_each, calm_when, calm_State_emit, calm_State_used]; done) | (simp only [calm_State_modRem, calm_each, calm_State_remotePlace, calm_State_serveDone, calm_State_plotLook, calm_State_reach, apply_ite State.calm, apply_ite Prod.fst, ite_self, implies_true, eq_self, calm_foldl, calm_each, calm_when, calm_State_emit, calm_State_used]) | split | (refine (calm_each _ _ _ (fun x t => ?_)).trans ?_) | (refine (calm_when _ _ _ (fun t => ?_)).trans ?_) | (refine (calm_foldl _ _ _ (fun t x => ?_)).trans ?_) | (rename_i h; refine (congrArg (fun x => State.calm (Prod.fst x)) h).symm.trans ?_; simp only [calm_State_modRem, calm_each, calm_State_remotePlace, calm_State_serveDone, calm_State_plotLook, calm_State_reach, apply_ite State.calm, apply_ite Prod.fst, ite_self, implies_true, eq_self, calm_foldl, calm_each, calm_when, calm_State_emit, calm_State_used]; done) | (refine (calm_foldFst _ _ _ (fun x k => ?_)).trans ?_) | intro x)

theorem calm_State_applyRw (a1) (a2) (a3) (s : State) : (State.applyRw a1 a2 a3 s).calm = s.calm := by
  unfold State.applyRw
  repeat' (first | with_reducible rfl | (simp only [calm_State_sendReplyTo, calm_State_remotePlace, calm_State_memoCount, calm_State_startServe, calm_State_memoAdd, apply_ite State.calm, apply_ite Prod.fst, ite_self, implies_true, eq_self, calm_foldl, calm_each, calm_when, calm_State_emit, calm_State_used]; done) | (simp only [calm_State_sendReplyTo, calm_State_remotePlace, calm_State_memoCount, calm_State_startServe, calm_State_memoAdd, apply_ite State.calm, apply_ite Prod.fst, ite_self, implies_true, eq_self, calm_foldl, calm_each, calm_when, calm_State_emit, calm_State_used]) | split | (refine (calm_each _ _ _ (fun x t => ?_)).trans ?_) | (refine (calm_when _ _ _ (fun t => ?_)).trans ?_) | (refine (calm_foldl _ _ _ (fun t x => ?_)).trans ?_) | (rename_i h; refine (congrArg (fun x => State.calm (Prod.fst x)) h).symm.trans ?_; simp only [calm_State_sendReplyTo, calm_State_remotePlace, calm_State_memoCount, calm_State_startServe, calm_State_memoAdd, apply_ite State.calm, apply_ite Prod.fst, ite_self, implies_true, eq_self, calm_foldl, calm_each, calm_when, calm_State_emit, calm_State_used]; done) | (refine (calm_foldFst _ _ _ (fun x k => ?_)).trans ?_) | intro x)
  all_goals
    rename_i heq
    refine (congrArg (fun x => State.calm (Prod.fst x)) heq).symm.trans ?_
    have e := calm_State_remotePlace (a3 - 1) a2.obj a2.gen a2.offset a2.length s
    split
    · split <;> rename_i h <;> rw [h] at e <;> exact e
    · rfl

theorem calm_State_sendContrib (a1) (a2) (s : State) : (State.sendContrib a1 a2 s).calm = s.calm := by
  unfold State.sendContrib
  simp only [calm_State_sendTo, eq_self]

theorem calm_State_traceContrib (a1) (a2) (a3) (s : State) : (State.traceContrib a1 a2 a3 s).calm = s.calm := by
  unfold State.traceContrib
  simp only [calm_State_trace, eq_self]

theorem calm_State_applyAck (a1) (a2) (a3) (a4) (s : State) : (State.applyAck a1 a2 a3 a4 s).calm = s.calm := by
  unfold State.applyAck
  repeat' (first | with_reducible rfl | (simp only [calm_State_flowLess, calm_State_complete, calm_State_traceContrib, calm_State_modRem, calm_State_fault, apply_ite State.calm, apply_ite Prod.fst, ite_self, implies_true, eq_self, calm_foldl, calm_each, calm_when, calm_State_emit, calm_State_used]; done) | (simp only [calm_State_flowLess, calm_State_complete, calm_State_traceContrib, calm_State_modRem, calm_State_fault, apply_ite State.calm, apply_ite Prod.fst, ite_self, implies_true, eq_self, calm_foldl, calm_each, calm_when, calm_State_emit, calm_State_used]) | split | (refine (calm_each _ _ _ (fun x t => ?_)).trans ?_) | (refine (calm_when _ _ _ (fun t => ?_)).trans ?_) | (refine (calm_foldl _ _ _ (fun t x => ?_)).trans ?_) | (rename_i h; refine (congrArg (fun x => State.calm (Prod.fst x)) h).symm.trans ?_; simp only [calm_State_flowLess, calm_State_complete, calm_State_traceContrib, calm_State_modRem, calm_State_fault, apply_ite State.calm, apply_ite Prod.fst, ite_self, implies_true, eq_self, calm_foldl, calm_each, calm_when, calm_State_emit, calm_State_used]; done) | (refine (calm_foldFst _ _ _ (fun x k => ?_)).trans ?_) | intro x)

theorem calm_State_ackContrib (a1) (a2) (a3) (a4) (s : State) : (State.ackContrib a1 a2 a3 a4 s).calm = s.calm := by
  unfold State.ackContrib
  simp only [calm_State_sendTo, eq_self]

theorem calm_State_poolReset (s : State) : (State.poolReset s).calm = s.calm := by
  unfold State.poolReset
  simp only [calm_each, calm_State_endReduction, calm_State_count, calm_State_flag, calm_State_modRem, implies_true, eq_self, calm_each]

theorem calm_State_poolMismatch (a1) (a2) (a3) (s : State) : (State.poolMismatch a1 a2 a3 s).calm = s.calm := by
  unfold State.poolMismatch
  simp only [calm_each, calm_State_press, calm_State_glob, calm_State_modRem, implies_true, eq_self, calm_each]

theorem calm_State_applyElems (a1) (a2) (a3) (a4) (a5) (s : State) : (State.applyElems a1 a2 a3 a4 a5 s).calm = s.calm := by
  unfold State.applyElems
  simp only [calm_State_ackContrib, calm_State_wants, calm_State_sendChunk, calm_State_putReduction, apply_ite State.calm, ite_self, eq_self]

theorem calm_State_applyContrib (a1) (a2) (a3) (a4) (a5) (a6) (s : State) : (State.applyContrib a1 a2 a3 a4 a5 a6 s).calm = s.calm := by
  unfold State.applyContrib
  repeat' (first | with_reducible rfl | (simp only [calm_State_ackContrib, calm_State_poolReset, calm_State_poolMismatch, calm_State_applyElems, apply_ite State.calm, apply_ite Prod.fst, ite_self, implies_true, eq_self, calm_foldl, calm_each, calm_when, calm_State_emit, calm_State_used]; done) | (simp only [calm_State_ackContrib, calm_State_poolReset, calm_State_poolMismatch, calm_State_applyElems, apply_ite State.calm, apply_ite Prod.fst, ite_self, implies_true, eq_self, calm_foldl, calm_each, calm_when, calm_State_emit, calm_State_used]) | split | (refine (calm_each _ _ _ (fun x t => ?_)).trans ?_) | (refine (calm_when _ _ _ (fun t => ?_)).trans ?_) | (refine (calm_foldl _ _ _ (fun t x => ?_)).trans ?_) | (rename_i h; refine (congrArg (fun x => State.calm (Prod.fst x)) h).symm.trans ?_; simp only [calm_State_ackContrib, calm_State_poolReset, calm_State_poolMismatch, calm_State_applyElems, apply_ite State.calm, apply_ite Prod.fst, ite_self, implies_true, eq_self, calm_foldl, calm_each, calm_when, calm_State_emit, calm_State_used]; done) | (refine (calm_foldFst _ _ _ (fun x k => ?_)).trans ?_) | intro x)

theorem calm_State_applyResultAck (a1) (a2) (a3) (a4) (a5) (s : State) : (State.applyResultAck a1 a2 a3 a4 a5 s).calm = s.calm := by
  unfold State.applyResultAck
  repeat' (first | with_reducible rfl | (simp only [calm_State_flowLess, calm_State_putReduction, apply_ite State.calm, apply_ite Prod.fst, ite_self, implies_true, eq_self, calm_foldl, calm_each, calm_when, calm_State_emit, calm_State_used]; done) | (simp only [calm_State_flowLess, calm_State_putReduction, apply_ite State.calm, apply_ite Prod.fst, ite_self, implies_true, eq_self, calm_foldl, calm_each, calm_when, calm_State_emit, calm_State_used]) | split | (refine (calm_each _ _ _ (fun x t => ?_)).trans ?_) | (refine (calm_when _ _ _ (fun t => ?_)).trans ?_) | (refine (calm_foldl _ _ _ (fun t x => ?_)).trans ?_) | (rename_i h; refine (congrArg (fun x => State.calm (Prod.fst x)) h).symm.trans ?_; simp only [calm_State_flowLess, calm_State_putReduction, apply_ite State.calm, apply_ite Prod.fst, ite_self, implies_true, eq_self, calm_foldl, calm_each, calm_when, calm_State_emit, calm_State_used]; done) | (refine (calm_foldFst _ _ _ (fun x k => ?_)).trans ?_) | intro x)

theorem calm_State_ackResult (a1) (a2) (a3) (a4) (s : State) : (State.ackResult a1 a2 a3 a4 s).calm = s.calm := by
  unfold State.ackResult
  simp only [calm_State_sendTo, eq_self]

theorem calm_State_startAccum (a1) (a2) (a3) (a4) (a5) (a6) (s : State) : (State.startAccum a1 a2 a3 a4 a5 a6 s).calm = s.calm := by
  unfold State.startAccum
  repeat' (first | with_reducible rfl | (simp only [calm_State_modRem, calm_each, calm_State_remotePlace, calm_State_serveDone, calm_State_plotLook, calm_State_arith, apply_ite State.calm, apply_ite Prod.fst, ite_self, implies_true, eq_self, calm_foldl, calm_each, calm_when, calm_State_emit, calm_State_used]; done) | (simp only [calm_State_modRem, calm_each, calm_State_remotePlace, calm_State_serveDone, calm_State_plotLook, calm_State_arith, apply_ite State.calm, apply_ite Prod.fst, ite_self, implies_true, eq_self, calm_foldl, calm_each, calm_when, calm_State_emit, calm_State_used]) | split | (refine (calm_each _ _ _ (fun x t => ?_)).trans ?_) | (refine (calm_when _ _ _ (fun t => ?_)).trans ?_) | (refine (calm_foldl _ _ _ (fun t x => ?_)).trans ?_) | (rename_i h; refine (congrArg (fun x => State.calm (Prod.fst x)) h).symm.trans ?_; simp only [calm_State_modRem, calm_each, calm_State_remotePlace, calm_State_serveDone, calm_State_plotLook, calm_State_arith, apply_ite State.calm, apply_ite Prod.fst, ite_self, implies_true, eq_self, calm_foldl, calm_each, calm_when, calm_State_emit, calm_State_used]; done) | (refine (calm_foldFst _ _ _ (fun x k => ?_)).trans ?_) | intro x)

theorem calm_State_applyResult (a1) (a2) (a3) (a4) (a5) (a6) (a7) (s : State) : (State.applyResult a1 a2 a3 a4 a5 a6 a7 s).calm = s.calm := by
  unfold State.applyResult
  repeat' (first | with_reducible rfl | (simp only [calm_State_ackResult, calm_State_resultDone, calm_State_fault, calm_State_startAccum, calm_State_startServe, apply_ite State.calm, apply_ite Prod.fst, ite_self, implies_true, eq_self, calm_foldl, calm_each, calm_when, calm_State_emit, calm_State_used]; done) | (simp only [calm_State_ackResult, calm_State_resultDone, calm_State_fault, calm_State_startAccum, calm_State_startServe, apply_ite State.calm, apply_ite Prod.fst, ite_self, implies_true, eq_self, calm_foldl, calm_each, calm_when, calm_State_emit, calm_State_used]) | split | (refine (calm_each _ _ _ (fun x t => ?_)).trans ?_) | (refine (calm_when _ _ _ (fun t => ?_)).trans ?_) | (refine (calm_foldl _ _ _ (fun t x => ?_)).trans ?_) | (rename_i h; refine (congrArg (fun x => State.calm (Prod.fst x)) h).symm.trans ?_; simp only [calm_State_ackResult, calm_State_resultDone, calm_State_fault, calm_State_startAccum, calm_State_startServe, apply_ite State.calm, apply_ite Prod.fst, ite_self, implies_true, eq_self, calm_foldl, calm_each, calm_when, calm_State_emit, calm_State_used]; done) | (refine (calm_foldFst _ _ _ (fun x k => ?_)).trans ?_) | intro x)

theorem calm_State_dtTo (a1) (s : State) : (State.dtTo a1 s).calm = s.calm := by
  unfold State.dtTo
  simp only [calm_State_dtEnter, calm_each, calm_State_tryJoin, apply_ite State.calm, ite_self, implies_true, eq_self, calm_each]

theorem calm_State_dtLoad (s : State) : s.dtLoad.calm = s.calm :=
  (calm_State_dtTo _ _).trans (calm_State_modDt _ _)

theorem calm_State_dtStart (s : State) : (State.dtStart s).calm = s.calm := by
  unfold State.dtStart
  simp only [calm_State_dtLoad, calm_State_dtTo, apply_ite State.calm, ite_self, eq_self]

theorem calm_State_dtStop (s : State) : (State.dtStop s).calm = s.calm := by
  unfold State.dtStop
  simp only [calm_State_modDt, calm_State_dtTo, eq_self]

theorem calm_State_dtCtrl (a1) (a2) (a3) (s : State) : (State.dtCtrl a1 a2 a3 s).calm = s.calm := by
  unfold State.dtCtrl
  simp only [calm_State_flag, calm_State_setReg, calm_State_dtStart, calm_State_dtStop, apply_ite State.calm, ite_self, eq_self]

theorem calm_State_ptpSend (a1) (a2) (a3) (a4) (a5) (a6) (a7) (s : State) : (State.ptpSend a1 a2 a3 a4 a5 a6 a7 s).calm = s.calm := by
  unfold State.ptpSend
  simp only [calm_State_enqueue, apply_ite State.calm, ite_self, eq_self]

theorem calm_State_ptpNext (a1) (s : State) : (State.ptpNext a1 s).calm = s.calm := by
  unfold State.ptpNext
  simp only [calm_State_modPtp, eq_self]

theorem calm_State_servo (s : State) : (State.servo s).calm = s.calm := by
  unfold State.servo
  simp only [calm_State_used, calm_State_modDt, eq_self, calm_State_used]

theorem calm_State_dtStep (a1) (s : State) : (State.dtStep a1 s).calm = s.calm := by
  unfold State.dtStep
  simp only [calm_State_modDt, eq_self]

theorem calm_State_dtRuns (a1) (a2) (s : State) : (State.dtRuns a1 a2 s).calm = s.calm := by
  unfold State.dtRuns
  simp only [calm_State_modDt, eq_self]

theorem calm_State_dtOffset (a1) (a2) (s : State) : (State.dtOffset a1 a2 s).calm = s.calm := by
  unfold State.dtOffset
  simp only [calm_State_modDt, calm_when, calm_State_flag, calm_State_dtStep, calm_State_dtRuns, calm_State_servo, calm_State_dtTo, apply_ite State.calm, ite_self, implies_true, eq_self, calm_when]

theorem calm_State_ptpTake (a1) (a2) (a3) (s : State) : (State.ptpTake a1 a2 a3 s).calm = s.calm := by
  unfold State.ptpTake
  repeat' (first | with_reducible rfl | (simp only [calm_State_modPtp, calm_State_dtOffset, calm_State_ptpSend, calm_State_reselect, apply_ite State.calm, apply_ite Prod.fst, ite_self, implies_true, eq_self, calm_foldl, calm_each, calm_when, calm_State_emit, calm_State_used]; done) | (simp only [calm_State_modPtp, calm_State_dtOffset, calm_State_ptpSend, calm_State_reselect, apply_ite State.calm, apply_ite Prod.fst, ite_self, implies_true, eq_self, calm_foldl, calm_each, calm_when, calm_State_emit, calm_State_used]) | split | (refine (calm_each _ _ _ (fun x t => ?_)).trans ?_) | (refine (calm_when _ _ _ (fun t => ?_)).trans ?_) | (refine (calm_foldl _ _ _ (fun t x => ?_)).trans ?_) | (rename_i h; refine (congrArg (fun x => State.calm (Prod.fst x)) h).symm.trans ?_; simp only [calm_State_modPtp, calm_State_dtOffset, calm_State_ptpSend, calm_State_reselect, apply_ite State.calm, apply_ite Prod.fst, ite_self, implies_true, eq_self, calm_foldl, calm_each, calm_when, calm_State_emit, calm_State_used]; done) | (refine (calm_foldFst _ _ _ (fun x k => ?_)).trans ?_) | intro x)

theorem calm_State_drawn (s : State) : (State.drawn s).calm = s.calm := by
  unfold State.drawn
  simp only [calm_State_modKey, calm_State_used, eq_self, calm_State_used]

theorem calm_State_drawnPr (s : State) : (State.drawnPr s).calm = s.calm := by
  unfold State.drawnPr
  simp only [calm_State_modKey, calm_State_used, eq_self, calm_State_used]

theorem calm_State_newControl (a1) (a2) (a3) (a4) (a5) (a6) (s : State) : (State.newControl a1 a2 a3 a4 a5 a6 s).calm = s.calm := by
  unfold State.newControl
  repeat' (first | with_reducible rfl | (simp only [calm_State_ok, calm_State_fill, calm_State_endsWith, apply_ite State.calm, apply_ite Prod.fst, ite_self, implies_true, eq_self, calm_foldl, calm_each, calm_when, calm_State_emit, calm_State_used]; done) | (simp only [calm_State_ok, calm_State_fill, calm_State_endsWith, apply_ite State.calm, apply_ite Prod.fst, ite_self, implies_true, eq_self, calm_foldl, calm_each, calm_when, calm_State_emit, calm_State_used]) | split | (refine (calm_each _ _ _ (fun x t => ?_)).trans ?_) | (refine (calm_when _ _ _ (fun t => ?_)).trans ?_) | (refine (calm_foldl _ _ _ (fun t x => ?_)).trans ?_) | (rename_i h; refine (congrArg (fun x => State.calm (Prod.fst x)) h).symm.trans ?_; simp only [calm_State_ok, calm_State_fill, calm_State_endsWith, apply_ite State.calm, apply_ite Prod.fst, ite_self, implies_true, eq_self, calm_foldl, calm_each, calm_when, calm_State_emit, calm_State_used]; done) | (refine (calm_foldFst _ _ _ (fun x k => ?_)).trans ?_) | intro x)

theorem calm_State_cceTolaro (a1) (a2) (a3) (a4) (a5) (a6) (s : State) : (State.cceTolaro a1 a2 a3 a4 a5 a6 s).calm = s.calm := by
  unfold State.cceTolaro
  simp only [calm_State_modKey, calm_when, calm_State_drawn, apply_ite State.calm, ite_self, implies_true, eq_self, calm_when]

theorem calm_State_pkeNext (a1) (a2) (s : State) : (State.pkeNext a1 a2 s).calm = s.calm := by
  unfold State.pkeNext
  simp only [calm_State_modKey, eq_self]

theorem calm_State_setReseal (a1) (a2) (s : State) : (State.setReseal a1 a2 s).calm = s.calm := by
  unfold State.setReseal
  simp only [calm_State_modKey, eq_self]

theorem calm_State_resealEnd (a1) (s : State) : (State.resealEnd a1 s).calm = s.calm := by
  unfold State.resealEnd
  repeat' (first | with_reducible rfl | (simp only [calm_State_writeObj, calm_State_modObj, calm_State_setReseal, calm_State_retire, calm_State_ok, calm_State_endsWith, apply_ite State.calm, apply_ite Prod.fst, ite_self, implies_true, eq_self, calm_foldl, calm_each, calm_when, calm_State_emit, calm_State_used]; done) | (simp only [calm_State_writeObj, calm_State_modObj, calm_State_setReseal, calm_State_retire, calm_State_ok, calm_State_endsWith, apply_ite State.calm, apply_ite Prod.fst, ite_self, implies_true, eq_self, calm_foldl, calm_each, calm_when, calm_State_emit, calm_State_used]) | split | (refine (calm_each _ _ _ (fun x t => ?_)).trans ?_) | (refine (calm_when _ _ _ (fun t => ?_)).trans ?_) | (refine (calm_foldl _ _ _ (fun t x => ?_)).trans ?_) | (rename_i h; refine (congrArg (fun x => State.calm (Prod.fst x)) h).symm.trans ?_; simp only [calm_State_writeObj, calm_State_modObj, calm_State_setReseal, calm_State_retire, calm_State_ok, calm_State_endsWith, apply_ite State.calm, apply_ite Prod.fst, ite_self, implies_true, eq_self, calm_foldl, calm_each, calm_when, calm_State_emit, calm_State_used]; done) | (refine (calm_foldFst _ _ _ (fun x k => ?_)).trans ?_) | intro x)

theorem calm_State_commitWindow (a1) (s : State) : (State.commitWindow a1 s).calm = s.calm := by
  unfold State.commitWindow
  simp only [calm_State_modRegf, calm_each, calm_State_setReg, calm_State_armDefaults, apply_ite State.calm, ite_self, implies_true, eq_self, calm_each]

theorem calm_State_sgWrite (a1) (a2) (s : State) : (State.sgWrite a1 a2 s).calm = s.calm := by
  unfold State.sgWrite
  simp only [calm_State_busErr, calm_State_setFld, calm_State_flag, apply_ite State.calm, ite_self, eq_self]

theorem calm_State_commitWeights (a1) (s : State) : (State.commitWeights a1 s).calm = s.calm := by
  unfold State.commitWeights
  simp only [calm_State_modShare, apply_ite State.calm, ite_self, eq_self]

theorem calm_State_commitNamed (a1) (s : State) : (State.commitNamed a1 s).calm = s.calm := by
  unfold State.commitNamed
  repeat' (first | with_reducible rfl | (simp only [calm_State_commitWindow, calm_State_commitWeights, apply_ite State.calm, apply_ite Prod.fst, ite_self, implies_true, eq_self, calm_foldl, calm_each, calm_when, calm_State_emit, calm_State_used]; done) | (simp only [calm_State_commitWindow, calm_State_commitWeights, apply_ite State.calm, apply_ite Prod.fst, ite_self, implies_true, eq_self, calm_foldl, calm_each, calm_when, calm_State_emit, calm_State_used]) | split | (refine (calm_each _ _ _ (fun x t => ?_)).trans ?_) | (refine (calm_when _ _ _ (fun t => ?_)).trans ?_) | (refine (calm_foldl _ _ _ (fun t x => ?_)).trans ?_) | (rename_i h; refine (congrArg (fun x => State.calm (Prod.fst x)) h).symm.trans ?_; simp only [calm_State_commitWindow, calm_State_commitWeights, apply_ite State.calm, apply_ite Prod.fst, ite_self, implies_true, eq_self, calm_foldl, calm_each, calm_when, calm_State_emit, calm_State_used]; done) | (refine (calm_foldFst _ _ _ (fun x k => ?_)).trans ?_) | intro x)

theorem calm_State_commitIdle (a1) (s : State) : (State.commitIdle a1 s).calm = s.calm := by
  unfold State.commitIdle
  repeat' (first | with_reducible rfl | (simp only [calm_State_commitWindow, calm_State_modRegf, calm_State_commitNamed, apply_ite State.calm, apply_ite Prod.fst, ite_self, implies_true, eq_self, calm_foldl, calm_each, calm_when, calm_State_emit, calm_State_used]; done) | (simp only [calm_State_commitWindow, calm_State_modRegf, calm_State_commitNamed, apply_ite State.calm, apply_ite Prod.fst, ite_self, implies_true, eq_self, calm_foldl, calm_each, calm_when, calm_State_emit, calm_State_used]) | split | (refine (calm_each _ _ _ (fun x t => ?_)).trans ?_) | (refine (calm_when _ _ _ (fun t => ?_)).trans ?_) | (refine (calm_foldl _ _ _ (fun t x => ?_)).trans ?_) | (rename_i h; refine (congrArg (fun x => State.calm (Prod.fst x)) h).symm.trans ?_; simp only [calm_State_commitWindow, calm_State_modRegf, calm_State_commitNamed, apply_ite State.calm, apply_ite Prod.fst, ite_self, implies_true, eq_self, calm_foldl, calm_each, calm_when, calm_State_emit, calm_State_used]; done) | (refine (calm_foldFst _ _ _ (fun x k => ?_)).trans ?_) | intro x)

theorem calm_State_wakeOne (a1) (s : State) : (State.wakeOne a1 s).calm = s.calm := by
  unfold State.wakeOne
  simp only [calm_State_modShare, calm_State_modUnit, apply_ite State.calm, ite_self, eq_self]

theorem calm_State_modTdi (a1) (a2) (s : State) : (State.modTdi a1 a2 s).calm = s.calm := by
  unfold State.modTdi
  simp only [calm_State_modHst, eq_self]

theorem calm_State_modStream (a1) (a2) (a3) (s : State) : (State.modStream a1 a2 a3 s).calm = s.calm := by
  unfold State.modStream
  simp only [calm_State_modHst, eq_self]

theorem calm_State_modKeys (a1) (a2) (a3) (a4) (a5) (s : State) : (State.modKeys a1 a2 a3 a4 a5 s).calm = s.calm := by
  unfold State.modKeys
  simp only [calm_State_modHst, eq_self]

theorem calm_State_tilesFault (a1) (a2) (s : State) : (State.tilesFault a1 a2 s).calm = s.calm := by
  unfold State.tilesFault
  simp only [calm_each, calm_State_tileFault, implies_true, eq_self, calm_each]

theorem calm_State_tdiLeaves (a1) (a2) (s : State) : (State.tdiLeaves a1 a2 s).calm = s.calm := by
  unfold State.tdiLeaves
  simp only [calm_State_modHst, calm_State_tilesFault, eq_self]

theorem calm_State_tdiError (a1) (s : State) : (State.tdiError a1 s).calm = s.calm := by
  unfold State.tdiError
  simp only [calm_State_tdiLeaves, calm_State_modTdi, apply_ite State.calm, ite_self, eq_self]

theorem calm_State_tdiStop (a1) (s : State) : (State.tdiStop a1 s).calm = s.calm := by
  unfold State.tdiStop
  simp only [calm_State_modTdi, calm_State_tdiLeaves, apply_ite State.calm, ite_self, eq_self]

theorem calm_State_streamDown (a1) (a2) (s : State) : (State.streamDown a1 a2 s).calm = s.calm := by
  unfold State.streamDown
  simp only [calm_each, calm_State_retire, calm_State_modHst, calm_State_modStream, calm_State_tdiError, implies_true, eq_self, calm_each]

theorem calm_State_tryStream (a1) (a2) (s : State) : (State.tryStream a1 a2 s).calm = s.calm := by
  unfold State.tryStream
  simp only [calm_State_modStream, apply_ite State.calm, ite_self, eq_self]

theorem calm_State_ideAnswer (a1) (a2) (s : State) : (State.ideAnswer a1 a2 s).calm = s.calm := by
  unfold State.ideAnswer
  simp only [calm_State_respond, eq_self]

theorem calm_State_tdisp (a1) (a2) (a3) (a4) (s : State) (ha4 : ∀ t, State.calm (a4 t) = t.calm) : (State.tdisp a1 a2 a3 a4 s).calm = s.calm := by
  unfold State.tdisp
  simp only [calm_State_respond, ha4, apply_ite State.calm, ite_self, eq_self]

theorem calm_State_tdispAnswer (a1) (a2) (a3) (s : State) : (State.tdispAnswer a1 a2 a3 s).calm = s.calm := by
  unfold State.tdispAnswer
  simp only [calm_State_respond, eq_self]

theorem calm_State_ideCfg (a1) (a2) (a3) (s : State) : (State.ideCfg a1 a2 a3 s).calm = s.calm := by
  unfold State.ideCfg
  simp only [calm_State_modStream, calm_State_tryStream, calm_State_streamDown, apply_ite State.calm, ite_self, eq_self]

theorem calm_State_sendTlp (a1) (a2) (a3) (s : State) : (State.sendTlp a1 a2 a3 s).calm = s.calm := by
  unfold State.sendTlp
  repeat' (first | with_reducible rfl | (simp only [calm_State_emit, calm_State_modHst, calm_State_glob, calm_State_wants, apply_ite State.calm, apply_ite Prod.fst, ite_self, implies_true, eq_self, calm_foldl, calm_each, calm_when, calm_State_emit, calm_State_used]; done) | (simp only [calm_State_emit, calm_State_modHst, calm_State_glob, calm_State_wants, apply_ite State.calm, apply_ite Prod.fst, ite_self, implies_true, eq_self, calm_foldl, calm_each, calm_when, calm_State_emit, calm_State_used]) | split | (refine (calm_each _ _ _ (fun x t => ?_)).trans ?_) | (refine (calm_when _ _ _ (fun t => ?_)).trans ?_) | (refine (calm_foldl _ _ _ (fun t x => ?_)).trans ?_) | (rename_i h; refine (congrArg (fun x => State.calm (Prod.fst x)) h).symm.trans ?_; simp only [calm_State_emit, calm_State_modHst, calm_State_glob, calm_State_wants, apply_ite State.calm, apply_ite Prod.fst, ite_self, implies_true, eq_self, calm_foldl, calm_each, calm_when, calm_State_emit, calm_State_used]; done) | (refine (calm_foldFst _ _ _ (fun x k => ?_)).trans ?_) | intro x)

theorem calm_State_outTlp (a1) (a2) (a3) (s : State) : (State.outTlp a1 a2 a3 s).calm = s.calm := by
  unfold State.outTlp
  repeat' (first | with_reducible rfl | (simp only [calm_State_fault, calm_State_sendTlp, apply_ite State.calm, apply_ite Prod.fst, ite_self, implies_true, eq_self, calm_foldl, calm_each, calm_when, calm_State_emit, calm_State_used]; done) | (simp only [calm_State_fault, calm_State_sendTlp, apply_ite State.calm, apply_ite Prod.fst, ite_self, implies_true, eq_self, calm_foldl, calm_each, calm_when, calm_State_emit, calm_State_used]) | split | (refine (calm_each _ _ _ (fun x t => ?_)).trans ?_) | (refine (calm_when _ _ _ (fun t => ?_)).trans ?_) | (refine (calm_foldl _ _ _ (fun t x => ?_)).trans ?_) | (rename_i h; refine (congrArg (fun x => State.calm (Prod.fst x)) h).symm.trans ?_; simp only [calm_State_fault, calm_State_sendTlp, apply_ite State.calm, apply_ite Prod.fst, ite_self, implies_true, eq_self, calm_foldl, calm_each, calm_when, calm_State_emit, calm_State_used]; done) | (refine (calm_foldFst _ _ _ (fun x k => ?_)).trans ?_) | intro x)

theorem calm_State_putPage (a1) (a2) (a3) (s : State) : (State.putPage a1 a2 a3 s).calm = s.calm := by
  unfold State.putPage
  repeat' (first | with_reducible rfl | (simp only [calm_State_modHst, apply_ite State.calm, apply_ite Prod.fst, ite_self, implies_true, eq_self, calm_foldl, calm_each, calm_when, calm_State_emit, calm_State_used]; done) | (simp only [calm_State_modHst, apply_ite State.calm, apply_ite Prod.fst, ite_self, implies_true, eq_self, calm_foldl, calm_each, calm_when, calm_State_emit, calm_State_used]) | split | (refine (calm_each _ _ _ (fun x t => ?_)).trans ?_) | (refine (calm_when _ _ _ (fun t => ?_)).trans ?_) | (refine (calm_foldl _ _ _ (fun t x => ?_)).trans ?_) | (rename_i h; refine (congrArg (fun x => State.calm (Prod.fst x)) h).symm.trans ?_; simp only [calm_State_modHst, apply_ite State.calm, apply_ite Prod.fst, ite_self, implies_true, eq_self, calm_foldl, calm_each, calm_when, calm_State_emit, calm_State_used]; done) | (refine (calm_foldFst _ _ _ (fun x k => ?_)).trans ?_) | intro x)

theorem calm_State_touchAtc (a1) (a2) (a3) (s : State) : (State.touchAtc a1 a2 a3 s).calm = s.calm := by
  unfold State.touchAtc
  repeat' (first | with_reducible rfl | (simp only [calm_State_modHst, apply_ite State.calm, apply_ite Prod.fst, ite_self, implies_true, eq_self, calm_foldl, calm_each, calm_when, calm_State_emit, calm_State_used]; done) | (simp only [calm_State_modHst, apply_ite State.calm, apply_ite Prod.fst, ite_self, implies_true, eq_self, calm_foldl, calm_each, calm_when, calm_State_emit, calm_State_used]) | split | (refine (calm_each _ _ _ (fun x t => ?_)).trans ?_) | (refine (calm_when _ _ _ (fun t => ?_)).trans ?_) | (refine (calm_foldl _ _ _ (fun t x => ?_)).trans ?_) | (rename_i h; refine (congrArg (fun x => State.calm (Prod.fst x)) h).symm.trans ?_; simp only [calm_State_modHst, apply_ite State.calm, apply_ite Prod.fst, ite_self, implies_true, eq_self, calm_foldl, calm_each, calm_when, calm_State_emit, calm_State_used]; done) | (refine (calm_foldFst _ _ _ (fun x k => ?_)).trans ?_) | intro x)

theorem calm_State_askPage (a1) (a2) (a3) (a4) (s : State) : (State.askPage a1 a2 a3 a4 s).calm = s.calm := by
  unfold State.askPage
  repeat' (first | with_reducible rfl | (simp only [calm_State_emit, calm_State_glob, calm_State_modHst, apply_ite State.calm, apply_ite Prod.fst, ite_self, implies_true, eq_self, calm_foldl, calm_each, calm_when, calm_State_emit, calm_State_used]; done) | (simp only [calm_State_emit, calm_State_glob, calm_State_modHst, apply_ite State.calm, apply_ite Prod.fst, ite_self, implies_true, eq_self, calm_foldl, calm_each, calm_when, calm_State_emit, calm_State_used]) | split | (refine (calm_each _ _ _ (fun x t => ?_)).trans ?_) | (refine (calm_when _ _ _ (fun t => ?_)).trans ?_) | (refine (calm_foldl _ _ _ (fun t x => ?_)).trans ?_) | (rename_i h; refine (congrArg (fun x => State.calm (Prod.fst x)) h).symm.trans ?_; simp only [calm_State_emit, calm_State_glob, calm_State_modHst, apply_ite State.calm, apply_ite Prod.fst, ite_self, implies_true, eq_self, calm_foldl, calm_each, calm_when, calm_State_emit, calm_State_used]; done) | (refine (calm_foldFst _ _ _ (fun x k => ?_)).trans ?_) | intro x)

theorem calm_State_pumpAsk (a1) (s : State) : (State.pumpAsk a1 s).calm = s.calm := by
  unfold State.pumpAsk
  simp only [calm_each, calm_State_askPage, implies_true, eq_self, calm_each]

theorem calm_State_stage4 (a1) (a2) (a3) (a4) (a5) (s : State) : (State.stage4 a1 a2 a3 a4 a5 s).calm = s.calm := by
  unfold State.stage4
  repeat' (first | with_reducible rfl | (simp only [calm_State_sendTlp, calm_State_outTlp, calm_State_modTile, calm_State_touchAtc, apply_ite State.calm, apply_ite Prod.fst, ite_self, implies_true, eq_self, calm_foldl, calm_each, calm_when, calm_State_emit, calm_State_used]; done) | (simp only [calm_State_sendTlp, calm_State_outTlp, calm_State_modTile, calm_State_touchAtc, apply_ite State.calm, apply_ite Prod.fst, ite_self, implies_true, eq_self, calm_foldl, calm_each, calm_when, calm_State_emit, calm_State_used]) | split | (refine (calm_each _ _ _ (fun x t => ?_)).trans ?_) | (refine (calm_when _ _ _ (fun t => ?_)).trans ?_) | (refine (calm_foldl _ _ _ (fun t x => ?_)).trans ?_) | (rename_i h; refine (congrArg (fun x => State.calm (Prod.fst x)) h).symm.trans ?_; simp only [calm_State_sendTlp, calm_State_outTlp, calm_State_modTile, calm_State_touchAtc, apply_ite State.calm, apply_ite Prod.fst, ite_self, implies_true, eq_self, calm_foldl, calm_each, calm_when, calm_State_emit, calm_State_used]; done) | (refine (calm_foldFst _ _ _ (fun x k => ?_)).trans ?_) | intro x)

theorem calm_State_stage3 (a1) (a2) (a3) (a4) (a5) (s : State) : (State.stage3 a1 a2 a3 a4 a5 s).calm = s.calm := by
  unfold State.stage3
  simp only [calm_State_modHst, calm_State_stage4, apply_ite State.calm, ite_self, eq_self]

theorem calm_State_tileSend (a1) (a2) (a3) (a4) (s : State) : (State.tileSend a1 a2 a3 a4 s).calm = s.calm := by
  unfold State.tileSend
  simp only [calm_State_stage3, eq_self]

theorem calm_State_tileMove (a1) (a2) (s : State) : (State.tileMove a1 a2 s).calm = s.calm := by
  unfold State.tileMove
  simp only [calm_State_trace, calm_State_modTile, calm_each, calm_State_tileSend, apply_ite State.calm, ite_self, implies_true, eq_self, calm_each]

theorem calm_State_pump (a1) (s : State) : (State.pump a1 s).calm = s.calm := by
  unfold State.pump
  simp only [calm_State_pumpAsk, calm_each, calm_State_tileMove, implies_true, eq_self, calm_each]

theorem calm_State_pageFail (a1) (a2) (a3) (a4) (s : State) : (State.pageFail a1 a2 a3 a4 s).calm = s.calm := by
  unfold State.pageFail
  simp only [calm_each, calm_State_tileFault, apply_ite State.calm, ite_self, implies_true, eq_self, calm_each]

theorem calm_State_pageMiss (a1) (a2) (a3) (a4) (s : State) : (State.pageMiss a1 a2 a3 a4 s).calm = s.calm := by
  unfold State.pageMiss
  repeat' (first | with_reducible rfl | (simp only [calm_State_pageFail, calm_State_emit, calm_State_glob, calm_State_modHst, apply_ite State.calm, apply_ite Prod.fst, ite_self, implies_true, eq_self, calm_foldl, calm_each, calm_when, calm_State_emit, calm_State_used]; done) | (simp only [calm_State_pageFail, calm_State_emit, calm_State_glob, calm_State_modHst, apply_ite State.calm, apply_ite Prod.fst, ite_self, implies_true, eq_self, calm_foldl, calm_each, calm_when, calm_State_emit, calm_State_used]) | split | (refine (calm_each _ _ _ (fun x t => ?_)).trans ?_) | (refine (calm_when _ _ _ (fun t => ?_)).trans ?_) | (refine (calm_foldl _ _ _ (fun t x => ?_)).trans ?_) | (rename_i h; refine (congrArg (fun x => State.calm (Prod.fst x)) h).symm.trans ?_; simp only [calm_State_pageFail, calm_State_emit, calm_State_glob, calm_State_modHst, apply_ite State.calm, apply_ite Prod.fst, ite_self, implies_true, eq_self, calm_foldl, calm_each, calm_when, calm_State_emit, calm_State_used]; done) | (refine (calm_foldFst _ _ _ (fun x k => ?_)).trans ?_) | intro x)

theorem calm_State_prNext (s : State) : (State.prNext s).calm = s.calm := by
  unfold State.prNext
  repeat' (first | with_reducible rfl | (simp only [calm_State_pageMiss, calm_State_modHst, apply_ite State.calm, apply_ite Prod.fst, ite_self, implies_true, eq_self, calm_foldl, calm_each, calm_when, calm_State_emit, calm_State_used]; done) | (simp only [calm_State_pageMiss, calm_State_modHst, apply_ite State.calm, apply_ite Prod.fst, ite_self, implies_true, eq_self, calm_foldl, calm_each, calm_when, calm_State_emit, calm_State_used]) | split | (refine (calm_each _ _ _ (fun x t => ?_)).trans ?_) | (refine (calm_when _ _ _ (fun t => ?_)).trans ?_) | (refine (calm_foldl _ _ _ (fun t x => ?_)).trans ?_) | (rename_i h; refine (congrArg (fun x => State.calm (Prod.fst x)) h).symm.trans ?_; simp only [calm_State_pageMiss, calm_State_modHst, apply_ite State.calm, apply_ite Prod.fst, ite_self, implies_true, eq_self, calm_foldl, calm_each, calm_when, calm_State_emit, calm_State_used]; done) | (refine (calm_foldFst _ _ _ (fun x k => ?_)).trans ?_) | intro x)

theorem calm_State_trEnds (a1) (a2) (s : State) : (State.trEnds a1 a2 s).calm = s.calm := by
  unfold State.trEnds
  simp only [calm_each, calm_State_putPage, calm_State_modHst, calm_State_pump, calm_State_pageMiss, implies_true, eq_self, calm_each]

theorem calm_State_tileTlp (a1) (a2) (a3) (s : State) : (State.tileTlp a1 a2 a3 s).calm = s.calm := by
  unfold State.tileTlp
  repeat' (first | with_reducible rfl | (simp only [calm_State_fault, calm_State_used, calm_State_cntr, calm_State_tileSend, calm_State_pumpAsk, calm_State_modTile, apply_ite State.calm, apply_ite Prod.fst, ite_self, implies_true, eq_self, calm_foldl, calm_each, calm_when, calm_State_emit, calm_State_used]; done) | (simp only [calm_State_fault, calm_State_used, calm_State_cntr, calm_State_tileSend, calm_State_pumpAsk, calm_State_modTile, apply_ite State.calm, apply_ite Prod.fst, ite_self, implies_true, eq_self, calm_foldl, calm_each, calm_when, calm_State_emit, calm_State_used]) | split | (refine (calm_each _ _ _ (fun x t => ?_)).trans ?_) | (refine (calm_when _ _ _ (fun t => ?_)).trans ?_) | (refine (calm_foldl _ _ _ (fun t x => ?_)).trans ?_) | (rename_i h; refine (congrArg (fun x => State.calm (Prod.fst x)) h).symm.trans ?_; simp only [calm_State_fault, calm_State_used, calm_State_cntr, calm_State_tileSend, calm_State_pumpAsk, calm_State_modTile, apply_ite State.calm, apply_ite Prod.fst, ite_self, implies_true, eq_self, calm_foldl, calm_each, calm_when, calm_State_emit, calm_State_used]; done) | (refine (calm_foldFst _ _ _ (fun x k => ?_)).trans ?_) | intro x)

theorem calm_State_txTlp (a1) (a2) (s : State) : (State.txTlp a1 a2 s).calm = s.calm := by
  unfold State.txTlp
  repeat' (first | with_reducible rfl | (simp only [calm_State_emit, calm_State_stage3, calm_State_tileTlp, calm_State_used, calm_State_cntr, apply_ite State.calm, apply_ite Prod.fst, ite_self, implies_true, eq_self, calm_foldl, calm_each, calm_when, calm_State_emit, calm_State_used]; done) | (simp only [calm_State_emit, calm_State_stage3, calm_State_tileTlp, calm_State_used, calm_State_cntr, apply_ite State.calm, apply_ite Prod.fst, ite_self, implies_true, eq_self, calm_foldl, calm_each, calm_when, calm_State_emit, calm_State_used]) | split | (refine (calm_each _ _ _ (fun x t => ?_)).trans ?_) | (refine (calm_when _ _ _ (fun t => ?_)).trans ?_) | (refine (calm_foldl _ _ _ (fun t x => ?_)).trans ?_) | (rename_i h; refine (congrArg (fun x => State.calm (Prod.fst x)) h).symm.trans ?_; simp only [calm_State_emit, calm_State_stage3, calm_State_tileTlp, calm_State_used, calm_State_cntr, apply_ite State.calm, apply_ite Prod.fst, ite_self, implies_true, eq_self, calm_foldl, calm_each, calm_when, calm_State_emit, calm_State_used]; done) | (refine (calm_foldFst _ _ _ (fun x k => ?_)).trans ?_) | intro x)

theorem calm_State_ideFail (a1) (a2) (s : State) : (State.ideFail a1 a2 s).calm = s.calm := by
  unfold State.ideFail
  simp only [calm_State_streamDown, calm_State_count, eq_self]

theorem calm_State_rxCpl (a1) (a2) (s : State) : (State.rxCpl a1 a2 s).calm = s.calm := by
  unfold State.rxCpl
  simp only [calm_State_modHst, calm_State_emit, apply_ite State.calm, ite_self, eq_self, calm_State_emit]

theorem calm_State_rxReq (a1) (a2) (a3) (s : State) : (State.rxReq a1 a2 a3 s).calm = s.calm := by
  unfold State.rxReq
  simp only [calm_State_emit, calm_State_modTdi, apply_ite State.calm, ite_self, eq_self, calm_State_emit]

theorem calm_State_tileFree (a1) (a2) (s : State) : (State.tileFree a1 a2 s).calm = s.calm := by
  unfold State.tileFree
  simp only [calm_State_trace, calm_State_modTile, eq_self]

theorem calm_State_tileClosed (a1) (a2) (s : State) : (State.tileClosed a1 a2 s).calm = s.calm := by
  unfold State.tileClosed
  simp only [calm_State_tileFree, apply_ite State.calm, ite_self, eq_self]

theorem calm_State_wasHeld (a1) (a2) (s : State) : (State.wasHeld a1 a2 s).calm = s.calm := by
  unfold State.wasHeld
  simp only [calm_State_cntr, eq_self]

theorem calm_State_freeFabric (a1) (s : State) : (State.freeFabric a1 s).calm = s.calm := by
  unfold State.freeFabric
  simp only [calm_State_modPort, calm_each, calm_State_wasHeld, implies_true, eq_self, calm_each]

theorem calm_State_freeTlp (a1) (a2) (s : State) : (State.freeTlp a1 a2 s).calm = s.calm := by
  unfold State.freeTlp
  repeat' (first | with_reducible rfl | (simp only [calm_State_modHst, calm_when, calm_State_wasHeld, calm_State_stage4, calm_State_tileClosed, apply_ite State.calm, apply_ite Prod.fst, ite_self, implies_true, eq_self, calm_foldl, calm_each, calm_when, calm_State_emit, calm_State_used]; done) | (simp only [calm_State_modHst, calm_when, calm_State_wasHeld, calm_State_stage4, calm_State_tileClosed, apply_ite State.calm, apply_ite Prod.fst, ite_self, implies_true, eq_self, calm_foldl, calm_each, calm_when, calm_State_emit, calm_State_used]) | split | (refine (calm_each _ _ _ (fun x t => ?_)).trans ?_) | (refine (calm_when _ _ _ (fun t => ?_)).trans ?_) | (refine (calm_foldl _ _ _ (fun t x => ?_)).trans ?_) | (rename_i h; refine (congrArg (fun x => State.calm (Prod.fst x)) h).symm.trans ?_; simp only [calm_State_modHst, calm_when, calm_State_wasHeld, calm_State_stage4, calm_State_tileClosed, apply_ite State.calm, apply_ite Prod.fst, ite_self, implies_true, eq_self, calm_foldl, calm_each, calm_when, calm_State_emit, calm_State_used]; done) | (refine (calm_foldFst _ _ _ (fun x k => ?_)).trans ?_) | intro x)

theorem calm_State_freeHost (a1) (s : State) : (State.freeHost a1 s).calm = s.calm := by
  unfold State.freeHost
  repeat' (first | with_reducible rfl | (simp only [calm_State_freeTlp, apply_ite State.calm, apply_ite Prod.fst, ite_self, implies_true, eq_self, calm_foldl, calm_each, calm_when, calm_State_emit, calm_State_used]; done) | (simp only [calm_State_freeTlp, apply_ite State.calm, apply_ite Prod.fst, ite_self, implies_true, eq_self, calm_foldl, calm_each, calm_when, calm_State_emit, calm_State_used]) | split | (refine (calm_each _ _ _ (fun x t => ?_)).trans ?_) | (refine (calm_when _ _ _ (fun t => ?_)).trans ?_) | (refine (calm_foldl _ _ _ (fun t x => ?_)).trans ?_) | (rename_i h; refine (congrArg (fun x => State.calm (Prod.fst x)) h).symm.trans ?_; simp only [calm_State_freeTlp, apply_ite State.calm, apply_ite Prod.fst, ite_self, implies_true, eq_self, calm_foldl, calm_each, calm_when, calm_State_emit, calm_State_used]; done) | (refine (calm_foldFst _ _ _ (fun x k => ?_)).trans ?_) | intro x)

theorem calm_State_freeNorth (a1) (s : State) : (State.freeNorth a1 s).calm = s.calm := by
  unfold State.freeNorth
  simp only [calm_State_modSg, calm_each, calm_State_msWrite, calm_State_wasHeld, implies_true, eq_self, calm_each]

theorem calm_State_freeCdm (s : State) : (State.freeCdm s).calm = s.calm := by
  unfold State.freeCdm
  simp only [calm_State_modCmd, calm_each, calm_State_dumpNext, calm_State_cdmRefill, calm_State_cdmMake, calm_State_wasHeld, implies_true, eq_self, calm_each]

theorem calm_State_freeTrace (s : State) : (State.freeTrace s).calm = s.calm := by
  unfold State.freeTrace
  repeat' (first | with_reducible rfl | (simp only [calm_each, calm_State_writeRing, calm_State_wasHeld, apply_ite State.calm, apply_ite Prod.fst, ite_self, implies_true, eq_self, calm_foldl, calm_each, calm_when, calm_State_emit, calm_State_used]; done) | (simp only [calm_each, calm_State_writeRing, calm_State_wasHeld, apply_ite State.calm, apply_ite Prod.fst, ite_self, implies_true, eq_self, calm_foldl, calm_each, calm_when, calm_State_emit, calm_State_used]) | split | (refine (calm_each _ _ _ (fun x t => ?_)).trans ?_) | (refine (calm_when _ _ _ (fun t => ?_)).trans ?_) | (refine (calm_foldl _ _ _ (fun t x => ?_)).trans ?_) | (rename_i h; refine (congrArg (fun x => State.calm (Prod.fst x)) h).symm.trans ?_; simp only [calm_each, calm_State_writeRing, calm_State_wasHeld, apply_ite State.calm, apply_ite Prod.fst, ite_self, implies_true, eq_self, calm_foldl, calm_each, calm_when, calm_State_emit, calm_State_used]; done) | (refine (calm_foldFst _ _ _ (fun x k => ?_)).trans ?_) | intro x)

theorem calm_State_bellRefuse (a1) (a2) (a3) (a4) (a5) (s : State) : (State.bellRefuse a1 a2 a3 a4 a5 s).calm = s.calm := by
  unfold State.bellRefuse
  simp only [calm_State_modCmd, calm_State_glob, calm_State_flag, apply_ite State.calm, ite_self, eq_self]

theorem calm_State_bell (a1) (a2) (a3) (a4) (a5) (a6) (s : State) : (State.bell a1 a2 a3 a4 a5 a6 s).calm = s.calm := by
  unfold State.bell
  simp only [calm_State_bellRefuse, calm_State_modQueue, calm_State_touchCtx, apply_ite State.calm, ite_self, eq_self]

theorem calm_State_hostQueueOpen (a1) (s : State) : (State.hostQueueOpen a1 s).calm = s.calm := by
  unfold State.hostQueueOpen
  simp only [calm_State_flag, calm_State_modQueue, apply_ite State.calm, ite_self, eq_self]

theorem calm_State_destroyQueue (a1) (a2) (s : State) : (State.destroyQueue a1 a2 s).calm = s.calm := by
  unfold State.destroyQueue
  repeat' (first | with_reducible rfl | (simp only [calm_State_used, calm_State_modQueue, calm_State_reapQueue, apply_ite State.calm, apply_ite Prod.fst, ite_self, implies_true, eq_self, calm_foldl, calm_each, calm_when, calm_State_emit, calm_State_used, calm_finishing]; done) | (simp only [calm_State_used, calm_State_modQueue, calm_State_reapQueue, apply_ite State.calm, apply_ite Prod.fst, ite_self, implies_true, eq_self, calm_foldl, calm_each, calm_when, calm_State_emit, calm_State_used, calm_finishing]) | split | (refine (calm_each _ _ _ (fun x t => ?_)).trans ?_) | (refine (calm_when _ _ _ (fun t => ?_)).trans ?_) | (refine (calm_foldl _ _ _ (fun t x => ?_)).trans ?_) | (rename_i h; refine (congrArg (fun x => State.calm (Prod.fst x)) h).symm.trans ?_; simp only [calm_State_used, calm_State_modQueue, calm_State_reapQueue, apply_ite State.calm, apply_ite Prod.fst, ite_self, implies_true, eq_self, calm_foldl, calm_each, calm_when, calm_State_emit, calm_State_used, calm_finishing]; done) | (refine (calm_foldFst _ _ _ (fun x k => ?_)).trans ?_) | intro x)

theorem calm_State_hostQueueClose (a1) (s : State) : (State.hostQueueClose a1 s).calm = s.calm := by
  unfold State.hostQueueClose
  simp only [calm_State_destroyQueue, apply_ite State.calm, ite_self, eq_self]

theorem calm_State_ownRegion (a1) (a2) (s : State) : (State.ownRegion a1 a2 s).calm = s.calm := by
  unfold State.ownRegion
  simp only [calm_State_setAnchor, calm_State_modSg, calm_State_dropRegion, eq_self]

theorem calm_State_clearWays (a1) (a2) (s : State) : (State.clearWays a1 a2 s).calm = s.calm := by
  unfold State.clearWays
  simp only [calm_State_modKey, calm_State_modSg, eq_self]

theorem calm_State_putShare (a1) (a2) (s : State) : (State.putShare a1 a2 s).calm = s.calm := by
  unfold State.putShare
  repeat' (first | with_reducible rfl | (simp only [calm_State_modShare, calm_each, calm_State_clearWays, apply_ite State.calm, apply_ite Prod.fst, ite_self, implies_true, eq_self, calm_foldl, calm_each, calm_when, calm_State_emit, calm_State_used]; done) | (simp only [calm_State_modShare, calm_each, calm_State_clearWays, apply_ite State.calm, apply_ite Prod.fst, ite_self, implies_true, eq_self, calm_foldl, calm_each, calm_when, calm_State_emit, calm_State_used]) | split | (refine (calm_each _ _ _ (fun x t => ?_)).trans ?_) | (refine (calm_when _ _ _ (fun t => ?_)).trans ?_) | (refine (calm_foldl _ _ _ (fun t x => ?_)).trans ?_) | (rename_i h; refine (congrArg (fun x => State.calm (Prod.fst x)) h).symm.trans ?_; simp only [calm_State_modShare, calm_each, calm_State_clearWays, apply_ite State.calm, apply_ite Prod.fst, ite_self, implies_true, eq_self, calm_foldl, calm_each, calm_when, calm_State_emit, calm_State_used]; done) | (refine (calm_foldFst _ _ _ (fun x k => ?_)).trans ?_) | intro x)

theorem calm_State_dropShare (a1) (s : State) : (State.dropShare a1 s).calm = s.calm := by
  unfold State.dropShare
  repeat' (first | with_reducible rfl | (simp only [calm_State_modShare, calm_each, apply_ite State.calm, apply_ite Prod.fst, ite_self, implies_true, eq_self, calm_foldl, calm_each, calm_when, calm_State_emit, calm_State_used]; done) | (simp only [calm_State_modShare, calm_each, apply_ite State.calm, apply_ite Prod.fst, ite_self, implies_true, eq_self, calm_foldl, calm_each, calm_when, calm_State_emit, calm_State_used]) | split | (refine (calm_each _ _ _ (fun x t => ?_)).trans ?_) | (refine (calm_when _ _ _ (fun t => ?_)).trans ?_) | (refine (calm_foldl _ _ _ (fun t x => ?_)).trans ?_) | (rename_i h; refine (congrArg (fun x => State.calm (Prod.fst x)) h).symm.trans ?_; simp only [calm_State_modShare, calm_each, apply_ite State.calm, apply_ite Prod.fst, ite_self, implies_true, eq_self, calm_foldl, calm_each, calm_when, calm_State_emit, calm_State_used]; done) | (refine (calm_foldFst _ _ _ (fun x k => ?_)).trans ?_) | intro x)

theorem calm_State_writeRecord (a1) (s : State) : (State.writeRecord a1 s).calm = s.calm := by
  unfold State.writeRecord
  simp only [calm_State_modAtt, calm_State_modPart, calm_State_press, apply_ite State.calm, ite_self, eq_self]

theorem calm_State_eraseRecord (a1) (s : State) : (State.eraseRecord a1 s).calm = s.calm := by
  unfold State.eraseRecord
  simp only [calm_State_modAtt, eq_self]

theorem calm_State_setPolicy (a1) (a2) (a3) (a4) (s : State) : (State.setPolicy a1 a2 a3 a4 s).calm = s.calm := by
  unfold State.setPolicy
  simp only [calm_State_modPart, calm_State_modTdi, calm_State_modSg, eq_self]

theorem calm_State_newTables (a1) (a2) (s : State) : (State.newTables a1 a2 s).1.calm = s.calm := by
  unfold State.newTables
  simp only [calm_State_modObju, calm_State_modObj, calm_State_writeObj, calm_State_bindPlots, eq_self]

theorem calm_State_take (a1) (a2) (a3) (s : State) : (State.take a1 a2 a3 s).calm = s.calm := by
  unfold State.take
  simp only [calm_State_zeroCntrs, calm_State_modPart, calm_State_writeRecord, calm_State_setPolicy, calm_State_putShare, eq_self]

theorem calm_State_assignNew (a1) (a2) (s : State) : (State.assignNew a1 a2 s).1.calm = s.calm := by
  unfold State.assignNew
  simp only [calm_State_take, calm_State_modPart, calm_State_drawnPr, calm_State_fill, calm_State_newTables, calm_each, calm_State_ownRegion, apply_ite State.calm, apply_ite Prod.fst, ite_self, implies_true, eq_self, calm_each]

theorem calm_State_spdm (a1) (a2) (a3) (s : State) (ha3 : ∀ t, State.calm (a3 t) = t.calm) : (State.spdm a1 a2 a3 s).calm = s.calm := by
  unfold State.spdm
  simp only [calm_State_respond, ha3, apply_ite State.calm, ite_self, eq_self]

theorem calm_State_aliasSigned (a1) (a2) (a3) (s : State) : (State.aliasSigned a1 a2 a3 s).calm = s.calm := by
  unfold State.aliasSigned
  simp only [calm_State_pkeAdd, calm_State_respond, apply_ite State.calm, ite_self, eq_self]

theorem calm_State_measDiscard (s : State) : (State.measDiscard s).calm = s.calm := by
  unfold State.measDiscard
  simp only [calm_State_modAtt, calm_each, calm_State_closePart, calm_State_endSecured, calm_State_emit, implies_true, eq_self, calm_each, calm_State_emit]

theorem calm_State_abandonAsk (a1) (s : State) : (State.abandonAsk a1 s).calm = s.calm := by
  unfold State.abandonAsk
  repeat' (first | with_reducible rfl | (simp only [calm_State_modSess, calm_State_retireAll, apply_ite State.calm, apply_ite Prod.fst, ite_self, implies_true, eq_self, calm_foldl, calm_each, calm_when, calm_State_emit, calm_State_used]; done) | (simp only [calm_State_modSess, calm_State_retireAll, apply_ite State.calm, apply_ite Prod.fst, ite_self, implies_true, eq_self, calm_foldl, calm_each, calm_when, calm_State_emit, calm_State_used]) | split | (refine (calm_each _ _ _ (fun x t => ?_)).trans ?_) | (refine (calm_when _ _ _ (fun t => ?_)).trans ?_) | (refine (calm_foldl _ _ _ (fun t x => ?_)).trans ?_) | (rename_i h; refine (congrArg (fun x => State.calm (Prod.fst x)) h).symm.trans ?_; simp only [calm_State_modSess, calm_State_retireAll, apply_ite State.calm, apply_ite Prod.fst, ite_self, implies_true, eq_self, calm_foldl, calm_each, calm_when, calm_State_emit, calm_State_used]; done) | (refine (calm_foldFst _ _ _ (fun x k => ?_)).trans ?_) | intro x)

theorem calm_State_admissionFails (a1) (a2) (a3) (a4) (a5) (s : State) : (State.admissionFails a1 a2 a3 a4 a5 s).calm = s.calm := by
  unfold State.admissionFails
  simp only [calm_State_press, calm_State_respond, calm_State_setupFails, calm_State_cntr, apply_ite State.calm, ite_self, eq_self]

theorem calm_State_sessionSecrets (a1) (s : State) : (State.sessionSecrets a1 s).1.calm = s.calm := by
  unfold State.sessionSecrets
  repeat' (first | with_reducible rfl | (simp only [calm_State_renew, calm_State_used, apply_ite State.calm, apply_ite Prod.fst, ite_self, implies_true, eq_self, calm_foldl, calm_each, calm_when, calm_State_emit, calm_State_used]; done) | (simp only [calm_State_renew, calm_State_used, apply_ite State.calm, apply_ite Prod.fst, ite_self, implies_true, eq_self, calm_foldl, calm_each, calm_when, calm_State_emit, calm_State_used]) | split | (refine (calm_each _ _ _ (fun x t => ?_)).trans ?_) | (refine (calm_when _ _ _ (fun t => ?_)).trans ?_) | (refine (calm_foldl _ _ _ (fun t x => ?_)).trans ?_) | (rename_i h; refine (congrArg (fun x => State.calm (Prod.fst x)) h).symm.trans ?_; simp only [calm_State_renew, calm_State_used, apply_ite State.calm, apply_ite Prod.fst, ite_self, implies_true, eq_self, calm_foldl, calm_each, calm_when, calm_State_emit, calm_State_used]; done) | (refine (calm_foldFst _ _ _ (fun x k => ?_)).trans ?_) | intro x)

theorem calm_State_finishEnd (a1) (a2) (a3) (s : State) : (State.finishEnd a1 a2 a3 s).calm = s.calm := by
  unfold State.finishEnd
  repeat' (first | with_reducible rfl | (simp only [calm_State_respond, calm_State_sessionSecrets, calm_State_modCmd, calm_State_retireAll, calm_State_modSess, calm_State_endSecured, calm_State_admissionFails, apply_ite State.calm, apply_ite Prod.fst, ite_self, implies_true, eq_self, calm_foldl, calm_each, calm_when, calm_State_emit, calm_State_used]; done) | (simp only [calm_State_respond, calm_State_sessionSecrets, calm_State_modCmd, calm_State_retireAll, calm_State_modSess, calm_State_endSecured, calm_State_admissionFails, apply_ite State.calm, apply_ite Prod.fst, ite_self, implies_true, eq_self, calm_foldl, calm_each, calm_when, calm_State_emit, calm_State_used]) | split | (refine (calm_each _ _ _ (fun x t => ?_)).trans ?_) | (refine (calm_when _ _ _ (fun t => ?_)).trans ?_) | (refine (calm_foldl _ _ _ (fun t x => ?_)).trans ?_) | (rename_i h; refine (congrArg (fun x => State.calm (Prod.fst x)) h).symm.trans ?_; simp only [calm_State_respond, calm_State_sessionSecrets, calm_State_modCmd, calm_State_retireAll, calm_State_modSess, calm_State_endSecured, calm_State_admissionFails, apply_ite State.calm, apply_ite Prod.fst, ite_self, implies_true, eq_self, calm_foldl, calm_each, calm_when, calm_State_emit, calm_State_used]; done) | (refine (calm_foldFst _ _ _ (fun x k => ?_)).trans ?_) | intro x)

theorem calm_State_applyCarriage (a1) (a2) (a3) (s : State) : (State.applyCarriage a1 a2 a3 s).calm = s.calm := by
  unfold State.applyCarriage
  simp only [calm_State_modPort, apply_ite State.calm, ite_self, eq_self]

theorem calm_takeSlots (p) (n) (s : State) : (takeSlots p n s).1.calm = s.calm := by
  induction n generalizing s with
  | zero => rfl
  | succ n ih =>
    unfold takeSlots
    split
    · simp only []
      exact (ih _).trans (calm_State_fill ..)
    · rfl

theorem calm_State_bindDone (a1) (a2) (a3) (a4) (a5) (s : State) : (State.bindDone a1 a2 a3 a4 a5 s).calm = s.calm := by
  unfold State.bindDone
  simp only [calm_each, calm_State_settleSlot, calm_State_used, calm_State_fill, calm_State_modCmd, calm_State_modSess, calm_State_retireAll, calm_State_enqueue, calm_State_respond, calm_State_traceSess, apply_ite State.calm, ite_self, implies_true, eq_self, calm_each, calm_State_used]

theorem calm_State_bindEnd (a1) (a2) (a3) (a4) (s : State) : (State.bindEnd a1 a2 a3 a4 s).calm = s.calm := by
  unfold State.bindEnd
  repeat' (first | with_reducible rfl | (simp only [calm_State_respond, calm_State_modSess, calm_State_emit, calm_State_bindDone, calm_takeSlots, calm_State_admissionFails, apply_ite State.calm, apply_ite Prod.fst, ite_self, implies_true, eq_self, calm_foldl, calm_each, calm_when, calm_State_emit, calm_State_used]; done) | (simp only [calm_State_respond, calm_State_modSess, calm_State_emit, calm_State_bindDone, calm_takeSlots, calm_State_admissionFails, apply_ite State.calm, apply_ite Prod.fst, ite_self, implies_true, eq_self, calm_foldl, calm_each, calm_when, calm_State_emit, calm_State_used]) | split | (refine (calm_each _ _ _ (fun x t => ?_)).trans ?_) | (refine (calm_when _ _ _ (fun t => ?_)).trans ?_) | (refine (calm_foldl _ _ _ (fun t x => ?_)).trans ?_) | (rename_i h; refine (congrArg (fun x => State.calm (Prod.fst x)) h).symm.trans ?_; simp only [calm_State_respond, calm_State_modSess, calm_State_emit, calm_State_bindDone, calm_takeSlots, calm_State_admissionFails, apply_ite State.calm, apply_ite Prod.fst, ite_self, implies_true, eq_self, calm_foldl, calm_each, calm_when, calm_State_emit, calm_State_used]; done) | (refine (calm_foldFst _ _ _ (fun x k => ?_)).trans ?_) | intro x)

theorem calm_State_restartSetups (a1) (s : State) : (State.restartSetups a1 s).calm = s.calm := by
  unfold State.restartSetups
  simp only [calm_each, calm_State_sessDown, calm_State_setup, apply_ite State.calm, ite_self, implies_true, eq_self, calm_each]

theorem calm_State_amendApply (a1) (a2) (a3) (s : State) : (State.amendApply a1 a2 a3 s).calm = s.calm := by
  unfold State.amendApply
  repeat' (first | with_reducible rfl | (simp only [calm_State_modPart, calm_each, calm_State_emit, calm_State_closeSess, calm_State_recordLost, calm_State_writeRecord, calm_State_restartSetups, apply_ite State.calm, apply_ite Prod.fst, ite_self, implies_true, eq_self, calm_foldl, calm_each, calm_when, calm_State_emit, calm_State_used]; done) | (simp only [calm_State_modPart, calm_each, calm_State_emit, calm_State_closeSess, calm_State_recordLost, calm_State_writeRecord, calm_State_restartSetups, apply_ite State.calm, apply_ite Prod.fst, ite_self, implies_true, eq_self, calm_foldl, calm_each, calm_when, calm_State_emit, calm_State_used]) | split | (refine (calm_each _ _ _ (fun x t => ?_)).trans ?_) | (refine (calm_when _ _ _ (fun t => ?_)).trans ?_) | (refine (calm_foldl _ _ _ (fun t x => ?_)).trans ?_) | (rename_i h; refine (congrArg (fun x => State.calm (Prod.fst x)) h).symm.trans ?_; simp only [calm_State_modPart, calm_each, calm_State_emit, calm_State_closeSess, calm_State_recordLost, calm_State_writeRecord, calm_State_restartSetups, apply_ite State.calm, apply_ite Prod.fst, ite_self, implies_true, eq_self, calm_foldl, calm_each, calm_when, calm_State_emit, calm_State_used]; done) | (refine (calm_foldFst _ _ _ (fun x k => ?_)).trans ?_) | intro x)

theorem calm_State_amendEnd (a1) (a2) (a3) (s : State) : (State.amendEnd a1 a2 a3 s).calm = s.calm := by
  unfold State.amendEnd
  repeat' (first | with_reducible rfl | (simp only [calm_State_respond, calm_State_amendApply, apply_ite State.calm, apply_ite Prod.fst, ite_self, implies_true, eq_self, calm_foldl, calm_each, calm_when, calm_State_emit, calm_State_used]; done) | (simp only [calm_State_respond, calm_State_amendApply, apply_ite State.calm, apply_ite Prod.fst, ite_self, implies_true, eq_self, calm_foldl, calm_each, calm_when, calm_State_emit, calm_State_used]) | split | (refine (calm_each _ _ _ (fun x t => ?_)).trans ?_) | (refine (calm_when _ _ _ (fun t => ?_)).trans ?_) | (refine (calm_foldl _ _ _ (fun t x => ?_)).trans ?_) | (rename_i h; refine (congrArg (fun x => State.calm (Prod.fst x)) h).symm.trans ?_; simp only [calm_State_respond, calm_State_amendApply, apply_ite State.calm, apply_ite Prod.fst, ite_self, implies_true, eq_self, calm_foldl, calm_each, calm_when, calm_State_emit, calm_State_used]; done) | (refine (calm_foldFst _ _ _ (fun x k => ?_)).trans ?_) | intro x)

theorem calm_State_mctp (a1) (a2) (s : State) : (State.mctp a1 a2 s).calm = s.calm := by
  unfold State.mctp
  simp only [calm_State_emit, apply_ite State.calm, ite_self, eq_self, calm_State_emit]

theorem calm_State_drawSeed (a1) (s : State) : (State.drawSeed a1 s).calm = s.calm := by
  unfold State.drawSeed
  simp only [calm_State_drawnPr, calm_State_fill, eq_self]

theorem calm_State_encaps (a1) (a2) (s : State) : (State.encaps a1 a2 s).1.calm = s.calm := by
  unfold State.encaps
  simp only [calm_State_used, calm_State_fill, calm_State_drawn, eq_self, calm_State_used]

theorem calm_State_pkeRun (j) (op) (s : State) : (State.pkeRun j op s).1.calm = s.calm := by
  unfold State.pkeRun
  repeat' (first | with_reducible rfl | split)
  · rename_i t sid _ _; show ((s.session _ _).elim s _).calm = _; cases s.session _ _
    · rfl
    · exact calm_State_drawSeed ..
  · exact calm_each _ _ _ fun _ _ => calm_State_drawSeed ..
  · rename_i h; exact (congrArg (fun x => State.calm (Prod.fst x)) h).symm.trans (calm_State_encaps ..)
  · exact calm_State_drawnPr ..
  · exact calm_State_drawn ..

theorem calm_State_pkeEnd (a1) (s : State) : (State.pkeEnd a1 s).calm = s.calm := by
  unfold State.pkeEnd
  repeat' (first | with_reducible rfl | (simp only [calm_State_endsWith, calm_State_okTrailer, calm_State_respond, calm_State_endSecured, calm_State_emit, calm_State_finishEnd, calm_State_bindEnd, calm_State_amendEnd, apply_ite State.calm, apply_ite Prod.fst, ite_self, implies_true, eq_self, calm_foldl, calm_each, calm_when, calm_State_emit, calm_State_used]; done) | (simp only [calm_State_endsWith, calm_State_okTrailer, calm_State_respond, calm_State_endSecured, calm_State_emit, calm_State_finishEnd, calm_State_bindEnd, calm_State_amendEnd, apply_ite State.calm, apply_ite Prod.fst, ite_self, implies_true, eq_self, calm_foldl, calm_each, calm_when, calm_State_emit, calm_State_used]) | split | (refine (calm_each _ _ _ (fun x t => ?_)).trans ?_) | (refine (calm_when _ _ _ (fun t => ?_)).trans ?_) | (refine (calm_foldl _ _ _ (fun t x => ?_)).trans ?_) | (rename_i h; refine (congrArg (fun x => State.calm (Prod.fst x)) h).symm.trans ?_; simp only [calm_State_endsWith, calm_State_okTrailer, calm_State_respond, calm_State_endSecured, calm_State_emit, calm_State_finishEnd, calm_State_bindEnd, calm_State_amendEnd, apply_ite State.calm, apply_ite Prod.fst, ite_self, implies_true, eq_self, calm_foldl, calm_each, calm_when, calm_State_emit, calm_State_used]; done) | (refine (calm_foldFst _ _ _ (fun x k => ?_)).trans ?_) | intro x)

theorem calm_State_publish (a1) (s : State) : (State.publish a1 s).calm = s.calm := by
  unfold State.publish
  simp only [calm_State_modObs, calm_State_used, calm_State_trace, apply_ite State.calm, ite_self, eq_self, calm_State_used]

theorem calm_State_mark (a1) (a2) (a3) (a4) (s : State) : (State.mark a1 a2 a3 a4 s).calm = s.calm := by
  unfold State.mark
  simp only [calm_State_trace, calm_State_modCtx, calm_State_flag, apply_ite State.calm, ite_self, eq_self]

theorem calm_State_flushPress (s : State) : (State.flushPress s).calm = s.calm := by
  unfold State.flushPress
  simp only [calm_State_emit, calm_State_modObs, apply_ite State.calm, ite_self, eq_self, calm_State_emit]

theorem calm_State_fire (a1) (a2) (a3) (s : State) (ha3 : ∀ x0 t, State.calm (a3 x0 t) = t.calm) : (State.fire a1 a2 a3 s).calm = s.calm := by
  unfold State.fire
  simp only [calm_State_trace, calm_when, calm_State_press, calm_State_cntr, calm_State_setSched, ha3, apply_ite State.calm, ite_self, implies_true, eq_self, calm_when]

theorem calm_State_actCommit (a1) (a2) (s : State) : (State.actCommit a1 a2 s).calm = s.calm := by
  unfold State.actCommit
  simp only [calm_State_schedEnds, calm_State_commitNamed, eq_self]

theorem calm_State_actEpoch (a1) (a2) (s : State) : (State.actEpoch a1 a2 s).calm = s.calm := by
  unfold State.actEpoch
  simp only [calm_State_schedEnds, calm_each, calm_State_epochChange, calm_State_modSess, implies_true, eq_self, calm_each]

theorem calm_State_resaltPort (a1) (s : State) : (State.resaltPort a1 s).calm = s.calm := by
  unfold State.resaltPort
  simp only [calm_State_modPort, calm_State_saltKeys, calm_State_glob, apply_ite State.calm, ite_self, eq_self]

theorem calm_State_actResalt (a1) (a2) (s : State) : (State.actResalt a1 a2 s).calm = s.calm := by
  unfold State.actResalt
  simp only [calm_State_schedEnds, calm_each, calm_State_resaltPort, implies_true, eq_self, calm_each]

theorem calm_State_actTrace (a1) (a2) (s : State) : (State.actTrace a1 a2 s).calm = s.calm := by
  unfold State.actTrace
  simp only [calm_State_schedEnds, calm_State_cntr, calm_State_trigger, apply_ite State.calm, ite_self, eq_self]

theorem calm_State_actDump (a1) (a2) (s : State) : (State.actDump a1 a2 s).calm = s.calm := by
  unfold State.actDump
  simp only [calm_State_dumpEnd, calm_State_dumpNext, calm_State_modObs, apply_ite State.calm, ite_self, eq_self]

theorem calm_State_actTrig (a1) (a2) (s : State) : (State.actTrig a1 a2 s).calm = s.calm := by
  unfold State.actTrig
  simp only [calm_State_modPins, calm_State_modDt, calm_State_schedEnds, apply_ite State.calm, ite_self, eq_self]

theorem calm_State_setStop (a1) (a2) (s : State) : (State.setStop a1 a2 s).calm = s.calm := by
  unfold State.setStop
  simp only [calm_State_modDt, eq_self]

theorem calm_State_applyHeld (a1) (a2) (s : State) : (State.applyHeld a1 a2 s).calm = s.calm := by
  unfold State.applyHeld
  repeat' (first | with_reducible rfl | (simp only [calm_State_applyRoute, calm_State_unlessBreach, calm_State_applyReply, calm_State_applyAtomic, calm_State_applyQuery, calm_State_applyRw, calm_State_applyAck, calm_State_applyContrib, calm_State_applyResultAck, calm_State_applyResult, calm_State_applyFence, calm_State_applyCarriage, calm_State_applyOpen, calm_State_applyClose, apply_ite State.calm, apply_ite Prod.fst, ite_self, implies_true, eq_self, calm_foldl, calm_each, calm_when, calm_State_emit, calm_State_used]; done) | (simp only [calm_State_applyRoute, calm_State_unlessBreach, calm_State_applyReply, calm_State_applyAtomic, calm_State_applyQuery, calm_State_applyRw, calm_State_applyAck, calm_State_applyContrib, calm_State_applyResultAck, calm_State_applyResult, calm_State_applyFence, calm_State_applyCarriage, calm_State_applyOpen, calm_State_applyClose, apply_ite State.calm, apply_ite Prod.fst, ite_self, implies_true, eq_self, calm_foldl, calm_each, calm_when, calm_State_emit, calm_State_used]) | split | (refine (calm_each _ _ _ (fun x t => ?_)).trans ?_) | (refine (calm_when _ _ _ (fun t => ?_)).trans ?_) | (refine (calm_foldl _ _ _ (fun t x => ?_)).trans ?_) | (rename_i h; refine (congrArg (fun x => State.calm (Prod.fst x)) h).symm.trans ?_; simp only [calm_State_applyRoute, calm_State_unlessBreach, calm_State_applyReply, calm_State_applyAtomic, calm_State_applyQuery, calm_State_applyRw, calm_State_applyAck, calm_State_applyContrib, calm_State_applyResultAck, calm_State_applyResult, calm_State_applyFence, calm_State_applyCarriage, calm_State_applyOpen, calm_State_applyClose, apply_ite State.calm, apply_ite Prod.fst, ite_self, implies_true, eq_self, calm_foldl, calm_each, calm_when, calm_State_emit, calm_State_used]; done) | (refine (calm_foldFst _ _ _ (fun x k => ?_)).trans ?_) | (refine (calm_State_unlessBreach _ _ _ _ (fun t => ?_)).trans ?_) | intro x)

theorem calm_State_wakeStopped (a1) (s : State) : (State.wakeStopped a1 s).calm = s.calm := by
  unfold State.wakeStopped
  simp only [calm_each, calm_State_wake, implies_true, eq_self, calm_each, calm_finishing]

theorem calm_State_markHeld (a1) (s : State) : (State.markHeld a1 s).calm = s.calm := by
  unfold State.markHeld
  simp only [calm_State_modLnk, eq_self]

theorem calm_State_resume (a1) (a2) (s : State) : (State.resume a1 a2 s).calm = s.calm := by
  unfold State.resume
  simp only [calm_State_schedEnds, calm_State_modDt, calm_State_setStop, calm_State_markHeld, calm_State_lowerCstop, calm_State_wakeStopped, calm_each, calm_State_applyHeld, implies_true, eq_self, calm_each]

theorem calm_State_resumeGo (a1) (s : State) : (State.resumeGo a1 s).calm = s.calm := by
  unfold State.resumeGo
  repeat' (first | with_reducible rfl | (simp only [calm_State_resume, apply_ite State.calm, apply_ite Prod.fst, ite_self, implies_true, eq_self, calm_foldl, calm_each, calm_when, calm_State_emit, calm_State_used]; done) | (simp only [calm_State_resume, apply_ite State.calm, apply_ite Prod.fst, ite_self, implies_true, eq_self, calm_foldl, calm_each, calm_when, calm_State_emit, calm_State_used]) | split | (refine (calm_each _ _ _ (fun x t => ?_)).trans ?_) | (refine (calm_when _ _ _ (fun t => ?_)).trans ?_) | (refine (calm_foldl _ _ _ (fun t x => ?_)).trans ?_) | (rename_i h; refine (congrArg (fun x => State.calm (Prod.fst x)) h).symm.trans ?_; simp only [calm_State_resume, apply_ite State.calm, apply_ite Prod.fst, ite_self, implies_true, eq_self, calm_foldl, calm_each, calm_when, calm_State_emit, calm_State_used]; done) | (refine (calm_foldFst _ _ _ (fun x k => ?_)).trans ?_) | intro x)

theorem calm_State_stopTry (a1) (s : State) : (State.stopTry a1 s).calm = s.calm := by
  unfold State.stopTry
  simp only [calm_State_setStop, calm_State_resumeGo, calm_State_signal, apply_ite State.calm, ite_self, eq_self, calm_finishing]

theorem calm_State_actStop (a1) (a2) (s : State) : (State.actStop a1 a2 s).calm = s.calm := by
  unfold State.actStop
  simp only [calm_State_schedEnds, calm_State_press, calm_State_stopTry, calm_State_setStop, calm_State_raiseCstop, apply_ite State.calm, ite_self, eq_self]

theorem calm_State_applyMarker (a1) (a2) (a3) (a4) (s : State) : (State.applyMarker a1 a2 a3 a4 s).calm = s.calm := by
  unfold State.applyMarker
  simp only [calm_State_stopTry, calm_State_setStop, apply_ite State.calm, ite_self, eq_self]

theorem calm_State_actResume (a1) (a2) (s : State) : (State.actResume a1 a2 s).calm = s.calm := by
  unfold State.actResume
  simp only [calm_State_schedEnds, calm_State_press, calm_State_resume, calm_State_setStop, apply_ite State.calm, ite_self, eq_self]

theorem calm_State_action (a1) (a2) (s : State) : (State.action a1 a2 s).calm = s.calm := by
  unfold State.action
  repeat' (first | with_reducible rfl | (simp only [calm_State_actCommit, calm_State_actEpoch, calm_State_actResalt, calm_State_actStop, calm_State_actResume, calm_State_actTrace, calm_State_actDump, calm_State_actTrig, calm_State_schedEnds, apply_ite State.calm, apply_ite Prod.fst, ite_self, implies_true, eq_self, calm_foldl, calm_each, calm_when, calm_State_emit, calm_State_used]; done) | (simp only [calm_State_actCommit, calm_State_actEpoch, calm_State_actResalt, calm_State_actStop, calm_State_actResume, calm_State_actTrace, calm_State_actDump, calm_State_actTrig, calm_State_schedEnds, apply_ite State.calm, apply_ite Prod.fst, ite_self, implies_true, eq_self, calm_foldl, calm_each, calm_when, calm_State_emit, calm_State_used]) | split | (refine (calm_each _ _ _ (fun x t => ?_)).trans ?_) | (refine (calm_when _ _ _ (fun t => ?_)).trans ?_) | (refine (calm_foldl _ _ _ (fun t x => ?_)).trans ?_) | (rename_i h; refine (congrArg (fun x => State.calm (Prod.fst x)) h).symm.trans ?_; simp only [calm_State_actCommit, calm_State_actEpoch, calm_State_actResalt, calm_State_actStop, calm_State_actResume, calm_State_actTrace, calm_State_actDump, calm_State_actTrig, calm_State_schedEnds, apply_ite State.calm, apply_ite Prod.fst, ite_self, implies_true, eq_self, calm_foldl, calm_each, calm_when, calm_State_emit, calm_State_used]; done) | (refine (calm_foldFst _ _ _ (fun x k => ?_)).trans ?_) | intro x)

theorem calm_State_fireDue (a1) (s : State) : (State.fireDue a1 s).calm = s.calm := by
  unfold State.fireDue
  simp only [calm_State_fire, calm_State_action, apply_ite State.calm, ite_self, implies_true, eq_self]

theorem calm_State_fires (a1) (a2) (a3) (s : State) (ha3 : ∀ x0 t, State.calm (a3 x0 t) = t.calm) : (State.fires a1 a2 a3 s).calm = s.calm := by
  unfold State.fires
  simp only [calm_each, calm_State_fireDue, calm_State_fire, ha3, apply_ite State.calm, ite_self, implies_true, eq_self, calm_each]

theorem calm_State_see (a1) (a2) (a3) (a4) (s : State) : (State.see a1 a2 a3 a4 s).calm = s.calm := by
  unfold State.see
  simp only [calm_State_modDt, eq_self]

theorem calm_State_applyEntry (a1) (a2) (a3) (a4) (s : State) : (State.applyEntry a1 a2 a3 a4 s).calm = s.calm := by
  unfold State.applyEntry
  repeat' (first | with_reducible rfl | (simp only [calm_State_broadcast, calm_State_see, calm_State_press, calm_State_setSched, calm_State_fire, calm_State_action, apply_ite State.calm, apply_ite Prod.fst, ite_self, implies_true, eq_self, calm_foldl, calm_each, calm_when, calm_State_emit, calm_State_used]; done) | (simp only [calm_State_broadcast, calm_State_see, calm_State_press, calm_State_setSched, calm_State_fire, calm_State_action, apply_ite State.calm, apply_ite Prod.fst, ite_self, implies_true, eq_self, calm_foldl, calm_each, calm_when, calm_State_emit, calm_State_used]) | split | (refine (calm_each _ _ _ (fun x t => ?_)).trans ?_) | (refine (calm_when _ _ _ (fun t => ?_)).trans ?_) | (refine (calm_foldl _ _ _ (fun t x => ?_)).trans ?_) | (rename_i h; refine (congrArg (fun x => State.calm (Prod.fst x)) h).symm.trans ?_; simp only [calm_State_broadcast, calm_State_see, calm_State_press, calm_State_setSched, calm_State_fire, calm_State_action, apply_ite State.calm, apply_ite Prod.fst, ite_self, implies_true, eq_self, calm_foldl, calm_each, calm_when, calm_State_emit, calm_State_used]; done) | (refine (calm_foldFst _ _ _ (fun x k => ?_)).trans ?_) | (refine (calm_State_fire _ _ _ _ (fun y0 t => ?_)).trans ?_) | intro x)

theorem calm_State_unarm (a1) (s : State) : (State.unarm a1 s).calm = s.calm := by
  unfold State.unarm
  simp only [calm_State_modDt, eq_self]

theorem calm_State_applyCancel (a1) (a2) (a3) (a4) (s : State) : (State.applyCancel a1 a2 a3 a4 s).calm = s.calm := by
  unfold State.applyCancel
  simp only [calm_State_broadcast, calm_State_unarm, calm_State_see, apply_ite State.calm, ite_self, eq_self]

theorem calm_State_sweepLine (a1) (a2) (s : State) : (State.sweepLine a1 a2 s).calm = s.calm := by
  unfold State.sweepLine
  simp only [calm_State_glob, calm_State_msWrite, eq_self]

theorem calm_State_resealTo (a1) (a2) (a3) (a4) (a5) (s : State) : (State.resealTo a1 a2 a3 a4 a5 s).calm = s.calm := by
  unfold State.resealTo
  repeat' (first | with_reducible rfl | (simp only [calm_State_modSg, calm_State_dropRegion, calm_each, calm_State_glob, calm_State_msWrite, calm_State_sweepLine, calm_State_setAnchor, apply_ite State.calm, apply_ite Prod.fst, ite_self, implies_true, eq_self, calm_foldl, calm_each, calm_when, calm_State_emit, calm_State_used]; done) | (simp only [calm_State_modSg, calm_State_dropRegion, calm_each, calm_State_glob, calm_State_msWrite, calm_State_sweepLine, calm_State_setAnchor, apply_ite State.calm, apply_ite Prod.fst, ite_self, implies_true, eq_self, calm_foldl, calm_each, calm_when, calm_State_emit, calm_State_used]) | split | (refine (calm_each _ _ _ (fun x t => ?_)).trans ?_) | (refine (calm_when _ _ _ (fun t => ?_)).trans ?_) | (refine (calm_foldl _ _ _ (fun t x => ?_)).trans ?_) | (rename_i h; refine (congrArg (fun x => State.calm (Prod.fst x)) h).symm.trans ?_; simp only [calm_State_modSg, calm_State_dropRegion, calm_each, calm_State_glob, calm_State_msWrite, calm_State_sweepLine, calm_State_setAnchor, apply_ite State.calm, apply_ite Prod.fst, ite_self, implies_true, eq_self, calm_foldl, calm_each, calm_when, calm_State_emit, calm_State_used]; done) | (refine (calm_foldFst _ _ _ (fun x k => ?_)).trans ?_) | intro x)

theorem calm_State_zeroRegion (a1) (a2) (a3) (s : State) : (State.zeroRegion a1 a2 a3 s).calm = s.calm := by
  unfold State.zeroRegion
  repeat' (first | with_reducible rfl | (simp only [calm_State_setAnchor, calm_State_resealTo, apply_ite State.calm, apply_ite Prod.fst, ite_self, implies_true, eq_self, calm_foldl, calm_each, calm_when, calm_State_emit, calm_State_used]; done) | (simp only [calm_State_setAnchor, calm_State_resealTo, apply_ite State.calm, apply_ite Prod.fst, ite_self, implies_true, eq_self, calm_foldl, calm_each, calm_when, calm_State_emit, calm_State_used]) | split | (refine (calm_each _ _ _ (fun x t => ?_)).trans ?_) | (refine (calm_when _ _ _ (fun t => ?_)).trans ?_) | (refine (calm_foldl _ _ _ (fun t x => ?_)).trans ?_) | (rename_i h; refine (congrArg (fun x => State.calm (Prod.fst x)) h).symm.trans ?_; simp only [calm_State_setAnchor, calm_State_resealTo, apply_ite State.calm, apply_ite Prod.fst, ite_self, implies_true, eq_self, calm_foldl, calm_each, calm_when, calm_State_emit, calm_State_used]; done) | (refine (calm_foldFst _ _ _ (fun x k => ?_)).trans ?_) | intro x)

theorem calm_State_addStep (a1) (s : State) : (State.addStep a1 s).calm = s.calm := by
  unfold State.addStep
  simp only [calm_State_modRst, eq_self]

theorem calm_State_endSteps (a1) (s : State) : (State.endSteps a1 s).calm = s.calm := by
  unfold State.endSteps
  simp only [calm_State_modRst, eq_self]

theorem calm_State_engGo (a1) (s : State) : (State.engGo a1 s).calm = s.calm := by
  unfold State.engGo
  repeat' (first | with_reducible rfl | (simp only [calm_State_modPins, apply_ite State.calm, apply_ite Prod.fst, ite_self, implies_true, eq_self, calm_foldl, calm_each, calm_when, calm_State_emit, calm_State_used]; done) | (simp only [calm_State_modPins, apply_ite State.calm, apply_ite Prod.fst, ite_self, implies_true, eq_self, calm_foldl, calm_each, calm_when, calm_State_emit, calm_State_used]) | split | (refine (calm_each _ _ _ (fun x t => ?_)).trans ?_) | (refine (calm_when _ _ _ (fun t => ?_)).trans ?_) | (refine (calm_foldl _ _ _ (fun t x => ?_)).trans ?_) | (rename_i h; refine (congrArg (fun x => State.calm (Prod.fst x)) h).symm.trans ?_; simp only [calm_State_modPins, apply_ite State.calm, apply_ite Prod.fst, ite_self, implies_true, eq_self, calm_foldl, calm_each, calm_when, calm_State_emit, calm_State_used]; done) | (refine (calm_foldFst _ _ _ (fun x k => ?_)).trans ?_) | intro x)

theorem calm_State_unfence (a1) (s : State) : (State.unfence a1 s).calm = s.calm := by
  unfold State.unfence
  simp only [calm_State_modPart, calm_State_tryJoin, calm_State_lowerPfence, apply_ite State.calm, ite_self, eq_self]

theorem calm_State_scrubPorts (a1) (s : State) : (State.scrubPorts a1 s).calm = s.calm := by
  unfold State.scrubPorts
  simp only [calm_State_closePart, calm_each, calm_State_sessDown, calm_State_tdiError, calm_State_streamDown, calm_State_retire, implies_true, eq_self, calm_each]

theorem calm_State_scrubCtxs (a1) (s : State) : (State.scrubCtxs a1 s).calm = s.calm := by
  unfold State.scrubCtxs
  simp only [calm_each, calm_State_removeQueue, calm_State_modCmd, calm_State_modObju, calm_State_endSteps, calm_State_complete, implies_true, eq_self, calm_each]

theorem calm_State_scrubCmds (a1) (s : State) : (State.scrubCmds a1 s).calm = s.calm := by
  unfold State.scrubCmds
  simp only [calm_State_modObju, calm_State_modKey, calm_State_complete, eq_self]

theorem calm_State_scrubTables (a1) (s : State) : (State.scrubTables a1 s).calm = s.calm := by
  unfold State.scrubTables
  simp only [calm_State_modObju, calm_State_modDt, calm_State_lowerCstop, calm_State_modObs, calm_State_zeroCntrs, calm_State_eraseRecord, eq_self]

theorem calm_State_scrubFlow (a1) (s : State) : (State.scrubFlow a1 s).calm = s.calm := by
  unfold State.scrubFlow
  simp only [calm_State_modSg, calm_State_modRem, calm_State_cdmRefill, calm_each, calm_State_cdmMake, calm_State_modCmd, implies_true, eq_self, calm_each]

theorem calm_State_enterScrub (a1) (s : State) : (State.enterScrub a1 s).calm = s.calm := by
  unfold State.enterScrub
  simp only [calm_State_scrubTables, calm_State_scrubCmds, calm_State_scrubCtxs, calm_State_scrubFlow, calm_State_scrubPorts, calm_State_modPart, eq_self]

theorem calm_State_resetsGo (s : State) : (State.resetsGo s).calm = s.calm := by
  unfold State.resetsGo
  simp only [calm_each, calm_State_engGo, calm_State_enterScrub, implies_true, eq_self, calm_each]

theorem calm_State_engineStep (a1) (a2) (a3) (s : State) : (State.engineStep a1 a2 a3 s).calm = s.calm := by
  unfold State.engineStep
  repeat' (first | with_reducible rfl | (simp only [calm_State_modRst, calm_State_resetsGo, calm_State_addStep, calm_when, calm_State_fencePart, apply_ite State.calm, apply_ite Prod.fst, ite_self, implies_true, eq_self, calm_foldl, calm_each, calm_when, calm_State_emit, calm_State_used]; done) | (simp only [calm_State_modRst, calm_State_resetsGo, calm_State_addStep, calm_when, calm_State_fencePart, apply_ite State.calm, apply_ite Prod.fst, ite_self, implies_true, eq_self, calm_foldl, calm_each, calm_when, calm_State_emit, calm_State_used]) | split | (refine (calm_each _ _ _ (fun x t => ?_)).trans ?_) | (refine (calm_when _ _ _ (fun t => ?_)).trans ?_) | (refine (calm_foldl _ _ _ (fun t x => ?_)).trans ?_) | (rename_i h; refine (congrArg (fun x => State.calm (Prod.fst x)) h).symm.trans ?_; simp only [calm_State_modRst, calm_State_resetsGo, calm_State_addStep, calm_when, calm_State_fencePart, apply_ite State.calm, apply_ite Prod.fst, ite_self, implies_true, eq_self, calm_foldl, calm_each, calm_when, calm_State_emit, calm_State_used]; done) | (refine (calm_foldFst _ _ _ (fun x k => ?_)).trans ?_) | intro x)

theorem calm_State_partStep (a1) (a2) (a3) (s : State) : (State.partStep a1 a2 a3 s).calm = s.calm := by
  unfold State.partStep
  simp only [calm_State_modPart, calm_State_addStep, calm_State_fencePart, calm_State_resetsGo, calm_each, calm_when, apply_ite State.calm, ite_self, implies_true, eq_self, calm_each, calm_when]

theorem calm_State_engineEnd (a1) (s : State) : (State.engineEnd a1 s).calm = s.calm := by
  unfold State.engineEnd
  repeat' (first | with_reducible rfl | (simp only [calm_State_count, calm_State_endSteps, calm_when, calm_State_unfence, calm_State_resetsGo, calm_State_complete, apply_ite State.calm, apply_ite Prod.fst, ite_self, implies_true, eq_self, calm_foldl, calm_each, calm_when, calm_State_emit, calm_State_used]; done) | (simp only [calm_State_count, calm_State_endSteps, calm_when, calm_State_unfence, calm_State_resetsGo, calm_State_complete, apply_ite State.calm, apply_ite Prod.fst, ite_self, implies_true, eq_self, calm_foldl, calm_each, calm_when, calm_State_emit, calm_State_used]) | split | (refine (calm_each _ _ _ (fun x t => ?_)).trans ?_) | (refine (calm_when _ _ _ (fun t => ?_)).trans ?_) | (refine (calm_foldl _ _ _ (fun t x => ?_)).trans ?_) | (rename_i h; refine (congrArg (fun x => State.calm (Prod.fst x)) h).symm.trans ?_; simp only [calm_State_count, calm_State_endSteps, calm_when, calm_State_unfence, calm_State_resetsGo, calm_State_complete, apply_ite State.calm, apply_ite Prod.fst, ite_self, implies_true, eq_self, calm_foldl, calm_each, calm_when, calm_State_emit, calm_State_used]; done) | (refine (calm_foldFst _ _ _ (fun x k => ?_)).trans ?_) | intro x)

theorem calm_State_ctxResetEnd (a1) (s : State) : (State.ctxResetEnd a1 s).calm = s.calm := by
  unfold State.ctxResetEnd
  simp only [calm_State_modCtx, calm_State_endSteps, calm_State_complete, calm_State_count, apply_ite State.calm, ite_self, eq_self]

theorem calm_State_scrubRetire (a1) (s : State) : (State.scrubRetire a1 s).calm = s.calm := by
  unfold State.scrubRetire
  simp only [calm_each, calm_State_retire, calm_State_modSg, calm_State_modKey, calm_State_modRem, calm_State_endReduction, implies_true, eq_self, calm_each]

theorem calm_State_scrubAnchors (a1) (s : State) : (State.scrubAnchors a1 s).calm = s.calm := by
  unfold State.scrubAnchors
  simp only [calm_each, calm_State_setAnchor, calm_State_finishRetire, calm_State_retire, calm_State_modSg, calm_State_modObju, implies_true, eq_self, calm_each]

theorem calm_State_scrubFree (q) (s : State) : (s.scrubFree q).calm = s.calm :=
  (calm_State_complete _ _).trans <| (calm_State_modLnk _ _).trans <| (calm_State_modRem _ _).trans <| (calm_State_modObju _ _).trans <|
    (calm_State_modDt _ _).trans <| (calm_State_count ..).trans <| (calm_State_lowerPfence ..).trans <| (calm_State_dropShare ..).trans
      (calm_State_modPart ..)

theorem calm_State_sendPwr (s : State) : (State.sendPwr s).calm = s.calm := by
  unfold State.sendPwr
  repeat' (first | with_reducible rfl | (simp only [calm_State_emit, apply_ite State.calm, apply_ite Prod.fst, ite_self, implies_true, eq_self, calm_foldl, calm_each, calm_when, calm_State_emit, calm_State_used]; done) | (simp only [calm_State_emit, apply_ite State.calm, apply_ite Prod.fst, ite_self, implies_true, eq_self, calm_foldl, calm_each, calm_when, calm_State_emit, calm_State_used]) | split | (refine (calm_each _ _ _ (fun x t => ?_)).trans ?_) | (refine (calm_when _ _ _ (fun t => ?_)).trans ?_) | (refine (calm_foldl _ _ _ (fun t x => ?_)).trans ?_) | (rename_i h; refine (congrArg (fun x => State.calm (Prod.fst x)) h).symm.trans ?_; simp only [calm_State_emit, apply_ite State.calm, apply_ite Prod.fst, ite_self, implies_true, eq_self, calm_foldl, calm_each, calm_when, calm_State_emit, calm_State_used]; done) | (refine (calm_foldFst _ _ _ (fun x k => ?_)).trans ?_) | intro x)

theorem calm_State_escalateCtx (a1) (s : State) : (State.escalateCtx a1 s).calm = s.calm := by
  unfold State.escalateCtx
  simp only [calm_State_count, calm_State_modCtx, calm_State_endSteps, calm_State_partStep, calm_each, calm_State_engineStep, apply_ite State.calm, ite_self, implies_true, eq_self, calm_each]

theorem calm_State_cutBurn (s : State) : (State.cutBurn s).calm = s.calm := by
  unfold State.cutBurn
  repeat' (first | with_reducible rfl | (simp only [calm_State_used, calm_State_burn, apply_ite State.calm, apply_ite Prod.fst, ite_self, implies_true, eq_self, calm_foldl, calm_each, calm_when, calm_State_emit, calm_State_used]; done) | (simp only [calm_State_used, calm_State_burn, apply_ite State.calm, apply_ite Prod.fst, ite_self, implies_true, eq_self, calm_foldl, calm_each, calm_when, calm_State_emit, calm_State_used]) | split | (refine (calm_each _ _ _ (fun x t => ?_)).trans ?_) | (refine (calm_when _ _ _ (fun t => ?_)).trans ?_) | (refine (calm_foldl _ _ _ (fun t x => ?_)).trans ?_) | (rename_i h; refine (congrArg (fun x => State.calm (Prod.fst x)) h).symm.trans ?_; simp only [calm_State_used, calm_State_burn, apply_ite State.calm, apply_ite Prod.fst, ite_self, implies_true, eq_self, calm_foldl, calm_each, calm_when, calm_State_emit, calm_State_used]; done) | (refine (calm_foldFst _ _ _ (fun x k => ?_)).trans ?_) | intro x)

theorem calm_State_deriveKeys (s : State) : s.deriveKeys.calm = s.calm :=
  (calm_State_modAtt _ _).trans <| (calm_State_modKey _ _).trans <| (calm_State_fill ..).trans <| (calm_State_fill ..).trans <|
    (calm_State_fill ..).trans (calm_State_fill ..)

theorem calm_State_pressGoOn (s : State) : (State.pressGoOn s).calm = s.calm := by
  unfold State.pressGoOn
  repeat' (first | with_reducible rfl | (simp only [calm_State_modObs, apply_ite State.calm, apply_ite Prod.fst, ite_self, implies_true, eq_self, calm_foldl, calm_each, calm_when, calm_State_emit, calm_State_used]; done) | (simp only [calm_State_modObs, apply_ite State.calm, apply_ite Prod.fst, ite_self, implies_true, eq_self, calm_foldl, calm_each, calm_when, calm_State_emit, calm_State_used]) | split | (refine (calm_each _ _ _ (fun x t => ?_)).trans ?_) | (refine (calm_when _ _ _ (fun t => ?_)).trans ?_) | (refine (calm_foldl _ _ _ (fun t x => ?_)).trans ?_) | (rename_i h; refine (congrArg (fun x => State.calm (Prod.fst x)) h).symm.trans ?_; simp only [calm_State_modObs, apply_ite State.calm, apply_ite Prod.fst, ite_self, implies_true, eq_self, calm_foldl, calm_each, calm_when, calm_State_emit, calm_State_used]; done) | (refine (calm_foldFst _ _ _ (fun x k => ?_)).trans ?_) | intro x)

theorem calm_State_dropRecords (s : State) : (State.dropRecords s).calm = s.calm := by
  unfold State.dropRecords
  simp only [calm_State_modAtt, eq_self]

theorem calm_State_adopt (a1) (a2) (a3) (s : State) : (State.adopt a1 a2 a3 s).calm = s.calm := by
  unfold State.adopt
  simp only [calm_State_take, calm_each, calm_State_retireObj, calm_State_modObju, implies_true, eq_self, calm_each]

theorem calm_State_recordFails (a1) (a2) (s : State) : (State.recordFails a1 a2 s).calm = s.calm := by
  unfold State.recordFails
  simp only [calm_State_press, calm_State_eraseRecord, eq_self]

theorem calm_State_adoptAll (s : State) : (State.adoptAll s).calm = s.calm := by
  unfold State.adoptAll
  repeat' (first | with_reducible rfl | (simp only [calm_each, calm_State_take, calm_State_adopt, calm_State_recordFails, calm_State_setAnchor, calm_State_retire, calm_State_modKey, calm_State_modObju, apply_ite State.calm, apply_ite Prod.fst, ite_self, implies_true, eq_self, calm_foldl, calm_each, calm_when, calm_State_emit, calm_State_used]; done) | (simp only [calm_each, calm_State_take, calm_State_adopt, calm_State_recordFails, calm_State_setAnchor, calm_State_retire, calm_State_modKey, calm_State_modObju, apply_ite State.calm, apply_ite Prod.fst, ite_self, implies_true, eq_self, calm_foldl, calm_each, calm_when, calm_State_emit, calm_State_used]) | split | (refine (calm_each _ _ _ (fun x t => ?_)).trans ?_) | (refine (calm_when _ _ _ (fun t => ?_)).trans ?_) | (refine (calm_foldl _ _ _ (fun t x => ?_)).trans ?_) | (rename_i h; refine (congrArg (fun x => State.calm (Prod.fst x)) h).symm.trans ?_; simp only [calm_each, calm_State_take, calm_State_adopt, calm_State_recordFails, calm_State_setAnchor, calm_State_retire, calm_State_modKey, calm_State_modObju, apply_ite State.calm, apply_ite Prod.fst, ite_self, implies_true, eq_self, calm_foldl, calm_each, calm_when, calm_State_emit, calm_State_used]; done) | (refine (calm_foldFst _ _ _ (fun x k => ?_)).trans ?_) | intro x)

theorem calm_State_reassign (a1) (a2) (s : State) : (State.reassign a1 a2 s).calm = s.calm := by
  unfold State.reassign
  repeat' (first | with_reducible rfl | (simp only [calm_State_tryJoin, calm_State_assignNew, calm_State_recordFails, apply_ite State.calm, apply_ite Prod.fst, ite_self, implies_true, eq_self, calm_foldl, calm_each, calm_when, calm_State_emit, calm_State_used]; done) | (simp only [calm_State_tryJoin, calm_State_assignNew, calm_State_recordFails, apply_ite State.calm, apply_ite Prod.fst, ite_self, implies_true, eq_self, calm_foldl, calm_each, calm_when, calm_State_emit, calm_State_used]) | split | (refine (calm_each _ _ _ (fun x t => ?_)).trans ?_) | (refine (calm_when _ _ _ (fun t => ?_)).trans ?_) | (refine (calm_foldl _ _ _ (fun t x => ?_)).trans ?_) | (rename_i h; refine (congrArg (fun x => State.calm (Prod.fst x)) h).symm.trans ?_; simp only [calm_State_tryJoin, calm_State_assignNew, calm_State_recordFails, apply_ite State.calm, apply_ite Prod.fst, ite_self, implies_true, eq_self, calm_foldl, calm_each, calm_when, calm_State_emit, calm_State_used]; done) | (refine (calm_foldFst _ _ _ (fun x k => ?_)).trans ?_) | intro x)

theorem calm_State_coreWrite (a1) (a2) (s : State) (ha2 : ∀ t, State.calm (a2 t) = t.calm) : (State.coreWrite a1 a2 s).calm = s.calm := by
  unfold State.coreWrite
  simp only [calm_State_ctlWrite, ha2, apply_ite State.calm, ite_self, implies_true, eq_self]

theorem calm_State_badOpcode (a1) (a2) (s : State) : (State.badOpcode a1 a2 s).calm = s.calm := by
  unfold State.badOpcode
  simp only [calm_State_takePacket, calm_State_refuse, calm_State_reserve, apply_ite State.calm, ite_self, eq_self]

theorem calm_State_badRecord (a1) (a2) (a3) (a4) (s : State) : (State.badRecord a1 a2 a3 a4 s).calm = s.calm := by
  unfold State.badRecord
  simp only [calm_State_emit, calm_State_cntr, apply_ite State.calm, ite_self, eq_self, calm_State_emit]

theorem calm_State_plainWrite (a1) (a2) (s : State) : (State.plainWrite a1 a2 s).calm = s.calm := by
  unfold State.plainWrite
  repeat' (first | with_reducible rfl | (simp only [calm_State_setReg, calm_State_modRegf, calm_State_flag, apply_ite State.calm, apply_ite Prod.fst, ite_self, implies_true, eq_self, calm_foldl, calm_each, calm_when, calm_State_emit, calm_State_used]; done) | (simp only [calm_State_setReg, calm_State_modRegf, calm_State_flag, apply_ite State.calm, apply_ite Prod.fst, ite_self, implies_true, eq_self, calm_foldl, calm_each, calm_when, calm_State_emit, calm_State_used]) | split | (refine (calm_each _ _ _ (fun x t => ?_)).trans ?_) | (refine (calm_when _ _ _ (fun t => ?_)).trans ?_) | (refine (calm_foldl _ _ _ (fun t x => ?_)).trans ?_) | (rename_i h; refine (congrArg (fun x => State.calm (Prod.fst x)) h).symm.trans ?_; simp only [calm_State_setReg, calm_State_modRegf, calm_State_flag, apply_ite State.calm, apply_ite Prod.fst, ite_self, implies_true, eq_self, calm_foldl, calm_each, calm_when, calm_State_emit, calm_State_used]; done) | (refine (calm_foldFst _ _ _ (fun x k => ?_)).trans ?_) | intro x)

theorem calm_State_traceWrite (a1) (a2) (a3) (s : State) : (State.traceWrite a1 a2 a3 s).calm = s.calm := by
  unfold State.traceWrite
  repeat' (first | with_reducible rfl | (simp only [calm_State_modObs, apply_ite State.calm, apply_ite Prod.fst, ite_self, implies_true, eq_self, calm_foldl, calm_each, calm_when, calm_State_emit, calm_State_used]; done) | (simp only [calm_State_modObs, apply_ite State.calm, apply_ite Prod.fst, ite_self, implies_true, eq_self, calm_foldl, calm_each, calm_when, calm_State_emit, calm_State_used]) | split | (refine (calm_each _ _ _ (fun x t => ?_)).trans ?_) | (refine (calm_when _ _ _ (fun t => ?_)).trans ?_) | (refine (calm_foldl _ _ _ (fun t x => ?_)).trans ?_) | (rename_i h; refine (congrArg (fun x => State.calm (Prod.fst x)) h).symm.trans ?_; simp only [calm_State_modObs, apply_ite State.calm, apply_ite Prod.fst, ite_self, implies_true, eq_self, calm_foldl, calm_each, calm_when, calm_State_emit, calm_State_used]; done) | (refine (calm_foldFst _ _ _ (fun x k => ?_)).trans ?_) | intro x)

theorem calm_State_hqCfgWrite (a1) (a2) (s : State) : (State.hqCfgWrite a1 a2 s).calm = s.calm := by
  unfold State.hqCfgWrite
  simp only [calm_State_plainWrite, calm_State_hostQueueOpen, calm_State_hostQueueClose, apply_ite State.calm, ite_self, eq_self]

theorem calm_State_takeHeld (a1) (a2) (s : State) : (State.takeHeld a1 a2 s).1.calm = s.calm := by
  unfold State.takeHeld
  simp only [calm_State_modRegf, eq_self]

theorem calm_State_holdLo (a1) (a2) (a3) (s : State) : (State.holdLo a1 a2 a3 s).1.calm = s.calm := by
  unfold State.holdLo
  simp only [calm_State_flag, calm_State_takeHeld, calm_State_modRegf, apply_ite State.calm, apply_ite Prod.fst, ite_self, eq_self]

theorem calm_State_read32 (a1) (a2) (a3) (a4) (s : State) : (State.read32 a1 a2 a3 a4 s).1.calm = s.calm := by
  unfold State.read32
  repeat' (first | with_reducible rfl | (simp only [calm_when, calm_State_used, calm_State_modDt, calm_State_modRegf, apply_ite State.calm, apply_ite Prod.fst, ite_self, implies_true, eq_self, calm_foldl, calm_each, calm_when, calm_State_emit, calm_State_used]; done) | (simp only [calm_when, calm_State_used, calm_State_modDt, calm_State_modRegf, apply_ite State.calm, apply_ite Prod.fst, ite_self, implies_true, eq_self, calm_foldl, calm_each, calm_when, calm_State_emit, calm_State_used]) | split | (refine (calm_each _ _ _ (fun x t => ?_)).trans ?_) | (refine (calm_when _ _ _ (fun t => ?_)).trans ?_) | (refine (calm_foldl _ _ _ (fun t x => ?_)).trans ?_) | (rename_i h; refine (congrArg (fun x => State.calm (Prod.fst x)) h).symm.trans ?_; simp only [calm_when, calm_State_used, calm_State_modDt, calm_State_modRegf, apply_ite State.calm, apply_ite Prod.fst, ite_self, implies_true, eq_self, calm_foldl, calm_each, calm_when, calm_State_emit, calm_State_used]; done) | (refine (calm_foldFst _ _ _ (fun x k => ?_)).trans ?_) | intro x)

theorem calm_State_tickDt (s : State) : (State.tickDt s).calm = s.calm := by
  unfold State.tickDt
  simp only [calm_State_modDt, calm_each, calm_State_cntr, apply_ite State.calm, ite_self, implies_true, eq_self, calm_each]

theorem calm_State_tickBeat (a1) (s : State) : (State.tickBeat a1 s).calm = s.calm := by
  unfold State.tickBeat
  repeat' (first | with_reducible rfl | (simp only [calm_State_modPort, calm_State_modPtp, apply_ite State.calm, apply_ite Prod.fst, ite_self, implies_true, eq_self, calm_foldl, calm_each, calm_when, calm_State_emit, calm_State_used]; done) | (simp only [calm_State_modPort, calm_State_modPtp, apply_ite State.calm, apply_ite Prod.fst, ite_self, implies_true, eq_self, calm_foldl, calm_each, calm_when, calm_State_emit, calm_State_used]) | split | (refine (calm_each _ _ _ (fun x t => ?_)).trans ?_) | (refine (calm_when _ _ _ (fun t => ?_)).trans ?_) | (refine (calm_foldl _ _ _ (fun t x => ?_)).trans ?_) | (rename_i h; refine (congrArg (fun x => State.calm (Prod.fst x)) h).symm.trans ?_; simp only [calm_State_modPort, calm_State_modPtp, apply_ite State.calm, apply_ite Prod.fst, ite_self, implies_true, eq_self, calm_foldl, calm_each, calm_when, calm_State_emit, calm_State_used]; done) | (refine (calm_foldFst _ _ _ (fun x k => ?_)).trans ?_) | intro x)

theorem calm_State_tickPort (a1) (s : State) : (State.tickPort a1 s).calm = s.calm := by
  unfold State.tickPort
  simp only [calm_State_modPort, eq_self]

theorem calm_execObjAlloc (a1) (a2) (a3) (s : State) : ∀ t, execObjAlloc a1 a2 a3 s = .next t → t.calm = s.calm := by
  intro t h; unfold execObjAlloc at h
  rcases h
  repeat' (first | with_reducible rfl | (simp only [calm_State_admitCmd, calm_State_alloc, calm_State_ok, calm_State_endsWith, apply_ite State.calm, apply_ite Prod.fst, ite_self, implies_true, eq_self, calm_foldl, calm_each, calm_when, calm_State_emit, calm_State_used]; done) | (simp only [calm_State_admitCmd, calm_State_alloc, calm_State_ok, calm_State_endsWith, apply_ite State.calm, apply_ite Prod.fst, ite_self, implies_true, eq_self, calm_foldl, calm_each, calm_when, calm_State_emit, calm_State_used]) | split | (refine (calm_each _ _ _ (fun x t => ?_)).trans ?_) | (refine (calm_when _ _ _ (fun t => ?_)).trans ?_) | (refine (calm_foldl _ _ _ (fun t x => ?_)).trans ?_) | (rename_i h; refine (congrArg (fun x => State.calm (Prod.fst x)) h).symm.trans ?_; simp only [calm_State_admitCmd, calm_State_alloc, calm_State_ok, calm_State_endsWith, apply_ite State.calm, apply_ite Prod.fst, ite_self, implies_true, eq_self, calm_foldl, calm_each, calm_when, calm_State_emit, calm_State_used]; done) | (refine (calm_State_admitCmd _ _ _ _ _ (fun y0 t => ?_)).trans ?_) | intro x)

theorem calm_execObjFree (a1) (a2) (a3) (s : State) : ∀ t, execObjFree a1 a2 a3 s = .next t → t.calm = s.calm := by
  intro t h; unfold execObjFree at h
  rcases h
  simp only [calm_State_admitCmd, calm_State_modObj, implies_true, eq_self]

theorem calm_execFreeRetire (a1) (a2) (s : State) : ∀ t, execFreeRetire a1 a2 s = .next t → t.calm = s.calm := by
  intro t h; unfold execFreeRetire at h
  rcases h
  simp only [calm_State_retireObj, apply_ite State.calm, ite_self, eq_self]

theorem calm_execObjQuery (a1) (a2) (a3) (s : State) : ∀ t, execObjQuery a1 a2 a3 s = .next t → t.calm = s.calm := by
  intro t h; unfold execObjQuery at h
  rcases h
  simp only [calm_State_admitCmd, calm_State_ok, implies_true, eq_self]

theorem calm_execAllocDoorbell (a1) (a2) (a3) (a4) (a5) (s : State) : ∀ t, execAllocDoorbell a1 a2 a3 a4 a5 s = .next t → t.calm = s.calm := by
  intro t h; unfold execAllocDoorbell at h
  rcases h
  simp only [calm_State_portWrite, calm_State_adbSubmit, implies_true, eq_self]

theorem calm_execAllocDoorbellDone (a1) (a2) (s : State) : ∀ t, execAllocDoorbellDone a1 a2 s = .next t → t.calm = s.calm := by
  intro t h; unfold execAllocDoorbellDone at h
  rcases h
  repeat' (first | with_reducible rfl | (simp only [calm_State_setAdb, calm_State_alloc, apply_ite State.calm, apply_ite Prod.fst, ite_self, implies_true, eq_self, calm_foldl, calm_each, calm_when, calm_State_emit, calm_State_used]; done) | (simp only [calm_State_setAdb, calm_State_alloc, apply_ite State.calm, apply_ite Prod.fst, ite_self, implies_true, eq_self, calm_foldl, calm_each, calm_when, calm_State_emit, calm_State_used]) | split | (refine (calm_each _ _ _ (fun x t => ?_)).trans ?_) | (refine (calm_when _ _ _ (fun t => ?_)).trans ?_) | (refine (calm_foldl _ _ _ (fun t x => ?_)).trans ?_) | (rename_i h; refine (congrArg (fun x => State.calm (Prod.fst x)) h).symm.trans ?_; simp only [calm_State_setAdb, calm_State_alloc, apply_ite State.calm, apply_ite Prod.fst, ite_self, implies_true, eq_self, calm_foldl, calm_each, calm_when, calm_State_emit, calm_State_used]; done) | intro x)

theorem calm_execContextRestore (a1) (s : State) : ∀ t, execContextRestore a1 s = .next t → t.calm = s.calm := by
  intro t h; unfold execContextRestore at h
  rcases h
  simp only [calm_State_makeRoom, calm_State_innerRead, calm_State_touchCtx, calm_State_modCtx, calm_each, calm_State_faultTo, calm_State_modObju, apply_ite State.calm, apply_ite Prod.fst, ite_self, implies_true, eq_self, calm_each]

theorem calm_execCtxCreate (a1) (a2) (a3) (a4) (s : State) : ∀ t, execCtxCreate a1 a2 a3 a4 s = .next t → t.calm = s.calm := by
  intro t h; unfold execCtxCreate at h
  rcases h
  repeat' (first | with_reducible rfl | (simp only [calm_State_admitCmd, calm_State_makeRoom, calm_State_ok, calm_State_touchCtx, calm_State_modCtx, calm_State_alloc, calm_State_endsWith, apply_ite State.calm, apply_ite Prod.fst, ite_self, implies_true, eq_self, calm_foldl, calm_each, calm_when, calm_State_emit, calm_State_used]; done) | (simp only [calm_State_admitCmd, calm_State_makeRoom, calm_State_ok, calm_State_touchCtx, calm_State_modCtx, calm_State_alloc, calm_State_endsWith, apply_ite State.calm, apply_ite Prod.fst, ite_self, implies_true, eq_self, calm_foldl, calm_each, calm_when, calm_State_emit, calm_State_used]) | split | (refine (calm_each _ _ _ (fun x t => ?_)).trans ?_) | (refine (calm_when _ _ _ (fun t => ?_)).trans ?_) | (refine (calm_foldl _ _ _ (fun t x => ?_)).trans ?_) | (rename_i h; refine (congrArg (fun x => State.calm (Prod.fst x)) h).symm.trans ?_; simp only [calm_State_admitCmd, calm_State_makeRoom, calm_State_ok, calm_State_touchCtx, calm_State_modCtx, calm_State_alloc, calm_State_endsWith, apply_ite State.calm, apply_ite Prod.fst, ite_self, implies_true, eq_self, calm_foldl, calm_each, calm_when, calm_State_emit, calm_State_used]; done) | (refine (calm_State_admitCmd _ _ _ _ _ (fun y0 t => ?_)).trans ?_) | intro x)

theorem calm_execCtxDestroy (a1) (a2) (s : State) : ∀ t, execCtxDestroy a1 a2 s = .next t → t.calm = s.calm := by
  intro t h; unfold execCtxDestroy at h
  rcases h
  simp only [calm_State_admitWith, calm_State_modRst, calm_State_modObju, calm_State_modCtx, calm_State_drainCtx, calm_State_tilesFenced, calm_State_discardQueues, implies_true, eq_self]

theorem calm_execFenceCreate (a1) (a2) (s : State) : ∀ t, execFenceCreate a1 a2 s = .next t → t.calm = s.calm := by
  intro t h; unfold execFenceCreate at h
  rcases h
  simp only [calm_State_admitCmd, calm_State_setFence, calm_State_modObju, calm_State_ok, apply_ite State.calm, ite_self, implies_true, eq_self]

theorem calm_execFenceSignal (a1) (a2) (a3) (s : State) : ∀ t, execFenceSignal a1 a2 a3 s = .next t → t.calm = s.calm := by
  intro t h; unfold execFenceSignal at h
  rcases h
  simp only [calm_State_admitCmd, calm_State_ok, calm_State_signal, calm_finishing, implies_true, eq_self]

theorem calm_execFenceWait (a1) (a2) (s : State) : ∀ t, execFenceWait a1 a2 s = .next t → t.calm = s.calm := by
  intro t h; unfold execFenceWait at h
  rcases h
  simp only [calm_State_admitCmd, calm_State_modObju, calm_State_wake, calm_finishing, apply_ite State.calm, ite_self, implies_true, eq_self]

theorem calm_execFenceReset (a1) (a2) (s : State) : ∀ t, execFenceReset a1 a2 s = .next t → t.calm = s.calm := by
  intro t h; unfold execFenceReset at h
  rcases h
  simp only [calm_State_admitCmd, calm_State_setFence, calm_State_ok, calm_State_propagate, apply_ite State.calm, ite_self, implies_true, eq_self]

theorem calm_execFenceDestroy (a1) (a2) (s : State) : ∀ t, execFenceDestroy a1 a2 s = .next t → t.calm = s.calm := by
  intro t h; unfold execFenceDestroy at h
  rcases h
  simp only [calm_State_admitCmd, calm_State_ok, calm_State_destroyFence, implies_true, eq_self]

theorem calm_execFenceShare (a1) (a2) (a3) (s : State) : ∀ t, execFenceShare a1 a2 a3 s = .next t → t.calm = s.calm := by
  intro t h; unfold execFenceShare at h
  rcases h
  simp only [calm_State_admitWith, calm_State_ok, calm_State_setFence, apply_ite State.calm, ite_self, implies_true, eq_self]

theorem calm_execFaultQueueDoorbell (a1) (a2) (a3) (s : State) : ∀ t, execFaultQueueDoorbell a1 a2 a3 s = .next t → t.calm = s.calm := by
  intro t h; unfold execFaultQueueDoorbell at h
  rcases h
  simp only [calm_State_portWrite, calm_State_fqWrite, apply_ite State.calm, ite_self, implies_true, eq_self]

theorem calm_execMnRead (q) (flips) (ecc) (s : State) : ∀ t, execMnRead q flips ecc s = .next t → t.calm = s.calm := by
  intro t h; cases h
  split
  · rfl
  · have g := (calm_State_mnGate q (decide (q.op = 0) && lenOk q) (s.upset q.addr q.group flips)).trans (calm_State_upset ..)
    split <;> rename_i heq <;> rw [heq] at g <;> refine Eq.trans ?_ g
    · exact calm_State_mnNo ..
    · exact calm_State_msRead ..
    · exact calm_State_reachMn ..

theorem calm_execMnWrite (q) (data) (be) (flips) (ecc) (s : State) : ∀ t, execMnWrite q data be flips ecc s = .next t → t.calm = s.calm := by
  intro t h; cases h
  split
  · rfl
  · have g := (calm_State_mnGate q (decide (q.op = 1) && lenOk q && decide (be.toNat < 2 ^ (64 * (q.len + 1)))) (s.upset q.addr q.group flips)).trans (calm_State_upset ..)
    split <;> rename_i heq <;> rw [heq] at g <;> refine Eq.trans ?_ g
    · exact calm_State_mnNo ..
    · exact calm_State_passWrite ..
    · exact calm_State_reachMn ..

theorem calm_execMnScalarAtomic (a1) (a2) (a3) (a4) (a5) (s : State) : ∀ t, execMnScalarAtomic a1 a2 a3 a4 a5 s = .next t → t.calm = s.calm := by
  intro t h; unfold execMnScalarAtomic at h
  rcases h
  repeat' (first | with_reducible rfl | (simp only [calm_State_mnGate, calm_State_upset, calm_State_mnNo, calm_State_arith, apply_ite State.calm, apply_ite Prod.fst, ite_self, implies_true, eq_self, calm_foldl, calm_each, calm_when, calm_State_emit, calm_State_used]; done) | (simp only [calm_State_mnGate, calm_State_upset, calm_State_mnNo, calm_State_arith, apply_ite State.calm, apply_ite Prod.fst, ite_self, implies_true, eq_self, calm_foldl, calm_each, calm_when, calm_State_emit, calm_State_used]) | split | (refine (calm_each _ _ _ (fun x t => ?_)).trans ?_) | (refine (calm_when _ _ _ (fun t => ?_)).trans ?_) | (refine (calm_foldl _ _ _ (fun t x => ?_)).trans ?_) | (rename_i h; refine (congrArg (fun x => State.calm (Prod.fst x)) h).symm.trans ?_; simp only [calm_State_mnGate, calm_State_upset, calm_State_mnNo, calm_State_arith, apply_ite State.calm, apply_ite Prod.fst, ite_self, implies_true, eq_self, calm_foldl, calm_each, calm_when, calm_State_emit, calm_State_used]; done) | intro x)

theorem calm_execMnVectorAccumulate (a1) (a2) (a3) (a4) (a5) (s : State) : ∀ t, execMnVectorAccumulate a1 a2 a3 a4 a5 s = .next t → t.calm = s.calm := by
  intro t h; unfold execMnVectorAccumulate at h
  rcases h
  repeat' (first | with_reducible rfl | (simp only [calm_State_mnGate, calm_State_upset, calm_State_mnNo, calm_State_arith, apply_ite State.calm, apply_ite Prod.fst, ite_self, implies_true, eq_self, calm_foldl, calm_each, calm_when, calm_State_emit, calm_State_used]; done) | (simp only [calm_State_mnGate, calm_State_upset, calm_State_mnNo, calm_State_arith, apply_ite State.calm, apply_ite Prod.fst, ite_self, implies_true, eq_self, calm_foldl, calm_each, calm_when, calm_State_emit, calm_State_used]) | split | (refine (calm_each _ _ _ (fun x t => ?_)).trans ?_) | (refine (calm_when _ _ _ (fun t => ?_)).trans ?_) | (refine (calm_foldl _ _ _ (fun t x => ?_)).trans ?_) | (rename_i h; refine (congrArg (fun x => State.calm (Prod.fst x)) h).symm.trans ?_; simp only [calm_State_mnGate, calm_State_upset, calm_State_mnNo, calm_State_arith, apply_ite State.calm, apply_ite Prod.fst, ite_self, implies_true, eq_self, calm_foldl, calm_each, calm_when, calm_State_emit, calm_State_used]; done) | intro x)

theorem calm_execMsReadResponse (a1) (a2) (a3) (a4) (a5) (a6) (s : State) : ∀ t, execMsReadResponse a1 a2 a3 a4 a5 a6 s = .next t → t.calm = s.calm := by
  intro t h; unfold execMsReadResponse at h
  rcases h
  repeat' (first | with_reducible rfl | (simp only [calm_State_modSg, calm_when, calm_State_msNext, calm_State_emit, calm_State_flow, calm_State_lineHere, calm_State_setAcc, apply_ite State.calm, apply_ite Prod.fst, ite_self, implies_true, eq_self, calm_foldl, calm_each, calm_when, calm_State_emit, calm_State_used]; done) | (simp only [calm_State_modSg, calm_when, calm_State_msNext, calm_State_emit, calm_State_flow, calm_State_lineHere, calm_State_setAcc, apply_ite State.calm, apply_ite Prod.fst, ite_self, implies_true, eq_self, calm_foldl, calm_each, calm_when, calm_State_emit, calm_State_used]) | split | (refine (calm_each _ _ _ (fun x t => ?_)).trans ?_) | (refine (calm_when _ _ _ (fun t => ?_)).trans ?_) | (refine (calm_foldl _ _ _ (fun t x => ?_)).trans ?_) | (rename_i h; refine (congrArg (fun x => State.calm (Prod.fst x)) h).symm.trans ?_; simp only [calm_State_modSg, calm_when, calm_State_msNext, calm_State_emit, calm_State_flow, calm_State_lineHere, calm_State_setAcc, apply_ite State.calm, apply_ite Prod.fst, ite_self, implies_true, eq_self, calm_foldl, calm_each, calm_when, calm_State_emit, calm_State_used]; done) | intro x)

theorem calm_execMsWriteAck (a1) (a2) (a3) (s : State) : ∀ t, execMsWriteAck a1 a2 a3 s = .next t → t.calm = s.calm := by
  intro t h; unfold execMsWriteAck at h
  rcases h
  repeat' (first | with_reducible rfl | (simp only [calm_State_msNext, calm_State_modSg, calm_State_mnNoData, apply_ite State.calm, apply_ite Prod.fst, ite_self, implies_true, eq_self, calm_foldl, calm_each, calm_when, calm_State_emit, calm_State_used]; done) | (simp only [calm_State_msNext, calm_State_modSg, calm_State_mnNoData, apply_ite State.calm, apply_ite Prod.fst, ite_self, implies_true, eq_self, calm_foldl, calm_each, calm_when, calm_State_emit, calm_State_used]) | split | (refine (calm_each _ _ _ (fun x t => ?_)).trans ?_) | (refine (calm_when _ _ _ (fun t => ?_)).trans ?_) | (refine (calm_foldl _ _ _ (fun t x => ?_)).trans ?_) | (rename_i h; refine (congrArg (fun x => State.calm (Prod.fst x)) h).symm.trans ?_; simp only [calm_State_msNext, calm_State_modSg, calm_State_mnNoData, apply_ite State.calm, apply_ite Prod.fst, ite_self, implies_true, eq_self, calm_foldl, calm_each, calm_when, calm_State_emit, calm_State_used]; done) | intro x)

theorem calm_execSectorLockGrant (a1) (s : State) : ∀ t, execSectorLockGrant a1 s = .next t → t.calm = s.calm := by
  intro t h; unfold execSectorLockGrant at h
  rcases h
  repeat' (first | with_reducible rfl | (simp only [calm_State_flow, calm_State_issue, calm_State_used, calm_State_cntr, apply_ite State.calm, apply_ite Prod.fst, ite_self, implies_true, eq_self, calm_foldl, calm_each, calm_when, calm_State_emit, calm_State_used]; done) | (simp only [calm_State_flow, calm_State_issue, calm_State_used, calm_State_cntr, apply_ite State.calm, apply_ite Prod.fst, ite_self, implies_true, eq_self, calm_foldl, calm_each, calm_when, calm_State_emit, calm_State_used]) | split | (refine (calm_each _ _ _ (fun x t => ?_)).trans ?_) | (refine (calm_when _ _ _ (fun t => ?_)).trans ?_) | (refine (calm_foldl _ _ _ (fun t x => ?_)).trans ?_) | (rename_i h; refine (congrArg (fun x => State.calm (Prod.fst x)) h).symm.trans ?_; simp only [calm_State_flow, calm_State_issue, calm_State_used, calm_State_cntr, apply_ite State.calm, apply_ite Prod.fst, ite_self, implies_true, eq_self, calm_foldl, calm_each, calm_when, calm_State_emit, calm_State_used]; done) | intro x)

theorem calm_execAnchorPatrol (a1) (a2) (s : State) : ∀ t, execAnchorPatrol a1 a2 s = .next t → t.calm = s.calm := by
  intro t h; unfold execAnchorPatrol at h
  rcases h
  simp only [calm_State_useAnchor, calm_State_setAnchor, calm_State_flow, calm_State_wiltRegion, apply_ite State.calm, ite_self, eq_self]

theorem calm_execAnchorRestore (a1) (s : State) : ∀ t, execAnchorRestore a1 s = .next t → t.calm = s.calm := by
  intro t h; unfold execAnchorRestore at h
  rcases h
  repeat' (first | with_reducible rfl | (simp only [calm_State_setAnchor, apply_ite State.calm, apply_ite Prod.fst, ite_self, implies_true, eq_self, calm_foldl, calm_each, calm_when, calm_State_emit, calm_State_used]; done) | (simp only [calm_State_setAnchor, apply_ite State.calm, apply_ite Prod.fst, ite_self, implies_true, eq_self, calm_foldl, calm_each, calm_when, calm_State_emit, calm_State_used]) | split | (refine (calm_each _ _ _ (fun x t => ?_)).trans ?_) | (refine (calm_when _ _ _ (fun t => ?_)).trans ?_) | (refine (calm_foldl _ _ _ (fun t x => ?_)).trans ?_) | (rename_i h; refine (congrArg (fun x => State.calm (Prod.fst x)) h).symm.trans ?_; simp only [calm_State_setAnchor, apply_ite State.calm, apply_ite Prod.fst, ite_self, implies_true, eq_self, calm_foldl, calm_each, calm_when, calm_State_emit, calm_State_used]; done) | intro x)

theorem calm_execMergeIdleWriteBack (a1) (a2) (a3) (s : State) : ∀ t, execMergeIdleWriteBack a1 a2 a3 s = .next t → t.calm = s.calm := by
  intro t h; unfold execMergeIdleWriteBack at h
  rcases h
  repeat' (first | with_reducible rfl | (simp only [calm_State_flow, calm_State_saHalt, calm_State_mismatch, calm_State_backEntry, apply_ite State.calm, apply_ite Prod.fst, ite_self, implies_true, eq_self, calm_foldl, calm_each, calm_when, calm_State_emit, calm_State_used]; done) | (simp only [calm_State_flow, calm_State_saHalt, calm_State_mismatch, calm_State_backEntry, apply_ite State.calm, apply_ite Prod.fst, ite_self, implies_true, eq_self, calm_foldl, calm_each, calm_when, calm_State_emit, calm_State_used]) | split | (refine (calm_each _ _ _ (fun x t => ?_)).trans ?_) | (refine (calm_when _ _ _ (fun t => ?_)).trans ?_) | (refine (calm_foldl _ _ _ (fun t x => ?_)).trans ?_) | (rename_i h; refine (congrArg (fun x => State.calm (Prod.fst x)) h).symm.trans ?_; simp only [calm_State_flow, calm_State_saHalt, calm_State_mismatch, calm_State_backEntry, apply_ite State.calm, apply_ite Prod.fst, ite_self, implies_true, eq_self, calm_foldl, calm_each, calm_when, calm_State_emit, calm_State_used]; done) | intro x)

theorem calm_execSessionSetupStart (a1) (a2) (s : State) : ∀ t, execSessionSetupStart a1 a2 s = .next t → t.calm = s.calm := by
  intro t h; unfold execSessionSetupStart at h
  rcases h
  simp only [calm_State_setup, apply_ite State.calm, ite_self, eq_self]

theorem calm_execSessionSetupTimeout (a1) (a2) (s : State) : ∀ t, execSessionSetupTimeout a1 a2 s = .next t → t.calm = s.calm := by
  intro t h; unfold execSessionSetupTimeout at h
  rcases h
  simp only [calm_State_setupFails, apply_ite State.calm, ite_self, eq_self]

theorem calm_execSessionRetryBackoff (a1) (a2) (s : State) : ∀ t, execSessionRetryBackoff a1 a2 s = .next t → t.calm = s.calm := by
  intro t h; unfold execSessionRetryBackoff at h
  rcases h
  simp only [calm_State_modSess, calm_State_setup, apply_ite State.calm, ite_self, eq_self]

theorem calm_execOpenRx (a1) (a2) (s : State) : ∀ t, execOpenRx a1 a2 s = .next t → t.calm = s.calm := by
  intro t h; unfold execOpenRx at h
  rcases h
  simp only [calm_State_rx, calm_State_applyOpen, implies_true, eq_self]

theorem calm_execCloseRx (a1) (a2) (a3) (s : State) : ∀ t, execCloseRx a1 a2 a3 s = .next t → t.calm = s.calm := by
  intro t h; unfold execCloseRx at h
  rcases h
  simp only [calm_State_rx, calm_State_applyClose, implies_true, eq_self]

theorem calm_execClosingTimeout (a1) (a2) (s : State) : ∀ t, execClosingTimeout a1 a2 s = .next t → t.calm = s.calm := by
  intro t h; unfold execClosingTimeout at h
  rcases h
  simp only [calm_State_sessDown, apply_ite State.calm, ite_self, eq_self]

theorem calm_execLnkEnable (a1) (a2) (s : State) : ∀ t, execLnkEnable a1 a2 s = .next t → t.calm = s.calm := by
  intro t h; unfold execLnkEnable at h
  rcases h
  simp only [calm_State_ctlWrite, calm_State_lnkWrite, implies_true, eq_self]

theorem calm_execLnkDisable (a1) (a2) (s : State) : ∀ t, execLnkDisable a1 a2 s = .next t → t.calm = s.calm := by
  intro t h; unfold execLnkDisable at h
  rcases h
  simp only [calm_State_ctlWrite, calm_State_lnkWrite, implies_true, eq_self]

theorem calm_execFpLinkUpRise (a1) (s : State) : ∀ t, execFpLinkUpRise a1 s = .next t → t.calm = s.calm := by
  intro t h; unfold execFpLinkUpRise at h
  rcases h
  simp only [calm_State_modPins, calm_State_setup, apply_ite State.calm, ite_self, eq_self]

theorem calm_execFpLinkUpFall (a1) (s : State) : ∀ t, execFpLinkUpFall a1 s = .next t → t.calm = s.calm := by
  intro t h; unfold execFpLinkUpFall at h
  rcases h
  simp only [calm_State_sessDown, calm_State_modPins, calm_State_modPort, calm_each, calm_State_modSess, apply_ite State.calm, ite_self, implies_true, eq_self, calm_each]

theorem calm_execKeepaliveTx (a1) (a2) (s : State) : ∀ t, execKeepaliveTx a1 a2 s = .next t → t.calm = s.calm := by
  intro t h; unfold execKeepaliveTx at h
  rcases h
  simp only [calm_State_enqueue, apply_ite State.calm, ite_self, eq_self]

theorem calm_execKeepaliveRx (a1) (a2) (a3) (s : State) : ∀ t, execKeepaliveRx a1 a2 a3 s = .next t → t.calm = s.calm := by
  intro t h; unfold execKeepaliveRx at h
  rcases h
  simp only [calm_State_rx, implies_true, eq_self]

theorem calm_execKeepaliveTimeout (a1) (a2) (s : State) : ∀ t, execKeepaliveTimeout a1 a2 s = .next t → t.calm = s.calm := by
  intro t h; unfold execKeepaliveTimeout at h
  rcases h
  simp only [calm_each, calm_State_modSess, calm_State_sessDown, calm_State_raiseLost, apply_ite State.calm, ite_self, implies_true, eq_self, calm_each]

theorem calm_execMemberLostNoticeRx (a1) (a2) (a3) (a4) (s : State) : ∀ t, execMemberLostNoticeRx a1 a2 a3 a4 s = .next t → t.calm = s.calm := by
  intro t h; unfold execMemberLostNoticeRx at h
  rcases h
  simp only [calm_State_rx, calm_State_applyLost, implies_true, eq_self]

theorem calm_execDomainFenceSignalRx (a1) (a2) (a3) (a4) (a5) (a6) (a7) (a8) (s : State) : ∀ t, execDomainFenceSignalRx a1 a2 a3 a4 a5 a6 a7 a8 s = .next t → t.calm = s.calm := by
  intro t h; unfold execDomainFenceSignalRx at h
  rcases h
  simp only [calm_State_rx, calm_State_applyFence, implies_true, eq_self]

theorem calm_execFrameRxDiscard (a1) (a2) (s : State) : ∀ t, execFrameRxDiscard a1 a2 s = .next t → t.calm = s.calm := by
  intro t h; unfold execFrameRxDiscard at h
  rcases h
  repeat' (first | with_reducible rfl | (simp only [calm_State_rxAccept, calm_State_ptpIgnore, apply_ite State.calm, apply_ite Prod.fst, ite_self, implies_true, eq_self, calm_foldl, calm_each, calm_when, calm_State_emit, calm_State_used]; done) | (simp only [calm_State_rxAccept, calm_State_ptpIgnore, apply_ite State.calm, apply_ite Prod.fst, ite_self, implies_true, eq_self, calm_foldl, calm_each, calm_when, calm_State_emit, calm_State_used]) | split | (refine (calm_each _ _ _ (fun x t => ?_)).trans ?_) | (refine (calm_when _ _ _ (fun t => ?_)).trans ?_) | (refine (calm_foldl _ _ _ (fun t x => ?_)).trans ?_) | (rename_i h; refine (congrArg (fun x => State.calm (Prod.fst x)) h).symm.trans ?_; simp only [calm_State_rxAccept, calm_State_ptpIgnore, apply_ite State.calm, apply_ite Prod.fst, ite_self, implies_true, eq_self, calm_foldl, calm_each, calm_when, calm_State_emit, calm_State_used]; done) | intro x)

theorem calm_execFlowEntryTimeout (a1) (a2) (s : State) : ∀ t, execFlowEntryTimeout a1 a2 s = .next t → t.calm = s.calm := by
  intro t h; unfold execFlowEntryTimeout at h
  rcases h
  simp only [calm_State_flowLess, eq_self]

theorem calm_execFlowEntryGrant (a1) (s : State) : ∀ t, execFlowEntryGrant a1 s = .next t → t.calm = s.calm := by
  intro t h; unfold execFlowEntryGrant at h
  rcases h
  simp only [calm_State_modPort, apply_ite State.calm, ite_self, eq_self]

theorem calm_execFrameSeal (a1) (s : State) : ∀ t, execFrameSeal a1 s = .next t → t.calm = s.calm := by
  intro t h; unfold execFrameSeal at h
  rcases h
  repeat' (first | with_reducible rfl | (simp only [calm_State_refill, calm_State_sealPick, apply_ite State.calm, apply_ite Prod.fst, ite_self, implies_true, eq_self, calm_foldl, calm_each, calm_when, calm_State_emit, calm_State_used]; done) | (simp only [calm_State_refill, calm_State_sealPick, apply_ite State.calm, apply_ite Prod.fst, ite_self, implies_true, eq_self, calm_foldl, calm_each, calm_when, calm_State_emit, calm_State_used]) | split | (refine (calm_each _ _ _ (fun x t => ?_)).trans ?_) | (refine (calm_when _ _ _ (fun t => ?_)).trans ?_) | (refine (calm_foldl _ _ _ (fun t x => ?_)).trans ?_) | (rename_i h; refine (congrArg (fun x => State.calm (Prod.fst x)) h).symm.trans ?_; simp only [calm_State_refill, calm_State_sealPick, apply_ite State.calm, apply_ite Prod.fst, ite_self, implies_true, eq_self, calm_foldl, calm_each, calm_when, calm_State_emit, calm_State_used]; done) | intro x)

theorem calm_execCoverSlot (a1) (s : State) : ∀ t, execCoverSlot a1 s = .next t → t.calm = s.calm := by
  intro t h; unfold execCoverSlot at h
  rcases h
  repeat' (first | with_reducible rfl | (simp only [calm_State_refill, calm_State_sealPick, calm_State_glob, calm_State_sealFrame, calm_State_modPort, apply_ite State.calm, apply_ite Prod.fst, ite_self, implies_true, eq_self, calm_foldl, calm_each, calm_when, calm_State_emit, calm_State_used]; done) | (simp only [calm_State_refill, calm_State_sealPick, calm_State_glob, calm_State_sealFrame, calm_State_modPort, apply_ite State.calm, apply_ite Prod.fst, ite_self, implies_true, eq_self, calm_foldl, calm_each, calm_when, calm_State_emit, calm_State_used]) | split | (refine (calm_each _ _ _ (fun x t => ?_)).trans ?_) | (refine (calm_when _ _ _ (fun t => ?_)).trans ?_) | (refine (calm_foldl _ _ _ (fun t x => ?_)).trans ?_) | (rename_i h; refine (congrArg (fun x => State.calm (Prod.fst x)) h).symm.trans ?_; simp only [calm_State_refill, calm_State_sealPick, calm_State_glob, calm_State_sealFrame, calm_State_modPort, apply_ite State.calm, apply_ite Prod.fst, ite_self, implies_true, eq_self, calm_foldl, calm_each, calm_when, calm_State_emit, calm_State_used]; done) | intro x)

theorem calm_execTxStall (a1) (s : State) : ∀ t, execTxStall a1 s = .next t → t.calm = s.calm := by
  intro t h; unfold execTxStall at h
  rcases h
  simp only [calm_State_flag, calm_State_modPort, apply_ite State.calm, ite_self, eq_self]

theorem calm_execFrameEnqueue (a1) (a2) (s : State) : ∀ t, execFrameEnqueue a1 a2 s = .next t → t.calm = s.calm := by
  intro t h; unfold execFrameEnqueue at h
  rcases h
  simp only [calm_State_enqueue, apply_ite State.calm, ite_self, eq_self]

theorem calm_execEpochCountLimit (a1) (a2) (s : State) : ∀ t, execEpochCountLimit a1 a2 s = .next t → t.calm = s.calm := by
  intro t h; unfold execEpochCountLimit at h
  rcases h
  simp only [calm_State_epochChange, apply_ite State.calm, ite_self, eq_self]

theorem calm_execEpochChangeDeferred (a1) (a2) (s : State) : ∀ t, execEpochChangeDeferred a1 a2 s = .next t → t.calm = s.calm := by
  intro t h; unfold execEpochChangeDeferred at h
  rcases h
  simp only [calm_State_epochMove, apply_ite State.calm, ite_self, eq_self]

theorem calm_execRxEpochRetire (a1) (a2) (s : State) : ∀ t, execRxEpochRetire a1 a2 s = .next t → t.calm = s.calm := by
  intro t h; unfold execRxEpochRetire at h
  rcases h
  simp only [calm_State_nextSecret, calm_State_modSess, apply_ite State.calm, ite_self, eq_self]

theorem calm_execFrameRoute (a1) (a2) (a3) (s : State) : ∀ t, execFrameRoute a1 a2 a3 s = .next t → t.calm = s.calm := by
  intro t h; unfold execFrameRoute at h
  rcases h
  simp only [calm_State_rx, calm_State_applyRoute, apply_ite State.calm, ite_self, implies_true, eq_self]

theorem calm_execRatomic (a1) (a2) (a3) (a4) (a5) (a6) (a7) (a8) (a9) (s : State) : ∀ t, execRatomic a1 a2 a3 a4 a5 a6 a7 a8 a9 s = .next t → t.calm = s.calm := by
  intro t h; unfold execRatomic at h
  rcases h
  simp only [calm_State_admitWith, calm_State_cntr, calm_State_newOp, calm_State_takeTxid, implies_true, eq_self]

theorem calm_execRaccum (a1) (a2) (a3) (a4) (a5) (a6) (a7) (a8) (a9) (a10) (a11) (a12) (s : State) : ∀ t, execRaccum a1 a2 a3 a4 a5 a6 a7 a8 a9 a10 a11 a12 s = .next t → t.calm = s.calm := by
  intro t h; unfold execRaccum at h
  rcases h
  simp only [calm_State_admitWith, calm_State_srcRead, calm_State_cntr, calm_State_newOp, calm_State_takeTxid, calm_State_endsWith, apply_ite State.calm, ite_self, implies_true, eq_self]

theorem calm_execOutcomeQuery (a1) (a2) (a3) (a4) (s : State) : ∀ t, execOutcomeQuery a1 a2 a3 a4 s = .next t → t.calm = s.calm := by
  intro t h; unfold execOutcomeQuery at h
  rcases h
  simp only [calm_State_admitCmd, calm_State_newOp, implies_true, eq_self]

theorem calm_execRatomicRetry (a1) (a2) (s : State) : ∀ t, execRatomicRetry a1 a2 s = .next t → t.calm = s.calm := by
  intro t h; unfold execRatomicRetry at h
  rcases h
  repeat' (first | with_reducible rfl | (simp only [calm_State_sendOp, apply_ite State.calm, apply_ite Prod.fst, ite_self, implies_true, eq_self, calm_foldl, calm_each, calm_when, calm_State_emit, calm_State_used]; done) | (simp only [calm_State_sendOp, apply_ite State.calm, apply_ite Prod.fst, ite_self, implies_true, eq_self, calm_foldl, calm_each, calm_when, calm_State_emit, calm_State_used]) | split | (refine (calm_each _ _ _ (fun x t => ?_)).trans ?_) | (refine (calm_when _ _ _ (fun t => ?_)).trans ?_) | (refine (calm_foldl _ _ _ (fun t x => ?_)).trans ?_) | (rename_i h; refine (congrArg (fun x => State.calm (Prod.fst x)) h).symm.trans ?_; simp only [calm_State_sendOp, apply_ite State.calm, apply_ite Prod.fst, ite_self, implies_true, eq_self, calm_foldl, calm_each, calm_when, calm_State_emit, calm_State_used]; done) | intro x)

theorem calm_execRatomicDeadline (a1) (a2) (s : State) : ∀ t, execRatomicDeadline a1 a2 s = .next t → t.calm = s.calm := by
  intro t h; unfold execRatomicDeadline at h
  rcases h
  repeat' (first | with_reducible rfl | (simp only [calm_State_keepPast, calm_State_finishOp, apply_ite State.calm, apply_ite Prod.fst, ite_self, implies_true, eq_self, calm_foldl, calm_each, calm_when, calm_State_emit, calm_State_used]; done) | (simp only [calm_State_keepPast, calm_State_finishOp, apply_ite State.calm, apply_ite Prod.fst, ite_self, implies_true, eq_self, calm_foldl, calm_each, calm_when, calm_State_emit, calm_State_used]) | split | (refine (calm_each _ _ _ (fun x t => ?_)).trans ?_) | (refine (calm_when _ _ _ (fun t => ?_)).trans ?_) | (refine (calm_foldl _ _ _ (fun t x => ?_)).trans ?_) | (rename_i h; refine (congrArg (fun x => State.calm (Prod.fst x)) h).symm.trans ?_; simp only [calm_State_keepPast, calm_State_finishOp, apply_ite State.calm, apply_ite Prod.fst, ite_self, implies_true, eq_self, calm_foldl, calm_each, calm_when, calm_State_emit, calm_State_used]; done) | intro x)

theorem calm_execOutcomeQueryResend (a1) (a2) (s : State) : ∀ t, execOutcomeQueryResend a1 a2 s = .next t → t.calm = s.calm := by
  intro t h; unfold execOutcomeQueryResend at h
  rcases h
  repeat' (first | with_reducible rfl | (simp only [calm_State_keepPast, calm_State_finishOp, calm_State_sendOp, calm_State_modRem, apply_ite State.calm, apply_ite Prod.fst, ite_self, implies_true, eq_self, calm_foldl, calm_each, calm_when, calm_State_emit, calm_State_used]; done) | (simp only [calm_State_keepPast, calm_State_finishOp, calm_State_sendOp, calm_State_modRem, apply_ite State.calm, apply_ite Prod.fst, ite_self, implies_true, eq_self, calm_foldl, calm_each, calm_when, calm_State_emit, calm_State_used]) | split | (refine (calm_each _ _ _ (fun x t => ?_)).trans ?_) | (refine (calm_when _ _ _ (fun t => ?_)).trans ?_) | (refine (calm_foldl _ _ _ (fun t x => ?_)).trans ?_) | (rename_i h; refine (congrArg (fun x => State.calm (Prod.fst x)) h).symm.trans ?_; simp only [calm_State_keepPast, calm_State_finishOp, calm_State_sendOp, calm_State_modRem, apply_ite State.calm, apply_ite Prod.fst, ite_self, implies_true, eq_self, calm_foldl, calm_each, calm_when, calm_State_emit, calm_State_used]; done) | intro x)

theorem calm_execRatomicReplyRx (a1) (a2) (s : State) : ∀ t, execRatomicReplyRx a1 a2 s = .next t → t.calm = s.calm := by
  intro t h; unfold execRatomicReplyRx at h
  rcases h
  repeat' (first | with_reducible rfl | (simp only [calm_State_rx, calm_State_unlessBreach, calm_State_applyReply, apply_ite State.calm, apply_ite Prod.fst, ite_self, implies_true, eq_self, calm_foldl, calm_each, calm_when, calm_State_emit, calm_State_used]; done) | (simp only [calm_State_rx, calm_State_unlessBreach, calm_State_applyReply, apply_ite State.calm, apply_ite Prod.fst, ite_self, implies_true, eq_self, calm_foldl, calm_each, calm_when, calm_State_emit, calm_State_used]) | split | (refine (calm_each _ _ _ (fun x t => ?_)).trans ?_) | (refine (calm_when _ _ _ (fun t => ?_)).trans ?_) | (refine (calm_foldl _ _ _ (fun t x => ?_)).trans ?_) | (rename_i h; refine (congrArg (fun x => State.calm (Prod.fst x)) h).symm.trans ?_; simp only [calm_State_rx, calm_State_unlessBreach, calm_State_applyReply, apply_ite State.calm, apply_ite Prod.fst, ite_self, implies_true, eq_self, calm_foldl, calm_each, calm_when, calm_State_emit, calm_State_used]; done) | (refine (calm_State_rx _ _ _ _ _ (fun y0 t => ?_)).trans ?_) | (refine (calm_State_unlessBreach _ _ _ _ (fun t => ?_)).trans ?_) | intro x)

theorem calm_execRatomicRequestRx (a1) (a2) (a3) (s : State) : ∀ t, execRatomicRequestRx a1 a2 a3 s = .next t → t.calm = s.calm := by
  intro t h; unfold execRatomicRequestRx at h
  rcases h
  simp only [calm_State_rx, calm_State_applyAtomic, implies_true, eq_self]

theorem calm_execOutcomeQueryRx (a1) (a2) (s : State) : ∀ t, execOutcomeQueryRx a1 a2 s = .next t → t.calm = s.calm := by
  intro t h; unfold execOutcomeQueryRx at h
  rcases h
  simp only [calm_State_rx, calm_State_applyQuery, implies_true, eq_self]

theorem calm_execMemoEntryExpire (a1) (a2) (a3) (s : State) : ∀ t, execMemoEntryExpire a1 a2 a3 s = .next t → t.calm = s.calm := by
  intro t h; unfold execMemoEntryExpire at h
  rcases h
  simp only [calm_State_modRem, apply_ite State.calm, ite_self, eq_self]

theorem calm_execRemoteRwRequestRx (a1) (a2) (s : State) : ∀ t, execRemoteRwRequestRx a1 a2 s = .next t → t.calm = s.calm := by
  intro t h; unfold execRemoteRwRequestRx at h
  rcases h
  simp only [calm_State_rx, calm_State_applyRw, implies_true, eq_self]

theorem calm_execReduceContrib (a1) (a2) (a3) (a4) (a5) (a6) (a7) (a8) (a9) (s : State) : ∀ t, execReduceContrib a1 a2 a3 a4 a5 a6 a7 a8 a9 s = .next t → t.calm = s.calm := by
  intro t h; unfold execReduceContrib at h
  rcases h
  simp only [calm_State_admitWith, calm_State_srcRead, calm_State_traceContrib, calm_State_sendContrib, calm_State_modRem, calm_State_endsWith, apply_ite State.calm, ite_self, implies_true, eq_self]

theorem calm_execContributionResend (a1) (a2) (a3) (a4) (s : State) : ∀ t, execContributionResend a1 a2 a3 a4 s = .next t → t.calm = s.calm := by
  intro t h; unfold execContributionResend at h
  rcases h
  repeat' (first | with_reducible rfl | (simp only [calm_State_sendContrib, apply_ite State.calm, apply_ite Prod.fst, ite_self, implies_true, eq_self, calm_foldl, calm_each, calm_when, calm_State_emit, calm_State_used]; done) | (simp only [calm_State_sendContrib, apply_ite State.calm, apply_ite Prod.fst, ite_self, implies_true, eq_self, calm_foldl, calm_each, calm_when, calm_State_emit, calm_State_used]) | split | (refine (calm_each _ _ _ (fun x t => ?_)).trans ?_) | (refine (calm_when _ _ _ (fun t => ?_)).trans ?_) | (refine (calm_foldl _ _ _ (fun t x => ?_)).trans ?_) | (rename_i h; refine (congrArg (fun x => State.calm (Prod.fst x)) h).symm.trans ?_; simp only [calm_State_sendContrib, apply_ite State.calm, apply_ite Prod.fst, ite_self, implies_true, eq_self, calm_foldl, calm_each, calm_when, calm_State_emit, calm_State_used]; done) | intro x)

theorem calm_execContributionAckRx (a1) (a2) (a3) (s : State) : ∀ t, execContributionAckRx a1 a2 a3 s = .next t → t.calm = s.calm := by
  intro t h; unfold execContributionAckRx at h
  rcases h
  simp only [calm_State_rx, calm_State_unlessBreach, calm_State_applyAck, implies_true, eq_self]

theorem calm_execContributionRx (a1) (a2) (a3) (a4) (a5) (s : State) : ∀ t, execContributionRx a1 a2 a3 a4 a5 s = .next t → t.calm = s.calm := by
  intro t h; unfold execContributionRx at h
  rcases h
  simp only [calm_State_rx, calm_State_applyContrib, implies_true, eq_self]

theorem calm_execReductionTimeout (a1) (a2) (s : State) : ∀ t, execReductionTimeout a1 a2 s = .next t → t.calm = s.calm := by
  intro t h; unfold execReductionTimeout at h
  rcases h
  repeat' (first | with_reducible rfl | (simp only [calm_State_endReduction, apply_ite State.calm, apply_ite Prod.fst, ite_self, implies_true, eq_self, calm_foldl, calm_each, calm_when, calm_State_emit, calm_State_used]; done) | (simp only [calm_State_endReduction, apply_ite State.calm, apply_ite Prod.fst, ite_self, implies_true, eq_self, calm_foldl, calm_each, calm_when, calm_State_emit, calm_State_used]) | split | (refine (calm_each _ _ _ (fun x t => ?_)).trans ?_) | (refine (calm_when _ _ _ (fun t => ?_)).trans ?_) | (refine (calm_foldl _ _ _ (fun t x => ?_)).trans ?_) | (rename_i h; refine (congrArg (fun x => State.calm (Prod.fst x)) h).symm.trans ?_; simp only [calm_State_endReduction, apply_ite State.calm, apply_ite Prod.fst, ite_self, implies_true, eq_self, calm_foldl, calm_each, calm_when, calm_State_emit, calm_State_used]; done) | intro x)

theorem calm_execResultAckRx (a1) (a2) (a3) (a4) (s : State) : ∀ t, execResultAckRx a1 a2 a3 a4 s = .next t → t.calm = s.calm := by
  intro t h; unfold execResultAckRx at h
  rcases h
  simp only [calm_State_rx, calm_State_unlessBreach, calm_State_applyResultAck, implies_true, eq_self]

theorem calm_execResultChunkResend (a1) (a2) (a3) (s : State) : ∀ t, execResultChunkResend a1 a2 a3 s = .next t → t.calm = s.calm := by
  intro t h; unfold execResultChunkResend at h
  rcases h
  repeat' (first | with_reducible rfl | (simp only [calm_each, calm_State_sendTo, apply_ite State.calm, apply_ite Prod.fst, ite_self, implies_true, eq_self, calm_foldl, calm_each, calm_when, calm_State_emit, calm_State_used]; done) | (simp only [calm_each, calm_State_sendTo, apply_ite State.calm, apply_ite Prod.fst, ite_self, implies_true, eq_self, calm_foldl, calm_each, calm_when, calm_State_emit, calm_State_used]) | split | (refine (calm_each _ _ _ (fun x t => ?_)).trans ?_) | (refine (calm_when _ _ _ (fun t => ?_)).trans ?_) | (refine (calm_foldl _ _ _ (fun t x => ?_)).trans ?_) | (rename_i h; refine (congrArg (fun x => State.calm (Prod.fst x)) h).symm.trans ?_; simp only [calm_each, calm_State_sendTo, apply_ite State.calm, apply_ite Prod.fst, ite_self, implies_true, eq_self, calm_foldl, calm_each, calm_when, calm_State_emit, calm_State_used]; done) | intro x)

theorem calm_execResultChunkGiveUp (a1) (a2) (a3) (s : State) : ∀ t, execResultChunkGiveUp a1 a2 a3 s = .next t → t.calm = s.calm := by
  intro t h; unfold execResultChunkGiveUp at h
  rcases h
  repeat' (first | with_reducible rfl | (simp only [calm_State_putReduction, calm_State_press, calm_State_modRem, apply_ite State.calm, apply_ite Prod.fst, ite_self, implies_true, eq_self, calm_foldl, calm_each, calm_when, calm_State_emit, calm_State_used]; done) | (simp only [calm_State_putReduction, calm_State_press, calm_State_modRem, apply_ite State.calm, apply_ite Prod.fst, ite_self, implies_true, eq_self, calm_foldl, calm_each, calm_when, calm_State_emit, calm_State_used]) | split | (refine (calm_each _ _ _ (fun x t => ?_)).trans ?_) | (refine (calm_when _ _ _ (fun t => ?_)).trans ?_) | (refine (calm_foldl _ _ _ (fun t x => ?_)).trans ?_) | (rename_i h; refine (congrArg (fun x => State.calm (Prod.fst x)) h).symm.trans ?_; simp only [calm_State_putReduction, calm_State_press, calm_State_modRem, apply_ite State.calm, apply_ite Prod.fst, ite_self, implies_true, eq_self, calm_foldl, calm_each, calm_when, calm_State_emit, calm_State_used]; done) | intro x)

theorem calm_execResultChunkRx (a1) (a2) (a3) (a4) (a5) (a6) (s : State) : ∀ t, execResultChunkRx a1 a2 a3 a4 a5 a6 s = .next t → t.calm = s.calm := by
  intro t h; unfold execResultChunkRx at h
  rcases h
  simp only [calm_State_rx, calm_State_unlessBreach, calm_State_applyResult, implies_true, eq_self]

theorem calm_execResultLedgerExpire (a1) (a2) (a3) (a4) (s : State) : ∀ t, execResultLedgerExpire a1 a2 a3 a4 s = .next t → t.calm = s.calm := by
  intro t h; unfold execResultLedgerExpire at h
  rcases h
  simp only [calm_State_modRem, apply_ite State.calm, ite_self, eq_self]

theorem calm_execDtEnable (a1) (a2) (a3) (s : State) : ∀ t, execDtEnable a1 a2 a3 s = .next t → t.calm = s.calm := by
  intro t h; unfold execDtEnable at h
  rcases h
  simp only [calm_State_ctlWrite, calm_State_dtCtrl, implies_true, eq_self]

theorem calm_execDtDisable (a1) (s : State) : ∀ t, execDtDisable a1 s = .next t → t.calm = s.calm := by
  intro t h; unfold execDtDisable at h
  rcases h
  simp only [calm_State_ctlWrite, calm_State_dtCtrl, implies_true, eq_self]

theorem calm_execSyncTimeout (s : State) : ∀ t, execSyncTimeout s = .next t → t.calm = s.calm := by
  intro t h; unfold execSyncTimeout at h
  rcases h
  simp only [calm_State_dtTo, apply_ite State.calm, ite_self, eq_self]

theorem calm_execHoldoverLimitExpire (s : State) : ∀ t, execHoldoverLimitExpire s = .next t → t.calm = s.calm := by
  intro t h; unfold execHoldoverLimitExpire at h
  rcases h
  simp only [calm_State_dtTo, apply_ite State.calm, ite_self, eq_self]

theorem calm_execHoldoverBoundExpire (s : State) : ∀ t, execHoldoverBoundExpire s = .next t → t.calm = s.calm := by
  intro t h; unfold execHoldoverBoundExpire at h
  rcases h
  simp only [calm_State_modDt, apply_ite State.calm, ite_self, eq_self]

theorem calm_execBackupGmTakeover (s : State) : ∀ t, execBackupGmTakeover s = .next t → t.calm = s.calm := by
  intro t h; unfold execBackupGmTakeover at h
  rcases h
  simp only [calm_State_modDt, apply_ite State.calm, ite_self, eq_self]

theorem calm_execSyncInterval (s : State) : ∀ t, execSyncInterval s = .next t → t.calm = s.calm := by
  intro t h; unfold execSyncInterval at h
  rcases h
  simp only [calm_each, calm_State_ptpNext, calm_State_ptpSend, implies_true, eq_self, calm_each]

theorem calm_execPdelayReqInterval (s : State) : ∀ t, execPdelayReqInterval s = .next t → t.calm = s.calm := by
  intro t h; unfold execPdelayReqInterval at h
  rcases h
  simp only [calm_each, calm_State_ptpNext, calm_State_modPtp, calm_State_ptpSend, implies_true, eq_self, calm_each]

theorem calm_execAnnounceInterval (s : State) : ∀ t, execAnnounceInterval s = .next t → t.calm = s.calm := by
  intro t h; unfold execAnnounceInterval at h
  rcases h
  simp only [calm_each, calm_State_ptpNext, calm_State_ptpSend, implies_true, eq_self, calm_each]

theorem calm_execTxTimestampReturn (a1) (a2) (s : State) : ∀ t, execTxTimestampReturn a1 a2 s = .next t → t.calm = s.calm := by
  intro t h; unfold execTxTimestampReturn at h
  rcases h
  repeat' (first | with_reducible rfl | (simp only [calm_State_modPtp, calm_State_ptpSend, apply_ite State.calm, apply_ite Prod.fst, ite_self, implies_true, eq_self, calm_foldl, calm_each, calm_when, calm_State_emit, calm_State_used]; done) | (simp only [calm_State_modPtp, calm_State_ptpSend, apply_ite State.calm, apply_ite Prod.fst, ite_self, implies_true, eq_self, calm_foldl, calm_each, calm_when, calm_State_emit, calm_State_used]) | split | (refine (calm_each _ _ _ (fun x t => ?_)).trans ?_) | (refine (calm_when _ _ _ (fun t => ?_)).trans ?_) | (refine (calm_foldl _ _ _ (fun t x => ?_)).trans ?_) | (rename_i h; refine (congrArg (fun x => State.calm (Prod.fst x)) h).symm.trans ?_; simp only [calm_State_modPtp, calm_State_ptpSend, apply_ite State.calm, apply_ite Prod.fst, ite_self, implies_true, eq_self, calm_foldl, calm_each, calm_when, calm_State_emit, calm_State_used]; done) | intro x)

theorem calm_execTxTimestampTimeout (a1) (s : State) : ∀ t, execTxTimestampTimeout a1 s = .next t → t.calm = s.calm := by
  intro t h; unfold execTxTimestampTimeout at h
  rcases h
  repeat' (first | with_reducible rfl | (simp only [calm_State_modDt, calm_State_modPtp, apply_ite State.calm, apply_ite Prod.fst, ite_self, implies_true, eq_self, calm_foldl, calm_each, calm_when, calm_State_emit, calm_State_used]; done) | (simp only [calm_State_modDt, calm_State_modPtp, apply_ite State.calm, apply_ite Prod.fst, ite_self, implies_true, eq_self, calm_foldl, calm_each, calm_when, calm_State_emit, calm_State_used]) | split | (refine (calm_each _ _ _ (fun x t => ?_)).trans ?_) | (refine (calm_when _ _ _ (fun t => ?_)).trans ?_) | (refine (calm_foldl _ _ _ (fun t x => ?_)).trans ?_) | (rename_i h; refine (congrArg (fun x => State.calm (Prod.fst x)) h).symm.trans ?_; simp only [calm_State_modDt, calm_State_modPtp, apply_ite State.calm, apply_ite Prod.fst, ite_self, implies_true, eq_self, calm_foldl, calm_each, calm_when, calm_State_emit, calm_State_used]; done) | intro x)

theorem calm_execPtpMessage (a1) (a2) (a3) (a4) (a5) (s : State) : ∀ t, execPtpMessage a1 a2 a3 a4 a5 s = .next t → t.calm = s.calm := by
  intro t h; unfold execPtpMessage at h
  rcases h
  simp only [calm_State_rx, calm_State_ptpIgnore, calm_State_ptpTake, apply_ite State.calm, ite_self, implies_true, eq_self]

theorem calm_execRngStartupPass (s : State) : ∀ t, execRngStartupPass s = .next t → t.calm = s.calm := by
  intro t h; unfold execRngStartupPass at h
  rcases h
  simp only [calm_State_modKey, apply_ite State.calm, ite_self, eq_self]

theorem calm_execDrbgReseed (s : State) : ∀ t, execDrbgReseed s = .next t → t.calm = s.calm := by
  intro t h; unfold execDrbgReseed at h
  rcases h
  simp only [calm_State_modKey, apply_ite State.calm, ite_self, eq_self]

theorem calm_execSlotRelease (a1) (s : State) : ∀ t, execSlotRelease a1 s = .next t → t.calm = s.calm := by
  intro t h; unfold execSlotRelease at h
  rcases h
  simp only [calm_State_setSlot, apply_ite State.calm, ite_self, eq_self]

theorem calm_execKeyControlGen (a1) (a2) (a3) (a4) (s : State) : ∀ t, execKeyControlGen a1 a2 a3 a4 s = .next t → t.calm = s.calm := by
  intro t h; unfold execKeyControlGen at h
  rcases h
  simp only [calm_State_admitWith, calm_State_newControl, calm_State_drawnPr, implies_true, eq_self]

theorem calm_execKeyImport (a1) (a2) (a3) (a4) (a5) (s : State) : ∀ t, execKeyImport a1 a2 a3 a4 a5 s = .next t → t.calm = s.calm := by
  intro t h; unfold execKeyImport at h
  rcases h
  simp only [calm_State_admitCmd, calm_State_newControl, implies_true, eq_self]

theorem calm_execKeyRetire (a1) (a2) (s : State) : ∀ t, execKeyRetire a1 a2 s = .next t → t.calm = s.calm := by
  intro t h; unfold execKeyRetire at h
  rcases h
  simp only [calm_State_admitCmd, calm_State_ok, calm_State_retire, implies_true, eq_self]

theorem calm_execCceOp (a1) (a2) (a3) (a4) (a5) (a6) (a7) (a8) (a9) (s : State) : ∀ t, execCceOp a1 a2 a3 a4 a5 a6 a7 a8 a9 s = .next t → t.calm = s.calm := by
  intro t h; unfold execCceOp at h
  rcases h
  simp only [calm_State_cceTolaro, calm_State_admitWith, calm_State_modKey, calm_when, calm_State_drawn, apply_ite State.calm, ite_self, implies_true, eq_self, calm_when]

theorem calm_execKeyWrap (a1) (a2) (a3) (s : State) : ∀ t, execKeyWrap a1 a2 a3 s = .next t → t.calm = s.calm := by
  intro t h; unfold execKeyWrap at h
  rcases h
  simp only [calm_State_admitWith, calm_State_okTrailer, calm_State_drawn, implies_true, eq_self]

theorem calm_execKeyUnwrap (a1) (a2) (a3) (s : State) : ∀ t, execKeyUnwrap a1 a2 a3 s = .next t → t.calm = s.calm := by
  intro t h; unfold execKeyUnwrap at h
  rcases h
  simp only [calm_State_admitCmd, calm_State_endsWith, calm_State_newControl, apply_ite State.calm, ite_self, implies_true, eq_self]

theorem calm_execMldsaSignRestart (s : State) : ∀ t, execMldsaSignRestart s = .next t → t.calm = s.calm := by
  intro t h; unfold execMldsaSignRestart at h
  rcases h
  simp only [calm_State_modKey, calm_State_drawn, apply_ite State.calm, ite_self, eq_self]

theorem calm_execKeyAttest (a1) (a2) (a3) (s : State) : ∀ t, execKeyAttest a1 a2 a3 s = .next t → t.calm = s.calm := by
  intro t h; unfold execKeyAttest at h
  rcases h
  simp only [calm_State_admitWith, calm_State_pkeAdd, implies_true, eq_self]

theorem calm_execKeyReseal (a1) (s : State) : ∀ t, execKeyReseal a1 s = .next t → t.calm = s.calm := by
  intro t h; unfold execKeyReseal at h
  rcases h
  repeat' (first | with_reducible rfl | (simp only [calm_State_admitWith, calm_State_endsWith, calm_State_modPart, calm_State_drawnPr, calm_State_fill, calm_State_resealEnd, calm_State_setReseal, apply_ite State.calm, apply_ite Prod.fst, ite_self, implies_true, eq_self, calm_foldl, calm_each, calm_when, calm_State_emit, calm_State_used]; done) | (simp only [calm_State_admitWith, calm_State_endsWith, calm_State_modPart, calm_State_drawnPr, calm_State_fill, calm_State_resealEnd, calm_State_setReseal, apply_ite State.calm, apply_ite Prod.fst, ite_self, implies_true, eq_self, calm_foldl, calm_each, calm_when, calm_State_emit, calm_State_used]) | split | (refine (calm_each _ _ _ (fun x t => ?_)).trans ?_) | (refine (calm_when _ _ _ (fun t => ?_)).trans ?_) | (refine (calm_foldl _ _ _ (fun t x => ?_)).trans ?_) | (rename_i h; refine (congrArg (fun x => State.calm (Prod.fst x)) h).symm.trans ?_; simp only [calm_State_admitWith, calm_State_endsWith, calm_State_modPart, calm_State_drawnPr, calm_State_fill, calm_State_resealEnd, calm_State_setReseal, apply_ite State.calm, apply_ite Prod.fst, ite_self, implies_true, eq_self, calm_foldl, calm_each, calm_when, calm_State_emit, calm_State_used]; done) | (refine (calm_State_admitWith _ _ _ _ _ _ _ (fun y0 t => ?_)).trans ?_) | intro x)

theorem calm_execSgEnable (a1) (a2) (s : State) : ∀ t, execSgEnable a1 a2 s = .next t → t.calm = s.calm := by
  intro t h; unfold execSgEnable at h
  rcases h
  simp only [calm_State_ctlWrite, calm_State_sgWrite, implies_true, eq_self]

theorem calm_execSgDisable (a1) (a2) (s : State) : ∀ t, execSgDisable a1 a2 s = .next t → t.calm = s.calm := by
  intro t h; unfold execSgDisable at h
  rcases h
  simp only [calm_State_ctlWrite, calm_State_sgWrite, implies_true, eq_self]

theorem calm_execCClassCommit (a1) (s : State) : ∀ t, execCClassCommit a1 s = .next t → t.calm = s.calm := by
  intro t h; unfold execCClassCommit at h
  rcases h
  simp only [calm_State_commitIdle, apply_ite State.calm, ite_self, eq_self]

theorem calm_execPartShare (a1) (a2) (s : State) : ∀ t, execPartShare a1 a2 s = .next t → t.calm = s.calm := by
  intro t h; unfold execPartShare at h
  rcases h
  simp only [calm_State_admitCmd, calm_State_ok, calm_State_modShare, implies_true, eq_self]

theorem calm_execLaneGate (a1) (s : State) : ∀ t, execLaneGate a1 s = .next t → t.calm = s.calm := by
  intro t h; unfold execLaneGate at h
  rcases h
  simp only [calm_State_modShare, calm_State_modUnit, apply_ite State.calm, ite_self, eq_self]

theorem calm_execLaneWake (s : State) : ∀ t, execLaneWake s = .next t → t.calm = s.calm := by
  intro t h; unfold execLaneWake at h
  rcases h
  simp only [calm_State_modShare, calm_each, calm_State_wakeOne, apply_ite State.calm, ite_self, implies_true, eq_self, calm_each]

theorem calm_execIdeKmQuery (a1) (a2) (s : State) : ∀ t, execIdeKmQuery a1 a2 s = .next t → t.calm = s.calm := by
  intro t h; unfold execIdeKmQuery at h
  rcases h
  simp only [calm_State_respond, apply_ite State.calm, ite_self, eq_self]

theorem calm_execIdeKmKeyProg (a1) (a2) (a3) (a4) (a5) (a6) (a7) (s : State) : ∀ t, execIdeKmKeyProg a1 a2 a3 a4 a5 a6 a7 s = .next t → t.calm = s.calm := by
  intro t h; unfold execIdeKmKeyProg at h
  rcases h
  repeat' (first | with_reducible rfl | (simp only [calm_State_ideAnswer, calm_State_retire, calm_State_tryStream, calm_State_modKeys, calm_State_fill, apply_ite State.calm, apply_ite Prod.fst, ite_self, implies_true, eq_self, calm_foldl, calm_each, calm_when, calm_State_emit, calm_State_used]; done) | (simp only [calm_State_ideAnswer, calm_State_retire, calm_State_tryStream, calm_State_modKeys, calm_State_fill, apply_ite State.calm, apply_ite Prod.fst, ite_self, implies_true, eq_self, calm_foldl, calm_each, calm_when, calm_State_emit, calm_State_used]) | split | (refine (calm_each _ _ _ (fun x t => ?_)).trans ?_) | (refine (calm_when _ _ _ (fun t => ?_)).trans ?_) | (refine (calm_foldl _ _ _ (fun t x => ?_)).trans ?_) | (rename_i h; refine (congrArg (fun x => State.calm (Prod.fst x)) h).symm.trans ?_; simp only [calm_State_ideAnswer, calm_State_retire, calm_State_tryStream, calm_State_modKeys, calm_State_fill, apply_ite State.calm, apply_ite Prod.fst, ite_self, implies_true, eq_self, calm_foldl, calm_each, calm_when, calm_State_emit, calm_State_used]; done) | intro x)

theorem calm_execIdeKmKSetGo (a1) (a2) (a3) (a4) (a5) (a6) (s : State) : ∀ t, execIdeKmKSetGo a1 a2 a3 a4 a5 a6 s = .next t → t.calm = s.calm := by
  intro t h; unfold execIdeKmKSetGo at h
  rcases h
  simp only [calm_State_ideAnswer, calm_State_tryStream, calm_State_modHst, calm_State_modKeys, apply_ite State.calm, ite_self, eq_self]

theorem calm_execIdeKmKSetStop (a1) (a2) (a3) (a4) (a5) (a6) (s : State) : ∀ t, execIdeKmKSetStop a1 a2 a3 a4 a5 a6 s = .next t → t.calm = s.calm := by
  intro t h; unfold execIdeKmKSetStop at h
  rcases h
  repeat' (first | with_reducible rfl | (simp only [calm_State_ideAnswer, calm_State_modKeys, calm_State_retire, calm_State_streamDown, apply_ite State.calm, apply_ite Prod.fst, ite_self, implies_true, eq_self, calm_foldl, calm_each, calm_when, calm_State_emit, calm_State_used]; done) | (simp only [calm_State_ideAnswer, calm_State_modKeys, calm_State_retire, calm_State_streamDown, apply_ite State.calm, apply_ite Prod.fst, ite_self, implies_true, eq_self, calm_foldl, calm_each, calm_when, calm_State_emit, calm_State_used]) | split | (refine (calm_each _ _ _ (fun x t => ?_)).trans ?_) | (refine (calm_when _ _ _ (fun t => ?_)).trans ?_) | (refine (calm_foldl _ _ _ (fun t x => ?_)).trans ?_) | (rename_i h; refine (congrArg (fun x => State.calm (Prod.fst x)) h).symm.trans ?_; simp only [calm_State_ideAnswer, calm_State_modKeys, calm_State_retire, calm_State_streamDown, apply_ite State.calm, apply_ite Prod.fst, ite_self, implies_true, eq_self, calm_foldl, calm_each, calm_when, calm_State_emit, calm_State_used]; done) | intro x)

theorem calm_execGetTdispVersion (a1) (a2) (a3) (s : State) : ∀ t, execGetTdispVersion a1 a2 a3 s = .next t → t.calm = s.calm := by
  intro t h; unfold execGetTdispVersion at h
  rcases h
  simp only [calm_State_tdisp, calm_State_tdispAnswer, implies_true, eq_self]

theorem calm_execGetTdispCapabilities (a1) (a2) (a3) (s : State) : ∀ t, execGetTdispCapabilities a1 a2 a3 s = .next t → t.calm = s.calm := by
  intro t h; unfold execGetTdispCapabilities at h
  rcases h
  simp only [calm_State_tdisp, calm_State_tdispAnswer, implies_true, eq_self]

theorem calm_execGetDeviceInterfaceState (a1) (a2) (a3) (s : State) : ∀ t, execGetDeviceInterfaceState a1 a2 a3 s = .next t → t.calm = s.calm := by
  intro t h; unfold execGetDeviceInterfaceState at h
  rcases h
  simp only [calm_State_tdisp, calm_State_tdispAnswer, implies_true, eq_self]

theorem calm_execGetDeviceInterfaceReport (a1) (a2) (a3) (s : State) : ∀ t, execGetDeviceInterfaceReport a1 a2 a3 s = .next t → t.calm = s.calm := by
  intro t h; unfold execGetDeviceInterfaceReport at h
  rcases h
  simp only [calm_State_tdisp, calm_State_respond, implies_true, eq_self]

theorem calm_execLockInterfaceRequest (a1) (a2) (a3) (s : State) : ∀ t, execLockInterfaceRequest a1 a2 a3 s = .next t → t.calm = s.calm := by
  intro t h; unfold execLockInterfaceRequest at h
  rcases h
  repeat' (first | with_reducible rfl | (simp only [calm_State_tdisp, calm_State_tdispAnswer, calm_State_modCmd, calm_State_modTdi, apply_ite State.calm, apply_ite Prod.fst, ite_self, implies_true, eq_self, calm_foldl, calm_each, calm_when, calm_State_emit, calm_State_used]; done) | (simp only [calm_State_tdisp, calm_State_tdispAnswer, calm_State_modCmd, calm_State_modTdi, apply_ite State.calm, apply_ite Prod.fst, ite_self, implies_true, eq_self, calm_foldl, calm_each, calm_when, calm_State_emit, calm_State_used]) | split | (refine (calm_each _ _ _ (fun x t => ?_)).trans ?_) | (refine (calm_when _ _ _ (fun t => ?_)).trans ?_) | (refine (calm_foldl _ _ _ (fun t x => ?_)).trans ?_) | (rename_i h; refine (congrArg (fun x => State.calm (Prod.fst x)) h).symm.trans ?_; simp only [calm_State_tdisp, calm_State_tdispAnswer, calm_State_modCmd, calm_State_modTdi, apply_ite State.calm, apply_ite Prod.fst, ite_self, implies_true, eq_self, calm_foldl, calm_each, calm_when, calm_State_emit, calm_State_used]; done) | (refine (calm_State_tdisp _ _ _ _ _ (fun t => ?_)).trans ?_) | intro x)

theorem calm_execStartInterfaceRequest (a1) (a2) (a3) (s : State) : ∀ t, execStartInterfaceRequest a1 a2 a3 s = .next t → t.calm = s.calm := by
  intro t h; unfold execStartInterfaceRequest at h
  rcases h
  simp only [calm_State_tdisp, calm_State_tdispAnswer, calm_State_modTdi, apply_ite State.calm, ite_self, implies_true, eq_self]

theorem calm_execStopInterfaceRequest (a1) (a2) (a3) (s : State) : ∀ t, execStopInterfaceRequest a1 a2 a3 s = .next t → t.calm = s.calm := by
  intro t h; unfold execStopInterfaceRequest at h
  rcases h
  simp only [calm_State_tdisp, calm_State_tdispAnswer, calm_State_tdiStop, implies_true, eq_self]

theorem calm_execTdispUnsupportedRequest (a1) (a2) (a3) (s : State) : ∀ t, execTdispUnsupportedRequest a1 a2 a3 s = .next t → t.calm = s.calm := by
  intro t h; unfold execTdispUnsupportedRequest at h
  rcases h
  simp only [calm_State_tdisp, calm_State_respond, implies_true, eq_self]

theorem calm_execFunctionLevelReset (a1) (a2) (s : State) : ∀ t, execFunctionLevelReset a1 a2 s = .next t → t.calm = s.calm := by
  intro t h; unfold execFunctionLevelReset at h
  rcases h
  repeat' (first | with_reducible rfl | (simp only [calm_State_tdiStop, apply_ite State.calm, apply_ite Prod.fst, ite_self, implies_true, eq_self, calm_foldl, calm_each, calm_when, calm_State_emit, calm_State_used]; done) | (simp only [calm_State_tdiStop, apply_ite State.calm, apply_ite Prod.fst, ite_self, implies_true, eq_self, calm_foldl, calm_each, calm_when, calm_State_emit, calm_State_used]) | split | (refine (calm_each _ _ _ (fun x t => ?_)).trans ?_) | (refine (calm_when _ _ _ (fun t => ?_)).trans ?_) | (refine (calm_foldl _ _ _ (fun t x => ?_)).trans ?_) | (rename_i h; refine (congrArg (fun x => State.calm (Prod.fst x)) h).symm.trans ?_; simp only [calm_State_tdiStop, apply_ite State.calm, apply_ite Prod.fst, ite_self, implies_true, eq_self, calm_foldl, calm_each, calm_when, calm_State_emit, calm_State_used]; done) | intro x)

theorem calm_execConfigRequestRx (a1) (a2) (a3) (a4) (a5) (a6) (s : State) : ∀ t, execConfigRequestRx a1 a2 a3 a4 a5 a6 s = .next t → t.calm = s.calm := by
  intro t h; unfold execConfigRequestRx at h
  rcases h
  simp only [calm_State_modHst, calm_State_emit, calm_State_ideCfg, calm_each, calm_State_tdiError, apply_ite State.calm, ite_self, implies_true, eq_self, calm_each, calm_State_emit]

theorem calm_execDoeObjectRx (a1) (a2) (a3) (s : State) : ∀ t, execDoeObjectRx a1 a2 a3 s = .next t → t.calm = s.calm := by
  intro t h; unfold execDoeObjectRx at h
  rcases h
  simp only [calm_State_emit, calm_State_modHst, apply_ite State.calm, ite_self, eq_self, calm_State_emit]

theorem calm_execDoeAbort (a1) (s : State) : ∀ t, execDoeAbort a1 s = .next t → t.calm = s.calm := by
  intro t h; unfold execDoeAbort at h
  rcases h
  simp only [calm_State_modHst, eq_self]

theorem calm_execTranslationCompletion (a1) (a2) (a3) (a4) (s : State) : ∀ t, execTranslationCompletion a1 a2 a3 a4 s = .next t → t.calm = s.calm := by
  intro t h; unfold execTranslationCompletion at h
  rcases h
  repeat' (first | with_reducible rfl | (simp only [calm_State_emit, calm_State_modHst, calm_State_trEnds, apply_ite State.calm, apply_ite Prod.fst, ite_self, implies_true, eq_self, calm_foldl, calm_each, calm_when, calm_State_emit, calm_State_used]; done) | (simp only [calm_State_emit, calm_State_modHst, calm_State_trEnds, apply_ite State.calm, apply_ite Prod.fst, ite_self, implies_true, eq_self, calm_foldl, calm_each, calm_when, calm_State_emit, calm_State_used]) | split | (refine (calm_each _ _ _ (fun x t => ?_)).trans ?_) | (refine (calm_when _ _ _ (fun t => ?_)).trans ?_) | (refine (calm_foldl _ _ _ (fun t x => ?_)).trans ?_) | (rename_i h; refine (congrArg (fun x => State.calm (Prod.fst x)) h).symm.trans ?_; simp only [calm_State_emit, calm_State_modHst, calm_State_trEnds, apply_ite State.calm, apply_ite Prod.fst, ite_self, implies_true, eq_self, calm_foldl, calm_each, calm_when, calm_State_emit, calm_State_used]; done) | intro x)

theorem calm_execTranslationTimeout (a1) (a2) (s : State) : ∀ t, execTranslationTimeout a1 a2 s = .next t → t.calm = s.calm := by
  intro t h; unfold execTranslationTimeout at h
  rcases h
  repeat' (first | with_reducible rfl | (simp only [calm_State_trEnds, apply_ite State.calm, apply_ite Prod.fst, ite_self, implies_true, eq_self, calm_foldl, calm_each, calm_when, calm_State_emit, calm_State_used]; done) | (simp only [calm_State_trEnds, apply_ite State.calm, apply_ite Prod.fst, ite_self, implies_true, eq_self, calm_foldl, calm_each, calm_when, calm_State_emit, calm_State_used]) | split | (refine (calm_each _ _ _ (fun x t => ?_)).trans ?_) | (refine (calm_when _ _ _ (fun t => ?_)).trans ?_) | (refine (calm_foldl _ _ _ (fun t x => ?_)).trans ?_) | (rename_i h; refine (congrArg (fun x => State.calm (Prod.fst x)) h).symm.trans ?_; simp only [calm_State_trEnds, apply_ite State.calm, apply_ite Prod.fst, ite_self, implies_true, eq_self, calm_foldl, calm_each, calm_when, calm_State_emit, calm_State_used]; done) | intro x)

theorem calm_execAtsInvalidateRequest (a1) (a2) (a3) (a4) (a5) (a6) (s : State) : ∀ t, execAtsInvalidateRequest a1 a2 a3 a4 a5 a6 s = .next t → t.calm = s.calm := by
  intro t h; unfold execAtsInvalidateRequest at h
  rcases h
  repeat' (first | with_reducible rfl | (simp only [calm_State_pump, calm_State_modHst, apply_ite State.calm, apply_ite Prod.fst, ite_self, implies_true, eq_self, calm_foldl, calm_each, calm_when, calm_State_emit, calm_State_used]; done) | (simp only [calm_State_pump, calm_State_modHst, apply_ite State.calm, apply_ite Prod.fst, ite_self, implies_true, eq_self, calm_foldl, calm_each, calm_when, calm_State_emit, calm_State_used]) | split | (refine (calm_each _ _ _ (fun x t => ?_)).trans ?_) | (refine (calm_when _ _ _ (fun t => ?_)).trans ?_) | (refine (calm_foldl _ _ _ (fun t x => ?_)).trans ?_) | (rename_i h; refine (congrArg (fun x => State.calm (Prod.fst x)) h).symm.trans ?_; simp only [calm_State_pump, calm_State_modHst, apply_ite State.calm, apply_ite Prod.fst, ite_self, implies_true, eq_self, calm_foldl, calm_each, calm_when, calm_State_emit, calm_State_used]; done) | intro x)

theorem calm_execInvalidationComplete (a1) (a2) (s : State) : ∀ t, execInvalidationComplete a1 a2 s = .next t → t.calm = s.calm := by
  intro t h; unfold execInvalidationComplete at h
  rcases h
  repeat' (first | with_reducible rfl | (simp only [calm_State_emit, calm_State_modHst, apply_ite State.calm, apply_ite Prod.fst, ite_self, implies_true, eq_self, calm_foldl, calm_each, calm_when, calm_State_emit, calm_State_used]; done) | (simp only [calm_State_emit, calm_State_modHst, apply_ite State.calm, apply_ite Prod.fst, ite_self, implies_true, eq_self, calm_foldl, calm_each, calm_when, calm_State_emit, calm_State_used]) | split | (refine (calm_each _ _ _ (fun x t => ?_)).trans ?_) | (refine (calm_when _ _ _ (fun t => ?_)).trans ?_) | (refine (calm_foldl _ _ _ (fun t x => ?_)).trans ?_) | (rename_i h; refine (congrArg (fun x => State.calm (Prod.fst x)) h).symm.trans ?_; simp only [calm_State_emit, calm_State_modHst, apply_ite State.calm, apply_ite Prod.fst, ite_self, implies_true, eq_self, calm_foldl, calm_each, calm_when, calm_State_emit, calm_State_used]; done) | intro x)

theorem calm_execPrgResponse (a1) (a2) (a3) (s : State) : ∀ t, execPrgResponse a1 a2 a3 s = .next t → t.calm = s.calm := by
  intro t h; unfold execPrgResponse at h
  rcases h
  repeat' (first | with_reducible rfl | (simp only [calm_State_modHst, calm_State_prNext, calm_State_askPage, calm_State_flag, calm_each, calm_State_pageFail, apply_ite State.calm, apply_ite Prod.fst, ite_self, implies_true, eq_self, calm_foldl, calm_each, calm_when, calm_State_emit, calm_State_used]; done) | (simp only [calm_State_modHst, calm_State_prNext, calm_State_askPage, calm_State_flag, calm_each, calm_State_pageFail, apply_ite State.calm, apply_ite Prod.fst, ite_self, implies_true, eq_self, calm_foldl, calm_each, calm_when, calm_State_emit, calm_State_used]) | split | (refine (calm_each _ _ _ (fun x t => ?_)).trans ?_) | (refine (calm_when _ _ _ (fun t => ?_)).trans ?_) | (refine (calm_foldl _ _ _ (fun t x => ?_)).trans ?_) | (rename_i h; refine (congrArg (fun x => State.calm (Prod.fst x)) h).symm.trans ?_; simp only [calm_State_modHst, calm_State_prNext, calm_State_askPage, calm_State_flag, calm_each, calm_State_pageFail, apply_ite State.calm, apply_ite Prod.fst, ite_self, implies_true, eq_self, calm_foldl, calm_each, calm_when, calm_State_emit, calm_State_used]; done) | intro x)

theorem calm_execPriTimeout (a1) (s : State) : ∀ t, execPriTimeout a1 s = .next t → t.calm = s.calm := by
  intro t h; unfold execPriTimeout at h
  rcases h
  repeat' (first | with_reducible rfl | (simp only [calm_State_prNext, calm_State_pageFail, calm_State_modHst, apply_ite State.calm, apply_ite Prod.fst, ite_self, implies_true, eq_self, calm_foldl, calm_each, calm_when, calm_State_emit, calm_State_used]; done) | (simp only [calm_State_prNext, calm_State_pageFail, calm_State_modHst, apply_ite State.calm, apply_ite Prod.fst, ite_self, implies_true, eq_self, calm_foldl, calm_each, calm_when, calm_State_emit, calm_State_used]) | split | (refine (calm_each _ _ _ (fun x t => ?_)).trans ?_) | (refine (calm_when _ _ _ (fun t => ?_)).trans ?_) | (refine (calm_foldl _ _ _ (fun t x => ?_)).trans ?_) | (rename_i h; refine (congrArg (fun x => State.calm (Prod.fst x)) h).symm.trans ?_; simp only [calm_State_prNext, calm_State_pageFail, calm_State_modHst, apply_ite State.calm, apply_ite Prod.fst, ite_self, implies_true, eq_self, calm_foldl, calm_each, calm_when, calm_State_emit, calm_State_used]; done) | intro x)

theorem calm_execHostTlpTx (a1) (a2) (s : State) : ∀ t, execHostTlpTx a1 a2 s = .next t → t.calm = s.calm := by
  intro t h; unfold execHostTlpTx at h
  rcases h
  simp only [calm_State_txTlp, eq_self]

theorem calm_execHostTlpRx (a1) (a2) (s : State) : ∀ t, execHostTlpRx a1 a2 s = .next t → t.calm = s.calm := by
  intro t h; unfold execHostTlpRx at h
  rcases h
  repeat' (first | with_reducible rfl | (simp only [calm_State_emit, calm_State_rxCpl, calm_State_rxReq, calm_State_count, calm_State_ideFail, calm_State_glob, calm_State_wants, apply_ite State.calm, apply_ite Prod.fst, ite_self, implies_true, eq_self, calm_foldl, calm_each, calm_when, calm_State_emit, calm_State_used]; done) | (simp only [calm_State_emit, calm_State_rxCpl, calm_State_rxReq, calm_State_count, calm_State_ideFail, calm_State_glob, calm_State_wants, apply_ite State.calm, apply_ite Prod.fst, ite_self, implies_true, eq_self, calm_foldl, calm_each, calm_when, calm_State_emit, calm_State_used]) | split | (refine (calm_each _ _ _ (fun x t => ?_)).trans ?_) | (refine (calm_when _ _ _ (fun t => ?_)).trans ?_) | (refine (calm_foldl _ _ _ (fun t x => ?_)).trans ?_) | (rename_i h; refine (congrArg (fun x => State.calm (Prod.fst x)) h).symm.trans ?_; simp only [calm_State_emit, calm_State_rxCpl, calm_State_rxReq, calm_State_count, calm_State_ideFail, calm_State_glob, calm_State_wants, apply_ite State.calm, apply_ite Prod.fst, ite_self, implies_true, eq_self, calm_foldl, calm_each, calm_when, calm_State_emit, calm_State_used]; done) | intro x)

theorem calm_execHcLinkUpRise (a1) (s : State) : ∀ t, execHcLinkUpRise a1 s = .next t → t.calm = s.calm := by
  intro t h; unfold execHcLinkUpRise at h
  rcases h
  simp only [calm_State_modPins, apply_ite State.calm, ite_self, eq_self]

theorem calm_execHcLinkUpFall (a1) (s : State) : ∀ t, execHcLinkUpFall a1 s = .next t → t.calm = s.calm := by
  intro t h; unfold execHcLinkUpFall at h
  rcases h
  simp only [calm_each, calm_State_streamDown, calm_State_modPins, calm_State_modHst, calm_State_tdiError, calm_State_tilesFault, calm_State_endSecuredWhere, apply_ite State.calm, ite_self, implies_true, eq_self, calm_each]

theorem calm_execTileOpen (a1) (a2) (s : State) : ∀ t, execTileOpen a1 a2 s = .next t → t.calm = s.calm := by
  intro t h; unfold execTileOpen at h
  rcases h
  repeat' (first | with_reducible rfl | (simp only [calm_State_txTlp, calm_State_fault, calm_State_trace, calm_State_modHst, calm_State_modTile, calm_State_tileFault, calm_State_pump, calm_each, calm_State_touchAtc, apply_ite State.calm, apply_ite Prod.fst, ite_self, implies_true, eq_self, calm_foldl, calm_each, calm_when, calm_State_emit, calm_State_used]; done) | (simp only [calm_State_txTlp, calm_State_fault, calm_State_trace, calm_State_modHst, calm_State_modTile, calm_State_tileFault, calm_State_pump, calm_each, calm_State_touchAtc, apply_ite State.calm, apply_ite Prod.fst, ite_self, implies_true, eq_self, calm_foldl, calm_each, calm_when, calm_State_emit, calm_State_used]) | split | (refine (calm_each _ _ _ (fun x t => ?_)).trans ?_) | (refine (calm_when _ _ _ (fun t => ?_)).trans ?_) | (refine (calm_foldl _ _ _ (fun t x => ?_)).trans ?_) | (rename_i h; refine (congrArg (fun x => State.calm (Prod.fst x)) h).symm.trans ?_; simp only [calm_State_txTlp, calm_State_fault, calm_State_trace, calm_State_modHst, calm_State_modTile, calm_State_tileFault, calm_State_pump, calm_each, calm_State_touchAtc, apply_ite State.calm, apply_ite Prod.fst, ite_self, implies_true, eq_self, calm_foldl, calm_each, calm_when, calm_State_emit, calm_State_used]; done) | intro x)

theorem calm_execTileClose (a1) (a2) (s : State) : ∀ t, execTileClose a1 a2 s = .next t → t.calm = s.calm := by
  intro t h; unfold execTileClose at h
  rcases h
  repeat' (first | with_reducible rfl | (simp only [calm_State_txTlp, calm_State_tileFault, calm_State_tileClosed, calm_State_modTile, calm_State_tileFree, apply_ite State.calm, apply_ite Prod.fst, ite_self, implies_true, eq_self, calm_foldl, calm_each, calm_when, calm_State_emit, calm_State_used]; done) | (simp only [calm_State_txTlp, calm_State_tileFault, calm_State_tileClosed, calm_State_modTile, calm_State_tileFree, apply_ite State.calm, apply_ite Prod.fst, ite_self, implies_true, eq_self, calm_foldl, calm_each, calm_when, calm_State_emit, calm_State_used]) | split | (refine (calm_each _ _ _ (fun x t => ?_)).trans ?_) | (refine (calm_when _ _ _ (fun t => ?_)).trans ?_) | (refine (calm_foldl _ _ _ (fun t x => ?_)).trans ?_) | (rename_i h; refine (congrArg (fun x => State.calm (Prod.fst x)) h).symm.trans ?_; simp only [calm_State_txTlp, calm_State_tileFault, calm_State_tileClosed, calm_State_modTile, calm_State_tileFree, apply_ite State.calm, apply_ite Prod.fst, ite_self, implies_true, eq_self, calm_foldl, calm_each, calm_when, calm_State_emit, calm_State_used]; done) | intro x)

theorem calm_execEgressRelease (a1) (s : State) : ∀ t, execEgressRelease a1 s = .next t → t.calm = s.calm := by
  intro t h; unfold execEgressRelease at h
  rcases h
  repeat' (first | with_reducible rfl | (simp only [calm_State_freeFabric, calm_State_freeHost, calm_State_freeNorth, calm_State_freeCdm, calm_State_freeTrace, apply_ite State.calm, apply_ite Prod.fst, ite_self, implies_true, eq_self, calm_foldl, calm_each, calm_when, calm_State_emit, calm_State_used]; done) | (simp only [calm_State_freeFabric, calm_State_freeHost, calm_State_freeNorth, calm_State_freeCdm, calm_State_freeTrace, apply_ite State.calm, apply_ite Prod.fst, ite_self, implies_true, eq_self, calm_foldl, calm_each, calm_when, calm_State_emit, calm_State_used]) | split | (refine (calm_each _ _ _ (fun x t => ?_)).trans ?_) | (refine (calm_when _ _ _ (fun t => ?_)).trans ?_) | (refine (calm_foldl _ _ _ (fun t x => ?_)).trans ?_) | (rename_i h; refine (congrArg (fun x => State.calm (Prod.fst x)) h).symm.trans ?_; simp only [calm_State_freeFabric, calm_State_freeHost, calm_State_freeNorth, calm_State_freeCdm, calm_State_freeTrace, apply_ite State.calm, apply_ite Prod.fst, ite_self, implies_true, eq_self, calm_foldl, calm_each, calm_when, calm_State_emit, calm_State_used]; done) | intro x)

theorem calm_execSubmissionDoorbell (a1) (a2) (a3) (a4) (a5) (s : State) : ∀ t, execSubmissionDoorbell a1 a2 a3 a4 a5 s = .next t → t.calm = s.calm := by
  intro t h; unfold execSubmissionDoorbell at h
  rcases h
  simp only [calm_State_portWrite, calm_State_bell, implies_true, eq_self]

theorem calm_execReplyDoorbell (a1) (a2) (a3) (a4) (a5) (s : State) : ∀ t, execReplyDoorbell a1 a2 a3 a4 a5 s = .next t → t.calm = s.calm := by
  intro t h; unfold execReplyDoorbell at h
  rcases h
  simp only [calm_State_portWrite, calm_State_bell, implies_true, eq_self]

theorem calm_execHostQueueEnable (a1) (a2) (s : State) : ∀ t, execHostQueueEnable a1 a2 s = .next t → t.calm = s.calm := by
  intro t h; unfold execHostQueueEnable at h
  rcases h
  simp only [calm_State_ctlWrite, calm_State_hostQueueOpen, implies_true, eq_self]

theorem calm_execHostQueueDisable (a1) (a2) (s : State) : ∀ t, execHostQueueDisable a1 a2 s = .next t → t.calm = s.calm := by
  intro t h; unfold execHostQueueDisable at h
  rcases h
  simp only [calm_State_ctlWrite, calm_State_hostQueueClose, implies_true, eq_self]

theorem calm_execQueueCreate (a1) (a2) (a3) (a4) (a5) (a6) (a7) (s : State) : ∀ t, execQueueCreate a1 a2 a3 a4 a5 a6 a7 s = .next t → t.calm = s.calm := by
  intro t h; unfold execQueueCreate at h
  rcases h
  simp only [calm_State_admitWith, calm_each, calm_State_modObj, calm_State_ok, calm_State_modQueue, implies_true, eq_self, calm_each]

theorem calm_execQueueDestroy (a1) (a2) (a3) (s : State) : ∀ t, execQueueDestroy a1 a2 a3 s = .next t → t.calm = s.calm := by
  intro t h; unfold execQueueDestroy at h
  rcases h
  simp only [calm_State_admitWith, calm_State_destroyQueue, implies_true, eq_self]

theorem calm_execNop (a1) (s : State) : ∀ t, execNop a1 s = .next t → t.calm = s.calm := by
  intro t h; unfold execNop at h
  rcases h
  simp only [calm_State_admitCmd, calm_State_ok, implies_true, eq_self]

theorem calm_execIdentify (a1) (s : State) : ∀ t, execIdentify a1 s = .next t → t.calm = s.calm := by
  intro t h; unfold execIdentify at h
  rcases h
  simp only [calm_State_admitCmd, calm_State_ok, implies_true, eq_self]

theorem calm_execCarry (a1) (a2) (a3) (a4) (a5) (a6) (a7) (a8) (s : State) : ∀ t, execCarry a1 a2 a3 a4 a5 a6 a7 a8 s = .next t → t.calm = s.calm := by
  intro t h; unfold execCarry at h
  rcases h
  simp only [calm_State_admitCmd, calm_State_endsWith, calm_State_cntr, calm_State_modCmd, apply_ite State.calm, ite_self, implies_true, eq_self]

theorem calm_execReplyPoll (a1) (a2) (s : State) : ∀ t, execReplyPoll a1 a2 s = .next t → t.calm = s.calm := by
  intro t h; unfold execReplyPoll at h
  rcases h
  repeat' (first | with_reducible rfl | (simp only [calm_State_admitCmd, calm_State_endsWith, calm_State_complete, apply_ite State.calm, apply_ite Prod.fst, ite_self, implies_true, eq_self, calm_foldl, calm_each, calm_when, calm_State_emit, calm_State_used]; done) | (simp only [calm_State_admitCmd, calm_State_endsWith, calm_State_complete, apply_ite State.calm, apply_ite Prod.fst, ite_self, implies_true, eq_self, calm_foldl, calm_each, calm_when, calm_State_emit, calm_State_used]) | split | (refine (calm_each _ _ _ (fun x t => ?_)).trans ?_) | (refine (calm_when _ _ _ (fun t => ?_)).trans ?_) | (refine (calm_foldl _ _ _ (fun t x => ?_)).trans ?_) | (rename_i h; refine (congrArg (fun x => State.calm (Prod.fst x)) h).symm.trans ?_; simp only [calm_State_admitCmd, calm_State_endsWith, calm_State_complete, apply_ite State.calm, apply_ite Prod.fst, ite_self, implies_true, eq_self, calm_foldl, calm_each, calm_when, calm_State_emit, calm_State_used]; done) | (refine (calm_State_admitCmd _ _ _ _ _ (fun y0 t => ?_)).trans ?_) | intro x)

theorem calm_execStoredReplyExpire (a1) (a2) (s : State) : ∀ t, execStoredReplyExpire a1 a2 s = .next t → t.calm = s.calm := by
  intro t h; unfold execStoredReplyExpire at h
  rcases h
  simp only [calm_State_modCmd, eq_self]

theorem calm_execPartPolicy (a1) (a2) (s : State) : ∀ t, execPartPolicy a1 a2 s = .next t → t.calm = s.calm := by
  intro t h; unfold execPartPolicy at h
  rcases h
  simp only [calm_State_admitCmd, calm_State_ok, calm_State_writeRecord, calm_State_setPolicy, implies_true, eq_self]

theorem calm_execPartAssign (a1) (a2) (a3) (a4) (a5) (a6) (a7) (a8) (a9) (a10) (a11) (a12) (s : State) : ∀ t, execPartAssign a1 a2 a3 a4 a5 a6 a7 a8 a9 a10 a11 a12 s = .next t → t.calm = s.calm := by
  intro t h; unfold execPartAssign at h
  rcases h
  simp only [calm_State_admitWith, calm_State_assignNew, calm_State_modCmd, calm_State_eraseRecord, calm_State_tryJoin, calm_State_ok, calm_State_endsWith, apply_ite State.calm, ite_self, implies_true, eq_self]

theorem calm_execRegionAdd (a1) (a2) (a3) (s : State) : ∀ t, execRegionAdd a1 a2 a3 s = .next t → t.calm = s.calm := by
  intro t h; unfold execRegionAdd at h
  rcases h
  simp only [calm_State_admitCmd, calm_each, calm_State_ownRegion, calm_State_modPart, calm_State_ok, calm_State_writeRecord, implies_true, eq_self, calm_each]

theorem calm_execRegionRearm (a1) (a2) (s : State) : ∀ t, execRegionRearm a1 a2 s = .next t → t.calm = s.calm := by
  intro t h; unfold execRegionRearm at h
  rcases h
  simp only [calm_State_admitCmd, calm_State_ok, calm_State_setAnchor, calm_State_modSg, calm_State_dropRegion, implies_true, eq_self]

theorem calm_execManifestStage (a1) (a2) (a3) (s : State) : ∀ t, execManifestStage a1 a2 a3 s = .next t → t.calm = s.calm := by
  intro t h; unfold execManifestStage at h
  rcases h
  repeat' (first | with_reducible rfl | (simp only [calm_State_admitCmd, calm_State_ok, calm_State_modCmd, calm_State_endsWith, apply_ite State.calm, apply_ite Prod.fst, ite_self, implies_true, eq_self, calm_foldl, calm_each, calm_when, calm_State_emit, calm_State_used]; done) | (simp only [calm_State_admitCmd, calm_State_ok, calm_State_modCmd, calm_State_endsWith, apply_ite State.calm, apply_ite Prod.fst, ite_self, implies_true, eq_self, calm_foldl, calm_each, calm_when, calm_State_emit, calm_State_used]) | split | (refine (calm_each _ _ _ (fun x t => ?_)).trans ?_) | (refine (calm_when _ _ _ (fun t => ?_)).trans ?_) | (refine (calm_foldl _ _ _ (fun t x => ?_)).trans ?_) | (rename_i h; refine (congrArg (fun x => State.calm (Prod.fst x)) h).symm.trans ?_; simp only [calm_State_admitCmd, calm_State_ok, calm_State_modCmd, calm_State_endsWith, apply_ite State.calm, apply_ite Prod.fst, ite_self, implies_true, eq_self, calm_foldl, calm_each, calm_when, calm_State_emit, calm_State_used]; done) | (refine (calm_State_admitCmd _ _ _ _ _ (fun y0 t => ?_)).trans ?_) | intro x)

theorem calm_execGetVersion (a1) (s : State) : ∀ t, execGetVersion a1 s = .next t → t.calm = s.calm := by
  intro t h; unfold execGetVersion at h
  rcases h
  simp only [calm_State_spdm, calm_State_respond, implies_true, eq_self]

theorem calm_execGetCapabilities (a1) (s : State) : ∀ t, execGetCapabilities a1 s = .next t → t.calm = s.calm := by
  intro t h; unfold execGetCapabilities at h
  rcases h
  simp only [calm_State_spdm, calm_State_respond, implies_true, eq_self]

theorem calm_execNegotiateAlgorithms (a1) (a2) (s : State) : ∀ t, execNegotiateAlgorithms a1 a2 s = .next t → t.calm = s.calm := by
  intro t h; unfold execNegotiateAlgorithms at h
  rcases h
  simp only [calm_State_spdm, calm_State_modAtt, calm_State_respond, apply_ite State.calm, ite_self, implies_true, eq_self]

theorem calm_execGetDigests (a1) (s : State) : ∀ t, execGetDigests a1 s = .next t → t.calm = s.calm := by
  intro t h; unfold execGetDigests at h
  rcases h
  simp only [calm_State_spdm, calm_State_respond, implies_true, eq_self]

theorem calm_execGetCertificate (a1) (a2) (s : State) : ∀ t, execGetCertificate a1 a2 s = .next t → t.calm = s.calm := by
  intro t h; unfold execGetCertificate at h
  rcases h
  simp only [calm_State_spdm, calm_State_respond, apply_ite State.calm, ite_self, implies_true, eq_self]

theorem calm_execChallenge (a1) (a2) (s : State) : ∀ t, execChallenge a1 a2 s = .next t → t.calm = s.calm := by
  intro t h; unfold execChallenge at h
  rcases h
  simp only [calm_State_spdm, calm_State_respond, calm_State_aliasSigned, apply_ite State.calm, ite_self, implies_true, eq_self]

theorem calm_execGetMeasurements (a1) (a2) (a3) (s : State) : ∀ t, execGetMeasurements a1 a2 a3 s = .next t → t.calm = s.calm := by
  intro t h; unfold execGetMeasurements at h
  rcases h
  simp only [calm_State_spdm, calm_State_respond, calm_State_aliasSigned, apply_ite State.calm, ite_self, implies_true, eq_self]

theorem calm_execMeasLockRise (s : State) : ∀ t, execMeasLockRise s = .next t → t.calm = s.calm := by
  intro t h; unfold execMeasLockRise at h
  rcases h
  simp only [calm_State_modAtt, apply_ite State.calm, ite_self, eq_self]

theorem calm_execMeasDiscardAfterLock (s : State) : ∀ t, execMeasDiscardAfterLock s = .next t → t.calm = s.calm := by
  intro t h; unfold execMeasDiscardAfterLock at h
  rcases h
  simp only [calm_State_measDiscard, apply_ite State.calm, ite_self, eq_self]

theorem calm_execMeasImage (a1) (a2) (s : State) : ∀ t, execMeasImage a1 a2 s = .next t → t.calm = s.calm := by
  intro t h; unfold execMeasImage at h
  rcases h
  simp only [calm_State_measDiscard, calm_State_modAtt, apply_ite State.calm, ite_self, eq_self]

theorem calm_execKeyExchange (a1) (a2) (s : State) : ∀ t, execKeyExchange a1 a2 s = .next t → t.calm = s.calm := by
  intro t h; unfold execKeyExchange at h
  rcases h
  repeat' (first | with_reducible rfl | (simp only [calm_State_spdm, calm_State_respond, calm_State_pkeAdd, calm_State_modCmd, calm_State_abandonAsk, apply_ite State.calm, apply_ite Prod.fst, ite_self, implies_true, eq_self, calm_foldl, calm_each, calm_when, calm_State_emit, calm_State_used]; done) | (simp only [calm_State_spdm, calm_State_respond, calm_State_pkeAdd, calm_State_modCmd, calm_State_abandonAsk, apply_ite State.calm, apply_ite Prod.fst, ite_self, implies_true, eq_self, calm_foldl, calm_each, calm_when, calm_State_emit, calm_State_used]) | split | (refine (calm_each _ _ _ (fun x t => ?_)).trans ?_) | (refine (calm_when _ _ _ (fun t => ?_)).trans ?_) | (refine (calm_foldl _ _ _ (fun t x => ?_)).trans ?_) | (rename_i h; refine (congrArg (fun x => State.calm (Prod.fst x)) h).symm.trans ?_; simp only [calm_State_spdm, calm_State_respond, calm_State_pkeAdd, calm_State_modCmd, calm_State_abandonAsk, apply_ite State.calm, apply_ite Prod.fst, ite_self, implies_true, eq_self, calm_foldl, calm_each, calm_when, calm_State_emit, calm_State_used]; done) | (refine (calm_State_spdm _ _ _ _ (fun t => ?_)).trans ?_) | intro x)

theorem calm_execFinish (a1) (a2) (a3) (s : State) : ∀ t, execFinish a1 a2 a3 s = .next t → t.calm = s.calm := by
  intro t h; unfold execFinish at h
  rcases h
  simp only [calm_State_spdm, calm_State_pkeAdd, calm_State_respond, apply_ite State.calm, ite_self, implies_true, eq_self]

theorem calm_execEndSession (a1) (a2) (s : State) : ∀ t, execEndSession a1 a2 s = .next t → t.calm = s.calm := by
  intro t h; unfold execEndSession at h
  rcases h
  repeat' (first | with_reducible rfl | (simp only [calm_State_spdm, calm_State_respond, calm_State_endSecured, apply_ite State.calm, apply_ite Prod.fst, ite_self, implies_true, eq_self, calm_foldl, calm_each, calm_when, calm_State_emit, calm_State_used]; done) | (simp only [calm_State_spdm, calm_State_respond, calm_State_endSecured, apply_ite State.calm, apply_ite Prod.fst, ite_self, implies_true, eq_self, calm_foldl, calm_each, calm_when, calm_State_emit, calm_State_used]) | split | (refine (calm_each _ _ _ (fun x t => ?_)).trans ?_) | (refine (calm_when _ _ _ (fun t => ?_)).trans ?_) | (refine (calm_foldl _ _ _ (fun t x => ?_)).trans ?_) | (rename_i h; refine (congrArg (fun x => State.calm (Prod.fst x)) h).symm.trans ?_; simp only [calm_State_spdm, calm_State_respond, calm_State_endSecured, apply_ite State.calm, apply_ite Prod.fst, ite_self, implies_true, eq_self, calm_foldl, calm_each, calm_when, calm_State_emit, calm_State_used]; done) | (refine (calm_State_spdm _ _ _ _ (fun t => ?_)).trans ?_) | intro x)

theorem calm_execHeartbeat (a1) (a2) (s : State) : ∀ t, execHeartbeat a1 a2 s = .next t → t.calm = s.calm := by
  intro t h; unfold execHeartbeat at h
  rcases h
  simp only [calm_State_spdm, calm_State_respond, implies_true, eq_self]

theorem calm_execHeartbeatLoss (a1) (a2) (s : State) : ∀ t, execHeartbeatLoss a1 a2 s = .next t → t.calm = s.calm := by
  intro t h; unfold execHeartbeatLoss at h
  rcases h
  repeat' (first | with_reducible rfl | (simp only [calm_State_endSecured, apply_ite State.calm, apply_ite Prod.fst, ite_self, implies_true, eq_self, calm_foldl, calm_each, calm_when, calm_State_emit, calm_State_used]; done) | (simp only [calm_State_endSecured, apply_ite State.calm, apply_ite Prod.fst, ite_self, implies_true, eq_self, calm_foldl, calm_each, calm_when, calm_State_emit, calm_State_used]) | split | (refine (calm_each _ _ _ (fun x t => ?_)).trans ?_) | (refine (calm_when _ _ _ (fun t => ?_)).trans ?_) | (refine (calm_foldl _ _ _ (fun t x => ?_)).trans ?_) | (rename_i h; refine (congrArg (fun x => State.calm (Prod.fst x)) h).symm.trans ?_; simp only [calm_State_endSecured, apply_ite State.calm, apply_ite Prod.fst, ite_self, implies_true, eq_self, calm_foldl, calm_each, calm_when, calm_State_emit, calm_State_used]; done) | intro x)

theorem calm_execKeyUpdate (a1) (a2) (s : State) : ∀ t, execKeyUpdate a1 a2 s = .next t → t.calm = s.calm := by
  intro t h; unfold execKeyUpdate at h
  rcases h
  repeat' (first | with_reducible rfl | (simp only [calm_State_spdm, calm_State_respond, calm_State_modCmd, calm_each, calm_State_renew, calm_State_retire, apply_ite State.calm, apply_ite Prod.fst, ite_self, implies_true, eq_self, calm_foldl, calm_each, calm_when, calm_State_emit, calm_State_used]; done) | (simp only [calm_State_spdm, calm_State_respond, calm_State_modCmd, calm_each, calm_State_renew, calm_State_retire, apply_ite State.calm, apply_ite Prod.fst, ite_self, implies_true, eq_self, calm_foldl, calm_each, calm_when, calm_State_emit, calm_State_used]) | split | (refine (calm_each _ _ _ (fun x t => ?_)).trans ?_) | (refine (calm_when _ _ _ (fun t => ?_)).trans ?_) | (refine (calm_foldl _ _ _ (fun t x => ?_)).trans ?_) | (rename_i h; refine (congrArg (fun x => State.calm (Prod.fst x)) h).symm.trans ?_; simp only [calm_State_spdm, calm_State_respond, calm_State_modCmd, calm_each, calm_State_renew, calm_State_retire, apply_ite State.calm, apply_ite Prod.fst, ite_self, implies_true, eq_self, calm_foldl, calm_each, calm_when, calm_State_emit, calm_State_used]; done) | (refine (calm_State_spdm _ _ _ _ (fun t => ?_)).trans ?_) | intro x)

theorem calm_execGetCsr (a1) (a2) (s : State) : ∀ t, execGetCsr a1 a2 s = .next t → t.calm = s.calm := by
  intro t h; unfold execGetCsr at h
  rcases h
  simp only [calm_State_spdm, calm_State_pkeAdd, calm_State_respond, apply_ite State.calm, ite_self, implies_true, eq_self]

theorem calm_execSetCertificate (a1) (a2) (a3) (s : State) : ∀ t, execSetCertificate a1 a2 a3 s = .next t → t.calm = s.calm := by
  intro t h; unfold execSetCertificate at h
  rcases h
  simp only [calm_State_spdm, calm_State_respond, calm_State_modAtt, apply_ite State.calm, ite_self, implies_true, eq_self]

theorem calm_execProvision (a1) (a2) (a3) (a4) (s : State) : ∀ t, execProvision a1 a2 a3 a4 s = .next t → t.calm = s.calm := by
  intro t h; unfold execProvision at h
  rcases h
  simp only [calm_State_spdm, calm_State_respond, calm_State_modAtt, apply_ite State.calm, ite_self, implies_true, eq_self]

theorem calm_execSpdmCarriageRx (a1) (a2) (s : State) : ∀ t, execSpdmCarriageRx a1 a2 s = .next t → t.calm = s.calm := by
  intro t h; unfold execSpdmCarriageRx at h
  rcases h
  simp only [calm_State_rx, calm_State_applyCarriage, implies_true, eq_self]

theorem calm_execLinkBind (a1) (a2) (a3) (a4) (s : State) : ∀ t, execLinkBind a1 a2 a3 a4 s = .next t → t.calm = s.calm := by
  intro t h; unfold execLinkBind at h
  rcases h
  simp only [calm_State_spdm, calm_State_pkeAdd, calm_State_respond, apply_ite State.calm, ite_self, implies_true, eq_self]

theorem calm_execAmend (a1) (a2) (a3) (s : State) : ∀ t, execAmend a1 a2 a3 s = .next t → t.calm = s.calm := by
  intro t h; unfold execAmend at h
  rcases h
  simp only [calm_State_spdm, calm_State_pkeAdd, calm_State_amendEnd, apply_ite State.calm, ite_self, implies_true, eq_self]

theorem calm_execAmendFetch (a1) (a2) (a3) (s : State) : ∀ t, execAmendFetch a1 a2 a3 s = .next t → t.calm = s.calm := by
  intro t h; unfold execAmendFetch at h
  rcases h
  simp only [calm_State_spdm, calm_State_respond, apply_ite State.calm, ite_self, implies_true, eq_self]

theorem calm_execEntdaa (a1) (s : State) : ∀ t, execEntdaa a1 s = .next t → t.calm = s.calm := by
  intro t h; unfold execEntdaa at h
  rcases h
  simp only [calm_State_emit, calm_State_modAtt, apply_ite State.calm, ite_self, eq_self, calm_State_emit]

theorem calm_execHotJoinRequest (s : State) : ∀ t, execHotJoinRequest s = .next t → t.calm = s.calm := by
  intro t h; unfold execHotJoinRequest at h
  rcases h
  simp only [calm_State_emit, calm_State_modAtt, apply_ite State.calm, ite_self, eq_self, calm_State_emit]

theorem calm_execSetMaxLength (a1) (a2) (s : State) : ∀ t, execSetMaxLength a1 a2 s = .next t → t.calm = s.calm := by
  intro t h; unfold execSetMaxLength at h
  rcases h
  simp only [calm_State_modAtt, apply_ite State.calm, ite_self, eq_self]

theorem calm_execSetEndpointId (a1) (a2) (s : State) : ∀ t, execSetEndpointId a1 a2 s = .next t → t.calm = s.calm := by
  intro t h; unfold execSetEndpointId at h
  rcases h
  simp only [calm_State_mctp, calm_State_modAtt, apply_ite State.calm, ite_self, eq_self]

theorem calm_execGetEndpointId (s : State) : ∀ t, execGetEndpointId s = .next t → t.calm = s.calm := by
  intro t h; unfold execGetEndpointId at h
  rcases h
  simp only [calm_State_mctp, eq_self]

theorem calm_execGetEndpointUuid (s : State) : ∀ t, execGetEndpointUuid s = .next t → t.calm = s.calm := by
  intro t h; unfold execGetEndpointUuid at h
  rcases h
  simp only [calm_State_mctp, eq_self]

theorem calm_execGetMctpVersionSupport (s : State) : ∀ t, execGetMctpVersionSupport s = .next t → t.calm = s.calm := by
  intro t h; unfold execGetMctpVersionSupport at h
  rcases h
  simp only [calm_State_mctp, eq_self]

theorem calm_execGetMessageTypeSupport (s : State) : ∀ t, execGetMessageTypeSupport s = .next t → t.calm = s.calm := by
  intro t h; unfold execGetMessageTypeSupport at h
  rcases h
  simp only [calm_State_mctp, eq_self]

theorem calm_execCntRead (a1) (a2) (a3) (s : State) : ∀ t, execCntRead a1 a2 a3 s = .next t → t.calm = s.calm := by
  intro t h; unfold execCntRead at h
  rcases h
  simp only [calm_State_admitCmd, calm_State_ok, implies_true, eq_self]

theorem calm_execQuantisationInstant (s : State) : ∀ t, execQuantisationInstant s = .next t → t.calm = s.calm := by
  intro t h; unfold execQuantisationInstant at h
  rcases h
  simp only [calm_each, calm_State_publish, apply_ite State.calm, ite_self, implies_true, eq_self, calm_each]

theorem calm_execTraceCfg (a1) (a2) (a3) (a4) (a5) (a6) (a7) (s : State) : ∀ t, execTraceCfg a1 a2 a3 a4 a5 a6 a7 s = .next t → t.calm = s.calm := by
  intro t h; unfold execTraceCfg at h
  rcases h
  simp only [calm_State_admitWith, calm_State_ok, calm_State_setRing, implies_true, eq_self]

theorem calm_State_traceCtl (h) (ring) (bad) (act : State → State) (s : State) (k : ∀ t, (act t).calm = t.calm) :
    ∀ t, s.traceCtl h ring bad act = .next t → t.calm = s.calm := by
  intro t e; unfold State.traceCtl at e
  rcases e
  exact calm_State_admitCmd _ _ _ _ _ fun p t => (calm_State_ok ..).trans (k t)

theorem calm_execTraceStart (h) (ring) (s : State) : ∀ t, execTraceStart h ring s = .next t → t.calm = s.calm :=
  calm_State_traceCtl _ _ _ _ _ fun t => by
  simp only [apply_ite State.calm, calm_State_setRing, ite_self]

theorem calm_execTraceStop (h) (ring) (s : State) : ∀ t, execTraceStop h ring s = .next t → t.calm = s.calm :=
  calm_State_traceCtl _ _ _ _ _ fun t => calm_State_stopRing ..

theorem calm_execTraceTriggerNow (h) (ring) (s : State) : ∀ t, execTraceTriggerNow h ring s = .next t → t.calm = s.calm :=
  calm_State_traceCtl _ _ _ _ _ fun t => calm_State_trigger ..

theorem calm_execTraceReleaseFreeze (h) (ring) (s : State) : ∀ t, execTraceReleaseFreeze h ring s = .next t → t.calm = s.calm :=
  calm_State_traceCtl _ _ _ _ _ fun t => calm_State_setRing ..

theorem calm_execTraceSectorTimeout (a1) (a2) (s : State) : ∀ t, execTraceSectorTimeout a1 a2 s = .next t → t.calm = s.calm := by
  intro t h; unfold execTraceSectorTimeout at h
  rcases h
  simp only [calm_State_writeRing, calm_State_setRing, apply_ite State.calm, ite_self, eq_self]

theorem calm_execObsMark (a1) (a2) (a3) (a4) (s : State) : ∀ t, execObsMark a1 a2 a3 a4 s = .next t → t.calm = s.calm := by
  intro t h; unfold execObsMark at h
  rcases h
  simp only [calm_State_portWrite, calm_State_mark, implies_true, eq_self]

theorem calm_execSaSeed (a1) (a2) (s : State) : ∀ t, execSaSeed a1 a2 s = .next t → t.calm = s.calm := by
  intro t h; unfold execSaSeed at h
  rcases h
  simp only [calm_State_admitCmd, calm_State_ok, calm_State_modSg, implies_true, eq_self]

theorem calm_execSaStep (a1) (a2) (s : State) : ∀ t, execSaStep a1 a2 s = .next t → t.calm = s.calm := by
  intro t h; unfold execSaStep at h
  rcases h
  simp only [calm_State_admitCmd, calm_State_ok, calm_State_modSg, calm_State_dumpNext, calm_State_modObs, implies_true, eq_self]

theorem calm_execTensorReg (a1) (a2) (a3) (a4) (s : State) : ∀ t, execTensorReg a1 a2 a3 a4 s = .next t → t.calm = s.calm := by
  intro t h; unfold execTensorReg at h
  rcases h
  simp only [calm_State_admitCmd, calm_State_ok, calm_State_modObs, implies_true, eq_self]

theorem calm_execDumpChunkCapture (a1) (a2) (a3) (s : State) : ∀ t, execDumpChunkCapture a1 a2 a3 s = .next t → t.calm = s.calm := by
  intro t h; unfold execDumpChunkCapture at h
  rcases h
  repeat' (first | with_reducible rfl | (simp only [calm_State_innerRead, calm_State_sealRec, calm_State_cdmWrite, calm_State_modObs, calm_State_dumpNext, calm_State_dumpEnd, apply_ite State.calm, apply_ite Prod.fst, ite_self, implies_true, eq_self, calm_foldl, calm_each, calm_when, calm_State_emit, calm_State_used]; done) | (simp only [calm_State_innerRead, calm_State_sealRec, calm_State_cdmWrite, calm_State_modObs, calm_State_dumpNext, calm_State_dumpEnd, apply_ite State.calm, apply_ite Prod.fst, ite_self, implies_true, eq_self, calm_foldl, calm_each, calm_when, calm_State_emit, calm_State_used]) | split | (refine (calm_each _ _ _ (fun x t => ?_)).trans ?_) | (refine (calm_when _ _ _ (fun t => ?_)).trans ?_) | (refine (calm_foldl _ _ _ (fun t x => ?_)).trans ?_) | (rename_i h; refine (congrArg (fun x => State.calm (Prod.fst x)) h).symm.trans ?_; simp only [calm_State_innerRead, calm_State_sealRec, calm_State_cdmWrite, calm_State_modObs, calm_State_dumpNext, calm_State_dumpEnd, apply_ite State.calm, apply_ite Prod.fst, ite_self, implies_true, eq_self, calm_foldl, calm_each, calm_when, calm_State_emit, calm_State_used]; done) | intro x)

theorem calm_execDumpStepTimeout (a1) (a2) (s : State) : ∀ t, execDumpStepTimeout a1 a2 s = .next t → t.calm = s.calm := by
  intro t h; unfold execDumpStepTimeout at h
  rcases h
  repeat' (first | with_reducible rfl | (simp only [calm_State_dumpEnd, apply_ite State.calm, apply_ite Prod.fst, ite_self, implies_true, eq_self, calm_foldl, calm_each, calm_when, calm_State_emit, calm_State_used]; done) | (simp only [calm_State_dumpEnd, apply_ite State.calm, apply_ite Prod.fst, ite_self, implies_true, eq_self, calm_foldl, calm_each, calm_when, calm_State_emit, calm_State_used]) | split | (refine (calm_each _ _ _ (fun x t => ?_)).trans ?_) | (refine (calm_when _ _ _ (fun t => ?_)).trans ?_) | (refine (calm_foldl _ _ _ (fun t x => ?_)).trans ?_) | (rename_i h; refine (congrArg (fun x => State.calm (Prod.fst x)) h).symm.trans ?_; simp only [calm_State_dumpEnd, apply_ite State.calm, apply_ite Prod.fst, ite_self, implies_true, eq_self, calm_foldl, calm_each, calm_when, calm_State_emit, calm_State_used]; done) | intro x)

theorem calm_execPressRead (a1) (a2) (a3) (s : State) : ∀ t, execPressRead a1 a2 a3 s = .next t → t.calm = s.calm := by
  intro t h; unfold execPressRead at h
  rcases h
  simp only [calm_State_admitCmd, calm_State_okTrailer, implies_true, eq_self]

theorem calm_execPressRelease (a1) (s : State) : ∀ t, execPressRelease a1 s = .next t → t.calm = s.calm := by
  intro t h; unfold execPressRelease at h
  rcases h
  simp only [calm_State_admitCmd, calm_State_ok, calm_State_unfreeze, implies_true, eq_self]

theorem calm_execPressFlush (s : State) : ∀ t, execPressFlush s = .next t → t.calm = s.calm := by
  intro t h; unfold execPressFlush at h
  rcases h
  simp only [calm_State_flushPress, apply_ite State.calm, ite_self, eq_self]

theorem calm_execTrigPulseEnd (a1) (s : State) : ∀ t, execTrigPulseEnd a1 s = .next t → t.calm = s.calm := by
  intro t h; unfold execTrigPulseEnd at h
  rcases h
  simp only [calm_State_modPins, calm_State_modDt, calm_each, calm_State_schedEnds, apply_ite State.calm, ite_self, implies_true, eq_self, calm_each]

theorem calm_execStopMarkerSend (a1) (a2) (s : State) : ∀ t, execStopMarkerSend a1 a2 s = .next t → t.calm = s.calm := by
  intro t h; unfold execStopMarkerSend at h
  rcases h
  simp only [calm_State_enqueue, calm_State_setStop, apply_ite State.calm, ite_self, eq_self]

theorem calm_execStopMarkerRx (a1) (a2) (a3) (s : State) : ∀ t, execStopMarkerRx a1 a2 a3 s = .next t → t.calm = s.calm := by
  intro t h; unfold execStopMarkerRx at h
  rcases h
  simp only [calm_State_rx, calm_State_applyMarker, implies_true, eq_self]

theorem calm_execStopMarkerTimeout (a1) (s : State) : ∀ t, execStopMarkerTimeout a1 s = .next t → t.calm = s.calm := by
  intro t h; unfold execStopMarkerTimeout at h
  rcases h
  simp only [calm_State_resumeGo, calm_State_stopLoses, eq_self]

theorem calm_execSchedCommit (a1) (s : State) : ∀ t, execSchedCommit a1 s = .next t → t.calm = s.calm := by
  intro t h; unfold execSchedCommit at h
  rcases h
  simp only [calm_State_fires, calm_State_actCommit, implies_true, eq_self]

theorem calm_execSchedEpoch (a1) (s : State) : ∀ t, execSchedEpoch a1 s = .next t → t.calm = s.calm := by
  intro t h; unfold execSchedEpoch at h
  rcases h
  simp only [calm_State_fires, calm_State_actEpoch, implies_true, eq_self]

theorem calm_execSchedResalt (a1) (s : State) : ∀ t, execSchedResalt a1 s = .next t → t.calm = s.calm := by
  intro t h; unfold execSchedResalt at h
  rcases h
  simp only [calm_State_fires, calm_State_actResalt, implies_true, eq_self]

theorem calm_execSchedStop (a1) (s : State) : ∀ t, execSchedStop a1 s = .next t → t.calm = s.calm := by
  intro t h; unfold execSchedStop at h
  rcases h
  simp only [calm_State_fires, calm_State_actStop, implies_true, eq_self]

theorem calm_execSchedTraceTrig (a1) (s : State) : ∀ t, execSchedTraceTrig a1 s = .next t → t.calm = s.calm := by
  intro t h; unfold execSchedTraceTrig at h
  rcases h
  simp only [calm_State_fires, calm_State_actTrace, implies_true, eq_self]

theorem calm_execSchedDump (a1) (s : State) : ∀ t, execSchedDump a1 s = .next t → t.calm = s.calm := by
  intro t h; unfold execSchedDump at h
  rcases h
  simp only [calm_State_fires, calm_State_actDump, implies_true, eq_self]

theorem calm_execSchedTrigOut (a1) (s : State) : ∀ t, execSchedTrigOut a1 s = .next t → t.calm = s.calm := by
  intro t h; unfold execSchedTrigOut at h
  rcases h
  simp only [calm_State_fires, calm_State_actTrig, implies_true, eq_self]

theorem calm_execSchedResume (a1) (s : State) : ∀ t, execSchedResume a1 s = .next t → t.calm = s.calm := by
  intro t h; unfold execSchedResume at h
  rcases h
  simp only [calm_State_resume, calm_State_fires, calm_State_actResume, apply_ite State.calm, ite_self, implies_true, eq_self]

theorem calm_execDomainSchedEntryRx (a1) (a2) (a3) (s : State) : ∀ t, execDomainSchedEntryRx a1 a2 a3 s = .next t → t.calm = s.calm := by
  intro t h; unfold execDomainSchedEntryRx at h
  rcases h
  simp only [calm_State_rx, calm_State_applyEntry, implies_true, eq_self]

theorem calm_execDomainSchedCancelRx (a1) (a2) (a3) (s : State) : ∀ t, execDomainSchedCancelRx a1 a2 a3 s = .next t → t.calm = s.calm := by
  intro t h; unfold execDomainSchedCancelRx at h
  rcases h
  simp only [calm_State_rx, calm_State_applyCancel, implies_true, eq_self]

theorem calm_execSchedArm (a1) (a2) (s : State) : ∀ t, execSchedArm a1 a2 s = .next t → t.calm = s.calm := by
  intro t h; unfold execSchedArm at h
  rcases h
  simp only [calm_State_admitCmd, calm_State_setSched, calm_State_ok, calm_State_broadcast, calm_State_see, apply_ite State.calm, ite_self, implies_true, eq_self]

theorem calm_execSchedCancel (a1) (a2) (a3) (s : State) : ∀ t, execSchedCancel a1 a2 a3 s = .next t → t.calm = s.calm := by
  intro t h; unfold execSchedCancel at h
  rcases h
  repeat' (first | with_reducible rfl | (simp only [calm_State_admitCmd, calm_State_setSched, calm_State_ok, calm_State_broadcast, calm_State_see, calm_State_endsWith, apply_ite State.calm, apply_ite Prod.fst, ite_self, implies_true, eq_self, calm_foldl, calm_each, calm_when, calm_State_emit, calm_State_used]; done) | (simp only [calm_State_admitCmd, calm_State_setSched, calm_State_ok, calm_State_broadcast, calm_State_see, calm_State_endsWith, apply_ite State.calm, apply_ite Prod.fst, ite_self, implies_true, eq_self, calm_foldl, calm_each, calm_when, calm_State_emit, calm_State_used]) | split | (refine (calm_each _ _ _ (fun x t => ?_)).trans ?_) | (refine (calm_when _ _ _ (fun t => ?_)).trans ?_) | (refine (calm_foldl _ _ _ (fun t x => ?_)).trans ?_) | (rename_i h; refine (congrArg (fun x => State.calm (Prod.fst x)) h).symm.trans ?_; simp only [calm_State_admitCmd, calm_State_setSched, calm_State_ok, calm_State_broadcast, calm_State_see, calm_State_endsWith, apply_ite State.calm, apply_ite Prod.fst, ite_self, implies_true, eq_self, calm_foldl, calm_each, calm_when, calm_State_emit, calm_State_used]; done) | (refine (calm_State_admitCmd _ _ _ _ _ (fun y0 t => ?_)).trans ?_) | intro x)

theorem calm_execPfenceAckRise (a1) (s : State) : ∀ t, execPfenceAckRise a1 s = .next t → t.calm = s.calm := by
  intro t h; unfold execPfenceAckRise at h
  rcases h
  simp only [calm_State_modPins, calm_State_resetsGo, calm_State_fenceMn, calm_State_lowerPfence, apply_ite State.calm, ite_self, eq_self]

theorem calm_execPfenceAckFall (a1) (s : State) : ∀ t, execPfenceAckFall a1 s = .next t → t.calm = s.calm := by
  intro t h; unfold execPfenceAckFall at h
  rcases h
  simp only [calm_State_modPins, calm_State_raisePfence, apply_ite State.calm, ite_self, eq_self]

theorem calm_execEngRstAckRise (a1) (s : State) : ∀ t, execEngRstAckRise a1 s = .next t → t.calm = s.calm := by
  intro t h; unfold execEngRstAckRise at h
  rcases h
  repeat' (first | with_reducible rfl | (simp only [calm_State_modPins, calm_State_modRst, apply_ite State.calm, apply_ite Prod.fst, ite_self, implies_true, eq_self, calm_foldl, calm_each, calm_when, calm_State_emit, calm_State_used]; done) | (simp only [calm_State_modPins, calm_State_modRst, apply_ite State.calm, apply_ite Prod.fst, ite_self, implies_true, eq_self, calm_foldl, calm_each, calm_when, calm_State_emit, calm_State_used]) | split | (refine (calm_each _ _ _ (fun x t => ?_)).trans ?_) | (refine (calm_when _ _ _ (fun t => ?_)).trans ?_) | (refine (calm_foldl _ _ _ (fun t x => ?_)).trans ?_) | (rename_i h; refine (congrArg (fun x => State.calm (Prod.fst x)) h).symm.trans ?_; simp only [calm_State_modPins, calm_State_modRst, apply_ite State.calm, apply_ite Prod.fst, ite_self, implies_true, eq_self, calm_foldl, calm_each, calm_when, calm_State_emit, calm_State_used]; done) | intro x)

theorem calm_execEngRstAckFall (a1) (s : State) : ∀ t, execEngRstAckFall a1 s = .next t → t.calm = s.calm := by
  intro t h; unfold execEngRstAckFall at h
  rcases h
  repeat' (first | with_reducible rfl | (simp only [calm_State_modPins, calm_State_engineEnd, calm_State_resetsGo, apply_ite State.calm, apply_ite Prod.fst, ite_self, implies_true, eq_self, calm_foldl, calm_each, calm_when, calm_State_emit, calm_State_used]; done) | (simp only [calm_State_modPins, calm_State_engineEnd, calm_State_resetsGo, apply_ite State.calm, apply_ite Prod.fst, ite_self, implies_true, eq_self, calm_foldl, calm_each, calm_when, calm_State_emit, calm_State_used]) | split | (refine (calm_each _ _ _ (fun x t => ?_)).trans ?_) | (refine (calm_when _ _ _ (fun t => ?_)).trans ?_) | (refine (calm_foldl _ _ _ (fun t x => ?_)).trans ?_) | (rename_i h; refine (congrArg (fun x => State.calm (Prod.fst x)) h).symm.trans ?_; simp only [calm_State_modPins, calm_State_engineEnd, calm_State_resetsGo, apply_ite State.calm, apply_ite Prod.fst, ite_self, implies_true, eq_self, calm_foldl, calm_each, calm_when, calm_State_emit, calm_State_used]; done) | intro x)

theorem calm_execCstopAckRise (s : State) : ∀ t, execCstopAckRise s = .next t → t.calm = s.calm := by
  intro t h; unfold execCstopAckRise at h
  rcases h
  simp only [calm_State_modPins, calm_State_lowerCstop, apply_ite State.calm, ite_self, eq_self]

theorem calm_execCstopAckFall (s : State) : ∀ t, execCstopAckFall s = .next t → t.calm = s.calm := by
  intro t h; unfold execCstopAckFall at h
  rcases h
  simp only [calm_State_modPins, calm_State_raiseCstop, apply_ite State.calm, ite_self, eq_self]

theorem calm_execTeardownDrainEnd (a1) (s : State) : ∀ t, execTeardownDrainEnd a1 s = .next t → t.calm = s.calm := by
  intro t h; unfold execTeardownDrainEnd at h
  rcases h
  simp only [calm_State_ctxResetEnd, calm_State_teardownEnd, calm_State_endSteps, apply_ite State.calm, ite_self, eq_self]

theorem calm_execRstContext (a1) (a2) (s : State) : ∀ t, execRstContext a1 a2 s = .next t → t.calm = s.calm := by
  intro t h; unfold execRstContext at h
  rcases h
  simp only [calm_State_admitWith, calm_State_addStep, calm_State_modCtx, calm_State_ctxResetEnd, calm_State_drainCtx, calm_State_tilesFenced, calm_State_discardQueues, implies_true, eq_self]

theorem calm_execRstEngine (a1) (a2) (s : State) : ∀ t, execRstEngine a1 a2 s = .next t → t.calm = s.calm := by
  intro t h; unfold execRstEngine at h
  rcases h
  simp only [calm_State_admitCmd, calm_State_engineStep, implies_true, eq_self]

theorem calm_execRstPartition (a1) (s : State) : ∀ t, execRstPartition a1 s = .next t → t.calm = s.calm := by
  intro t h; unfold execRstPartition at h
  rcases h
  simp only [calm_State_admitCmd, calm_State_partStep, implies_true, eq_self]

theorem calm_execPartRelease (a1) (a2) (s : State) : ∀ t, execPartRelease a1 a2 s = .next t → t.calm = s.calm := by
  intro t h; unfold execPartRelease at h
  rcases h
  simp only [calm_State_eraseRecord, calm_State_admitCmd, calm_State_partStep, apply_ite State.calm, ite_self, implies_true, eq_self]

theorem calm_execDomainTeardown (a1) (s : State) : ∀ t, execDomainTeardown a1 s = .next t → t.calm = s.calm := by
  intro t h; unfold execDomainTeardown at h
  rcases h
  simp only [calm_State_admitCmd, calm_State_partStep, calm_State_closePart, implies_true, eq_self]

theorem calm_execScrubStepDone (a1) (s : State) : ∀ t, execScrubStepDone a1 s = .next t → t.calm = s.calm := by
  intro t h; unfold execScrubStepDone at h
  rcases h
  repeat' (first | with_reducible rfl | (simp only [calm_State_modPart, calm_State_scrubRetire, calm_State_scrubAnchors, calm_State_fill, calm_State_endSteps, calm_State_drawnPr, calm_each, calm_State_finishRetire, calm_State_retire, calm_State_scrubFree, apply_ite State.calm, apply_ite Prod.fst, ite_self, implies_true, eq_self, calm_foldl, calm_each, calm_when, calm_State_emit, calm_State_used]; done) | (simp only [calm_State_modPart, calm_State_scrubRetire, calm_State_scrubAnchors, calm_State_fill, calm_State_endSteps, calm_State_drawnPr, calm_each, calm_State_finishRetire, calm_State_retire, calm_State_scrubFree, apply_ite State.calm, apply_ite Prod.fst, ite_self, implies_true, eq_self, calm_foldl, calm_each, calm_when, calm_State_emit, calm_State_used]) | split | (refine (calm_each _ _ _ (fun x t => ?_)).trans ?_) | (refine (calm_when _ _ _ (fun t => ?_)).trans ?_) | (refine (calm_foldl _ _ _ (fun t x => ?_)).trans ?_) | (rename_i h; refine (congrArg (fun x => State.calm (Prod.fst x)) h).symm.trans ?_; simp only [calm_State_modPart, calm_State_scrubRetire, calm_State_scrubAnchors, calm_State_fill, calm_State_endSteps, calm_State_drawnPr, calm_each, calm_State_finishRetire, calm_State_retire, calm_State_scrubFree, apply_ite State.calm, apply_ite Prod.fst, ite_self, implies_true, eq_self, calm_foldl, calm_each, calm_when, calm_State_emit, calm_State_used]; done) | intro x)

theorem calm_execZeroFillRegion (a1) (a2) (s : State) : ∀ t, execZeroFillRegion a1 a2 s = .next t → t.calm = s.calm := by
  intro t h; unfold execZeroFillRegion at h
  rcases h
  repeat' (first | with_reducible rfl | (simp only [calm_State_zeroRegion, calm_State_setAnchor, calm_State_modPart, apply_ite State.calm, apply_ite Prod.fst, ite_self, implies_true, eq_self, calm_foldl, calm_each, calm_when, calm_State_emit, calm_State_used]; done) | (simp only [calm_State_zeroRegion, calm_State_setAnchor, calm_State_modPart, apply_ite State.calm, apply_ite Prod.fst, ite_self, implies_true, eq_self, calm_foldl, calm_each, calm_when, calm_State_emit, calm_State_used]) | split | (refine (calm_each _ _ _ (fun x t => ?_)).trans ?_) | (refine (calm_when _ _ _ (fun t => ?_)).trans ?_) | (refine (calm_foldl _ _ _ (fun t x => ?_)).trans ?_) | (rename_i h; refine (congrArg (fun x => State.calm (Prod.fst x)) h).symm.trans ?_; simp only [calm_State_zeroRegion, calm_State_setAnchor, calm_State_modPart, apply_ite State.calm, apply_ite Prod.fst, ite_self, implies_true, eq_self, calm_foldl, calm_each, calm_when, calm_State_emit, calm_State_used]; done) | intro x)

theorem calm_execPowerCycleMessageResend (s : State) : ∀ t, execPowerCycleMessageResend s = .next t → t.calm = s.calm := by
  intro t h; unfold execPowerCycleMessageResend at h
  rcases h
  simp only [calm_State_sendPwr, apply_ite State.calm, ite_self, eq_self]

theorem calm_execTrefLost (s : State) : ∀ t, execTrefLost s = .next t → t.calm = s.calm := by
  intro t h; unfold execTrefLost at h
  rcases h
  simp only [calm_State_modDt, calm_State_dtTo, apply_ite State.calm, ite_self, eq_self]

theorem calm_execWarmReqNRelease (s : State) : ∀ t, execWarmReqNRelease s = .next t → t.calm = s.calm := by
  intro t h; unfold execWarmReqNRelease at h
  rcases h
  simp only [calm_State_modPins, eq_self]

theorem calm_execSupplyWarnAssert (s : State) : ∀ t, execSupplyWarnAssert s = .next t → t.calm = s.calm := by
  intro t h; unfold execSupplyWarnAssert at h
  rcases h
  simp only [calm_State_freezePress, calm_State_modPins, apply_ite State.calm, ite_self, eq_self]

theorem calm_execRejoinReassign (a1) (s : State) : ∀ t, execRejoinReassign a1 s = .next t → t.calm = s.calm := by
  intro t h; unfold execRejoinReassign at h
  rcases h
  repeat' (first | with_reducible rfl | (simp only [calm_State_reassign, apply_ite State.calm, apply_ite Prod.fst, ite_self, implies_true, eq_self, calm_foldl, calm_each, calm_when, calm_State_emit, calm_State_used]; done) | (simp only [calm_State_reassign, apply_ite State.calm, apply_ite Prod.fst, ite_self, implies_true, eq_self, calm_foldl, calm_each, calm_when, calm_State_emit, calm_State_used]) | split | (refine (calm_each _ _ _ (fun x t => ?_)).trans ?_) | (refine (calm_when _ _ _ (fun t => ?_)).trans ?_) | (refine (calm_foldl _ _ _ (fun t x => ?_)).trans ?_) | (rename_i h; refine (congrArg (fun x => State.calm (Prod.fst x)) h).symm.trans ?_; simp only [calm_State_reassign, apply_ite State.calm, apply_ite Prod.fst, ite_self, implies_true, eq_self, calm_foldl, calm_each, calm_when, calm_State_emit, calm_State_used]; done) | intro x)

end Sys2Proof.Machine
end

