-- ==== Sys2Proof/Laws/Still.lean ====
section
/-!
SUPPORT. What no shared operation changes: the netlist parameters, the queue of commands, the time base and the fuse array. One law
for each operation that answers a state; only State.burn (Laws/Otp.lean) programs a fuse.
-/
set_option linter.unusedSimpArgs false
set_option linter.unusedVariables false
set_option linter.unusedTactic false
set_option linter.unreachableTactic false
namespace Sys2Proof.Machine

/-- The parts of the state that every command leaves as they are, but for a fuse burn and a tick. -/
def State.still (s : State) : Params × List Instr × Nat × Tab Word := (s.params, s.pending, s.tref, s.fuse)

theorem still_State_modObs (f) (s : State) : (State.modObs f s).still = s.still := rfl

theorem still_State_modSg (f) (s : State) : (State.modSg f s).still = s.still := rfl

theorem still_State_modPins (f) (s : State) : (State.modPins f s).still = s.still := rfl

theorem still_State_modCmd (f) (s : State) : (State.modCmd f s).still = s.still := rfl

theorem still_State_modKey (f) (s : State) : (State.modKey f s).still = s.still := rfl

theorem still_State_modObju (f) (s : State) : (State.modObju f s).still = s.still := rfl

theorem still_State_modAtt (f) (s : State) : (State.modAtt f s).still = s.still := rfl

theorem still_State_modRegf (f) (s : State) : (State.modRegf f s).still = s.still := rfl

theorem still_State_modBoot (f) (s : State) : (State.modBoot f s).still = s.still := rfl

theorem still_State_modLnk (f) (s : State) : (State.modLnk f s).still = s.still := rfl

theorem still_State_modDt (f) (s : State) : (State.modDt f s).still = s.still := rfl

theorem still_State_modRst (f) (s : State) : (State.modRst f s).still = s.still := rfl

theorem still_State_modShare (f) (s : State) : (State.modShare f s).still = s.still := rfl

theorem still_State_modRem (f) (s : State) : (State.modRem f s).still = s.still := rfl

theorem still_State_modHst (f) (s : State) : (State.modHst f s).still = s.still := rfl

theorem still_State_emit (x) (s : State) : (s.emit x).still = s.still := rfl

theorem still_State_used (s : State) : (s.used).still = s.still := rfl

theorem still_foldl {α} (f : State → α → State) (l : List α) (s : State) (h : ∀ t x, (f t x).still = t.still) : (l.foldl f s).still = s.still := by
  induction l generalizing s with
  | nil => rfl
  | cons a l ih => exact (ih (f s a)).trans (h s a)

theorem still_foldFst {α β} (f : State × β → α → State × β) (l : List α) (x : State × β) (h : ∀ x k, (f x k).1.still = x.1.still) :
    (l.foldl f x).1.still = x.1.still := by
  induction l generalizing x with
  | nil => rfl
  | cons a l ih => exact (ih (f x a)).trans (h x a)

theorem still_each {α} (l : List α) (f : α → State → State) (s : State) (h : ∀ x t, (f x t).still = t.still) : (each l f s).still = s.still := by
  unfold each
  induction l generalizing s with
  | nil => rfl
  | cons a l ih => exact (ih (f a s)).trans (h a s)

theorem still_when (b) (f : State → State) (s : State) (h : ∀ t, (f t).still = t.still) : (when b f s).still = s.still := by
  unfold when; split
  · exact h s
  · rfl

theorem still_State_setReg (a1) (a2) (s : State) : (State.setReg a1 a2 s).still = s.still := by
  unfold State.setReg
  simp only [still_State_modRegf, eq_self]

theorem still_State_setFld (a1) (a2) (a3) (a4) (s : State) : (State.setFld a1 a2 a3 a4 s).still = s.still := by
  unfold State.setFld
  simp only [still_State_setReg, eq_self]

theorem still_State_flag (a1) (a2) (s : State) : (State.flag a1 a2 s).still = s.still := by
  unfold State.flag
  simp only [still_State_setReg, eq_self]

theorem still_State_count (a1) (a2) (a3) (a4) (s : State) : (State.count a1 a2 a3 a4 s).still = s.still := by
  unfold State.count
  simp only [still_State_setFld, eq_self]

theorem still_State_busErr (a1) (s : State) : (State.busErr a1 s).still = s.still := by
  unfold State.busErr
  simp only [still_State_flag, still_State_setReg, still_State_modObs, apply_ite State.still, ite_self, eq_self]

theorem still_State_modPart (a1) (a2) (s : State) : (State.modPart a1 a2 s).still = s.still := by
  unfold State.modPart
  simp only [still_State_modAtt, eq_self]

theorem still_State_glob (a1) (a2) (s : State) : (State.glob a1 a2 s).still = s.still := by
  unfold State.glob
  simp only [still_State_modObs, eq_self]

theorem still_State_cntr (a1) (a2) (a3) (s : State) : (State.cntr a1 a2 a3 s).still = s.still := by
  unfold State.cntr
  simp only [still_State_glob, still_State_modObs, apply_ite State.still, ite_self, eq_self]

theorem still_State_zeroCntrs (a1) (s : State) : (State.zeroCntrs a1 s).still = s.still := by
  unfold State.zeroCntrs
  simp only [still_State_modObs, eq_self]

theorem still_State_pressLoss (s : State) : (State.pressLoss s).still = s.still := by
  unfold State.pressLoss
  simp only [still_State_modObs, still_State_glob, still_State_count, eq_self]

theorem still_State_pressW (a1) (a2) (a3) (a4) (a5) (a6) (s : State) : (State.pressW a1 a2 a3 a4 a5 a6 s).still = s.still := by
  unfold State.pressW
  simp only [still_State_pressLoss, still_State_glob, still_State_modObs, apply_ite State.still, ite_self, eq_self]

theorem still_State_press (a1) (a2) (a3) (a4) (s : State) : (State.press a1 a2 a3 a4 s).still = s.still := by
  unfold State.press
  simp only [still_State_used, still_State_pressW, eq_self, still_State_used]

theorem still_State_setFreeze (a1) (s : State) : (State.setFreeze a1 s).still = s.still := by
  unfold State.setFreeze
  simp only [still_State_modObs, eq_self]

theorem still_State_freezePress (a1) (a2) (a3) (a4) (a5) (s : State) : (State.freezePress a1 a2 a3 a4 a5 s).still = s.still := by
  unfold State.freezePress
  simp only [still_State_setFreeze, still_State_used, still_State_pressW, eq_self, still_State_used]

theorem still_State_unfreeze (a1) (a2) (a3) (s : State) : (State.unfreeze a1 a2 a3 s).still = s.still := by
  unfold State.unfreeze
  simp only [still_State_modObs, still_State_pressW, apply_ite State.still, ite_self, eq_self]

theorem still_State_dtEnter (a1) (s : State) : (State.dtEnter a1 s).still = s.still := by
  unfold State.dtEnter
  simp only [still_State_press, still_State_modDt, apply_ite State.still, ite_self, eq_self]

theorem still_State_modPtp (a1) (a2) (s : State) : (State.modPtp a1 a2 s).still = s.still := by
  unfold State.modPtp
  simp only [still_State_modDt, eq_self]

theorem still_State_modUnit (a1) (a2) (s : State) : (State.modUnit a1 a2 s).still = s.still := by
  unfold State.modUnit
  simp only [still_State_modShare, eq_self]

theorem still_State_wants (a1) (s : State) : (State.wants a1 s).still = s.still := by
  unfold State.wants
  repeat' (first | with_reducible rfl | (simp only [still_State_modUnit, apply_ite State.still, apply_ite Prod.fst, ite_self, implies_true, eq_self, still_foldl, still_each, still_when, still_State_emit, still_State_used]; done) | (simp only [still_State_modUnit, apply_ite State.still, apply_ite Prod.fst, ite_self, implies_true, eq_self, still_foldl, still_each, still_when, still_State_emit, still_State_used]) | split | (refine (still_each _ _ _ (fun x t => ?_)).trans ?_) | (refine (still_when _ _ _ (fun t => ?_)).trans ?_) | (refine (still_foldl _ _ _ (fun t x => ?_)).trans ?_) | (rename_i h; refine (congrArg (fun x => State.still (Prod.fst x)) h).symm.trans ?_; simp only [still_State_modUnit, apply_ite State.still, apply_ite Prod.fst, ite_self, implies_true, eq_self, still_foldl, still_each, still_when, still_State_emit, still_State_used]; done) | (refine (still_foldFst _ _ _ (fun x k => ?_)).trans ?_) | intro x)

theorem still_State_groupWork (a1) (a2) (s : State) : (State.groupWork a1 a2 s).still = s.still := by
  unfold State.groupWork
  simp only [still_State_wants, still_State_modShare, apply_ite State.still, ite_self, eq_self]

theorem still_State_setSlot (a1) (a2) (s : State) : (State.setSlot a1 a2 s).still = s.still := by
  unfold State.setSlot
  simp only [still_State_modKey, eq_self]

theorem still_State_modSlot (a1) (a2) (s : State) : (State.modSlot a1 a2 s).still = s.still := by
  unfold State.modSlot
  simp only [still_State_setSlot, eq_self]

theorem still_State_fill (a1) (a2) (a3) (a4) (a5) (a6) (a7) (a8) (a9) (s : State) : (State.fill a1 a2 a3 a4 a5 a6 a7 a8 a9 s).still = s.still := by
  unfold State.fill
  simp only [still_State_setSlot, eq_self]

theorem still_State_dropDkc (a1) (s : State) : (State.dropDkc a1 s).still = s.still := by
  unfold State.dropDkc
  simp only [still_State_modKey, eq_self]

theorem still_State_dropTag (a1) (s : State) : (State.dropTag a1 s).still = s.still := by
  unfold State.dropTag
  simp only [still_State_modKey, eq_self]

theorem still_State_retire (a1) (s : State) : (State.retire a1 s).still = s.still := by
  unfold State.retire
  simp only [still_State_modKey, still_State_dropDkc, still_State_modSlot, apply_ite State.still, ite_self, eq_self]

theorem still_State_refillSlot (a1) (s : State) : (State.refillSlot a1 s).still = s.still := by
  unfold State.refillSlot
  repeat' (first | with_reducible rfl | (simp only [still_State_modKey, still_State_fill, apply_ite State.still, apply_ite Prod.fst, ite_self, implies_true, eq_self, still_foldl, still_each, still_when, still_State_emit, still_State_used]; done) | (simp only [still_State_modKey, still_State_fill, apply_ite State.still, apply_ite Prod.fst, ite_self, implies_true, eq_self, still_foldl, still_each, still_when, still_State_emit, still_State_used]) | split | (refine (still_each _ _ _ (fun x t => ?_)).trans ?_) | (refine (still_when _ _ _ (fun t => ?_)).trans ?_) | (refine (still_foldl _ _ _ (fun t x => ?_)).trans ?_) | (rename_i h; refine (congrArg (fun x => State.still (Prod.fst x)) h).symm.trans ?_; simp only [still_State_modKey, still_State_fill, apply_ite State.still, apply_ite Prod.fst, ite_self, implies_true, eq_self, still_foldl, still_each, still_when, still_State_emit, still_State_used]; done) | (refine (still_foldFst _ _ _ (fun x k => ?_)).trans ?_) | intro x)

theorem still_State_finishRetire (a1) (s : State) : (State.finishRetire a1 s).still = s.still := by
  unfold State.finishRetire
  simp only [still_State_modSlot, still_State_refillSlot, still_State_setSlot, apply_ite State.still, ite_self, eq_self]

theorem still_State_settleSlot (a1) (s : State) : (State.settleSlot a1 s).still = s.still := by
  unfold State.settleSlot
  simp only [still_State_finishRetire, apply_ite State.still, ite_self, eq_self]

theorem still_State_retireFor (a1) (a2) (s : State) : (State.retireFor a1 a2 s).still = s.still := by
  unfold State.retireFor
  simp only [still_State_modKey, still_State_retire, eq_self]

theorem still_State_retireAll (a1) (s : State) : (State.retireAll a1 s).still = s.still := by
  unfold State.retireAll
  simp only [still_State_modKey, still_each, still_State_retire, implies_true, eq_self, still_each]

theorem still_State_renew (a1) (a2) (a3) (a4) (s : State) : (State.renew a1 a2 a3 a4 s).still = s.still := by
  unfold State.renew
  simp only [still_State_fill, still_State_settleSlot, still_State_retire, eq_self]

theorem still_State_wipeMemSlots (s : State) : (State.wipeMemSlots s).still = s.still := by
  unfold State.wipeMemSlots
  simp only [still_each, still_State_finishRetire, still_State_retire, still_State_modKey, implies_true, eq_self, still_each]

theorem still_State_clearSlots (a1) (s : State) : (State.clearSlots a1 s).still = s.still := by
  unfold State.clearSlots
  simp only [still_State_modKey, eq_self]

theorem still_State_pkeAdd (a1) (s : State) : (State.pkeAdd a1 s).still = s.still := by
  unfold State.pkeAdd
  simp only [still_State_modKey, eq_self]

theorem still_State_setAnchor (a1) (a2) (s : State) : (State.setAnchor a1 a2 s).still = s.still := by
  unfold State.setAnchor
  simp only [still_State_modSg, eq_self]

theorem still_State_useAnchor (a1) (s : State) : (State.useAnchor a1 s).1.still = s.still := by
  unfold State.useAnchor
  simp only [still_State_press, still_State_glob, still_State_setAnchor, apply_ite State.still, apply_ite Prod.fst, ite_self, eq_self]

theorem still_State_wiltAnchor (a1) (s : State) : (State.wiltAnchor a1 s).still = s.still := by
  unfold State.wiltAnchor
  simp only [still_State_setAnchor, still_State_modSg, still_State_cntr, still_State_press, eq_self]

theorem still_State_useRegion (a1) (s : State) : (State.useRegion a1 s).1.still = s.still := by
  unfold State.useRegion
  simp only [still_State_useAnchor, still_State_cntr, still_State_wiltAnchor, apply_ite State.still, apply_ite Prod.fst, ite_self, eq_self]

theorem still_State_modLine (a1) (a2) (s : State) : (State.modLine a1 a2 s).still = s.still := by
  unfold State.modLine
  simp only [still_State_modSg, eq_self]

theorem still_State_insertLine (a1) (a2) (s : State) : (State.insertLine a1 a2 s).still = s.still := by
  unfold State.insertLine
  repeat' (first | with_reducible rfl | (simp only [still_State_modSg, apply_ite State.still, apply_ite Prod.fst, ite_self, implies_true, eq_self, still_foldl, still_each, still_when, still_State_emit, still_State_used]; done) | (simp only [still_State_modSg, apply_ite State.still, apply_ite Prod.fst, ite_self, implies_true, eq_self, still_foldl, still_each, still_when, still_State_emit, still_State_used]) | split | (refine (still_each _ _ _ (fun x t => ?_)).trans ?_) | (refine (still_when _ _ _ (fun t => ?_)).trans ?_) | (refine (still_foldl _ _ _ (fun t x => ?_)).trans ?_) | (rename_i h; refine (congrArg (fun x => State.still (Prod.fst x)) h).symm.trans ?_; simp only [still_State_modSg, apply_ite State.still, apply_ite Prod.fst, ite_self, implies_true, eq_self, still_foldl, still_each, still_when, still_State_emit, still_State_used]; done) | (refine (still_foldFst _ _ _ (fun x k => ?_)).trans ?_) | intro x)

theorem still_State_touchLine (a1) (s : State) : (State.touchLine a1 s).still = s.still := by
  unfold State.touchLine
  repeat' (first | with_reducible rfl | (simp only [still_State_modSg, apply_ite State.still, apply_ite Prod.fst, ite_self, implies_true, eq_self, still_foldl, still_each, still_when, still_State_emit, still_State_used]; done) | (simp only [still_State_modSg, apply_ite State.still, apply_ite Prod.fst, ite_self, implies_true, eq_self, still_foldl, still_each, still_when, still_State_emit, still_State_used]) | split | (refine (still_each _ _ _ (fun x t => ?_)).trans ?_) | (refine (still_when _ _ _ (fun t => ?_)).trans ?_) | (refine (still_foldl _ _ _ (fun t x => ?_)).trans ?_) | (rename_i h; refine (congrArg (fun x => State.still (Prod.fst x)) h).symm.trans ?_; simp only [still_State_modSg, apply_ite State.still, apply_ite Prod.fst, ite_self, implies_true, eq_self, still_foldl, still_each, still_when, still_State_emit, still_State_used]; done) | (refine (still_foldFst _ _ _ (fun x k => ?_)).trans ?_) | intro x)

theorem still_State_dropRegion (a1) (s : State) : (State.dropRegion a1 s).still = s.still := by
  unfold State.dropRegion
  simp only [still_State_modSg, eq_self]

theorem still_State_msQRead (a1) (s : State) : (State.msQRead a1 s).still = s.still := by
  unfold State.msQRead
  simp only [still_State_emit, apply_ite State.still, ite_self, eq_self, still_State_emit]

theorem still_State_msQWrite (a1) (s : State) : (State.msQWrite a1 s).still = s.still := by
  unfold State.msQWrite
  simp only [still_State_emit, apply_ite State.still, ite_self, eq_self, still_State_emit]

theorem still_State_msRead (a1) (a2) (a3) (a4) (a5) (s : State) : (State.msRead a1 a2 a3 a4 a5 s).still = s.still := by
  unfold State.msRead
  simp only [still_State_msQRead, still_State_modSg, eq_self]

theorem still_State_msWrite (a1) (a2) (a3) (a4) (a5) (a6) (a7) (s : State) : (State.msWrite a1 a2 a3 a4 a5 a6 a7 s).still = s.still := by
  unfold State.msWrite
  simp only [still_State_msQWrite, still_State_modSg, eq_self]

theorem still_State_msNext (a1) (a2) (s : State) : (State.msNext a1 a2 s).still = s.still := by
  unfold State.msNext
  repeat' (first | with_reducible rfl | (simp only [still_State_msQRead, still_State_modSg, still_State_msQWrite, apply_ite State.still, apply_ite Prod.fst, ite_self, implies_true, eq_self, still_foldl, still_each, still_when, still_State_emit, still_State_used]; done) | (simp only [still_State_msQRead, still_State_modSg, still_State_msQWrite, apply_ite State.still, apply_ite Prod.fst, ite_self, implies_true, eq_self, still_foldl, still_each, still_when, still_State_emit, still_State_used]) | split | (refine (still_each _ _ _ (fun x t => ?_)).trans ?_) | (refine (still_when _ _ _ (fun t => ?_)).trans ?_) | (refine (still_foldl _ _ _ (fun t x => ?_)).trans ?_) | (rename_i h; refine (congrArg (fun x => State.still (Prod.fst x)) h).symm.trans ?_; simp only [still_State_msQRead, still_State_modSg, still_State_msQWrite, apply_ite State.still, apply_ite Prod.fst, ite_self, implies_true, eq_self, still_foldl, still_each, still_when, still_State_emit, still_State_used]; done) | (refine (still_foldFst _ _ _ (fun x k => ?_)).trans ?_) | intro x)

theorem still_State_fetchLine (a1) (a2) (s : State) : (State.fetchLine a1 a2 s).still = s.still := by
  unfold State.fetchLine
  repeat' (first | with_reducible rfl | (simp only [still_State_insertLine, still_State_cntr, still_State_glob, still_State_msRead, apply_ite State.still, apply_ite Prod.fst, ite_self, implies_true, eq_self, still_foldl, still_each, still_when, still_State_emit, still_State_used]; done) | (simp only [still_State_insertLine, still_State_cntr, still_State_glob, still_State_msRead, apply_ite State.still, apply_ite Prod.fst, ite_self, implies_true, eq_self, still_foldl, still_each, still_when, still_State_emit, still_State_used]) | split | (refine (still_each _ _ _ (fun x t => ?_)).trans ?_) | (refine (still_when _ _ _ (fun t => ?_)).trans ?_) | (refine (still_foldl _ _ _ (fun t x => ?_)).trans ?_) | (rename_i h; refine (congrArg (fun x => State.still (Prod.fst x)) h).symm.trans ?_; simp only [still_State_insertLine, still_State_cntr, still_State_glob, still_State_msRead, apply_ite State.still, apply_ite Prod.fst, ite_self, implies_true, eq_self, still_foldl, still_each, still_when, still_State_emit, still_State_used]; done) | (refine (still_foldFst _ _ _ (fun x k => ?_)).trans ?_) | intro x)

theorem still_State_needLine (a1) (a2) (s : State) : (State.needLine a1 a2 s).1.still = s.still := by
  unfold State.needLine
  repeat' (first | with_reducible rfl | (simp only [still_State_touchLine, still_State_fetchLine, apply_ite State.still, apply_ite Prod.fst, ite_self, implies_true, eq_self, still_foldl, still_each, still_when, still_State_emit, still_State_used]; done) | (simp only [still_State_touchLine, still_State_fetchLine, apply_ite State.still, apply_ite Prod.fst, ite_self, implies_true, eq_self, still_foldl, still_each, still_when, still_State_emit, still_State_used]) | split | (refine (still_each _ _ _ (fun x t => ?_)).trans ?_) | (refine (still_when _ _ _ (fun t => ?_)).trans ?_) | (refine (still_foldl _ _ _ (fun t x => ?_)).trans ?_) | (rename_i h; refine (congrArg (fun x => State.still (Prod.fst x)) h).symm.trans ?_; simp only [still_State_touchLine, still_State_fetchLine, apply_ite State.still, apply_ite Prod.fst, ite_self, implies_true, eq_self, still_foldl, still_each, still_when, still_State_emit, still_State_used]; done) | (refine (still_foldFst _ _ _ (fun x k => ?_)).trans ?_) | intro x)

theorem still_walkLevel (a1) (a2) (a3) (a4) (x : State × Option DWord × List LineId) (l) :
    (State.walkLevel a1 a2 a3 a4 x l).1.still = x.1.still := by
  obtain ⟨s, o, ls⟩ := x
  unfold State.walkLevel
  simp only []
  split
  · exact still_State_needLine ..
  · split
    · split
      · exact (still_State_insertLine ..).trans (still_State_insertLine ..)
      · exact still_State_insertLine ..
    · exact (still_State_needLine ..).trans (still_State_fetchLine ..)

theorem still_walkFold (a1) (a2) (a3) (a4) (l : List Nat) (x : State × Option DWord × List LineId) :
    (l.foldl (State.walkLevel a1 a2 a3 a4) x).1.still = x.1.still := by
  induction l generalizing x with
  | nil => rfl
  | cons a l ih => exact (ih _).trans (still_walkLevel ..)

theorem still_State_walkFrom (a1) (a2) (a3) (a4) (a5) (s : State) : (State.walkFrom a1 a2 a3 a4 a5 s).1.still = s.still := by
  unfold State.walkFrom
  exact (still_walkFold ..).trans (still_each _ _ _ fun _ _ => still_State_touchLine ..)

theorem still_State_walk (a1) (a2) (a3) (a4) (s : State) : (State.walk a1 a2 a3 a4 s).1.still = s.still := still_State_walkFrom ..

theorem still_State_useKey (a1) (a2) (s : State) : (State.useKey a1 a2 s).still = s.still := by
  unfold State.useKey
  repeat' (first | with_reducible rfl | (simp only [still_State_modKey, still_State_cntr, apply_ite State.still, apply_ite Prod.fst, ite_self, implies_true, eq_self, still_foldl, still_each, still_when, still_State_emit, still_State_used]; done) | (simp only [still_State_modKey, still_State_cntr, apply_ite State.still, apply_ite Prod.fst, ite_self, implies_true, eq_self, still_foldl, still_each, still_when, still_State_emit, still_State_used]) | split | (refine (still_each _ _ _ (fun x t => ?_)).trans ?_) | (refine (still_when _ _ _ (fun t => ?_)).trans ?_) | (refine (still_foldl _ _ _ (fun t x => ?_)).trans ?_) | (rename_i h; refine (congrArg (fun x => State.still (Prod.fst x)) h).symm.trans ?_; simp only [still_State_modKey, still_State_cntr, apply_ite State.still, apply_ite Prod.fst, ite_self, implies_true, eq_self, still_foldl, still_each, still_when, still_State_emit, still_State_used]; done) | (refine (still_foldFst _ _ _ (fun x k => ?_)).trans ?_) | intro x)

theorem still_State_insertKey (a1) (a2) (s : State) : (State.insertKey a1 a2 s).still = s.still := by
  unfold State.insertKey
  repeat' (first | with_reducible rfl | (simp only [still_State_modKey, apply_ite State.still, apply_ite Prod.fst, ite_self, implies_true, eq_self, still_foldl, still_each, still_when, still_State_emit, still_State_used]; done) | (simp only [still_State_modKey, apply_ite State.still, apply_ite Prod.fst, ite_self, implies_true, eq_self, still_foldl, still_each, still_when, still_State_emit, still_State_used]) | split | (refine (still_each _ _ _ (fun x t => ?_)).trans ?_) | (refine (still_when _ _ _ (fun t => ?_)).trans ?_) | (refine (still_foldl _ _ _ (fun t x => ?_)).trans ?_) | (rename_i h; refine (congrArg (fun x => State.still (Prod.fst x)) h).symm.trans ?_; simp only [still_State_modKey, apply_ite State.still, apply_ite Prod.fst, ite_self, implies_true, eq_self, still_foldl, still_each, still_when, still_State_emit, still_State_used]; done) | (refine (still_foldFst _ _ _ (fun x k => ?_)).trans ?_) | intro x)

theorem still_State_setAcc (a1) (s : State) : (State.setAcc a1 s).still = s.still := by
  unfold State.setAcc
  simp only [still_State_modSg, eq_self]

theorem still_State_dropAcc (a1) (s : State) : (State.dropAcc a1 s).still = s.still := by
  unfold State.dropAcc
  simp only [still_State_modSg, eq_self]

theorem still_State_fetch (a1) (s : State) : (State.fetch a1 s).still = s.still := by
  unfold State.fetch
  repeat' (first | with_reducible rfl | (simp only [still_State_useKey, still_State_walk, still_State_needLine, still_State_msRead, still_State_groupWork, still_State_setAcc, apply_ite State.still, apply_ite Prod.fst, ite_self, implies_true, eq_self, still_foldl, still_each, still_when, still_State_emit, still_State_used]; done) | (simp only [still_State_useKey, still_State_walk, still_State_needLine, still_State_msRead, still_State_groupWork, still_State_setAcc, apply_ite State.still, apply_ite Prod.fst, ite_self, implies_true, eq_self, still_foldl, still_each, still_when, still_State_emit, still_State_used]) | split | (refine (still_each _ _ _ (fun x t => ?_)).trans ?_) | (refine (still_when _ _ _ (fun t => ?_)).trans ?_) | (refine (still_foldl _ _ _ (fun t x => ?_)).trans ?_) | (rename_i h; refine (congrArg (fun x => State.still (Prod.fst x)) h).symm.trans ?_; simp only [still_State_useKey, still_State_walk, still_State_needLine, still_State_msRead, still_State_groupWork, still_State_setAcc, apply_ite State.still, apply_ite Prod.fst, ite_self, implies_true, eq_self, still_foldl, still_each, still_when, still_State_emit, still_State_used]; done) | (refine (still_foldFst _ _ _ (fun x k => ?_)).trans ?_) | intro x)

theorem still_State_issue (a1) (s : State) : (State.issue a1 s).still = s.still := by
  unfold State.issue
  simp only [still_State_useRegion, still_State_setAcc, still_State_fetch, apply_ite State.still, ite_self, eq_self]

theorem still_State_takeNo (s : State) : (State.takeNo s).still = s.still := by
  unfold State.takeNo
  simp only [still_State_modSg, eq_self]

theorem still_State_startAs (a1) (a2) (s : State) : (State.startAs a1 a2 s).still = s.still := by
  unfold State.startAs
  simp only [still_State_modSg, still_State_issue, still_State_glob, apply_ite State.still, ite_self, eq_self]

theorem still_State_start (a1) (s : State) : (State.start a1 s).still = s.still := by
  unfold State.start
  simp only [still_State_startAs, still_State_takeNo, eq_self]

theorem still_State_plotLook (a1) (a2) (s : State) : (State.plotLook a1 a2 s).1.still = s.still := by
  unfold State.plotLook
  simp only [still_State_modSg, apply_ite State.still, apply_ite Prod.fst, ite_self, eq_self]

theorem still_State_innerPlot (a1) (a2) (s : State) : (State.innerPlot a1 a2 s).1.still = s.still := by
  unfold State.innerPlot
  simp only [still_State_plotLook, apply_ite State.still, apply_ite Prod.fst, ite_self, eq_self]

theorem still_State_innerPlace (a1) (a2) (s : State) : (State.innerPlace a1 a2 s).1.still = s.still := by
  unfold State.innerPlace
  repeat' (first | with_reducible rfl | (simp only [still_State_press, still_State_useRegion, still_State_innerPlot, apply_ite State.still, apply_ite Prod.fst, ite_self, implies_true, eq_self, still_foldl, still_each, still_when, still_State_emit, still_State_used]; done) | (simp only [still_State_press, still_State_useRegion, still_State_innerPlot, apply_ite State.still, apply_ite Prod.fst, ite_self, implies_true, eq_self, still_foldl, still_each, still_when, still_State_emit, still_State_used]) | split | (refine (still_each _ _ _ (fun x t => ?_)).trans ?_) | (refine (still_when _ _ _ (fun t => ?_)).trans ?_) | (refine (still_foldl _ _ _ (fun t x => ?_)).trans ?_) | (rename_i h; refine (congrArg (fun x => State.still (Prod.fst x)) h).symm.trans ?_; simp only [still_State_press, still_State_useRegion, still_State_innerPlot, apply_ite State.still, apply_ite Prod.fst, ite_self, implies_true, eq_self, still_foldl, still_each, still_when, still_State_emit, still_State_used]; done) | (refine (still_foldFst _ _ _ (fun x k => ?_)).trans ?_) | intro x)

theorem still_State_plotSays (a1) (a2) (a3) (s : State) : (State.plotSays a1 a2 a3 s).still = s.still := by
  unfold State.plotSays
  repeat' (first | with_reducible rfl | (simp only [still_State_modSg, still_State_setAcc, still_State_useKey, apply_ite State.still, apply_ite Prod.fst, ite_self, implies_true, eq_self, still_foldl, still_each, still_when, still_State_emit, still_State_used]; done) | (simp only [still_State_modSg, still_State_setAcc, still_State_useKey, apply_ite State.still, apply_ite Prod.fst, ite_self, implies_true, eq_self, still_foldl, still_each, still_when, still_State_emit, still_State_used]) | split | (refine (still_each _ _ _ (fun x t => ?_)).trans ?_) | (refine (still_when _ _ _ (fun t => ?_)).trans ?_) | (refine (still_foldl _ _ _ (fun t x => ?_)).trans ?_) | (rename_i h; refine (congrArg (fun x => State.still (Prod.fst x)) h).symm.trans ?_; simp only [still_State_modSg, still_State_setAcc, still_State_useKey, apply_ite State.still, apply_ite Prod.fst, ite_self, implies_true, eq_self, still_foldl, still_each, still_when, still_State_emit, still_State_used]; done) | (refine (still_foldFst _ _ _ (fun x k => ?_)).trans ?_) | intro x)

theorem still_State_readPlot (a1) (a2) (a3) (s : State) : (State.readPlot a1 a2 a3 s).still = s.still := by
  unfold State.readPlot
  repeat' (first | with_reducible rfl | (simp only [still_State_innerPlace, still_State_plotSays, still_State_start, apply_ite State.still, apply_ite Prod.fst, ite_self, implies_true, eq_self, still_foldl, still_each, still_when, still_State_emit, still_State_used]; done) | (simp only [still_State_innerPlace, still_State_plotSays, still_State_start, apply_ite State.still, apply_ite Prod.fst, ite_self, implies_true, eq_self, still_foldl, still_each, still_when, still_State_emit, still_State_used]) | split | (refine (still_each _ _ _ (fun x t => ?_)).trans ?_) | (refine (still_when _ _ _ (fun t => ?_)).trans ?_) | (refine (still_foldl _ _ _ (fun t x => ?_)).trans ?_) | (rename_i h; refine (congrArg (fun x => State.still (Prod.fst x)) h).symm.trans ?_; simp only [still_State_innerPlace, still_State_plotSays, still_State_start, apply_ite State.still, apply_ite Prod.fst, ite_self, implies_true, eq_self, still_foldl, still_each, still_when, still_State_emit, still_State_used]; done) | (refine (still_foldFst _ _ _ (fun x k => ?_)).trans ?_) | intro x)

theorem still_State_startPlotAs (a1) (a2) (s : State) : (State.startPlotAs a1 a2 s).still = s.still := by
  unfold State.startPlotAs
  simp only [still_State_startAs, still_State_readPlot, apply_ite State.still, ite_self, eq_self]

theorem still_State_startPlot (a1) (s : State) : (State.startPlot a1 s).still = s.still := by
  unfold State.startPlot
  simp only [still_State_startPlotAs, still_State_takeNo, eq_self]

theorem still_State_innerAcc (a1) (a2) (a3) (a4) (a5) (s : State) : (State.innerAcc a1 a2 a3 a4 a5 s).1.still = s.still := by
  unfold State.innerAcc
  repeat' (first | with_reducible rfl | (simp only [still_State_innerPlace, still_State_startPlot, apply_ite State.still, apply_ite Prod.fst, ite_self, implies_true, eq_self, still_foldl, still_each, still_when, still_State_emit, still_State_used]; done) | (simp only [still_State_innerPlace, still_State_startPlot, apply_ite State.still, apply_ite Prod.fst, ite_self, implies_true, eq_self, still_foldl, still_each, still_when, still_State_emit, still_State_used]) | split | (refine (still_each _ _ _ (fun x t => ?_)).trans ?_) | (refine (still_when _ _ _ (fun t => ?_)).trans ?_) | (refine (still_foldl _ _ _ (fun t x => ?_)).trans ?_) | (rename_i h; refine (congrArg (fun x => State.still (Prod.fst x)) h).symm.trans ?_; simp only [still_State_innerPlace, still_State_startPlot, apply_ite State.still, apply_ite Prod.fst, ite_self, implies_true, eq_self, still_foldl, still_each, still_when, still_State_emit, still_State_used]; done) | (refine (still_foldFst _ _ _ (fun x k => ?_)).trans ?_) | intro x)

theorem still_State_innerSect (a1) (a2) (a3) (a4) (s : State) : (State.innerSect a1 a2 a3 a4 s).1.still = s.still := by
  unfold State.innerSect
  simp only [still_State_innerAcc, eq_self]

theorem still_State_innerWrite (a1) (a2) (a3) (s : State) : (State.innerWrite a1 a2 a3 s).1.still = s.still := by
  unfold State.innerWrite
  simp only [still_State_innerSect, eq_self]

theorem still_State_innerRead (a1) (a2) (a3) (s : State) : (State.innerRead a1 a2 a3 s).1.still = s.still := by
  unfold State.innerRead
  repeat' (first | with_reducible rfl | (simp only [still_State_innerAcc, apply_ite State.still, apply_ite Prod.fst, ite_self, implies_true, eq_self, still_foldl, still_each, still_when, still_State_emit, still_State_used]; done) | (simp only [still_State_innerAcc, apply_ite State.still, apply_ite Prod.fst, ite_self, implies_true, eq_self, still_foldl, still_each, still_when, still_State_emit, still_State_used]) | split | (refine (still_each _ _ _ (fun x t => ?_)).trans ?_) | (refine (still_when _ _ _ (fun t => ?_)).trans ?_) | (refine (still_foldl _ _ _ (fun t x => ?_)).trans ?_) | (rename_i h; refine (congrArg (fun x => State.still (Prod.fst x)) h).symm.trans ?_; simp only [still_State_innerAcc, apply_ite State.still, apply_ite Prod.fst, ite_self, implies_true, eq_self, still_foldl, still_each, still_when, still_State_emit, still_State_used]; done) | (refine (still_foldFst _ _ _ (fun x k => ?_)).trans ?_) | intro x)

theorem still_State_modSess (a1) (a2) (a3) (s : State) : (State.modSess a1 a2 a3 s).still = s.still := by
  unfold State.modSess
  simp only [still_State_modLnk, eq_self]

theorem still_State_modPort (a1) (a2) (s : State) : (State.modPort a1 a2 s).still = s.still := by
  unfold State.modPort
  simp only [still_State_modLnk, eq_self]

theorem still_State_enqueue (a1) (a2) (s : State) : (State.enqueue a1 a2 s).still = s.still := by
  unfold State.enqueue
  simp only [still_State_modPort, eq_self]

theorem still_State_refill (a1) (s : State) : (State.refill a1 s).still = s.still := by
  unfold State.refill
  simp only [still_State_modPort, eq_self]

theorem still_State_broadcast (a1) (a2) (a3) (a4) (s : State) : (State.broadcast a1 a2 a3 a4 s).still = s.still := by
  unfold State.broadcast
  simp only [still_each, still_State_enqueue, implies_true, eq_self, still_each]

theorem still_State_sendFlow (a1) (a2) (a3) (a4) (a5) (a6) (a7) (s : State) : (State.sendFlow a1 a2 a3 a4 a5 a6 a7 s).still = s.still := by
  unfold State.sendFlow
  repeat' (first | with_reducible rfl | (simp only [still_State_enqueue, apply_ite State.still, apply_ite Prod.fst, ite_self, implies_true, eq_self, still_foldl, still_each, still_when, still_State_emit, still_State_used]; done) | (simp only [still_State_enqueue, apply_ite State.still, apply_ite Prod.fst, ite_self, implies_true, eq_self, still_foldl, still_each, still_when, still_State_emit, still_State_used]) | split | (refine (still_each _ _ _ (fun x t => ?_)).trans ?_) | (refine (still_when _ _ _ (fun t => ?_)).trans ?_) | (refine (still_foldl _ _ _ (fun t x => ?_)).trans ?_) | (rename_i h; refine (congrArg (fun x => State.still (Prod.fst x)) h).symm.trans ?_; simp only [still_State_enqueue, apply_ite State.still, apply_ite Prod.fst, ite_self, implies_true, eq_self, still_foldl, still_each, still_when, still_State_emit, still_State_used]; done) | (refine (still_foldFst _ _ _ (fun x k => ?_)).trans ?_) | intro x)

theorem still_State_sendTo (a1) (a2) (a3) (a4) (a5) (a6) (s : State) : (State.sendTo a1 a2 a3 a4 a5 a6 s).still = s.still := by
  unfold State.sendTo
  simp only [still_State_sendFlow, eq_self]

theorem still_State_setRing (a1) (a2) (a3) (s : State) : (State.setRing a1 a2 a3 s).still = s.still := by
  unfold State.setRing
  simp only [still_State_modObs, eq_self]

theorem still_State_writeSect (a1) (a2) (a3) (s : State) : (State.writeSect a1 a2 a3 s).still = s.still := by
  unfold State.writeSect
  repeat' (first | with_reducible rfl | (simp only [still_State_setRing, still_State_innerWrite, still_State_emit, still_State_cntr, apply_ite State.still, apply_ite Prod.fst, ite_self, implies_true, eq_self, still_foldl, still_each, still_when, still_State_emit, still_State_used]; done) | (simp only [still_State_setRing, still_State_innerWrite, still_State_emit, still_State_cntr, apply_ite State.still, apply_ite Prod.fst, ite_self, implies_true, eq_self, still_foldl, still_each, still_when, still_State_emit, still_State_used]) | split | (refine (still_each _ _ _ (fun x t => ?_)).trans ?_) | (refine (still_when _ _ _ (fun t => ?_)).trans ?_) | (refine (still_foldl _ _ _ (fun t x => ?_)).trans ?_) | (rename_i h; refine (congrArg (fun x => State.still (Prod.fst x)) h).symm.trans ?_; simp only [still_State_setRing, still_State_innerWrite, still_State_emit, still_State_cntr, apply_ite State.still, apply_ite Prod.fst, ite_self, implies_true, eq_self, still_foldl, still_each, still_when, still_State_emit, still_State_used]; done) | (refine (still_foldFst _ _ _ (fun x k => ?_)).trans ?_) | intro x)

theorem still_State_writeRing (a1) (a2) (a3) (s : State) : (State.writeRing a1 a2 a3 s).still = s.still := by
  unfold State.writeRing
  simp only [still_State_writeSect, implies_true, eq_self, still_foldl]

theorem still_State_formIn (a1) (a2) (a3) (a4) (a5) (a6) (a7) (a8) (s : State) : (State.formIn a1 a2 a3 a4 a5 a6 a7 a8 s).still = s.still := by
  unfold State.formIn
  simp only [still_State_writeRing, still_when, still_State_cntr, still_State_setRing, apply_ite State.still, ite_self, implies_true, eq_self, still_when]

theorem still_State_trace (a1) (a2) (a3) (a4) (a5) (a6) (a7) (s : State) : (State.trace a1 a2 a3 a4 a5 a6 a7 s).still = s.still := by
  unfold State.trace
  simp only [still_each, still_State_formIn, implies_true, eq_self, still_each]

theorem still_State_trigger (a1) (a2) (a3) (s : State) : (State.trigger a1 a2 a3 s).still = s.still := by
  unfold State.trigger
  simp only [still_State_formIn, still_State_writeRing, still_State_setRing, apply_ite State.still, ite_self, eq_self]

theorem still_State_stopRing (a1) (a2) (s : State) : (State.stopRing a1 a2 s).still = s.still := by
  unfold State.stopRing
  simp only [still_State_formIn, still_State_writeRing, still_State_setRing, apply_ite State.still, ite_self, eq_self]

theorem still_State_modCtx (a1) (a2) (s : State) : (State.modCtx a1 a2 s).still = s.still := by
  unfold State.modCtx
  simp only [still_State_modObju, eq_self]

theorem still_State_faultPut (a1) (a2) (s : State) : (State.faultPut a1 a2 s).still = s.still := by
  unfold State.faultPut
  simp only [still_State_innerWrite, still_State_emit, still_State_modCtx, still_State_cntr, apply_ite State.still, ite_self, eq_self, still_State_emit]

theorem still_State_faultOvf (a1) (a2) (s : State) : (State.faultOvf a1 a2 s).still = s.still := by
  unfold State.faultOvf
  simp only [still_State_modCtx, eq_self]

theorem still_State_faultTo (a1) (a2) (s : State) : (State.faultTo a1 a2 s).still = s.still := by
  unfold State.faultTo
  simp only [still_State_modObju, still_State_faultOvf, still_State_faultPut, apply_ite State.still, ite_self, eq_self]

theorem still_State_fault (a1) (a2) (a3) (a4) (a5) (a6) (a7) (a8) (s : State) : (State.fault a1 a2 a3 a4 a5 a6 a7 a8 s).still = s.still := by
  unfold State.fault
  repeat' (first | with_reducible rfl | (simp only [still_State_press, still_State_cntr, still_State_faultTo, still_State_trace, still_each, still_State_trigger, apply_ite State.still, apply_ite Prod.fst, ite_self, implies_true, eq_self, still_foldl, still_each, still_when, still_State_emit, still_State_used]; done) | (simp only [still_State_press, still_State_cntr, still_State_faultTo, still_State_trace, still_each, still_State_trigger, apply_ite State.still, apply_ite Prod.fst, ite_self, implies_true, eq_self, still_foldl, still_each, still_when, still_State_emit, still_State_used]) | split | (refine (still_each _ _ _ (fun x t => ?_)).trans ?_) | (refine (still_when _ _ _ (fun t => ?_)).trans ?_) | (refine (still_foldl _ _ _ (fun t x => ?_)).trans ?_) | (rename_i h; refine (congrArg (fun x => State.still (Prod.fst x)) h).symm.trans ?_; simp only [still_State_press, still_State_cntr, still_State_faultTo, still_State_trace, still_each, still_State_trigger, apply_ite State.still, apply_ite Prod.fst, ite_self, implies_true, eq_self, still_foldl, still_each, still_when, still_State_emit, still_State_used]; done) | (refine (still_foldFst _ _ _ (fun x k => ?_)).trans ?_) | intro x)

theorem still_State_modQueue (a1) (a2) (s : State) : (State.modQueue a1 a2 s).still = s.still := by
  unfold State.modQueue
  simp only [still_State_modCmd, eq_self]

theorem still_State_sealRec (a1) (a2) (s : State) : (State.sealRec a1 a2 s).1.still = s.still := by
  unfold State.sealRec
  repeat' (first | with_reducible rfl | (simp only [still_State_modCmd, apply_ite State.still, apply_ite Prod.fst, ite_self, implies_true, eq_self, still_foldl, still_each, still_when, still_State_emit, still_State_used]; done) | (simp only [still_State_modCmd, apply_ite State.still, apply_ite Prod.fst, ite_self, implies_true, eq_self, still_foldl, still_each, still_when, still_State_emit, still_State_used]) | split | (refine (still_each _ _ _ (fun x t => ?_)).trans ?_) | (refine (still_when _ _ _ (fun t => ?_)).trans ?_) | (refine (still_foldl _ _ _ (fun t x => ?_)).trans ?_) | (rename_i h; refine (congrArg (fun x => State.still (Prod.fst x)) h).symm.trans ?_; simp only [still_State_modCmd, apply_ite State.still, apply_ite Prod.fst, ite_self, implies_true, eq_self, still_foldl, still_each, still_when, still_State_emit, still_State_used]; done) | (refine (still_foldFst _ _ _ (fun x k => ?_)).trans ?_) | intro x)

theorem still_State_cdmMake (a1) (s : State) : (State.cdmMake a1 s).still = s.still := by
  unfold State.cdmMake
  simp only [still_State_emit, apply_ite State.still, ite_self, eq_self, still_State_emit]

theorem still_State_cdmWrite (a1) (a2) (s : State) : (State.cdmWrite a1 a2 s).still = s.still := by
  unfold State.cdmWrite
  simp only [still_State_cdmMake, still_State_modCmd, apply_ite State.still, ite_self, eq_self]

theorem still_State_cdmRefill (s : State) : (State.cdmRefill s).still = s.still := by
  unfold State.cdmRefill
  simp only [still_each, still_State_cdmWrite, still_State_modCmd, implies_true, eq_self, still_each]

theorem still_State_deviceReply (a1) (s : State) : (State.deviceReply a1 s).still = s.still := by
  unfold State.deviceReply
  repeat' (first | with_reducible rfl | (simp only [still_State_innerWrite, still_when, still_State_emit, apply_ite State.still, apply_ite Prod.fst, ite_self, implies_true, eq_self, still_foldl, still_each, still_when, still_State_emit, still_State_used]; done) | (simp only [still_State_innerWrite, still_when, still_State_emit, apply_ite State.still, apply_ite Prod.fst, ite_self, implies_true, eq_self, still_foldl, still_each, still_when, still_State_emit, still_State_used]) | split | (refine (still_each _ _ _ (fun x t => ?_)).trans ?_) | (refine (still_when _ _ _ (fun t => ?_)).trans ?_) | (refine (still_foldl _ _ _ (fun t x => ?_)).trans ?_) | (rename_i h; refine (congrArg (fun x => State.still (Prod.fst x)) h).symm.trans ?_; simp only [still_State_innerWrite, still_when, still_State_emit, apply_ite State.still, apply_ite Prod.fst, ite_self, implies_true, eq_self, still_foldl, still_each, still_when, still_State_emit, still_State_used]; done) | (refine (still_foldFst _ _ _ (fun x k => ?_)).trans ?_) | intro x)

theorem still_State_ringReply (a1) (a2) (s : State) : (State.ringReply a1 a2 s).still = s.still := by
  unfold State.ringReply
  simp only [still_State_modQueue, still_State_deviceReply, still_State_cdmWrite, apply_ite State.still, ite_self, eq_self]

theorem still_State_storeReply (a1) (a2) (s : State) : (State.storeReply a1 a2 s).still = s.still := by
  unfold State.storeReply
  simp only [still_State_modCmd, eq_self]

theorem still_State_respond (a1) (a2) (s : State) : (State.respond a1 a2 s).still = s.still := by
  unfold State.respond
  repeat' (first | with_reducible rfl | (simp only [still_State_emit, still_State_modHst, apply_ite State.still, apply_ite Prod.fst, ite_self, implies_true, eq_self, still_foldl, still_each, still_when, still_State_emit, still_State_used]; done) | (simp only [still_State_emit, still_State_modHst, apply_ite State.still, apply_ite Prod.fst, ite_self, implies_true, eq_self, still_foldl, still_each, still_when, still_State_emit, still_State_used]) | split | (refine (still_each _ _ _ (fun x t => ?_)).trans ?_) | (refine (still_when _ _ _ (fun t => ?_)).trans ?_) | (refine (still_foldl _ _ _ (fun t x => ?_)).trans ?_) | (rename_i h; refine (congrArg (fun x => State.still (Prod.fst x)) h).symm.trans ?_; simp only [still_State_emit, still_State_modHst, apply_ite State.still, apply_ite Prod.fst, ite_self, implies_true, eq_self, still_foldl, still_each, still_when, still_State_emit, still_State_used]; done) | (refine (still_foldFst _ _ _ (fun x k => ?_)).trans ?_) | intro x)

theorem still_State_sendReply (a1) (a2) (s : State) : (State.sendReply a1 a2 s).still = s.still := by
  unfold State.sendReply
  repeat' (first | with_reducible rfl | (simp only [still_State_storeReply, still_State_emit, still_State_modHst, still_State_ringReply, apply_ite State.still, apply_ite Prod.fst, ite_self, implies_true, eq_self, still_foldl, still_each, still_when, still_State_emit, still_State_used]; done) | (simp only [still_State_storeReply, still_State_emit, still_State_modHst, still_State_ringReply, apply_ite State.still, apply_ite Prod.fst, ite_self, implies_true, eq_self, still_foldl, still_each, still_when, still_State_emit, still_State_used]) | split | (refine (still_each _ _ _ (fun x t => ?_)).trans ?_) | (refine (still_when _ _ _ (fun t => ?_)).trans ?_) | (refine (still_foldl _ _ _ (fun t x => ?_)).trans ?_) | (rename_i h; refine (congrArg (fun x => State.still (Prod.fst x)) h).symm.trans ?_; simp only [still_State_storeReply, still_State_emit, still_State_modHst, still_State_ringReply, apply_ite State.still, apply_ite Prod.fst, ite_self, implies_true, eq_self, still_foldl, still_each, still_when, still_State_emit, still_State_used]; done) | (refine (still_foldFst _ _ _ (fun x k => ?_)).trans ?_) | intro x)

theorem still_State_setFence (a1) (a2) (a3) (s : State) : (State.setFence a1 a2 a3 s).still = s.still := by
  unfold State.setFence
  simp only [still_State_modObju, eq_self]

theorem still_State_wake (a1) (a2) (s : State) : (State.wake a1 a2 s).1.still = s.still := by
  unfold State.wake
  simp only [still_State_modObju, still_each, still_State_trace, implies_true, eq_self, still_each]

theorem still_State_signalHere (a1) (a2) (a3) (s : State) : (State.signalHere a1 a2 a3 s).1.still = s.still := by
  unfold State.signalHere
  simp only [still_State_trace, still_State_setFence, still_State_wake, apply_ite State.still, apply_ite Prod.fst, ite_self, eq_self]

theorem still_State_propagate (a1) (a2) (a3) (a4) (s : State) : (State.propagate a1 a2 a3 a4 s).still = s.still := by
  unfold State.propagate
  simp only [still_State_modObju, still_State_broadcast, eq_self]

theorem still_State_signal (a1) (a2) (a3) (s : State) : (State.signal a1 a2 a3 s).1.still = s.still := by
  unfold State.signal
  simp only [still_State_signalHere, still_State_propagate, apply_ite State.still, ite_self, eq_self]

theorem still_State_modObj (a1) (a2) (a3) (s : State) : (State.modObj a1 a2 a3 s).still = s.still := by
  unfold State.modObj
  simp only [still_State_modObju, eq_self]

theorem still_State_unref (a1) (a2) (s : State) : (State.unref a1 a2 s).still = s.still := by
  unfold State.unref
  simp only [still_each, still_State_modObj, implies_true, eq_self, still_each]

theorem still_State_releaseRings (a1) (s : State) : (State.releaseRings a1 s).still = s.still := by
  unfold State.releaseRings
  simp only [still_State_modQueue, still_State_unref, apply_ite State.still, ite_self, eq_self]

theorem still_State_removeQueue (a1) (s : State) : (State.removeQueue a1 s).still = s.still := by
  unfold State.removeQueue
  simp only [still_State_modCmd, still_State_releaseRings, eq_self]

theorem still_State_reapQueue (a1) (s : State) : (State.reapQueue a1 s).1.still = s.still := by
  unfold State.reapQueue
  repeat' (first | with_reducible rfl | (simp only [still_State_setFld, still_State_removeQueue, apply_ite State.still, apply_ite Prod.fst, ite_self, implies_true, eq_self, still_foldl, still_each, still_when, still_State_emit, still_State_used]; done) | (simp only [still_State_setFld, still_State_removeQueue, apply_ite State.still, apply_ite Prod.fst, ite_self, implies_true, eq_self, still_foldl, still_each, still_when, still_State_emit, still_State_used]) | split | (refine (still_each _ _ _ (fun x t => ?_)).trans ?_) | (refine (still_when _ _ _ (fun t => ?_)).trans ?_) | (refine (still_foldl _ _ _ (fun t x => ?_)).trans ?_) | (rename_i h; refine (congrArg (fun x => State.still (Prod.fst x)) h).symm.trans ?_; simp only [still_State_setFld, still_State_removeQueue, apply_ite State.still, apply_ite Prod.fst, ite_self, implies_true, eq_self, still_foldl, still_each, still_when, still_State_emit, still_State_used]; done) | (refine (still_foldFst _ _ _ (fun x k => ?_)).trans ?_) | intro x)

theorem still_State_carried (a1) (s : State) : (State.carried a1 s).1.still = s.still := by
  unfold State.carried
  repeat' (first | with_reducible rfl | (simp only [still_State_modCmd, still_State_sealRec, still_State_cdmWrite, apply_ite State.still, apply_ite Prod.fst, ite_self, implies_true, eq_self, still_foldl, still_each, still_when, still_State_emit, still_State_used]; done) | (simp only [still_State_modCmd, still_State_sealRec, still_State_cdmWrite, apply_ite State.still, apply_ite Prod.fst, ite_self, implies_true, eq_self, still_foldl, still_each, still_when, still_State_emit, still_State_used]) | split | (refine (still_each _ _ _ (fun x t => ?_)).trans ?_) | (refine (still_when _ _ _ (fun t => ?_)).trans ?_) | (refine (still_foldl _ _ _ (fun t x => ?_)).trans ?_) | (rename_i h; refine (congrArg (fun x => State.still (Prod.fst x)) h).symm.trans ?_; simp only [still_State_modCmd, still_State_sealRec, still_State_cdmWrite, apply_ite State.still, apply_ite Prod.fst, ite_self, implies_true, eq_self, still_foldl, still_each, still_when, still_State_emit, still_State_used]; done) | (refine (still_foldFst _ _ _ (fun x k => ?_)).trans ?_) | intro x)

theorem still_State_complete1 (a1) (s : State) : (State.complete1 a1 s).1.still = s.still := by
  unfold State.complete1
  repeat' (first | with_reducible rfl | (simp only [still_State_unref, still_State_modCmd, still_State_modQueue, still_State_trace, still_State_sendReply, still_State_signal, still_State_carried, still_State_reapQueue, apply_ite State.still, apply_ite Prod.fst, ite_self, implies_true, eq_self, still_foldl, still_each, still_when, still_State_emit, still_State_used]; done) | (simp only [still_State_unref, still_State_modCmd, still_State_modQueue, still_State_trace, still_State_sendReply, still_State_signal, still_State_carried, still_State_reapQueue, apply_ite State.still, apply_ite Prod.fst, ite_self, implies_true, eq_self, still_foldl, still_each, still_when, still_State_emit, still_State_used]) | split | (refine (still_each _ _ _ (fun x t => ?_)).trans ?_) | (refine (still_when _ _ _ (fun t => ?_)).trans ?_) | (refine (still_foldl _ _ _ (fun t x => ?_)).trans ?_) | (rename_i h; refine (congrArg (fun x => State.still (Prod.fst x)) h).symm.trans ?_; simp only [still_State_unref, still_State_modCmd, still_State_modQueue, still_State_trace, still_State_sendReply, still_State_signal, still_State_carried, still_State_reapQueue, apply_ite State.still, apply_ite Prod.fst, ite_self, implies_true, eq_self, still_foldl, still_each, still_when, still_State_emit, still_State_used]; done) | (refine (still_foldFst _ _ _ (fun x k => ?_)).trans ?_) | intro x)

theorem still_completeFuel (n) (ds) (s : State) : (completeFuel n ds s).still = s.still := by
  induction n generalizing ds s with
  | zero => cases ds <;> rfl
  | succ n ih =>
    cases ds with
    | nil => rfl
    | cons d ds => exact (ih _ _).trans (still_State_complete1 d s)

theorem still_State_complete (a1) (s : State) : (State.complete a1 s).still = s.still := still_completeFuel ..

theorem still_finishing (x : State × List Done) : (finishing x).still = x.1.still := still_State_complete ..

theorem still_State_setSched (a1) (a2) (s : State) : (State.setSched a1 a2 s).still = s.still := by
  unfold State.setSched
  simp only [still_State_modDt, eq_self]

theorem still_State_schedEnds (a1) (s : State) : (State.schedEnds a1 s).still = s.still := by
  unfold State.schedEnds
  simp only [still_State_setSched, apply_ite State.still, ite_self, eq_self]

theorem still_State_dumpEnd (a1) (a2) (s : State) : (State.dumpEnd a1 a2 s).still = s.still := by
  unfold State.dumpEnd
  simp only [still_State_schedEnds, still_State_cntr, still_State_modObs, eq_self]

theorem still_State_dumpBegin (a1) (s : State) : (State.dumpBegin a1 s).still = s.still := by
  unfold State.dumpBegin
  repeat' (first | with_reducible rfl | (simp only [still_State_dumpEnd, still_State_modObs, apply_ite State.still, apply_ite Prod.fst, ite_self, implies_true, eq_self, still_foldl, still_each, still_when, still_State_emit, still_State_used]; done) | (simp only [still_State_dumpEnd, still_State_modObs, apply_ite State.still, apply_ite Prod.fst, ite_self, implies_true, eq_self, still_foldl, still_each, still_when, still_State_emit, still_State_used]) | split | (refine (still_each _ _ _ (fun x t => ?_)).trans ?_) | (refine (still_when _ _ _ (fun t => ?_)).trans ?_) | (refine (still_foldl _ _ _ (fun t x => ?_)).trans ?_) | (rename_i h; refine (congrArg (fun x => State.still (Prod.fst x)) h).symm.trans ?_; simp only [still_State_dumpEnd, still_State_modObs, apply_ite State.still, apply_ite Prod.fst, ite_self, implies_true, eq_self, still_foldl, still_each, still_when, still_State_emit, still_State_used]; done) | (refine (still_foldFst _ _ _ (fun x k => ?_)).trans ?_) | intro x)

theorem still_dumpPump (p) (n) (s : State) : (dumpPump p n s).still = s.still := by
  induction n generalizing s with
  | zero => rfl
  | succ n ih =>
    unfold dumpPump
    split
    · rfl
    · split
      · exact (ih _).trans (still_State_dumpBegin _ s)
      · rfl

theorem still_State_dumpNext (a1) (s : State) : (State.dumpNext a1 s).still = s.still := by
  unfold State.dumpNext
  simp only [still_dumpPump, eq_self]

theorem still_State_dumpCut (a1) (s : State) : (State.dumpCut a1 s).still = s.still := by
  unfold State.dumpCut
  simp only [still_each, still_State_dumpEnd, implies_true, eq_self, still_each]

theorem still_State_endSecured (a1) (s : State) : (State.endSecured a1 s).still = s.still := by
  unfold State.endSecured
  simp only [still_State_modCmd, still_State_retireAll, still_each, still_State_dumpNext, still_State_dumpCut, implies_true, eq_self, still_each]

theorem still_State_endSecuredWhere (a1) (s : State) : (State.endSecuredWhere a1 s).still = s.still := by
  unfold State.endSecuredWhere
  simp only [still_each, still_State_endSecured, implies_true, eq_self, still_each]

theorem still_State_sendChunk (a1) (a2) (a3) (a4) (s : State) : (State.sendChunk a1 a2 a3 a4 s).1.still = s.still := by
  unfold State.sendChunk
  simp only [still_each, still_State_sendTo, implies_true, eq_self, still_each]

theorem still_State_putReduction (a1) (s : State) : (State.putReduction a1 s).still = s.still := by
  unfold State.putReduction
  simp only [still_State_modRem, eq_self]

theorem still_State_endReduction (a1) (a2) (s : State) : (State.endReduction a1 a2 s).still = s.still := by
  unfold State.endReduction
  repeat' (first | with_reducible rfl | (simp only [still_State_sendChunk, still_State_putReduction, apply_ite State.still, apply_ite Prod.fst, ite_self, implies_true, eq_self, still_foldl, still_each, still_when, still_State_emit, still_State_used]; done) | (simp only [still_State_sendChunk, still_State_putReduction, apply_ite State.still, apply_ite Prod.fst, ite_self, implies_true, eq_self, still_foldl, still_each, still_when, still_State_emit, still_State_used]) | split | (refine (still_each _ _ _ (fun x t => ?_)).trans ?_) | (refine (still_when _ _ _ (fun t => ?_)).trans ?_) | (refine (still_foldl _ _ _ (fun t x => ?_)).trans ?_) | (rename_i h; refine (congrArg (fun x => State.still (Prod.fst x)) h).symm.trans ?_; simp only [still_State_sendChunk, still_State_putReduction, apply_ite State.still, apply_ite Prod.fst, ite_self, implies_true, eq_self, still_foldl, still_each, still_when, still_State_emit, still_State_used]; done) | (refine (still_foldFst _ _ _ (fun x k => ?_)).trans ?_) | intro x)

theorem still_State_traceSess (a1) (a2) (s : State) : (State.traceSess a1 a2 s).still = s.still := by
  unfold State.traceSess
  simp only [still_State_trace, apply_ite State.still, ite_self, eq_self]

theorem still_State_sessTo (a1) (a2) (a3) (s : State) : (State.sessTo a1 a2 a3 s).still = s.still := by
  unfold State.sessTo
  simp only [still_State_traceSess, still_State_modSess, eq_self]

theorem still_State_stopLoses (a1) (a2) (s : State) : (State.stopLoses a1 a2 s).still = s.still := by
  unfold State.stopLoses
  simp only [still_State_signal, still_State_pressW, still_State_modDt, apply_ite State.still, ite_self, eq_self, still_finishing]

theorem still_State_reselect (s : State) : (State.reselect s).still = s.still := by
  unfold State.reselect
  simp only [still_State_modDt, eq_self]

theorem still_State_dtParentLost (a1) (s : State) : (State.dtParentLost a1 s).still = s.still := by
  unfold State.dtParentLost
  simp only [still_State_reselect, still_State_modDt, still_State_dtEnter, apply_ite State.still, ite_self, eq_self]

theorem still_State_sessDown1 (a1) (a2) (s : State) : (State.sessDown1 a1 a2 s).still = s.still := by
  unfold State.sessDown1
  simp only [still_State_retireAll, still_State_modPort, still_State_modSess, still_State_endSecuredWhere, still_State_dtParentLost, still_State_stopLoses, still_State_traceSess, apply_ite State.still, ite_self, eq_self]

theorem still_State_sessDown (a1) (a2) (s : State) : (State.sessDown a1 a2 s).still = s.still := by
  unfold State.sessDown
  simp only [still_each, still_State_sessDown1, apply_ite State.still, ite_self, implies_true, eq_self, still_each]

theorem still_State_allDown (s : State) : (State.allDown s).still = s.still := by
  unfold State.allDown
  simp only [still_each, still_State_sessDown, implies_true, eq_self, still_each]

theorem still_State_endOp (a1) (s : State) : (State.endOp a1 s).still = s.still := by
  unfold State.endOp
  simp only [still_State_modRem, eq_self]

theorem still_State_endContrib (a1) (s : State) : (State.endContrib a1 s).still = s.still := by
  unfold State.endContrib
  simp only [still_State_modRem, eq_self]

theorem still_State_endRemote (a1) (a2) (a3) (s : State) : (State.endRemote a1 a2 a3 s).still = s.still := by
  unfold State.endRemote
  simp only [still_State_complete, still_each, still_State_endContrib, still_State_endOp, implies_true, eq_self, still_each]

theorem still_State_recordLost (a1) (a2) (a3) (a4) (a5) (s : State) : (State.recordLost a1 a2 a3 a4 a5 s).still = s.still := by
  unfold State.recordLost
  simp only [still_State_broadcast, still_State_cntr, still_State_modPart, still_each, still_State_signalHere, still_State_endRemote, still_State_endReduction, still_State_putReduction, apply_ite State.still, ite_self, implies_true, eq_self, still_each, still_finishing]

theorem still_State_raiseLost (a1) (a2) (a3) (a4) (s : State) : (State.raiseLost a1 a2 a3 a4 s).still = s.still := by
  unfold State.raiseLost
  simp only [still_State_recordLost, eq_self]

theorem still_State_modTile (a1) (a2) (a3) (s : State) : (State.modTile a1 a2 a3 s).still = s.still := by
  unfold State.modTile
  simp only [still_State_modHst, eq_self]

theorem still_State_send (a1) (s : State) : (State.send a1 s).still = s.still := by
  unfold State.send
  simp only [still_State_emit, apply_ite State.still, ite_self, eq_self, still_State_emit]

theorem still_State_tileFault (a1) (a2) (a3) (a4) (a5) (s : State) : (State.tileFault a1 a2 a3 a4 a5 s).still = s.still := by
  unfold State.tileFault
  simp only [still_State_modHst, still_each, still_State_send, still_State_fault, still_State_trace, still_State_modTile, implies_true, eq_self, still_each]

theorem still_State_tilesFenced (a1) (a2) (s : State) : (State.tilesFenced a1 a2 s).still = s.still := by
  unfold State.tilesFenced
  simp only [still_each, still_State_tileFault, implies_true, eq_self, still_each]

theorem still_State_mnNoData (a1) (a2) (a3) (s : State) : (State.mnNoData a1 a2 a3 s).still = s.still := by
  unfold State.mnNoData
  simp only [still_State_emit, eq_self, still_State_emit]

theorem still_State_fenceMn (a1) (s : State) : (State.fenceMn a1 s).still = s.still := by
  unfold State.fenceMn
  simp only [still_each, still_State_mnNoData, still_State_modSg, implies_true, eq_self, still_each]

theorem still_State_dropFrames (a1) (a2) (s : State) : (State.dropFrames a1 a2 s).still = s.still := by
  unfold State.dropFrames
  simp only [still_State_modLnk, eq_self]

theorem still_State_endWaits (a1) (a2) (s : State) : (State.endWaits a1 a2 s).still = s.still := by
  unfold State.endWaits
  simp only [still_State_complete, still_State_modObju, eq_self]

theorem still_State_backEntry (a1) (s : State) : (State.backEntry a1 s).still = s.still := by
  unfold State.backEntry
  simp only [still_State_start, eq_self]

theorem still_State_backWhere (a1) (s : State) : (State.backWhere a1 s).still = s.still := by
  unfold State.backWhere
  simp only [still_each, still_State_backEntry, implies_true, eq_self, still_each]

theorem still_State_raisePfence (a1) (s : State) : (State.raisePfence a1 s).still = s.still := by
  unfold State.raisePfence
  simp only [still_State_modPins, apply_ite State.still, ite_self, eq_self]

theorem still_State_lowerPfence (a1) (s : State) : (State.lowerPfence a1 s).still = s.still := by
  unfold State.lowerPfence
  simp only [still_State_modPins, apply_ite State.still, ite_self, eq_self]

theorem still_State_raiseCstop (s : State) : (State.raiseCstop s).still = s.still := by
  unfold State.raiseCstop
  simp only [still_State_modPins, apply_ite State.still, ite_self, eq_self]

theorem still_State_lowerCstop (s : State) : (State.lowerCstop s).still = s.still := by
  unfold State.lowerCstop
  simp only [still_State_modPins, apply_ite State.still, ite_self, eq_self]

theorem still_State_fencePart (a1) (s : State) : (State.fencePart a1 s).still = s.still := by
  unfold State.fencePart
  simp only [still_State_modPart, still_State_raisePfence, still_State_backWhere, still_State_fenceMn, still_State_dropFrames, still_State_modHst, still_State_tilesFenced, still_State_endRemote, still_State_endWaits, still_State_dumpCut, still_each, still_State_sessDown, still_State_send, apply_ite State.still, ite_self, implies_true, eq_self, still_each]

theorem still_State_fenceAll (s : State) : (State.fenceAll s).still = s.still := by
  unfold State.fenceAll
  simp only [still_each, still_State_fencePart, implies_true, eq_self, still_each]

theorem still_State_chipRequest (a1) (s : State) : (State.chipRequest a1 s).still = s.still := by
  unfold State.chipRequest
  simp only [still_State_modPins, still_each, still_State_raisePfence, still_State_fenceAll, still_State_wipeMemSlots, still_State_modRst, still_State_modBoot, apply_ite State.still, ite_self, implies_true, eq_self, still_each]

theorem still_State_critical (a1) (a2) (a3) (a4) (s : State) : (State.critical a1 a2 a3 a4 s).still = s.still := by
  unfold State.critical
  simp only [still_State_chipRequest, still_State_press, eq_self]

theorem still_State_eccRead (a1) (a2) (a3) (s : State) (ha3 : ∀ t, State.still (a3 t) = t.still) : (State.eccRead a1 a2 a3 s).still = s.still := by
  unfold State.eccRead
  repeat' (first | with_reducible rfl | (simp only [still_State_press, still_State_glob, still_State_flag, still_State_critical, ha3, apply_ite State.still, apply_ite Prod.fst, ite_self, implies_true, eq_self, still_foldl, still_each, still_when, still_State_emit, still_State_used]; done) | (simp only [still_State_press, still_State_glob, still_State_flag, still_State_critical, ha3, apply_ite State.still, apply_ite Prod.fst, ite_self, implies_true, eq_self, still_foldl, still_each, still_when, still_State_emit, still_State_used]) | split | (refine (still_each _ _ _ (fun x t => ?_)).trans ?_) | (refine (still_when _ _ _ (fun t => ?_)).trans ?_) | (refine (still_foldl _ _ _ (fun t x => ?_)).trans ?_) | (rename_i h; refine (congrArg (fun x => State.still (Prod.fst x)) h).symm.trans ?_; simp only [still_State_press, still_State_glob, still_State_flag, still_State_critical, ha3, apply_ite State.still, apply_ite Prod.fst, ite_self, implies_true, eq_self, still_foldl, still_each, still_when, still_State_emit, still_State_used]; done) | (refine (still_foldFst _ _ _ (fun x k => ?_)).trans ?_) | intro x)

theorem still_State_discardEgress (s : State) : (State.discardEgress s).still = s.still := by
  unfold State.discardEgress
  simp only [still_State_modObs, still_State_modHst, still_State_modSg, still_State_modCmd, still_State_modLnk, eq_self]

theorem still_State_passFenced (s : State) : (State.passFenced s).still = s.still := by
  unfold State.passFenced
  repeat' (first | with_reducible rfl | (simp only [still_State_modSg, still_each, still_State_mnNoData, still_State_emit, apply_ite State.still, apply_ite Prod.fst, ite_self, implies_true, eq_self, still_foldl, still_each, still_when, still_State_emit, still_State_used]; done) | (simp only [still_State_modSg, still_each, still_State_mnNoData, still_State_emit, apply_ite State.still, apply_ite Prod.fst, ite_self, implies_true, eq_self, still_foldl, still_each, still_when, still_State_emit, still_State_used]) | split | (refine (still_each _ _ _ (fun x t => ?_)).trans ?_) | (refine (still_when _ _ _ (fun t => ?_)).trans ?_) | (refine (still_foldl _ _ _ (fun t x => ?_)).trans ?_) | (rename_i h; refine (congrArg (fun x => State.still (Prod.fst x)) h).symm.trans ?_; simp only [still_State_modSg, still_each, still_State_mnNoData, still_State_emit, apply_ite State.still, apply_ite Prod.fst, ite_self, implies_true, eq_self, still_foldl, still_each, still_when, still_State_emit, still_State_used]; done) | (refine (still_foldFst _ _ _ (fun x k => ?_)).trans ?_) | intro x)

theorem still_State_breach (a1) (a2) (s : State) : (State.breach a1 a2 s).still = s.still := by
  unfold State.breach
  simp only [still_State_pressLoss, still_State_fenceAll, still_State_modBoot, still_State_passFenced, still_each, still_State_raisePfence, still_State_modKey, still_State_modSg, still_State_discardEgress, still_State_wipeMemSlots, still_State_allDown, still_State_freezePress, still_State_modRst, still_State_modPins, apply_ite State.still, ite_self, implies_true, eq_self, still_each]

theorem still_State_refuse (a1) (a2) (s : State) : (State.refuse a1 a2 s).still = s.still := by
  unfold State.refuse
  simp only [still_State_carried, still_State_sendReply, still_State_trace, still_State_signal, still_State_complete, apply_ite State.still, apply_ite Prod.fst, ite_self, eq_self, still_finishing]

theorem still_State_touchCtx (a1) (s : State) : (State.touchCtx a1 s).still = s.still := by
  unfold State.touchCtx
  simp only [still_State_modCtx, apply_ite State.still, ite_self, eq_self]

theorem still_State_takePacket (a1) (a2) (a3) (s : State) : (State.takePacket a1 a2 a3 s).1.still = s.still := by
  unfold State.takePacket
  repeat' (first | with_reducible rfl | (simp only [still_State_modQueue, still_State_glob, still_State_count, still_State_trace, still_State_touchCtx, apply_ite State.still, apply_ite Prod.fst, ite_self, implies_true, eq_self, still_foldl, still_each, still_when, still_State_emit, still_State_used]; done) | (simp only [still_State_modQueue, still_State_glob, still_State_count, still_State_trace, still_State_touchCtx, apply_ite State.still, apply_ite Prod.fst, ite_self, implies_true, eq_self, still_foldl, still_each, still_when, still_State_emit, still_State_used]) | split | (refine (still_each _ _ _ (fun x t => ?_)).trans ?_) | (refine (still_when _ _ _ (fun t => ?_)).trans ?_) | (refine (still_foldl _ _ _ (fun t x => ?_)).trans ?_) | (rename_i h; refine (congrArg (fun x => State.still (Prod.fst x)) h).symm.trans ?_; simp only [still_State_modQueue, still_State_glob, still_State_count, still_State_trace, still_State_touchCtx, apply_ite State.still, apply_ite Prod.fst, ite_self, implies_true, eq_self, still_foldl, still_each, still_when, still_State_emit, still_State_used]; done) | (refine (still_foldFst _ _ _ (fun x k => ?_)).trans ?_) | intro x)

theorem still_State_reserve (a1) (a2) (s : State) : (State.reserve a1 a2 s).still = s.still := by
  unfold State.reserve
  repeat' (first | with_reducible rfl | (simp only [still_State_modQueue, apply_ite State.still, apply_ite Prod.fst, ite_self, implies_true, eq_self, still_foldl, still_each, still_when, still_State_emit, still_State_used]; done) | (simp only [still_State_modQueue, apply_ite State.still, apply_ite Prod.fst, ite_self, implies_true, eq_self, still_foldl, still_each, still_when, still_State_emit, still_State_used]) | split | (refine (still_each _ _ _ (fun x t => ?_)).trans ?_) | (refine (still_when _ _ _ (fun t => ?_)).trans ?_) | (refine (still_foldl _ _ _ (fun t x => ?_)).trans ?_) | (rename_i h; refine (congrArg (fun x => State.still (Prod.fst x)) h).symm.trans ?_; simp only [still_State_modQueue, apply_ite State.still, apply_ite Prod.fst, ite_self, implies_true, eq_self, still_foldl, still_each, still_when, still_State_emit, still_State_used]; done) | (refine (still_foldFst _ _ _ (fun x k => ?_)).trans ?_) | intro x)

theorem still_State_hold (a1) (a2) (a3) (s : State) : (State.hold a1 a2 a3 s).still = s.still := by
  unfold State.hold
  repeat' (first | with_reducible rfl | (simp only [still_State_modQueue, still_State_used, still_State_cntr, still_State_count, apply_ite State.still, apply_ite Prod.fst, ite_self, implies_true, eq_self, still_foldl, still_each, still_when, still_State_emit, still_State_used]; done) | (simp only [still_State_modQueue, still_State_used, still_State_cntr, still_State_count, apply_ite State.still, apply_ite Prod.fst, ite_self, implies_true, eq_self, still_foldl, still_each, still_when, still_State_emit, still_State_used]) | split | (refine (still_each _ _ _ (fun x t => ?_)).trans ?_) | (refine (still_when _ _ _ (fun t => ?_)).trans ?_) | (refine (still_foldl _ _ _ (fun t x => ?_)).trans ?_) | (rename_i h; refine (congrArg (fun x => State.still (Prod.fst x)) h).symm.trans ?_; simp only [still_State_modQueue, still_State_used, still_State_cntr, still_State_count, apply_ite State.still, apply_ite Prod.fst, ite_self, implies_true, eq_self, still_foldl, still_each, still_when, still_State_emit, still_State_used]; done) | (refine (still_foldFst _ _ _ (fun x k => ?_)).trans ?_) | intro x)

theorem still_State_accept (a1) (a2) (s : State) : (State.accept a1 a2 s).1.still = s.still := by
  unfold State.accept
  simp only [still_each, still_State_modObj, still_State_reserve, still_State_modCmd, still_State_sendReply, apply_ite State.still, ite_self, implies_true, eq_self, still_each]

theorem still_State_ringRead (a1) (s : State) : (State.ringRead a1 s).1.still = s.still := by
  unfold State.ringRead
  repeat' (first | with_reducible rfl | (simp only [still_State_innerRead, apply_ite State.still, apply_ite Prod.fst, ite_self, implies_true, eq_self, still_foldl, still_each, still_when, still_State_emit, still_State_used]; done) | (simp only [still_State_innerRead, apply_ite State.still, apply_ite Prod.fst, ite_self, implies_true, eq_self, still_foldl, still_each, still_when, still_State_emit, still_State_used]) | split | (refine (still_each _ _ _ (fun x t => ?_)).trans ?_) | (refine (still_when _ _ _ (fun t => ?_)).trans ?_) | (refine (still_foldl _ _ _ (fun t x => ?_)).trans ?_) | (rename_i h; refine (congrArg (fun x => State.still (Prod.fst x)) h).symm.trans ?_; simp only [still_State_innerRead, apply_ite State.still, apply_ite Prod.fst, ite_self, implies_true, eq_self, still_foldl, still_each, still_when, still_State_emit, still_State_used]; done) | (refine (still_foldFst _ _ _ (fun x k => ?_)).trans ?_) | intro x)

theorem still_State_admitWith (a1) (a2) (a3) (a4) (a5) (a6) (s : State) (ha6 : ∀ x0 t, State.still (a6 x0 t) = t.still) : (State.admitWith a1 a2 a3 a4 a5 a6 s).still = s.still := by
  unfold State.admitWith
  repeat' (first | with_reducible rfl | (simp only [still_State_hold, still_State_ringRead, still_State_takePacket, still_State_refuse, still_State_reserve, still_State_accept, ha6, apply_ite State.still, apply_ite Prod.fst, ite_self, implies_true, eq_self, still_foldl, still_each, still_when, still_State_emit, still_State_used]; done) | (simp only [still_State_hold, still_State_ringRead, still_State_takePacket, still_State_refuse, still_State_reserve, still_State_accept, ha6, apply_ite State.still, apply_ite Prod.fst, ite_self, implies_true, eq_self, still_foldl, still_each, still_when, still_State_emit, still_State_used]) | split | (refine (still_each _ _ _ (fun x t => ?_)).trans ?_) | (refine (still_when _ _ _ (fun t => ?_)).trans ?_) | (refine (still_foldl _ _ _ (fun t x => ?_)).trans ?_) | (rename_i h; refine (congrArg (fun x => State.still (Prod.fst x)) h).symm.trans ?_; simp only [still_State_hold, still_State_ringRead, still_State_takePacket, still_State_refuse, still_State_reserve, still_State_accept, ha6, apply_ite State.still, apply_ite Prod.fst, ite_self, implies_true, eq_self, still_foldl, still_each, still_when, still_State_emit, still_State_used]; done) | (refine (still_foldFst _ _ _ (fun x k => ?_)).trans ?_) | intro x)

theorem still_State_admitCmd (a1) (a2) (a3) (a4) (s : State) (ha4 : ∀ x0 t, State.still (a4 x0 t) = t.still) : (State.admitCmd a1 a2 a3 a4 s).still = s.still := by
  unfold State.admitCmd
  simp only [still_State_admitWith, ha4, implies_true, eq_self]

theorem still_State_ok (a1) (a2) (s : State) : (State.ok a1 a2 s).still = s.still := by
  unfold State.ok
  simp only [still_State_complete, eq_self]

theorem still_State_okTrailer (a1) (a2) (a3) (s : State) : (State.okTrailer a1 a2 a3 s).still = s.still := by
  unfold State.okTrailer
  simp only [still_State_complete, eq_self]

theorem still_State_endsWith (a1) (a2) (s : State) : (State.endsWith a1 a2 s).still = s.still := by
  unfold State.endsWith
  simp only [still_State_complete, eq_self]

theorem still_State_otherAccess (s : State) : (State.otherAccess s).still = s.still := by
  unfold State.otherAccess
  simp only [still_State_modRegf, eq_self]

theorem still_State_portWrite (a1) (a2) (a3) (s : State) (ha3 : ∀ x0 t, State.still (a3 x0 t).1 = t.still) : (State.portWrite a1 a2 a3 s).still = s.still := by
  unfold State.portWrite
  simp only [still_State_emit, still_State_otherAccess, ha3, apply_ite State.still, ite_self, eq_self, still_State_emit]

theorem still_State_ctlWrite (a1) (a2) (s : State) (ha2 : ∀ t, State.still (a2 t) = t.still) : (State.ctlWrite a1 a2 s).still = s.still := by
  unfold State.ctlWrite
  simp only [still_State_portWrite, ha2, apply_ite State.still, ite_self, implies_true, eq_self]

theorem still_innerBytesFuel (n) (p) (a) (l) (s : State) : (innerBytesFuel n p a l s).1.still = s.still := by
  induction n generalizing a l s with
  | zero => rfl
  | succ n ih =>
    unfold innerBytesFuel
    split
    · rfl
    · simp only []
      exact (ih _ _ _).trans (still_State_innerWrite ..)

theorem still_State_innerBytes (a1) (a2) (a3) (s : State) : (State.innerBytes a1 a2 a3 s).1.still = s.still := by
  unfold State.innerBytes
  simp only [still_innerBytesFuel, eq_self]

theorem still_State_writeObj (a1) (a2) (s : State) : (State.writeObj a1 a2 s).1.still = s.still := by
  unfold State.writeObj
  simp only [still_State_innerBytes, eq_self]

theorem still_State_zeroPlot (a1) (a2) (s : State) : (State.zeroPlot a1 a2 s).still = s.still := by
  unfold State.zeroPlot
  repeat' (first | with_reducible rfl | (simp only [still_each, still_State_modLine, still_State_insertLine, apply_ite State.still, apply_ite Prod.fst, ite_self, implies_true, eq_self, still_foldl, still_each, still_when, still_State_emit, still_State_used]; done) | (simp only [still_each, still_State_modLine, still_State_insertLine, apply_ite State.still, apply_ite Prod.fst, ite_self, implies_true, eq_self, still_foldl, still_each, still_when, still_State_emit, still_State_used]) | split | (refine (still_each _ _ _ (fun x t => ?_)).trans ?_) | (refine (still_when _ _ _ (fun t => ?_)).trans ?_) | (refine (still_foldl _ _ _ (fun t x => ?_)).trans ?_) | (rename_i h; refine (congrArg (fun x => State.still (Prod.fst x)) h).symm.trans ?_; simp only [still_each, still_State_modLine, still_State_insertLine, apply_ite State.still, apply_ite Prod.fst, ite_self, implies_true, eq_self, still_foldl, still_each, still_when, still_State_emit, still_State_used]; done) | (refine (still_foldFst _ _ _ (fun x k => ?_)).trans ?_) | intro x)

theorem still_State_bindPlots (a1) (a2) (a3) (a4) (a5) (a6) (s : State) : (State.bindPlots a1 a2 a3 a4 a5 a6 s).still = s.still := by
  unfold State.bindPlots
  simp only [still_each, still_State_modObju, still_State_zeroPlot, implies_true, eq_self, still_each]

theorem still_State_alloc (a1) (a2) (a3) (a4) (a5) (s : State) : (State.alloc a1 a2 a3 a4 a5 s).1.still = s.still := by
  unfold State.alloc
  repeat' (first | with_reducible rfl | (simp only [still_State_modObju, still_State_modObj, still_State_writeObj, still_State_bindPlots, still_State_press, apply_ite State.still, apply_ite Prod.fst, ite_self, implies_true, eq_self, still_foldl, still_each, still_when, still_State_emit, still_State_used]; done) | (simp only [still_State_modObju, still_State_modObj, still_State_writeObj, still_State_bindPlots, still_State_press, apply_ite State.still, apply_ite Prod.fst, ite_self, implies_true, eq_self, still_foldl, still_each, still_when, still_State_emit, still_State_used]) | split | (refine (still_each _ _ _ (fun x t => ?_)).trans ?_) | (refine (still_when _ _ _ (fun t => ?_)).trans ?_) | (refine (still_foldl _ _ _ (fun t x => ?_)).trans ?_) | (rename_i h; refine (congrArg (fun x => State.still (Prod.fst x)) h).symm.trans ?_; simp only [still_State_modObju, still_State_modObj, still_State_writeObj, still_State_bindPlots, still_State_press, apply_ite State.still, apply_ite Prod.fst, ite_self, implies_true, eq_self, still_foldl, still_each, still_when, still_State_emit, still_State_used]; done) | (refine (still_foldFst _ _ _ (fun x k => ?_)).trans ?_) | intro x)

theorem still_State_dropOld (a1) (a2) (a3) (s : State) : (State.dropOld a1 a2 a3 s).still = s.still := by
  unfold State.dropOld
  simp only [still_State_modSg, still_each, still_State_dropTag, implies_true, eq_self, still_each]

theorem still_State_retireObj (a1) (a2) (s : State) : (State.retireObj a1 a2 s).still = s.still := by
  unfold State.retireObj
  repeat' (first | with_reducible rfl | (simp only [still_State_modSg, still_State_modObju, still_State_modObj, still_State_dropOld, still_State_writeObj, still_each, still_State_stopRing, still_State_complete, apply_ite State.still, apply_ite Prod.fst, ite_self, implies_true, eq_self, still_foldl, still_each, still_when, still_State_emit, still_State_used]; done) | (simp only [still_State_modSg, still_State_modObju, still_State_modObj, still_State_dropOld, still_State_writeObj, still_each, still_State_stopRing, still_State_complete, apply_ite State.still, apply_ite Prod.fst, ite_self, implies_true, eq_self, still_foldl, still_each, still_when, still_State_emit, still_State_used]) | split | (refine (still_each _ _ _ (fun x t => ?_)).trans ?_) | (refine (still_when _ _ _ (fun t => ?_)).trans ?_) | (refine (still_foldl _ _ _ (fun t x => ?_)).trans ?_) | (rename_i h; refine (congrArg (fun x => State.still (Prod.fst x)) h).symm.trans ?_; simp only [still_State_modSg, still_State_modObju, still_State_modObj, still_State_dropOld, still_State_writeObj, still_each, still_State_stopRing, still_State_complete, apply_ite State.still, apply_ite Prod.fst, ite_self, implies_true, eq_self, still_foldl, still_each, still_when, still_State_emit, still_State_used]; done) | (refine (still_foldFst _ _ _ (fun x k => ?_)).trans ?_) | intro x)

theorem still_State_setAdb (a1) (a2) (a3) (s : State) : (State.setAdb a1 a2 a3 s).still = s.still := by
  unfold State.setAdb
  simp only [still_State_modObju, eq_self]

theorem still_State_adbSubmit (a1) (a2) (a3) (a4) (a5) (s : State) : (State.adbSubmit a1 a2 a3 a4 a5 s).1.still = s.still := by
  unfold State.adbSubmit
  simp only [still_State_flag, still_State_used, still_State_cntr, still_State_touchCtx, still_State_setAdb, apply_ite State.still, apply_ite Prod.fst, ite_self, eq_self, still_State_used]

theorem still_State_spill (a1) (s : State) : (State.spill a1 s).1.still = s.still := by
  unfold State.spill
  repeat' (first | with_reducible rfl | (simp only [still_State_innerSect, still_when, still_State_modCtx, apply_ite State.still, apply_ite Prod.fst, ite_self, implies_true, eq_self, still_foldl, still_each, still_when, still_State_emit, still_State_used]; done) | (simp only [still_State_innerSect, still_when, still_State_modCtx, apply_ite State.still, apply_ite Prod.fst, ite_self, implies_true, eq_self, still_foldl, still_each, still_when, still_State_emit, still_State_used]) | split | (refine (still_each _ _ _ (fun x t => ?_)).trans ?_) | (refine (still_when _ _ _ (fun t => ?_)).trans ?_) | (refine (still_foldl _ _ _ (fun t x => ?_)).trans ?_) | (rename_i h; refine (congrArg (fun x => State.still (Prod.fst x)) h).symm.trans ?_; simp only [still_State_innerSect, still_when, still_State_modCtx, apply_ite State.still, apply_ite Prod.fst, ite_self, implies_true, eq_self, still_foldl, still_each, still_when, still_State_emit, still_State_used]; done) | (refine (still_foldFst _ _ _ (fun x k => ?_)).trans ?_) | intro x)

theorem still_State_makeRoom (s : State) : (State.makeRoom s).1.still = s.still := by
  unfold State.makeRoom
  repeat' (first | with_reducible rfl | (simp only [still_State_spill, apply_ite State.still, apply_ite Prod.fst, ite_self, implies_true, eq_self, still_foldl, still_each, still_when, still_State_emit, still_State_used]; done) | (simp only [still_State_spill, apply_ite State.still, apply_ite Prod.fst, ite_self, implies_true, eq_self, still_foldl, still_each, still_when, still_State_emit, still_State_used]) | split | (refine (still_each _ _ _ (fun x t => ?_)).trans ?_) | (refine (still_when _ _ _ (fun t => ?_)).trans ?_) | (refine (still_foldl _ _ _ (fun t x => ?_)).trans ?_) | (rename_i h; refine (congrArg (fun x => State.still (Prod.fst x)) h).symm.trans ?_; simp only [still_State_spill, apply_ite State.still, apply_ite Prod.fst, ite_self, implies_true, eq_self, still_foldl, still_each, still_when, still_State_emit, still_State_used]; done) | (refine (still_foldFst _ _ _ (fun x k => ?_)).trans ?_) | intro x)

theorem still_State_drainCtx (a1) (s : State) : (State.drainCtx a1 s).still = s.still := by
  unfold State.drainCtx
  simp only [still_State_endWaits, still_State_endRemote, eq_self]

theorem still_State_discardQueues (a1) (s : State) : (State.discardQueues a1 s).still = s.still := by
  unfold State.discardQueues
  simp only [still_each, still_State_modQueue, apply_ite State.still, ite_self, implies_true, eq_self, still_each]

theorem still_State_destroyFence (a1) (a2) (s : State) : (State.destroyFence a1 a2 s).still = s.still := by
  unfold State.destroyFence
  simp only [still_State_endWaits, still_State_modObju, still_State_setFence, apply_ite State.still, ite_self, eq_self]

theorem still_State_tearFences (a1) (a2) (s : State) : (State.tearFences a1 a2 s).still = s.still := by
  unfold State.tearFences
  simp only [still_each, still_State_destroyFence, still_State_signal, still_State_setFence, still_State_modObju, apply_ite State.still, ite_self, implies_true, eq_self, still_each, still_finishing]

theorem still_State_teardownEnd (c) (s : State) : (s.teardownEnd c).still = s.still := by
  unfold State.teardownEnd
  extract_lets k p s0 objs s1 s2 same s3 s4 s5 s6 dn
  split
  · rfl
  · have h0 : ∀ c (s : State), (each (List.range 8) (fun q => State.releaseRings (16 + 8 * c + q)) s).still = s.still :=
      fun c s => still_each _ _ _ fun _ _ => still_State_releaseRings ..
    have h1 : ∀ p (l : List Nat) (s : State), (each l (fun i t => t.modObj p i fun x => { x with st := 2 }) s).still = s.still :=
      fun p l s => still_each _ _ _ fun _ _ => still_State_modObj ..
    have h2 : ∀ p (l : List Nat) (s : State), (each l (State.retireObj p) s).still = s.still :=
      fun p l s => still_each _ _ _ fun _ _ => still_State_retireObj ..
    have h3 : ∀ c (s : State), (each (List.range 8) (fun q => State.removeQueue (16 + 8 * c + q)) s).still = s.still :=
      fun c s => still_each _ _ _ fun _ _ => still_State_removeQueue ..
    have w1 : ∀ b f (s : State), (when b (State.modHst f) s).still = s.still := fun b f s => still_when _ _ _ fun _ => still_State_modHst ..
    have w2 : ∀ b p i (s : State), (when b (State.retireObj p i) s).still = s.still := fun b p i s => still_when _ _ _ fun _ => still_State_retireObj ..
    have e : s2.still = s.still := (h2 ..).trans ((h1 ..).trans (h0 ..))
    split
    · exact e
    · exact (still_State_complete ..).trans <| (still_State_modObju ..).trans <| (h3 ..).trans <| (w2 ..).trans <|
        (still_State_tearFences ..).trans <| (w1 ..).trans e

theorem still_State_unstall (a1) (s : State) : (State.unstall a1 s).still = s.still := by
  unfold State.unstall
  simp only [still_State_modCtx, eq_self]

theorem still_State_fqConsume (a1) (a2) (s : State) : (State.fqConsume a1 a2 s).still = s.still := by
  unfold State.fqConsume
  repeat' (first | with_reducible rfl | (simp only [still_State_modCtx, still_State_faultTo, still_State_unstall, apply_ite State.still, apply_ite Prod.fst, ite_self, implies_true, eq_self, still_foldl, still_each, still_when, still_State_emit, still_State_used]; done) | (simp only [still_State_modCtx, still_State_faultTo, still_State_unstall, apply_ite State.still, apply_ite Prod.fst, ite_self, implies_true, eq_self, still_foldl, still_each, still_when, still_State_emit, still_State_used]) | split | (refine (still_each _ _ _ (fun x t => ?_)).trans ?_) | (refine (still_when _ _ _ (fun t => ?_)).trans ?_) | (refine (still_foldl _ _ _ (fun t x => ?_)).trans ?_) | (rename_i h; refine (congrArg (fun x => State.still (Prod.fst x)) h).symm.trans ?_; simp only [still_State_modCtx, still_State_faultTo, still_State_unstall, apply_ite State.still, apply_ite Prod.fst, ite_self, implies_true, eq_self, still_foldl, still_each, still_when, still_State_emit, still_State_used]; done) | (refine (still_foldFst _ _ _ (fun x k => ?_)).trans ?_) | intro x)

theorem still_State_fqWrite (a1) (a2) (a3) (s : State) : (State.fqWrite a1 a2 a3 s).still = s.still := by
  unfold State.fqWrite
  simp only [still_State_fqConsume, still_State_flag, apply_ite State.still, ite_self, eq_self]

theorem still_State_mnFault (a1) (a2) (a3) (s : State) : (State.mnFault a1 a2 a3 s).still = s.still := by
  unfold State.mnFault
  simp only [still_State_fault, eq_self]

theorem still_State_mnRefuse (a1) (a2) (a3) (a4) (s : State) : (State.mnRefuse a1 a2 a3 a4 s).still = s.still := by
  unfold State.mnRefuse
  simp only [still_when, still_State_mnFault, still_State_mnNoData, still_State_cntr, implies_true, eq_self, still_when]

theorem still_State_sampleMn (a1) (a2) (a3) (s : State) : (State.sampleMn a1 a2 a3 s).still = s.still := by
  unfold State.sampleMn
  simp only [still_State_modObs, still_each, still_State_formIn, implies_true, eq_self, still_each]

theorem still_State_memoAdd (a1) (s : State) : (State.memoAdd a1 s).still = s.still := by
  unfold State.memoAdd
  simp only [still_State_modRem, eq_self]

theorem still_State_answerAtomic (a1) (a2) (a3) (a4) (a5) (a6) (s : State) : (State.answerAtomic a1 a2 a3 a4 a5 a6 s).still = s.still := by
  unfold State.answerAtomic
  simp only [still_State_memoAdd, still_State_enqueue, eq_self]

theorem still_State_resultDone (a1) (a2) (a3) (a4) (a5) (s : State) : (State.resultDone a1 a2 a3 a4 a5 s).still = s.still := by
  unfold State.resultDone
  simp only [still_State_sendTo, still_State_modRem, eq_self]

theorem still_State_serveDone (a1) (a2) (a3) (a4) (s : State) : (State.serveDone a1 a2 a3 a4 s).still = s.still := by
  unfold State.serveDone
  repeat' (first | with_reducible rfl | (simp only [still_State_modRem, still_State_resultDone, still_State_memoAdd, still_State_sendFlow, apply_ite State.still, apply_ite Prod.fst, ite_self, implies_true, eq_self, still_foldl, still_each, still_when, still_State_emit, still_State_used]; done) | (simp only [still_State_modRem, still_State_resultDone, still_State_memoAdd, still_State_sendFlow, apply_ite State.still, apply_ite Prod.fst, ite_self, implies_true, eq_self, still_foldl, still_each, still_when, still_State_emit, still_State_used]) | split | (refine (still_each _ _ _ (fun x t => ?_)).trans ?_) | (refine (still_when _ _ _ (fun t => ?_)).trans ?_) | (refine (still_foldl _ _ _ (fun t x => ?_)).trans ?_) | (rename_i h; refine (congrArg (fun x => State.still (Prod.fst x)) h).symm.trans ?_; simp only [still_State_modRem, still_State_resultDone, still_State_memoAdd, still_State_sendFlow, apply_ite State.still, apply_ite Prod.fst, ite_self, implies_true, eq_self, still_foldl, still_each, still_when, still_State_emit, still_State_used]; done) | (refine (still_foldFst _ _ _ (fun x k => ?_)).trans ?_) | intro x)

theorem still_State_putEntry (a1) (s : State) : (State.putEntry a1 s).still = s.still := by
  unfold State.putEntry
  simp only [still_State_modSg, eq_self]

theorem still_State_dropEntry (a1) (s : State) : (State.dropEntry a1 s).still = s.still := by
  unfold State.dropEntry
  simp only [still_State_modSg, eq_self]

theorem still_State_entryEnd (a1) (a2) (s : State) : (State.entryEnd a1 a2 s).still = s.still := by
  unfold State.entryEnd
  repeat' (first | with_reducible rfl | (simp only [still_State_dropEntry, apply_ite State.still, apply_ite Prod.fst, ite_self, implies_true, eq_self, still_foldl, still_each, still_when, still_State_emit, still_State_used]; done) | (simp only [still_State_dropEntry, apply_ite State.still, apply_ite Prod.fst, ite_self, implies_true, eq_self, still_foldl, still_each, still_when, still_State_emit, still_State_used]) | split | (refine (still_each _ _ _ (fun x t => ?_)).trans ?_) | (refine (still_when _ _ _ (fun t => ?_)).trans ?_) | (refine (still_foldl _ _ _ (fun t x => ?_)).trans ?_) | (rename_i h; refine (congrArg (fun x => State.still (Prod.fst x)) h).symm.trans ?_; simp only [still_State_dropEntry, apply_ite State.still, apply_ite Prod.fst, ite_self, implies_true, eq_self, still_foldl, still_each, still_when, still_State_emit, still_State_used]; done) | (refine (still_foldFst _ _ _ (fun x k => ?_)).trans ?_) | intro x)

theorem still_State_opFails (a1) (a2) (s : State) : (State.opFails a1 a2 s).still = s.still := by
  unfold State.opFails
  repeat' (first | with_reducible rfl | (simp only [still_State_answerAtomic, still_State_serveDone, still_State_mnRefuse, apply_ite State.still, apply_ite Prod.fst, ite_self, implies_true, eq_self, still_foldl, still_each, still_when, still_State_emit, still_State_used]; done) | (simp only [still_State_answerAtomic, still_State_serveDone, still_State_mnRefuse, apply_ite State.still, apply_ite Prod.fst, ite_self, implies_true, eq_self, still_foldl, still_each, still_when, still_State_emit, still_State_used]) | split | (refine (still_each _ _ _ (fun x t => ?_)).trans ?_) | (refine (still_when _ _ _ (fun t => ?_)).trans ?_) | (refine (still_foldl _ _ _ (fun t x => ?_)).trans ?_) | (rename_i h; refine (congrArg (fun x => State.still (Prod.fst x)) h).symm.trans ?_; simp only [still_State_answerAtomic, still_State_serveDone, still_State_mnRefuse, apply_ite State.still, apply_ite Prod.fst, ite_self, implies_true, eq_self, still_foldl, still_each, still_when, still_State_emit, still_State_used]; done) | (refine (still_foldFst _ _ _ (fun x k => ?_)).trans ?_) | intro x)

theorem still_State_opsFail (a1) (a2) (s : State) : (State.opsFail a1 a2 s).still = s.still := by
  unfold State.opsFail
  simp only [still_each, still_State_opFails, implies_true, eq_self, still_each]

theorem still_State_opReply (a1) (a2) (a3) (s : State) : (State.opReply a1 a2 a3 s).still = s.still := by
  unfold State.opReply
  repeat' (first | with_reducible rfl | (simp only [still_State_serveDone, still_State_answerAtomic, still_State_emit, still_State_mnNoData, apply_ite State.still, apply_ite Prod.fst, ite_self, implies_true, eq_self, still_foldl, still_each, still_when, still_State_emit, still_State_used]; done) | (simp only [still_State_serveDone, still_State_answerAtomic, still_State_emit, still_State_mnNoData, apply_ite State.still, apply_ite Prod.fst, ite_self, implies_true, eq_self, still_foldl, still_each, still_when, still_State_emit, still_State_used]) | split | (refine (still_each _ _ _ (fun x t => ?_)).trans ?_) | (refine (still_when _ _ _ (fun t => ?_)).trans ?_) | (refine (still_foldl _ _ _ (fun t x => ?_)).trans ?_) | (rename_i h; refine (congrArg (fun x => State.still (Prod.fst x)) h).symm.trans ?_; simp only [still_State_serveDone, still_State_answerAtomic, still_State_emit, still_State_mnNoData, apply_ite State.still, apply_ite Prod.fst, ite_self, implies_true, eq_self, still_foldl, still_each, still_when, still_State_emit, still_State_used]; done) | (refine (still_foldFst _ _ _ (fun x k => ?_)).trans ?_) | intro x)

theorem still_State_mismatch (a1) (a2) (a3) (a4) (s : State) : (State.mismatch a1 a2 a3 a4 s).still = s.still := by
  unfold State.mismatch
  simp only [still_State_press, still_State_glob, still_State_modSg, eq_self]

theorem still_State_saHalt (a1) (a2) (s : State) : (State.saHalt a1 a2 s).still = s.still := by
  unfold State.saHalt
  simp only [still_State_opsFail, still_State_modSg, still_State_backWhere, still_State_modRst, still_State_flag, eq_self]

theorem still_State_opRun (a1) (a2) (s : State) : (State.opRun a1 a2 s).still = s.still := by
  unfold State.opRun
  simp only [still_State_opFails, still_when, still_State_mismatch, still_State_saHalt, still_State_putEntry, still_State_wants, still_State_glob, still_State_cntr, still_State_opReply, still_State_sampleMn, apply_ite State.still, ite_self, implies_true, eq_self, still_when]

theorem still_State_runOps (a1) (a2) (s : State) : (State.runOps a1 a2 s).still = s.still := by
  unfold State.runOps
  repeat' (first | with_reducible rfl | (simp only [still_State_entryEnd, still_each, still_State_opRun, still_State_opFails, still_State_putEntry, apply_ite State.still, apply_ite Prod.fst, ite_self, implies_true, eq_self, still_foldl, still_each, still_when, still_State_emit, still_State_used]; done) | (simp only [still_State_entryEnd, still_each, still_State_opRun, still_State_opFails, still_State_putEntry, apply_ite State.still, apply_ite Prod.fst, ite_self, implies_true, eq_self, still_foldl, still_each, still_when, still_State_emit, still_State_used]) | split | (refine (still_each _ _ _ (fun x t => ?_)).trans ?_) | (refine (still_when _ _ _ (fun t => ?_)).trans ?_) | (refine (still_foldl _ _ _ (fun t x => ?_)).trans ?_) | (rename_i h; refine (congrArg (fun x => State.still (Prod.fst x)) h).symm.trans ?_; simp only [still_State_entryEnd, still_each, still_State_opRun, still_State_opFails, still_State_putEntry, apply_ite State.still, apply_ite Prod.fst, ite_self, implies_true, eq_self, still_foldl, still_each, still_when, still_State_emit, still_State_used]; done) | (refine (still_foldFst _ _ _ (fun x k => ?_)).trans ?_) | intro x)

theorem still_State_joinEntry (a1) (a2) (s : State) : (State.joinEntry a1 a2 s).still = s.still := by
  unfold State.joinEntry
  simp only [still_State_entryEnd, still_State_opRun, still_State_putEntry, apply_ite State.still, ite_self, eq_self]

theorem still_State_mergeTake (a1) (a2) (s : State) : (State.mergeTake a1 a2 s).still = s.still := by
  unfold State.mergeTake
  repeat' (first | with_reducible rfl | (simp only [still_State_dropEntry, still_when, still_State_glob, still_State_backEntry, apply_ite State.still, apply_ite Prod.fst, ite_self, implies_true, eq_self, still_foldl, still_each, still_when, still_State_emit, still_State_used]; done) | (simp only [still_State_dropEntry, still_when, still_State_glob, still_State_backEntry, apply_ite State.still, apply_ite Prod.fst, ite_self, implies_true, eq_self, still_foldl, still_each, still_when, still_State_emit, still_State_used]) | split | (refine (still_each _ _ _ (fun x t => ?_)).trans ?_) | (refine (still_when _ _ _ (fun t => ?_)).trans ?_) | (refine (still_foldl _ _ _ (fun t x => ?_)).trans ?_) | (rename_i h; refine (congrArg (fun x => State.still (Prod.fst x)) h).symm.trans ?_; simp only [still_State_dropEntry, still_when, still_State_glob, still_State_backEntry, apply_ite State.still, apply_ite Prod.fst, ite_self, implies_true, eq_self, still_foldl, still_each, still_when, still_State_emit, still_State_used]; done) | (refine (still_foldFst _ _ _ (fun x k => ?_)).trans ?_) | intro x)

theorem still_State_fillGives (a1) (a2) (a3) (a4) (s : State) : (State.fillGives a1 a2 a3 a4 s).still = s.still := by
  unfold State.fillGives
  repeat' (first | with_reducible rfl | (simp only [still_State_opsFail, still_State_dropEntry, still_each, still_State_opReply, still_State_opFails, still_State_runOps, still_State_putEntry, still_State_mergeTake, apply_ite State.still, apply_ite Prod.fst, ite_self, implies_true, eq_self, still_foldl, still_each, still_when, still_State_emit, still_State_used]; done) | (simp only [still_State_opsFail, still_State_dropEntry, still_each, still_State_opReply, still_State_opFails, still_State_runOps, still_State_putEntry, still_State_mergeTake, apply_ite State.still, apply_ite Prod.fst, ite_self, implies_true, eq_self, still_foldl, still_each, still_when, still_State_emit, still_State_used]) | split | (refine (still_each _ _ _ (fun x t => ?_)).trans ?_) | (refine (still_when _ _ _ (fun t => ?_)).trans ?_) | (refine (still_foldl _ _ _ (fun t x => ?_)).trans ?_) | (rename_i h; refine (congrArg (fun x => State.still (Prod.fst x)) h).symm.trans ?_; simp only [still_State_opsFail, still_State_dropEntry, still_each, still_State_opReply, still_State_opFails, still_State_runOps, still_State_putEntry, still_State_mergeTake, apply_ite State.still, apply_ite Prod.fst, ite_self, implies_true, eq_self, still_foldl, still_each, still_when, still_State_emit, still_State_used]; done) | (refine (still_foldFst _ _ _ (fun x k => ?_)).trans ?_) | intro x)

theorem still_State_tell (a1) (a2) (s : State) : (State.tell a1 a2 s).still = s.still := by
  unfold State.tell
  repeat' (first | with_reducible rfl | (simp only [still_State_fillGives, still_State_mnRefuse, still_State_plotSays, still_State_serveDone, apply_ite State.still, apply_ite Prod.fst, ite_self, implies_true, eq_self, still_foldl, still_each, still_when, still_State_emit, still_State_used]; done) | (simp only [still_State_fillGives, still_State_mnRefuse, still_State_plotSays, still_State_serveDone, apply_ite State.still, apply_ite Prod.fst, ite_self, implies_true, eq_self, still_foldl, still_each, still_when, still_State_emit, still_State_used]) | split | (refine (still_each _ _ _ (fun x t => ?_)).trans ?_) | (refine (still_when _ _ _ (fun t => ?_)).trans ?_) | (refine (still_foldl _ _ _ (fun t x => ?_)).trans ?_) | (rename_i h; refine (congrArg (fun x => State.still (Prod.fst x)) h).symm.trans ?_; simp only [still_State_fillGives, still_State_mnRefuse, still_State_plotSays, still_State_serveDone, apply_ite State.still, apply_ite Prod.fst, ite_self, implies_true, eq_self, still_foldl, still_each, still_when, still_State_emit, still_State_used]; done) | (refine (still_foldFst _ _ _ (fun x k => ?_)).trans ?_) | intro x)

theorem still_State_failAcc (a1) (a2) (s : State) : (State.failAcc a1 a2 s).still = s.still := by
  unfold State.failAcc
  simp only [still_when, still_State_tell, still_State_dropAcc, implies_true, eq_self, still_when]

theorem still_State_wiltRegion (a1) (a2) (s : State) : (State.wiltRegion a1 a2 s).still = s.still := by
  unfold State.wiltRegion
  repeat' (first | with_reducible rfl | (simp only [still_State_wiltAnchor, still_State_mnFault, still_State_cntr, still_each, still_State_failAcc, still_State_opsFail, still_State_dropEntry, still_State_modSg, apply_ite State.still, apply_ite Prod.fst, ite_self, implies_true, eq_self, still_foldl, still_each, still_when, still_State_emit, still_State_used]; done) | (simp only [still_State_wiltAnchor, still_State_mnFault, still_State_cntr, still_each, still_State_failAcc, still_State_opsFail, still_State_dropEntry, still_State_modSg, apply_ite State.still, apply_ite Prod.fst, ite_self, implies_true, eq_self, still_foldl, still_each, still_when, still_State_emit, still_State_used]) | split | (refine (still_each _ _ _ (fun x t => ?_)).trans ?_) | (refine (still_when _ _ _ (fun t => ?_)).trans ?_) | (refine (still_foldl _ _ _ (fun t x => ?_)).trans ?_) | (rename_i h; refine (congrArg (fun x => State.still (Prod.fst x)) h).symm.trans ?_; simp only [still_State_wiltAnchor, still_State_mnFault, still_State_cntr, still_each, still_State_failAcc, still_State_opsFail, still_State_dropEntry, still_State_modSg, apply_ite State.still, apply_ite Prod.fst, ite_self, implies_true, eq_self, still_foldl, still_each, still_when, still_State_emit, still_State_used]; done) | (refine (still_foldFst _ _ _ (fun x k => ?_)).trans ?_) | intro x)

theorem still_State_commitPath (a1) (s : State) : (State.commitPath a1 s).still = s.still := by
  unfold State.commitPath
  repeat' (first | with_reducible rfl | (simp only [still_each, still_State_modLine, still_State_insertLine, apply_ite State.still, apply_ite Prod.fst, ite_self, implies_true, eq_self, still_foldl, still_each, still_when, still_State_emit, still_State_used]; done) | (simp only [still_each, still_State_modLine, still_State_insertLine, apply_ite State.still, apply_ite Prod.fst, ite_self, implies_true, eq_self, still_foldl, still_each, still_when, still_State_emit, still_State_used]) | split | (refine (still_each _ _ _ (fun x t => ?_)).trans ?_) | (refine (still_when _ _ _ (fun t => ?_)).trans ?_) | (refine (still_foldl _ _ _ (fun t x => ?_)).trans ?_) | (rename_i h; refine (congrArg (fun x => State.still (Prod.fst x)) h).symm.trans ?_; simp only [still_each, still_State_modLine, still_State_insertLine, apply_ite State.still, apply_ite Prod.fst, ite_self, implies_true, eq_self, still_foldl, still_each, still_when, still_State_emit, still_State_used]; done) | (refine (still_foldFst _ _ _ (fun x k => ?_)).trans ?_) | intro x)

theorem still_State_setWord (a1) (a2) (a3) (s : State) : (State.setWord a1 a2 a3 s).still = s.still := by
  unfold State.setWord
  simp only [still_State_modLine, eq_self]

theorem still_State_ensureLine (a1) (a2) (s : State) : (State.ensureLine a1 a2 s).still = s.still := by
  unfold State.ensureLine
  simp only [still_State_insertLine, apply_ite State.still, ite_self, eq_self]

theorem still_State_bumpVersion (a1) (a2) (s : State) : (State.bumpVersion a1 a2 s).1.still = s.still := by
  unfold State.bumpVersion
  simp only [still_State_ensureLine, still_State_setWord, apply_ite State.still, apply_ite Prod.fst, ite_self, eq_self]

theorem still_State_poisonSect (a1) (a2) (s : State) : (State.poisonSect a1 a2 s).still = s.still := by
  unfold State.poisonSect
  simp only [still_State_setWord, still_State_ensureLine, still_State_bumpVersion, apply_ite State.still, ite_self, eq_self]

theorem still_State_poisonAll (a1) (a2) (a3) (s : State) : (State.poisonAll a1 a2 a3 s).still = s.still := by
  unfold State.poisonAll
  simp only [still_each, still_State_poisonSect, implies_true, eq_self, still_each]

theorem still_State_putSector (a1) (a2) (a3) (a4) (s : State) : (State.putSector a1 a2 a3 a4 s).still = s.still := by
  unfold State.putSector
  simp only [still_State_bumpVersion, still_State_setWord, still_State_ensureLine, still_State_glob, still_State_cntr, still_State_msWrite, eq_self]

theorem still_State_giveRead (a1) (a2) (s : State) : (State.giveRead a1 a2 s).still = s.still := by
  unfold State.giveRead
  simp only [still_State_emit, eq_self, still_State_emit]

theorem still_State_plotDone (a1) (a2) (a3) (s : State) : (State.plotDone a1 a2 a3 s).still = s.still := by
  unfold State.plotDone
  simp only [still_State_plotSays, still_State_modSg, eq_self]

theorem still_State_byC (a1) (s : State) : (State.byC a1 s).still = s.still := by
  unfold State.byC
  repeat' (first | with_reducible rfl | (simp only [still_State_dropAcc, still_State_setAcc, still_State_tell, still_State_giveRead, still_State_mnNoData, still_State_mnRefuse, still_State_plotDone, still_State_plotSays, still_State_fillGives, apply_ite State.still, apply_ite Prod.fst, ite_self, implies_true, eq_self, still_foldl, still_each, still_when, still_State_emit, still_State_used]; done) | (simp only [still_State_dropAcc, still_State_setAcc, still_State_tell, still_State_giveRead, still_State_mnNoData, still_State_mnRefuse, still_State_plotDone, still_State_plotSays, still_State_fillGives, apply_ite State.still, apply_ite Prod.fst, ite_self, implies_true, eq_self, still_foldl, still_each, still_when, still_State_emit, still_State_used]) | split | (refine (still_each _ _ _ (fun x t => ?_)).trans ?_) | (refine (still_when _ _ _ (fun t => ?_)).trans ?_) | (refine (still_foldl _ _ _ (fun t x => ?_)).trans ?_) | (rename_i h; refine (congrArg (fun x => State.still (Prod.fst x)) h).symm.trans ?_; simp only [still_State_dropAcc, still_State_setAcc, still_State_tell, still_State_giveRead, still_State_mnNoData, still_State_mnRefuse, still_State_plotDone, still_State_plotSays, still_State_fillGives, apply_ite State.still, apply_ite Prod.fst, ite_self, implies_true, eq_self, still_foldl, still_each, still_when, still_State_emit, still_State_used]; done) | (refine (still_foldFst _ _ _ (fun x k => ?_)).trans ?_) | intro x)

theorem still_State_toEntry (a1) (s : State) : (State.toEntry a1 s).still = s.still := by
  unfold State.toEntry
  repeat' (first | with_reducible rfl | (simp only [still_State_joinEntry, still_State_dropAcc, apply_ite State.still, apply_ite Prod.fst, ite_self, implies_true, eq_self, still_foldl, still_each, still_when, still_State_emit, still_State_used]; done) | (simp only [still_State_joinEntry, still_State_dropAcc, apply_ite State.still, apply_ite Prod.fst, ite_self, implies_true, eq_self, still_foldl, still_each, still_when, still_State_emit, still_State_used]) | split | (refine (still_each _ _ _ (fun x t => ?_)).trans ?_) | (refine (still_when _ _ _ (fun t => ?_)).trans ?_) | (refine (still_foldl _ _ _ (fun t x => ?_)).trans ?_) | (rename_i h; refine (congrArg (fun x => State.still (Prod.fst x)) h).symm.trans ?_; simp only [still_State_joinEntry, still_State_dropAcc, apply_ite State.still, apply_ite Prod.fst, ite_self, implies_true, eq_self, still_foldl, still_each, still_when, still_State_emit, still_State_used]; done) | (refine (still_foldFst _ _ _ (fun x k => ?_)).trans ?_) | intro x)

theorem still_State_settle (s : State) : (State.settle s).still = s.still := by
  unfold State.settle
  repeat' (first | with_reducible rfl | (simp only [still_each, still_State_toEntry, still_State_byC, apply_ite State.still, apply_ite Prod.fst, ite_self, implies_true, eq_self, still_foldl, still_each, still_when, still_State_emit, still_State_used]; done) | (simp only [still_each, still_State_toEntry, still_State_byC, apply_ite State.still, apply_ite Prod.fst, ite_self, implies_true, eq_self, still_foldl, still_each, still_when, still_State_emit, still_State_used]) | split | (refine (still_each _ _ _ (fun x t => ?_)).trans ?_) | (refine (still_when _ _ _ (fun t => ?_)).trans ?_) | (refine (still_foldl _ _ _ (fun t x => ?_)).trans ?_) | (rename_i h; refine (congrArg (fun x => State.still (Prod.fst x)) h).symm.trans ?_; simp only [still_each, still_State_toEntry, still_State_byC, apply_ite State.still, apply_ite Prod.fst, ite_self, implies_true, eq_self, still_foldl, still_each, still_when, still_State_emit, still_State_used]; done) | (refine (still_foldFst _ _ _ (fun x k => ?_)).trans ?_) | intro x)

theorem still_State_kick (s : State) : (State.kick s).still = s.still := by
  unfold State.kick
  repeat' (first | with_reducible rfl | (simp only [still_each, still_State_issue, apply_ite State.still, apply_ite Prod.fst, ite_self, implies_true, eq_self, still_foldl, still_each, still_when, still_State_emit, still_State_used]; done) | (simp only [still_each, still_State_issue, apply_ite State.still, apply_ite Prod.fst, ite_self, implies_true, eq_self, still_foldl, still_each, still_when, still_State_emit, still_State_used]) | split | (refine (still_each _ _ _ (fun x t => ?_)).trans ?_) | (refine (still_when _ _ _ (fun t => ?_)).trans ?_) | (refine (still_foldl _ _ _ (fun t x => ?_)).trans ?_) | (rename_i h; refine (congrArg (fun x => State.still (Prod.fst x)) h).symm.trans ?_; simp only [still_each, still_State_issue, apply_ite State.still, apply_ite Prod.fst, ite_self, implies_true, eq_self, still_foldl, still_each, still_when, still_State_emit, still_State_used]; done) | (refine (still_foldFst _ _ _ (fun x k => ?_)).trans ?_) | intro x)

theorem still_State_startFill (a1) (a2) (s : State) : (State.startFill a1 a2 s).still = s.still := by
  unfold State.startFill
  simp only [still_State_startPlotAs, still_State_putEntry, eq_self]

theorem still_State_saGo (w) (s : State) : ∀ t, s.saGo w = some t → t.still = s.still := by
  intro t h; unfold State.saGo at h
  simp only [] at h
  split at h
  · cases h
  · split at h
    · cases h; exact still_State_opFails ..
    · split at h
      · cases h; exact still_State_joinEntry ..
      · split at h
        · cases h; exact (still_State_startFill ..).trans (still_State_dropEntry ..)
        · cases h
    · split at h
      · cases h; exact still_State_startFill ..
      · cases h
    · cases h

theorem still_saGoD (w) (s t : State) (h : s.still = t.still) : ((s.saGo w).getD t).still = t.still := by
  cases e : s.saGo w with
  | none => rfl
  | some u => exact (still_State_saGo w s u e).trans h

theorem still_State_saPump (s : State) : s.saPump.still = s.still := by
  unfold State.saPump
  refine still_each _ _ _ fun i t => ?_
  split
  · exact still_saGoD _ _ _ (still_State_modSg ..)
  · rfl

theorem still_State_saRestart (s : State) : (State.saRestart s).still = s.still := by
  unfold State.saRestart
  simp only [still_each, still_State_count, still_State_modRst, still_State_modSg, implies_true, eq_self, still_each]

theorem still_State_flow (s : State) : (State.flow s).still = s.still := by
  unfold State.flow
  simp only [still_State_saRestart, still_State_settle, still_State_kick, still_State_saPump, eq_self]

theorem still_State_reach (a1) (s : State) : (State.reach a1 s).still = s.still := by
  unfold State.reach
  repeat' (first | with_reducible rfl | (simp only [still_State_flow, still_State_tell, still_State_joinEntry, still_State_startPlot, apply_ite State.still, apply_ite Prod.fst, ite_self, implies_true, eq_self, still_foldl, still_each, still_when, still_State_emit, still_State_used]; done) | (simp only [still_State_flow, still_State_tell, still_State_joinEntry, still_State_startPlot, apply_ite State.still, apply_ite Prod.fst, ite_self, implies_true, eq_self, still_foldl, still_each, still_when, still_State_emit, still_State_used]) | split | (refine (still_each _ _ _ (fun x t => ?_)).trans ?_) | (refine (still_when _ _ _ (fun t => ?_)).trans ?_) | (refine (still_foldl _ _ _ (fun t x => ?_)).trans ?_) | (rename_i h; refine (congrArg (fun x => State.still (Prod.fst x)) h).symm.trans ?_; simp only [still_State_flow, still_State_tell, still_State_joinEntry, still_State_startPlot, apply_ite State.still, apply_ite Prod.fst, ite_self, implies_true, eq_self, still_foldl, still_each, still_when, still_State_emit, still_State_used]; done) | (refine (still_foldFst _ _ _ (fun x k => ?_)).trans ?_) | intro x)

theorem still_State_arith (o) (e) (sect) (slot) (plot) (s : State) : (s.arith o e sect slot plot).still = s.still := by
  unfold State.arith
  extract_lets i w u
  refine (still_State_flow _).trans ?_
  split
  · rename_i t h; exact (still_State_saGo _ _ _ h).trans (still_State_takeNo s)
  · have e : u.still = s.still := (still_State_used _).trans <| (still_State_cntr ..).trans <| (still_State_modSg ..).trans (still_State_takeNo s)
    split
    · exact (still_State_readPlot ..).trans e
    · exact e

theorem still_State_answer (a1) (a2) (s : State) : (State.answer a1 a2 s).still = s.still := by
  unfold State.answer
  repeat' (first | with_reducible rfl | (simp only [still_State_dropAcc, still_State_glob, still_State_cntr, still_State_failAcc, still_when, still_State_giveRead, still_State_plotDone, still_State_serveDone, still_State_fillGives, still_State_putSector, still_State_modSg, still_State_mnNoData, apply_ite State.still, apply_ite Prod.fst, ite_self, implies_true, eq_self, still_foldl, still_each, still_when, still_State_emit, still_State_used]; done) | (simp only [still_State_dropAcc, still_State_glob, still_State_cntr, still_State_failAcc, still_when, still_State_giveRead, still_State_plotDone, still_State_serveDone, still_State_fillGives, still_State_putSector, still_State_modSg, still_State_mnNoData, apply_ite State.still, apply_ite Prod.fst, ite_self, implies_true, eq_self, still_foldl, still_each, still_when, still_State_emit, still_State_used]) | split | (refine (still_each _ _ _ (fun x t => ?_)).trans ?_) | (refine (still_when _ _ _ (fun t => ?_)).trans ?_) | (refine (still_foldl _ _ _ (fun t x => ?_)).trans ?_) | (rename_i h; refine (congrArg (fun x => State.still (Prod.fst x)) h).symm.trans ?_; simp only [still_State_dropAcc, still_State_glob, still_State_cntr, still_State_failAcc, still_when, still_State_giveRead, still_State_plotDone, still_State_serveDone, still_State_fillGives, still_State_putSector, still_State_modSg, still_State_mnNoData, apply_ite State.still, apply_ite Prod.fst, ite_self, implies_true, eq_self, still_foldl, still_each, still_when, still_State_emit, still_State_used]; done) | (refine (still_foldFst _ _ _ (fun x k => ?_)).trans ?_) | intro x)

theorem still_State_verify (a1) (s : State) : (State.verify a1 s).still = s.still := by
  unfold State.verify
  simp only [still_when, still_State_sampleMn, still_State_breach, still_State_mnNoData, still_State_dropAcc, still_State_failAcc, still_State_flow, still_State_wiltRegion, still_State_commitPath, still_State_poisonAll, still_State_answer, apply_ite State.still, ite_self, implies_true, eq_self, still_when]

theorem still_State_plotGate (a1) (a2) (a3) (s : State) : (State.plotGate a1 a2 a3 s).1.still = s.still := by
  unfold State.plotGate
  repeat' (first | with_reducible rfl | (simp only [still_State_plotLook, apply_ite State.still, apply_ite Prod.fst, ite_self, implies_true, eq_self, still_foldl, still_each, still_when, still_State_emit, still_State_used]; done) | (simp only [still_State_plotLook, apply_ite State.still, apply_ite Prod.fst, ite_self, implies_true, eq_self, still_foldl, still_each, still_when, still_State_emit, still_State_used]) | split | (refine (still_each _ _ _ (fun x t => ?_)).trans ?_) | (refine (still_when _ _ _ (fun t => ?_)).trans ?_) | (refine (still_foldl _ _ _ (fun t x => ?_)).trans ?_) | (rename_i h; refine (congrArg (fun x => State.still (Prod.fst x)) h).symm.trans ?_; simp only [still_State_plotLook, apply_ite State.still, apply_ite Prod.fst, ite_self, implies_true, eq_self, still_foldl, still_each, still_when, still_State_emit, still_State_used]; done) | (refine (still_foldFst _ _ _ (fun x k => ?_)).trans ?_) | intro x)

theorem still_State_upset (a1) (a2) (a3) (s : State) : (State.upset a1 a2 a3 s).still = s.still := by
  unfold State.upset
  repeat' (first | with_reducible rfl | (simp only [still_State_setAnchor, apply_ite State.still, apply_ite Prod.fst, ite_self, implies_true, eq_self, still_foldl, still_each, still_when, still_State_emit, still_State_used]; done) | (simp only [still_State_setAnchor, apply_ite State.still, apply_ite Prod.fst, ite_self, implies_true, eq_self, still_foldl, still_each, still_when, still_State_emit, still_State_used]) | split | (refine (still_each _ _ _ (fun x t => ?_)).trans ?_) | (refine (still_when _ _ _ (fun t => ?_)).trans ?_) | (refine (still_foldl _ _ _ (fun t x => ?_)).trans ?_) | (rename_i h; refine (congrArg (fun x => State.still (Prod.fst x)) h).symm.trans ?_; simp only [still_State_setAnchor, apply_ite State.still, apply_ite Prod.fst, ite_self, implies_true, eq_self, still_foldl, still_each, still_when, still_State_emit, still_State_used]; done) | (refine (still_foldFst _ _ _ (fun x k => ?_)).trans ?_) | intro x)

theorem still_State_mnGate (a1) (a2) (s : State) : (State.mnGate a1 a2 s).1.still = s.still := by
  unfold State.mnGate
  repeat' (first | with_reducible rfl | (simp only [still_State_glob, still_State_useAnchor, still_State_flow, still_State_wiltRegion, still_State_plotGate, apply_ite State.still, apply_ite Prod.fst, ite_self, implies_true, eq_self, still_foldl, still_each, still_when, still_State_emit, still_State_used]; done) | (simp only [still_State_glob, still_State_useAnchor, still_State_flow, still_State_wiltRegion, still_State_plotGate, apply_ite State.still, apply_ite Prod.fst, ite_self, implies_true, eq_self, still_foldl, still_each, still_when, still_State_emit, still_State_used]) | split | (refine (still_each _ _ _ (fun x t => ?_)).trans ?_) | (refine (still_when _ _ _ (fun t => ?_)).trans ?_) | (refine (still_foldl _ _ _ (fun t x => ?_)).trans ?_) | (rename_i h; refine (congrArg (fun x => State.still (Prod.fst x)) h).symm.trans ?_; simp only [still_State_glob, still_State_useAnchor, still_State_flow, still_State_wiltRegion, still_State_plotGate, apply_ite State.still, apply_ite Prod.fst, ite_self, implies_true, eq_self, still_foldl, still_each, still_when, still_State_emit, still_State_used]; done) | (refine (still_foldFst _ _ _ (fun x k => ?_)).trans ?_) | intro x)

theorem still_State_mnNo (a1) (a2) (a3) (a4) (s : State) : (State.mnNo a1 a2 a3 a4 s).still = s.still := by
  unfold State.mnNo
  repeat' (first | with_reducible rfl | (simp only [still_State_mnRefuse, still_State_mnNoData, apply_ite State.still, apply_ite Prod.fst, ite_self, implies_true, eq_self, still_foldl, still_each, still_when, still_State_emit, still_State_used]; done) | (simp only [still_State_mnRefuse, still_State_mnNoData, apply_ite State.still, apply_ite Prod.fst, ite_self, implies_true, eq_self, still_foldl, still_each, still_when, still_State_emit, still_State_used]) | split | (refine (still_each _ _ _ (fun x t => ?_)).trans ?_) | (refine (still_when _ _ _ (fun t => ?_)).trans ?_) | (refine (still_foldl _ _ _ (fun t x => ?_)).trans ?_) | (rename_i h; refine (congrArg (fun x => State.still (Prod.fst x)) h).symm.trans ?_; simp only [still_State_mnRefuse, still_State_mnNoData, apply_ite State.still, apply_ite Prod.fst, ite_self, implies_true, eq_self, still_foldl, still_each, still_when, still_State_emit, still_State_used]; done) | (refine (still_foldFst _ _ _ (fun x k => ?_)).trans ?_) | intro x)

theorem still_State_reachMn (a1) (a2) (s : State) : (State.reachMn a1 a2 s).still = s.still := by
  unfold State.reachMn
  repeat' (first | with_reducible rfl | (simp only [still_State_flow, still_State_joinEntry, still_State_reach, apply_ite State.still, apply_ite Prod.fst, ite_self, implies_true, eq_self, still_foldl, still_each, still_when, still_State_emit, still_State_used]; done) | (simp only [still_State_flow, still_State_joinEntry, still_State_reach, apply_ite State.still, apply_ite Prod.fst, ite_self, implies_true, eq_self, still_foldl, still_each, still_when, still_State_emit, still_State_used]) | split | (refine (still_each _ _ _ (fun x t => ?_)).trans ?_) | (refine (still_when _ _ _ (fun t => ?_)).trans ?_) | (refine (still_foldl _ _ _ (fun t x => ?_)).trans ?_) | (rename_i h; refine (congrArg (fun x => State.still (Prod.fst x)) h).symm.trans ?_; simp only [still_State_flow, still_State_joinEntry, still_State_reach, apply_ite State.still, apply_ite Prod.fst, ite_self, implies_true, eq_self, still_foldl, still_each, still_when, still_State_emit, still_State_used]; done) | (refine (still_foldFst _ _ _ (fun x k => ?_)).trans ?_) | intro x)

theorem still_State_passWrite (a1) (a2) (a3) (a4) (s : State) : (State.passWrite a1 a2 a3 a4 s).still = s.still := by
  unfold State.passWrite
  repeat' (first | with_reducible rfl | (simp only [still_State_msWrite, still_State_modSg, apply_ite State.still, apply_ite Prod.fst, ite_self, implies_true, eq_self, still_foldl, still_each, still_when, still_State_emit, still_State_used]; done) | (simp only [still_State_msWrite, still_State_modSg, apply_ite State.still, apply_ite Prod.fst, ite_self, implies_true, eq_self, still_foldl, still_each, still_when, still_State_emit, still_State_used]) | split | (refine (still_each _ _ _ (fun x t => ?_)).trans ?_) | (refine (still_when _ _ _ (fun t => ?_)).trans ?_) | (refine (still_foldl _ _ _ (fun t x => ?_)).trans ?_) | (rename_i h; refine (congrArg (fun x => State.still (Prod.fst x)) h).symm.trans ?_; simp only [still_State_msWrite, still_State_modSg, apply_ite State.still, apply_ite Prod.fst, ite_self, implies_true, eq_self, still_foldl, still_each, still_when, still_State_emit, still_State_used]; done) | (refine (still_foldFst _ _ _ (fun x k => ?_)).trans ?_) | intro x)

theorem still_State_lineHere (a1) (a2) (a3) (s : State) : (State.lineHere a1 a2 a3 s).still = s.still := by
  unfold State.lineHere
  simp only [still_State_modLine, eq_self]

theorem still_State_sendLine (a1) (a2) (s : State) : (State.sendLine a1 a2 s).still = s.still := by
  unfold State.sendLine
  simp only [still_State_glob, still_State_msWrite, still_State_modSg, still_State_modLine, apply_ite State.still, ite_self, eq_self]

theorem still_State_backNode (a1) (a2) (s : State) : (State.backNode a1 a2 s).still = s.still := by
  unfold State.backNode
  simp only [still_State_setAnchor, still_State_setWord, still_State_sendLine, apply_ite State.still, ite_self, eq_self]

theorem still_State_ptpIgnore (s : State) : (State.ptpIgnore s).still = s.still := by
  unfold State.ptpIgnore
  simp only [still_State_modDt, eq_self]

theorem still_State_discard (a1) (a2) (s : State) : (State.discard a1 a2 s).still = s.still := by
  unfold State.discard
  simp only [still_State_glob, still_State_count, eq_self]

theorem still_State_rxAccept (a1) (a2) (s : State) : (State.rxAccept a1 a2 s).1.still = s.still := by
  unfold State.rxAccept
  repeat' (first | with_reducible rfl | (simp only [still_State_discard, still_State_modSess, still_State_glob, still_State_wants, still_State_cntr, apply_ite State.still, apply_ite Prod.fst, ite_self, implies_true, eq_self, still_foldl, still_each, still_when, still_State_emit, still_State_used]; done) | (simp only [still_State_discard, still_State_modSess, still_State_glob, still_State_wants, still_State_cntr, apply_ite State.still, apply_ite Prod.fst, ite_self, implies_true, eq_self, still_foldl, still_each, still_when, still_State_emit, still_State_used]) | split | (refine (still_each _ _ _ (fun x t => ?_)).trans ?_) | (refine (still_when _ _ _ (fun t => ?_)).trans ?_) | (refine (still_foldl _ _ _ (fun t x => ?_)).trans ?_) | (rename_i h; refine (congrArg (fun x => State.still (Prod.fst x)) h).symm.trans ?_; simp only [still_State_discard, still_State_modSess, still_State_glob, still_State_wants, still_State_cntr, apply_ite State.still, apply_ite Prod.fst, ite_self, implies_true, eq_self, still_foldl, still_each, still_when, still_State_emit, still_State_used]; done) | (refine (still_foldFst _ _ _ (fun x k => ?_)).trans ?_) | intro x)

theorem still_State_rx (a1) (a2) (a3) (a4) (s : State) (ha4 : ∀ x0 t, State.still (a4 x0 t) = t.still) : (State.rx a1 a2 a3 a4 s).still = s.still := by
  unfold State.rx
  repeat' (first | with_reducible rfl | (simp only [still_State_rxAccept, still_when, still_State_press, still_State_modDt, ha4, apply_ite State.still, apply_ite Prod.fst, ite_self, implies_true, eq_self, still_foldl, still_each, still_when, still_State_emit, still_State_used]; done) | (simp only [still_State_rxAccept, still_when, still_State_press, still_State_modDt, ha4, apply_ite State.still, apply_ite Prod.fst, ite_self, implies_true, eq_self, still_foldl, still_each, still_when, still_State_emit, still_State_used]) | split | (refine (still_each _ _ _ (fun x t => ?_)).trans ?_) | (refine (still_when _ _ _ (fun t => ?_)).trans ?_) | (refine (still_foldl _ _ _ (fun t x => ?_)).trans ?_) | (rename_i h; refine (congrArg (fun x => State.still (Prod.fst x)) h).symm.trans ?_; simp only [still_State_rxAccept, still_when, still_State_press, still_State_modDt, ha4, apply_ite State.still, apply_ite Prod.fst, ite_self, implies_true, eq_self, still_foldl, still_each, still_when, still_State_emit, still_State_used]; done) | (refine (still_foldFst _ _ _ (fun x k => ?_)).trans ?_) | intro x)

theorem still_State_setupFails (a1) (a2) (s : State) : (State.setupFails a1 a2 s).still = s.still := by
  unfold State.setupFails
  simp only [still_State_modSess, still_State_sessDown, eq_self]

theorem still_State_askExchange (a1) (a2) (s : State) : (State.askExchange a1 a2 s).still = s.still := by
  unfold State.askExchange
  repeat' (first | with_reducible rfl | (simp only [still_State_emit, still_State_pkeAdd, still_State_modSess, still_State_setupFails, apply_ite State.still, apply_ite Prod.fst, ite_self, implies_true, eq_self, still_foldl, still_each, still_when, still_State_emit, still_State_used]; done) | (simp only [still_State_emit, still_State_pkeAdd, still_State_modSess, still_State_setupFails, apply_ite State.still, apply_ite Prod.fst, ite_self, implies_true, eq_self, still_foldl, still_each, still_when, still_State_emit, still_State_used]) | split | (refine (still_each _ _ _ (fun x t => ?_)).trans ?_) | (refine (still_when _ _ _ (fun t => ?_)).trans ?_) | (refine (still_foldl _ _ _ (fun t x => ?_)).trans ?_) | (rename_i h; refine (congrArg (fun x => State.still (Prod.fst x)) h).symm.trans ?_; simp only [still_State_emit, still_State_pkeAdd, still_State_modSess, still_State_setupFails, apply_ite State.still, apply_ite Prod.fst, ite_self, implies_true, eq_self, still_foldl, still_each, still_when, still_State_emit, still_State_used]; done) | (refine (still_foldFst _ _ _ (fun x k => ?_)).trans ?_) | intro x)

theorem still_State_setup (a1) (a2) (s : State) : (State.setup a1 a2 s).still = s.still := by
  unfold State.setup
  simp only [still_State_modSess, still_State_traceSess, still_State_modPort, still_State_askExchange, apply_ite State.still, ite_self, eq_self]

theorem still_State_closeSess (a1) (a2) (a3) (s : State) : (State.closeSess a1 a2 a3 s).still = s.still := by
  unfold State.closeSess
  simp only [still_State_modPort, still_State_sessTo, still_State_enqueue, apply_ite State.still, ite_self, eq_self]

theorem still_State_closePart (a1) (a2) (s : State) : (State.closePart a1 a2 s).still = s.still := by
  unfold State.closePart
  simp only [still_each, still_State_closeSess, implies_true, eq_self, still_each]

theorem still_State_rejoinNotice (a1) (s : State) : (State.rejoinNotice a1 s).still = s.still := by
  unfold State.rejoinNotice
  simp only [still_State_broadcast, eq_self]

theorem still_State_tryJoin (a1) (s : State) : (State.tryJoin a1 s).still = s.still := by
  unfold State.tryJoin
  simp only [still_State_rejoinNotice, still_State_lowerPfence, still_State_modPart, still_State_press, apply_ite State.still, ite_self, eq_self]

theorem still_State_tryOpen (a1) (a2) (s : State) : (State.tryOpen a1 a2 s).still = s.still := by
  unfold State.tryOpen
  simp only [still_State_traceSess, still_State_modSess, still_State_emit, still_State_retireAll, still_State_tryJoin, apply_ite State.still, ite_self, eq_self, still_State_emit]

theorem still_State_applyOpen (a1) (a2) (a3) (s : State) : (State.applyOpen a1 a2 a3 s).still = s.still := by
  unfold State.applyOpen
  simp only [still_State_tryOpen, still_State_modSess, apply_ite State.still, ite_self, eq_self]

theorem still_State_applyClose (a1) (a2) (s : State) : (State.applyClose a1 a2 s).still = s.still := by
  unfold State.applyClose
  simp only [still_State_modSess, still_State_closeSess, still_State_sessDown, apply_ite State.still, ite_self, eq_self]

theorem still_State_armDefault (a1) (a2) (a3) (s : State) : (State.armDefault a1 a2 a3 s).still = s.still := by
  unfold State.armDefault
  repeat' (first | with_reducible rfl | (simp only [still_State_modDt, still_State_setSched, apply_ite State.still, apply_ite Prod.fst, ite_self, implies_true, eq_self, still_foldl, still_each, still_when, still_State_emit, still_State_used]; done) | (simp only [still_State_modDt, still_State_setSched, apply_ite State.still, apply_ite Prod.fst, ite_self, implies_true, eq_self, still_foldl, still_each, still_when, still_State_emit, still_State_used]) | split | (refine (still_each _ _ _ (fun x t => ?_)).trans ?_) | (refine (still_when _ _ _ (fun t => ?_)).trans ?_) | (refine (still_foldl _ _ _ (fun t x => ?_)).trans ?_) | (rename_i h; refine (congrArg (fun x => State.still (Prod.fst x)) h).symm.trans ?_; simp only [still_State_modDt, still_State_setSched, apply_ite State.still, apply_ite Prod.fst, ite_self, implies_true, eq_self, still_foldl, still_each, still_when, still_State_emit, still_State_used]; done) | (refine (still_foldFst _ _ _ (fun x k => ?_)).trans ?_) | intro x)

theorem still_State_armDefaults (a1) (s : State) : (State.armDefaults a1 s).still = s.still := by
  unfold State.armDefaults
  simp only [still_State_armDefault, apply_ite State.still, ite_self, eq_self]

theorem still_State_lnkWrite (a1) (a2) (s : State) : (State.lnkWrite a1 a2 s).still = s.still := by
  unfold State.lnkWrite
  simp only [still_State_busErr, still_State_setReg, still_State_armDefaults, still_each, still_State_closeSess, still_State_sessDown1, apply_ite State.still, ite_self, implies_true, eq_self, still_each]

theorem still_State_applyLost (a1) (a2) (a3) (a4) (a5) (s : State) : (State.applyLost a1 a2 a3 a4 a5 s).still = s.still := by
  unfold State.applyLost
  simp only [still_State_modLnk, still_State_broadcast, still_State_modPart, still_State_recordLost, apply_ite State.still, ite_self, eq_self]

theorem still_State_applyFence (a1) (a2) (a3) (a4) (a5) (a6) (a7) (a8) (a9) (s : State) : (State.applyFence a1 a2 a3 a4 a5 a6 a7 a8 a9 s).still = s.still := by
  unfold State.applyFence
  simp only [still_State_broadcast, still_State_modObju, still_State_setFence, still_State_signalHere, apply_ite State.still, ite_self, eq_self, still_finishing]

theorem still_State_saltKeys (a1) (s : State) : (State.saltKeys a1 s).still = s.still := by
  unfold State.saltKeys
  simp only [still_each, still_State_retireFor, apply_ite State.still, ite_self, implies_true, eq_self, still_each]

theorem still_State_flowLess (a1) (a2) (s : State) : (State.flowLess a1 a2 s).still = s.still := by
  unfold State.flowLess
  simp only [still_State_saltKeys, still_State_modPort, eq_self]

theorem still_State_sealFrame (a1) (a2) (s : State) : (State.sealFrame a1 a2 s).still = s.still := by
  unfold State.sealFrame
  simp only [still_State_emit, still_State_modSess, still_State_wants, still_State_modPort, still_when, still_State_modPtp, still_State_glob, still_State_cntr, still_State_tryOpen, still_State_sessDown, apply_ite State.still, apply_ite Prod.fst, ite_self, implies_true, eq_self, still_when, still_State_emit]

theorem still_State_unqueue (a1) (a2) (s : State) : (State.unqueue a1 a2 s).still = s.still := by
  unfold State.unqueue
  simp only [still_State_modPort, eq_self]

theorem still_State_sealPick (a1) (a2) (s : State) : (State.sealPick a1 a2 s).still = s.still := by
  unfold State.sealPick
  simp only [still_State_modPort, still_when, still_State_lowerCstop, still_State_sealFrame, still_State_unqueue, apply_ite State.still, ite_self, implies_true, eq_self, still_when]

theorem still_State_nextSecret (a1) (a2) (a3) (s : State) : (State.nextSecret a1 a2 a3 s).1.still = s.still := by
  unfold State.nextSecret
  simp only [still_State_retireFor, still_State_settleSlot, eq_self]

theorem still_State_epochMove (a1) (a2) (s : State) : (State.epochMove a1 a2 s).still = s.still := by
  unfold State.epochMove
  simp only [still_State_nextSecret, still_State_glob, still_State_modSess, eq_self]

theorem still_State_epochChange (a1) (a2) (s : State) : (State.epochChange a1 a2 s).still = s.still := by
  unfold State.epochChange
  simp only [still_State_modSess, still_State_epochMove, apply_ite State.still, ite_self, eq_self]

theorem still_State_routeReply (a1) (a2) (a3) (a4) (a5) (a6) (s : State) : (State.routeReply a1 a2 a3 a4 a5 a6 s).still = s.still := by
  unfold State.routeReply
  simp only [still_State_enqueue, eq_self]

theorem still_State_applyRoute (a1) (a2) (a3) (a4) (s : State) : (State.applyRoute a1 a2 a3 a4 s).still = s.still := by
  unfold State.applyRoute
  simp only [still_State_routeReply, still_State_enqueue, apply_ite State.still, ite_self, eq_self]

theorem still_State_sendOp (a1) (a2) (s : State) : (State.sendOp a1 a2 s).still = s.still := by
  unfold State.sendOp
  simp only [still_State_sendTo, eq_self]

theorem still_State_traceOp (a1) (a2) (a3) (a4) (s : State) : (State.traceOp a1 a2 a3 a4 s).still = s.still := by
  unfold State.traceOp
  simp only [still_State_trace, eq_self]

theorem still_State_newOp (a1) (s : State) : (State.newOp a1 s).still = s.still := by
  unfold State.newOp
  simp only [still_State_traceOp, still_State_sendOp, still_State_modRem, eq_self]

theorem still_State_takeTxid (a1) (s : State) : (State.takeTxid a1 s).still = s.still := by
  unfold State.takeTxid
  simp only [still_State_modPart, eq_self]

theorem still_State_srcRead (a1) (a2) (a3) (a4) (s : State) : (State.srcRead a1 a2 a3 a4 s).1.still = s.still := by
  unfold State.srcRead
  simp only [still_State_innerRead, eq_self]

theorem still_State_finishOp (a1) (a2) (a3) (a4) (a5) (s : State) : (State.finishOp a1 a2 a3 a4 a5 s).still = s.still := by
  unfold State.finishOp
  simp only [still_State_modRem, still_State_complete, still_State_traceOp, still_when, still_State_cntr, implies_true, eq_self, still_when]

theorem still_State_keepPast (a1) (s : State) : (State.keepPast a1 s).still = s.still := by
  unfold State.keepPast
  simp only [still_State_modRem, eq_self]

theorem still_State_flowAnswered (a1) (a2) (a3) (a4) (a5) (s : State) : (State.flowAnswered a1 a2 a3 a4 a5 s).still = s.still := by
  unfold State.flowAnswered
  simp only [still_State_flowLess, eq_self]

theorem still_State_unlessBreach (a1) (a2) (a3) (s : State) (ha3 : ∀ t, State.still (a3 t) = t.still) : (State.unlessBreach a1 a2 a3 s).still = s.still := by
  unfold State.unlessBreach
  simp only [still_State_discard, ha3, apply_ite State.still, ite_self, eq_self]

theorem still_State_applyReply (a1) (a2) (a3) (s : State) : (State.applyReply a1 a2 a3 s).still = s.still := by
  unfold State.applyReply
  repeat' (first | with_reducible rfl | (simp only [still_State_flowAnswered, still_State_finishOp, still_State_fault, apply_ite State.still, apply_ite Prod.fst, ite_self, implies_true, eq_self, still_foldl, still_each, still_when, still_State_emit, still_State_used]; done) | (simp only [still_State_flowAnswered, still_State_finishOp, still_State_fault, apply_ite State.still, apply_ite Prod.fst, ite_self, implies_true, eq_self, still_foldl, still_each, still_when, still_State_emit, still_State_used]) | split | (refine (still_each _ _ _ (fun x t => ?_)).trans ?_) | (refine (still_when _ _ _ (fun t => ?_)).trans ?_) | (refine (still_foldl _ _ _ (fun t x => ?_)).trans ?_) | (rename_i h; refine (congrArg (fun x => State.still (Prod.fst x)) h).symm.trans ?_; simp only [still_State_flowAnswered, still_State_finishOp, still_State_fault, apply_ite State.still, apply_ite Prod.fst, ite_self, implies_true, eq_self, still_foldl, still_each, still_when, still_State_emit, still_State_used]; done) | (refine (still_foldFst _ _ _ (fun x k => ?_)).trans ?_) | intro x)

theorem still_State_sendReplyTo (a1) (a2) (a3) (a4) (a5) (a6) (a7) (a8) (a9) (a10) (a11) (a12) (s : State) : (State.sendReplyTo a1 a2 a3 a4 a5 a6 a7 a8 a9 a10 a11 a12 s).still = s.still := by
  unfold State.sendReplyTo
  simp only [still_State_enqueue, eq_self]

theorem still_State_memoCount (a1) (a2) (s : State) : (State.memoCount a1 a2 s).still = s.still := by
  unfold State.memoCount
  simp only [still_State_modRem, apply_ite State.still, ite_self, eq_self]

theorem still_State_remotePlace (a1) (a2) (a3) (a4) (a5) (s : State) : (State.remotePlace a1 a2 a3 a4 a5 s).1.still = s.still := by
  unfold State.remotePlace
  repeat' (first | with_reducible rfl | (simp only [still_State_useRegion, apply_ite State.still, apply_ite Prod.fst, ite_self, implies_true, eq_self, still_foldl, still_each, still_when, still_State_emit, still_State_used]; done) | (simp only [still_State_useRegion, apply_ite State.still, apply_ite Prod.fst, ite_self, implies_true, eq_self, still_foldl, still_each, still_when, still_State_emit, still_State_used]) | split | (refine (still_each _ _ _ (fun x t => ?_)).trans ?_) | (refine (still_when _ _ _ (fun t => ?_)).trans ?_) | (refine (still_foldl _ _ _ (fun t x => ?_)).trans ?_) | (rename_i h; refine (congrArg (fun x => State.still (Prod.fst x)) h).symm.trans ?_; simp only [still_State_useRegion, apply_ite State.still, apply_ite Prod.fst, ite_self, implies_true, eq_self, still_foldl, still_each, still_when, still_State_emit, still_State_used]; done) | (refine (still_foldFst _ _ _ (fun x k => ?_)).trans ?_) | intro x)

theorem still_State_runAtomic (a1) (a2) (a3) (a4) (a5) (s : State) : (State.runAtomic a1 a2 a3 a4 a5 s).still = s.still := by
  unfold State.runAtomic
  repeat' (first | with_reducible rfl | (simp only [still_State_answerAtomic, still_State_remotePlace, still_State_plotLook, still_State_arith, apply_ite State.still, apply_ite Prod.fst, ite_self, implies_true, eq_self, still_foldl, still_each, still_when, still_State_emit, still_State_used]; done) | (simp only [still_State_answerAtomic, still_State_remotePlace, still_State_plotLook, still_State_arith, apply_ite State.still, apply_ite Prod.fst, ite_self, implies_true, eq_self, still_foldl, still_each, still_when, still_State_emit, still_State_used]) | split | (refine (still_each _ _ _ (fun x t => ?_)).trans ?_) | (refine (still_when _ _ _ (fun t => ?_)).trans ?_) | (refine (still_foldl _ _ _ (fun t x => ?_)).trans ?_) | (rename_i h; refine (congrArg (fun x => State.still (Prod.fst x)) h).symm.trans ?_; simp only [still_State_answerAtomic, still_State_remotePlace, still_State_plotLook, still_State_arith, apply_ite State.still, apply_ite Prod.fst, ite_self, implies_true, eq_self, still_foldl, still_each, still_when, still_State_emit, still_State_used]; done) | (refine (still_foldFst _ _ _ (fun x k => ?_)).trans ?_) | intro x)

theorem still_State_applyAtomic (a1) (a2) (a3) (a4) (s : State) : (State.applyAtomic a1 a2 a3 a4 s).still = s.still := by
  unfold State.applyAtomic
  repeat' (first | with_reducible rfl | (simp only [still_State_sendReplyTo, still_State_memoCount, still_State_runAtomic, apply_ite State.still, apply_ite Prod.fst, ite_self, implies_true, eq_self, still_foldl, still_each, still_when, still_State_emit, still_State_used]; done) | (simp only [still_State_sendReplyTo, still_State_memoCount, still_State_runAtomic, apply_ite State.still, apply_ite Prod.fst, ite_self, implies_true, eq_self, still_foldl, still_each, still_when, still_State_emit, still_State_used]) | split | (refine (still_each _ _ _ (fun x t => ?_)).trans ?_) | (refine (still_when _ _ _ (fun t => ?_)).trans ?_) | (refine (still_foldl _ _ _ (fun t x => ?_)).trans ?_) | (rename_i h; refine (congrArg (fun x => State.still (Prod.fst x)) h).symm.trans ?_; simp only [still_State_sendReplyTo, still_State_memoCount, still_State_runAtomic, apply_ite State.still, apply_ite Prod.fst, ite_self, implies_true, eq_self, still_foldl, still_each, still_when, still_State_emit, still_State_used]; done) | (refine (still_foldFst _ _ _ (fun x k => ?_)).trans ?_) | intro x)

theorem still_State_applyQuery (a1) (a2) (a3) (s : State) : (State.applyQuery a1 a2 a3 s).still = s.still := by
  unfold State.applyQuery
  repeat' (first | with_reducible rfl | (simp only [still_State_sendReplyTo, still_State_memoAdd, apply_ite State.still, apply_ite Prod.fst, ite_self, implies_true, eq_self, still_foldl, still_each, still_when, still_State_emit, still_State_used]; done) | (simp only [still_State_sendReplyTo, still_State_memoAdd, apply_ite State.still, apply_ite Prod.fst, ite_self, implies_true, eq_self, still_foldl, still_each, still_when, still_State_emit, still_State_used]) | split | (refine (still_each _ _ _ (fun x t => ?_)).trans ?_) | (refine (still_when _ _ _ (fun t => ?_)).trans ?_) | (refine (still_foldl _ _ _ (fun t x => ?_)).trans ?_) | (rename_i h; refine (congrArg (fun x => State.still (Prod.fst x)) h).symm.trans ?_; simp only [still_State_sendReplyTo, still_State_memoAdd, apply_ite State.still, apply_ite Prod.fst, ite_self, implies_true, eq_self, still_foldl, still_each, still_when, still_State_emit, still_State_used]; done) | (refine (still_foldFst _ _ _ (fun x k => ?_)).trans ?_) | intro x)

theorem still_State_startServe (a1) (a2) (a3) (a4) (s : State) : (State.startServe a1 a2 a3 a4 s).still = s.still := by
  unfold State.startServe
  repeat' (first | with_reducible rfl | (simp only [still_State_modRem, still_each, still_State_remotePlace, still_State_serveDone, still_State_plotLook, still_State_reach, apply_ite State.still, apply_ite Prod.fst, ite_self, implies_true, eq_self, still_foldl, still_each, still_when, still_State_emit, still_State_used]; done) | (simp only [still_State_modRem, still_each, still_State_remotePlace, still_State_serveDone, still_State_plotLook, still_State_reach, apply_ite State.still, apply_ite Prod.fst, ite_self, implies_true, eq_self, still_foldl, still_each, still_when, still_State_emit, still_State_used]) | split | (refine (still_each _ _ _ (fun x t => ?_)).trans ?_) | (refine (still_when _ _ _ (fun t => ?_)).trans ?_) | (refine (still_foldl _ _ _ (fun t x => ?_)).trans ?_) | (rename_i h; refine (congrArg (fun x => State.still (Prod.fst x)) h).symm.trans ?_; simp only [still_State_modRem, still_each, still_State_remotePlace, still_State_serveDone, still_State_plotLook, still_State_reach, apply_ite State.still, apply_ite Prod.fst, ite_self, implies_true, eq_self, still_foldl, still_each, still_when, still_State_emit, still_State_used]; done) | (refine (still_foldFst _ _ _ (fun x k => ?_)).trans ?_) | intro x)

theorem still_State_applyRw (a1) (a2) (a3) (s : State) : (State.applyRw a1 a2 a3 s).still = s.still := by
  unfold State.applyRw
  repeat' (first | with_reducible rfl | (simp only [still_State_sendReplyTo, still_State_remotePlace, still_State_memoCount, still_State_startServe, still_State_memoAdd, apply_ite State.still, apply_ite Prod.fst, ite_self, implies_true, eq_self, still_foldl, still_each, still_when, still_State_emit, still_State_used]; done) | (simp only [still_State_sendReplyTo, still_State_remotePlace, still_State_memoCount, still_State_startServe, still_State_memoAdd, apply_ite State.still, apply_ite Prod.fst, ite_self, implies_true, eq_self, still_foldl, still_each, still_when, still_State_emit, still_State_used]) | split | (refine (still_each _ _ _ (fun x t => ?_)).trans ?_) | (refine (still_when _ _ _ (fun t => ?_)).trans ?_) | (refine (still_foldl _ _ _ (fun t x => ?_)).trans ?_) | (rename_i h; refine (congrArg (fun x => State.still (Prod.fst x)) h).symm.trans ?_; simp only [still_State_sendReplyTo, still_State_remotePlace, still_State_memoCount, still_State_startServe, still_State_memoAdd, apply_ite State.still, apply_ite Prod.fst, ite_self, implies_true, eq_self, still_foldl, still_each, still_when, still_State_emit, still_State_used]; done) | (refine (still_foldFst _ _ _ (fun x k => ?_)).trans ?_) | intro x)
  all_goals
    rename_i heq
    refine (congrArg (fun x => State.still (Prod.fst x)) heq).symm.trans ?_
    have e := still_State_remotePlace (a3 - 1) a2.obj a2.gen a2.offset a2.length s
    split
    · split <;> rename_i h <;> rw [h] at e <;> exact e
    · rfl

theorem still_State_sendContrib (a1) (a2) (s : State) : (State.sendContrib a1 a2 s).still = s.still := by
  unfold State.sendContrib
  simp only [still_State_sendTo, eq_self]

theorem still_State_traceContrib (a1) (a2) (a3) (s : State) : (State.traceContrib a1 a2 a3 s).still = s.still := by
  unfold State.traceContrib
  simp only [still_State_trace, eq_self]

theorem still_State_applyAck (a1) (a2) (a3) (a4) (s : State) : (State.applyAck a1 a2 a3 a4 s).still = s.still := by
  unfold State.applyAck
  repeat' (first | with_reducible rfl | (simp only [still_State_flowLess, still_State_complete, still_State_traceContrib, still_State_modRem, still_State_fault, apply_ite State.still, apply_ite Prod.fst, ite_self, implies_true, eq_self, still_foldl, still_each, still_when, still_State_emit, still_State_used]; done) | (simp only [still_State_flowLess, still_State_complete, still_State_traceContrib, still_State_modRem, still_State_fault, apply_ite State.still, apply_ite Prod.fst, ite_self, implies_true, eq_self, still_foldl, still_each, still_when, still_State_emit, still_State_used]) | split | (refine (still_each _ _ _ (fun x t => ?_)).trans ?_) | (refine (still_when _ _ _ (fun t => ?_)).trans ?_) | (refine (still_foldl _ _ _ (fun t x => ?_)).trans ?_) | (rename_i h; refine (congrArg (fun x => State.still (Prod.fst x)) h).symm.trans ?_; simp only [still_State_flowLess, still_State_complete, still_State_traceContrib, still_State_modRem, still_State_fault, apply_ite State.still, apply_ite Prod.fst, ite_self, implies_true, eq_self, still_foldl, still_each, still_when, still_State_emit, still_State_used]; done) | (refine (still_foldFst _ _ _ (fun x k => ?_)).trans ?_) | intro x)

theorem still_State_ackContrib (a1) (a2) (a3) (a4) (s : State) : (State.ackContrib a1 a2 a3 a4 s).still = s.still := by
  unfold State.ackContrib
  simp only [still_State_sendTo, eq_self]

theorem still_State_poolReset (s : State) : (State.poolReset s).still = s.still := by
  unfold State.poolReset
  simp only [still_each, still_State_endReduction, still_State_count, still_State_flag, still_State_modRem, implies_true, eq_self, still_each]

theorem still_State_poolMismatch (a1) (a2) (a3) (s : State) : (State.poolMismatch a1 a2 a3 s).still = s.still := by
  unfold State.poolMismatch
  simp only [still_each, still_State_press, still_State_glob, still_State_modRem, implies_true, eq_self, still_each]

theorem still_State_applyElems (a1) (a2) (a3) (a4) (a5) (s : State) : (State.applyElems a1 a2 a3 a4 a5 s).still = s.still := by
  unfold State.applyElems
  simp only [still_State_ackContrib, still_State_wants, still_State_sendChunk, still_State_putReduction, apply_ite State.still, ite_self, eq_self]

theorem still_State_applyContrib (a1) (a2) (a3) (a4) (a5) (a6) (s : State) : (State.applyContrib a1 a2 a3 a4 a5 a6 s).still = s.still := by
  unfold State.applyContrib
  repeat' (first | with_reducible rfl | (simp only [still_State_ackContrib, still_State_poolReset, still_State_poolMismatch, still_State_applyElems, apply_ite State.still, apply_ite Prod.fst, ite_self, implies_true, eq_self, still_foldl, still_each, still_when, still_State_emit, still_State_used]; done) | (simp only [still_State_ackContrib, still_State_poolReset, still_State_poolMismatch, still_State_applyElems, apply_ite State.still, apply_ite Prod.fst, ite_self, implies_true, eq_self, still_foldl, still_each, still_when, still_State_emit, still_State_used]) | split | (refine (still_each _ _ _ (fun x t => ?_)).trans ?_) | (refine (still_when _ _ _ (fun t => ?_)).trans ?_) | (refine (still_foldl _ _ _ (fun t x => ?_)).trans ?_) | (rename_i h; refine (congrArg (fun x => State.still (Prod.fst x)) h).symm.trans ?_; simp only [still_State_ackContrib, still_State_poolReset, still_State_poolMismatch, still_State_applyElems, apply_ite State.still, apply_ite Prod.fst, ite_self, implies_true, eq_self, still_foldl, still_each, still_when, still_State_emit, still_State_used]; done) | (refine (still_foldFst _ _ _ (fun x k => ?_)).trans ?_) | intro x)

theorem still_State_applyResultAck (a1) (a2) (a3) (a4) (a5) (s : State) : (State.applyResultAck a1 a2 a3 a4 a5 s).still = s.still := by
  unfold State.applyResultAck
  repeat' (first | with_reducible rfl | (simp only [still_State_flowLess, still_State_putReduction, apply_ite State.still, apply_ite Prod.fst, ite_self, implies_true, eq_self, still_foldl, still_each, still_when, still_State_emit, still_State_used]; done) | (simp only [still_State_flowLess, still_State_putReduction, apply_ite State.still, apply_ite Prod.fst, ite_self, implies_true, eq_self, still_foldl, still_each, still_when, still_State_emit, still_State_used]) | split | (refine (still_each _ _ _ (fun x t => ?_)).trans ?_) | (refine (still_when _ _ _ (fun t => ?_)).trans ?_) | (refine (still_foldl _ _ _ (fun t x => ?_)).trans ?_) | (rename_i h; refine (congrArg (fun x => State.still (Prod.fst x)) h).symm.trans ?_; simp only [still_State_flowLess, still_State_putReduction, apply_ite State.still, apply_ite Prod.fst, ite_self, implies_true, eq_self, still_foldl, still_each, still_when, still_State_emit, still_State_used]; done) | (refine (still_foldFst _ _ _ (fun x k => ?_)).trans ?_) | intro x)

theorem still_State_ackResult (a1) (a2) (a3) (a4) (s : State) : (State.ackResult a1 a2 a3 a4 s).still = s.still := by
  unfold State.ackResult
  simp only [still_State_sendTo, eq_self]

theorem still_State_startAccum (a1) (a2) (a3) (a4) (a5) (a6) (s : State) : (State.startAccum a1 a2 a3 a4 a5 a6 s).still = s.still := by
  unfold State.startAccum
  repeat' (first | with_reducible rfl | (simp only [still_State_modRem, still_each, still_State_remotePlace, still_State_serveDone, still_State_plotLook, still_State_arith, apply_ite State.still, apply_ite Prod.fst, ite_self, implies_true, eq_self, still_foldl, still_each, still_when, still_State_emit, still_State_used]; done) | (simp only [still_State_modRem, still_each, still_State_remotePlace, still_State_serveDone, still_State_plotLook, still_State_arith, apply_ite State.still, apply_ite Prod.fst, ite_self, implies_true, eq_self, still_foldl, still_each, still_when, still_State_emit, still_State_used]) | split | (refine (still_each _ _ _ (fun x t => ?_)).trans ?_) | (refine (still_when _ _ _ (fun t => ?_)).trans ?_) | (refine (still_foldl _ _ _ (fun t x => ?_)).trans ?_) | (rename_i h; refine (congrArg (fun x => State.still (Prod.fst x)) h).symm.trans ?_; simp only [still_State_modRem, still_each, still_State_remotePlace, still_State_serveDone, still_State_plotLook, still_State_arith, apply_ite State.still, apply_ite Prod.fst, ite_self, implies_true, eq_self, still_foldl, still_each, still_when, still_State_emit, still_State_used]; done) | (refine (still_foldFst _ _ _ (fun x k => ?_)).trans ?_) | intro x)

theorem still_State_applyResult (a1) (a2) (a3) (a4) (a5) (a6) (a7) (s : State) : (State.applyResult a1 a2 a3 a4 a5 a6 a7 s).still = s.still := by
  unfold State.applyResult
  repeat' (first | with_reducible rfl | (simp only [still_State_ackResult, still_State_resultDone, still_State_fault, still_State_startAccum, still_State_startServe, apply_ite State.still, apply_ite Prod.fst, ite_self, implies_true, eq_self, still_foldl, still_each, still_when, still_State_emit, still_State_used]; done) | (simp only [still_State_ackResult, still_State_resultDone, still_State_fault, still_State_startAccum, still_State_startServe, apply_ite State.still, apply_ite Prod.fst, ite_self, implies_true, eq_self, still_foldl, still_each, still_when, still_State_emit, still_State_used]) | split | (refine (still_each _ _ _ (fun x t => ?_)).trans ?_) | (refine (still_when _ _ _ (fun t => ?_)).trans ?_) | (refine (still_foldl _ _ _ (fun t x => ?_)).trans ?_) | (rename_i h; refine (congrArg (fun x => State.still (Prod.fst x)) h).symm.trans ?_; simp only [still_State_ackResult, still_State_resultDone, still_State_fault, still_State_startAccum, still_State_startServe, apply_ite State.still, apply_ite Prod.fst, ite_self, implies_true, eq_self, still_foldl, still_each, still_when, still_State_emit, still_State_used]; done) | (refine (still_foldFst _ _ _ (fun x k => ?_)).trans ?_) | intro x)

theorem still_State_dtTo (a1) (s : State) : (State.dtTo a1 s).still = s.still := by
  unfold State.dtTo
  simp only [still_State_dtEnter, still_each, still_State_tryJoin, apply_ite State.still, ite_self, implies_true, eq_self, still_each]

theorem still_State_dtLoad (s : State) : s.dtLoad.still = s.still :=
  (still_State_dtTo _ _).trans (still_State_modDt _ _)

theorem still_State_dtStart (s : State) : (State.dtStart s).still = s.still := by
  unfold State.dtStart
  simp only [still_State_dtLoad, still_State_dtTo, apply_ite State.still, ite_self, eq_self]

theorem still_State_dtStop (s : State) : (State.dtStop s).still = s.still := by
  unfold State.dtStop
  simp only [still_State_modDt, still_State_dtTo, eq_self]

theorem still_State_dtCtrl (a1) (a2) (a3) (s : State) : (State.dtCtrl a1 a2 a3 s).still = s.still := by
  unfold State.dtCtrl
  simp only [still_State_flag, still_State_setReg, still_State_dtStart, still_State_dtStop, apply_ite State.still, ite_self, eq_self]

theorem still_State_ptpSend (a1) (a2) (a3) (a4) (a5) (a6) (a7) (s : State) : (State.ptpSend a1 a2 a3 a4 a5 a6 a7 s).still = s.still := by
  unfold State.ptpSend
  simp only [still_State_enqueue, apply_ite State.still, ite_self, eq_self]

theorem still_State_ptpNext (a1) (s : State) : (State.ptpNext a1 s).still = s.still := by
  unfold State.ptpNext
  simp only [still_State_modPtp, eq_self]

theorem still_State_servo (s : State) : (State.servo s).still = s.still := by
  unfold State.servo
  simp only [still_State_used, still_State_modDt, eq_self, still_State_used]

theorem still_State_dtStep (a1) (s : State) : (State.dtStep a1 s).still = s.still := by
  unfold State.dtStep
  simp only [still_State_modDt, eq_self]

theorem still_State_dtRuns (a1) (a2) (s : State) : (State.dtRuns a1 a2 s).still = s.still := by
  unfold State.dtRuns
  simp only [still_State_modDt, eq_self]

theorem still_State_dtOffset (a1) (a2) (s : State) : (State.dtOffset a1 a2 s).still = s.still := by
  unfold State.dtOffset
  simp only [still_State_modDt, still_when, still_State_flag, still_State_dtStep, still_State_dtRuns, still_State_servo, still_State_dtTo, apply_ite State.still, ite_self, implies_true, eq_self, still_when]

theorem still_State_ptpTake (a1) (a2) (a3) (s : State) : (State.ptpTake a1 a2 a3 s).still = s.still := by
  unfold State.ptpTake
  repeat' (first | with_reducible rfl | (simp only [still_State_modPtp, still_State_dtOffset, still_State_ptpSend, still_State_reselect, apply_ite State.still, apply_ite Prod.fst, ite_self, implies_true, eq_self, still_foldl, still_each, still_when, still_State_emit, still_State_used]; done) | (simp only [still_State_modPtp, still_State_dtOffset, still_State_ptpSend, still_State_reselect, apply_ite State.still, apply_ite Prod.fst, ite_self, implies_true, eq_self, still_foldl, still_each, still_when, still_State_emit, still_State_used]) | split | (refine (still_each _ _ _ (fun x t => ?_)).trans ?_) | (refine (still_when _ _ _ (fun t => ?_)).trans ?_) | (refine (still_foldl _ _ _ (fun t x => ?_)).trans ?_) | (rename_i h; refine (congrArg (fun x => State.still (Prod.fst x)) h).symm.trans ?_; simp only [still_State_modPtp, still_State_dtOffset, still_State_ptpSend, still_State_reselect, apply_ite State.still, apply_ite Prod.fst, ite_self, implies_true, eq_self, still_foldl, still_each, still_when, still_State_emit, still_State_used]; done) | (refine (still_foldFst _ _ _ (fun x k => ?_)).trans ?_) | intro x)

theorem still_State_drawn (s : State) : (State.drawn s).still = s.still := by
  unfold State.drawn
  simp only [still_State_modKey, still_State_used, eq_self, still_State_used]

theorem still_State_drawnPr (s : State) : (State.drawnPr s).still = s.still := by
  unfold State.drawnPr
  simp only [still_State_modKey, still_State_used, eq_self, still_State_used]

theorem still_State_newControl (a1) (a2) (a3) (a4) (a5) (a6) (s : State) : (State.newControl a1 a2 a3 a4 a5 a6 s).still = s.still := by
  unfold State.newControl
  repeat' (first | with_reducible rfl | (simp only [still_State_ok, still_State_fill, still_State_endsWith, apply_ite State.still, apply_ite Prod.fst, ite_self, implies_true, eq_self, still_foldl, still_each, still_when, still_State_emit, still_State_used]; done) | (simp only [still_State_ok, still_State_fill, still_State_endsWith, apply_ite State.still, apply_ite Prod.fst, ite_self, implies_true, eq_self, still_foldl, still_each, still_when, still_State_emit, still_State_used]) | split | (refine (still_each _ _ _ (fun x t => ?_)).trans ?_) | (refine (still_when _ _ _ (fun t => ?_)).trans ?_) | (refine (still_foldl _ _ _ (fun t x => ?_)).trans ?_) | (rename_i h; refine (congrArg (fun x => State.still (Prod.fst x)) h).symm.trans ?_; simp only [still_State_ok, still_State_fill, still_State_endsWith, apply_ite State.still, apply_ite Prod.fst, ite_self, implies_true, eq_self, still_foldl, still_each, still_when, still_State_emit, still_State_used]; done) | (refine (still_foldFst _ _ _ (fun x k => ?_)).trans ?_) | intro x)

theorem still_State_cceTolaro (a1) (a2) (a3) (a4) (a5) (a6) (s : State) : (State.cceTolaro a1 a2 a3 a4 a5 a6 s).still = s.still := by
  unfold State.cceTolaro
  simp only [still_State_modKey, still_when, still_State_drawn, apply_ite State.still, ite_self, implies_true, eq_self, still_when]

theorem still_State_pkeNext (a1) (a2) (s : State) : (State.pkeNext a1 a2 s).still = s.still := by
  unfold State.pkeNext
  simp only [still_State_modKey, eq_self]

theorem still_State_setReseal (a1) (a2) (s : State) : (State.setReseal a1 a2 s).still = s.still := by
  unfold State.setReseal
  simp only [still_State_modKey, eq_self]

theorem still_State_resealEnd (a1) (s : State) : (State.resealEnd a1 s).still = s.still := by
  unfold State.resealEnd
  repeat' (first | with_reducible rfl | (simp only [still_State_writeObj, still_State_modObj, still_State_setReseal, still_State_retire, still_State_ok, still_State_endsWith, apply_ite State.still, apply_ite Prod.fst, ite_self, implies_true, eq_self, still_foldl, still_each, still_when, still_State_emit, still_State_used]; done) | (simp only [still_State_writeObj, still_State_modObj, still_State_setReseal, still_State_retire, still_State_ok, still_State_endsWith, apply_ite State.still, apply_ite Prod.fst, ite_self, implies_true, eq_self, still_foldl, still_each, still_when, still_State_emit, still_State_used]) | split | (refine (still_each _ _ _ (fun x t => ?_)).trans ?_) | (refine (still_when _ _ _ (fun t => ?_)).trans ?_) | (refine (still_foldl _ _ _ (fun t x => ?_)).trans ?_) | (rename_i h; refine (congrArg (fun x => State.still (Prod.fst x)) h).symm.trans ?_; simp only [still_State_writeObj, still_State_modObj, still_State_setReseal, still_State_retire, still_State_ok, still_State_endsWith, apply_ite State.still, apply_ite Prod.fst, ite_self, implies_true, eq_self, still_foldl, still_each, still_when, still_State_emit, still_State_used]; done) | (refine (still_foldFst _ _ _ (fun x k => ?_)).trans ?_) | intro x)

theorem still_State_commitWindow (a1) (s : State) : (State.commitWindow a1 s).still = s.still := by
  unfold State.commitWindow
  simp only [still_State_modRegf, still_each, still_State_setReg, still_State_armDefaults, apply_ite State.still, ite_self, implies_true, eq_self, still_each]

theorem still_State_sgWrite (a1) (a2) (s : State) : (State.sgWrite a1 a2 s).still = s.still := by
  unfold State.sgWrite
  simp only [still_State_busErr, still_State_setFld, still_State_flag, apply_ite State.still, ite_self, eq_self]

theorem still_State_commitWeights (a1) (s : State) : (State.commitWeights a1 s).still = s.still := by
  unfold State.commitWeights
  simp only [still_State_modShare, apply_ite State.still, ite_self, eq_self]

theorem still_State_commitNamed (a1) (s : State) : (State.commitNamed a1 s).still = s.still := by
  unfold State.commitNamed
  repeat' (first | with_reducible rfl | (simp only [still_State_commitWindow, still_State_commitWeights, apply_ite State.still, apply_ite Prod.fst, ite_self, implies_true, eq_self, still_foldl, still_each, still_when, still_State_emit, still_State_used]; done) | (simp only [still_State_commitWindow, still_State_commitWeights, apply_ite State.still, apply_ite Prod.fst, ite_self, implies_true, eq_self, still_foldl, still_each, still_when, still_State_emit, still_State_used]) | split | (refine (still_each _ _ _ (fun x t => ?_)).trans ?_) | (refine (still_when _ _ _ (fun t => ?_)).trans ?_) | (refine (still_foldl _ _ _ (fun t x => ?_)).trans ?_) | (rename_i h; refine (congrArg (fun x => State.still (Prod.fst x)) h).symm.trans ?_; simp only [still_State_commitWindow, still_State_commitWeights, apply_ite State.still, apply_ite Prod.fst, ite_self, implies_true, eq_self, still_foldl, still_each, still_when, still_State_emit, still_State_used]; done) | (refine (still_foldFst _ _ _ (fun x k => ?_)).trans ?_) | intro x)

theorem still_State_commitIdle (a1) (s : State) : (State.commitIdle a1 s).still = s.still := by
  unfold State.commitIdle
  repeat' (first | with_reducible rfl | (simp only [still_State_commitWindow, still_State_modRegf, still_State_commitNamed, apply_ite State.still, apply_ite Prod.fst, ite_self, implies_true, eq_self, still_foldl, still_each, still_when, still_State_emit, still_State_used]; done) | (simp only [still_State_commitWindow, still_State_modRegf, still_State_commitNamed, apply_ite State.still, apply_ite Prod.fst, ite_self, implies_true, eq_self, still_foldl, still_each, still_when, still_State_emit, still_State_used]) | split | (refine (still_each _ _ _ (fun x t => ?_)).trans ?_) | (refine (still_when _ _ _ (fun t => ?_)).trans ?_) | (refine (still_foldl _ _ _ (fun t x => ?_)).trans ?_) | (rename_i h; refine (congrArg (fun x => State.still (Prod.fst x)) h).symm.trans ?_; simp only [still_State_commitWindow, still_State_modRegf, still_State_commitNamed, apply_ite State.still, apply_ite Prod.fst, ite_self, implies_true, eq_self, still_foldl, still_each, still_when, still_State_emit, still_State_used]; done) | (refine (still_foldFst _ _ _ (fun x k => ?_)).trans ?_) | intro x)

theorem still_State_wakeOne (a1) (s : State) : (State.wakeOne a1 s).still = s.still := by
  unfold State.wakeOne
  simp only [still_State_modShare, still_State_modUnit, apply_ite State.still, ite_self, eq_self]

theorem still_State_modTdi (a1) (a2) (s : State) : (State.modTdi a1 a2 s).still = s.still := by
  unfold State.modTdi
  simp only [still_State_modHst, eq_self]

theorem still_State_modStream (a1) (a2) (a3) (s : State) : (State.modStream a1 a2 a3 s).still = s.still := by
  unfold State.modStream
  simp only [still_State_modHst, eq_self]

theorem still_State_modKeys (a1) (a2) (a3) (a4) (a5) (s : State) : (State.modKeys a1 a2 a3 a4 a5 s).still = s.still := by
  unfold State.modKeys
  simp only [still_State_modHst, eq_self]

theorem still_State_tilesFault (a1) (a2) (s : State) : (State.tilesFault a1 a2 s).still = s.still := by
  unfold State.tilesFault
  simp only [still_each, still_State_tileFault, implies_true, eq_self, still_each]

theorem still_State_tdiLeaves (a1) (a2) (s : State) : (State.tdiLeaves a1 a2 s).still = s.still := by
  unfold State.tdiLeaves
  simp only [still_State_modHst, still_State_tilesFault, eq_self]

theorem still_State_tdiError (a1) (s : State) : (State.tdiError a1 s).still = s.still := by
  unfold State.tdiError
  simp only [still_State_tdiLeaves, still_State_modTdi, apply_ite State.still, ite_self, eq_self]

theorem still_State_tdiStop (a1) (s : State) : (State.tdiStop a1 s).still = s.still := by
  unfold State.tdiStop
  simp only [still_State_modTdi, still_State_tdiLeaves, apply_ite State.still, ite_self, eq_self]

theorem still_State_streamDown (a1) (a2) (s : State) : (State.streamDown a1 a2 s).still = s.still := by
  unfold State.streamDown
  simp only [still_each, still_State_retire, still_State_modHst, still_State_modStream, still_State_tdiError, implies_true, eq_self, still_each]

theorem still_State_tryStream (a1) (a2) (s : State) : (State.tryStream a1 a2 s).still = s.still := by
  unfold State.tryStream
  simp only [still_State_modStream, apply_ite State.still, ite_self, eq_self]

theorem still_State_ideAnswer (a1) (a2) (s : State) : (State.ideAnswer a1 a2 s).still = s.still := by
  unfold State.ideAnswer
  simp only [still_State_respond, eq_self]

theorem still_State_tdisp (a1) (a2) (a3) (a4) (s : State) (ha4 : ∀ t, State.still (a4 t) = t.still) : (State.tdisp a1 a2 a3 a4 s).still = s.still := by
  unfold State.tdisp
  simp only [still_State_respond, ha4, apply_ite State.still, ite_self, eq_self]

theorem still_State_tdispAnswer (a1) (a2) (a3) (s : State) : (State.tdispAnswer a1 a2 a3 s).still = s.still := by
  unfold State.tdispAnswer
  simp only [still_State_respond, eq_self]

theorem still_State_ideCfg (a1) (a2) (a3) (s : State) : (State.ideCfg a1 a2 a3 s).still = s.still := by
  unfold State.ideCfg
  simp only [still_State_modStream, still_State_tryStream, still_State_streamDown, apply_ite State.still, ite_self, eq_self]

theorem still_State_sendTlp (a1) (a2) (a3) (s : State) : (State.sendTlp a1 a2 a3 s).still = s.still := by
  unfold State.sendTlp
  repeat' (first | with_reducible rfl | (simp only [still_State_emit, still_State_modHst, still_State_glob, still_State_wants, apply_ite State.still, apply_ite Prod.fst, ite_self, implies_true, eq_self, still_foldl, still_each, still_when, still_State_emit, still_State_used]; done) | (simp only [still_State_emit, still_State_modHst, still_State_glob, still_State_wants, apply_ite State.still, apply_ite Prod.fst, ite_self, implies_true, eq_self, still_foldl, still_each, still_when, still_State_emit, still_State_used]) | split | (refine (still_each _ _ _ (fun x t => ?_)).trans ?_) | (refine (still_when _ _ _ (fun t => ?_)).trans ?_) | (refine (still_foldl _ _ _ (fun t x => ?_)).trans ?_) | (rename_i h; refine (congrArg (fun x => State.still (Prod.fst x)) h).symm.trans ?_; simp only [still_State_emit, still_State_modHst, still_State_glob, still_State_wants, apply_ite State.still, apply_ite Prod.fst, ite_self, implies_true, eq_self, still_foldl, still_each, still_when, still_State_emit, still_State_used]; done) | (refine (still_foldFst _ _ _ (fun x k => ?_)).trans ?_) | intro x)

theorem still_State_outTlp (a1) (a2) (a3) (s : State) : (State.outTlp a1 a2 a3 s).still = s.still := by
  unfold State.outTlp
  repeat' (first | with_reducible rfl | (simp only [still_State_fault, still_State_sendTlp, apply_ite State.still, apply_ite Prod.fst, ite_self, implies_true, eq_self, still_foldl, still_each, still_when, still_State_emit, still_State_used]; done) | (simp only [still_State_fault, still_State_sendTlp, apply_ite State.still, apply_ite Prod.fst, ite_self, implies_true, eq_self, still_foldl, still_each, still_when, still_State_emit, still_State_used]) | split | (refine (still_each _ _ _ (fun x t => ?_)).trans ?_) | (refine (still_when _ _ _ (fun t => ?_)).trans ?_) | (refine (still_foldl _ _ _ (fun t x => ?_)).trans ?_) | (rename_i h; refine (congrArg (fun x => State.still (Prod.fst x)) h).symm.trans ?_; simp only [still_State_fault, still_State_sendTlp, apply_ite State.still, apply_ite Prod.fst, ite_self, implies_true, eq_self, still_foldl, still_each, still_when, still_State_emit, still_State_used]; done) | (refine (still_foldFst _ _ _ (fun x k => ?_)).trans ?_) | intro x)

theorem still_State_putPage (a1) (a2) (a3) (s : State) : (State.putPage a1 a2 a3 s).still = s.still := by
  unfold State.putPage
  repeat' (first | with_reducible rfl | (simp only [still_State_modHst, apply_ite State.still, apply_ite Prod.fst, ite_self, implies_true, eq_self, still_foldl, still_each, still_when, still_State_emit, still_State_used]; done) | (simp only [still_State_modHst, apply_ite State.still, apply_ite Prod.fst, ite_self, implies_true, eq_self, still_foldl, still_each, still_when, still_State_emit, still_State_used]) | split | (refine (still_each _ _ _ (fun x t => ?_)).trans ?_) | (refine (still_when _ _ _ (fun t => ?_)).trans ?_) | (refine (still_foldl _ _ _ (fun t x => ?_)).trans ?_) | (rename_i h; refine (congrArg (fun x => State.still (Prod.fst x)) h).symm.trans ?_; simp only [still_State_modHst, apply_ite State.still, apply_ite Prod.fst, ite_self, implies_true, eq_self, still_foldl, still_each, still_when, still_State_emit, still_State_used]; done) | (refine (still_foldFst _ _ _ (fun x k => ?_)).trans ?_) | intro x)

theorem still_State_touchAtc (a1) (a2) (a3) (s : State) : (State.touchAtc a1 a2 a3 s).still = s.still := by
  unfold State.touchAtc
  repeat' (first | with_reducible rfl | (simp only [still_State_modHst, apply_ite State.still, apply_ite Prod.fst, ite_self, implies_true, eq_self, still_foldl, still_each, still_when, still_State_emit, still_State_used]; done) | (simp only [still_State_modHst, apply_ite State.still, apply_ite Prod.fst, ite_self, implies_true, eq_self, still_foldl, still_each, still_when, still_State_emit, still_State_used]) | split | (refine (still_each _ _ _ (fun x t => ?_)).trans ?_) | (refine (still_when _ _ _ (fun t => ?_)).trans ?_) | (refine (still_foldl _ _ _ (fun t x => ?_)).trans ?_) | (rename_i h; refine (congrArg (fun x => State.still (Prod.fst x)) h).symm.trans ?_; simp only [still_State_modHst, apply_ite State.still, apply_ite Prod.fst, ite_self, implies_true, eq_self, still_foldl, still_each, still_when, still_State_emit, still_State_used]; done) | (refine (still_foldFst _ _ _ (fun x k => ?_)).trans ?_) | intro x)

theorem still_State_askPage (a1) (a2) (a3) (a4) (s : State) : (State.askPage a1 a2 a3 a4 s).still = s.still := by
  unfold State.askPage
  repeat' (first | with_reducible rfl | (simp only [still_State_emit, still_State_glob, still_State_modHst, apply_ite State.still, apply_ite Prod.fst, ite_self, implies_true, eq_self, still_foldl, still_each, still_when, still_State_emit, still_State_used]; done) | (simp only [still_State_emit, still_State_glob, still_State_modHst, apply_ite State.still, apply_ite Prod.fst, ite_self, implies_true, eq_self, still_foldl, still_each, still_when, still_State_emit, still_State_used]) | split | (refine (still_each _ _ _ (fun x t => ?_)).trans ?_) | (refine (still_when _ _ _ (fun t => ?_)).trans ?_) | (refine (still_foldl _ _ _ (fun t x => ?_)).trans ?_) | (rename_i h; refine (congrArg (fun x => State.still (Prod.fst x)) h).symm.trans ?_; simp only [still_State_emit, still_State_glob, still_State_modHst, apply_ite State.still, apply_ite Prod.fst, ite_self, implies_true, eq_self, still_foldl, still_each, still_when, still_State_emit, still_State_used]; done) | (refine (still_foldFst _ _ _ (fun x k => ?_)).trans ?_) | intro x)

theorem still_State_pumpAsk (a1) (s : State) : (State.pumpAsk a1 s).still = s.still := by
  unfold State.pumpAsk
  simp only [still_each, still_State_askPage, implies_true, eq_self, still_each]

theorem still_State_stage4 (a1) (a2) (a3) (a4) (a5) (s : State) : (State.stage4 a1 a2 a3 a4 a5 s).still = s.still := by
  unfold State.stage4
  repeat' (first | with_reducible rfl | (simp only [still_State_sendTlp, still_State_outTlp, still_State_modTile, still_State_touchAtc, apply_ite State.still, apply_ite Prod.fst, ite_self, implies_true, eq_self, still_foldl, still_each, still_when, still_State_emit, still_State_used]; done) | (simp only [still_State_sendTlp, still_State_outTlp, still_State_modTile, still_State_touchAtc, apply_ite State.still, apply_ite Prod.fst, ite_self, implies_true, eq_self, still_foldl, still_each, still_when, still_State_emit, still_State_used]) | split | (refine (still_each _ _ _ (fun x t => ?_)).trans ?_) | (refine (still_when _ _ _ (fun t => ?_)).trans ?_) | (refine (still_foldl _ _ _ (fun t x => ?_)).trans ?_) | (rename_i h; refine (congrArg (fun x => State.still (Prod.fst x)) h).symm.trans ?_; simp only [still_State_sendTlp, still_State_outTlp, still_State_modTile, still_State_touchAtc, apply_ite State.still, apply_ite Prod.fst, ite_self, implies_true, eq_self, still_foldl, still_each, still_when, still_State_emit, still_State_used]; done) | (refine (still_foldFst _ _ _ (fun x k => ?_)).trans ?_) | intro x)

theorem still_State_stage3 (a1) (a2) (a3) (a4) (a5) (s : State) : (State.stage3 a1 a2 a3 a4 a5 s).still = s.still := by
  unfold State.stage3
  simp only [still_State_modHst, still_State_stage4, apply_ite State.still, ite_self, eq_self]

theorem still_State_tileSend (a1) (a2) (a3) (a4) (s : State) : (State.tileSend a1 a2 a3 a4 s).still = s.still := by
  unfold State.tileSend
  simp only [still_State_stage3, eq_self]

theorem still_State_tileMove (a1) (a2) (s : State) : (State.tileMove a1 a2 s).still = s.still := by
  unfold State.tileMove
  simp only [still_State_trace, still_State_modTile, still_each, still_State_tileSend, apply_ite State.still, ite_self, implies_true, eq_self, still_each]

theorem still_State_pump (a1) (s : State) : (State.pump a1 s).still = s.still := by
  unfold State.pump
  simp only [still_State_pumpAsk, still_each, still_State_tileMove, implies_true, eq_self, still_each]

theorem still_State_pageFail (a1) (a2) (a3) (a4) (s : State) : (State.pageFail a1 a2 a3 a4 s).still = s.still := by
  unfold State.pageFail
  simp only [still_each, still_State_tileFault, apply_ite State.still, ite_self, implies_true, eq_self, still_each]

theorem still_State_pageMiss (a1) (a2) (a3) (a4) (s : State) : (State.pageMiss a1 a2 a3 a4 s).still = s.still := by
  unfold State.pageMiss
  repeat' (first | with_reducible rfl | (simp only [still_State_pageFail, still_State_emit, still_State_glob, still_State_modHst, apply_ite State.still, apply_ite Prod.fst, ite_self, implies_true, eq_self, still_foldl, still_each, still_when, still_State_emit, still_State_used]; done) | (simp only [still_State_pageFail, still_State_emit, still_State_glob, still_State_modHst, apply_ite State.still, apply_ite Prod.fst, ite_self, implies_true, eq_self, still_foldl, still_each, still_when, still_State_emit, still_State_used]) | split | (refine (still_each _ _ _ (fun x t => ?_)).trans ?_) | (refine (still_when _ _ _ (fun t => ?_)).trans ?_) | (refine (still_foldl _ _ _ (fun t x => ?_)).trans ?_) | (rename_i h; refine (congrArg (fun x => State.still (Prod.fst x)) h).symm.trans ?_; simp only [still_State_pageFail, still_State_emit, still_State_glob, still_State_modHst, apply_ite State.still, apply_ite Prod.fst, ite_self, implies_true, eq_self, still_foldl, still_each, still_when, still_State_emit, still_State_used]; done) | (refine (still_foldFst _ _ _ (fun x k => ?_)).trans ?_) | intro x)

theorem still_State_prNext (s : State) : (State.prNext s).still = s.still := by
  unfold State.prNext
  repeat' (first | with_reducible rfl | (simp only [still_State_pageMiss, still_State_modHst, apply_ite State.still, apply_ite Prod.fst, ite_self, implies_true, eq_self, still_foldl, still_each, still_when, still_State_emit, still_State_used]; done) | (simp only [still_State_pageMiss, still_State_modHst, apply_ite State.still, apply_ite Prod.fst, ite_self, implies_true, eq_self, still_foldl, still_each, still_when, still_State_emit, still_State_used]) | split | (refine (still_each _ _ _ (fun x t => ?_)).trans ?_) | (refine (still_when _ _ _ (fun t => ?_)).trans ?_) | (refine (still_foldl _ _ _ (fun t x => ?_)).trans ?_) | (rename_i h; refine (congrArg (fun x => State.still (Prod.fst x)) h).symm.trans ?_; simp only [still_State_pageMiss, still_State_modHst, apply_ite State.still, apply_ite Prod.fst, ite_self, implies_true, eq_self, still_foldl, still_each, still_when, still_State_emit, still_State_used]; done) | (refine (still_foldFst _ _ _ (fun x k => ?_)).trans ?_) | intro x)

theorem still_State_trEnds (a1) (a2) (s : State) : (State.trEnds a1 a2 s).still = s.still := by
  unfold State.trEnds
  simp only [still_each, still_State_putPage, still_State_modHst, still_State_pump, still_State_pageMiss, implies_true, eq_self, still_each]

theorem still_State_tileTlp (a1) (a2) (a3) (s : State) : (State.tileTlp a1 a2 a3 s).still = s.still := by
  unfold State.tileTlp
  repeat' (first | with_reducible rfl | (simp only [still_State_fault, still_State_used, still_State_cntr, still_State_tileSend, still_State_pumpAsk, still_State_modTile, apply_ite State.still, apply_ite Prod.fst, ite_self, implies_true, eq_self, still_foldl, still_each, still_when, still_State_emit, still_State_used]; done) | (simp only [still_State_fault, still_State_used, still_State_cntr, still_State_tileSend, still_State_pumpAsk, still_State_modTile, apply_ite State.still, apply_ite Prod.fst, ite_self, implies_true, eq_self, still_foldl, still_each, still_when, still_State_emit, still_State_used]) | split | (refine (still_each _ _ _ (fun x t => ?_)).trans ?_) | (refine (still_when _ _ _ (fun t => ?_)).trans ?_) | (refine (still_foldl _ _ _ (fun t x => ?_)).trans ?_) | (rename_i h; refine (congrArg (fun x => State.still (Prod.fst x)) h).symm.trans ?_; simp only [still_State_fault, still_State_used, still_State_cntr, still_State_tileSend, still_State_pumpAsk, still_State_modTile, apply_ite State.still, apply_ite Prod.fst, ite_self, implies_true, eq_self, still_foldl, still_each, still_when, still_State_emit, still_State_used]; done) | (refine (still_foldFst _ _ _ (fun x k => ?_)).trans ?_) | intro x)

theorem still_State_txTlp (a1) (a2) (s : State) : (State.txTlp a1 a2 s).still = s.still := by
  unfold State.txTlp
  repeat' (first | with_reducible rfl | (simp only [still_State_emit, still_State_stage3, still_State_tileTlp, still_State_used, still_State_cntr, apply_ite State.still, apply_ite Prod.fst, ite_self, implies_true, eq_self, still_foldl, still_each, still_when, still_State_emit, still_State_used]; done) | (simp only [still_State_emit, still_State_stage3, still_State_tileTlp, still_State_used, still_State_cntr, apply_ite State.still, apply_ite Prod.fst, ite_self, implies_true, eq_self, still_foldl, still_each, still_when, still_State_emit, still_State_used]) | split | (refine (still_each _ _ _ (fun x t => ?_)).trans ?_) | (refine (still_when _ _ _ (fun t => ?_)).trans ?_) | (refine (still_foldl _ _ _ (fun t x => ?_)).trans ?_) | (rename_i h; refine (congrArg (fun x => State.still (Prod.fst x)) h).symm.trans ?_; simp only [still_State_emit, still_State_stage3, still_State_tileTlp, still_State_used, still_State_cntr, apply_ite State.still, apply_ite Prod.fst, ite_self, implies_true, eq_self, still_foldl, still_each, still_when, still_State_emit, still_State_used]; done) | (refine (still_foldFst _ _ _ (fun x k => ?_)).trans ?_) | intro x)

theorem still_State_ideFail (a1) (a2) (s : State) : (State.ideFail a1 a2 s).still = s.still := by
  unfold State.ideFail
  simp only [still_State_streamDown, still_State_count, eq_self]

theorem still_State_rxCpl (a1) (a2) (s : State) : (State.rxCpl a1 a2 s).still = s.still := by
  unfold State.rxCpl
  simp only [still_State_modHst, still_State_emit, apply_ite State.still, ite_self, eq_self, still_State_emit]

theorem still_State_rxReq (a1) (a2) (a3) (s : State) : (State.rxReq a1 a2 a3 s).still = s.still := by
  unfold State.rxReq
  simp only [still_State_emit, still_State_modTdi, apply_ite State.still, ite_self, eq_self, still_State_emit]

theorem still_State_tileFree (a1) (a2) (s : State) : (State.tileFree a1 a2 s).still = s.still := by
  unfold State.tileFree
  simp only [still_State_trace, still_State_modTile, eq_self]

theorem still_State_tileClosed (a1) (a2) (s : State) : (State.tileClosed a1 a2 s).still = s.still := by
  unfold State.tileClosed
  simp only [still_State_tileFree, apply_ite State.still, ite_self, eq_self]

theorem still_State_wasHeld (a1) (a2) (s : State) : (State.wasHeld a1 a2 s).still = s.still := by
  unfold State.wasHeld
  simp only [still_State_cntr, eq_self]

theorem still_State_freeFabric (a1) (s : State) : (State.freeFabric a1 s).still = s.still := by
  unfold State.freeFabric
  simp only [still_State_modPort, still_each, still_State_wasHeld, implies_true, eq_self, still_each]

theorem still_State_freeTlp (a1) (a2) (s : State) : (State.freeTlp a1 a2 s).still = s.still := by
  unfold State.freeTlp
  repeat' (first | with_reducible rfl | (simp only [still_State_modHst, still_when, still_State_wasHeld, still_State_stage4, still_State_tileClosed, apply_ite State.still, apply_ite Prod.fst, ite_self, implies_true, eq_self, still_foldl, still_each, still_when, still_State_emit, still_State_used]; done) | (simp only [still_State_modHst, still_when, still_State_wasHeld, still_State_stage4, still_State_tileClosed, apply_ite State.still, apply_ite Prod.fst, ite_self, implies_true, eq_self, still_foldl, still_each, still_when, still_State_emit, still_State_used]) | split | (refine (still_each _ _ _ (fun x t => ?_)).trans ?_) | (refine (still_when _ _ _ (fun t => ?_)).trans ?_) | (refine (still_foldl _ _ _ (fun t x => ?_)).trans ?_) | (rename_i h; refine (congrArg (fun x => State.still (Prod.fst x)) h).symm.trans ?_; simp only [still_State_modHst, still_when, still_State_wasHeld, still_State_stage4, still_State_tileClosed, apply_ite State.still, apply_ite Prod.fst, ite_self, implies_true, eq_self, still_foldl, still_each, still_when, still_State_emit, still_State_used]; done) | (refine (still_foldFst _ _ _ (fun x k => ?_)).trans ?_) | intro x)

theorem still_State_freeHost (a1) (s : State) : (State.freeHost a1 s).still = s.still := by
  unfold State.freeHost
  repeat' (first | with_reducible rfl | (simp only [still_State_freeTlp, apply_ite State.still, apply_ite Prod.fst, ite_self, implies_true, eq_self, still_foldl, still_each, still_when, still_State_emit, still_State_used]; done) | (simp only [still_State_freeTlp, apply_ite State.still, apply_ite Prod.fst, ite_self, implies_true, eq_self, still_foldl, still_each, still_when, still_State_emit, still_State_used]) | split | (refine (still_each _ _ _ (fun x t => ?_)).trans ?_) | (refine (still_when _ _ _ (fun t => ?_)).trans ?_) | (refine (still_foldl _ _ _ (fun t x => ?_)).trans ?_) | (rename_i h; refine (congrArg (fun x => State.still (Prod.fst x)) h).symm.trans ?_; simp only [still_State_freeTlp, apply_ite State.still, apply_ite Prod.fst, ite_self, implies_true, eq_self, still_foldl, still_each, still_when, still_State_emit, still_State_used]; done) | (refine (still_foldFst _ _ _ (fun x k => ?_)).trans ?_) | intro x)

theorem still_State_freeNorth (a1) (s : State) : (State.freeNorth a1 s).still = s.still := by
  unfold State.freeNorth
  simp only [still_State_modSg, still_each, still_State_msWrite, still_State_wasHeld, implies_true, eq_self, still_each]

theorem still_State_freeCdm (s : State) : (State.freeCdm s).still = s.still := by
  unfold State.freeCdm
  simp only [still_State_modCmd, still_each, still_State_dumpNext, still_State_cdmRefill, still_State_cdmMake, still_State_wasHeld, implies_true, eq_self, still_each]

theorem still_State_freeTrace (s : State) : (State.freeTrace s).still = s.still := by
  unfold State.freeTrace
  repeat' (first | with_reducible rfl | (simp only [still_each, still_State_writeRing, still_State_wasHeld, apply_ite State.still, apply_ite Prod.fst, ite_self, implies_true, eq_self, still_foldl, still_each, still_when, still_State_emit, still_State_used]; done) | (simp only [still_each, still_State_writeRing, still_State_wasHeld, apply_ite State.still, apply_ite Prod.fst, ite_self, implies_true, eq_self, still_foldl, still_each, still_when, still_State_emit, still_State_used]) | split | (refine (still_each _ _ _ (fun x t => ?_)).trans ?_) | (refine (still_when _ _ _ (fun t => ?_)).trans ?_) | (refine (still_foldl _ _ _ (fun t x => ?_)).trans ?_) | (rename_i h; refine (congrArg (fun x => State.still (Prod.fst x)) h).symm.trans ?_; simp only [still_each, still_State_writeRing, still_State_wasHeld, apply_ite State.still, apply_ite Prod.fst, ite_self, implies_true, eq_self, still_foldl, still_each, still_when, still_State_emit, still_State_used]; done) | (refine (still_foldFst _ _ _ (fun x k => ?_)).trans ?_) | intro x)

theorem still_State_bellRefuse (a1) (a2) (a3) (a4) (a5) (s : State) : (State.bellRefuse a1 a2 a3 a4 a5 s).still = s.still := by
  unfold State.bellRefuse
  simp only [still_State_modCmd, still_State_glob, still_State_flag, apply_ite State.still, ite_self, eq_self]

theorem still_State_bell (a1) (a2) (a3) (a4) (a5) (a6) (s : State) : (State.bell a1 a2 a3 a4 a5 a6 s).still = s.still := by
  unfold State.bell
  simp only [still_State_bellRefuse, still_State_modQueue, still_State_touchCtx, apply_ite State.still, ite_self, eq_self]

theorem still_State_hostQueueOpen (a1) (s : State) : (State.hostQueueOpen a1 s).still = s.still := by
  unfold State.hostQueueOpen
  simp only [still_State_flag, still_State_modQueue, apply_ite State.still, ite_self, eq_self]

theorem still_State_destroyQueue (a1) (a2) (s : State) : (State.destroyQueue a1 a2 s).still = s.still := by
  unfold State.destroyQueue
  repeat' (first | with_reducible rfl | (simp only [still_State_used, still_State_modQueue, still_State_reapQueue, apply_ite State.still, apply_ite Prod.fst, ite_self, implies_true, eq_self, still_foldl, still_each, still_when, still_State_emit, still_State_used, still_finishing]; done) | (simp only [still_State_used, still_State_modQueue, still_State_reapQueue, apply_ite State.still, apply_ite Prod.fst, ite_self, implies_true, eq_self, still_foldl, still_each, still_when, still_State_emit, still_State_used, still_finishing]) | split | (refine (still_each _ _ _ (fun x t => ?_)).trans ?_) | (refine (still_when _ _ _ (fun t => ?_)).trans ?_) | (refine (still_foldl _ _ _ (fun t x => ?_)).trans ?_) | (rename_i h; refine (congrArg (fun x => State.still (Prod.fst x)) h).symm.trans ?_; simp only [still_State_used, still_State_modQueue, still_State_reapQueue, apply_ite State.still, apply_ite Prod.fst, ite_self, implies_true, eq_self, still_foldl, still_each, still_when, still_State_emit, still_State_used, still_finishing]; done) | (refine (still_foldFst _ _ _ (fun x k => ?_)).trans ?_) | intro x)

theorem still_State_hostQueueClose (a1) (s : State) : (State.hostQueueClose a1 s).still = s.still := by
  unfold State.hostQueueClose
  simp only [still_State_destroyQueue, apply_ite State.still, ite_self, eq_self]

theorem still_State_ownRegion (a1) (a2) (s : State) : (State.ownRegion a1 a2 s).still = s.still := by
  unfold State.ownRegion
  simp only [still_State_setAnchor, still_State_modSg, still_State_dropRegion, eq_self]

theorem still_State_clearWays (a1) (a2) (s : State) : (State.clearWays a1 a2 s).still = s.still := by
  unfold State.clearWays
  simp only [still_State_modKey, still_State_modSg, eq_self]

theorem still_State_putShare (a1) (a2) (s : State) : (State.putShare a1 a2 s).still = s.still := by
  unfold State.putShare
  repeat' (first | with_reducible rfl | (simp only [still_State_modShare, still_each, still_State_clearWays, apply_ite State.still, apply_ite Prod.fst, ite_self, implies_true, eq_self, still_foldl, still_each, still_when, still_State_emit, still_State_used]; done) | (simp only [still_State_modShare, still_each, still_State_clearWays, apply_ite State.still, apply_ite Prod.fst, ite_self, implies_true, eq_self, still_foldl, still_each, still_when, still_State_emit, still_State_used]) | split | (refine (still_each _ _ _ (fun x t => ?_)).trans ?_) | (refine (still_when _ _ _ (fun t => ?_)).trans ?_) | (refine (still_foldl _ _ _ (fun t x => ?_)).trans ?_) | (rename_i h; refine (congrArg (fun x => State.still (Prod.fst x)) h).symm.trans ?_; simp only [still_State_modShare, still_each, still_State_clearWays, apply_ite State.still, apply_ite Prod.fst, ite_self, implies_true, eq_self, still_foldl, still_each, still_when, still_State_emit, still_State_used]; done) | (refine (still_foldFst _ _ _ (fun x k => ?_)).trans ?_) | intro x)

theorem still_State_dropShare (a1) (s : State) : (State.dropShare a1 s).still = s.still := by
  unfold State.dropShare
  repeat' (first | with_reducible rfl | (simp only [still_State_modShare, still_each, apply_ite State.still, apply_ite Prod.fst, ite_self, implies_true, eq_self, still_foldl, still_each, still_when, still_State_emit, still_State_used]; done) | (simp only [still_State_modShare, still_each, apply_ite State.still, apply_ite Prod.fst, ite_self, implies_true, eq_self, still_foldl, still_each, still_when, still_State_emit, still_State_used]) | split | (refine (still_each _ _ _ (fun x t => ?_)).trans ?_) | (refine (still_when _ _ _ (fun t => ?_)).trans ?_) | (refine (still_foldl _ _ _ (fun t x => ?_)).trans ?_) | (rename_i h; refine (congrArg (fun x => State.still (Prod.fst x)) h).symm.trans ?_; simp only [still_State_modShare, still_each, apply_ite State.still, apply_ite Prod.fst, ite_self, implies_true, eq_self, still_foldl, still_each, still_when, still_State_emit, still_State_used]; done) | (refine (still_foldFst _ _ _ (fun x k => ?_)).trans ?_) | intro x)

theorem still_State_writeRecord (a1) (s : State) : (State.writeRecord a1 s).still = s.still := by
  unfold State.writeRecord
  simp only [still_State_modAtt, still_State_modPart, still_State_press, apply_ite State.still, ite_self, eq_self]

theorem still_State_eraseRecord (a1) (s : State) : (State.eraseRecord a1 s).still = s.still := by
  unfold State.eraseRecord
  simp only [still_State_modAtt, eq_self]

theorem still_State_setPolicy (a1) (a2) (a3) (a4) (s : State) : (State.setPolicy a1 a2 a3 a4 s).still = s.still := by
  unfold State.setPolicy
  simp only [still_State_modPart, still_State_modTdi, still_State_modSg, eq_self]

theorem still_State_newTables (a1) (a2) (s : State) : (State.newTables a1 a2 s).1.still = s.still := by
  unfold State.newTables
  simp only [still_State_modObju, still_State_modObj, still_State_writeObj, still_State_bindPlots, eq_self]

theorem still_State_take (a1) (a2) (a3) (s : State) : (State.take a1 a2 a3 s).still = s.still := by
  unfold State.take
  simp only [still_State_zeroCntrs, still_State_modPart, still_State_writeRecord, still_State_setPolicy, still_State_putShare, eq_self]

theorem still_State_assignNew (a1) (a2) (s : State) : (State.assignNew a1 a2 s).1.still = s.still := by
  unfold State.assignNew
  simp only [still_State_take, still_State_modPart, still_State_drawnPr, still_State_fill, still_State_newTables, still_each, still_State_ownRegion, apply_ite State.still, apply_ite Prod.fst, ite_self, implies_true, eq_self, still_each]

theorem still_State_spdm (a1) (a2) (a3) (s : State) (ha3 : ∀ t, State.still (a3 t) = t.still) : (State.spdm a1 a2 a3 s).still = s.still := by
  unfold State.spdm
  simp only [still_State_respond, ha3, apply_ite State.still, ite_self, eq_self]

theorem still_State_aliasSigned (a1) (a2) (a3) (s : State) : (State.aliasSigned a1 a2 a3 s).still = s.still := by
  unfold State.aliasSigned
  simp only [still_State_pkeAdd, still_State_respond, apply_ite State.still, ite_self, eq_self]

theorem still_State_measDiscard (s : State) : (State.measDiscard s).still = s.still := by
  unfold State.measDiscard
  simp only [still_State_modAtt, still_each, still_State_closePart, still_State_endSecured, still_State_emit, implies_true, eq_self, still_each, still_State_emit]

theorem still_State_abandonAsk (a1) (s : State) : (State.abandonAsk a1 s).still = s.still := by
  unfold State.abandonAsk
  repeat' (first | with_reducible rfl | (simp only [still_State_modSess, still_State_retireAll, apply_ite State.still, apply_ite Prod.fst, ite_self, implies_true, eq_self, still_foldl, still_each, still_when, still_State_emit, still_State_used]; done) | (simp only [still_State_modSess, still_State_retireAll, apply_ite State.still, apply_ite Prod.fst, ite_self, implies_true, eq_self, still_foldl, still_each, still_when, still_State_emit, still_State_used]) | split | (refine (still_each _ _ _ (fun x t => ?_)).trans ?_) | (refine (still_when _ _ _ (fun t => ?_)).trans ?_) | (refine (still_foldl _ _ _ (fun t x => ?_)).trans ?_) | (rename_i h; refine (congrArg (fun x => State.still (Prod.fst x)) h).symm.trans ?_; simp only [still_State_modSess, still_State_retireAll, apply_ite State.still, apply_ite Prod.fst, ite_self, implies_true, eq_self, still_foldl, still_each, still_when, still_State_emit, still_State_used]; done) | (refine (still_foldFst _ _ _ (fun x k => ?_)).trans ?_) | intro x)

theorem still_State_admissionFails (a1) (a2) (a3) (a4) (a5) (s : State) : (State.admissionFails a1 a2 a3 a4 a5 s).still = s.still := by
  unfold State.admissionFails
  simp only [still_State_press, still_State_respond, still_State_setupFails, still_State_cntr, apply_ite State.still, ite_self, eq_self]

theorem still_State_sessionSecrets (a1) (s : State) : (State.sessionSecrets a1 s).1.still = s.still := by
  unfold State.sessionSecrets
  repeat' (first | with_reducible rfl | (simp only [still_State_renew, still_State_used, apply_ite State.still, apply_ite Prod.fst, ite_self, implies_true, eq_self, still_foldl, still_each, still_when, still_State_emit, still_State_used]; done) | (simp only [still_State_renew, still_State_used, apply_ite State.still, apply_ite Prod.fst, ite_self, implies_true, eq_self, still_foldl, still_each, still_when, still_State_emit, still_State_used]) | split | (refine (still_each _ _ _ (fun x t => ?_)).trans ?_) | (refine (still_when _ _ _ (fun t => ?_)).trans ?_) | (refine (still_foldl _ _ _ (fun t x => ?_)).trans ?_) | (rename_i h; refine (congrArg (fun x => State.still (Prod.fst x)) h).symm.trans ?_; simp only [still_State_renew, still_State_used, apply_ite State.still, apply_ite Prod.fst, ite_self, implies_true, eq_self, still_foldl, still_each, still_when, still_State_emit, still_State_used]; done) | (refine (still_foldFst _ _ _ (fun x k => ?_)).trans ?_) | intro x)

theorem still_State_finishEnd (a1) (a2) (a3) (s : State) : (State.finishEnd a1 a2 a3 s).still = s.still := by
  unfold State.finishEnd
  repeat' (first | with_reducible rfl | (simp only [still_State_respond, still_State_sessionSecrets, still_State_modCmd, still_State_retireAll, still_State_modSess, still_State_endSecured, still_State_admissionFails, apply_ite State.still, apply_ite Prod.fst, ite_self, implies_true, eq_self, still_foldl, still_each, still_when, still_State_emit, still_State_used]; done) | (simp only [still_State_respond, still_State_sessionSecrets, still_State_modCmd, still_State_retireAll, still_State_modSess, still_State_endSecured, still_State_admissionFails, apply_ite State.still, apply_ite Prod.fst, ite_self, implies_true, eq_self, still_foldl, still_each, still_when, still_State_emit, still_State_used]) | split | (refine (still_each _ _ _ (fun x t => ?_)).trans ?_) | (refine (still_when _ _ _ (fun t => ?_)).trans ?_) | (refine (still_foldl _ _ _ (fun t x => ?_)).trans ?_) | (rename_i h; refine (congrArg (fun x => State.still (Prod.fst x)) h).symm.trans ?_; simp only [still_State_respond, still_State_sessionSecrets, still_State_modCmd, still_State_retireAll, still_State_modSess, still_State_endSecured, still_State_admissionFails, apply_ite State.still, apply_ite Prod.fst, ite_self, implies_true, eq_self, still_foldl, still_each, still_when, still_State_emit, still_State_used]; done) | (refine (still_foldFst _ _ _ (fun x k => ?_)).trans ?_) | intro x)

theorem still_State_applyCarriage (a1) (a2) (a3) (s : State) : (State.applyCarriage a1 a2 a3 s).still = s.still := by
  unfold State.applyCarriage
  simp only [still_State_modPort, apply_ite State.still, ite_self, eq_self]

theorem still_takeSlots (p) (n) (s : State) : (takeSlots p n s).1.still = s.still := by
  induction n generalizing s with
  | zero => rfl
  | succ n ih =>
    unfold takeSlots
    split
    · simp only []
      exact (ih _).trans (still_State_fill ..)
    · rfl

theorem still_State_bindDone (a1) (a2) (a3) (a4) (a5) (s : State) : (State.bindDone a1 a2 a3 a4 a5 s).still = s.still := by
  unfold State.bindDone
  simp only [still_each, still_State_settleSlot, still_State_used, still_State_fill, still_State_modCmd, still_State_modSess, still_State_retireAll, still_State_enqueue, still_State_respond, still_State_traceSess, apply_ite State.still, ite_self, implies_true, eq_self, still_each, still_State_used]

theorem still_State_bindEnd (a1) (a2) (a3) (a4) (s : State) : (State.bindEnd a1 a2 a3 a4 s).still = s.still := by
  unfold State.bindEnd
  repeat' (first | with_reducible rfl | (simp only [still_State_respond, still_State_modSess, still_State_emit, still_State_bindDone, still_takeSlots, still_State_admissionFails, apply_ite State.still, apply_ite Prod.fst, ite_self, implies_true, eq_self, still_foldl, still_each, still_when, still_State_emit, still_State_used]; done) | (simp only [still_State_respond, still_State_modSess, still_State_emit, still_State_bindDone, still_takeSlots, still_State_admissionFails, apply_ite State.still, apply_ite Prod.fst, ite_self, implies_true, eq_self, still_foldl, still_each, still_when, still_State_emit, still_State_used]) | split | (refine (still_each _ _ _ (fun x t => ?_)).trans ?_) | (refine (still_when _ _ _ (fun t => ?_)).trans ?_) | (refine (still_foldl _ _ _ (fun t x => ?_)).trans ?_) | (rename_i h; refine (congrArg (fun x => State.still (Prod.fst x)) h).symm.trans ?_; simp only [still_State_respond, still_State_modSess, still_State_emit, still_State_bindDone, still_takeSlots, still_State_admissionFails, apply_ite State.still, apply_ite Prod.fst, ite_self, implies_true, eq_self, still_foldl, still_each, still_when, still_State_emit, still_State_used]; done) | (refine (still_foldFst _ _ _ (fun x k => ?_)).trans ?_) | intro x)

theorem still_State_restartSetups (a1) (s : State) : (State.restartSetups a1 s).still = s.still := by
  unfold State.restartSetups
  simp only [still_each, still_State_sessDown, still_State_setup, apply_ite State.still, ite_self, implies_true, eq_self, still_each]

theorem still_State_amendApply (a1) (a2) (a3) (s : State) : (State.amendApply a1 a2 a3 s).still = s.still := by
  unfold State.amendApply
  repeat' (first | with_reducible rfl | (simp only [still_State_modPart, still_each, still_State_emit, still_State_closeSess, still_State_recordLost, still_State_writeRecord, still_State_restartSetups, apply_ite State.still, apply_ite Prod.fst, ite_self, implies_true, eq_self, still_foldl, still_each, still_when, still_State_emit, still_State_used]; done) | (simp only [still_State_modPart, still_each, still_State_emit, still_State_closeSess, still_State_recordLost, still_State_writeRecord, still_State_restartSetups, apply_ite State.still, apply_ite Prod.fst, ite_self, implies_true, eq_self, still_foldl, still_each, still_when, still_State_emit, still_State_used]) | split | (refine (still_each _ _ _ (fun x t => ?_)).trans ?_) | (refine (still_when _ _ _ (fun t => ?_)).trans ?_) | (refine (still_foldl _ _ _ (fun t x => ?_)).trans ?_) | (rename_i h; refine (congrArg (fun x => State.still (Prod.fst x)) h).symm.trans ?_; simp only [still_State_modPart, still_each, still_State_emit, still_State_closeSess, still_State_recordLost, still_State_writeRecord, still_State_restartSetups, apply_ite State.still, apply_ite Prod.fst, ite_self, implies_true, eq_self, still_foldl, still_each, still_when, still_State_emit, still_State_used]; done) | (refine (still_foldFst _ _ _ (fun x k => ?_)).trans ?_) | intro x)

theorem still_State_amendEnd (a1) (a2) (a3) (s : State) : (State.amendEnd a1 a2 a3 s).still = s.still := by
  unfold State.amendEnd
  repeat' (first | with_reducible rfl | (simp only [still_State_respond, still_State_amendApply, apply_ite State.still, apply_ite Prod.fst, ite_self, implies_true, eq_self, still_foldl, still_each, still_when, still_State_emit, still_State_used]; done) | (simp only [still_State_respond, still_State_amendApply, apply_ite State.still, apply_ite Prod.fst, ite_self, implies_true, eq_self, still_foldl, still_each, still_when, still_State_emit, still_State_used]) | split | (refine (still_each _ _ _ (fun x t => ?_)).trans ?_) | (refine (still_when _ _ _ (fun t => ?_)).trans ?_) | (refine (still_foldl _ _ _ (fun t x => ?_)).trans ?_) | (rename_i h; refine (congrArg (fun x => State.still (Prod.fst x)) h).symm.trans ?_; simp only [still_State_respond, still_State_amendApply, apply_ite State.still, apply_ite Prod.fst, ite_self, implies_true, eq_self, still_foldl, still_each, still_when, still_State_emit, still_State_used]; done) | (refine (still_foldFst _ _ _ (fun x k => ?_)).trans ?_) | intro x)

theorem still_State_mctp (a1) (a2) (s : State) : (State.mctp a1 a2 s).still = s.still := by
  unfold State.mctp
  simp only [still_State_emit, apply_ite State.still, ite_self, eq_self, still_State_emit]

theorem still_State_drawSeed (a1) (s : State) : (State.drawSeed a1 s).still = s.still := by
  unfold State.drawSeed
  simp only [still_State_drawnPr, still_State_fill, eq_self]

theorem still_State_encaps (a1) (a2) (s : State) : (State.encaps a1 a2 s).1.still = s.still := by
  unfold State.encaps
  simp only [still_State_used, still_State_fill, still_State_drawn, eq_self, still_State_used]

theorem still_State_pkeRun (j) (op) (s : State) : (State.pkeRun j op s).1.still = s.still := by
  unfold State.pkeRun
  repeat' (first | with_reducible rfl | split)
  · rename_i t sid _ _; show ((s.session _ _).elim s _).still = _; cases s.session _ _
    · rfl
    · exact still_State_drawSeed ..
  · exact still_each _ _ _ fun _ _ => still_State_drawSeed ..
  · rename_i h; exact (congrArg (fun x => State.still (Prod.fst x)) h).symm.trans (still_State_encaps ..)
  · exact still_State_drawnPr ..
  · exact still_State_drawn ..

theorem still_State_pkeEnd (a1) (s : State) : (State.pkeEnd a1 s).still = s.still := by
  unfold State.pkeEnd
  repeat' (first | with_reducible rfl | (simp only [still_State_endsWith, still_State_okTrailer, still_State_respond, still_State_endSecured, still_State_emit, still_State_finishEnd, still_State_bindEnd, still_State_amendEnd, apply_ite State.still, apply_ite Prod.fst, ite_self, implies_true, eq_self, still_foldl, still_each, still_when, still_State_emit, still_State_used]; done) | (simp only [still_State_endsWith, still_State_okTrailer, still_State_respond, still_State_endSecured, still_State_emit, still_State_finishEnd, still_State_bindEnd, still_State_amendEnd, apply_ite State.still, apply_ite Prod.fst, ite_self, implies_true, eq_self, still_foldl, still_each, still_when, still_State_emit, still_State_used]) | split | (refine (still_each _ _ _ (fun x t => ?_)).trans ?_) | (refine (still_when _ _ _ (fun t => ?_)).trans ?_) | (refine (still_foldl _ _ _ (fun t x => ?_)).trans ?_) | (rename_i h; refine (congrArg (fun x => State.still (Prod.fst x)) h).symm.trans ?_; simp only [still_State_endsWith, still_State_okTrailer, still_State_respond, still_State_endSecured, still_State_emit, still_State_finishEnd, still_State_bindEnd, still_State_amendEnd, apply_ite State.still, apply_ite Prod.fst, ite_self, implies_true, eq_self, still_foldl, still_each, still_when, still_State_emit, still_State_used]; done) | (refine (still_foldFst _ _ _ (fun x k => ?_)).trans ?_) | intro x)

theorem still_State_publish (a1) (s : State) : (State.publish a1 s).still = s.still := by
  unfold State.publish
  simp only [still_State_modObs, still_State_used, still_State_trace, apply_ite State.still, ite_self, eq_self, still_State_used]

theorem still_State_mark (a1) (a2) (a3) (a4) (s : State) : (State.mark a1 a2 a3 a4 s).still = s.still := by
  unfold State.mark
  simp only [still_State_trace, still_State_modCtx, still_State_flag, apply_ite State.still, ite_self, eq_self]

theorem still_State_flushPress (s : State) : (State.flushPress s).still = s.still := by
  unfold State.flushPress
  simp only [still_State_emit, still_State_modObs, apply_ite State.still, ite_self, eq_self, still_State_emit]

theorem still_State_fire (a1) (a2) (a3) (s : State) (ha3 : ∀ x0 t, State.still (a3 x0 t) = t.still) : (State.fire a1 a2 a3 s).still = s.still := by
  unfold State.fire
  simp only [still_State_trace, still_when, still_State_press, still_State_cntr, still_State_setSched, ha3, apply_ite State.still, ite_self, implies_true, eq_self, still_when]

theorem still_State_actCommit (a1) (a2) (s : State) : (State.actCommit a1 a2 s).still = s.still := by
  unfold State.actCommit
  simp only [still_State_schedEnds, still_State_commitNamed, eq_self]

theorem still_State_actEpoch (a1) (a2) (s : State) : (State.actEpoch a1 a2 s).still = s.still := by
  unfold State.actEpoch
  simp only [still_State_schedEnds, still_each, still_State_epochChange, still_State_modSess, implies_true, eq_self, still_each]

theorem still_State_resaltPort (a1) (s : State) : (State.resaltPort a1 s).still = s.still := by
  unfold State.resaltPort
  simp only [still_State_modPort, still_State_saltKeys, still_State_glob, apply_ite State.still, ite_self, eq_self]

theorem still_State_actResalt (a1) (a2) (s : State) : (State.actResalt a1 a2 s).still = s.still := by
  unfold State.actResalt
  simp only [still_State_schedEnds, still_each, still_State_resaltPort, implies_true, eq_self, still_each]

theorem still_State_actTrace (a1) (a2) (s : State) : (State.actTrace a1 a2 s).still = s.still := by
  unfold State.actTrace
  simp only [still_State_schedEnds, still_State_cntr, still_State_trigger, apply_ite State.still, ite_self, eq_self]

theorem still_State_actDump (a1) (a2) (s : State) : (State.actDump a1 a2 s).still = s.still := by
  unfold State.actDump
  simp only [still_State_dumpEnd, still_State_dumpNext, still_State_modObs, apply_ite State.still, ite_self, eq_self]

theorem still_State_actTrig (a1) (a2) (s : State) : (State.actTrig a1 a2 s).still = s.still := by
  unfold State.actTrig
  simp only [still_State_modPins, still_State_modDt, still_State_schedEnds, apply_ite State.still, ite_self, eq_self]

theorem still_State_setStop (a1) (a2) (s : State) : (State.setStop a1 a2 s).still = s.still := by
  unfold State.setStop
  simp only [still_State_modDt, eq_self]

theorem still_State_applyHeld (a1) (a2) (s : State) : (State.applyHeld a1 a2 s).still = s.still := by
  unfold State.applyHeld
  repeat' (first | with_reducible rfl | (simp only [still_State_applyRoute, still_State_unlessBreach, still_State_applyReply, still_State_applyAtomic, still_State_applyQuery, still_State_applyRw, still_State_applyAck, still_State_applyContrib, still_State_applyResultAck, still_State_applyResult, still_State_applyFence, still_State_applyCarriage, still_State_applyOpen, still_State_applyClose, apply_ite State.still, apply_ite Prod.fst, ite_self, implies_true, eq_self, still_foldl, still_each, still_when, still_State_emit, still_State_used]; done) | (simp only [still_State_applyRoute, still_State_unlessBreach, still_State_applyReply, still_State_applyAtomic, still_State_applyQuery, still_State_applyRw, still_State_applyAck, still_State_applyContrib, still_State_applyResultAck, still_State_applyResult, still_State_applyFence, still_State_applyCarriage, still_State_applyOpen, still_State_applyClose, apply_ite State.still, apply_ite Prod.fst, ite_self, implies_true, eq_self, still_foldl, still_each, still_when, still_State_emit, still_State_used]) | split | (refine (still_each _ _ _ (fun x t => ?_)).trans ?_) | (refine (still_when _ _ _ (fun t => ?_)).trans ?_) | (refine (still_foldl _ _ _ (fun t x => ?_)).trans ?_) | (rename_i h; refine (congrArg (fun x => State.still (Prod.fst x)) h).symm.trans ?_; simp only [still_State_applyRoute, still_State_unlessBreach, still_State_applyReply, still_State_applyAtomic, still_State_applyQuery, still_State_applyRw, still_State_applyAck, still_State_applyContrib, still_State_applyResultAck, still_State_applyResult, still_State_applyFence, still_State_applyCarriage, still_State_applyOpen, still_State_applyClose, apply_ite State.still, apply_ite Prod.fst, ite_self, implies_true, eq_self, still_foldl, still_each, still_when, still_State_emit, still_State_used]; done) | (refine (still_foldFst _ _ _ (fun x k => ?_)).trans ?_) | (refine (still_State_unlessBreach _ _ _ _ (fun t => ?_)).trans ?_) | intro x)

theorem still_State_wakeStopped (a1) (s : State) : (State.wakeStopped a1 s).still = s.still := by
  unfold State.wakeStopped
  simp only [still_each, still_State_wake, implies_true, eq_self, still_each, still_finishing]

theorem still_State_markHeld (a1) (s : State) : (State.markHeld a1 s).still = s.still := by
  unfold State.markHeld
  simp only [still_State_modLnk, eq_self]

theorem still_State_resume (a1) (a2) (s : State) : (State.resume a1 a2 s).still = s.still := by
  unfold State.resume
  simp only [still_State_schedEnds, still_State_modDt, still_State_setStop, still_State_markHeld, still_State_lowerCstop, still_State_wakeStopped, still_each, still_State_applyHeld, implies_true, eq_self, still_each]

theorem still_State_resumeGo (a1) (s : State) : (State.resumeGo a1 s).still = s.still := by
  unfold State.resumeGo
  repeat' (first | with_reducible rfl | (simp only [still_State_resume, apply_ite State.still, apply_ite Prod.fst, ite_self, implies_true, eq_self, still_foldl, still_each, still_when, still_State_emit, still_State_used]; done) | (simp only [still_State_resume, apply_ite State.still, apply_ite Prod.fst, ite_self, implies_true, eq_self, still_foldl, still_each, still_when, still_State_emit, still_State_used]) | split | (refine (still_each _ _ _ (fun x t => ?_)).trans ?_) | (refine (still_when _ _ _ (fun t => ?_)).trans ?_) | (refine (still_foldl _ _ _ (fun t x => ?_)).trans ?_) | (rename_i h; refine (congrArg (fun x => State.still (Prod.fst x)) h).symm.trans ?_; simp only [still_State_resume, apply_ite State.still, apply_ite Prod.fst, ite_self, implies_true, eq_self, still_foldl, still_each, still_when, still_State_emit, still_State_used]; done) | (refine (still_foldFst _ _ _ (fun x k => ?_)).trans ?_) | intro x)

theorem still_State_stopTry (a1) (s : State) : (State.stopTry a1 s).still = s.still := by
  unfold State.stopTry
  simp only [still_State_setStop, still_State_resumeGo, still_State_signal, apply_ite State.still, ite_self, eq_self, still_finishing]

theorem still_State_actStop (a1) (a2) (s : State) : (State.actStop a1 a2 s).still = s.still := by
  unfold State.actStop
  simp only [still_State_schedEnds, still_State_press, still_State_stopTry, still_State_setStop, still_State_raiseCstop, apply_ite State.still, ite_self, eq_self]

theorem still_State_applyMarker (a1) (a2) (a3) (a4) (s : State) : (State.applyMarker a1 a2 a3 a4 s).still = s.still := by
  unfold State.applyMarker
  simp only [still_State_stopTry, still_State_setStop, apply_ite State.still, ite_self, eq_self]

theorem still_State_actResume (a1) (a2) (s : State) : (State.actResume a1 a2 s).still = s.still := by
  unfold State.actResume
  simp only [still_State_schedEnds, still_State_press, still_State_resume, still_State_setStop, apply_ite State.still, ite_self, eq_self]

theorem still_State_action (a1) (a2) (s : State) : (State.action a1 a2 s).still = s.still := by
  unfold State.action
  repeat' (first | with_reducible rfl | (simp only [still_State_actCommit, still_State_actEpoch, still_State_actResalt, still_State_actStop, still_State_actResume, still_State_actTrace, still_State_actDump, still_State_actTrig, still_State_schedEnds, apply_ite State.still, apply_ite Prod.fst, ite_self, implies_true, eq_self, still_foldl, still_each, still_when, still_State_emit, still_State_used]; done) | (simp only [still_State_actCommit, still_State_actEpoch, still_State_actResalt, still_State_actStop, still_State_actResume, still_State_actTrace, still_State_actDump, still_State_actTrig, still_State_schedEnds, apply_ite State.still, apply_ite Prod.fst, ite_self, implies_true, eq_self, still_foldl, still_each, still_when, still_State_emit, still_State_used]) | split | (refine (still_each _ _ _ (fun x t => ?_)).trans ?_) | (refine (still_when _ _ _ (fun t => ?_)).trans ?_) | (refine (still_foldl _ _ _ (fun t x => ?_)).trans ?_) | (rename_i h; refine (congrArg (fun x => State.still (Prod.fst x)) h).symm.trans ?_; simp only [still_State_actCommit, still_State_actEpoch, still_State_actResalt, still_State_actStop, still_State_actResume, still_State_actTrace, still_State_actDump, still_State_actTrig, still_State_schedEnds, apply_ite State.still, apply_ite Prod.fst, ite_self, implies_true, eq_self, still_foldl, still_each, still_when, still_State_emit, still_State_used]; done) | (refine (still_foldFst _ _ _ (fun x k => ?_)).trans ?_) | intro x)

theorem still_State_fireDue (a1) (s : State) : (State.fireDue a1 s).still = s.still := by
  unfold State.fireDue
  simp only [still_State_fire, still_State_action, apply_ite State.still, ite_self, implies_true, eq_self]

theorem still_State_fires (a1) (a2) (a3) (s : State) (ha3 : ∀ x0 t, State.still (a3 x0 t) = t.still) : (State.fires a1 a2 a3 s).still = s.still := by
  unfold State.fires
  simp only [still_each, still_State_fireDue, still_State_fire, ha3, apply_ite State.still, ite_self, implies_true, eq_self, still_each]

theorem still_State_see (a1) (a2) (a3) (a4) (s : State) : (State.see a1 a2 a3 a4 s).still = s.still := by
  unfold State.see
  simp only [still_State_modDt, eq_self]

theorem still_State_applyEntry (a1) (a2) (a3) (a4) (s : State) : (State.applyEntry a1 a2 a3 a4 s).still = s.still := by
  unfold State.applyEntry
  repeat' (first | with_reducible rfl | (simp only [still_State_broadcast, still_State_see, still_State_press, still_State_setSched, still_State_fire, still_State_action, apply_ite State.still, apply_ite Prod.fst, ite_self, implies_true, eq_self, still_foldl, still_each, still_when, still_State_emit, still_State_used]; done) | (simp only [still_State_broadcast, still_State_see, still_State_press, still_State_setSched, still_State_fire, still_State_action, apply_ite State.still, apply_ite Prod.fst, ite_self, implies_true, eq_self, still_foldl, still_each, still_when, still_State_emit, still_State_used]) | split | (refine (still_each _ _ _ (fun x t => ?_)).trans ?_) | (refine (still_when _ _ _ (fun t => ?_)).trans ?_) | (refine (still_foldl _ _ _ (fun t x => ?_)).trans ?_) | (rename_i h; refine (congrArg (fun x => State.still (Prod.fst x)) h).symm.trans ?_; simp only [still_State_broadcast, still_State_see, still_State_press, still_State_setSched, still_State_fire, still_State_action, apply_ite State.still, apply_ite Prod.fst, ite_self, implies_true, eq_self, still_foldl, still_each, still_when, still_State_emit, still_State_used]; done) | (refine (still_foldFst _ _ _ (fun x k => ?_)).trans ?_) | (refine (still_State_fire _ _ _ _ (fun y0 t => ?_)).trans ?_) | intro x)

theorem still_State_unarm (a1) (s : State) : (State.unarm a1 s).still = s.still := by
  unfold State.unarm
  simp only [still_State_modDt, eq_self]

theorem still_State_applyCancel (a1) (a2) (a3) (a4) (s : State) : (State.applyCancel a1 a2 a3 a4 s).still = s.still := by
  unfold State.applyCancel
  simp only [still_State_broadcast, still_State_unarm, still_State_see, apply_ite State.still, ite_self, eq_self]

theorem still_State_sweepLine (a1) (a2) (s : State) : (State.sweepLine a1 a2 s).still = s.still := by
  unfold State.sweepLine
  simp only [still_State_glob, still_State_msWrite, eq_self]

theorem still_State_resealTo (a1) (a2) (a3) (a4) (a5) (s : State) : (State.resealTo a1 a2 a3 a4 a5 s).still = s.still := by
  unfold State.resealTo
  repeat' (first | with_reducible rfl | (simp only [still_State_modSg, still_State_dropRegion, still_each, still_State_glob, still_State_msWrite, still_State_sweepLine, still_State_setAnchor, apply_ite State.still, apply_ite Prod.fst, ite_self, implies_true, eq_self, still_foldl, still_each, still_when, still_State_emit, still_State_used]; done) | (simp only [still_State_modSg, still_State_dropRegion, still_each, still_State_glob, still_State_msWrite, still_State_sweepLine, still_State_setAnchor, apply_ite State.still, apply_ite Prod.fst, ite_self, implies_true, eq_self, still_foldl, still_each, still_when, still_State_emit, still_State_used]) | split | (refine (still_each _ _ _ (fun x t => ?_)).trans ?_) | (refine (still_when _ _ _ (fun t => ?_)).trans ?_) | (refine (still_foldl _ _ _ (fun t x => ?_)).trans ?_) | (rename_i h; refine (congrArg (fun x => State.still (Prod.fst x)) h).symm.trans ?_; simp only [still_State_modSg, still_State_dropRegion, still_each, still_State_glob, still_State_msWrite, still_State_sweepLine, still_State_setAnchor, apply_ite State.still, apply_ite Prod.fst, ite_self, implies_true, eq_self, still_foldl, still_each, still_when, still_State_emit, still_State_used]; done) | (refine (still_foldFst _ _ _ (fun x k => ?_)).trans ?_) | intro x)

theorem still_State_zeroRegion (a1) (a2) (a3) (s : State) : (State.zeroRegion a1 a2 a3 s).still = s.still := by
  unfold State.zeroRegion
  repeat' (first | with_reducible rfl | (simp only [still_State_setAnchor, still_State_resealTo, apply_ite State.still, apply_ite Prod.fst, ite_self, implies_true, eq_self, still_foldl, still_each, still_when, still_State_emit, still_State_used]; done) | (simp only [still_State_setAnchor, still_State_resealTo, apply_ite State.still, apply_ite Prod.fst, ite_self, implies_true, eq_self, still_foldl, still_each, still_when, still_State_emit, still_State_used]) | split | (refine (still_each _ _ _ (fun x t => ?_)).trans ?_) | (refine (still_when _ _ _ (fun t => ?_)).trans ?_) | (refine (still_foldl _ _ _ (fun t x => ?_)).trans ?_) | (rename_i h; refine (congrArg (fun x => State.still (Prod.fst x)) h).symm.trans ?_; simp only [still_State_setAnchor, still_State_resealTo, apply_ite State.still, apply_ite Prod.fst, ite_self, implies_true, eq_self, still_foldl, still_each, still_when, still_State_emit, still_State_used]; done) | (refine (still_foldFst _ _ _ (fun x k => ?_)).trans ?_) | intro x)

theorem still_State_addStep (a1) (s : State) : (State.addStep a1 s).still = s.still := by
  unfold State.addStep
  simp only [still_State_modRst, eq_self]

theorem still_State_endSteps (a1) (s : State) : (State.endSteps a1 s).still = s.still := by
  unfold State.endSteps
  simp only [still_State_modRst, eq_self]

theorem still_State_engGo (a1) (s : State) : (State.engGo a1 s).still = s.still := by
  unfold State.engGo
  repeat' (first | with_reducible rfl | (simp only [still_State_modPins, apply_ite State.still, apply_ite Prod.fst, ite_self, implies_true, eq_self, still_foldl, still_each, still_when, still_State_emit, still_State_used]; done) | (simp only [still_State_modPins, apply_ite State.still, apply_ite Prod.fst, ite_self, implies_true, eq_self, still_foldl, still_each, still_when, still_State_emit, still_State_used]) | split | (refine (still_each _ _ _ (fun x t => ?_)).trans ?_) | (refine (still_when _ _ _ (fun t => ?_)).trans ?_) | (refine (still_foldl _ _ _ (fun t x => ?_)).trans ?_) | (rename_i h; refine (congrArg (fun x => State.still (Prod.fst x)) h).symm.trans ?_; simp only [still_State_modPins, apply_ite State.still, apply_ite Prod.fst, ite_self, implies_true, eq_self, still_foldl, still_each, still_when, still_State_emit, still_State_used]; done) | (refine (still_foldFst _ _ _ (fun x k => ?_)).trans ?_) | intro x)

theorem still_State_unfence (a1) (s : State) : (State.unfence a1 s).still = s.still := by
  unfold State.unfence
  simp only [still_State_modPart, still_State_tryJoin, still_State_lowerPfence, apply_ite State.still, ite_self, eq_self]

theorem still_State_scrubPorts (a1) (s : State) : (State.scrubPorts a1 s).still = s.still := by
  unfold State.scrubPorts
  simp only [still_State_closePart, still_each, still_State_sessDown, still_State_tdiError, still_State_streamDown, still_State_retire, implies_true, eq_self, still_each]

theorem still_State_scrubCtxs (a1) (s : State) : (State.scrubCtxs a1 s).still = s.still := by
  unfold State.scrubCtxs
  simp only [still_each, still_State_removeQueue, still_State_modCmd, still_State_modObju, still_State_endSteps, still_State_complete, implies_true, eq_self, still_each]

theorem still_State_scrubCmds (a1) (s : State) : (State.scrubCmds a1 s).still = s.still := by
  unfold State.scrubCmds
  simp only [still_State_modObju, still_State_modKey, still_State_complete, eq_self]

theorem still_State_scrubTables (a1) (s : State) : (State.scrubTables a1 s).still = s.still := by
  unfold State.scrubTables
  simp only [still_State_modObju, still_State_modDt, still_State_lowerCstop, still_State_modObs, still_State_zeroCntrs, still_State_eraseRecord, eq_self]

theorem still_State_scrubFlow (a1) (s : State) : (State.scrubFlow a1 s).still = s.still := by
  unfold State.scrubFlow
  simp only [still_State_modSg, still_State_modRem, still_State_cdmRefill, still_each, still_State_cdmMake, still_State_modCmd, implies_true, eq_self, still_each]

theorem still_State_enterScrub (a1) (s : State) : (State.enterScrub a1 s).still = s.still := by
  unfold State.enterScrub
  simp only [still_State_scrubTables, still_State_scrubCmds, still_State_scrubCtxs, still_State_scrubFlow, still_State_scrubPorts, still_State_modPart, eq_self]

theorem still_State_resetsGo (s : State) : (State.resetsGo s).still = s.still := by
  unfold State.resetsGo
  simp only [still_each, still_State_engGo, still_State_enterScrub, implies_true, eq_self, still_each]

theorem still_State_engineStep (a1) (a2) (a3) (s : State) : (State.engineStep a1 a2 a3 s).still = s.still := by
  unfold State.engineStep
  repeat' (first | with_reducible rfl | (simp only [still_State_modRst, still_State_resetsGo, still_State_addStep, still_when, still_State_fencePart, apply_ite State.still, apply_ite Prod.fst, ite_self, implies_true, eq_self, still_foldl, still_each, still_when, still_State_emit, still_State_used]; done) | (simp only [still_State_modRst, still_State_resetsGo, still_State_addStep, still_when, still_State_fencePart, apply_ite State.still, apply_ite Prod.fst, ite_self, implies_true, eq_self, still_foldl, still_each, still_when, still_State_emit, still_State_used]) | split | (refine (still_each _ _ _ (fun x t => ?_)).trans ?_) | (refine (still_when _ _ _ (fun t => ?_)).trans ?_) | (refine (still_foldl _ _ _ (fun t x => ?_)).trans ?_) | (rename_i h; refine (congrArg (fun x => State.still (Prod.fst x)) h).symm.trans ?_; simp only [still_State_modRst, still_State_resetsGo, still_State_addStep, still_when, still_State_fencePart, apply_ite State.still, apply_ite Prod.fst, ite_self, implies_true, eq_self, still_foldl, still_each, still_when, still_State_emit, still_State_used]; done) | (refine (still_foldFst _ _ _ (fun x k => ?_)).trans ?_) | intro x)

theorem still_State_partStep (a1) (a2) (a3) (s : State) : (State.partStep a1 a2 a3 s).still = s.still := by
  unfold State.partStep
  simp only [still_State_modPart, still_State_addStep, still_State_fencePart, still_State_resetsGo, still_each, still_when, apply_ite State.still, ite_self, implies_true, eq_self, still_each, still_when]

theorem still_State_engineEnd (a1) (s : State) : (State.engineEnd a1 s).still = s.still := by
  unfold State.engineEnd
  repeat' (first | with_reducible rfl | (simp only [still_State_count, still_State_endSteps, still_when, still_State_unfence, still_State_resetsGo, still_State_complete, apply_ite State.still, apply_ite Prod.fst, ite_self, implies_true, eq_self, still_foldl, still_each, still_when, still_State_emit, still_State_used]; done) | (simp only [still_State_count, still_State_endSteps, still_when, still_State_unfence, still_State_resetsGo, still_State_complete, apply_ite State.still, apply_ite Prod.fst, ite_self, implies_true, eq_self, still_foldl, still_each, still_when, still_State_emit, still_State_used]) | split | (refine (still_each _ _ _ (fun x t => ?_)).trans ?_) | (refine (still_when _ _ _ (fun t => ?_)).trans ?_) | (refine (still_foldl _ _ _ (fun t x => ?_)).trans ?_) | (rename_i h; refine (congrArg (fun x => State.still (Prod.fst x)) h).symm.trans ?_; simp only [still_State_count, still_State_endSteps, still_when, still_State_unfence, still_State_resetsGo, still_State_complete, apply_ite State.still, apply_ite Prod.fst, ite_self, implies_true, eq_self, still_foldl, still_each, still_when, still_State_emit, still_State_used]; done) | (refine (still_foldFst _ _ _ (fun x k => ?_)).trans ?_) | intro x)

theorem still_State_ctxResetEnd (a1) (s : State) : (State.ctxResetEnd a1 s).still = s.still := by
  unfold State.ctxResetEnd
  simp only [still_State_modCtx, still_State_endSteps, still_State_complete, still_State_count, apply_ite State.still, ite_self, eq_self]

theorem still_State_scrubRetire (a1) (s : State) : (State.scrubRetire a1 s).still = s.still := by
  unfold State.scrubRetire
  simp only [still_each, still_State_retire, still_State_modSg, still_State_modKey, still_State_modRem, still_State_endReduction, implies_true, eq_self, still_each]

theorem still_State_scrubAnchors (a1) (s : State) : (State.scrubAnchors a1 s).still = s.still := by
  unfold State.scrubAnchors
  simp only [still_each, still_State_setAnchor, still_State_finishRetire, still_State_retire, still_State_modSg, still_State_modObju, implies_true, eq_self, still_each]

theorem still_State_scrubFree (q) (s : State) : (s.scrubFree q).still = s.still :=
  (still_State_complete _ _).trans <| (still_State_modLnk _ _).trans <| (still_State_modRem _ _).trans <| (still_State_modObju _ _).trans <|
    (still_State_modDt _ _).trans <| (still_State_count ..).trans <| (still_State_lowerPfence ..).trans <| (still_State_dropShare ..).trans
      (still_State_modPart ..)

theorem still_State_sendPwr (s : State) : (State.sendPwr s).still = s.still := by
  unfold State.sendPwr
  repeat' (first | with_reducible rfl | (simp only [still_State_emit, apply_ite State.still, apply_ite Prod.fst, ite_self, implies_true, eq_self, still_foldl, still_each, still_when, still_State_emit, still_State_used]; done) | (simp only [still_State_emit, apply_ite State.still, apply_ite Prod.fst, ite_self, implies_true, eq_self, still_foldl, still_each, still_when, still_State_emit, still_State_used]) | split | (refine (still_each _ _ _ (fun x t => ?_)).trans ?_) | (refine (still_when _ _ _ (fun t => ?_)).trans ?_) | (refine (still_foldl _ _ _ (fun t x => ?_)).trans ?_) | (rename_i h; refine (congrArg (fun x => State.still (Prod.fst x)) h).symm.trans ?_; simp only [still_State_emit, apply_ite State.still, apply_ite Prod.fst, ite_self, implies_true, eq_self, still_foldl, still_each, still_when, still_State_emit, still_State_used]; done) | (refine (still_foldFst _ _ _ (fun x k => ?_)).trans ?_) | intro x)

theorem still_State_askPower (a1) (a2) (s : State) : (State.askPower a1 a2 s).still = s.still := by
  unfold State.askPower
  simp only [still_State_sendPwr, still_State_modBoot, still_State_modPins, eq_self]

theorem still_State_chipHung (s : State) : (State.chipHung s).still = s.still := by
  unfold State.chipHung
  simp only [still_State_askPower, still_State_count, still_State_endSteps, apply_ite State.still, ite_self, eq_self]

theorem still_State_escalateCtx (a1) (s : State) : (State.escalateCtx a1 s).still = s.still := by
  unfold State.escalateCtx
  simp only [still_State_count, still_State_modCtx, still_State_endSteps, still_State_partStep, still_each, still_State_engineStep, apply_ite State.still, ite_self, implies_true, eq_self, still_each]

theorem still_State_escalateEng (a1) (s : State) : (State.escalateEng a1 s).still = s.still := by
  unfold State.escalateEng
  repeat' (first | with_reducible rfl | (simp only [still_State_count, still_State_endSteps, still_State_partStep, still_State_chipRequest, apply_ite State.still, apply_ite Prod.fst, ite_self, implies_true, eq_self, still_foldl, still_each, still_when, still_State_emit, still_State_used]; done) | (simp only [still_State_count, still_State_endSteps, still_State_partStep, still_State_chipRequest, apply_ite State.still, apply_ite Prod.fst, ite_self, implies_true, eq_self, still_foldl, still_each, still_when, still_State_emit, still_State_used]) | split | (refine (still_each _ _ _ (fun x t => ?_)).trans ?_) | (refine (still_when _ _ _ (fun t => ?_)).trans ?_) | (refine (still_foldl _ _ _ (fun t x => ?_)).trans ?_) | (rename_i h; refine (congrArg (fun x => State.still (Prod.fst x)) h).symm.trans ?_; simp only [still_State_count, still_State_endSteps, still_State_partStep, still_State_chipRequest, apply_ite State.still, apply_ite Prod.fst, ite_self, implies_true, eq_self, still_foldl, still_each, still_when, still_State_emit, still_State_used]; done) | (refine (still_foldFst _ _ _ (fun x k => ?_)).trans ?_) | intro x)

theorem still_State_bringUp (s : State) : (State.bringUp s).still = s.still := by
  unfold State.bringUp
  simp only [still_State_modBoot, eq_self]

theorem still_State_leaveReset (s : State) : (State.leaveReset s).still = s.still := by
  unfold State.leaveReset
  simp only [still_State_modBoot, still_State_bringUp, apply_ite State.still, ite_self, eq_self]

theorem still_State_retUndo (s : State) : (State.retUndo s).still = s.still := by
  unfold State.retUndo
  simp only [still_each, still_State_unfence, still_State_modBoot, implies_true, eq_self, still_each]

theorem still_State_snsFire (s : State) : (State.snsFire s).still = s.still := by
  unfold State.snsFire
  simp only [still_State_breach, still_State_modPins, apply_ite State.still, ite_self, eq_self]

theorem still_State_burnStart (s : State) : (State.burnStart s).still = s.still := by
  unfold State.burnStart
  repeat' (first | with_reducible rfl | (simp only [still_State_modBoot, still_State_emit, apply_ite State.still, apply_ite Prod.fst, ite_self, implies_true, eq_self, still_foldl, still_each, still_when, still_State_emit, still_State_used]; done) | (simp only [still_State_modBoot, still_State_emit, apply_ite State.still, apply_ite Prod.fst, ite_self, implies_true, eq_self, still_foldl, still_each, still_when, still_State_emit, still_State_used]) | split | (refine (still_each _ _ _ (fun x t => ?_)).trans ?_) | (refine (still_when _ _ _ (fun t => ?_)).trans ?_) | (refine (still_foldl _ _ _ (fun t x => ?_)).trans ?_) | (rename_i h; refine (congrArg (fun x => State.still (Prod.fst x)) h).symm.trans ?_; simp only [still_State_modBoot, still_State_emit, apply_ite State.still, apply_ite Prod.fst, ite_self, implies_true, eq_self, still_foldl, still_each, still_when, still_State_emit, still_State_used]; done) | (refine (still_foldFst _ _ _ (fun x k => ?_)).trans ?_) | intro x)

theorem still_State_setBurns (a1) (a2) (s : State) : (State.setBurns a1 a2 s).still = s.still := by
  unfold State.setBurns
  simp only [still_State_modBoot, eq_self]

theorem still_State_phaseTo (a1) (s : State) : (State.phaseTo a1 s).still = s.still := by
  unfold State.phaseTo
  simp only [still_State_modBoot, eq_self]

theorem still_State_stopBoot (s : State) : (State.stopBoot s).still = s.still := by
  unfold State.stopBoot
  simp only [still_State_modBoot, still_State_modKey, still_State_phaseTo, eq_self]

theorem still_State_husGate (s : State) : (State.husGate s).still = s.still := by
  unfold State.husGate
  simp only [still_State_phaseTo, still_State_modBoot, apply_ite State.still, ite_self, eq_self]

theorem still_State_afterWipe (s : State) : (State.afterWipe s).still = s.still := by
  unfold State.afterWipe
  simp only [still_State_stopBoot, still_State_husGate, apply_ite State.still, ite_self, eq_self]

theorem still_State_wipe (s : State) : (State.wipe s).still = s.still := by
  unfold State.wipe
  simp only [still_State_afterWipe, still_State_emit, still_State_phaseTo, apply_ite State.still, ite_self, eq_self, still_State_emit]

theorem still_State_afterDecision (s : State) : (State.afterDecision s).still = s.still := by
  unfold State.afterDecision
  simp only [still_State_stopBoot, still_State_setBurns, still_State_phaseTo, still_State_husGate, apply_ite State.still, ite_self, eq_self]

theorem still_State_settle463 (s : State) : (State.settle463 s).still = s.still := by
  unfold State.settle463
  simp only [still_State_modBoot, still_State_afterDecision, still_State_clearSlots, eq_self]

theorem still_State_lcReset (s : State) : (State.lcReset s).still = s.still := by
  unfold State.lcReset
  simp only [still_State_chipRequest, still_State_setBurns, still_State_press, eq_self]

theorem still_State_lcControl (a1) (a2) (s : State) : (State.lcControl a1 a2 s).still = s.still := by
  unfold State.lcControl
  simp only [still_State_setBurns, eq_self]

theorem still_State_goalDone (s : State) : (State.goalDone s).still = s.still := by
  unfold State.goalDone
  repeat' (first | with_reducible rfl | (simp only [still_State_settle463, still_State_wipe, still_State_afterWipe, still_State_modBoot, still_State_setBurns, still_State_phaseTo, still_State_lcReset, still_State_lcControl, apply_ite State.still, apply_ite Prod.fst, ite_self, implies_true, eq_self, still_foldl, still_each, still_when, still_State_emit, still_State_used]; done) | (simp only [still_State_settle463, still_State_wipe, still_State_afterWipe, still_State_modBoot, still_State_setBurns, still_State_phaseTo, still_State_lcReset, still_State_lcControl, apply_ite State.still, apply_ite Prod.fst, ite_self, implies_true, eq_self, still_foldl, still_each, still_when, still_State_emit, still_State_used]) | split | (refine (still_each _ _ _ (fun x t => ?_)).trans ?_) | (refine (still_when _ _ _ (fun t => ?_)).trans ?_) | (refine (still_foldl _ _ _ (fun t x => ?_)).trans ?_) | (rename_i h; refine (congrArg (fun x => State.still (Prod.fst x)) h).symm.trans ?_; simp only [still_State_settle463, still_State_wipe, still_State_afterWipe, still_State_modBoot, still_State_setBurns, still_State_phaseTo, still_State_lcReset, still_State_lcControl, apply_ite State.still, apply_ite Prod.fst, ite_self, implies_true, eq_self, still_foldl, still_each, still_when, still_State_emit, still_State_used]; done) | (refine (still_foldFst _ _ _ (fun x k => ?_)).trans ?_) | intro x)

theorem still_burnPump (n) (s : State) : (burnPump n s).still = s.still := by
  induction n generalizing s with
  | zero => rfl
  | succ n ih =>
    unfold burnPump
    split
    · rfl
    · split
      · exact (ih _).trans (still_State_goalDone s)
      · exact still_State_burnStart s

theorem still_State_burnOn (s : State) : (State.burnOn s).still = s.still := by
  unfold State.burnOn
  simp only [still_burnPump, eq_self]

theorem still_State_deriveKeys (s : State) : s.deriveKeys.still = s.still :=
  (still_State_modAtt _ _).trans <| (still_State_modKey _ _).trans <| (still_State_fill ..).trans <| (still_State_fill ..).trans <|
    (still_State_fill ..).trans (still_State_fill ..)

theorem still_State_pressGoOn (s : State) : (State.pressGoOn s).still = s.still := by
  unfold State.pressGoOn
  repeat' (first | with_reducible rfl | (simp only [still_State_modObs, apply_ite State.still, apply_ite Prod.fst, ite_self, implies_true, eq_self, still_foldl, still_each, still_when, still_State_emit, still_State_used]; done) | (simp only [still_State_modObs, apply_ite State.still, apply_ite Prod.fst, ite_self, implies_true, eq_self, still_foldl, still_each, still_when, still_State_emit, still_State_used]) | split | (refine (still_each _ _ _ (fun x t => ?_)).trans ?_) | (refine (still_when _ _ _ (fun t => ?_)).trans ?_) | (refine (still_foldl _ _ _ (fun t x => ?_)).trans ?_) | (rename_i h; refine (congrArg (fun x => State.still (Prod.fst x)) h).symm.trans ?_; simp only [still_State_modObs, apply_ite State.still, apply_ite Prod.fst, ite_self, implies_true, eq_self, still_foldl, still_each, still_when, still_State_emit, still_State_used]; done) | (refine (still_foldFst _ _ _ (fun x k => ?_)).trans ?_) | intro x)

theorem still_State_dropRecords (s : State) : (State.dropRecords s).still = s.still := by
  unfold State.dropRecords
  simp only [still_State_modAtt, eq_self]

theorem still_State_adopt (a1) (a2) (a3) (s : State) : (State.adopt a1 a2 a3 s).still = s.still := by
  unfold State.adopt
  simp only [still_State_take, still_each, still_State_retireObj, still_State_modObju, implies_true, eq_self, still_each]

theorem still_State_recordFails (a1) (a2) (s : State) : (State.recordFails a1 a2 s).still = s.still := by
  unfold State.recordFails
  simp only [still_State_press, still_State_eraseRecord, eq_self]

theorem still_State_adoptAll (s : State) : (State.adoptAll s).still = s.still := by
  unfold State.adoptAll
  repeat' (first | with_reducible rfl | (simp only [still_each, still_State_take, still_State_adopt, still_State_recordFails, still_State_setAnchor, still_State_retire, still_State_modKey, still_State_modObju, apply_ite State.still, apply_ite Prod.fst, ite_self, implies_true, eq_self, still_foldl, still_each, still_when, still_State_emit, still_State_used]; done) | (simp only [still_each, still_State_take, still_State_adopt, still_State_recordFails, still_State_setAnchor, still_State_retire, still_State_modKey, still_State_modObju, apply_ite State.still, apply_ite Prod.fst, ite_self, implies_true, eq_self, still_foldl, still_each, still_when, still_State_emit, still_State_used]) | split | (refine (still_each _ _ _ (fun x t => ?_)).trans ?_) | (refine (still_when _ _ _ (fun t => ?_)).trans ?_) | (refine (still_foldl _ _ _ (fun t x => ?_)).trans ?_) | (rename_i h; refine (congrArg (fun x => State.still (Prod.fst x)) h).symm.trans ?_; simp only [still_each, still_State_take, still_State_adopt, still_State_recordFails, still_State_setAnchor, still_State_retire, still_State_modKey, still_State_modObju, apply_ite State.still, apply_ite Prod.fst, ite_self, implies_true, eq_self, still_foldl, still_each, still_when, still_State_emit, still_State_used]; done) | (refine (still_foldFst _ _ _ (fun x k => ?_)).trans ?_) | intro x)

theorem still_State_reassign (a1) (a2) (s : State) : (State.reassign a1 a2 s).still = s.still := by
  unfold State.reassign
  repeat' (first | with_reducible rfl | (simp only [still_State_tryJoin, still_State_assignNew, still_State_recordFails, apply_ite State.still, apply_ite Prod.fst, ite_self, implies_true, eq_self, still_foldl, still_each, still_when, still_State_emit, still_State_used]; done) | (simp only [still_State_tryJoin, still_State_assignNew, still_State_recordFails, apply_ite State.still, apply_ite Prod.fst, ite_self, implies_true, eq_self, still_foldl, still_each, still_when, still_State_emit, still_State_used]) | split | (refine (still_each _ _ _ (fun x t => ?_)).trans ?_) | (refine (still_when _ _ _ (fun t => ?_)).trans ?_) | (refine (still_foldl _ _ _ (fun t x => ?_)).trans ?_) | (rename_i h; refine (congrArg (fun x => State.still (Prod.fst x)) h).symm.trans ?_; simp only [still_State_tryJoin, still_State_assignNew, still_State_recordFails, apply_ite State.still, apply_ite Prod.fst, ite_self, implies_true, eq_self, still_foldl, still_each, still_when, still_State_emit, still_State_used]; done) | (refine (still_foldFst _ _ _ (fun x k => ?_)).trans ?_) | intro x)

theorem still_State_coreHalt (a1) (s : State) : (State.coreHalt a1 s).still = s.still := by
  unfold State.coreHalt
  simp only [still_State_modBoot, still_State_setFld, still_State_modRst, apply_ite State.still, ite_self, eq_self]

theorem still_State_coreStep (s : State) : (State.coreStep s).still = s.still := by
  unfold State.coreStep
  simp only [still_State_modBoot, apply_ite State.still, ite_self, eq_self]

theorem still_State_coreWrite (a1) (a2) (s : State) (ha2 : ∀ t, State.still (a2 t) = t.still) : (State.coreWrite a1 a2 s).still = s.still := by
  unfold State.coreWrite
  simp only [still_State_ctlWrite, ha2, apply_ite State.still, ite_self, implies_true, eq_self]

theorem still_State_badOpcode (a1) (a2) (s : State) : (State.badOpcode a1 a2 s).still = s.still := by
  unfold State.badOpcode
  simp only [still_State_takePacket, still_State_refuse, still_State_reserve, apply_ite State.still, ite_self, eq_self]

theorem still_State_badRecord (a1) (a2) (a3) (a4) (s : State) : (State.badRecord a1 a2 a3 a4 s).still = s.still := by
  unfold State.badRecord
  simp only [still_State_emit, still_State_cntr, apply_ite State.still, ite_self, eq_self, still_State_emit]

theorem still_State_plainWrite (a1) (a2) (s : State) : (State.plainWrite a1 a2 s).still = s.still := by
  unfold State.plainWrite
  repeat' (first | with_reducible rfl | (simp only [still_State_setReg, still_State_modRegf, still_State_flag, apply_ite State.still, apply_ite Prod.fst, ite_self, implies_true, eq_self, still_foldl, still_each, still_when, still_State_emit, still_State_used]; done) | (simp only [still_State_setReg, still_State_modRegf, still_State_flag, apply_ite State.still, apply_ite Prod.fst, ite_self, implies_true, eq_self, still_foldl, still_each, still_when, still_State_emit, still_State_used]) | split | (refine (still_each _ _ _ (fun x t => ?_)).trans ?_) | (refine (still_when _ _ _ (fun t => ?_)).trans ?_) | (refine (still_foldl _ _ _ (fun t x => ?_)).trans ?_) | (rename_i h; refine (congrArg (fun x => State.still (Prod.fst x)) h).symm.trans ?_; simp only [still_State_setReg, still_State_modRegf, still_State_flag, apply_ite State.still, apply_ite Prod.fst, ite_self, implies_true, eq_self, still_foldl, still_each, still_when, still_State_emit, still_State_used]; done) | (refine (still_foldFst _ _ _ (fun x k => ?_)).trans ?_) | intro x)

theorem still_State_traceWrite (a1) (a2) (a3) (s : State) : (State.traceWrite a1 a2 a3 s).still = s.still := by
  unfold State.traceWrite
  repeat' (first | with_reducible rfl | (simp only [still_State_modObs, apply_ite State.still, apply_ite Prod.fst, ite_self, implies_true, eq_self, still_foldl, still_each, still_when, still_State_emit, still_State_used]; done) | (simp only [still_State_modObs, apply_ite State.still, apply_ite Prod.fst, ite_self, implies_true, eq_self, still_foldl, still_each, still_when, still_State_emit, still_State_used]) | split | (refine (still_each _ _ _ (fun x t => ?_)).trans ?_) | (refine (still_when _ _ _ (fun t => ?_)).trans ?_) | (refine (still_foldl _ _ _ (fun t x => ?_)).trans ?_) | (rename_i h; refine (congrArg (fun x => State.still (Prod.fst x)) h).symm.trans ?_; simp only [still_State_modObs, apply_ite State.still, apply_ite Prod.fst, ite_self, implies_true, eq_self, still_foldl, still_each, still_when, still_State_emit, still_State_used]; done) | (refine (still_foldFst _ _ _ (fun x k => ?_)).trans ?_) | intro x)

theorem still_State_debugWrite (a1) (a2) (a3) (s : State) : (State.debugWrite a1 a2 a3 s).still = s.still := by
  unfold State.debugWrite
  simp only [still_State_plainWrite, still_State_coreHalt, still_State_coreStep, apply_ite State.still, ite_self, eq_self]

theorem still_State_hqCfgWrite (a1) (a2) (s : State) : (State.hqCfgWrite a1 a2 s).still = s.still := by
  unfold State.hqCfgWrite
  simp only [still_State_plainWrite, still_State_hostQueueOpen, still_State_hostQueueClose, apply_ite State.still, ite_self, eq_self]

theorem still_State_wordWrite (a1) (a2) (a3) (s : State) : (State.wordWrite a1 a2 a3 s).still = s.still := by
  unfold State.wordWrite
  simp only [still_State_plainWrite, still_State_setFld, still_State_dtCtrl, still_State_traceWrite, still_State_debugWrite, still_State_hqCfgWrite, still_State_modCmd, still_State_modHst, still_State_modTdi, still_State_sgWrite, still_State_setReg, still_State_lnkWrite, apply_ite State.still, ite_self, eq_self]

theorem still_State_pairWrite (a1) (a2) (a3) (a4) (s : State) : (State.pairWrite a1 a2 a3 a4 s).1.still = s.still := by
  unfold State.pairWrite
  repeat' (first | with_reducible rfl | (simp only [still_State_bell, still_State_fqWrite, still_State_mark, still_State_adbSubmit, still_State_wordWrite, apply_ite State.still, apply_ite Prod.fst, ite_self, implies_true, eq_self, still_foldl, still_each, still_when, still_State_emit, still_State_used]; done) | (simp only [still_State_bell, still_State_fqWrite, still_State_mark, still_State_adbSubmit, still_State_wordWrite, apply_ite State.still, apply_ite Prod.fst, ite_self, implies_true, eq_self, still_foldl, still_each, still_when, still_State_emit, still_State_used]) | split | (refine (still_each _ _ _ (fun x t => ?_)).trans ?_) | (refine (still_when _ _ _ (fun t => ?_)).trans ?_) | (refine (still_foldl _ _ _ (fun t x => ?_)).trans ?_) | (rename_i h; refine (congrArg (fun x => State.still (Prod.fst x)) h).symm.trans ?_; simp only [still_State_bell, still_State_fqWrite, still_State_mark, still_State_adbSubmit, still_State_wordWrite, apply_ite State.still, apply_ite Prod.fst, ite_self, implies_true, eq_self, still_foldl, still_each, still_when, still_State_emit, still_State_used]; done) | (refine (still_foldFst _ _ _ (fun x k => ?_)).trans ?_) | intro x)

theorem still_State_takeHeld (a1) (a2) (s : State) : (State.takeHeld a1 a2 s).1.still = s.still := by
  unfold State.takeHeld
  simp only [still_State_modRegf, eq_self]

theorem still_State_holdLo (a1) (a2) (a3) (s : State) : (State.holdLo a1 a2 a3 s).1.still = s.still := by
  unfold State.holdLo
  simp only [still_State_flag, still_State_takeHeld, still_State_modRegf, apply_ite State.still, apply_ite Prod.fst, ite_self, eq_self]

theorem still_State_write32 (a1) (a2) (a3) (a4) (s : State) : (State.write32 a1 a2 a3 a4 s).1.still = s.still := by
  unfold State.write32
  repeat' (first | with_reducible rfl | (simp only [still_State_wordWrite, still_State_holdLo, still_State_takeHeld, still_State_pairWrite, apply_ite State.still, apply_ite Prod.fst, ite_self, implies_true, eq_self, still_foldl, still_each, still_when, still_State_emit, still_State_used]; done) | (simp only [still_State_wordWrite, still_State_holdLo, still_State_takeHeld, still_State_pairWrite, apply_ite State.still, apply_ite Prod.fst, ite_self, implies_true, eq_self, still_foldl, still_each, still_when, still_State_emit, still_State_used]) | split | (refine (still_each _ _ _ (fun x t => ?_)).trans ?_) | (refine (still_when _ _ _ (fun t => ?_)).trans ?_) | (refine (still_foldl _ _ _ (fun t x => ?_)).trans ?_) | (rename_i h; refine (congrArg (fun x => State.still (Prod.fst x)) h).symm.trans ?_; simp only [still_State_wordWrite, still_State_holdLo, still_State_takeHeld, still_State_pairWrite, apply_ite State.still, apply_ite Prod.fst, ite_self, implies_true, eq_self, still_foldl, still_each, still_when, still_State_emit, still_State_used]; done) | (refine (still_foldFst _ _ _ (fun x k => ?_)).trans ?_) | intro x)

theorem still_State_read32 (a1) (a2) (a3) (a4) (s : State) : (State.read32 a1 a2 a3 a4 s).1.still = s.still := by
  unfold State.read32
  repeat' (first | with_reducible rfl | (simp only [still_when, still_State_used, still_State_modDt, still_State_modRegf, apply_ite State.still, apply_ite Prod.fst, ite_self, implies_true, eq_self, still_foldl, still_each, still_when, still_State_emit, still_State_used]; done) | (simp only [still_when, still_State_used, still_State_modDt, still_State_modRegf, apply_ite State.still, apply_ite Prod.fst, ite_self, implies_true, eq_self, still_foldl, still_each, still_when, still_State_emit, still_State_used]) | split | (refine (still_each _ _ _ (fun x t => ?_)).trans ?_) | (refine (still_when _ _ _ (fun t => ?_)).trans ?_) | (refine (still_foldl _ _ _ (fun t x => ?_)).trans ?_) | (rename_i h; refine (congrArg (fun x => State.still (Prod.fst x)) h).symm.trans ?_; simp only [still_when, still_State_used, still_State_modDt, still_State_modRegf, apply_ite State.still, apply_ite Prod.fst, ite_self, implies_true, eq_self, still_foldl, still_each, still_when, still_State_emit, still_State_used]; done) | (refine (still_foldFst _ _ _ (fun x k => ?_)).trans ?_) | intro x)

theorem still_State_half32 (a1) (a2) (a3) (a4) (a5) (s : State) : (State.half32 a1 a2 a3 a4 a5 s).1.still = s.still := by
  unfold State.half32
  repeat' (first | with_reducible rfl | (simp only [still_State_write32, still_State_read32, apply_ite State.still, apply_ite Prod.fst, ite_self, implies_true, eq_self, still_foldl, still_each, still_when, still_State_emit, still_State_used]; done) | (simp only [still_State_write32, still_State_read32, apply_ite State.still, apply_ite Prod.fst, ite_self, implies_true, eq_self, still_foldl, still_each, still_when, still_State_emit, still_State_used]) | split | (refine (still_each _ _ _ (fun x t => ?_)).trans ?_) | (refine (still_when _ _ _ (fun t => ?_)).trans ?_) | (refine (still_foldl _ _ _ (fun t x => ?_)).trans ?_) | (rename_i h; refine (congrArg (fun x => State.still (Prod.fst x)) h).symm.trans ?_; simp only [still_State_write32, still_State_read32, apply_ite State.still, apply_ite Prod.fst, ite_self, implies_true, eq_self, still_foldl, still_each, still_when, still_State_emit, still_State_used]; done) | (refine (still_foldFst _ _ _ (fun x k => ?_)).trans ?_) | intro x)

theorem still_State_access64 (a1) (a2) (a3) (a4) (s : State) : (State.access64 a1 a2 a3 a4 s).1.still = s.still := by
  unfold State.access64
  repeat' (first | with_reducible rfl | (simp only [still_State_pairWrite, still_State_takeHeld, still_when, still_State_modDt, apply_ite State.still, apply_ite Prod.fst, ite_self, implies_true, eq_self, still_foldl, still_each, still_when, still_State_emit, still_State_used]; done) | (simp only [still_State_pairWrite, still_State_takeHeld, still_when, still_State_modDt, apply_ite State.still, apply_ite Prod.fst, ite_self, implies_true, eq_self, still_foldl, still_each, still_when, still_State_emit, still_State_used]) | split | (refine (still_each _ _ _ (fun x t => ?_)).trans ?_) | (refine (still_when _ _ _ (fun t => ?_)).trans ?_) | (refine (still_foldl _ _ _ (fun t x => ?_)).trans ?_) | (rename_i h; refine (congrArg (fun x => State.still (Prod.fst x)) h).symm.trans ?_; simp only [still_State_pairWrite, still_State_takeHeld, still_when, still_State_modDt, apply_ite State.still, apply_ite Prod.fst, ite_self, implies_true, eq_self, still_foldl, still_each, still_when, still_State_emit, still_State_used]; done) | (refine (still_foldFst _ _ _ (fun x k => ?_)).trans ?_) | intro x)

theorem still_State_access (a1) (a2) (a3) (a4) (a5) (s : State) : (State.access a1 a2 a3 a4 a5 s).1.still = s.still := by
  unfold State.access
  repeat' (first | with_reducible rfl | (simp only [still_State_otherAccess, still_State_half32, still_when, still_State_busErr, still_State_access64, apply_ite State.still, apply_ite Prod.fst, ite_self, implies_true, eq_self, still_foldl, still_each, still_when, still_State_emit, still_State_used]; done) | (simp only [still_State_otherAccess, still_State_half32, still_when, still_State_busErr, still_State_access64, apply_ite State.still, apply_ite Prod.fst, ite_self, implies_true, eq_self, still_foldl, still_each, still_when, still_State_emit, still_State_used]) | split | (refine (still_each _ _ _ (fun x t => ?_)).trans ?_) | (refine (still_when _ _ _ (fun t => ?_)).trans ?_) | (refine (still_foldl _ _ _ (fun t x => ?_)).trans ?_) | (rename_i h; refine (congrArg (fun x => State.still (Prod.fst x)) h).symm.trans ?_; simp only [still_State_otherAccess, still_State_half32, still_when, still_State_busErr, still_State_access64, apply_ite State.still, apply_ite Prod.fst, ite_self, implies_true, eq_self, still_foldl, still_each, still_when, still_State_emit, still_State_used]; done) | (refine (still_foldFst _ _ _ (fun x k => ?_)).trans ?_) | intro x)

theorem still_State_tickDt (s : State) : (State.tickDt s).still = s.still := by
  unfold State.tickDt
  simp only [still_State_modDt, still_each, still_State_cntr, apply_ite State.still, ite_self, implies_true, eq_self, still_each]

theorem still_State_tickBeat (a1) (s : State) : (State.tickBeat a1 s).still = s.still := by
  unfold State.tickBeat
  repeat' (first | with_reducible rfl | (simp only [still_State_modPort, still_State_modPtp, apply_ite State.still, apply_ite Prod.fst, ite_self, implies_true, eq_self, still_foldl, still_each, still_when, still_State_emit, still_State_used]; done) | (simp only [still_State_modPort, still_State_modPtp, apply_ite State.still, apply_ite Prod.fst, ite_self, implies_true, eq_self, still_foldl, still_each, still_when, still_State_emit, still_State_used]) | split | (refine (still_each _ _ _ (fun x t => ?_)).trans ?_) | (refine (still_when _ _ _ (fun t => ?_)).trans ?_) | (refine (still_foldl _ _ _ (fun t x => ?_)).trans ?_) | (rename_i h; refine (congrArg (fun x => State.still (Prod.fst x)) h).symm.trans ?_; simp only [still_State_modPort, still_State_modPtp, apply_ite State.still, apply_ite Prod.fst, ite_self, implies_true, eq_self, still_foldl, still_each, still_when, still_State_emit, still_State_used]; done) | (refine (still_foldFst _ _ _ (fun x k => ?_)).trans ?_) | intro x)

theorem still_State_tickPort (a1) (s : State) : (State.tickPort a1 s).still = s.still := by
  unfold State.tickPort
  simp only [still_State_modPort, eq_self]

end Sys2Proof.Machine
end

