-- ==== Sys2Proof/Laws/StillCommands.lean ====
section
/-!
SUPPORT. What no command changes: the netlist parameters, the queue, the time base and, but for the commands of Laws/Otp.lean, the
fuse array. One law for each command.
-/
set_option linter.unusedSimpArgs false
set_option linter.unusedVariables false
set_option linter.unusedTactic false
set_option linter.unreachableTactic false
namespace Sys2Proof.Machine

theorem still_execObjAlloc (a1) (a2) (a3) (s : State) : ∀ t, execObjAlloc a1 a2 a3 s = .next t → t.still = s.still := by
  intro t h; unfold execObjAlloc at h
  rcases h
  repeat' (first | with_reducible rfl | (simp only [still_State_admitCmd, still_State_alloc, still_State_ok, still_State_endsWith, apply_ite State.still, apply_ite Prod.fst, ite_self, implies_true, eq_self, still_foldl, still_each, still_when, still_State_emit, still_State_used]; done) | (simp only [still_State_admitCmd, still_State_alloc, still_State_ok, still_State_endsWith, apply_ite State.still, apply_ite Prod.fst, ite_self, implies_true, eq_self, still_foldl, still_each, still_when, still_State_emit, still_State_used]) | split | (refine (still_each _ _ _ (fun x t => ?_)).trans ?_) | (refine (still_when _ _ _ (fun t => ?_)).trans ?_) | (refine (still_foldl _ _ _ (fun t x => ?_)).trans ?_) | (rename_i h; refine (congrArg (fun x => State.still (Prod.fst x)) h).symm.trans ?_; simp only [still_State_admitCmd, still_State_alloc, still_State_ok, still_State_endsWith, apply_ite State.still, apply_ite Prod.fst, ite_self, implies_true, eq_self, still_foldl, still_each, still_when, still_State_emit, still_State_used]; done) | (refine (still_State_admitCmd _ _ _ _ _ (fun y0 t => ?_)).trans ?_) | intro x)

theorem still_execObjFree (a1) (a2) (a3) (s : State) : ∀ t, execObjFree a1 a2 a3 s = .next t → t.still = s.still := by
  intro t h; unfold execObjFree at h
  rcases h
  simp only [still_State_admitCmd, still_State_modObj, implies_true, eq_self]

theorem still_execFreeRetire (a1) (a2) (s : State) : ∀ t, execFreeRetire a1 a2 s = .next t → t.still = s.still := by
  intro t h; unfold execFreeRetire at h
  rcases h
  simp only [still_State_retireObj, apply_ite State.still, ite_self, eq_self]

theorem still_execObjQuery (a1) (a2) (a3) (s : State) : ∀ t, execObjQuery a1 a2 a3 s = .next t → t.still = s.still := by
  intro t h; unfold execObjQuery at h
  rcases h
  simp only [still_State_admitCmd, still_State_ok, implies_true, eq_self]

theorem still_execAllocDoorbell (a1) (a2) (a3) (a4) (a5) (s : State) : ∀ t, execAllocDoorbell a1 a2 a3 a4 a5 s = .next t → t.still = s.still := by
  intro t h; unfold execAllocDoorbell at h
  rcases h
  simp only [still_State_portWrite, still_State_adbSubmit, implies_true, eq_self]

theorem still_execAllocDoorbellDone (a1) (a2) (s : State) : ∀ t, execAllocDoorbellDone a1 a2 s = .next t → t.still = s.still := by
  intro t h; unfold execAllocDoorbellDone at h
  rcases h
  repeat' (first | with_reducible rfl | (simp only [still_State_setAdb, still_State_alloc, apply_ite State.still, apply_ite Prod.fst, ite_self, implies_true, eq_self, still_foldl, still_each, still_when, still_State_emit, still_State_used]; done) | (simp only [still_State_setAdb, still_State_alloc, apply_ite State.still, apply_ite Prod.fst, ite_self, implies_true, eq_self, still_foldl, still_each, still_when, still_State_emit, still_State_used]) | split | (refine (still_each _ _ _ (fun x t => ?_)).trans ?_) | (refine (still_when _ _ _ (fun t => ?_)).trans ?_) | (refine (still_foldl _ _ _ (fun t x => ?_)).trans ?_) | (rename_i h; refine (congrArg (fun x => State.still (Prod.fst x)) h).symm.trans ?_; simp only [still_State_setAdb, still_State_alloc, apply_ite State.still, apply_ite Prod.fst, ite_self, implies_true, eq_self, still_foldl, still_each, still_when, still_State_emit, still_State_used]; done) | intro x)

theorem still_execContextRestore (a1) (s : State) : ∀ t, execContextRestore a1 s = .next t → t.still = s.still := by
  intro t h; unfold execContextRestore at h
  rcases h
  simp only [still_State_makeRoom, still_State_innerRead, still_State_touchCtx, still_State_modCtx, still_each, still_State_faultTo, still_State_modObju, apply_ite State.still, apply_ite Prod.fst, ite_self, implies_true, eq_self, still_each]

theorem still_execCtxCreate (a1) (a2) (a3) (a4) (s : State) : ∀ t, execCtxCreate a1 a2 a3 a4 s = .next t → t.still = s.still := by
  intro t h; unfold execCtxCreate at h
  rcases h
  repeat' (first | with_reducible rfl | (simp only [still_State_admitCmd, still_State_makeRoom, still_State_ok, still_State_touchCtx, still_State_modCtx, still_State_alloc, still_State_endsWith, apply_ite State.still, apply_ite Prod.fst, ite_self, implies_true, eq_self, still_foldl, still_each, still_when, still_State_emit, still_State_used]; done) | (simp only [still_State_admitCmd, still_State_makeRoom, still_State_ok, still_State_touchCtx, still_State_modCtx, still_State_alloc, still_State_endsWith, apply_ite State.still, apply_ite Prod.fst, ite_self, implies_true, eq_self, still_foldl, still_each, still_when, still_State_emit, still_State_used]) | split | (refine (still_each _ _ _ (fun x t => ?_)).trans ?_) | (refine (still_when _ _ _ (fun t => ?_)).trans ?_) | (refine (still_foldl _ _ _ (fun t x => ?_)).trans ?_) | (rename_i h; refine (congrArg (fun x => State.still (Prod.fst x)) h).symm.trans ?_; simp only [still_State_admitCmd, still_State_makeRoom, still_State_ok, still_State_touchCtx, still_State_modCtx, still_State_alloc, still_State_endsWith, apply_ite State.still, apply_ite Prod.fst, ite_self, implies_true, eq_self, still_foldl, still_each, still_when, still_State_emit, still_State_used]; done) | (refine (still_State_admitCmd _ _ _ _ _ (fun y0 t => ?_)).trans ?_) | intro x)

theorem still_execCtxDestroy (a1) (a2) (s : State) : ∀ t, execCtxDestroy a1 a2 s = .next t → t.still = s.still := by
  intro t h; unfold execCtxDestroy at h
  rcases h
  simp only [still_State_admitWith, still_State_modRst, still_State_modObju, still_State_modCtx, still_State_drainCtx, still_State_tilesFenced, still_State_discardQueues, implies_true, eq_self]

theorem still_execFenceCreate (a1) (a2) (s : State) : ∀ t, execFenceCreate a1 a2 s = .next t → t.still = s.still := by
  intro t h; unfold execFenceCreate at h
  rcases h
  simp only [still_State_admitCmd, still_State_setFence, still_State_modObju, still_State_ok, apply_ite State.still, ite_self, implies_true, eq_self]

theorem still_execFenceSignal (a1) (a2) (a3) (s : State) : ∀ t, execFenceSignal a1 a2 a3 s = .next t → t.still = s.still := by
  intro t h; unfold execFenceSignal at h
  rcases h
  simp only [still_State_admitCmd, still_State_ok, still_State_signal, still_finishing, implies_true, eq_self]

theorem still_execFenceWait (a1) (a2) (s : State) : ∀ t, execFenceWait a1 a2 s = .next t → t.still = s.still := by
  intro t h; unfold execFenceWait at h
  rcases h
  simp only [still_State_admitCmd, still_State_modObju, still_State_wake, still_finishing, apply_ite State.still, ite_self, implies_true, eq_self]

theorem still_execFenceReset (a1) (a2) (s : State) : ∀ t, execFenceReset a1 a2 s = .next t → t.still = s.still := by
  intro t h; unfold execFenceReset at h
  rcases h
  simp only [still_State_admitCmd, still_State_setFence, still_State_ok, still_State_propagate, apply_ite State.still, ite_self, implies_true, eq_self]

theorem still_execFenceDestroy (a1) (a2) (s : State) : ∀ t, execFenceDestroy a1 a2 s = .next t → t.still = s.still := by
  intro t h; unfold execFenceDestroy at h
  rcases h
  simp only [still_State_admitCmd, still_State_ok, still_State_destroyFence, implies_true, eq_self]

theorem still_execFenceShare (a1) (a2) (a3) (s : State) : ∀ t, execFenceShare a1 a2 a3 s = .next t → t.still = s.still := by
  intro t h; unfold execFenceShare at h
  rcases h
  simp only [still_State_admitWith, still_State_ok, still_State_setFence, apply_ite State.still, ite_self, implies_true, eq_self]

theorem still_execFaultQueueDoorbell (a1) (a2) (a3) (s : State) : ∀ t, execFaultQueueDoorbell a1 a2 a3 s = .next t → t.still = s.still := by
  intro t h; unfold execFaultQueueDoorbell at h
  rcases h
  simp only [still_State_portWrite, still_State_fqWrite, apply_ite State.still, ite_self, implies_true, eq_self]

theorem still_execMnRead (q) (flips) (ecc) (s : State) : ∀ t, execMnRead q flips ecc s = .next t → t.still = s.still := by
  intro t h; cases h
  split
  · rfl
  · have g := (still_State_mnGate q (decide (q.op = 0) && lenOk q) (s.upset q.addr q.group flips)).trans (still_State_upset ..)
    split <;> rename_i heq <;> rw [heq] at g <;> refine Eq.trans ?_ g
    · exact still_State_mnNo ..
    · exact still_State_msRead ..
    · exact still_State_reachMn ..

theorem still_execMnWrite (q) (data) (be) (flips) (ecc) (s : State) : ∀ t, execMnWrite q data be flips ecc s = .next t → t.still = s.still := by
  intro t h; cases h
  split
  · rfl
  · have g := (still_State_mnGate q (decide (q.op = 1) && lenOk q && decide (be.toNat < 2 ^ (64 * (q.len + 1)))) (s.upset q.addr q.group flips)).trans (still_State_upset ..)
    split <;> rename_i heq <;> rw [heq] at g <;> refine Eq.trans ?_ g
    · exact still_State_mnNo ..
    · exact still_State_passWrite ..
    · exact still_State_reachMn ..

theorem still_execMnScalarAtomic (a1) (a2) (a3) (a4) (a5) (s : State) : ∀ t, execMnScalarAtomic a1 a2 a3 a4 a5 s = .next t → t.still = s.still := by
  intro t h; unfold execMnScalarAtomic at h
  rcases h
  repeat' (first | with_reducible rfl | (simp only [still_State_mnGate, still_State_upset, still_State_mnNo, still_State_arith, apply_ite State.still, apply_ite Prod.fst, ite_self, implies_true, eq_self, still_foldl, still_each, still_when, still_State_emit, still_State_used]; done) | (simp only [still_State_mnGate, still_State_upset, still_State_mnNo, still_State_arith, apply_ite State.still, apply_ite Prod.fst, ite_self, implies_true, eq_self, still_foldl, still_each, still_when, still_State_emit, still_State_used]) | split | (refine (still_each _ _ _ (fun x t => ?_)).trans ?_) | (refine (still_when _ _ _ (fun t => ?_)).trans ?_) | (refine (still_foldl _ _ _ (fun t x => ?_)).trans ?_) | (rename_i h; refine (congrArg (fun x => State.still (Prod.fst x)) h).symm.trans ?_; simp only [still_State_mnGate, still_State_upset, still_State_mnNo, still_State_arith, apply_ite State.still, apply_ite Prod.fst, ite_self, implies_true, eq_self, still_foldl, still_each, still_when, still_State_emit, still_State_used]; done) | intro x)

theorem still_execMnVectorAccumulate (a1) (a2) (a3) (a4) (a5) (s : State) : ∀ t, execMnVectorAccumulate a1 a2 a3 a4 a5 s = .next t → t.still = s.still := by
  intro t h; unfold execMnVectorAccumulate at h
  rcases h
  repeat' (first | with_reducible rfl | (simp only [still_State_mnGate, still_State_upset, still_State_mnNo, still_State_arith, apply_ite State.still, apply_ite Prod.fst, ite_self, implies_true, eq_self, still_foldl, still_each, still_when, still_State_emit, still_State_used]; done) | (simp only [still_State_mnGate, still_State_upset, still_State_mnNo, still_State_arith, apply_ite State.still, apply_ite Prod.fst, ite_self, implies_true, eq_self, still_foldl, still_each, still_when, still_State_emit, still_State_used]) | split | (refine (still_each _ _ _ (fun x t => ?_)).trans ?_) | (refine (still_when _ _ _ (fun t => ?_)).trans ?_) | (refine (still_foldl _ _ _ (fun t x => ?_)).trans ?_) | (rename_i h; refine (congrArg (fun x => State.still (Prod.fst x)) h).symm.trans ?_; simp only [still_State_mnGate, still_State_upset, still_State_mnNo, still_State_arith, apply_ite State.still, apply_ite Prod.fst, ite_self, implies_true, eq_self, still_foldl, still_each, still_when, still_State_emit, still_State_used]; done) | intro x)

theorem still_execMsReadResponse (a1) (a2) (a3) (a4) (a5) (a6) (s : State) : ∀ t, execMsReadResponse a1 a2 a3 a4 a5 a6 s = .next t → t.still = s.still := by
  intro t h; unfold execMsReadResponse at h
  rcases h
  repeat' (first | with_reducible rfl | (simp only [still_State_modSg, still_when, still_State_msNext, still_State_emit, still_State_flow, still_State_lineHere, still_State_setAcc, apply_ite State.still, apply_ite Prod.fst, ite_self, implies_true, eq_self, still_foldl, still_each, still_when, still_State_emit, still_State_used]; done) | (simp only [still_State_modSg, still_when, still_State_msNext, still_State_emit, still_State_flow, still_State_lineHere, still_State_setAcc, apply_ite State.still, apply_ite Prod.fst, ite_self, implies_true, eq_self, still_foldl, still_each, still_when, still_State_emit, still_State_used]) | split | (refine (still_each _ _ _ (fun x t => ?_)).trans ?_) | (refine (still_when _ _ _ (fun t => ?_)).trans ?_) | (refine (still_foldl _ _ _ (fun t x => ?_)).trans ?_) | (rename_i h; refine (congrArg (fun x => State.still (Prod.fst x)) h).symm.trans ?_; simp only [still_State_modSg, still_when, still_State_msNext, still_State_emit, still_State_flow, still_State_lineHere, still_State_setAcc, apply_ite State.still, apply_ite Prod.fst, ite_self, implies_true, eq_self, still_foldl, still_each, still_when, still_State_emit, still_State_used]; done) | intro x)

theorem still_execMsWriteAck (a1) (a2) (a3) (s : State) : ∀ t, execMsWriteAck a1 a2 a3 s = .next t → t.still = s.still := by
  intro t h; unfold execMsWriteAck at h
  rcases h
  repeat' (first | with_reducible rfl | (simp only [still_State_msNext, still_State_modSg, still_State_mnNoData, apply_ite State.still, apply_ite Prod.fst, ite_self, implies_true, eq_self, still_foldl, still_each, still_when, still_State_emit, still_State_used]; done) | (simp only [still_State_msNext, still_State_modSg, still_State_mnNoData, apply_ite State.still, apply_ite Prod.fst, ite_self, implies_true, eq_self, still_foldl, still_each, still_when, still_State_emit, still_State_used]) | split | (refine (still_each _ _ _ (fun x t => ?_)).trans ?_) | (refine (still_when _ _ _ (fun t => ?_)).trans ?_) | (refine (still_foldl _ _ _ (fun t x => ?_)).trans ?_) | (rename_i h; refine (congrArg (fun x => State.still (Prod.fst x)) h).symm.trans ?_; simp only [still_State_msNext, still_State_modSg, still_State_mnNoData, apply_ite State.still, apply_ite Prod.fst, ite_self, implies_true, eq_self, still_foldl, still_each, still_when, still_State_emit, still_State_used]; done) | intro x)

theorem still_execAccessVerifyDone (a1) (s : State) : ∀ t, execAccessVerifyDone a1 s = .next t → t.still = s.still := by
  intro t h; unfold execAccessVerifyDone at h
  rcases h
  repeat' (first | with_reducible rfl | (simp only [still_State_verify, still_State_flow, apply_ite State.still, apply_ite Prod.fst, ite_self, implies_true, eq_self, still_foldl, still_each, still_when, still_State_emit, still_State_used]; done) | (simp only [still_State_verify, still_State_flow, apply_ite State.still, apply_ite Prod.fst, ite_self, implies_true, eq_self, still_foldl, still_each, still_when, still_State_emit, still_State_used]) | split | (refine (still_each _ _ _ (fun x t => ?_)).trans ?_) | (refine (still_when _ _ _ (fun t => ?_)).trans ?_) | (refine (still_foldl _ _ _ (fun t x => ?_)).trans ?_) | (rename_i h; refine (congrArg (fun x => State.still (Prod.fst x)) h).symm.trans ?_; simp only [still_State_verify, still_State_flow, apply_ite State.still, apply_ite Prod.fst, ite_self, implies_true, eq_self, still_foldl, still_each, still_when, still_State_emit, still_State_used]; done) | intro x)

theorem still_execSectorLockGrant (a1) (s : State) : ∀ t, execSectorLockGrant a1 s = .next t → t.still = s.still := by
  intro t h; unfold execSectorLockGrant at h
  rcases h
  repeat' (first | with_reducible rfl | (simp only [still_State_flow, still_State_issue, still_State_used, still_State_cntr, apply_ite State.still, apply_ite Prod.fst, ite_self, implies_true, eq_self, still_foldl, still_each, still_when, still_State_emit, still_State_used]; done) | (simp only [still_State_flow, still_State_issue, still_State_used, still_State_cntr, apply_ite State.still, apply_ite Prod.fst, ite_self, implies_true, eq_self, still_foldl, still_each, still_when, still_State_emit, still_State_used]) | split | (refine (still_each _ _ _ (fun x t => ?_)).trans ?_) | (refine (still_when _ _ _ (fun t => ?_)).trans ?_) | (refine (still_foldl _ _ _ (fun t x => ?_)).trans ?_) | (rename_i h; refine (congrArg (fun x => State.still (Prod.fst x)) h).symm.trans ?_; simp only [still_State_flow, still_State_issue, still_State_used, still_State_cntr, apply_ite State.still, apply_ite Prod.fst, ite_self, implies_true, eq_self, still_foldl, still_each, still_when, still_State_emit, still_State_used]; done) | intro x)

theorem still_execDerivationDone (a1) (a2) (a3) (a4) (s : State) : ∀ t, execDerivationDone a1 a2 a3 a4 s = .next t → t.still = s.still := by
  intro t h; unfold execDerivationDone at h
  rcases h
  repeat' (first | with_reducible rfl | (simp only [still_State_eccRead, still_State_modKey, still_State_flow, still_State_insertKey, apply_ite State.still, apply_ite Prod.fst, ite_self, implies_true, eq_self, still_foldl, still_each, still_when, still_State_emit, still_State_used]; done) | (simp only [still_State_eccRead, still_State_modKey, still_State_flow, still_State_insertKey, apply_ite State.still, apply_ite Prod.fst, ite_self, implies_true, eq_self, still_foldl, still_each, still_when, still_State_emit, still_State_used]) | split | (refine (still_each _ _ _ (fun x t => ?_)).trans ?_) | (refine (still_when _ _ _ (fun t => ?_)).trans ?_) | (refine (still_foldl _ _ _ (fun t x => ?_)).trans ?_) | (rename_i h; refine (congrArg (fun x => State.still (Prod.fst x)) h).symm.trans ?_; simp only [still_State_eccRead, still_State_modKey, still_State_flow, still_State_insertKey, apply_ite State.still, apply_ite Prod.fst, ite_self, implies_true, eq_self, still_foldl, still_each, still_when, still_State_emit, still_State_used]; done) | (refine (still_State_eccRead _ _ _ _ (fun t => ?_)).trans ?_) | intro x)

theorem still_execMetadataWriteBack (a1) (s : State) : ∀ t, execMetadataWriteBack a1 s = .next t → t.still = s.still := by
  intro t h; unfold execMetadataWriteBack at h
  rcases h
  repeat' (first | with_reducible rfl | (simp only [still_State_modSg, still_State_sendLine, still_State_useRegion, still_State_walkFrom, still_State_needLine, still_State_flow, still_State_wiltRegion, still_State_breach, still_each, still_State_modLine, still_State_backNode, apply_ite State.still, apply_ite Prod.fst, ite_self, implies_true, eq_self, still_foldl, still_each, still_when, still_State_emit, still_State_used]; done) | (simp only [still_State_modSg, still_State_sendLine, still_State_useRegion, still_State_walkFrom, still_State_needLine, still_State_flow, still_State_wiltRegion, still_State_breach, still_each, still_State_modLine, still_State_backNode, apply_ite State.still, apply_ite Prod.fst, ite_self, implies_true, eq_self, still_foldl, still_each, still_when, still_State_emit, still_State_used]) | split | (refine (still_each _ _ _ (fun x t => ?_)).trans ?_) | (refine (still_when _ _ _ (fun t => ?_)).trans ?_) | (refine (still_foldl _ _ _ (fun t x => ?_)).trans ?_) | (rename_i h; refine (congrArg (fun x => State.still (Prod.fst x)) h).symm.trans ?_; simp only [still_State_modSg, still_State_sendLine, still_State_useRegion, still_State_walkFrom, still_State_needLine, still_State_flow, still_State_wiltRegion, still_State_breach, still_each, still_State_modLine, still_State_backNode, apply_ite State.still, apply_ite Prod.fst, ite_self, implies_true, eq_self, still_foldl, still_each, still_when, still_State_emit, still_State_used]; done) | intro x)

theorem still_execAnchorPatrol (a1) (a2) (s : State) : ∀ t, execAnchorPatrol a1 a2 s = .next t → t.still = s.still := by
  intro t h; unfold execAnchorPatrol at h
  rcases h
  simp only [still_State_useAnchor, still_State_setAnchor, still_State_flow, still_State_wiltRegion, apply_ite State.still, ite_self, eq_self]

theorem still_execAnchorRestore (a1) (s : State) : ∀ t, execAnchorRestore a1 s = .next t → t.still = s.still := by
  intro t h; unfold execAnchorRestore at h
  rcases h
  repeat' (first | with_reducible rfl | (simp only [still_State_setAnchor, apply_ite State.still, apply_ite Prod.fst, ite_self, implies_true, eq_self, still_foldl, still_each, still_when, still_State_emit, still_State_used]; done) | (simp only [still_State_setAnchor, apply_ite State.still, apply_ite Prod.fst, ite_self, implies_true, eq_self, still_foldl, still_each, still_when, still_State_emit, still_State_used]) | split | (refine (still_each _ _ _ (fun x t => ?_)).trans ?_) | (refine (still_when _ _ _ (fun t => ?_)).trans ?_) | (refine (still_foldl _ _ _ (fun t x => ?_)).trans ?_) | (rename_i h; refine (congrArg (fun x => State.still (Prod.fst x)) h).symm.trans ?_; simp only [still_State_setAnchor, apply_ite State.still, apply_ite Prod.fst, ite_self, implies_true, eq_self, still_foldl, still_each, still_when, still_State_emit, still_State_used]; done) | intro x)

theorem still_execMergeIdleWriteBack (a1) (a2) (a3) (s : State) : ∀ t, execMergeIdleWriteBack a1 a2 a3 s = .next t → t.still = s.still := by
  intro t h; unfold execMergeIdleWriteBack at h
  rcases h
  repeat' (first | with_reducible rfl | (simp only [still_State_flow, still_State_saHalt, still_State_mismatch, still_State_backEntry, apply_ite State.still, apply_ite Prod.fst, ite_self, implies_true, eq_self, still_foldl, still_each, still_when, still_State_emit, still_State_used]; done) | (simp only [still_State_flow, still_State_saHalt, still_State_mismatch, still_State_backEntry, apply_ite State.still, apply_ite Prod.fst, ite_self, implies_true, eq_self, still_foldl, still_each, still_when, still_State_emit, still_State_used]) | split | (refine (still_each _ _ _ (fun x t => ?_)).trans ?_) | (refine (still_when _ _ _ (fun t => ?_)).trans ?_) | (refine (still_foldl _ _ _ (fun t x => ?_)).trans ?_) | (rename_i h; refine (congrArg (fun x => State.still (Prod.fst x)) h).symm.trans ?_; simp only [still_State_flow, still_State_saHalt, still_State_mismatch, still_State_backEntry, apply_ite State.still, apply_ite Prod.fst, ite_self, implies_true, eq_self, still_foldl, still_each, still_when, still_State_emit, still_State_used]; done) | intro x)

theorem still_execSessionSetupStart (a1) (a2) (s : State) : ∀ t, execSessionSetupStart a1 a2 s = .next t → t.still = s.still := by
  intro t h; unfold execSessionSetupStart at h
  rcases h
  simp only [still_State_setup, apply_ite State.still, ite_self, eq_self]

theorem still_execSessionSetupTimeout (a1) (a2) (s : State) : ∀ t, execSessionSetupTimeout a1 a2 s = .next t → t.still = s.still := by
  intro t h; unfold execSessionSetupTimeout at h
  rcases h
  simp only [still_State_setupFails, apply_ite State.still, ite_self, eq_self]

theorem still_execSessionRetryBackoff (a1) (a2) (s : State) : ∀ t, execSessionRetryBackoff a1 a2 s = .next t → t.still = s.still := by
  intro t h; unfold execSessionRetryBackoff at h
  rcases h
  simp only [still_State_modSess, still_State_setup, apply_ite State.still, ite_self, eq_self]

theorem still_execOpenRx (a1) (a2) (s : State) : ∀ t, execOpenRx a1 a2 s = .next t → t.still = s.still := by
  intro t h; unfold execOpenRx at h
  rcases h
  simp only [still_State_rx, still_State_applyOpen, implies_true, eq_self]

theorem still_execCloseRx (a1) (a2) (a3) (s : State) : ∀ t, execCloseRx a1 a2 a3 s = .next t → t.still = s.still := by
  intro t h; unfold execCloseRx at h
  rcases h
  simp only [still_State_rx, still_State_applyClose, implies_true, eq_self]

theorem still_execClosingTimeout (a1) (a2) (s : State) : ∀ t, execClosingTimeout a1 a2 s = .next t → t.still = s.still := by
  intro t h; unfold execClosingTimeout at h
  rcases h
  simp only [still_State_sessDown, apply_ite State.still, ite_self, eq_self]

theorem still_execLnkEnable (a1) (a2) (s : State) : ∀ t, execLnkEnable a1 a2 s = .next t → t.still = s.still := by
  intro t h; unfold execLnkEnable at h
  rcases h
  simp only [still_State_ctlWrite, still_State_lnkWrite, implies_true, eq_self]

theorem still_execLnkDisable (a1) (a2) (s : State) : ∀ t, execLnkDisable a1 a2 s = .next t → t.still = s.still := by
  intro t h; unfold execLnkDisable at h
  rcases h
  simp only [still_State_ctlWrite, still_State_lnkWrite, implies_true, eq_self]

theorem still_execFpLinkUpRise (a1) (s : State) : ∀ t, execFpLinkUpRise a1 s = .next t → t.still = s.still := by
  intro t h; unfold execFpLinkUpRise at h
  rcases h
  simp only [still_State_modPins, still_State_setup, apply_ite State.still, ite_self, eq_self]

theorem still_execFpLinkUpFall (a1) (s : State) : ∀ t, execFpLinkUpFall a1 s = .next t → t.still = s.still := by
  intro t h; unfold execFpLinkUpFall at h
  rcases h
  simp only [still_State_sessDown, still_State_modPins, still_State_modPort, still_each, still_State_modSess, apply_ite State.still, ite_self, implies_true, eq_self, still_each]

theorem still_execKeepaliveTx (a1) (a2) (s : State) : ∀ t, execKeepaliveTx a1 a2 s = .next t → t.still = s.still := by
  intro t h; unfold execKeepaliveTx at h
  rcases h
  simp only [still_State_enqueue, apply_ite State.still, ite_self, eq_self]

theorem still_execKeepaliveRx (a1) (a2) (a3) (s : State) : ∀ t, execKeepaliveRx a1 a2 a3 s = .next t → t.still = s.still := by
  intro t h; unfold execKeepaliveRx at h
  rcases h
  simp only [still_State_rx, implies_true, eq_self]

theorem still_execKeepaliveTimeout (a1) (a2) (s : State) : ∀ t, execKeepaliveTimeout a1 a2 s = .next t → t.still = s.still := by
  intro t h; unfold execKeepaliveTimeout at h
  rcases h
  simp only [still_each, still_State_modSess, still_State_sessDown, still_State_raiseLost, apply_ite State.still, ite_self, implies_true, eq_self, still_each]

theorem still_execMemberLostNoticeRx (a1) (a2) (a3) (a4) (s : State) : ∀ t, execMemberLostNoticeRx a1 a2 a3 a4 s = .next t → t.still = s.still := by
  intro t h; unfold execMemberLostNoticeRx at h
  rcases h
  simp only [still_State_rx, still_State_applyLost, implies_true, eq_self]

theorem still_execDomainFenceSignalRx (a1) (a2) (a3) (a4) (a5) (a6) (a7) (a8) (s : State) : ∀ t, execDomainFenceSignalRx a1 a2 a3 a4 a5 a6 a7 a8 s = .next t → t.still = s.still := by
  intro t h; unfold execDomainFenceSignalRx at h
  rcases h
  simp only [still_State_rx, still_State_applyFence, implies_true, eq_self]

theorem still_execFrameRxDiscard (a1) (a2) (s : State) : ∀ t, execFrameRxDiscard a1 a2 s = .next t → t.still = s.still := by
  intro t h; unfold execFrameRxDiscard at h
  rcases h
  repeat' (first | with_reducible rfl | (simp only [still_State_rxAccept, still_State_ptpIgnore, apply_ite State.still, apply_ite Prod.fst, ite_self, implies_true, eq_self, still_foldl, still_each, still_when, still_State_emit, still_State_used]; done) | (simp only [still_State_rxAccept, still_State_ptpIgnore, apply_ite State.still, apply_ite Prod.fst, ite_self, implies_true, eq_self, still_foldl, still_each, still_when, still_State_emit, still_State_used]) | split | (refine (still_each _ _ _ (fun x t => ?_)).trans ?_) | (refine (still_when _ _ _ (fun t => ?_)).trans ?_) | (refine (still_foldl _ _ _ (fun t x => ?_)).trans ?_) | (rename_i h; refine (congrArg (fun x => State.still (Prod.fst x)) h).symm.trans ?_; simp only [still_State_rxAccept, still_State_ptpIgnore, apply_ite State.still, apply_ite Prod.fst, ite_self, implies_true, eq_self, still_foldl, still_each, still_when, still_State_emit, still_State_used]; done) | intro x)

theorem still_execFlowEntryTimeout (a1) (a2) (s : State) : ∀ t, execFlowEntryTimeout a1 a2 s = .next t → t.still = s.still := by
  intro t h; unfold execFlowEntryTimeout at h
  rcases h
  simp only [still_State_flowLess, eq_self]

theorem still_execFlowEntryGrant (a1) (s : State) : ∀ t, execFlowEntryGrant a1 s = .next t → t.still = s.still := by
  intro t h; unfold execFlowEntryGrant at h
  rcases h
  simp only [still_State_modPort, apply_ite State.still, ite_self, eq_self]

theorem still_execFrameSeal (a1) (s : State) : ∀ t, execFrameSeal a1 s = .next t → t.still = s.still := by
  intro t h; unfold execFrameSeal at h
  rcases h
  repeat' (first | with_reducible rfl | (simp only [still_State_refill, still_State_sealPick, apply_ite State.still, apply_ite Prod.fst, ite_self, implies_true, eq_self, still_foldl, still_each, still_when, still_State_emit, still_State_used]; done) | (simp only [still_State_refill, still_State_sealPick, apply_ite State.still, apply_ite Prod.fst, ite_self, implies_true, eq_self, still_foldl, still_each, still_when, still_State_emit, still_State_used]) | split | (refine (still_each _ _ _ (fun x t => ?_)).trans ?_) | (refine (still_when _ _ _ (fun t => ?_)).trans ?_) | (refine (still_foldl _ _ _ (fun t x => ?_)).trans ?_) | (rename_i h; refine (congrArg (fun x => State.still (Prod.fst x)) h).symm.trans ?_; simp only [still_State_refill, still_State_sealPick, apply_ite State.still, apply_ite Prod.fst, ite_self, implies_true, eq_self, still_foldl, still_each, still_when, still_State_emit, still_State_used]; done) | intro x)

theorem still_execCoverSlot (a1) (s : State) : ∀ t, execCoverSlot a1 s = .next t → t.still = s.still := by
  intro t h; unfold execCoverSlot at h
  rcases h
  repeat' (first | with_reducible rfl | (simp only [still_State_refill, still_State_sealPick, still_State_glob, still_State_sealFrame, still_State_modPort, apply_ite State.still, apply_ite Prod.fst, ite_self, implies_true, eq_self, still_foldl, still_each, still_when, still_State_emit, still_State_used]; done) | (simp only [still_State_refill, still_State_sealPick, still_State_glob, still_State_sealFrame, still_State_modPort, apply_ite State.still, apply_ite Prod.fst, ite_self, implies_true, eq_self, still_foldl, still_each, still_when, still_State_emit, still_State_used]) | split | (refine (still_each _ _ _ (fun x t => ?_)).trans ?_) | (refine (still_when _ _ _ (fun t => ?_)).trans ?_) | (refine (still_foldl _ _ _ (fun t x => ?_)).trans ?_) | (rename_i h; refine (congrArg (fun x => State.still (Prod.fst x)) h).symm.trans ?_; simp only [still_State_refill, still_State_sealPick, still_State_glob, still_State_sealFrame, still_State_modPort, apply_ite State.still, apply_ite Prod.fst, ite_self, implies_true, eq_self, still_foldl, still_each, still_when, still_State_emit, still_State_used]; done) | intro x)

theorem still_execTxStall (a1) (s : State) : ∀ t, execTxStall a1 s = .next t → t.still = s.still := by
  intro t h; unfold execTxStall at h
  rcases h
  simp only [still_State_flag, still_State_modPort, apply_ite State.still, ite_self, eq_self]

theorem still_execFrameEnqueue (a1) (a2) (s : State) : ∀ t, execFrameEnqueue a1 a2 s = .next t → t.still = s.still := by
  intro t h; unfold execFrameEnqueue at h
  rcases h
  simp only [still_State_enqueue, apply_ite State.still, ite_self, eq_self]

theorem still_execEpochCountLimit (a1) (a2) (s : State) : ∀ t, execEpochCountLimit a1 a2 s = .next t → t.still = s.still := by
  intro t h; unfold execEpochCountLimit at h
  rcases h
  simp only [still_State_epochChange, apply_ite State.still, ite_self, eq_self]

theorem still_execEpochChangeDeferred (a1) (a2) (s : State) : ∀ t, execEpochChangeDeferred a1 a2 s = .next t → t.still = s.still := by
  intro t h; unfold execEpochChangeDeferred at h
  rcases h
  simp only [still_State_epochMove, apply_ite State.still, ite_self, eq_self]

theorem still_execRxEpochRetire (a1) (a2) (s : State) : ∀ t, execRxEpochRetire a1 a2 s = .next t → t.still = s.still := by
  intro t h; unfold execRxEpochRetire at h
  rcases h
  simp only [still_State_nextSecret, still_State_modSess, apply_ite State.still, ite_self, eq_self]

theorem still_execFrameRoute (a1) (a2) (a3) (s : State) : ∀ t, execFrameRoute a1 a2 a3 s = .next t → t.still = s.still := by
  intro t h; unfold execFrameRoute at h
  rcases h
  simp only [still_State_rx, still_State_applyRoute, apply_ite State.still, ite_self, implies_true, eq_self]

theorem still_execRatomic (a1) (a2) (a3) (a4) (a5) (a6) (a7) (a8) (a9) (s : State) : ∀ t, execRatomic a1 a2 a3 a4 a5 a6 a7 a8 a9 s = .next t → t.still = s.still := by
  intro t h; unfold execRatomic at h
  rcases h
  simp only [still_State_admitWith, still_State_cntr, still_State_newOp, still_State_takeTxid, implies_true, eq_self]

theorem still_execRaccum (a1) (a2) (a3) (a4) (a5) (a6) (a7) (a8) (a9) (a10) (a11) (a12) (s : State) : ∀ t, execRaccum a1 a2 a3 a4 a5 a6 a7 a8 a9 a10 a11 a12 s = .next t → t.still = s.still := by
  intro t h; unfold execRaccum at h
  rcases h
  simp only [still_State_admitWith, still_State_srcRead, still_State_cntr, still_State_newOp, still_State_takeTxid, still_State_endsWith, apply_ite State.still, ite_self, implies_true, eq_self]

theorem still_execOutcomeQuery (a1) (a2) (a3) (a4) (s : State) : ∀ t, execOutcomeQuery a1 a2 a3 a4 s = .next t → t.still = s.still := by
  intro t h; unfold execOutcomeQuery at h
  rcases h
  simp only [still_State_admitCmd, still_State_newOp, implies_true, eq_self]

theorem still_execRatomicRetry (a1) (a2) (s : State) : ∀ t, execRatomicRetry a1 a2 s = .next t → t.still = s.still := by
  intro t h; unfold execRatomicRetry at h
  rcases h
  repeat' (first | with_reducible rfl | (simp only [still_State_sendOp, apply_ite State.still, apply_ite Prod.fst, ite_self, implies_true, eq_self, still_foldl, still_each, still_when, still_State_emit, still_State_used]; done) | (simp only [still_State_sendOp, apply_ite State.still, apply_ite Prod.fst, ite_self, implies_true, eq_self, still_foldl, still_each, still_when, still_State_emit, still_State_used]) | split | (refine (still_each _ _ _ (fun x t => ?_)).trans ?_) | (refine (still_when _ _ _ (fun t => ?_)).trans ?_) | (refine (still_foldl _ _ _ (fun t x => ?_)).trans ?_) | (rename_i h; refine (congrArg (fun x => State.still (Prod.fst x)) h).symm.trans ?_; simp only [still_State_sendOp, apply_ite State.still, apply_ite Prod.fst, ite_self, implies_true, eq_self, still_foldl, still_each, still_when, still_State_emit, still_State_used]; done) | intro x)

theorem still_execRatomicDeadline (a1) (a2) (s : State) : ∀ t, execRatomicDeadline a1 a2 s = .next t → t.still = s.still := by
  intro t h; unfold execRatomicDeadline at h
  rcases h
  repeat' (first | with_reducible rfl | (simp only [still_State_keepPast, still_State_finishOp, apply_ite State.still, apply_ite Prod.fst, ite_self, implies_true, eq_self, still_foldl, still_each, still_when, still_State_emit, still_State_used]; done) | (simp only [still_State_keepPast, still_State_finishOp, apply_ite State.still, apply_ite Prod.fst, ite_self, implies_true, eq_self, still_foldl, still_each, still_when, still_State_emit, still_State_used]) | split | (refine (still_each _ _ _ (fun x t => ?_)).trans ?_) | (refine (still_when _ _ _ (fun t => ?_)).trans ?_) | (refine (still_foldl _ _ _ (fun t x => ?_)).trans ?_) | (rename_i h; refine (congrArg (fun x => State.still (Prod.fst x)) h).symm.trans ?_; simp only [still_State_keepPast, still_State_finishOp, apply_ite State.still, apply_ite Prod.fst, ite_self, implies_true, eq_self, still_foldl, still_each, still_when, still_State_emit, still_State_used]; done) | intro x)

theorem still_execOutcomeQueryResend (a1) (a2) (s : State) : ∀ t, execOutcomeQueryResend a1 a2 s = .next t → t.still = s.still := by
  intro t h; unfold execOutcomeQueryResend at h
  rcases h
  repeat' (first | with_reducible rfl | (simp only [still_State_keepPast, still_State_finishOp, still_State_sendOp, still_State_modRem, apply_ite State.still, apply_ite Prod.fst, ite_self, implies_true, eq_self, still_foldl, still_each, still_when, still_State_emit, still_State_used]; done) | (simp only [still_State_keepPast, still_State_finishOp, still_State_sendOp, still_State_modRem, apply_ite State.still, apply_ite Prod.fst, ite_self, implies_true, eq_self, still_foldl, still_each, still_when, still_State_emit, still_State_used]) | split | (refine (still_each _ _ _ (fun x t => ?_)).trans ?_) | (refine (still_when _ _ _ (fun t => ?_)).trans ?_) | (refine (still_foldl _ _ _ (fun t x => ?_)).trans ?_) | (rename_i h; refine (congrArg (fun x => State.still (Prod.fst x)) h).symm.trans ?_; simp only [still_State_keepPast, still_State_finishOp, still_State_sendOp, still_State_modRem, apply_ite State.still, apply_ite Prod.fst, ite_self, implies_true, eq_self, still_foldl, still_each, still_when, still_State_emit, still_State_used]; done) | intro x)

theorem still_execRatomicReplyRx (a1) (a2) (s : State) : ∀ t, execRatomicReplyRx a1 a2 s = .next t → t.still = s.still := by
  intro t h; unfold execRatomicReplyRx at h
  rcases h
  repeat' (first | with_reducible rfl | (simp only [still_State_rx, still_State_unlessBreach, still_State_applyReply, apply_ite State.still, apply_ite Prod.fst, ite_self, implies_true, eq_self, still_foldl, still_each, still_when, still_State_emit, still_State_used]; done) | (simp only [still_State_rx, still_State_unlessBreach, still_State_applyReply, apply_ite State.still, apply_ite Prod.fst, ite_self, implies_true, eq_self, still_foldl, still_each, still_when, still_State_emit, still_State_used]) | split | (refine (still_each _ _ _ (fun x t => ?_)).trans ?_) | (refine (still_when _ _ _ (fun t => ?_)).trans ?_) | (refine (still_foldl _ _ _ (fun t x => ?_)).trans ?_) | (rename_i h; refine (congrArg (fun x => State.still (Prod.fst x)) h).symm.trans ?_; simp only [still_State_rx, still_State_unlessBreach, still_State_applyReply, apply_ite State.still, apply_ite Prod.fst, ite_self, implies_true, eq_self, still_foldl, still_each, still_when, still_State_emit, still_State_used]; done) | (refine (still_State_rx _ _ _ _ _ (fun y0 t => ?_)).trans ?_) | (refine (still_State_unlessBreach _ _ _ _ (fun t => ?_)).trans ?_) | intro x)

theorem still_execRatomicRequestRx (a1) (a2) (a3) (s : State) : ∀ t, execRatomicRequestRx a1 a2 a3 s = .next t → t.still = s.still := by
  intro t h; unfold execRatomicRequestRx at h
  rcases h
  simp only [still_State_rx, still_State_applyAtomic, implies_true, eq_self]

theorem still_execOutcomeQueryRx (a1) (a2) (s : State) : ∀ t, execOutcomeQueryRx a1 a2 s = .next t → t.still = s.still := by
  intro t h; unfold execOutcomeQueryRx at h
  rcases h
  simp only [still_State_rx, still_State_applyQuery, implies_true, eq_self]

theorem still_execMemoEntryExpire (a1) (a2) (a3) (s : State) : ∀ t, execMemoEntryExpire a1 a2 a3 s = .next t → t.still = s.still := by
  intro t h; unfold execMemoEntryExpire at h
  rcases h
  simp only [still_State_modRem, apply_ite State.still, ite_self, eq_self]

theorem still_execRemoteRwRequestRx (a1) (a2) (s : State) : ∀ t, execRemoteRwRequestRx a1 a2 s = .next t → t.still = s.still := by
  intro t h; unfold execRemoteRwRequestRx at h
  rcases h
  simp only [still_State_rx, still_State_applyRw, implies_true, eq_self]

theorem still_execReduceContrib (a1) (a2) (a3) (a4) (a5) (a6) (a7) (a8) (a9) (s : State) : ∀ t, execReduceContrib a1 a2 a3 a4 a5 a6 a7 a8 a9 s = .next t → t.still = s.still := by
  intro t h; unfold execReduceContrib at h
  rcases h
  simp only [still_State_admitWith, still_State_srcRead, still_State_traceContrib, still_State_sendContrib, still_State_modRem, still_State_endsWith, apply_ite State.still, ite_self, implies_true, eq_self]

theorem still_execContributionResend (a1) (a2) (a3) (a4) (s : State) : ∀ t, execContributionResend a1 a2 a3 a4 s = .next t → t.still = s.still := by
  intro t h; unfold execContributionResend at h
  rcases h
  repeat' (first | with_reducible rfl | (simp only [still_State_sendContrib, apply_ite State.still, apply_ite Prod.fst, ite_self, implies_true, eq_self, still_foldl, still_each, still_when, still_State_emit, still_State_used]; done) | (simp only [still_State_sendContrib, apply_ite State.still, apply_ite Prod.fst, ite_self, implies_true, eq_self, still_foldl, still_each, still_when, still_State_emit, still_State_used]) | split | (refine (still_each _ _ _ (fun x t => ?_)).trans ?_) | (refine (still_when _ _ _ (fun t => ?_)).trans ?_) | (refine (still_foldl _ _ _ (fun t x => ?_)).trans ?_) | (rename_i h; refine (congrArg (fun x => State.still (Prod.fst x)) h).symm.trans ?_; simp only [still_State_sendContrib, apply_ite State.still, apply_ite Prod.fst, ite_self, implies_true, eq_self, still_foldl, still_each, still_when, still_State_emit, still_State_used]; done) | intro x)

theorem still_execContributionAckRx (a1) (a2) (a3) (s : State) : ∀ t, execContributionAckRx a1 a2 a3 s = .next t → t.still = s.still := by
  intro t h; unfold execContributionAckRx at h
  rcases h
  simp only [still_State_rx, still_State_unlessBreach, still_State_applyAck, implies_true, eq_self]

theorem still_execContributionRx (a1) (a2) (a3) (a4) (a5) (s : State) : ∀ t, execContributionRx a1 a2 a3 a4 a5 s = .next t → t.still = s.still := by
  intro t h; unfold execContributionRx at h
  rcases h
  simp only [still_State_rx, still_State_applyContrib, implies_true, eq_self]

theorem still_execReductionTimeout (a1) (a2) (s : State) : ∀ t, execReductionTimeout a1 a2 s = .next t → t.still = s.still := by
  intro t h; unfold execReductionTimeout at h
  rcases h
  repeat' (first | with_reducible rfl | (simp only [still_State_endReduction, apply_ite State.still, apply_ite Prod.fst, ite_self, implies_true, eq_self, still_foldl, still_each, still_when, still_State_emit, still_State_used]; done) | (simp only [still_State_endReduction, apply_ite State.still, apply_ite Prod.fst, ite_self, implies_true, eq_self, still_foldl, still_each, still_when, still_State_emit, still_State_used]) | split | (refine (still_each _ _ _ (fun x t => ?_)).trans ?_) | (refine (still_when _ _ _ (fun t => ?_)).trans ?_) | (refine (still_foldl _ _ _ (fun t x => ?_)).trans ?_) | (rename_i h; refine (congrArg (fun x => State.still (Prod.fst x)) h).symm.trans ?_; simp only [still_State_endReduction, apply_ite State.still, apply_ite Prod.fst, ite_self, implies_true, eq_self, still_foldl, still_each, still_when, still_State_emit, still_State_used]; done) | intro x)

theorem still_execResultAckRx (a1) (a2) (a3) (a4) (s : State) : ∀ t, execResultAckRx a1 a2 a3 a4 s = .next t → t.still = s.still := by
  intro t h; unfold execResultAckRx at h
  rcases h
  simp only [still_State_rx, still_State_unlessBreach, still_State_applyResultAck, implies_true, eq_self]

theorem still_execResultChunkResend (a1) (a2) (a3) (s : State) : ∀ t, execResultChunkResend a1 a2 a3 s = .next t → t.still = s.still := by
  intro t h; unfold execResultChunkResend at h
  rcases h
  repeat' (first | with_reducible rfl | (simp only [still_each, still_State_sendTo, apply_ite State.still, apply_ite Prod.fst, ite_self, implies_true, eq_self, still_foldl, still_each, still_when, still_State_emit, still_State_used]; done) | (simp only [still_each, still_State_sendTo, apply_ite State.still, apply_ite Prod.fst, ite_self, implies_true, eq_self, still_foldl, still_each, still_when, still_State_emit, still_State_used]) | split | (refine (still_each _ _ _ (fun x t => ?_)).trans ?_) | (refine (still_when _ _ _ (fun t => ?_)).trans ?_) | (refine (still_foldl _ _ _ (fun t x => ?_)).trans ?_) | (rename_i h; refine (congrArg (fun x => State.still (Prod.fst x)) h).symm.trans ?_; simp only [still_each, still_State_sendTo, apply_ite State.still, apply_ite Prod.fst, ite_self, implies_true, eq_self, still_foldl, still_each, still_when, still_State_emit, still_State_used]; done) | intro x)

theorem still_execResultChunkGiveUp (a1) (a2) (a3) (s : State) : ∀ t, execResultChunkGiveUp a1 a2 a3 s = .next t → t.still = s.still := by
  intro t h; unfold execResultChunkGiveUp at h
  rcases h
  repeat' (first | with_reducible rfl | (simp only [still_State_putReduction, still_State_press, still_State_modRem, apply_ite State.still, apply_ite Prod.fst, ite_self, implies_true, eq_self, still_foldl, still_each, still_when, still_State_emit, still_State_used]; done) | (simp only [still_State_putReduction, still_State_press, still_State_modRem, apply_ite State.still, apply_ite Prod.fst, ite_self, implies_true, eq_self, still_foldl, still_each, still_when, still_State_emit, still_State_used]) | split | (refine (still_each _ _ _ (fun x t => ?_)).trans ?_) | (refine (still_when _ _ _ (fun t => ?_)).trans ?_) | (refine (still_foldl _ _ _ (fun t x => ?_)).trans ?_) | (rename_i h; refine (congrArg (fun x => State.still (Prod.fst x)) h).symm.trans ?_; simp only [still_State_putReduction, still_State_press, still_State_modRem, apply_ite State.still, apply_ite Prod.fst, ite_self, implies_true, eq_self, still_foldl, still_each, still_when, still_State_emit, still_State_used]; done) | intro x)

theorem still_execResultChunkRx (a1) (a2) (a3) (a4) (a5) (a6) (s : State) : ∀ t, execResultChunkRx a1 a2 a3 a4 a5 a6 s = .next t → t.still = s.still := by
  intro t h; unfold execResultChunkRx at h
  rcases h
  simp only [still_State_rx, still_State_unlessBreach, still_State_applyResult, implies_true, eq_self]

theorem still_execResultLedgerExpire (a1) (a2) (a3) (a4) (s : State) : ∀ t, execResultLedgerExpire a1 a2 a3 a4 s = .next t → t.still = s.still := by
  intro t h; unfold execResultLedgerExpire at h
  rcases h
  simp only [still_State_modRem, apply_ite State.still, ite_self, eq_self]

theorem still_execDtEnable (a1) (a2) (a3) (s : State) : ∀ t, execDtEnable a1 a2 a3 s = .next t → t.still = s.still := by
  intro t h; unfold execDtEnable at h
  rcases h
  simp only [still_State_ctlWrite, still_State_dtCtrl, implies_true, eq_self]

theorem still_execDtDisable (a1) (s : State) : ∀ t, execDtDisable a1 s = .next t → t.still = s.still := by
  intro t h; unfold execDtDisable at h
  rcases h
  simp only [still_State_ctlWrite, still_State_dtCtrl, implies_true, eq_self]

theorem still_execSyncTimeout (s : State) : ∀ t, execSyncTimeout s = .next t → t.still = s.still := by
  intro t h; unfold execSyncTimeout at h
  rcases h
  simp only [still_State_dtTo, apply_ite State.still, ite_self, eq_self]

theorem still_execHoldoverLimitExpire (s : State) : ∀ t, execHoldoverLimitExpire s = .next t → t.still = s.still := by
  intro t h; unfold execHoldoverLimitExpire at h
  rcases h
  simp only [still_State_dtTo, apply_ite State.still, ite_self, eq_self]

theorem still_execHoldoverBoundExpire (s : State) : ∀ t, execHoldoverBoundExpire s = .next t → t.still = s.still := by
  intro t h; unfold execHoldoverBoundExpire at h
  rcases h
  simp only [still_State_modDt, apply_ite State.still, ite_self, eq_self]

theorem still_execBackupGmTakeover (s : State) : ∀ t, execBackupGmTakeover s = .next t → t.still = s.still := by
  intro t h; unfold execBackupGmTakeover at h
  rcases h
  simp only [still_State_modDt, apply_ite State.still, ite_self, eq_self]

theorem still_execSyncInterval (s : State) : ∀ t, execSyncInterval s = .next t → t.still = s.still := by
  intro t h; unfold execSyncInterval at h
  rcases h
  simp only [still_each, still_State_ptpNext, still_State_ptpSend, implies_true, eq_self, still_each]

theorem still_execPdelayReqInterval (s : State) : ∀ t, execPdelayReqInterval s = .next t → t.still = s.still := by
  intro t h; unfold execPdelayReqInterval at h
  rcases h
  simp only [still_each, still_State_ptpNext, still_State_modPtp, still_State_ptpSend, implies_true, eq_self, still_each]

theorem still_execAnnounceInterval (s : State) : ∀ t, execAnnounceInterval s = .next t → t.still = s.still := by
  intro t h; unfold execAnnounceInterval at h
  rcases h
  simp only [still_each, still_State_ptpNext, still_State_ptpSend, implies_true, eq_self, still_each]

theorem still_execTxTimestampReturn (a1) (a2) (s : State) : ∀ t, execTxTimestampReturn a1 a2 s = .next t → t.still = s.still := by
  intro t h; unfold execTxTimestampReturn at h
  rcases h
  repeat' (first | with_reducible rfl | (simp only [still_State_modPtp, still_State_ptpSend, apply_ite State.still, apply_ite Prod.fst, ite_self, implies_true, eq_self, still_foldl, still_each, still_when, still_State_emit, still_State_used]; done) | (simp only [still_State_modPtp, still_State_ptpSend, apply_ite State.still, apply_ite Prod.fst, ite_self, implies_true, eq_self, still_foldl, still_each, still_when, still_State_emit, still_State_used]) | split | (refine (still_each _ _ _ (fun x t => ?_)).trans ?_) | (refine (still_when _ _ _ (fun t => ?_)).trans ?_) | (refine (still_foldl _ _ _ (fun t x => ?_)).trans ?_) | (rename_i h; refine (congrArg (fun x => State.still (Prod.fst x)) h).symm.trans ?_; simp only [still_State_modPtp, still_State_ptpSend, apply_ite State.still, apply_ite Prod.fst, ite_self, implies_true, eq_self, still_foldl, still_each, still_when, still_State_emit, still_State_used]; done) | intro x)

theorem still_execTxTimestampTimeout (a1) (s : State) : ∀ t, execTxTimestampTimeout a1 s = .next t → t.still = s.still := by
  intro t h; unfold execTxTimestampTimeout at h
  rcases h
  repeat' (first | with_reducible rfl | (simp only [still_State_modDt, still_State_modPtp, apply_ite State.still, apply_ite Prod.fst, ite_self, implies_true, eq_self, still_foldl, still_each, still_when, still_State_emit, still_State_used]; done) | (simp only [still_State_modDt, still_State_modPtp, apply_ite State.still, apply_ite Prod.fst, ite_self, implies_true, eq_self, still_foldl, still_each, still_when, still_State_emit, still_State_used]) | split | (refine (still_each _ _ _ (fun x t => ?_)).trans ?_) | (refine (still_when _ _ _ (fun t => ?_)).trans ?_) | (refine (still_foldl _ _ _ (fun t x => ?_)).trans ?_) | (rename_i h; refine (congrArg (fun x => State.still (Prod.fst x)) h).symm.trans ?_; simp only [still_State_modDt, still_State_modPtp, apply_ite State.still, apply_ite Prod.fst, ite_self, implies_true, eq_self, still_foldl, still_each, still_when, still_State_emit, still_State_used]; done) | intro x)

theorem still_execPtpMessage (a1) (a2) (a3) (a4) (a5) (s : State) : ∀ t, execPtpMessage a1 a2 a3 a4 a5 s = .next t → t.still = s.still := by
  intro t h; unfold execPtpMessage at h
  rcases h
  simp only [still_State_rx, still_State_ptpIgnore, still_State_ptpTake, apply_ite State.still, ite_self, implies_true, eq_self]

theorem still_execRngStartupPass (s : State) : ∀ t, execRngStartupPass s = .next t → t.still = s.still := by
  intro t h; unfold execRngStartupPass at h
  rcases h
  simp only [still_State_modKey, apply_ite State.still, ite_self, eq_self]

theorem still_execHealthTestWindow (a1) (s : State) : ∀ t, execHealthTestWindow a1 s = .next t → t.still = s.still := by
  intro t h; unfold execHealthTestWindow at h
  rcases h
  simp only [still_State_modKey, still_State_critical, apply_ite State.still, ite_self, eq_self]

theorem still_execDrbgReseed (s : State) : ∀ t, execDrbgReseed s = .next t → t.still = s.still := by
  intro t h; unfold execDrbgReseed at h
  rcases h
  simp only [still_State_modKey, apply_ite State.still, ite_self, eq_self]

theorem still_execSlotRetireComplete (a1) (a2) (a3) (s : State) : ∀ t, execSlotRetireComplete a1 a2 a3 s = .next t → t.still = s.still := by
  intro t h; unfold execSlotRetireComplete at h
  rcases h
  simp only [still_State_eccRead, still_State_finishRetire, still_State_critical, apply_ite State.still, ite_self, implies_true, eq_self]

theorem still_execSlotRelease (a1) (s : State) : ∀ t, execSlotRelease a1 s = .next t → t.still = s.still := by
  intro t h; unfold execSlotRelease at h
  rcases h
  simp only [still_State_setSlot, apply_ite State.still, ite_self, eq_self]

theorem still_execKeyControlGen (a1) (a2) (a3) (a4) (s : State) : ∀ t, execKeyControlGen a1 a2 a3 a4 s = .next t → t.still = s.still := by
  intro t h; unfold execKeyControlGen at h
  rcases h
  simp only [still_State_admitWith, still_State_newControl, still_State_drawnPr, implies_true, eq_self]

theorem still_execKeyImport (a1) (a2) (a3) (a4) (a5) (s : State) : ∀ t, execKeyImport a1 a2 a3 a4 a5 s = .next t → t.still = s.still := by
  intro t h; unfold execKeyImport at h
  rcases h
  simp only [still_State_admitCmd, still_State_newControl, implies_true, eq_self]

theorem still_execKeyRetire (a1) (a2) (s : State) : ∀ t, execKeyRetire a1 a2 s = .next t → t.still = s.still := by
  intro t h; unfold execKeyRetire at h
  rcases h
  simp only [still_State_admitCmd, still_State_ok, still_State_retire, implies_true, eq_self]

theorem still_execCceOp (a1) (a2) (a3) (a4) (a5) (a6) (a7) (a8) (a9) (s : State) : ∀ t, execCceOp a1 a2 a3 a4 a5 a6 a7 a8 a9 s = .next t → t.still = s.still := by
  intro t h; unfold execCceOp at h
  rcases h
  simp only [still_State_cceTolaro, still_State_admitWith, still_State_modKey, still_when, still_State_drawn, apply_ite State.still, ite_self, implies_true, eq_self, still_when]

theorem still_execCceMessageDone (a1) (a2) (s : State) : ∀ t, execCceMessageDone a1 a2 s = .next t → t.still = s.still := by
  intro t h; unfold execCceMessageDone at h
  rcases h
  repeat' (first | with_reducible rfl | (simp only [still_State_eccRead, still_State_modKey, still_State_endsWith, still_State_okTrailer, still_State_press, still_State_critical, apply_ite State.still, apply_ite Prod.fst, ite_self, implies_true, eq_self, still_foldl, still_each, still_when, still_State_emit, still_State_used]; done) | (simp only [still_State_eccRead, still_State_modKey, still_State_endsWith, still_State_okTrailer, still_State_press, still_State_critical, apply_ite State.still, apply_ite Prod.fst, ite_self, implies_true, eq_self, still_foldl, still_each, still_when, still_State_emit, still_State_used]) | split | (refine (still_each _ _ _ (fun x t => ?_)).trans ?_) | (refine (still_when _ _ _ (fun t => ?_)).trans ?_) | (refine (still_foldl _ _ _ (fun t x => ?_)).trans ?_) | (rename_i h; refine (congrArg (fun x => State.still (Prod.fst x)) h).symm.trans ?_; simp only [still_State_eccRead, still_State_modKey, still_State_endsWith, still_State_okTrailer, still_State_press, still_State_critical, apply_ite State.still, apply_ite Prod.fst, ite_self, implies_true, eq_self, still_foldl, still_each, still_when, still_State_emit, still_State_used]; done) | (refine (still_State_eccRead _ _ _ _ (fun t => ?_)).trans ?_) | intro x)

theorem still_execKeyWrap (a1) (a2) (a3) (s : State) : ∀ t, execKeyWrap a1 a2 a3 s = .next t → t.still = s.still := by
  intro t h; unfold execKeyWrap at h
  rcases h
  simp only [still_State_admitWith, still_State_okTrailer, still_State_drawn, implies_true, eq_self]

theorem still_execKeyUnwrap (a1) (a2) (a3) (s : State) : ∀ t, execKeyUnwrap a1 a2 a3 s = .next t → t.still = s.still := by
  intro t h; unfold execKeyUnwrap at h
  rcases h
  simp only [still_State_admitCmd, still_State_endsWith, still_State_newControl, apply_ite State.still, ite_self, implies_true, eq_self]

theorem still_execMldsaSignRestart (s : State) : ∀ t, execMldsaSignRestart s = .next t → t.still = s.still := by
  intro t h; unfold execMldsaSignRestart at h
  rcases h
  simp only [still_State_modKey, still_State_drawn, apply_ite State.still, ite_self, eq_self]

theorem still_execKeyAttest (a1) (a2) (a3) (s : State) : ∀ t, execKeyAttest a1 a2 a3 s = .next t → t.still = s.still := by
  intro t h; unfold execKeyAttest at h
  rcases h
  simp only [still_State_admitWith, still_State_pkeAdd, implies_true, eq_self]

theorem still_execKeyReseal (a1) (s : State) : ∀ t, execKeyReseal a1 s = .next t → t.still = s.still := by
  intro t h; unfold execKeyReseal at h
  rcases h
  repeat' (first | with_reducible rfl | (simp only [still_State_admitWith, still_State_endsWith, still_State_modPart, still_State_drawnPr, still_State_fill, still_State_resealEnd, still_State_setReseal, apply_ite State.still, apply_ite Prod.fst, ite_self, implies_true, eq_self, still_foldl, still_each, still_when, still_State_emit, still_State_used]; done) | (simp only [still_State_admitWith, still_State_endsWith, still_State_modPart, still_State_drawnPr, still_State_fill, still_State_resealEnd, still_State_setReseal, apply_ite State.still, apply_ite Prod.fst, ite_self, implies_true, eq_self, still_foldl, still_each, still_when, still_State_emit, still_State_used]) | split | (refine (still_each _ _ _ (fun x t => ?_)).trans ?_) | (refine (still_when _ _ _ (fun t => ?_)).trans ?_) | (refine (still_foldl _ _ _ (fun t x => ?_)).trans ?_) | (rename_i h; refine (congrArg (fun x => State.still (Prod.fst x)) h).symm.trans ?_; simp only [still_State_admitWith, still_State_endsWith, still_State_modPart, still_State_drawnPr, still_State_fill, still_State_resealEnd, still_State_setReseal, apply_ite State.still, apply_ite Prod.fst, ite_self, implies_true, eq_self, still_foldl, still_each, still_when, still_State_emit, still_State_used]; done) | (refine (still_State_admitWith _ _ _ _ _ _ _ (fun y0 t => ?_)).trans ?_) | intro x)

theorem still_execSgEnable (a1) (a2) (s : State) : ∀ t, execSgEnable a1 a2 s = .next t → t.still = s.still := by
  intro t h; unfold execSgEnable at h
  rcases h
  simp only [still_State_ctlWrite, still_State_sgWrite, implies_true, eq_self]

theorem still_execSgDisable (a1) (a2) (s : State) : ∀ t, execSgDisable a1 a2 s = .next t → t.still = s.still := by
  intro t h; unfold execSgDisable at h
  rcases h
  simp only [still_State_ctlWrite, still_State_sgWrite, implies_true, eq_self]

theorem still_execCClassCommit (a1) (s : State) : ∀ t, execCClassCommit a1 s = .next t → t.still = s.still := by
  intro t h; unfold execCClassCommit at h
  rcases h
  simp only [still_State_commitIdle, apply_ite State.still, ite_self, eq_self]

theorem still_execPartShare (a1) (a2) (s : State) : ∀ t, execPartShare a1 a2 s = .next t → t.still = s.still := by
  intro t h; unfold execPartShare at h
  rcases h
  simp only [still_State_admitCmd, still_State_ok, still_State_modShare, implies_true, eq_self]

theorem still_execLaneGate (a1) (s : State) : ∀ t, execLaneGate a1 s = .next t → t.still = s.still := by
  intro t h; unfold execLaneGate at h
  rcases h
  simp only [still_State_modShare, still_State_modUnit, apply_ite State.still, ite_self, eq_self]

theorem still_execLaneWake (s : State) : ∀ t, execLaneWake s = .next t → t.still = s.still := by
  intro t h; unfold execLaneWake at h
  rcases h
  simp only [still_State_modShare, still_each, still_State_wakeOne, apply_ite State.still, ite_self, implies_true, eq_self, still_each]

theorem still_execIdeKmQuery (a1) (a2) (s : State) : ∀ t, execIdeKmQuery a1 a2 s = .next t → t.still = s.still := by
  intro t h; unfold execIdeKmQuery at h
  rcases h
  simp only [still_State_respond, apply_ite State.still, ite_self, eq_self]

theorem still_execIdeKmKeyProg (a1) (a2) (a3) (a4) (a5) (a6) (a7) (s : State) : ∀ t, execIdeKmKeyProg a1 a2 a3 a4 a5 a6 a7 s = .next t → t.still = s.still := by
  intro t h; unfold execIdeKmKeyProg at h
  rcases h
  repeat' (first | with_reducible rfl | (simp only [still_State_ideAnswer, still_State_retire, still_State_tryStream, still_State_modKeys, still_State_fill, apply_ite State.still, apply_ite Prod.fst, ite_self, implies_true, eq_self, still_foldl, still_each, still_when, still_State_emit, still_State_used]; done) | (simp only [still_State_ideAnswer, still_State_retire, still_State_tryStream, still_State_modKeys, still_State_fill, apply_ite State.still, apply_ite Prod.fst, ite_self, implies_true, eq_self, still_foldl, still_each, still_when, still_State_emit, still_State_used]) | split | (refine (still_each _ _ _ (fun x t => ?_)).trans ?_) | (refine (still_when _ _ _ (fun t => ?_)).trans ?_) | (refine (still_foldl _ _ _ (fun t x => ?_)).trans ?_) | (rename_i h; refine (congrArg (fun x => State.still (Prod.fst x)) h).symm.trans ?_; simp only [still_State_ideAnswer, still_State_retire, still_State_tryStream, still_State_modKeys, still_State_fill, apply_ite State.still, apply_ite Prod.fst, ite_self, implies_true, eq_self, still_foldl, still_each, still_when, still_State_emit, still_State_used]; done) | intro x)

theorem still_execIdeKmKSetGo (a1) (a2) (a3) (a4) (a5) (a6) (s : State) : ∀ t, execIdeKmKSetGo a1 a2 a3 a4 a5 a6 s = .next t → t.still = s.still := by
  intro t h; unfold execIdeKmKSetGo at h
  rcases h
  simp only [still_State_ideAnswer, still_State_tryStream, still_State_modHst, still_State_modKeys, apply_ite State.still, ite_self, eq_self]

theorem still_execIdeKmKSetStop (a1) (a2) (a3) (a4) (a5) (a6) (s : State) : ∀ t, execIdeKmKSetStop a1 a2 a3 a4 a5 a6 s = .next t → t.still = s.still := by
  intro t h; unfold execIdeKmKSetStop at h
  rcases h
  repeat' (first | with_reducible rfl | (simp only [still_State_ideAnswer, still_State_modKeys, still_State_retire, still_State_streamDown, apply_ite State.still, apply_ite Prod.fst, ite_self, implies_true, eq_self, still_foldl, still_each, still_when, still_State_emit, still_State_used]; done) | (simp only [still_State_ideAnswer, still_State_modKeys, still_State_retire, still_State_streamDown, apply_ite State.still, apply_ite Prod.fst, ite_self, implies_true, eq_self, still_foldl, still_each, still_when, still_State_emit, still_State_used]) | split | (refine (still_each _ _ _ (fun x t => ?_)).trans ?_) | (refine (still_when _ _ _ (fun t => ?_)).trans ?_) | (refine (still_foldl _ _ _ (fun t x => ?_)).trans ?_) | (rename_i h; refine (congrArg (fun x => State.still (Prod.fst x)) h).symm.trans ?_; simp only [still_State_ideAnswer, still_State_modKeys, still_State_retire, still_State_streamDown, apply_ite State.still, apply_ite Prod.fst, ite_self, implies_true, eq_self, still_foldl, still_each, still_when, still_State_emit, still_State_used]; done) | intro x)

theorem still_execGetTdispVersion (a1) (a2) (a3) (s : State) : ∀ t, execGetTdispVersion a1 a2 a3 s = .next t → t.still = s.still := by
  intro t h; unfold execGetTdispVersion at h
  rcases h
  simp only [still_State_tdisp, still_State_tdispAnswer, implies_true, eq_self]

theorem still_execGetTdispCapabilities (a1) (a2) (a3) (s : State) : ∀ t, execGetTdispCapabilities a1 a2 a3 s = .next t → t.still = s.still := by
  intro t h; unfold execGetTdispCapabilities at h
  rcases h
  simp only [still_State_tdisp, still_State_tdispAnswer, implies_true, eq_self]

theorem still_execGetDeviceInterfaceState (a1) (a2) (a3) (s : State) : ∀ t, execGetDeviceInterfaceState a1 a2 a3 s = .next t → t.still = s.still := by
  intro t h; unfold execGetDeviceInterfaceState at h
  rcases h
  simp only [still_State_tdisp, still_State_tdispAnswer, implies_true, eq_self]

theorem still_execGetDeviceInterfaceReport (a1) (a2) (a3) (s : State) : ∀ t, execGetDeviceInterfaceReport a1 a2 a3 s = .next t → t.still = s.still := by
  intro t h; unfold execGetDeviceInterfaceReport at h
  rcases h
  simp only [still_State_tdisp, still_State_respond, implies_true, eq_self]

theorem still_execLockInterfaceRequest (a1) (a2) (a3) (s : State) : ∀ t, execLockInterfaceRequest a1 a2 a3 s = .next t → t.still = s.still := by
  intro t h; unfold execLockInterfaceRequest at h
  rcases h
  repeat' (first | with_reducible rfl | (simp only [still_State_tdisp, still_State_tdispAnswer, still_State_modCmd, still_State_modTdi, apply_ite State.still, apply_ite Prod.fst, ite_self, implies_true, eq_self, still_foldl, still_each, still_when, still_State_emit, still_State_used]; done) | (simp only [still_State_tdisp, still_State_tdispAnswer, still_State_modCmd, still_State_modTdi, apply_ite State.still, apply_ite Prod.fst, ite_self, implies_true, eq_self, still_foldl, still_each, still_when, still_State_emit, still_State_used]) | split | (refine (still_each _ _ _ (fun x t => ?_)).trans ?_) | (refine (still_when _ _ _ (fun t => ?_)).trans ?_) | (refine (still_foldl _ _ _ (fun t x => ?_)).trans ?_) | (rename_i h; refine (congrArg (fun x => State.still (Prod.fst x)) h).symm.trans ?_; simp only [still_State_tdisp, still_State_tdispAnswer, still_State_modCmd, still_State_modTdi, apply_ite State.still, apply_ite Prod.fst, ite_self, implies_true, eq_self, still_foldl, still_each, still_when, still_State_emit, still_State_used]; done) | (refine (still_State_tdisp _ _ _ _ _ (fun t => ?_)).trans ?_) | intro x)

theorem still_execStartInterfaceRequest (a1) (a2) (a3) (s : State) : ∀ t, execStartInterfaceRequest a1 a2 a3 s = .next t → t.still = s.still := by
  intro t h; unfold execStartInterfaceRequest at h
  rcases h
  simp only [still_State_tdisp, still_State_tdispAnswer, still_State_modTdi, apply_ite State.still, ite_self, implies_true, eq_self]

theorem still_execStopInterfaceRequest (a1) (a2) (a3) (s : State) : ∀ t, execStopInterfaceRequest a1 a2 a3 s = .next t → t.still = s.still := by
  intro t h; unfold execStopInterfaceRequest at h
  rcases h
  simp only [still_State_tdisp, still_State_tdispAnswer, still_State_tdiStop, implies_true, eq_self]

theorem still_execTdispUnsupportedRequest (a1) (a2) (a3) (s : State) : ∀ t, execTdispUnsupportedRequest a1 a2 a3 s = .next t → t.still = s.still := by
  intro t h; unfold execTdispUnsupportedRequest at h
  rcases h
  simp only [still_State_tdisp, still_State_respond, implies_true, eq_self]

theorem still_execFunctionLevelReset (a1) (a2) (s : State) : ∀ t, execFunctionLevelReset a1 a2 s = .next t → t.still = s.still := by
  intro t h; unfold execFunctionLevelReset at h
  rcases h
  repeat' (first | with_reducible rfl | (simp only [still_State_tdiStop, apply_ite State.still, apply_ite Prod.fst, ite_self, implies_true, eq_self, still_foldl, still_each, still_when, still_State_emit, still_State_used]; done) | (simp only [still_State_tdiStop, apply_ite State.still, apply_ite Prod.fst, ite_self, implies_true, eq_self, still_foldl, still_each, still_when, still_State_emit, still_State_used]) | split | (refine (still_each _ _ _ (fun x t => ?_)).trans ?_) | (refine (still_when _ _ _ (fun t => ?_)).trans ?_) | (refine (still_foldl _ _ _ (fun t x => ?_)).trans ?_) | (rename_i h; refine (congrArg (fun x => State.still (Prod.fst x)) h).symm.trans ?_; simp only [still_State_tdiStop, apply_ite State.still, apply_ite Prod.fst, ite_self, implies_true, eq_self, still_foldl, still_each, still_when, still_State_emit, still_State_used]; done) | intro x)

theorem still_execConfigRequestRx (a1) (a2) (a3) (a4) (a5) (a6) (s : State) : ∀ t, execConfigRequestRx a1 a2 a3 a4 a5 a6 s = .next t → t.still = s.still := by
  intro t h; unfold execConfigRequestRx at h
  rcases h
  simp only [still_State_modHst, still_State_emit, still_State_ideCfg, still_each, still_State_tdiError, apply_ite State.still, ite_self, implies_true, eq_self, still_each, still_State_emit]

theorem still_execDoeObjectRx (a1) (a2) (a3) (s : State) : ∀ t, execDoeObjectRx a1 a2 a3 s = .next t → t.still = s.still := by
  intro t h; unfold execDoeObjectRx at h
  rcases h
  simp only [still_State_emit, still_State_modHst, apply_ite State.still, ite_self, eq_self, still_State_emit]

theorem still_execDoeAbort (a1) (s : State) : ∀ t, execDoeAbort a1 s = .next t → t.still = s.still := by
  intro t h; unfold execDoeAbort at h
  rcases h
  simp only [still_State_modHst, eq_self]

theorem still_execTranslationCompletion (a1) (a2) (a3) (a4) (s : State) : ∀ t, execTranslationCompletion a1 a2 a3 a4 s = .next t → t.still = s.still := by
  intro t h; unfold execTranslationCompletion at h
  rcases h
  repeat' (first | with_reducible rfl | (simp only [still_State_emit, still_State_modHst, still_State_trEnds, apply_ite State.still, apply_ite Prod.fst, ite_self, implies_true, eq_self, still_foldl, still_each, still_when, still_State_emit, still_State_used]; done) | (simp only [still_State_emit, still_State_modHst, still_State_trEnds, apply_ite State.still, apply_ite Prod.fst, ite_self, implies_true, eq_self, still_foldl, still_each, still_when, still_State_emit, still_State_used]) | split | (refine (still_each _ _ _ (fun x t => ?_)).trans ?_) | (refine (still_when _ _ _ (fun t => ?_)).trans ?_) | (refine (still_foldl _ _ _ (fun t x => ?_)).trans ?_) | (rename_i h; refine (congrArg (fun x => State.still (Prod.fst x)) h).symm.trans ?_; simp only [still_State_emit, still_State_modHst, still_State_trEnds, apply_ite State.still, apply_ite Prod.fst, ite_self, implies_true, eq_self, still_foldl, still_each, still_when, still_State_emit, still_State_used]; done) | intro x)

theorem still_execTranslationTimeout (a1) (a2) (s : State) : ∀ t, execTranslationTimeout a1 a2 s = .next t → t.still = s.still := by
  intro t h; unfold execTranslationTimeout at h
  rcases h
  repeat' (first | with_reducible rfl | (simp only [still_State_trEnds, apply_ite State.still, apply_ite Prod.fst, ite_self, implies_true, eq_self, still_foldl, still_each, still_when, still_State_emit, still_State_used]; done) | (simp only [still_State_trEnds, apply_ite State.still, apply_ite Prod.fst, ite_self, implies_true, eq_self, still_foldl, still_each, still_when, still_State_emit, still_State_used]) | split | (refine (still_each _ _ _ (fun x t => ?_)).trans ?_) | (refine (still_when _ _ _ (fun t => ?_)).trans ?_) | (refine (still_foldl _ _ _ (fun t x => ?_)).trans ?_) | (rename_i h; refine (congrArg (fun x => State.still (Prod.fst x)) h).symm.trans ?_; simp only [still_State_trEnds, apply_ite State.still, apply_ite Prod.fst, ite_self, implies_true, eq_self, still_foldl, still_each, still_when, still_State_emit, still_State_used]; done) | intro x)

theorem still_execAtsInvalidateRequest (a1) (a2) (a3) (a4) (a5) (a6) (s : State) : ∀ t, execAtsInvalidateRequest a1 a2 a3 a4 a5 a6 s = .next t → t.still = s.still := by
  intro t h; unfold execAtsInvalidateRequest at h
  rcases h
  repeat' (first | with_reducible rfl | (simp only [still_State_pump, still_State_modHst, apply_ite State.still, apply_ite Prod.fst, ite_self, implies_true, eq_self, still_foldl, still_each, still_when, still_State_emit, still_State_used]; done) | (simp only [still_State_pump, still_State_modHst, apply_ite State.still, apply_ite Prod.fst, ite_self, implies_true, eq_self, still_foldl, still_each, still_when, still_State_emit, still_State_used]) | split | (refine (still_each _ _ _ (fun x t => ?_)).trans ?_) | (refine (still_when _ _ _ (fun t => ?_)).trans ?_) | (refine (still_foldl _ _ _ (fun t x => ?_)).trans ?_) | (rename_i h; refine (congrArg (fun x => State.still (Prod.fst x)) h).symm.trans ?_; simp only [still_State_pump, still_State_modHst, apply_ite State.still, apply_ite Prod.fst, ite_self, implies_true, eq_self, still_foldl, still_each, still_when, still_State_emit, still_State_used]; done) | intro x)

theorem still_execInvalidationComplete (a1) (a2) (s : State) : ∀ t, execInvalidationComplete a1 a2 s = .next t → t.still = s.still := by
  intro t h; unfold execInvalidationComplete at h
  rcases h
  repeat' (first | with_reducible rfl | (simp only [still_State_emit, still_State_modHst, apply_ite State.still, apply_ite Prod.fst, ite_self, implies_true, eq_self, still_foldl, still_each, still_when, still_State_emit, still_State_used]; done) | (simp only [still_State_emit, still_State_modHst, apply_ite State.still, apply_ite Prod.fst, ite_self, implies_true, eq_self, still_foldl, still_each, still_when, still_State_emit, still_State_used]) | split | (refine (still_each _ _ _ (fun x t => ?_)).trans ?_) | (refine (still_when _ _ _ (fun t => ?_)).trans ?_) | (refine (still_foldl _ _ _ (fun t x => ?_)).trans ?_) | (rename_i h; refine (congrArg (fun x => State.still (Prod.fst x)) h).symm.trans ?_; simp only [still_State_emit, still_State_modHst, apply_ite State.still, apply_ite Prod.fst, ite_self, implies_true, eq_self, still_foldl, still_each, still_when, still_State_emit, still_State_used]; done) | intro x)

theorem still_execPrgResponse (a1) (a2) (a3) (s : State) : ∀ t, execPrgResponse a1 a2 a3 s = .next t → t.still = s.still := by
  intro t h; unfold execPrgResponse at h
  rcases h
  repeat' (first | with_reducible rfl | (simp only [still_State_modHst, still_State_prNext, still_State_askPage, still_State_flag, still_each, still_State_pageFail, apply_ite State.still, apply_ite Prod.fst, ite_self, implies_true, eq_self, still_foldl, still_each, still_when, still_State_emit, still_State_used]; done) | (simp only [still_State_modHst, still_State_prNext, still_State_askPage, still_State_flag, still_each, still_State_pageFail, apply_ite State.still, apply_ite Prod.fst, ite_self, implies_true, eq_self, still_foldl, still_each, still_when, still_State_emit, still_State_used]) | split | (refine (still_each _ _ _ (fun x t => ?_)).trans ?_) | (refine (still_when _ _ _ (fun t => ?_)).trans ?_) | (refine (still_foldl _ _ _ (fun t x => ?_)).trans ?_) | (rename_i h; refine (congrArg (fun x => State.still (Prod.fst x)) h).symm.trans ?_; simp only [still_State_modHst, still_State_prNext, still_State_askPage, still_State_flag, still_each, still_State_pageFail, apply_ite State.still, apply_ite Prod.fst, ite_self, implies_true, eq_self, still_foldl, still_each, still_when, still_State_emit, still_State_used]; done) | intro x)

theorem still_execPriTimeout (a1) (s : State) : ∀ t, execPriTimeout a1 s = .next t → t.still = s.still := by
  intro t h; unfold execPriTimeout at h
  rcases h
  repeat' (first | with_reducible rfl | (simp only [still_State_prNext, still_State_pageFail, still_State_modHst, apply_ite State.still, apply_ite Prod.fst, ite_self, implies_true, eq_self, still_foldl, still_each, still_when, still_State_emit, still_State_used]; done) | (simp only [still_State_prNext, still_State_pageFail, still_State_modHst, apply_ite State.still, apply_ite Prod.fst, ite_self, implies_true, eq_self, still_foldl, still_each, still_when, still_State_emit, still_State_used]) | split | (refine (still_each _ _ _ (fun x t => ?_)).trans ?_) | (refine (still_when _ _ _ (fun t => ?_)).trans ?_) | (refine (still_foldl _ _ _ (fun t x => ?_)).trans ?_) | (rename_i h; refine (congrArg (fun x => State.still (Prod.fst x)) h).symm.trans ?_; simp only [still_State_prNext, still_State_pageFail, still_State_modHst, apply_ite State.still, apply_ite Prod.fst, ite_self, implies_true, eq_self, still_foldl, still_each, still_when, still_State_emit, still_State_used]; done) | intro x)

theorem still_execHostTlpTx (a1) (a2) (s : State) : ∀ t, execHostTlpTx a1 a2 s = .next t → t.still = s.still := by
  intro t h; unfold execHostTlpTx at h
  rcases h
  simp only [still_State_txTlp, eq_self]

theorem still_execHostTlpRx (a1) (a2) (s : State) : ∀ t, execHostTlpRx a1 a2 s = .next t → t.still = s.still := by
  intro t h; unfold execHostTlpRx at h
  rcases h
  repeat' (first | with_reducible rfl | (simp only [still_State_emit, still_State_rxCpl, still_State_rxReq, still_State_count, still_State_ideFail, still_State_glob, still_State_wants, apply_ite State.still, apply_ite Prod.fst, ite_self, implies_true, eq_self, still_foldl, still_each, still_when, still_State_emit, still_State_used]; done) | (simp only [still_State_emit, still_State_rxCpl, still_State_rxReq, still_State_count, still_State_ideFail, still_State_glob, still_State_wants, apply_ite State.still, apply_ite Prod.fst, ite_self, implies_true, eq_self, still_foldl, still_each, still_when, still_State_emit, still_State_used]) | split | (refine (still_each _ _ _ (fun x t => ?_)).trans ?_) | (refine (still_when _ _ _ (fun t => ?_)).trans ?_) | (refine (still_foldl _ _ _ (fun t x => ?_)).trans ?_) | (rename_i h; refine (congrArg (fun x => State.still (Prod.fst x)) h).symm.trans ?_; simp only [still_State_emit, still_State_rxCpl, still_State_rxReq, still_State_count, still_State_ideFail, still_State_glob, still_State_wants, apply_ite State.still, apply_ite Prod.fst, ite_self, implies_true, eq_self, still_foldl, still_each, still_when, still_State_emit, still_State_used]; done) | intro x)

theorem still_execHcLinkUpRise (a1) (s : State) : ∀ t, execHcLinkUpRise a1 s = .next t → t.still = s.still := by
  intro t h; unfold execHcLinkUpRise at h
  rcases h
  simp only [still_State_modPins, apply_ite State.still, ite_self, eq_self]

theorem still_execHcLinkUpFall (a1) (s : State) : ∀ t, execHcLinkUpFall a1 s = .next t → t.still = s.still := by
  intro t h; unfold execHcLinkUpFall at h
  rcases h
  simp only [still_each, still_State_streamDown, still_State_modPins, still_State_modHst, still_State_tdiError, still_State_tilesFault, still_State_endSecuredWhere, apply_ite State.still, ite_self, implies_true, eq_self, still_each]

theorem still_execTileOpen (a1) (a2) (s : State) : ∀ t, execTileOpen a1 a2 s = .next t → t.still = s.still := by
  intro t h; unfold execTileOpen at h
  rcases h
  repeat' (first | with_reducible rfl | (simp only [still_State_txTlp, still_State_fault, still_State_trace, still_State_modHst, still_State_modTile, still_State_tileFault, still_State_pump, still_each, still_State_touchAtc, apply_ite State.still, apply_ite Prod.fst, ite_self, implies_true, eq_self, still_foldl, still_each, still_when, still_State_emit, still_State_used]; done) | (simp only [still_State_txTlp, still_State_fault, still_State_trace, still_State_modHst, still_State_modTile, still_State_tileFault, still_State_pump, still_each, still_State_touchAtc, apply_ite State.still, apply_ite Prod.fst, ite_self, implies_true, eq_self, still_foldl, still_each, still_when, still_State_emit, still_State_used]) | split | (refine (still_each _ _ _ (fun x t => ?_)).trans ?_) | (refine (still_when _ _ _ (fun t => ?_)).trans ?_) | (refine (still_foldl _ _ _ (fun t x => ?_)).trans ?_) | (rename_i h; refine (congrArg (fun x => State.still (Prod.fst x)) h).symm.trans ?_; simp only [still_State_txTlp, still_State_fault, still_State_trace, still_State_modHst, still_State_modTile, still_State_tileFault, still_State_pump, still_each, still_State_touchAtc, apply_ite State.still, apply_ite Prod.fst, ite_self, implies_true, eq_self, still_foldl, still_each, still_when, still_State_emit, still_State_used]; done) | intro x)

theorem still_execTileClose (a1) (a2) (s : State) : ∀ t, execTileClose a1 a2 s = .next t → t.still = s.still := by
  intro t h; unfold execTileClose at h
  rcases h
  repeat' (first | with_reducible rfl | (simp only [still_State_txTlp, still_State_tileFault, still_State_tileClosed, still_State_modTile, still_State_tileFree, apply_ite State.still, apply_ite Prod.fst, ite_self, implies_true, eq_self, still_foldl, still_each, still_when, still_State_emit, still_State_used]; done) | (simp only [still_State_txTlp, still_State_tileFault, still_State_tileClosed, still_State_modTile, still_State_tileFree, apply_ite State.still, apply_ite Prod.fst, ite_self, implies_true, eq_self, still_foldl, still_each, still_when, still_State_emit, still_State_used]) | split | (refine (still_each _ _ _ (fun x t => ?_)).trans ?_) | (refine (still_when _ _ _ (fun t => ?_)).trans ?_) | (refine (still_foldl _ _ _ (fun t x => ?_)).trans ?_) | (rename_i h; refine (congrArg (fun x => State.still (Prod.fst x)) h).symm.trans ?_; simp only [still_State_txTlp, still_State_tileFault, still_State_tileClosed, still_State_modTile, still_State_tileFree, apply_ite State.still, apply_ite Prod.fst, ite_self, implies_true, eq_self, still_foldl, still_each, still_when, still_State_emit, still_State_used]; done) | intro x)

theorem still_execEgressRelease (a1) (s : State) : ∀ t, execEgressRelease a1 s = .next t → t.still = s.still := by
  intro t h; unfold execEgressRelease at h
  rcases h
  repeat' (first | with_reducible rfl | (simp only [still_State_freeFabric, still_State_freeHost, still_State_freeNorth, still_State_freeCdm, still_State_freeTrace, apply_ite State.still, apply_ite Prod.fst, ite_self, implies_true, eq_self, still_foldl, still_each, still_when, still_State_emit, still_State_used]; done) | (simp only [still_State_freeFabric, still_State_freeHost, still_State_freeNorth, still_State_freeCdm, still_State_freeTrace, apply_ite State.still, apply_ite Prod.fst, ite_self, implies_true, eq_self, still_foldl, still_each, still_when, still_State_emit, still_State_used]) | split | (refine (still_each _ _ _ (fun x t => ?_)).trans ?_) | (refine (still_when _ _ _ (fun t => ?_)).trans ?_) | (refine (still_foldl _ _ _ (fun t x => ?_)).trans ?_) | (rename_i h; refine (congrArg (fun x => State.still (Prod.fst x)) h).symm.trans ?_; simp only [still_State_freeFabric, still_State_freeHost, still_State_freeNorth, still_State_freeCdm, still_State_freeTrace, apply_ite State.still, apply_ite Prod.fst, ite_self, implies_true, eq_self, still_foldl, still_each, still_when, still_State_emit, still_State_used]; done) | intro x)

theorem still_execSubmissionDoorbell (a1) (a2) (a3) (a4) (a5) (s : State) : ∀ t, execSubmissionDoorbell a1 a2 a3 a4 a5 s = .next t → t.still = s.still := by
  intro t h; unfold execSubmissionDoorbell at h
  rcases h
  simp only [still_State_portWrite, still_State_bell, implies_true, eq_self]

theorem still_execReplyDoorbell (a1) (a2) (a3) (a4) (a5) (s : State) : ∀ t, execReplyDoorbell a1 a2 a3 a4 a5 s = .next t → t.still = s.still := by
  intro t h; unfold execReplyDoorbell at h
  rcases h
  simp only [still_State_portWrite, still_State_bell, implies_true, eq_self]

theorem still_execHostQueueEnable (a1) (a2) (s : State) : ∀ t, execHostQueueEnable a1 a2 s = .next t → t.still = s.still := by
  intro t h; unfold execHostQueueEnable at h
  rcases h
  simp only [still_State_ctlWrite, still_State_hostQueueOpen, implies_true, eq_self]

theorem still_execHostQueueDisable (a1) (a2) (s : State) : ∀ t, execHostQueueDisable a1 a2 s = .next t → t.still = s.still := by
  intro t h; unfold execHostQueueDisable at h
  rcases h
  simp only [still_State_ctlWrite, still_State_hostQueueClose, implies_true, eq_self]

theorem still_execQueueCreate (a1) (a2) (a3) (a4) (a5) (a6) (a7) (s : State) : ∀ t, execQueueCreate a1 a2 a3 a4 a5 a6 a7 s = .next t → t.still = s.still := by
  intro t h; unfold execQueueCreate at h
  rcases h
  simp only [still_State_admitWith, still_each, still_State_modObj, still_State_ok, still_State_modQueue, implies_true, eq_self, still_each]

theorem still_execQueueDestroy (a1) (a2) (a3) (s : State) : ∀ t, execQueueDestroy a1 a2 a3 s = .next t → t.still = s.still := by
  intro t h; unfold execQueueDestroy at h
  rcases h
  simp only [still_State_admitWith, still_State_destroyQueue, implies_true, eq_self]

theorem still_execNop (a1) (s : State) : ∀ t, execNop a1 s = .next t → t.still = s.still := by
  intro t h; unfold execNop at h
  rcases h
  simp only [still_State_admitCmd, still_State_ok, implies_true, eq_self]

theorem still_execIdentify (a1) (s : State) : ∀ t, execIdentify a1 s = .next t → t.still = s.still := by
  intro t h; unfold execIdentify at h
  rcases h
  simp only [still_State_admitCmd, still_State_ok, implies_true, eq_self]

theorem still_execCarry (a1) (a2) (a3) (a4) (a5) (a6) (a7) (a8) (s : State) : ∀ t, execCarry a1 a2 a3 a4 a5 a6 a7 a8 s = .next t → t.still = s.still := by
  intro t h; unfold execCarry at h
  rcases h
  simp only [still_State_admitCmd, still_State_endsWith, still_State_cntr, still_State_modCmd, apply_ite State.still, ite_self, implies_true, eq_self]

theorem still_execReplyPoll (a1) (a2) (s : State) : ∀ t, execReplyPoll a1 a2 s = .next t → t.still = s.still := by
  intro t h; unfold execReplyPoll at h
  rcases h
  repeat' (first | with_reducible rfl | (simp only [still_State_admitCmd, still_State_endsWith, still_State_complete, apply_ite State.still, apply_ite Prod.fst, ite_self, implies_true, eq_self, still_foldl, still_each, still_when, still_State_emit, still_State_used]; done) | (simp only [still_State_admitCmd, still_State_endsWith, still_State_complete, apply_ite State.still, apply_ite Prod.fst, ite_self, implies_true, eq_self, still_foldl, still_each, still_when, still_State_emit, still_State_used]) | split | (refine (still_each _ _ _ (fun x t => ?_)).trans ?_) | (refine (still_when _ _ _ (fun t => ?_)).trans ?_) | (refine (still_foldl _ _ _ (fun t x => ?_)).trans ?_) | (rename_i h; refine (congrArg (fun x => State.still (Prod.fst x)) h).symm.trans ?_; simp only [still_State_admitCmd, still_State_endsWith, still_State_complete, apply_ite State.still, apply_ite Prod.fst, ite_self, implies_true, eq_self, still_foldl, still_each, still_when, still_State_emit, still_State_used]; done) | (refine (still_State_admitCmd _ _ _ _ _ (fun y0 t => ?_)).trans ?_) | intro x)

theorem still_execStoredReplyExpire (a1) (a2) (s : State) : ∀ t, execStoredReplyExpire a1 a2 s = .next t → t.still = s.still := by
  intro t h; unfold execStoredReplyExpire at h
  rcases h
  simp only [still_State_modCmd, eq_self]

theorem still_execPartPolicy (a1) (a2) (s : State) : ∀ t, execPartPolicy a1 a2 s = .next t → t.still = s.still := by
  intro t h; unfold execPartPolicy at h
  rcases h
  simp only [still_State_admitCmd, still_State_ok, still_State_writeRecord, still_State_setPolicy, implies_true, eq_self]

theorem still_execPartAssign (a1) (a2) (a3) (a4) (a5) (a6) (a7) (a8) (a9) (a10) (a11) (a12) (s : State) : ∀ t, execPartAssign a1 a2 a3 a4 a5 a6 a7 a8 a9 a10 a11 a12 s = .next t → t.still = s.still := by
  intro t h; unfold execPartAssign at h
  rcases h
  simp only [still_State_admitWith, still_State_assignNew, still_State_modCmd, still_State_eraseRecord, still_State_tryJoin, still_State_ok, still_State_endsWith, apply_ite State.still, ite_self, implies_true, eq_self]

theorem still_execRegionAdd (a1) (a2) (a3) (s : State) : ∀ t, execRegionAdd a1 a2 a3 s = .next t → t.still = s.still := by
  intro t h; unfold execRegionAdd at h
  rcases h
  simp only [still_State_admitCmd, still_each, still_State_ownRegion, still_State_modPart, still_State_ok, still_State_writeRecord, implies_true, eq_self, still_each]

theorem still_execRegionRearm (a1) (a2) (s : State) : ∀ t, execRegionRearm a1 a2 s = .next t → t.still = s.still := by
  intro t h; unfold execRegionRearm at h
  rcases h
  simp only [still_State_admitCmd, still_State_ok, still_State_setAnchor, still_State_modSg, still_State_dropRegion, implies_true, eq_self]

theorem still_execManifestStage (a1) (a2) (a3) (s : State) : ∀ t, execManifestStage a1 a2 a3 s = .next t → t.still = s.still := by
  intro t h; unfold execManifestStage at h
  rcases h
  repeat' (first | with_reducible rfl | (simp only [still_State_admitCmd, still_State_ok, still_State_modCmd, still_State_endsWith, apply_ite State.still, apply_ite Prod.fst, ite_self, implies_true, eq_self, still_foldl, still_each, still_when, still_State_emit, still_State_used]; done) | (simp only [still_State_admitCmd, still_State_ok, still_State_modCmd, still_State_endsWith, apply_ite State.still, apply_ite Prod.fst, ite_self, implies_true, eq_self, still_foldl, still_each, still_when, still_State_emit, still_State_used]) | split | (refine (still_each _ _ _ (fun x t => ?_)).trans ?_) | (refine (still_when _ _ _ (fun t => ?_)).trans ?_) | (refine (still_foldl _ _ _ (fun t x => ?_)).trans ?_) | (rename_i h; refine (congrArg (fun x => State.still (Prod.fst x)) h).symm.trans ?_; simp only [still_State_admitCmd, still_State_ok, still_State_modCmd, still_State_endsWith, apply_ite State.still, apply_ite Prod.fst, ite_self, implies_true, eq_self, still_foldl, still_each, still_when, still_State_emit, still_State_used]; done) | (refine (still_State_admitCmd _ _ _ _ _ (fun y0 t => ?_)).trans ?_) | intro x)

theorem still_execGetVersion (a1) (s : State) : ∀ t, execGetVersion a1 s = .next t → t.still = s.still := by
  intro t h; unfold execGetVersion at h
  rcases h
  simp only [still_State_spdm, still_State_respond, implies_true, eq_self]

theorem still_execGetCapabilities (a1) (s : State) : ∀ t, execGetCapabilities a1 s = .next t → t.still = s.still := by
  intro t h; unfold execGetCapabilities at h
  rcases h
  simp only [still_State_spdm, still_State_respond, implies_true, eq_self]

theorem still_execNegotiateAlgorithms (a1) (a2) (s : State) : ∀ t, execNegotiateAlgorithms a1 a2 s = .next t → t.still = s.still := by
  intro t h; unfold execNegotiateAlgorithms at h
  rcases h
  simp only [still_State_spdm, still_State_modAtt, still_State_respond, apply_ite State.still, ite_self, implies_true, eq_self]

theorem still_execGetDigests (a1) (s : State) : ∀ t, execGetDigests a1 s = .next t → t.still = s.still := by
  intro t h; unfold execGetDigests at h
  rcases h
  simp only [still_State_spdm, still_State_respond, implies_true, eq_self]

theorem still_execGetCertificate (a1) (a2) (s : State) : ∀ t, execGetCertificate a1 a2 s = .next t → t.still = s.still := by
  intro t h; unfold execGetCertificate at h
  rcases h
  simp only [still_State_spdm, still_State_respond, apply_ite State.still, ite_self, implies_true, eq_self]

theorem still_execChallenge (a1) (a2) (s : State) : ∀ t, execChallenge a1 a2 s = .next t → t.still = s.still := by
  intro t h; unfold execChallenge at h
  rcases h
  simp only [still_State_spdm, still_State_respond, still_State_aliasSigned, apply_ite State.still, ite_self, implies_true, eq_self]

theorem still_execGetMeasurements (a1) (a2) (a3) (s : State) : ∀ t, execGetMeasurements a1 a2 a3 s = .next t → t.still = s.still := by
  intro t h; unfold execGetMeasurements at h
  rcases h
  simp only [still_State_spdm, still_State_respond, still_State_aliasSigned, apply_ite State.still, ite_self, implies_true, eq_self]

theorem still_execMeasLockRise (s : State) : ∀ t, execMeasLockRise s = .next t → t.still = s.still := by
  intro t h; unfold execMeasLockRise at h
  rcases h
  simp only [still_State_modAtt, apply_ite State.still, ite_self, eq_self]

theorem still_execMeasDiscardAfterLock (s : State) : ∀ t, execMeasDiscardAfterLock s = .next t → t.still = s.still := by
  intro t h; unfold execMeasDiscardAfterLock at h
  rcases h
  simp only [still_State_measDiscard, apply_ite State.still, ite_self, eq_self]

theorem still_execMeasImage (a1) (a2) (s : State) : ∀ t, execMeasImage a1 a2 s = .next t → t.still = s.still := by
  intro t h; unfold execMeasImage at h
  rcases h
  simp only [still_State_measDiscard, still_State_modAtt, apply_ite State.still, ite_self, eq_self]

theorem still_execKeyExchange (a1) (a2) (s : State) : ∀ t, execKeyExchange a1 a2 s = .next t → t.still = s.still := by
  intro t h; unfold execKeyExchange at h
  rcases h
  repeat' (first | with_reducible rfl | (simp only [still_State_spdm, still_State_respond, still_State_pkeAdd, still_State_modCmd, still_State_abandonAsk, apply_ite State.still, apply_ite Prod.fst, ite_self, implies_true, eq_self, still_foldl, still_each, still_when, still_State_emit, still_State_used]; done) | (simp only [still_State_spdm, still_State_respond, still_State_pkeAdd, still_State_modCmd, still_State_abandonAsk, apply_ite State.still, apply_ite Prod.fst, ite_self, implies_true, eq_self, still_foldl, still_each, still_when, still_State_emit, still_State_used]) | split | (refine (still_each _ _ _ (fun x t => ?_)).trans ?_) | (refine (still_when _ _ _ (fun t => ?_)).trans ?_) | (refine (still_foldl _ _ _ (fun t x => ?_)).trans ?_) | (rename_i h; refine (congrArg (fun x => State.still (Prod.fst x)) h).symm.trans ?_; simp only [still_State_spdm, still_State_respond, still_State_pkeAdd, still_State_modCmd, still_State_abandonAsk, apply_ite State.still, apply_ite Prod.fst, ite_self, implies_true, eq_self, still_foldl, still_each, still_when, still_State_emit, still_State_used]; done) | (refine (still_State_spdm _ _ _ _ (fun t => ?_)).trans ?_) | intro x)

theorem still_execFinish (a1) (a2) (a3) (s : State) : ∀ t, execFinish a1 a2 a3 s = .next t → t.still = s.still := by
  intro t h; unfold execFinish at h
  rcases h
  simp only [still_State_spdm, still_State_pkeAdd, still_State_respond, apply_ite State.still, ite_self, implies_true, eq_self]

theorem still_execEndSession (a1) (a2) (s : State) : ∀ t, execEndSession a1 a2 s = .next t → t.still = s.still := by
  intro t h; unfold execEndSession at h
  rcases h
  repeat' (first | with_reducible rfl | (simp only [still_State_spdm, still_State_respond, still_State_endSecured, apply_ite State.still, apply_ite Prod.fst, ite_self, implies_true, eq_self, still_foldl, still_each, still_when, still_State_emit, still_State_used]; done) | (simp only [still_State_spdm, still_State_respond, still_State_endSecured, apply_ite State.still, apply_ite Prod.fst, ite_self, implies_true, eq_self, still_foldl, still_each, still_when, still_State_emit, still_State_used]) | split | (refine (still_each _ _ _ (fun x t => ?_)).trans ?_) | (refine (still_when _ _ _ (fun t => ?_)).trans ?_) | (refine (still_foldl _ _ _ (fun t x => ?_)).trans ?_) | (rename_i h; refine (congrArg (fun x => State.still (Prod.fst x)) h).symm.trans ?_; simp only [still_State_spdm, still_State_respond, still_State_endSecured, apply_ite State.still, apply_ite Prod.fst, ite_self, implies_true, eq_self, still_foldl, still_each, still_when, still_State_emit, still_State_used]; done) | (refine (still_State_spdm _ _ _ _ (fun t => ?_)).trans ?_) | intro x)

theorem still_execHeartbeat (a1) (a2) (s : State) : ∀ t, execHeartbeat a1 a2 s = .next t → t.still = s.still := by
  intro t h; unfold execHeartbeat at h
  rcases h
  simp only [still_State_spdm, still_State_respond, implies_true, eq_self]

theorem still_execHeartbeatLoss (a1) (a2) (s : State) : ∀ t, execHeartbeatLoss a1 a2 s = .next t → t.still = s.still := by
  intro t h; unfold execHeartbeatLoss at h
  rcases h
  repeat' (first | with_reducible rfl | (simp only [still_State_endSecured, apply_ite State.still, apply_ite Prod.fst, ite_self, implies_true, eq_self, still_foldl, still_each, still_when, still_State_emit, still_State_used]; done) | (simp only [still_State_endSecured, apply_ite State.still, apply_ite Prod.fst, ite_self, implies_true, eq_self, still_foldl, still_each, still_when, still_State_emit, still_State_used]) | split | (refine (still_each _ _ _ (fun x t => ?_)).trans ?_) | (refine (still_when _ _ _ (fun t => ?_)).trans ?_) | (refine (still_foldl _ _ _ (fun t x => ?_)).trans ?_) | (rename_i h; refine (congrArg (fun x => State.still (Prod.fst x)) h).symm.trans ?_; simp only [still_State_endSecured, apply_ite State.still, apply_ite Prod.fst, ite_self, implies_true, eq_self, still_foldl, still_each, still_when, still_State_emit, still_State_used]; done) | intro x)

theorem still_execKeyUpdate (a1) (a2) (s : State) : ∀ t, execKeyUpdate a1 a2 s = .next t → t.still = s.still := by
  intro t h; unfold execKeyUpdate at h
  rcases h
  repeat' (first | with_reducible rfl | (simp only [still_State_spdm, still_State_respond, still_State_modCmd, still_each, still_State_renew, still_State_retire, apply_ite State.still, apply_ite Prod.fst, ite_self, implies_true, eq_self, still_foldl, still_each, still_when, still_State_emit, still_State_used]; done) | (simp only [still_State_spdm, still_State_respond, still_State_modCmd, still_each, still_State_renew, still_State_retire, apply_ite State.still, apply_ite Prod.fst, ite_self, implies_true, eq_self, still_foldl, still_each, still_when, still_State_emit, still_State_used]) | split | (refine (still_each _ _ _ (fun x t => ?_)).trans ?_) | (refine (still_when _ _ _ (fun t => ?_)).trans ?_) | (refine (still_foldl _ _ _ (fun t x => ?_)).trans ?_) | (rename_i h; refine (congrArg (fun x => State.still (Prod.fst x)) h).symm.trans ?_; simp only [still_State_spdm, still_State_respond, still_State_modCmd, still_each, still_State_renew, still_State_retire, apply_ite State.still, apply_ite Prod.fst, ite_self, implies_true, eq_self, still_foldl, still_each, still_when, still_State_emit, still_State_used]; done) | (refine (still_State_spdm _ _ _ _ (fun t => ?_)).trans ?_) | intro x)

theorem still_execGetCsr (a1) (a2) (s : State) : ∀ t, execGetCsr a1 a2 s = .next t → t.still = s.still := by
  intro t h; unfold execGetCsr at h
  rcases h
  simp only [still_State_spdm, still_State_pkeAdd, still_State_respond, apply_ite State.still, ite_self, implies_true, eq_self]

theorem still_execSetCertificate (a1) (a2) (a3) (s : State) : ∀ t, execSetCertificate a1 a2 a3 s = .next t → t.still = s.still := by
  intro t h; unfold execSetCertificate at h
  rcases h
  simp only [still_State_spdm, still_State_respond, still_State_modAtt, apply_ite State.still, ite_self, implies_true, eq_self]

theorem still_execProvision (a1) (a2) (a3) (a4) (s : State) : ∀ t, execProvision a1 a2 a3 a4 s = .next t → t.still = s.still := by
  intro t h; unfold execProvision at h
  rcases h
  simp only [still_State_spdm, still_State_respond, still_State_modAtt, apply_ite State.still, ite_self, implies_true, eq_self]

theorem still_execSpdmCarriageRx (a1) (a2) (s : State) : ∀ t, execSpdmCarriageRx a1 a2 s = .next t → t.still = s.still := by
  intro t h; unfold execSpdmCarriageRx at h
  rcases h
  simp only [still_State_rx, still_State_applyCarriage, implies_true, eq_self]

theorem still_execLinkBind (a1) (a2) (a3) (a4) (s : State) : ∀ t, execLinkBind a1 a2 a3 a4 s = .next t → t.still = s.still := by
  intro t h; unfold execLinkBind at h
  rcases h
  simp only [still_State_spdm, still_State_pkeAdd, still_State_respond, apply_ite State.still, ite_self, implies_true, eq_self]

theorem still_execAmend (a1) (a2) (a3) (s : State) : ∀ t, execAmend a1 a2 a3 s = .next t → t.still = s.still := by
  intro t h; unfold execAmend at h
  rcases h
  simp only [still_State_spdm, still_State_pkeAdd, still_State_amendEnd, apply_ite State.still, ite_self, implies_true, eq_self]

theorem still_execAmendFetch (a1) (a2) (a3) (s : State) : ∀ t, execAmendFetch a1 a2 a3 s = .next t → t.still = s.still := by
  intro t h; unfold execAmendFetch at h
  rcases h
  simp only [still_State_spdm, still_State_respond, apply_ite State.still, ite_self, implies_true, eq_self]

theorem still_execEntdaa (a1) (s : State) : ∀ t, execEntdaa a1 s = .next t → t.still = s.still := by
  intro t h; unfold execEntdaa at h
  rcases h
  simp only [still_State_emit, still_State_modAtt, apply_ite State.still, ite_self, eq_self, still_State_emit]

theorem still_execHotJoinRequest (s : State) : ∀ t, execHotJoinRequest s = .next t → t.still = s.still := by
  intro t h; unfold execHotJoinRequest at h
  rcases h
  simp only [still_State_emit, still_State_modAtt, apply_ite State.still, ite_self, eq_self, still_State_emit]

theorem still_execSetMaxLength (a1) (a2) (s : State) : ∀ t, execSetMaxLength a1 a2 s = .next t → t.still = s.still := by
  intro t h; unfold execSetMaxLength at h
  rcases h
  simp only [still_State_modAtt, apply_ite State.still, ite_self, eq_self]

theorem still_execSetEndpointId (a1) (a2) (s : State) : ∀ t, execSetEndpointId a1 a2 s = .next t → t.still = s.still := by
  intro t h; unfold execSetEndpointId at h
  rcases h
  simp only [still_State_mctp, still_State_modAtt, apply_ite State.still, ite_self, eq_self]

theorem still_execGetEndpointId (s : State) : ∀ t, execGetEndpointId s = .next t → t.still = s.still := by
  intro t h; unfold execGetEndpointId at h
  rcases h
  simp only [still_State_mctp, eq_self]

theorem still_execGetEndpointUuid (s : State) : ∀ t, execGetEndpointUuid s = .next t → t.still = s.still := by
  intro t h; unfold execGetEndpointUuid at h
  rcases h
  simp only [still_State_mctp, eq_self]

theorem still_execGetMctpVersionSupport (s : State) : ∀ t, execGetMctpVersionSupport s = .next t → t.still = s.still := by
  intro t h; unfold execGetMctpVersionSupport at h
  rcases h
  simp only [still_State_mctp, eq_self]

theorem still_execGetMessageTypeSupport (s : State) : ∀ t, execGetMessageTypeSupport s = .next t → t.still = s.still := by
  intro t h; unfold execGetMessageTypeSupport at h
  rcases h
  simp only [still_State_mctp, eq_self]

theorem still_execPkeOpDone (a1) (s : State) : ∀ t, execPkeOpDone a1 s = .next t → t.still = s.still := by
  intro t h; unfold execPkeOpDone at h
  rcases h
  repeat' (first | with_reducible rfl | (simp only [still_State_eccRead, still_State_pkeRun, still_State_pkeEnd, still_State_modKey, still_State_pkeNext, apply_ite State.still, apply_ite Prod.fst, ite_self, implies_true, eq_self, still_foldl, still_each, still_when, still_State_emit, still_State_used]; done) | (simp only [still_State_eccRead, still_State_pkeRun, still_State_pkeEnd, still_State_modKey, still_State_pkeNext, apply_ite State.still, apply_ite Prod.fst, ite_self, implies_true, eq_self, still_foldl, still_each, still_when, still_State_emit, still_State_used]) | split | (refine (still_each _ _ _ (fun x t => ?_)).trans ?_) | (refine (still_when _ _ _ (fun t => ?_)).trans ?_) | (refine (still_foldl _ _ _ (fun t x => ?_)).trans ?_) | (rename_i h; refine (congrArg (fun x => State.still (Prod.fst x)) h).symm.trans ?_; simp only [still_State_eccRead, still_State_pkeRun, still_State_pkeEnd, still_State_modKey, still_State_pkeNext, apply_ite State.still, apply_ite Prod.fst, ite_self, implies_true, eq_self, still_foldl, still_each, still_when, still_State_emit, still_State_used]; done) | (refine (still_State_eccRead _ _ _ _ (fun t => ?_)).trans ?_) | intro x)

theorem still_execCntRead (a1) (a2) (a3) (s : State) : ∀ t, execCntRead a1 a2 a3 s = .next t → t.still = s.still := by
  intro t h; unfold execCntRead at h
  rcases h
  simp only [still_State_admitCmd, still_State_ok, implies_true, eq_self]

theorem still_execQuantisationInstant (s : State) : ∀ t, execQuantisationInstant s = .next t → t.still = s.still := by
  intro t h; unfold execQuantisationInstant at h
  rcases h
  simp only [still_each, still_State_publish, apply_ite State.still, ite_self, implies_true, eq_self, still_each]

theorem still_execTraceCfg (a1) (a2) (a3) (a4) (a5) (a6) (a7) (s : State) : ∀ t, execTraceCfg a1 a2 a3 a4 a5 a6 a7 s = .next t → t.still = s.still := by
  intro t h; unfold execTraceCfg at h
  rcases h
  simp only [still_State_admitWith, still_State_ok, still_State_setRing, implies_true, eq_self]

theorem still_State_traceCtl (h) (ring) (bad) (act : State → State) (s : State) (k : ∀ t, (act t).still = t.still) :
    ∀ t, s.traceCtl h ring bad act = .next t → t.still = s.still := by
  intro t e; unfold State.traceCtl at e
  rcases e
  exact still_State_admitCmd _ _ _ _ _ fun p t => (still_State_ok ..).trans (k t)

theorem still_execTraceStart (h) (ring) (s : State) : ∀ t, execTraceStart h ring s = .next t → t.still = s.still :=
  still_State_traceCtl _ _ _ _ _ fun t => by
  simp only [apply_ite State.still, still_State_setRing, ite_self]

theorem still_execTraceStop (h) (ring) (s : State) : ∀ t, execTraceStop h ring s = .next t → t.still = s.still :=
  still_State_traceCtl _ _ _ _ _ fun t => still_State_stopRing ..

theorem still_execTraceTriggerNow (h) (ring) (s : State) : ∀ t, execTraceTriggerNow h ring s = .next t → t.still = s.still :=
  still_State_traceCtl _ _ _ _ _ fun t => still_State_trigger ..

theorem still_execTraceReleaseFreeze (h) (ring) (s : State) : ∀ t, execTraceReleaseFreeze h ring s = .next t → t.still = s.still :=
  still_State_traceCtl _ _ _ _ _ fun t => still_State_setRing ..

theorem still_execTraceSectorTimeout (a1) (a2) (s : State) : ∀ t, execTraceSectorTimeout a1 a2 s = .next t → t.still = s.still := by
  intro t h; unfold execTraceSectorTimeout at h
  rcases h
  simp only [still_State_writeRing, still_State_setRing, apply_ite State.still, ite_self, eq_self]

theorem still_execObsMark (a1) (a2) (a3) (a4) (s : State) : ∀ t, execObsMark a1 a2 a3 a4 s = .next t → t.still = s.still := by
  intro t h; unfold execObsMark at h
  rcases h
  simp only [still_State_portWrite, still_State_mark, implies_true, eq_self]

theorem still_execSaSeed (a1) (a2) (s : State) : ∀ t, execSaSeed a1 a2 s = .next t → t.still = s.still := by
  intro t h; unfold execSaSeed at h
  rcases h
  simp only [still_State_admitCmd, still_State_ok, still_State_modSg, implies_true, eq_self]

theorem still_execSaStep (a1) (a2) (s : State) : ∀ t, execSaStep a1 a2 s = .next t → t.still = s.still := by
  intro t h; unfold execSaStep at h
  rcases h
  simp only [still_State_admitCmd, still_State_ok, still_State_modSg, still_State_dumpNext, still_State_modObs, implies_true, eq_self]

theorem still_execTensorReg (a1) (a2) (a3) (a4) (s : State) : ∀ t, execTensorReg a1 a2 a3 a4 s = .next t → t.still = s.still := by
  intro t h; unfold execTensorReg at h
  rcases h
  simp only [still_State_admitCmd, still_State_ok, still_State_modObs, implies_true, eq_self]

theorem still_execDumpChunkCapture (a1) (a2) (a3) (s : State) : ∀ t, execDumpChunkCapture a1 a2 a3 s = .next t → t.still = s.still := by
  intro t h; unfold execDumpChunkCapture at h
  rcases h
  repeat' (first | with_reducible rfl | (simp only [still_State_innerRead, still_State_sealRec, still_State_cdmWrite, still_State_modObs, still_State_dumpNext, still_State_dumpEnd, apply_ite State.still, apply_ite Prod.fst, ite_self, implies_true, eq_self, still_foldl, still_each, still_when, still_State_emit, still_State_used]; done) | (simp only [still_State_innerRead, still_State_sealRec, still_State_cdmWrite, still_State_modObs, still_State_dumpNext, still_State_dumpEnd, apply_ite State.still, apply_ite Prod.fst, ite_self, implies_true, eq_self, still_foldl, still_each, still_when, still_State_emit, still_State_used]) | split | (refine (still_each _ _ _ (fun x t => ?_)).trans ?_) | (refine (still_when _ _ _ (fun t => ?_)).trans ?_) | (refine (still_foldl _ _ _ (fun t x => ?_)).trans ?_) | (rename_i h; refine (congrArg (fun x => State.still (Prod.fst x)) h).symm.trans ?_; simp only [still_State_innerRead, still_State_sealRec, still_State_cdmWrite, still_State_modObs, still_State_dumpNext, still_State_dumpEnd, apply_ite State.still, apply_ite Prod.fst, ite_self, implies_true, eq_self, still_foldl, still_each, still_when, still_State_emit, still_State_used]; done) | intro x)

theorem still_execDumpStepTimeout (a1) (a2) (s : State) : ∀ t, execDumpStepTimeout a1 a2 s = .next t → t.still = s.still := by
  intro t h; unfold execDumpStepTimeout at h
  rcases h
  repeat' (first | with_reducible rfl | (simp only [still_State_dumpEnd, apply_ite State.still, apply_ite Prod.fst, ite_self, implies_true, eq_self, still_foldl, still_each, still_when, still_State_emit, still_State_used]; done) | (simp only [still_State_dumpEnd, apply_ite State.still, apply_ite Prod.fst, ite_self, implies_true, eq_self, still_foldl, still_each, still_when, still_State_emit, still_State_used]) | split | (refine (still_each _ _ _ (fun x t => ?_)).trans ?_) | (refine (still_when _ _ _ (fun t => ?_)).trans ?_) | (refine (still_foldl _ _ _ (fun t x => ?_)).trans ?_) | (rename_i h; refine (congrArg (fun x => State.still (Prod.fst x)) h).symm.trans ?_; simp only [still_State_dumpEnd, apply_ite State.still, apply_ite Prod.fst, ite_self, implies_true, eq_self, still_foldl, still_each, still_when, still_State_emit, still_State_used]; done) | intro x)

theorem still_execPressRead (a1) (a2) (a3) (s : State) : ∀ t, execPressRead a1 a2 a3 s = .next t → t.still = s.still := by
  intro t h; unfold execPressRead at h
  rcases h
  simp only [still_State_admitCmd, still_State_okTrailer, implies_true, eq_self]

theorem still_execPressRelease (a1) (s : State) : ∀ t, execPressRelease a1 s = .next t → t.still = s.still := by
  intro t h; unfold execPressRelease at h
  rcases h
  simp only [still_State_admitCmd, still_State_ok, still_State_unfreeze, implies_true, eq_self]

theorem still_execPressFlush (s : State) : ∀ t, execPressFlush s = .next t → t.still = s.still := by
  intro t h; unfold execPressFlush at h
  rcases h
  simp only [still_State_flushPress, apply_ite State.still, ite_self, eq_self]

theorem still_execTrigPulseEnd (a1) (s : State) : ∀ t, execTrigPulseEnd a1 s = .next t → t.still = s.still := by
  intro t h; unfold execTrigPulseEnd at h
  rcases h
  simp only [still_State_modPins, still_State_modDt, still_each, still_State_schedEnds, apply_ite State.still, ite_self, implies_true, eq_self, still_each]

theorem still_execStopMarkerSend (a1) (a2) (s : State) : ∀ t, execStopMarkerSend a1 a2 s = .next t → t.still = s.still := by
  intro t h; unfold execStopMarkerSend at h
  rcases h
  simp only [still_State_enqueue, still_State_setStop, apply_ite State.still, ite_self, eq_self]

theorem still_execStopMarkerRx (a1) (a2) (a3) (s : State) : ∀ t, execStopMarkerRx a1 a2 a3 s = .next t → t.still = s.still := by
  intro t h; unfold execStopMarkerRx at h
  rcases h
  simp only [still_State_rx, still_State_applyMarker, implies_true, eq_self]

theorem still_execStopMarkerTimeout (a1) (s : State) : ∀ t, execStopMarkerTimeout a1 s = .next t → t.still = s.still := by
  intro t h; unfold execStopMarkerTimeout at h
  rcases h
  simp only [still_State_resumeGo, still_State_stopLoses, eq_self]

theorem still_execSchedCommit (a1) (s : State) : ∀ t, execSchedCommit a1 s = .next t → t.still = s.still := by
  intro t h; unfold execSchedCommit at h
  rcases h
  simp only [still_State_fires, still_State_actCommit, implies_true, eq_self]

theorem still_execSchedEpoch (a1) (s : State) : ∀ t, execSchedEpoch a1 s = .next t → t.still = s.still := by
  intro t h; unfold execSchedEpoch at h
  rcases h
  simp only [still_State_fires, still_State_actEpoch, implies_true, eq_self]

theorem still_execSchedResalt (a1) (s : State) : ∀ t, execSchedResalt a1 s = .next t → t.still = s.still := by
  intro t h; unfold execSchedResalt at h
  rcases h
  simp only [still_State_fires, still_State_actResalt, implies_true, eq_self]

theorem still_execSchedStop (a1) (s : State) : ∀ t, execSchedStop a1 s = .next t → t.still = s.still := by
  intro t h; unfold execSchedStop at h
  rcases h
  simp only [still_State_fires, still_State_actStop, implies_true, eq_self]

theorem still_execSchedTraceTrig (a1) (s : State) : ∀ t, execSchedTraceTrig a1 s = .next t → t.still = s.still := by
  intro t h; unfold execSchedTraceTrig at h
  rcases h
  simp only [still_State_fires, still_State_actTrace, implies_true, eq_self]

theorem still_execSchedDump (a1) (s : State) : ∀ t, execSchedDump a1 s = .next t → t.still = s.still := by
  intro t h; unfold execSchedDump at h
  rcases h
  simp only [still_State_fires, still_State_actDump, implies_true, eq_self]

theorem still_execSchedTrigOut (a1) (s : State) : ∀ t, execSchedTrigOut a1 s = .next t → t.still = s.still := by
  intro t h; unfold execSchedTrigOut at h
  rcases h
  simp only [still_State_fires, still_State_actTrig, implies_true, eq_self]

theorem still_execSchedResume (a1) (s : State) : ∀ t, execSchedResume a1 s = .next t → t.still = s.still := by
  intro t h; unfold execSchedResume at h
  rcases h
  simp only [still_State_resume, still_State_fires, still_State_actResume, apply_ite State.still, ite_self, implies_true, eq_self]

theorem still_execDomainSchedEntryRx (a1) (a2) (a3) (s : State) : ∀ t, execDomainSchedEntryRx a1 a2 a3 s = .next t → t.still = s.still := by
  intro t h; unfold execDomainSchedEntryRx at h
  rcases h
  simp only [still_State_rx, still_State_applyEntry, implies_true, eq_self]

theorem still_execDomainSchedCancelRx (a1) (a2) (a3) (s : State) : ∀ t, execDomainSchedCancelRx a1 a2 a3 s = .next t → t.still = s.still := by
  intro t h; unfold execDomainSchedCancelRx at h
  rcases h
  simp only [still_State_rx, still_State_applyCancel, implies_true, eq_self]

theorem still_execSchedArm (a1) (a2) (s : State) : ∀ t, execSchedArm a1 a2 s = .next t → t.still = s.still := by
  intro t h; unfold execSchedArm at h
  rcases h
  simp only [still_State_admitCmd, still_State_setSched, still_State_ok, still_State_broadcast, still_State_see, apply_ite State.still, ite_self, implies_true, eq_self]

theorem still_execSchedCancel (a1) (a2) (a3) (s : State) : ∀ t, execSchedCancel a1 a2 a3 s = .next t → t.still = s.still := by
  intro t h; unfold execSchedCancel at h
  rcases h
  repeat' (first | with_reducible rfl | (simp only [still_State_admitCmd, still_State_setSched, still_State_ok, still_State_broadcast, still_State_see, still_State_endsWith, apply_ite State.still, apply_ite Prod.fst, ite_self, implies_true, eq_self, still_foldl, still_each, still_when, still_State_emit, still_State_used]; done) | (simp only [still_State_admitCmd, still_State_setSched, still_State_ok, still_State_broadcast, still_State_see, still_State_endsWith, apply_ite State.still, apply_ite Prod.fst, ite_self, implies_true, eq_self, still_foldl, still_each, still_when, still_State_emit, still_State_used]) | split | (refine (still_each _ _ _ (fun x t => ?_)).trans ?_) | (refine (still_when _ _ _ (fun t => ?_)).trans ?_) | (refine (still_foldl _ _ _ (fun t x => ?_)).trans ?_) | (rename_i h; refine (congrArg (fun x => State.still (Prod.fst x)) h).symm.trans ?_; simp only [still_State_admitCmd, still_State_setSched, still_State_ok, still_State_broadcast, still_State_see, still_State_endsWith, apply_ite State.still, apply_ite Prod.fst, ite_self, implies_true, eq_self, still_foldl, still_each, still_when, still_State_emit, still_State_used]; done) | (refine (still_State_admitCmd _ _ _ _ _ (fun y0 t => ?_)).trans ?_) | intro x)

theorem still_execResealRegion (a1) (a2) (a3) (s : State) : ∀ t, execResealRegion a1 a2 a3 s = .next t → t.still = s.still := by
  intro t h; unfold execResealRegion at h
  rcases h
  repeat' (first | with_reducible rfl | (simp only [still_State_flow, still_State_backWhere, still_State_resealEnd, still_State_setReseal, still_State_setAnchor, still_State_useRegion, still_State_commitWindow, still_State_breach, still_State_wiltRegion, still_State_resealTo, apply_ite State.still, apply_ite Prod.fst, ite_self, implies_true, eq_self, still_foldl, still_each, still_when, still_State_emit, still_State_used]; done) | (simp only [still_State_flow, still_State_backWhere, still_State_resealEnd, still_State_setReseal, still_State_setAnchor, still_State_useRegion, still_State_commitWindow, still_State_breach, still_State_wiltRegion, still_State_resealTo, apply_ite State.still, apply_ite Prod.fst, ite_self, implies_true, eq_self, still_foldl, still_each, still_when, still_State_emit, still_State_used]) | split | (refine (still_each _ _ _ (fun x t => ?_)).trans ?_) | (refine (still_when _ _ _ (fun t => ?_)).trans ?_) | (refine (still_foldl _ _ _ (fun t x => ?_)).trans ?_) | (rename_i h; refine (congrArg (fun x => State.still (Prod.fst x)) h).symm.trans ?_; simp only [still_State_flow, still_State_backWhere, still_State_resealEnd, still_State_setReseal, still_State_setAnchor, still_State_useRegion, still_State_commitWindow, still_State_breach, still_State_wiltRegion, still_State_resealTo, apply_ite State.still, apply_ite Prod.fst, ite_self, implies_true, eq_self, still_foldl, still_each, still_when, still_State_emit, still_State_used]; done) | intro x)

theorem still_execPfenceAckRise (a1) (s : State) : ∀ t, execPfenceAckRise a1 s = .next t → t.still = s.still := by
  intro t h; unfold execPfenceAckRise at h
  rcases h
  simp only [still_State_modPins, still_State_resetsGo, still_State_fenceMn, still_State_lowerPfence, apply_ite State.still, ite_self, eq_self]

theorem still_execPfenceAckFall (a1) (s : State) : ∀ t, execPfenceAckFall a1 s = .next t → t.still = s.still := by
  intro t h; unfold execPfenceAckFall at h
  rcases h
  simp only [still_State_modPins, still_State_raisePfence, apply_ite State.still, ite_self, eq_self]

theorem still_execEngRstAckRise (a1) (s : State) : ∀ t, execEngRstAckRise a1 s = .next t → t.still = s.still := by
  intro t h; unfold execEngRstAckRise at h
  rcases h
  repeat' (first | with_reducible rfl | (simp only [still_State_modPins, still_State_modRst, apply_ite State.still, apply_ite Prod.fst, ite_self, implies_true, eq_self, still_foldl, still_each, still_when, still_State_emit, still_State_used]; done) | (simp only [still_State_modPins, still_State_modRst, apply_ite State.still, apply_ite Prod.fst, ite_self, implies_true, eq_self, still_foldl, still_each, still_when, still_State_emit, still_State_used]) | split | (refine (still_each _ _ _ (fun x t => ?_)).trans ?_) | (refine (still_when _ _ _ (fun t => ?_)).trans ?_) | (refine (still_foldl _ _ _ (fun t x => ?_)).trans ?_) | (rename_i h; refine (congrArg (fun x => State.still (Prod.fst x)) h).symm.trans ?_; simp only [still_State_modPins, still_State_modRst, apply_ite State.still, apply_ite Prod.fst, ite_self, implies_true, eq_self, still_foldl, still_each, still_when, still_State_emit, still_State_used]; done) | intro x)

theorem still_execEngRstAckFall (a1) (s : State) : ∀ t, execEngRstAckFall a1 s = .next t → t.still = s.still := by
  intro t h; unfold execEngRstAckFall at h
  rcases h
  repeat' (first | with_reducible rfl | (simp only [still_State_modPins, still_State_engineEnd, still_State_resetsGo, apply_ite State.still, apply_ite Prod.fst, ite_self, implies_true, eq_self, still_foldl, still_each, still_when, still_State_emit, still_State_used]; done) | (simp only [still_State_modPins, still_State_engineEnd, still_State_resetsGo, apply_ite State.still, apply_ite Prod.fst, ite_self, implies_true, eq_self, still_foldl, still_each, still_when, still_State_emit, still_State_used]) | split | (refine (still_each _ _ _ (fun x t => ?_)).trans ?_) | (refine (still_when _ _ _ (fun t => ?_)).trans ?_) | (refine (still_foldl _ _ _ (fun t x => ?_)).trans ?_) | (rename_i h; refine (congrArg (fun x => State.still (Prod.fst x)) h).symm.trans ?_; simp only [still_State_modPins, still_State_engineEnd, still_State_resetsGo, apply_ite State.still, apply_ite Prod.fst, ite_self, implies_true, eq_self, still_foldl, still_each, still_when, still_State_emit, still_State_used]; done) | intro x)

theorem still_execCstopAckRise (s : State) : ∀ t, execCstopAckRise s = .next t → t.still = s.still := by
  intro t h; unfold execCstopAckRise at h
  rcases h
  simp only [still_State_modPins, still_State_lowerCstop, apply_ite State.still, ite_self, eq_self]

theorem still_execCstopAckFall (s : State) : ∀ t, execCstopAckFall s = .next t → t.still = s.still := by
  intro t h; unfold execCstopAckFall at h
  rcases h
  simp only [still_State_modPins, still_State_raiseCstop, apply_ite State.still, ite_self, eq_self]

theorem still_execTeardownDrainEnd (a1) (s : State) : ∀ t, execTeardownDrainEnd a1 s = .next t → t.still = s.still := by
  intro t h; unfold execTeardownDrainEnd at h
  rcases h
  simp only [still_State_ctxResetEnd, still_State_teardownEnd, still_State_endSteps, apply_ite State.still, ite_self, eq_self]

theorem still_execRstContext (a1) (a2) (s : State) : ∀ t, execRstContext a1 a2 s = .next t → t.still = s.still := by
  intro t h; unfold execRstContext at h
  rcases h
  simp only [still_State_admitWith, still_State_addStep, still_State_modCtx, still_State_ctxResetEnd, still_State_drainCtx, still_State_tilesFenced, still_State_discardQueues, implies_true, eq_self]

theorem still_execRstEngine (a1) (a2) (s : State) : ∀ t, execRstEngine a1 a2 s = .next t → t.still = s.still := by
  intro t h; unfold execRstEngine at h
  rcases h
  simp only [still_State_admitCmd, still_State_engineStep, implies_true, eq_self]

theorem still_execRstPartition (a1) (s : State) : ∀ t, execRstPartition a1 s = .next t → t.still = s.still := by
  intro t h; unfold execRstPartition at h
  rcases h
  simp only [still_State_admitCmd, still_State_partStep, implies_true, eq_self]

theorem still_execPartRelease (a1) (a2) (s : State) : ∀ t, execPartRelease a1 a2 s = .next t → t.still = s.still := by
  intro t h; unfold execPartRelease at h
  rcases h
  simp only [still_State_eraseRecord, still_State_admitCmd, still_State_partStep, apply_ite State.still, ite_self, implies_true, eq_self]

theorem still_execDomainTeardown (a1) (s : State) : ∀ t, execDomainTeardown a1 s = .next t → t.still = s.still := by
  intro t h; unfold execDomainTeardown at h
  rcases h
  simp only [still_State_admitCmd, still_State_partStep, still_State_closePart, implies_true, eq_self]

theorem still_execScrubStepDone (a1) (s : State) : ∀ t, execScrubStepDone a1 s = .next t → t.still = s.still := by
  intro t h; unfold execScrubStepDone at h
  rcases h
  repeat' (first | with_reducible rfl | (simp only [still_State_modPart, still_State_scrubRetire, still_State_scrubAnchors, still_State_fill, still_State_endSteps, still_State_drawnPr, still_each, still_State_finishRetire, still_State_retire, still_State_scrubFree, apply_ite State.still, apply_ite Prod.fst, ite_self, implies_true, eq_self, still_foldl, still_each, still_when, still_State_emit, still_State_used]; done) | (simp only [still_State_modPart, still_State_scrubRetire, still_State_scrubAnchors, still_State_fill, still_State_endSteps, still_State_drawnPr, still_each, still_State_finishRetire, still_State_retire, still_State_scrubFree, apply_ite State.still, apply_ite Prod.fst, ite_self, implies_true, eq_self, still_foldl, still_each, still_when, still_State_emit, still_State_used]) | split | (refine (still_each _ _ _ (fun x t => ?_)).trans ?_) | (refine (still_when _ _ _ (fun t => ?_)).trans ?_) | (refine (still_foldl _ _ _ (fun t x => ?_)).trans ?_) | (rename_i h; refine (congrArg (fun x => State.still (Prod.fst x)) h).symm.trans ?_; simp only [still_State_modPart, still_State_scrubRetire, still_State_scrubAnchors, still_State_fill, still_State_endSteps, still_State_drawnPr, still_each, still_State_finishRetire, still_State_retire, still_State_scrubFree, apply_ite State.still, apply_ite Prod.fst, ite_self, implies_true, eq_self, still_foldl, still_each, still_when, still_State_emit, still_State_used]; done) | intro x)

theorem still_execZeroFillRegion (a1) (a2) (s : State) : ∀ t, execZeroFillRegion a1 a2 s = .next t → t.still = s.still := by
  intro t h; unfold execZeroFillRegion at h
  rcases h
  repeat' (first | with_reducible rfl | (simp only [still_State_zeroRegion, still_State_setAnchor, still_State_modPart, apply_ite State.still, apply_ite Prod.fst, ite_self, implies_true, eq_self, still_foldl, still_each, still_when, still_State_emit, still_State_used]; done) | (simp only [still_State_zeroRegion, still_State_setAnchor, still_State_modPart, apply_ite State.still, apply_ite Prod.fst, ite_self, implies_true, eq_self, still_foldl, still_each, still_when, still_State_emit, still_State_used]) | split | (refine (still_each _ _ _ (fun x t => ?_)).trans ?_) | (refine (still_when _ _ _ (fun t => ?_)).trans ?_) | (refine (still_foldl _ _ _ (fun t x => ?_)).trans ?_) | (rename_i h; refine (congrArg (fun x => State.still (Prod.fst x)) h).symm.trans ?_; simp only [still_State_zeroRegion, still_State_setAnchor, still_State_modPart, apply_ite State.still, apply_ite Prod.fst, ite_self, implies_true, eq_self, still_foldl, still_each, still_when, still_State_emit, still_State_used]; done) | intro x)

theorem still_execChipRstReqTimeout (s : State) : ∀ t, execChipRstReqTimeout s = .next t → t.still = s.still := by
  intro t h; unfold execChipRstReqTimeout at h
  rcases h
  simp only [still_State_chipHung, eq_self]

theorem still_execPowerCycleMessageResend (s : State) : ∀ t, execPowerCycleMessageResend s = .next t → t.still = s.still := by
  intro t h; unfold execPowerCycleMessageResend at h
  rcases h
  simp only [still_State_sendPwr, apply_ite State.still, ite_self, eq_self]

theorem still_execRstChip (a1) (s : State) : ∀ t, execRstChip a1 s = .next t → t.still = s.still := by
  intro t h; unfold execRstChip at h
  rcases h
  simp only [still_State_admitCmd, still_State_chipRequest, implies_true, eq_self]

theorem still_execPwrCycle (a1) (s : State) : ∀ t, execPwrCycle a1 s = .next t → t.still = s.still := by
  intro t h; unfold execPwrCycle at h
  rcases h
  simp only [still_State_admitCmd, still_State_askPower, still_State_wipeMemSlots, still_each, still_State_raisePfence, still_State_fenceAll, still_State_modBoot, implies_true, eq_self, still_each]

theorem still_execLockstepMismatch (s : State) : ∀ t, execLockstepMismatch s = .next t → t.still = s.still := by
  intro t h; unfold execLockstepMismatch at h
  rcases h
  simp only [still_State_critical, apply_ite State.still, ite_self, eq_self]

theorem still_execEscalationDeadline (a1) (a2) (s : State) : ∀ t, execEscalationDeadline a1 a2 s = .next t → t.still = s.still := by
  intro t h; unfold execEscalationDeadline at h
  rcases h
  repeat' (first | with_reducible rfl | (simp only [still_State_escalateCtx, still_State_escalateEng, still_State_chipRequest, still_State_count, still_State_endSteps, still_State_chipHung, apply_ite State.still, apply_ite Prod.fst, ite_self, implies_true, eq_self, still_foldl, still_each, still_when, still_State_emit, still_State_used]; done) | (simp only [still_State_escalateCtx, still_State_escalateEng, still_State_chipRequest, still_State_count, still_State_endSteps, still_State_chipHung, apply_ite State.still, apply_ite Prod.fst, ite_self, implies_true, eq_self, still_foldl, still_each, still_when, still_State_emit, still_State_used]) | split | (refine (still_each _ _ _ (fun x t => ?_)).trans ?_) | (refine (still_when _ _ _ (fun t => ?_)).trans ?_) | (refine (still_foldl _ _ _ (fun t x => ?_)).trans ?_) | (rename_i h; refine (congrArg (fun x => State.still (Prod.fst x)) h).symm.trans ?_; simp only [still_State_escalateCtx, still_State_escalateEng, still_State_chipRequest, still_State_count, still_State_endSteps, still_State_chipHung, apply_ite State.still, apply_ite Prod.fst, ite_self, implies_true, eq_self, still_foldl, still_each, still_when, still_State_emit, still_State_used]; done) | intro x)

theorem still_execResetNRelease (s : State) : ∀ t, execResetNRelease s = .next t → t.still = s.still := by
  intro t h; unfold execResetNRelease at h
  rcases h
  simp only [still_State_leaveReset, still_State_modPins, eq_self]

theorem still_execStormHoldExpire (s : State) : ∀ t, execStormHoldExpire s = .next t → t.still = s.still := by
  intro t h; unfold execStormHoldExpire at h
  rcases h
  simp only [still_State_leaveReset, still_State_flag, still_State_modBoot, apply_ite State.still, ite_self, eq_self]

theorem still_execTrefLost (s : State) : ∀ t, execTrefLost s = .next t → t.still = s.still := by
  intro t h; unfold execTrefLost at h
  rcases h
  simp only [still_State_modDt, still_State_dtTo, apply_ite State.still, ite_self, eq_self]

theorem still_execTrefReturn (s : State) : ∀ t, execTrefReturn s = .next t → t.still = s.still := by
  intro t h; unfold execTrefReturn at h
  rcases h
  simp only [still_State_modDt, still_State_leaveReset, apply_ite State.still, ite_self, eq_self]

theorem still_execWarmReqNRelease (s : State) : ∀ t, execWarmReqNRelease s = .next t → t.still = s.still := by
  intro t h; unfold execWarmReqNRelease at h
  rcases h
  simp only [still_State_modPins, eq_self]

theorem still_execRetReqRise (s : State) : ∀ t, execRetReqRise s = .next t → t.still = s.still := by
  intro t h; unfold execRetReqRise at h
  rcases h
  simp only [still_State_modPins, still_State_modBoot, still_State_backWhere, still_each, still_State_fencePart, apply_ite State.still, ite_self, implies_true, eq_self, still_each]

theorem still_execRetentionFlushDone (s : State) : ∀ t, execRetentionFlushDone s = .next t → t.still = s.still := by
  intro t h; unfold execRetentionFlushDone at h
  rcases h
  simp only [still_State_modBoot, still_State_modPins, still_State_retUndo, apply_ite State.still, ite_self, eq_self]

theorem still_execRetReqFall (s : State) : ∀ t, execRetReqFall s = .next t → t.still = s.still := by
  intro t h; unfold execRetReqFall at h
  rcases h
  simp only [still_State_modPins, still_State_retUndo, apply_ite State.still, ite_self, eq_self]

theorem still_execSupplyWarnAssert (s : State) : ∀ t, execSupplyWarnAssert s = .next t → t.still = s.still := by
  intro t h; unfold execSupplyWarnAssert at h
  rcases h
  simp only [still_State_freezePress, still_State_modPins, apply_ite State.still, ite_self, eq_self]

theorem still_execSensorCapture (a1) (a2) (s : State) : ∀ t, execSensorCapture a1 a2 s = .next t → t.still = s.still := by
  intro t h; unfold execSensorCapture at h
  rcases h
  simp only [still_State_snsFire, still_State_modPins, apply_ite State.still, ite_self, eq_self]

theorem still_execSupplyWarnRelease (s : State) : ∀ t, execSupplyWarnRelease s = .next t → t.still = s.still := by
  intro t h; unfold execSupplyWarnRelease at h
  rcases h
  simp only [still_State_modPins, still_State_chipRequest, still_State_burnStart, apply_ite State.still, ite_self, eq_self]

theorem still_execFuseSenseDone (a1) (s : State) : ∀ t, execFuseSenseDone a1 s = .next t → t.still = s.still := by
  intro t h; unfold execFuseSenseDone at h
  rcases h
  simp only [still_State_modPins, still_State_modBoot, still_State_snsFire, still_State_phaseTo, still_State_settle463, still_State_burnOn, still_State_setBurns, apply_ite State.still, ite_self, eq_self]

theorem still_execHusGenerate (s : State) : ∀ t, execHusGenerate s = .next t → t.still = s.still := by
  intro t h; unfold execHusGenerate at h
  rcases h
  simp only [still_State_modBoot, still_State_drawnPr, still_State_burnOn, still_State_setBurns, apply_ite State.still, ite_self, eq_self]

theorem still_execUserAreaEraseDone (a1) (a2) (s : State) : ∀ t, execUserAreaEraseDone a1 a2 s = .next t → t.still = s.still := by
  intro t h; unfold execUserAreaEraseDone at h
  rcases h
  simp only [still_State_modObs, still_State_modAtt, still_State_burnOn, still_State_setBurns, still_State_phaseTo, still_State_afterWipe, still_State_modBoot, apply_ite State.still, ite_self, eq_self]

theorem still_execAnchorInitDone (s : State) : ∀ t, execAnchorInitDone s = .next t → t.still = s.still := by
  intro t h; unfold execAnchorInitDone at h
  rcases h
  simp only [still_State_modBoot, still_State_modSg, apply_ite State.still, ite_self, eq_self]

theorem still_execSnowdrop (a1) (a2) (a3) (s : State) : ∀ t, execSnowdrop a1 a2 a3 s = .next t → t.still = s.still := by
  intro t h; unfold execSnowdrop at h
  rcases h
  simp only [still_State_clearSlots, still_State_modKey, still_State_deriveKeys, still_State_drawnPr, still_State_fill, still_State_modBoot, still_State_modObs, still_State_modAtt, still_State_phaseTo, still_State_unfreeze, still_State_modPins, apply_ite State.still, ite_self, eq_self]

theorem still_execTolaroBootDone (s : State) : ∀ t, execTolaroBootDone s = .next t → t.still = s.still := by
  intro t h; unfold execTolaroBootDone at h
  rcases h
  repeat' (first | with_reducible rfl | (simp only [still_State_dropRecords, still_State_flushPress, still_State_pressGoOn, still_State_adoptAll, still_each, still_State_reassign, still_State_armDefaults, still_State_phaseTo, still_State_modPins, apply_ite State.still, apply_ite Prod.fst, ite_self, implies_true, eq_self, still_foldl, still_each, still_when, still_State_emit, still_State_used]; done) | (simp only [still_State_dropRecords, still_State_flushPress, still_State_pressGoOn, still_State_adoptAll, still_each, still_State_reassign, still_State_armDefaults, still_State_phaseTo, still_State_modPins, apply_ite State.still, apply_ite Prod.fst, ite_self, implies_true, eq_self, still_foldl, still_each, still_when, still_State_emit, still_State_used]) | split | (refine (still_each _ _ _ (fun x t => ?_)).trans ?_) | (refine (still_when _ _ _ (fun t => ?_)).trans ?_) | (refine (still_foldl _ _ _ (fun t x => ?_)).trans ?_) | (rename_i h; refine (congrArg (fun x => State.still (Prod.fst x)) h).symm.trans ?_; simp only [still_State_dropRecords, still_State_flushPress, still_State_pressGoOn, still_State_adoptAll, still_each, still_State_reassign, still_State_armDefaults, still_State_phaseTo, still_State_modPins, apply_ite State.still, apply_ite Prod.fst, ite_self, implies_true, eq_self, still_foldl, still_each, still_when, still_State_emit, still_State_used]; done) | intro x)

theorem still_execRejoinReassign (a1) (s : State) : ∀ t, execRejoinReassign a1 s = .next t → t.still = s.still := by
  intro t h; unfold execRejoinReassign at h
  rcases h
  repeat' (first | with_reducible rfl | (simp only [still_State_reassign, apply_ite State.still, apply_ite Prod.fst, ite_self, implies_true, eq_self, still_foldl, still_each, still_when, still_State_emit, still_State_used]; done) | (simp only [still_State_reassign, apply_ite State.still, apply_ite Prod.fst, ite_self, implies_true, eq_self, still_foldl, still_each, still_when, still_State_emit, still_State_used]) | split | (refine (still_each _ _ _ (fun x t => ?_)).trans ?_) | (refine (still_when _ _ _ (fun t => ?_)).trans ?_) | (refine (still_foldl _ _ _ (fun t x => ?_)).trans ?_) | (rename_i h; refine (congrArg (fun x => State.still (Prod.fst x)) h).symm.trans ?_; simp only [still_State_reassign, apply_ite State.still, apply_ite Prod.fst, ite_self, implies_true, eq_self, still_foldl, still_each, still_when, still_State_emit, still_State_used]; done) | intro x)

theorem still_execLcTransition (a1) (a2) (a3) (s : State) : ∀ t, execLcTransition a1 a2 a3 s = .next t → t.still = s.still := by
  intro t h; unfold execLcTransition at h
  rcases h
  simp only [still_State_admitCmd, still_State_modBoot, still_State_press, still_State_burnOn, still_State_setBurns, implies_true, eq_self]

theorem still_execDbgChallenge (a1) (a2) (s : State) : ∀ t, execDbgChallenge a1 a2 s = .next t → t.still = s.still := by
  intro t h; unfold execDbgChallenge at h
  rcases h
  simp only [still_State_admitWith, still_State_ok, still_State_modBoot, still_State_drawn, implies_true, eq_self]

theorem still_execDbgToken (a1) (a2) (s : State) : ∀ t, execDbgToken a1 a2 s = .next t → t.still = s.still := by
  intro t h; unfold execDbgToken at h
  rcases h
  repeat' (first | with_reducible rfl | (simp only [still_when, still_State_modBoot, still_State_admitCmd, still_State_clearSlots, still_State_ok, still_State_press, apply_ite State.still, apply_ite Prod.fst, ite_self, implies_true, eq_self, still_foldl, still_each, still_when, still_State_emit, still_State_used]; done) | (simp only [still_when, still_State_modBoot, still_State_admitCmd, still_State_clearSlots, still_State_ok, still_State_press, apply_ite State.still, apply_ite Prod.fst, ite_self, implies_true, eq_self, still_foldl, still_each, still_when, still_State_emit, still_State_used]) | split | (refine (still_each _ _ _ (fun x t => ?_)).trans ?_) | (refine (still_when _ _ _ (fun t => ?_)).trans ?_) | (refine (still_foldl _ _ _ (fun t x => ?_)).trans ?_) | (rename_i h; refine (congrArg (fun x => State.still (Prod.fst x)) h).symm.trans ?_; simp only [still_when, still_State_modBoot, still_State_admitCmd, still_State_clearSlots, still_State_ok, still_State_press, apply_ite State.still, apply_ite Prod.fst, ite_self, implies_true, eq_self, still_foldl, still_each, still_when, still_State_emit, still_State_used]; done) | (refine (still_State_admitCmd _ _ _ _ _ (fun y0 t => ?_)).trans ?_) | intro x)

theorem still_execChallengeExpire (s : State) : ∀ t, execChallengeExpire s = .next t → t.still = s.still := by
  intro t h; unfold execChallengeExpire at h
  rcases h
  simp only [still_State_modBoot, eq_self]

theorem still_execDebugHalt (a1) (a2) (s : State) : ∀ t, execDebugHalt a1 a2 s = .next t → t.still = s.still := by
  intro t h; unfold execDebugHalt at h
  rcases h
  simp only [still_State_coreWrite, still_State_coreHalt, implies_true, eq_self]

theorem still_execDebugStep (a1) (s : State) : ∀ t, execDebugStep a1 s = .next t → t.still = s.still := by
  intro t h; unfold execDebugStep at h
  rcases h
  simp only [still_State_coreWrite, still_State_coreStep, implies_true, eq_self]

theorem still_execRegisterWrite (a1) (s : State) : ∀ t, execRegisterWrite a1 s = .next t → t.still = s.still := by
  intro t h; unfold execRegisterWrite at h
  rcases h
  simp only [still_State_access, still_State_emit, still_State_otherAccess, apply_ite State.still, ite_self, eq_self, still_State_emit]

end Sys2Proof.Machine
end

