-- ==== Sys2Proof/Laws/Table.lean ====
section
/-!
SUPPORT. Laws of the sparse tables of Word.lean: reading after a write, and the canonical form that every write keeps.
-/
namespace Sys2Proof

@[simp] theorem Tab.find_nil {α : Type} (k : Nat) : Tab.find ([] : Tab α) k = none := rfl

@[simp] theorem Tab.get_nil {α : Type} (d : α) (k : Nat) : Tab.get ([] : Tab α) d k = d := rfl

theorem Tab.find_put {α : Type} (t : Tab α) (k j : Nat) (v : α) :
    (t.put k v).find j = if k = j then some v else t.find j := by
  induction t with
  | nil => simp [Tab.put, Tab.find]
  | cons x r ih =>
    obtain ⟨i, w⟩ := x
    unfold Tab.put
    by_cases h : i = k
    · subst h
      by_cases e : i = j <;> simp [Tab.find, e]
    · by_cases l : k < i
      · simp only [h, l, if_true, if_false]
        by_cases e : k = j <;> simp [Tab.find, e]
      · simp only [h, l, if_false, Tab.find]
        by_cases e : i = j
        · have : k ≠ j := fun q => h (e.trans q.symm)
          simp [e, this]
        · simp [e, ih]

theorem Tab.find_drop {α : Type} (t : Tab α) (k j : Nat) :
    (t.drop k).find j = if k = j then none else t.find j := by
  induction t with
  | nil => simp [Tab.drop, Tab.find]
  | cons x r ih =>
    obtain ⟨i, w⟩ := x
    by_cases h : i = k
    · subst h
      have : Tab.drop ((i, w) :: r) i = Tab.drop r i := by simp [Tab.drop]
      rw [this, ih]
      by_cases e : i = j <;> simp [Tab.find, e]
    · have : Tab.drop ((i, w) :: r) k = (i, w) :: Tab.drop r k := by simp [Tab.drop, h]
      rw [this]
      by_cases e : i = j
      · have : k ≠ j := fun q => h (e.trans q.symm)
        simp [Tab.find, e, this]
      · simp [Tab.find, e, ih]

/-- Reading after a write: the key written gives the value, every other key what it gave. -/
theorem Tab.get_set {α : Type} [DecidableEq α] (t : Tab α) (d : α) (k j : Nat) (v : α) :
    (t.set d k v).get d j = if k = j then v else t.get d j := by
  unfold Tab.set Tab.get
  by_cases h : v = d
  · rw [if_pos h, Tab.find_drop]
    by_cases e : k = j <;> simp [e, h]
  · rw [if_neg h, Tab.find_put]
    by_cases e : k = j <;> simp [e]

@[simp] theorem Tab.get_set_same {α : Type} [DecidableEq α] (t : Tab α) (d : α) (k : Nat) (v : α) :
    (t.set d k v).get d k = v := by simp [Tab.get_set]

theorem Tab.get_set_other {α : Type} [DecidableEq α] (t : Tab α) (d : α) {k j : Nat} (v : α) (h : k ≠ j) :
    (t.set d k v).get d j = t.get d j := by simp [Tab.get_set, h]

/-- Changing an entry by a function: its own key gives the changed entry, every other key what it gave. -/
theorem Tab.get_upd {α : Type} [DecidableEq α] (t : Tab α) (d : α) (k j : Nat) (f : α → α) :
    (t.upd d k f).get d j = if k = j then f (t.get d k) else t.get d j := Tab.get_set ..

theorem Tab.keys_drop {α : Type} (t : Tab α) (k : Nat) (p : Nat → Bool) (h : t.all (fun x => p x.1) = true) :
    (t.drop k).all (fun x => p x.1) = true := by
  rw [List.all_eq_true] at h ⊢
  exact fun x hx => h x (List.mem_of_mem_filter hx)

theorem Tab.keys_put {α : Type} (t : Tab α) (k : Nat) (v : α) (p : Nat → Bool) (hk : p k = true)
    (h : t.all (fun x => p x.1) = true) : (t.put k v).all (fun x => p x.1) = true := by
  induction t with
  | nil => simp [Tab.put, hk]
  | cons x r ih =>
    obtain ⟨i, w⟩ := x
    simp only [List.all_cons, Bool.and_eq_true] at h
    unfold Tab.put
    split
    · simp [hk, h.2]
    · split
      · simp [hk, h.1, h.2]
      · simp [h.1, ih h.2]

theorem Tab.wf_drop {α : Type} [DecidableEq α] (d : α) (t : Tab α) (k : Nat) (h : Tab.wf d t = true) :
    Tab.wf d (t.drop k) = true := by
  induction t with
  | nil => simp [Tab.drop, Tab.wf]
  | cons x r ih =>
    obtain ⟨i, w⟩ := x
    simp only [Tab.wf, Bool.and_eq_true] at h
    by_cases e : i = k
    · have : Tab.drop ((i, w) :: r) k = Tab.drop r k := by simp [Tab.drop, e]
      rw [this]; exact ih h.2
    · have : Tab.drop ((i, w) :: r) k = (i, w) :: Tab.drop r k := by simp [Tab.drop, e]
      rw [this]
      simp only [Tab.wf, Bool.and_eq_true]
      exact ⟨⟨h.1.1, Tab.keys_drop r k (fun n => decide (i < n)) h.1.2⟩, ih h.2⟩

theorem Tab.wf_put {α : Type} [DecidableEq α] (d : α) (t : Tab α) (k : Nat) (v : α) (hv : v ≠ d) (h : Tab.wf d t = true) :
    Tab.wf d (t.put k v) = true := by
  induction t with
  | nil => simp [Tab.put, Tab.wf, hv]
  | cons x r ih =>
    obtain ⟨i, w⟩ := x
    simp only [Tab.wf, Bool.and_eq_true] at h
    unfold Tab.put
    by_cases e : i = k
    · subst e
      simp only [if_true, Tab.wf, Bool.and_eq_true]
      exact ⟨⟨by simp [hv], h.1.2⟩, h.2⟩
    · by_cases l : k < i
      · simp only [e, l, if_true, if_false, Tab.wf, Bool.and_eq_true, List.all_cons]
        refine ⟨⟨by simp [hv], by simp, ?_⟩, ⟨h.1.1, h.1.2⟩, h.2⟩
        have := h.1.2
        rw [List.all_eq_true] at this ⊢
        exact fun x hx => by
          have := this x hx
          simp only [decide_eq_true_eq] at this ⊢
          omega
      · simp only [e, l, if_false, Tab.wf, Bool.and_eq_true]
        exact ⟨⟨h.1.1, Tab.keys_put r k v (fun n => decide (i < n)) (by simp only [decide_eq_true_eq]; omega) h.1.2⟩, ih h.2⟩

/-- A write keeps the canonical form. -/
theorem Tab.wf_set {α : Type} [DecidableEq α] (d : α) (t : Tab α) (k : Nat) (v : α) (h : Tab.wf d t = true) :
    Tab.wf d (t.set d k v) = true := by
  unfold Tab.set
  split
  · exact Tab.wf_drop d t k h
  · rename_i hv
    exact Tab.wf_put d t k v hv h

theorem Tab.wf_upd {α : Type} [DecidableEq α] (d : α) (t : Tab α) (k : Nat) (f : α → α) (h : Tab.wf d t = true) :
    Tab.wf d (t.upd d k f) = true := Tab.wf_set d t k _ h

end Sys2Proof
end

