-- ==== Sys2Proof/Laws/Otp.lean ====
section
/-!
SUPPORT. The commands that can program a fuse: what they keep, and that a blown fuse bit stays blown (R94, R459).
-/
namespace Sys2Proof.Machine

/-- From one state to another the parameters, the queue and the time base are kept, every blown fuse bit stays blown and the fuse
array keeps its canonical form. -/
def State.Kept (s t : State) : Prop :=
  t.params = s.params ∧ t.pending = s.pending ∧ t.tref = s.tref ∧ (∀ w, s.fuseW w &&& t.fuseW w = s.fuseW w)
    ∧ (Tab.wf 0 s.fuse = true → Tab.wf 0 t.fuse = true)

theorem State.Kept.refl (s : State) : s.Kept s := ⟨rfl, rfl, rfl, fun _ => BitVec.and_self, id⟩

theorem State.Kept.trans {s t u : State} (a : s.Kept t) (b : t.Kept u) : s.Kept u := by
  refine ⟨b.1.trans a.1, b.2.1.trans a.2.1, b.2.2.1.trans a.2.2.1, fun w => ?_, fun h => b.2.2.2.2 (a.2.2.2.2 h)⟩
  have h1 := a.2.2.2.1 w
  have h2 := b.2.2.2.1 w
  calc s.fuseW w &&& u.fuseW w = (s.fuseW w &&& t.fuseW w) &&& u.fuseW w := by rw [h1]
    _ = s.fuseW w &&& (t.fuseW w &&& u.fuseW w) := BitVec.and_assoc ..
    _ = s.fuseW w := by rw [h2, h1]

/-- What keeps `still` keeps all of it. -/
theorem State.Kept.of_still {s t : State} (h : t.still = s.still) : s.Kept t := by
  simp only [State.still, Prod.mk.injEq] at h
  obtain ⟨a, b, c, d⟩ := h
  refine ⟨a, b, c, fun w => ?_, fun q => d ▸ q⟩
  unfold State.fuseW
  rw [d, BitVec.and_self]

theorem kept_burn (w b : Nat) (s : State) : s.Kept (s.burn w b) := by
  refine ⟨rfl, rfl, rfl, fun j => ?_, fun h => Tab.wf_set 0 s.fuse w _ h⟩
  unfold State.burn State.fuseW
  simp only [Tab.get_set]
  split
  · rename_i e
    subst e
    ext i
    simp only [BitVec.getElem_and, BitVec.getElem_or]
    cases (Tab.get s.fuse 0 w)[i] <;> simp
  · exact BitVec.and_self

theorem kept_cutBurn (s : State) : s.Kept s.cutBurn := by
  unfold State.cutBurn
  split
  · refine State.Kept.trans ?_ (.of_still (still_State_used _))
    split
    · exact kept_burn ..
    · exact .refl s
  · exact .refl s

theorem kept_takeReset (n : Nat) (a b : Bool) (s : State) : s.Kept (s.takeReset n a b) := by
  have h : ∀ t : State, t.still = s.still → s.Kept t.cutBurn := fun t e => (State.Kept.of_still e).trans (kept_cutBurn t)
  unfold State.takeReset
  extract_lets exits source warm0 again warm prev step t d u v
  have ht : s.Kept t := h _ (by
    split
    · rfl
    · exact still_State_freezePress ..)
  refine ht.trans ?_
  have hu : u.still = t.still := rfl
  have hv : v.still = u.still :=
    (still_State_modBoot ..).trans <| (still_State_setFld ..).trans <| (still_State_setFld ..).trans (still_State_setFld ..)
  split
  · exact .of_still ((still_State_flag ..).trans (hv.trans hu))
  · exact .of_still (hv.trans hu)

theorem kept_leaveReset (s : State) : s.Kept s.leaveReset := .of_still (still_State_leaveReset s)

theorem kept_warmRequest (n : Nat) (s : State) : s.Kept (s.warmRequest n) := by
  unfold State.warmRequest
  split
  · exact .refl s
  · split
    · exact (kept_takeReset ..).trans (kept_leaveReset _)
    · exact .of_still ((still_State_modBoot ..).trans ((still_State_backWhere ..).trans ((still_State_fenceAll _).trans (still_State_press ..))))

theorem kept_each {α : Type} (l : List α) (f : α → State → State) (s : State) (h : ∀ x (t : State), t.Kept (f x t)) : s.Kept (each l f s) := by
  unfold each
  induction l generalizing s with
  | nil => exact .refl s
  | cons a l ih => exact (h a s).trans (ih (f a s))

theorem kept_admit (r : Row) (h : Hdr) (fs : List Fail) (act : Pend → State → State) (s : State)
    (k : ∀ p (t : State), t.Kept (act p t)) : s.Kept (s.admitCmd r h fs act) := by
  unfold State.admitCmd State.admitWith
  split
  · exact .refl s
  · split
    · exact .of_still (still_State_hold ..)
    · have rr := still_State_ringRead h s
      split
      rename_i u rd er
      rw [er] at rr
      simp only []
      generalize (if rd ≠ .done then (rd, 0xFF) else if (!r.prof.has u.params.profile) = true then (.badOpcode, 0xFF)
        else failStatus (u.headFails r h ++ fs)) = f
      have tk := (still_State_takePacket r.opc h (decide (f.1 ≠ .refusedIssuer)) u).trans rr
      split
      · exact .of_still ((still_State_refuse ..).trans ((still_State_reserve ..).trans tk))
      · exact (State.Kept.of_still ((still_State_accept ..).trans tk)).trans (k _ _)

theorem kept_execRstWarm (h : Hdr) (s t : State) (e : execRstWarm h s = .next t) : s.Kept t := by
  unfold execRstWarm at e
  cases e
  exact kept_admit _ _ _ _ _ fun _ _ => kept_warmRequest ..

theorem kept_execPowerOn (s t : State) (e : execPowerOn s = .next t) : s.Kept t := by
  unfold execPowerOn at e
  cases e
  split
  · exact .refl s
  · exact (State.Kept.of_still (still_State_modPins ..)).trans ((kept_takeReset ..).trans (kept_leaveReset _))

theorem kept_execVddRetRemove (s t : State) (e : execVddRetRemove s = .next t) : s.Kept t := by
  unfold execVddRetRemove at e
  cases e
  split
  · exact (kept_takeReset ..).trans (.of_still ((still_State_modBoot ..).trans (still_State_modPins ..)))
  · exact .refl s

theorem kept_execResetNAssert (s t : State) (e : execResetNAssert s = .next t) : s.Kept t := by
  unfold execResetNAssert at e
  cases e
  have hp : s.Kept (s.modPins fun p => { p with resetN := false }) := .of_still (still_State_modPins ..)
  simp only []
  split
  · exact hp
  · refine State.Kept.trans ?_ (.of_still (still_State_modBoot ..))
    split
    · exact hp.trans ((kept_takeReset ..).trans (.of_still (still_State_modBoot ..)))
    · split
      · exact hp
      · exact hp.trans (kept_takeReset ..)

theorem kept_execWarmReqNAssert (s t : State) (e : execWarmReqNAssert s = .next t) : s.Kept t := by
  unfold execWarmReqNAssert at e
  cases e
  split
  · exact .refl s
  · exact (State.Kept.of_still (still_State_modPins ..)).trans (kept_warmRequest ..)

theorem kept_execWarmFlushDone (s t : State) (e : execWarmFlushDone s = .next t) : s.Kept t := by
  unfold execWarmFlushDone at e
  cases e
  split
  · split
    · exact (kept_takeReset ..).trans (kept_leaveReset _)
    · exact .refl s
  · exact .refl s

theorem kept_execWarmFlushOverrun (s t : State) (e : execWarmFlushOverrun s = .next t) : s.Kept t := by
  unfold execWarmFlushOverrun at e
  cases e
  split
  · exact (kept_takeReset ..).trans ((State.Kept.of_still (still_State_flag ..)).trans (kept_leaveReset _))
  · exact .refl s

theorem kept_execWatchdogExpire (s t : State) (e : execWatchdogExpire s = .next t) : s.Kept t := by
  unfold execWatchdogExpire at e
  cases e
  split
  · exact .refl s
  · split
    · exact kept_warmRequest ..
    · exact .of_still (still_State_chipRequest ..)

theorem kept_burnOn (s : State) : s.Kept s.burnOn := .of_still (still_State_burnOn s)

theorem kept_execFusePgmDone (b : Bool) (s t : State) (e : execFusePgmDone b s = .next t) : s.Kept t := by
  unfold execFusePgmDone at e
  cases e
  split
  · split
    · exact (kept_burn ..).trans ((State.Kept.of_still (still_State_modBoot ..)).trans (kept_burnOn _))
    · split
      · exact (State.Kept.of_still (still_State_modBoot ..)).trans (kept_burnOn _)
      · simp only []
        exact (State.Kept.of_still (still_State_flag ..)).trans ((State.Kept.of_still (still_State_modBoot ..)).trans (kept_burnOn _))
  · exact .refl s

theorem kept_bareCommand (opc : Nat) (h : Hdr) (s t : State) (e : bareCommand opc h s = .next t) : s.Kept t := by
  unfold bareCommand at e
  split at e
  · exact .of_still (still_execNop _ _ _ e)
  split at e
  · exact .of_still (still_execIdentify _ _ _ e)
  split at e
  · exact .of_still (still_execDomainTeardown _ _ _ e)
  split at e
  · exact .of_still (still_execKeyReseal _ _ _ e)
  split at e
  · exact .of_still (still_execPressRelease _ _ _ e)
  split at e
  · exact .of_still (still_execRstPartition _ _ _ e)
  split at e
  · exact kept_execRstWarm _ _ _ e
  split at e
  · exact .of_still (still_execRstChip _ _ _ e)
  split at e
  · exact .of_still (still_execPwrCycle _ _ _ e)
  split at e
  · exact .of_still (still_execDbgToken _ _ _ _ e)
  split at e
  · cases e
    exact kept_admit _ _ _ _ _ fun _ _ => .refl _
  · cases e
    exact .of_still (still_State_badOpcode ..)

theorem kept_execMailboxSecuredMessage (tr : Transport) (sid : Nat) (v : Bool) (i : Issuer) (p : Nat) (q : Word) (o : Nat)
    (s t : State) (e : execMailboxSecuredMessage tr sid v i p q o s = .next t) : s.Kept t := by
  unfold execMailboxSecuredMessage at e
  split at e
  · split at e
    · exact kept_bareCommand _ _ _ _ e
    · cases e
      exact .of_still (still_State_badRecord ..)
  · split at e
    · exact kept_bareCommand _ _ _ _ e
    · cases e
      exact .of_still (still_State_badRecord ..)
  · cases e
    exact .refl s

end Sys2Proof.Machine
end

