-- ==== Sys2Proof/Laws/Quiet.lean ====
section
/-!
SUPPORT. Bring-up and life-cycle state, pins, domain time, host ports, partitions and management, reset units, remote operations: no
operation below changes any of them. One law for each operation and each command of that kind.
-/
set_option linter.unusedSimpArgs false
set_option linter.unusedVariables false
set_option linter.unusedTactic false
set_option linter.unreachableTactic false
namespace Sys2Proof.Machine

/-- The units that the operations of this file leave as they are. -/
def State.quiet (s : State) : Boot × Pins × Dt × Hst × Att × Rst × Rem := (s.boot, s.pins, s.dt, s.hst, s.att, s.rst, s.rem)

theorem quiet_State_modObs (f) (s : State) : (State.modObs f s).quiet = s.quiet := rfl

theorem quiet_State_modSg (f) (s : State) : (State.modSg f s).quiet = s.quiet := rfl

theorem quiet_State_modCmd (f) (s : State) : (State.modCmd f s).quiet = s.quiet := rfl

theorem quiet_State_modKey (f) (s : State) : (State.modKey f s).quiet = s.quiet := rfl

theorem quiet_State_modObju (f) (s : State) : (State.modObju f s).quiet = s.quiet := rfl

theorem quiet_State_modRegf (f) (s : State) : (State.modRegf f s).quiet = s.quiet := rfl

theorem quiet_State_modLnk (f) (s : State) : (State.modLnk f s).quiet = s.quiet := rfl

theorem quiet_State_modShare (f) (s : State) : (State.modShare f s).quiet = s.quiet := rfl

theorem quiet_State_emit (x) (s : State) : (s.emit x).quiet = s.quiet := rfl

theorem quiet_State_used (s : State) : (s.used).quiet = s.quiet := rfl

theorem quiet_foldl {α} (f : State → α → State) (l : List α) (s : State) (h : ∀ t x, (f t x).quiet = t.quiet) : (l.foldl f s).quiet = s.quiet := by
  induction l generalizing s with
  | nil => rfl
  | cons a l ih => exact (ih (f s a)).trans (h s a)

theorem quiet_foldFst {α β} (f : State × β → α → State × β) (l : List α) (x : State × β) (h : ∀ x k, (f x k).1.quiet = x.1.quiet) :
    (l.foldl f x).1.quiet = x.1.quiet := by
  induction l generalizing x with
  | nil => rfl
  | cons a l ih => exact (ih (f x a)).trans (h x a)

theorem quiet_each {α} (l : List α) (f : α → State → State) (s : State) (h : ∀ x t, (f x t).quiet = t.quiet) : (each l f s).quiet = s.quiet := by
  unfold each
  induction l generalizing s with
  | nil => rfl
  | cons a l ih => exact (ih (f a s)).trans (h a s)

theorem quiet_when (b) (f : State → State) (s : State) (h : ∀ t, (f t).quiet = t.quiet) : (when b f s).quiet = s.quiet := by
  unfold when; split
  · exact h s
  · rfl

theorem quiet_State_setReg (a1) (a2) (s : State) : (State.setReg a1 a2 s).quiet = s.quiet := by
  unfold State.setReg
  simp only [quiet_State_modRegf, eq_self]

theorem quiet_State_setFld (a1) (a2) (a3) (a4) (s : State) : (State.setFld a1 a2 a3 a4 s).quiet = s.quiet := by
  unfold State.setFld
  simp only [quiet_State_setReg, eq_self]

theorem quiet_State_flag (a1) (a2) (s : State) : (State.flag a1 a2 s).quiet = s.quiet := by
  unfold State.flag
  simp only [quiet_State_setReg, eq_self]

theorem quiet_State_count (a1) (a2) (a3) (a4) (s : State) : (State.count a1 a2 a3 a4 s).quiet = s.quiet := by
  unfold State.count
  simp only [quiet_State_setFld, eq_self]

theorem quiet_State_busErr (a1) (s : State) : (State.busErr a1 s).quiet = s.quiet := by
  unfold State.busErr
  simp only [quiet_State_flag, quiet_State_setReg, quiet_State_modObs, apply_ite State.quiet, ite_self, eq_self]

theorem quiet_State_glob (a1) (a2) (s : State) : (State.glob a1 a2 s).quiet = s.quiet := by
  unfold State.glob
  simp only [quiet_State_modObs, eq_self]

theorem quiet_State_cntr (a1) (a2) (a3) (s : State) : (State.cntr a1 a2 a3 s).quiet = s.quiet := by
  unfold State.cntr
  simp only [quiet_State_glob, quiet_State_modObs, apply_ite State.quiet, ite_self, eq_self]

theorem quiet_State_zeroCntrs (a1) (s : State) : (State.zeroCntrs a1 s).quiet = s.quiet := by
  unfold State.zeroCntrs
  simp only [quiet_State_modObs, eq_self]

theorem quiet_State_pressLoss (s : State) : (State.pressLoss s).quiet = s.quiet := by
  unfold State.pressLoss
  simp only [quiet_State_modObs, quiet_State_glob, quiet_State_count, eq_self]

theorem quiet_State_pressW (a1) (a2) (a3) (a4) (a5) (a6) (s : State) : (State.pressW a1 a2 a3 a4 a5 a6 s).quiet = s.quiet := by
  unfold State.pressW
  simp only [quiet_State_pressLoss, quiet_State_glob, quiet_State_modObs, apply_ite State.quiet, ite_self, eq_self]

theorem quiet_State_press (a1) (a2) (a3) (a4) (s : State) : (State.press a1 a2 a3 a4 s).quiet = s.quiet := by
  unfold State.press
  simp only [quiet_State_used, quiet_State_pressW, eq_self, quiet_State_used]

theorem quiet_State_setFreeze (a1) (s : State) : (State.setFreeze a1 s).quiet = s.quiet := by
  unfold State.setFreeze
  simp only [quiet_State_modObs, eq_self]

theorem quiet_State_freezePress (a1) (a2) (a3) (a4) (a5) (s : State) : (State.freezePress a1 a2 a3 a4 a5 s).quiet = s.quiet := by
  unfold State.freezePress
  simp only [quiet_State_setFreeze, quiet_State_used, quiet_State_pressW, eq_self, quiet_State_used]

theorem quiet_State_unfreeze (a1) (a2) (a3) (s : State) : (State.unfreeze a1 a2 a3 s).quiet = s.quiet := by
  unfold State.unfreeze
  simp only [quiet_State_modObs, quiet_State_pressW, apply_ite State.quiet, ite_self, eq_self]

theorem quiet_State_modUnit (a1) (a2) (s : State) : (State.modUnit a1 a2 s).quiet = s.quiet := by
  unfold State.modUnit
  simp only [quiet_State_modShare, eq_self]

theorem quiet_State_wants (a1) (s : State) : (State.wants a1 s).quiet = s.quiet := by
  unfold State.wants
  repeat' (first | with_reducible rfl | (simp only [quiet_State_modUnit, apply_ite State.quiet, apply_ite Prod.fst, ite_self, implies_true, eq_self, quiet_foldl, quiet_each, quiet_when, quiet_State_emit, quiet_State_used]; done) | (simp only [quiet_State_modUnit, apply_ite State.quiet, apply_ite Prod.fst, ite_self, implies_true, eq_self, quiet_foldl, quiet_each, quiet_when, quiet_State_emit, quiet_State_used]) | split | (refine (quiet_each _ _ _ (fun x t => ?_)).trans ?_) | (refine (quiet_when _ _ _ (fun t => ?_)).trans ?_) | (refine (quiet_foldl _ _ _ (fun t x => ?_)).trans ?_) | (rename_i h; refine (congrArg (fun x => State.quiet (Prod.fst x)) h).symm.trans ?_; simp only [quiet_State_modUnit, apply_ite State.quiet, apply_ite Prod.fst, ite_self, implies_true, eq_self, quiet_foldl, quiet_each, quiet_when, quiet_State_emit, quiet_State_used]; done) | (refine (quiet_foldFst _ _ _ (fun x k => ?_)).trans ?_) | intro x)

theorem quiet_State_groupWork (a1) (a2) (s : State) : (State.groupWork a1 a2 s).quiet = s.quiet := by
  unfold State.groupWork
  simp only [quiet_State_wants, quiet_State_modShare, apply_ite State.quiet, ite_self, eq_self]

theorem quiet_State_setSlot (a1) (a2) (s : State) : (State.setSlot a1 a2 s).quiet = s.quiet := by
  unfold State.setSlot
  simp only [quiet_State_modKey, eq_self]

theorem quiet_State_modSlot (a1) (a2) (s : State) : (State.modSlot a1 a2 s).quiet = s.quiet := by
  unfold State.modSlot
  simp only [quiet_State_setSlot, eq_self]

theorem quiet_State_burn (a1) (a2) (s : State) : (State.burn a1 a2 s).quiet = s.quiet := by
  unfold State.burn
  rfl

theorem quiet_State_fill (a1) (a2) (a3) (a4) (a5) (a6) (a7) (a8) (a9) (s : State) : (State.fill a1 a2 a3 a4 a5 a6 a7 a8 a9 s).quiet = s.quiet := by
  unfold State.fill
  simp only [quiet_State_setSlot, eq_self]

theorem quiet_State_dropDkc (a1) (s : State) : (State.dropDkc a1 s).quiet = s.quiet := by
  unfold State.dropDkc
  simp only [quiet_State_modKey, eq_self]

theorem quiet_State_dropTag (a1) (s : State) : (State.dropTag a1 s).quiet = s.quiet := by
  unfold State.dropTag
  simp only [quiet_State_modKey, eq_self]

theorem quiet_State_retire (a1) (s : State) : (State.retire a1 s).quiet = s.quiet := by
  unfold State.retire
  simp only [quiet_State_modKey, quiet_State_dropDkc, quiet_State_modSlot, apply_ite State.quiet, ite_self, eq_self]

theorem quiet_State_refillSlot (a1) (s : State) : (State.refillSlot a1 s).quiet = s.quiet := by
  unfold State.refillSlot
  repeat' (first | with_reducible rfl | (simp only [quiet_State_modKey, quiet_State_fill, apply_ite State.quiet, apply_ite Prod.fst, ite_self, implies_true, eq_self, quiet_foldl, quiet_each, quiet_when, quiet_State_emit, quiet_State_used]; done) | (simp only [quiet_State_modKey, quiet_State_fill, apply_ite State.quiet, apply_ite Prod.fst, ite_self, implies_true, eq_self, quiet_foldl, quiet_each, quiet_when, quiet_State_emit, quiet_State_used]) | split | (refine (quiet_each _ _ _ (fun x t => ?_)).trans ?_) | (refine (quiet_when _ _ _ (fun t => ?_)).trans ?_) | (refine (quiet_foldl _ _ _ (fun t x => ?_)).trans ?_) | (rename_i h; refine (congrArg (fun x => State.quiet (Prod.fst x)) h).symm.trans ?_; simp only [quiet_State_modKey, quiet_State_fill, apply_ite State.quiet, apply_ite Prod.fst, ite_self, implies_true, eq_self, quiet_foldl, quiet_each, quiet_when, quiet_State_emit, quiet_State_used]; done) | (refine (quiet_foldFst _ _ _ (fun x k => ?_)).trans ?_) | intro x)

theorem quiet_State_finishRetire (a1) (s : State) : (State.finishRetire a1 s).quiet = s.quiet := by
  unfold State.finishRetire
  simp only [quiet_State_modSlot, quiet_State_refillSlot, quiet_State_setSlot, apply_ite State.quiet, ite_self, eq_self]

theorem quiet_State_settleSlot (a1) (s : State) : (State.settleSlot a1 s).quiet = s.quiet := by
  unfold State.settleSlot
  simp only [quiet_State_finishRetire, apply_ite State.quiet, ite_self, eq_self]

theorem quiet_State_retireFor (a1) (a2) (s : State) : (State.retireFor a1 a2 s).quiet = s.quiet := by
  unfold State.retireFor
  simp only [quiet_State_modKey, quiet_State_retire, eq_self]

theorem quiet_State_retireAll (a1) (s : State) : (State.retireAll a1 s).quiet = s.quiet := by
  unfold State.retireAll
  simp only [quiet_State_modKey, quiet_each, quiet_State_retire, implies_true, eq_self, quiet_each]

theorem quiet_State_renew (a1) (a2) (a3) (a4) (s : State) : (State.renew a1 a2 a3 a4 s).quiet = s.quiet := by
  unfold State.renew
  simp only [quiet_State_fill, quiet_State_settleSlot, quiet_State_retire, eq_self]

theorem quiet_State_wipeMemSlots (s : State) : (State.wipeMemSlots s).quiet = s.quiet := by
  unfold State.wipeMemSlots
  simp only [quiet_each, quiet_State_finishRetire, quiet_State_retire, quiet_State_modKey, implies_true, eq_self, quiet_each]

theorem quiet_State_clearSlots (a1) (s : State) : (State.clearSlots a1 s).quiet = s.quiet := by
  unfold State.clearSlots
  simp only [quiet_State_modKey, eq_self]

theorem quiet_State_pkeAdd (a1) (s : State) : (State.pkeAdd a1 s).quiet = s.quiet := by
  unfold State.pkeAdd
  simp only [quiet_State_modKey, eq_self]

theorem quiet_State_setAnchor (a1) (a2) (s : State) : (State.setAnchor a1 a2 s).quiet = s.quiet := by
  unfold State.setAnchor
  simp only [quiet_State_modSg, eq_self]

theorem quiet_State_useAnchor (a1) (s : State) : (State.useAnchor a1 s).1.quiet = s.quiet := by
  unfold State.useAnchor
  simp only [quiet_State_press, quiet_State_glob, quiet_State_setAnchor, apply_ite State.quiet, apply_ite Prod.fst, ite_self, eq_self]

theorem quiet_State_wiltAnchor (a1) (s : State) : (State.wiltAnchor a1 s).quiet = s.quiet := by
  unfold State.wiltAnchor
  simp only [quiet_State_setAnchor, quiet_State_modSg, quiet_State_cntr, quiet_State_press, eq_self]

theorem quiet_State_useRegion (a1) (s : State) : (State.useRegion a1 s).1.quiet = s.quiet := by
  unfold State.useRegion
  simp only [quiet_State_useAnchor, quiet_State_cntr, quiet_State_wiltAnchor, apply_ite State.quiet, apply_ite Prod.fst, ite_self, eq_self]

theorem quiet_State_modLine (a1) (a2) (s : State) : (State.modLine a1 a2 s).quiet = s.quiet := by
  unfold State.modLine
  simp only [quiet_State_modSg, eq_self]

theorem quiet_State_insertLine (a1) (a2) (s : State) : (State.insertLine a1 a2 s).quiet = s.quiet := by
  unfold State.insertLine
  repeat' (first | with_reducible rfl | (simp only [quiet_State_modSg, apply_ite State.quiet, apply_ite Prod.fst, ite_self, implies_true, eq_self, quiet_foldl, quiet_each, quiet_when, quiet_State_emit, quiet_State_used]; done) | (simp only [quiet_State_modSg, apply_ite State.quiet, apply_ite Prod.fst, ite_self, implies_true, eq_self, quiet_foldl, quiet_each, quiet_when, quiet_State_emit, quiet_State_used]) | split | (refine (quiet_each _ _ _ (fun x t => ?_)).trans ?_) | (refine (quiet_when _ _ _ (fun t => ?_)).trans ?_) | (refine (quiet_foldl _ _ _ (fun t x => ?_)).trans ?_) | (rename_i h; refine (congrArg (fun x => State.quiet (Prod.fst x)) h).symm.trans ?_; simp only [quiet_State_modSg, apply_ite State.quiet, apply_ite Prod.fst, ite_self, implies_true, eq_self, quiet_foldl, quiet_each, quiet_when, quiet_State_emit, quiet_State_used]; done) | (refine (quiet_foldFst _ _ _ (fun x k => ?_)).trans ?_) | intro x)

theorem quiet_State_touchLine (a1) (s : State) : (State.touchLine a1 s).quiet = s.quiet := by
  unfold State.touchLine
  repeat' (first | with_reducible rfl | (simp only [quiet_State_modSg, apply_ite State.quiet, apply_ite Prod.fst, ite_self, implies_true, eq_self, quiet_foldl, quiet_each, quiet_when, quiet_State_emit, quiet_State_used]; done) | (simp only [quiet_State_modSg, apply_ite State.quiet, apply_ite Prod.fst, ite_self, implies_true, eq_self, quiet_foldl, quiet_each, quiet_when, quiet_State_emit, quiet_State_used]) | split | (refine (quiet_each _ _ _ (fun x t => ?_)).trans ?_) | (refine (quiet_when _ _ _ (fun t => ?_)).trans ?_) | (refine (quiet_foldl _ _ _ (fun t x => ?_)).trans ?_) | (rename_i h; refine (congrArg (fun x => State.quiet (Prod.fst x)) h).symm.trans ?_; simp only [quiet_State_modSg, apply_ite State.quiet, apply_ite Prod.fst, ite_self, implies_true, eq_self, quiet_foldl, quiet_each, quiet_when, quiet_State_emit, quiet_State_used]; done) | (refine (quiet_foldFst _ _ _ (fun x k => ?_)).trans ?_) | intro x)

theorem quiet_State_dropRegion (a1) (s : State) : (State.dropRegion a1 s).quiet = s.quiet := by
  unfold State.dropRegion
  simp only [quiet_State_modSg, eq_self]

theorem quiet_State_msQRead (a1) (s : State) : (State.msQRead a1 s).quiet = s.quiet := by
  unfold State.msQRead
  simp only [quiet_State_emit, apply_ite State.quiet, ite_self, eq_self, quiet_State_emit]

theorem quiet_State_msQWrite (a1) (s : State) : (State.msQWrite a1 s).quiet = s.quiet := by
  unfold State.msQWrite
  simp only [quiet_State_emit, apply_ite State.quiet, ite_self, eq_self, quiet_State_emit]

theorem quiet_State_msRead (a1) (a2) (a3) (a4) (a5) (s : State) : (State.msRead a1 a2 a3 a4 a5 s).quiet = s.quiet := by
  unfold State.msRead
  simp only [quiet_State_msQRead, quiet_State_modSg, eq_self]

theorem quiet_State_msWrite (a1) (a2) (a3) (a4) (a5) (a6) (a7) (s : State) : (State.msWrite a1 a2 a3 a4 a5 a6 a7 s).quiet = s.quiet := by
  unfold State.msWrite
  simp only [quiet_State_msQWrite, quiet_State_modSg, eq_self]

theorem quiet_State_msNext (a1) (a2) (s : State) : (State.msNext a1 a2 s).quiet = s.quiet := by
  unfold State.msNext
  repeat' (first | with_reducible rfl | (simp only [quiet_State_msQRead, quiet_State_modSg, quiet_State_msQWrite, apply_ite State.quiet, apply_ite Prod.fst, ite_self, implies_true, eq_self, quiet_foldl, quiet_each, quiet_when, quiet_State_emit, quiet_State_used]; done) | (simp only [quiet_State_msQRead, quiet_State_modSg, quiet_State_msQWrite, apply_ite State.quiet, apply_ite Prod.fst, ite_self, implies_true, eq_self, quiet_foldl, quiet_each, quiet_when, quiet_State_emit, quiet_State_used]) | split | (refine (quiet_each _ _ _ (fun x t => ?_)).trans ?_) | (refine (quiet_when _ _ _ (fun t => ?_)).trans ?_) | (refine (quiet_foldl _ _ _ (fun t x => ?_)).trans ?_) | (rename_i h; refine (congrArg (fun x => State.quiet (Prod.fst x)) h).symm.trans ?_; simp only [quiet_State_msQRead, quiet_State_modSg, quiet_State_msQWrite, apply_ite State.quiet, apply_ite Prod.fst, ite_self, implies_true, eq_self, quiet_foldl, quiet_each, quiet_when, quiet_State_emit, quiet_State_used]; done) | (refine (quiet_foldFst _ _ _ (fun x k => ?_)).trans ?_) | intro x)

theorem quiet_State_fetchLine (a1) (a2) (s : State) : (State.fetchLine a1 a2 s).quiet = s.quiet := by
  unfold State.fetchLine
  repeat' (first | with_reducible rfl | (simp only [quiet_State_insertLine, quiet_State_cntr, quiet_State_glob, quiet_State_msRead, apply_ite State.quiet, apply_ite Prod.fst, ite_self, implies_true, eq_self, quiet_foldl, quiet_each, quiet_when, quiet_State_emit, quiet_State_used]; done) | (simp only [quiet_State_insertLine, quiet_State_cntr, quiet_State_glob, quiet_State_msRead, apply_ite State.quiet, apply_ite Prod.fst, ite_self, implies_true, eq_self, quiet_foldl, quiet_each, quiet_when, quiet_State_emit, quiet_State_used]) | split | (refine (quiet_each _ _ _ (fun x t => ?_)).trans ?_) | (refine (quiet_when _ _ _ (fun t => ?_)).trans ?_) | (refine (quiet_foldl _ _ _ (fun t x => ?_)).trans ?_) | (rename_i h; refine (congrArg (fun x => State.quiet (Prod.fst x)) h).symm.trans ?_; simp only [quiet_State_insertLine, quiet_State_cntr, quiet_State_glob, quiet_State_msRead, apply_ite State.quiet, apply_ite Prod.fst, ite_self, implies_true, eq_self, quiet_foldl, quiet_each, quiet_when, quiet_State_emit, quiet_State_used]; done) | (refine (quiet_foldFst _ _ _ (fun x k => ?_)).trans ?_) | intro x)

theorem quiet_State_needLine (a1) (a2) (s : State) : (State.needLine a1 a2 s).1.quiet = s.quiet := by
  unfold State.needLine
  repeat' (first | with_reducible rfl | (simp only [quiet_State_touchLine, quiet_State_fetchLine, apply_ite State.quiet, apply_ite Prod.fst, ite_self, implies_true, eq_self, quiet_foldl, quiet_each, quiet_when, quiet_State_emit, quiet_State_used]; done) | (simp only [quiet_State_touchLine, quiet_State_fetchLine, apply_ite State.quiet, apply_ite Prod.fst, ite_self, implies_true, eq_self, quiet_foldl, quiet_each, quiet_when, quiet_State_emit, quiet_State_used]) | split | (refine (quiet_each _ _ _ (fun x t => ?_)).trans ?_) | (refine (quiet_when _ _ _ (fun t => ?_)).trans ?_) | (refine (quiet_foldl _ _ _ (fun t x => ?_)).trans ?_) | (rename_i h; refine (congrArg (fun x => State.quiet (Prod.fst x)) h).symm.trans ?_; simp only [quiet_State_touchLine, quiet_State_fetchLine, apply_ite State.quiet, apply_ite Prod.fst, ite_self, implies_true, eq_self, quiet_foldl, quiet_each, quiet_when, quiet_State_emit, quiet_State_used]; done) | (refine (quiet_foldFst _ _ _ (fun x k => ?_)).trans ?_) | intro x)

theorem quiet_walkLevel (a1) (a2) (a3) (a4) (x : State × Option DWord × List LineId) (l) :
    (State.walkLevel a1 a2 a3 a4 x l).1.quiet = x.1.quiet := by
  obtain ⟨s, o, ls⟩ := x
  unfold State.walkLevel
  simp only []
  split
  · exact quiet_State_needLine ..
  · split
    · split
      · exact (quiet_State_insertLine ..).trans (quiet_State_insertLine ..)
      · exact quiet_State_insertLine ..
    · exact (quiet_State_needLine ..).trans (quiet_State_fetchLine ..)

theorem quiet_walkFold (a1) (a2) (a3) (a4) (l : List Nat) (x : State × Option DWord × List LineId) :
    (l.foldl (State.walkLevel a1 a2 a3 a4) x).1.quiet = x.1.quiet := by
  induction l generalizing x with
  | nil => rfl
  | cons a l ih => exact (ih _).trans (quiet_walkLevel ..)

theorem quiet_State_walkFrom (a1) (a2) (a3) (a4) (a5) (s : State) : (State.walkFrom a1 a2 a3 a4 a5 s).1.quiet = s.quiet := by
  unfold State.walkFrom
  exact (quiet_walkFold ..).trans (quiet_each _ _ _ fun _ _ => quiet_State_touchLine ..)

theorem quiet_State_walk (a1) (a2) (a3) (a4) (s : State) : (State.walk a1 a2 a3 a4 s).1.quiet = s.quiet := quiet_State_walkFrom ..

theorem quiet_State_useKey (a1) (a2) (s : State) : (State.useKey a1 a2 s).quiet = s.quiet := by
  unfold State.useKey
  repeat' (first | with_reducible rfl | (simp only [quiet_State_modKey, quiet_State_cntr, apply_ite State.quiet, apply_ite Prod.fst, ite_self, implies_true, eq_self, quiet_foldl, quiet_each, quiet_when, quiet_State_emit, quiet_State_used]; done) | (simp only [quiet_State_modKey, quiet_State_cntr, apply_ite State.quiet, apply_ite Prod.fst, ite_self, implies_true, eq_self, quiet_foldl, quiet_each, quiet_when, quiet_State_emit, quiet_State_used]) | split | (refine (quiet_each _ _ _ (fun x t => ?_)).trans ?_) | (refine (quiet_when _ _ _ (fun t => ?_)).trans ?_) | (refine (quiet_foldl _ _ _ (fun t x => ?_)).trans ?_) | (rename_i h; refine (congrArg (fun x => State.quiet (Prod.fst x)) h).symm.trans ?_; simp only [quiet_State_modKey, quiet_State_cntr, apply_ite State.quiet, apply_ite Prod.fst, ite_self, implies_true, eq_self, quiet_foldl, quiet_each, quiet_when, quiet_State_emit, quiet_State_used]; done) | (refine (quiet_foldFst _ _ _ (fun x k => ?_)).trans ?_) | intro x)

theorem quiet_State_insertKey (a1) (a2) (s : State) : (State.insertKey a1 a2 s).quiet = s.quiet := by
  unfold State.insertKey
  repeat' (first | with_reducible rfl | (simp only [quiet_State_modKey, apply_ite State.quiet, apply_ite Prod.fst, ite_self, implies_true, eq_self, quiet_foldl, quiet_each, quiet_when, quiet_State_emit, quiet_State_used]; done) | (simp only [quiet_State_modKey, apply_ite State.quiet, apply_ite Prod.fst, ite_self, implies_true, eq_self, quiet_foldl, quiet_each, quiet_when, quiet_State_emit, quiet_State_used]) | split | (refine (quiet_each _ _ _ (fun x t => ?_)).trans ?_) | (refine (quiet_when _ _ _ (fun t => ?_)).trans ?_) | (refine (quiet_foldl _ _ _ (fun t x => ?_)).trans ?_) | (rename_i h; refine (congrArg (fun x => State.quiet (Prod.fst x)) h).symm.trans ?_; simp only [quiet_State_modKey, apply_ite State.quiet, apply_ite Prod.fst, ite_self, implies_true, eq_self, quiet_foldl, quiet_each, quiet_when, quiet_State_emit, quiet_State_used]; done) | (refine (quiet_foldFst _ _ _ (fun x k => ?_)).trans ?_) | intro x)

theorem quiet_State_setAcc (a1) (s : State) : (State.setAcc a1 s).quiet = s.quiet := by
  unfold State.setAcc
  simp only [quiet_State_modSg, eq_self]

theorem quiet_State_dropAcc (a1) (s : State) : (State.dropAcc a1 s).quiet = s.quiet := by
  unfold State.dropAcc
  simp only [quiet_State_modSg, eq_self]

theorem quiet_State_fetch (a1) (s : State) : (State.fetch a1 s).quiet = s.quiet := by
  unfold State.fetch
  repeat' (first | with_reducible rfl | (simp only [quiet_State_useKey, quiet_State_walk, quiet_State_needLine, quiet_State_msRead, quiet_State_groupWork, quiet_State_setAcc, apply_ite State.quiet, apply_ite Prod.fst, ite_self, implies_true, eq_self, quiet_foldl, quiet_each, quiet_when, quiet_State_emit, quiet_State_used]; done) | (simp only [quiet_State_useKey, quiet_State_walk, quiet_State_needLine, quiet_State_msRead, quiet_State_groupWork, quiet_State_setAcc, apply_ite State.quiet, apply_ite Prod.fst, ite_self, implies_true, eq_self, quiet_foldl, quiet_each, quiet_when, quiet_State_emit, quiet_State_used]) | split | (refine (quiet_each _ _ _ (fun x t => ?_)).trans ?_) | (refine (quiet_when _ _ _ (fun t => ?_)).trans ?_) | (refine (quiet_foldl _ _ _ (fun t x => ?_)).trans ?_) | (rename_i h; refine (congrArg (fun x => State.quiet (Prod.fst x)) h).symm.trans ?_; simp only [quiet_State_useKey, quiet_State_walk, quiet_State_needLine, quiet_State_msRead, quiet_State_groupWork, quiet_State_setAcc, apply_ite State.quiet, apply_ite Prod.fst, ite_self, implies_true, eq_self, quiet_foldl, quiet_each, quiet_when, quiet_State_emit, quiet_State_used]; done) | (refine (quiet_foldFst _ _ _ (fun x k => ?_)).trans ?_) | intro x)

theorem quiet_State_issue (a1) (s : State) : (State.issue a1 s).quiet = s.quiet := by
  unfold State.issue
  simp only [quiet_State_useRegion, quiet_State_setAcc, quiet_State_fetch, apply_ite State.quiet, ite_self, eq_self]

theorem quiet_State_takeNo (s : State) : (State.takeNo s).quiet = s.quiet := by
  unfold State.takeNo
  simp only [quiet_State_modSg, eq_self]

theorem quiet_State_startAs (a1) (a2) (s : State) : (State.startAs a1 a2 s).quiet = s.quiet := by
  unfold State.startAs
  simp only [quiet_State_modSg, quiet_State_issue, quiet_State_glob, apply_ite State.quiet, ite_self, eq_self]

theorem quiet_State_start (a1) (s : State) : (State.start a1 s).quiet = s.quiet := by
  unfold State.start
  simp only [quiet_State_startAs, quiet_State_takeNo, eq_self]

theorem quiet_State_plotLook (a1) (a2) (s : State) : (State.plotLook a1 a2 s).1.quiet = s.quiet := by
  unfold State.plotLook
  simp only [quiet_State_modSg, apply_ite State.quiet, apply_ite Prod.fst, ite_self, eq_self]

theorem quiet_State_innerPlot (a1) (a2) (s : State) : (State.innerPlot a1 a2 s).1.quiet = s.quiet := by
  unfold State.innerPlot
  simp only [quiet_State_plotLook, apply_ite State.quiet, apply_ite Prod.fst, ite_self, eq_self]

theorem quiet_State_innerPlace (a1) (a2) (s : State) : (State.innerPlace a1 a2 s).1.quiet = s.quiet := by
  unfold State.innerPlace
  repeat' (first | with_reducible rfl | (simp only [quiet_State_press, quiet_State_useRegion, quiet_State_innerPlot, apply_ite State.quiet, apply_ite Prod.fst, ite_self, implies_true, eq_self, quiet_foldl, quiet_each, quiet_when, quiet_State_emit, quiet_State_used]; done) | (simp only [quiet_State_press, quiet_State_useRegion, quiet_State_innerPlot, apply_ite State.quiet, apply_ite Prod.fst, ite_self, implies_true, eq_self, quiet_foldl, quiet_each, quiet_when, quiet_State_emit, quiet_State_used]) | split | (refine (quiet_each _ _ _ (fun x t => ?_)).trans ?_) | (refine (quiet_when _ _ _ (fun t => ?_)).trans ?_) | (refine (quiet_foldl _ _ _ (fun t x => ?_)).trans ?_) | (rename_i h; refine (congrArg (fun x => State.quiet (Prod.fst x)) h).symm.trans ?_; simp only [quiet_State_press, quiet_State_useRegion, quiet_State_innerPlot, apply_ite State.quiet, apply_ite Prod.fst, ite_self, implies_true, eq_self, quiet_foldl, quiet_each, quiet_when, quiet_State_emit, quiet_State_used]; done) | (refine (quiet_foldFst _ _ _ (fun x k => ?_)).trans ?_) | intro x)

theorem quiet_State_plotSays (a1) (a2) (a3) (s : State) : (State.plotSays a1 a2 a3 s).quiet = s.quiet := by
  unfold State.plotSays
  repeat' (first | with_reducible rfl | (simp only [quiet_State_modSg, quiet_State_setAcc, quiet_State_useKey, apply_ite State.quiet, apply_ite Prod.fst, ite_self, implies_true, eq_self, quiet_foldl, quiet_each, quiet_when, quiet_State_emit, quiet_State_used]; done) | (simp only [quiet_State_modSg, quiet_State_setAcc, quiet_State_useKey, apply_ite State.quiet, apply_ite Prod.fst, ite_self, implies_true, eq_self, quiet_foldl, quiet_each, quiet_when, quiet_State_emit, quiet_State_used]) | split | (refine (quiet_each _ _ _ (fun x t => ?_)).trans ?_) | (refine (quiet_when _ _ _ (fun t => ?_)).trans ?_) | (refine (quiet_foldl _ _ _ (fun t x => ?_)).trans ?_) | (rename_i h; refine (congrArg (fun x => State.quiet (Prod.fst x)) h).symm.trans ?_; simp only [quiet_State_modSg, quiet_State_setAcc, quiet_State_useKey, apply_ite State.quiet, apply_ite Prod.fst, ite_self, implies_true, eq_self, quiet_foldl, quiet_each, quiet_when, quiet_State_emit, quiet_State_used]; done) | (refine (quiet_foldFst _ _ _ (fun x k => ?_)).trans ?_) | intro x)

theorem quiet_State_readPlot (a1) (a2) (a3) (s : State) : (State.readPlot a1 a2 a3 s).quiet = s.quiet := by
  unfold State.readPlot
  repeat' (first | with_reducible rfl | (simp only [quiet_State_innerPlace, quiet_State_plotSays, quiet_State_start, apply_ite State.quiet, apply_ite Prod.fst, ite_self, implies_true, eq_self, quiet_foldl, quiet_each, quiet_when, quiet_State_emit, quiet_State_used]; done) | (simp only [quiet_State_innerPlace, quiet_State_plotSays, quiet_State_start, apply_ite State.quiet, apply_ite Prod.fst, ite_self, implies_true, eq_self, quiet_foldl, quiet_each, quiet_when, quiet_State_emit, quiet_State_used]) | split | (refine (quiet_each _ _ _ (fun x t => ?_)).trans ?_) | (refine (quiet_when _ _ _ (fun t => ?_)).trans ?_) | (refine (quiet_foldl _ _ _ (fun t x => ?_)).trans ?_) | (rename_i h; refine (congrArg (fun x => State.quiet (Prod.fst x)) h).symm.trans ?_; simp only [quiet_State_innerPlace, quiet_State_plotSays, quiet_State_start, apply_ite State.quiet, apply_ite Prod.fst, ite_self, implies_true, eq_self, quiet_foldl, quiet_each, quiet_when, quiet_State_emit, quiet_State_used]; done) | (refine (quiet_foldFst _ _ _ (fun x k => ?_)).trans ?_) | intro x)

theorem quiet_State_startPlotAs (a1) (a2) (s : State) : (State.startPlotAs a1 a2 s).quiet = s.quiet := by
  unfold State.startPlotAs
  simp only [quiet_State_startAs, quiet_State_readPlot, apply_ite State.quiet, ite_self, eq_self]

theorem quiet_State_startPlot (a1) (s : State) : (State.startPlot a1 s).quiet = s.quiet := by
  unfold State.startPlot
  simp only [quiet_State_startPlotAs, quiet_State_takeNo, eq_self]

theorem quiet_State_innerAcc (a1) (a2) (a3) (a4) (a5) (s : State) : (State.innerAcc a1 a2 a3 a4 a5 s).1.quiet = s.quiet := by
  unfold State.innerAcc
  repeat' (first | with_reducible rfl | (simp only [quiet_State_innerPlace, quiet_State_startPlot, apply_ite State.quiet, apply_ite Prod.fst, ite_self, implies_true, eq_self, quiet_foldl, quiet_each, quiet_when, quiet_State_emit, quiet_State_used]; done) | (simp only [quiet_State_innerPlace, quiet_State_startPlot, apply_ite State.quiet, apply_ite Prod.fst, ite_self, implies_true, eq_self, quiet_foldl, quiet_each, quiet_when, quiet_State_emit, quiet_State_used]) | split | (refine (quiet_each _ _ _ (fun x t => ?_)).trans ?_) | (refine (quiet_when _ _ _ (fun t => ?_)).trans ?_) | (refine (quiet_foldl _ _ _ (fun t x => ?_)).trans ?_) | (rename_i h; refine (congrArg (fun x => State.quiet (Prod.fst x)) h).symm.trans ?_; simp only [quiet_State_innerPlace, quiet_State_startPlot, apply_ite State.quiet, apply_ite Prod.fst, ite_self, implies_true, eq_self, quiet_foldl, quiet_each, quiet_when, quiet_State_emit, quiet_State_used]; done) | (refine (quiet_foldFst _ _ _ (fun x k => ?_)).trans ?_) | intro x)

theorem quiet_State_innerSect (a1) (a2) (a3) (a4) (s : State) : (State.innerSect a1 a2 a3 a4 s).1.quiet = s.quiet := by
  unfold State.innerSect
  simp only [quiet_State_innerAcc, eq_self]

theorem quiet_State_innerWrite (a1) (a2) (a3) (s : State) : (State.innerWrite a1 a2 a3 s).1.quiet = s.quiet := by
  unfold State.innerWrite
  simp only [quiet_State_innerSect, eq_self]

theorem quiet_State_innerRead (a1) (a2) (a3) (s : State) : (State.innerRead a1 a2 a3 s).1.quiet = s.quiet := by
  unfold State.innerRead
  repeat' (first | with_reducible rfl | (simp only [quiet_State_innerAcc, apply_ite State.quiet, apply_ite Prod.fst, ite_self, implies_true, eq_self, quiet_foldl, quiet_each, quiet_when, quiet_State_emit, quiet_State_used]; done) | (simp only [quiet_State_innerAcc, apply_ite State.quiet, apply_ite Prod.fst, ite_self, implies_true, eq_self, quiet_foldl, quiet_each, quiet_when, quiet_State_emit, quiet_State_used]) | split | (refine (quiet_each _ _ _ (fun x t => ?_)).trans ?_) | (refine (quiet_when _ _ _ (fun t => ?_)).trans ?_) | (refine (quiet_foldl _ _ _ (fun t x => ?_)).trans ?_) | (rename_i h; refine (congrArg (fun x => State.quiet (Prod.fst x)) h).symm.trans ?_; simp only [quiet_State_innerAcc, apply_ite State.quiet, apply_ite Prod.fst, ite_self, implies_true, eq_self, quiet_foldl, quiet_each, quiet_when, quiet_State_emit, quiet_State_used]; done) | (refine (quiet_foldFst _ _ _ (fun x k => ?_)).trans ?_) | intro x)

theorem quiet_State_modSess (a1) (a2) (a3) (s : State) : (State.modSess a1 a2 a3 s).quiet = s.quiet := by
  unfold State.modSess
  simp only [quiet_State_modLnk, eq_self]

theorem quiet_State_modPort (a1) (a2) (s : State) : (State.modPort a1 a2 s).quiet = s.quiet := by
  unfold State.modPort
  simp only [quiet_State_modLnk, eq_self]

theorem quiet_State_enqueue (a1) (a2) (s : State) : (State.enqueue a1 a2 s).quiet = s.quiet := by
  unfold State.enqueue
  simp only [quiet_State_modPort, eq_self]

theorem quiet_State_refill (a1) (s : State) : (State.refill a1 s).quiet = s.quiet := by
  unfold State.refill
  simp only [quiet_State_modPort, eq_self]

theorem quiet_State_broadcast (a1) (a2) (a3) (a4) (s : State) : (State.broadcast a1 a2 a3 a4 s).quiet = s.quiet := by
  unfold State.broadcast
  simp only [quiet_each, quiet_State_enqueue, implies_true, eq_self, quiet_each]

theorem quiet_State_sendFlow (a1) (a2) (a3) (a4) (a5) (a6) (a7) (s : State) : (State.sendFlow a1 a2 a3 a4 a5 a6 a7 s).quiet = s.quiet := by
  unfold State.sendFlow
  repeat' (first | with_reducible rfl | (simp only [quiet_State_enqueue, apply_ite State.quiet, apply_ite Prod.fst, ite_self, implies_true, eq_self, quiet_foldl, quiet_each, quiet_when, quiet_State_emit, quiet_State_used]; done) | (simp only [quiet_State_enqueue, apply_ite State.quiet, apply_ite Prod.fst, ite_self, implies_true, eq_self, quiet_foldl, quiet_each, quiet_when, quiet_State_emit, quiet_State_used]) | split | (refine (quiet_each _ _ _ (fun x t => ?_)).trans ?_) | (refine (quiet_when _ _ _ (fun t => ?_)).trans ?_) | (refine (quiet_foldl _ _ _ (fun t x => ?_)).trans ?_) | (rename_i h; refine (congrArg (fun x => State.quiet (Prod.fst x)) h).symm.trans ?_; simp only [quiet_State_enqueue, apply_ite State.quiet, apply_ite Prod.fst, ite_self, implies_true, eq_self, quiet_foldl, quiet_each, quiet_when, quiet_State_emit, quiet_State_used]; done) | (refine (quiet_foldFst _ _ _ (fun x k => ?_)).trans ?_) | intro x)

theorem quiet_State_sendTo (a1) (a2) (a3) (a4) (a5) (a6) (s : State) : (State.sendTo a1 a2 a3 a4 a5 a6 s).quiet = s.quiet := by
  unfold State.sendTo
  simp only [quiet_State_sendFlow, eq_self]

theorem quiet_State_setRing (a1) (a2) (a3) (s : State) : (State.setRing a1 a2 a3 s).quiet = s.quiet := by
  unfold State.setRing
  simp only [quiet_State_modObs, eq_self]

theorem quiet_State_writeSect (a1) (a2) (a3) (s : State) : (State.writeSect a1 a2 a3 s).quiet = s.quiet := by
  unfold State.writeSect
  repeat' (first | with_reducible rfl | (simp only [quiet_State_setRing, quiet_State_innerWrite, quiet_State_emit, quiet_State_cntr, apply_ite State.quiet, apply_ite Prod.fst, ite_self, implies_true, eq_self, quiet_foldl, quiet_each, quiet_when, quiet_State_emit, quiet_State_used]; done) | (simp only [quiet_State_setRing, quiet_State_innerWrite, quiet_State_emit, quiet_State_cntr, apply_ite State.quiet, apply_ite Prod.fst, ite_self, implies_true, eq_self, quiet_foldl, quiet_each, quiet_when, quiet_State_emit, quiet_State_used]) | split | (refine (quiet_each _ _ _ (fun x t => ?_)).trans ?_) | (refine (quiet_when _ _ _ (fun t => ?_)).trans ?_) | (refine (quiet_foldl _ _ _ (fun t x => ?_)).trans ?_) | (rename_i h; refine (congrArg (fun x => State.quiet (Prod.fst x)) h).symm.trans ?_; simp only [quiet_State_setRing, quiet_State_innerWrite, quiet_State_emit, quiet_State_cntr, apply_ite State.quiet, apply_ite Prod.fst, ite_self, implies_true, eq_self, quiet_foldl, quiet_each, quiet_when, quiet_State_emit, quiet_State_used]; done) | (refine (quiet_foldFst _ _ _ (fun x k => ?_)).trans ?_) | intro x)

theorem quiet_State_writeRing (a1) (a2) (a3) (s : State) : (State.writeRing a1 a2 a3 s).quiet = s.quiet := by
  unfold State.writeRing
  simp only [quiet_State_writeSect, implies_true, eq_self, quiet_foldl]

theorem quiet_State_formIn (a1) (a2) (a3) (a4) (a5) (a6) (a7) (a8) (s : State) : (State.formIn a1 a2 a3 a4 a5 a6 a7 a8 s).quiet = s.quiet := by
  unfold State.formIn
  simp only [quiet_State_writeRing, quiet_when, quiet_State_cntr, quiet_State_setRing, apply_ite State.quiet, ite_self, implies_true, eq_self, quiet_when]

theorem quiet_State_trace (a1) (a2) (a3) (a4) (a5) (a6) (a7) (s : State) : (State.trace a1 a2 a3 a4 a5 a6 a7 s).quiet = s.quiet := by
  unfold State.trace
  simp only [quiet_each, quiet_State_formIn, implies_true, eq_self, quiet_each]

theorem quiet_State_trigger (a1) (a2) (a3) (s : State) : (State.trigger a1 a2 a3 s).quiet = s.quiet := by
  unfold State.trigger
  simp only [quiet_State_formIn, quiet_State_writeRing, quiet_State_setRing, apply_ite State.quiet, ite_self, eq_self]

theorem quiet_State_stopRing (a1) (a2) (s : State) : (State.stopRing a1 a2 s).quiet = s.quiet := by
  unfold State.stopRing
  simp only [quiet_State_formIn, quiet_State_writeRing, quiet_State_setRing, apply_ite State.quiet, ite_self, eq_self]

theorem quiet_State_modCtx (a1) (a2) (s : State) : (State.modCtx a1 a2 s).quiet = s.quiet := by
  unfold State.modCtx
  simp only [quiet_State_modObju, eq_self]

theorem quiet_State_faultPut (a1) (a2) (s : State) : (State.faultPut a1 a2 s).quiet = s.quiet := by
  unfold State.faultPut
  simp only [quiet_State_innerWrite, quiet_State_emit, quiet_State_modCtx, quiet_State_cntr, apply_ite State.quiet, ite_self, eq_self, quiet_State_emit]

theorem quiet_State_faultOvf (a1) (a2) (s : State) : (State.faultOvf a1 a2 s).quiet = s.quiet := by
  unfold State.faultOvf
  simp only [quiet_State_modCtx, eq_self]

theorem quiet_State_faultTo (a1) (a2) (s : State) : (State.faultTo a1 a2 s).quiet = s.quiet := by
  unfold State.faultTo
  simp only [quiet_State_modObju, quiet_State_faultOvf, quiet_State_faultPut, apply_ite State.quiet, ite_self, eq_self]

theorem quiet_State_fault (a1) (a2) (a3) (a4) (a5) (a6) (a7) (a8) (s : State) : (State.fault a1 a2 a3 a4 a5 a6 a7 a8 s).quiet = s.quiet := by
  unfold State.fault
  repeat' (first | with_reducible rfl | (simp only [quiet_State_press, quiet_State_cntr, quiet_State_faultTo, quiet_State_trace, quiet_each, quiet_State_trigger, apply_ite State.quiet, apply_ite Prod.fst, ite_self, implies_true, eq_self, quiet_foldl, quiet_each, quiet_when, quiet_State_emit, quiet_State_used]; done) | (simp only [quiet_State_press, quiet_State_cntr, quiet_State_faultTo, quiet_State_trace, quiet_each, quiet_State_trigger, apply_ite State.quiet, apply_ite Prod.fst, ite_self, implies_true, eq_self, quiet_foldl, quiet_each, quiet_when, quiet_State_emit, quiet_State_used]) | split | (refine (quiet_each _ _ _ (fun x t => ?_)).trans ?_) | (refine (quiet_when _ _ _ (fun t => ?_)).trans ?_) | (refine (quiet_foldl _ _ _ (fun t x => ?_)).trans ?_) | (rename_i h; refine (congrArg (fun x => State.quiet (Prod.fst x)) h).symm.trans ?_; simp only [quiet_State_press, quiet_State_cntr, quiet_State_faultTo, quiet_State_trace, quiet_each, quiet_State_trigger, apply_ite State.quiet, apply_ite Prod.fst, ite_self, implies_true, eq_self, quiet_foldl, quiet_each, quiet_when, quiet_State_emit, quiet_State_used]; done) | (refine (quiet_foldFst _ _ _ (fun x k => ?_)).trans ?_) | intro x)

theorem quiet_State_modQueue (a1) (a2) (s : State) : (State.modQueue a1 a2 s).quiet = s.quiet := by
  unfold State.modQueue
  simp only [quiet_State_modCmd, eq_self]

theorem quiet_State_sealRec (a1) (a2) (s : State) : (State.sealRec a1 a2 s).1.quiet = s.quiet := by
  unfold State.sealRec
  repeat' (first | with_reducible rfl | (simp only [quiet_State_modCmd, apply_ite State.quiet, apply_ite Prod.fst, ite_self, implies_true, eq_self, quiet_foldl, quiet_each, quiet_when, quiet_State_emit, quiet_State_used]; done) | (simp only [quiet_State_modCmd, apply_ite State.quiet, apply_ite Prod.fst, ite_self, implies_true, eq_self, quiet_foldl, quiet_each, quiet_when, quiet_State_emit, quiet_State_used]) | split | (refine (quiet_each _ _ _ (fun x t => ?_)).trans ?_) | (refine (quiet_when _ _ _ (fun t => ?_)).trans ?_) | (refine (quiet_foldl _ _ _ (fun t x => ?_)).trans ?_) | (rename_i h; refine (congrArg (fun x => State.quiet (Prod.fst x)) h).symm.trans ?_; simp only [quiet_State_modCmd, apply_ite State.quiet, apply_ite Prod.fst, ite_self, implies_true, eq_self, quiet_foldl, quiet_each, quiet_when, quiet_State_emit, quiet_State_used]; done) | (refine (quiet_foldFst _ _ _ (fun x k => ?_)).trans ?_) | intro x)

theorem quiet_State_cdmMake (a1) (s : State) : (State.cdmMake a1 s).quiet = s.quiet := by
  unfold State.cdmMake
  simp only [quiet_State_emit, apply_ite State.quiet, ite_self, eq_self, quiet_State_emit]

theorem quiet_State_cdmWrite (a1) (a2) (s : State) : (State.cdmWrite a1 a2 s).quiet = s.quiet := by
  unfold State.cdmWrite
  simp only [quiet_State_cdmMake, quiet_State_modCmd, apply_ite State.quiet, ite_self, eq_self]

theorem quiet_State_cdmRefill (s : State) : (State.cdmRefill s).quiet = s.quiet := by
  unfold State.cdmRefill
  simp only [quiet_each, quiet_State_cdmWrite, quiet_State_modCmd, implies_true, eq_self, quiet_each]

theorem quiet_State_deviceReply (a1) (s : State) : (State.deviceReply a1 s).quiet = s.quiet := by
  unfold State.deviceReply
  repeat' (first | with_reducible rfl | (simp only [quiet_State_innerWrite, quiet_when, quiet_State_emit, apply_ite State.quiet, apply_ite Prod.fst, ite_self, implies_true, eq_self, quiet_foldl, quiet_each, quiet_when, quiet_State_emit, quiet_State_used]; done) | (simp only [quiet_State_innerWrite, quiet_when, quiet_State_emit, apply_ite State.quiet, apply_ite Prod.fst, ite_self, implies_true, eq_self, quiet_foldl, quiet_each, quiet_when, quiet_State_emit, quiet_State_used]) | split | (refine (quiet_each _ _ _ (fun x t => ?_)).trans ?_) | (refine (quiet_when _ _ _ (fun t => ?_)).trans ?_) | (refine (quiet_foldl _ _ _ (fun t x => ?_)).trans ?_) | (rename_i h; refine (congrArg (fun x => State.quiet (Prod.fst x)) h).symm.trans ?_; simp only [quiet_State_innerWrite, quiet_when, quiet_State_emit, apply_ite State.quiet, apply_ite Prod.fst, ite_self, implies_true, eq_self, quiet_foldl, quiet_each, quiet_when, quiet_State_emit, quiet_State_used]; done) | (refine (quiet_foldFst _ _ _ (fun x k => ?_)).trans ?_) | intro x)

theorem quiet_State_ringReply (a1) (a2) (s : State) : (State.ringReply a1 a2 s).quiet = s.quiet := by
  unfold State.ringReply
  simp only [quiet_State_modQueue, quiet_State_deviceReply, quiet_State_cdmWrite, apply_ite State.quiet, ite_self, eq_self]

theorem quiet_State_storeReply (a1) (a2) (s : State) : (State.storeReply a1 a2 s).quiet = s.quiet := by
  unfold State.storeReply
  simp only [quiet_State_modCmd, eq_self]

theorem quiet_State_setFence (a1) (a2) (a3) (s : State) : (State.setFence a1 a2 a3 s).quiet = s.quiet := by
  unfold State.setFence
  simp only [quiet_State_modObju, eq_self]

theorem quiet_State_wake (a1) (a2) (s : State) : (State.wake a1 a2 s).1.quiet = s.quiet := by
  unfold State.wake
  simp only [quiet_State_modObju, quiet_each, quiet_State_trace, implies_true, eq_self, quiet_each]

theorem quiet_State_signalHere (a1) (a2) (a3) (s : State) : (State.signalHere a1 a2 a3 s).1.quiet = s.quiet := by
  unfold State.signalHere
  simp only [quiet_State_trace, quiet_State_setFence, quiet_State_wake, apply_ite State.quiet, apply_ite Prod.fst, ite_self, eq_self]

theorem quiet_State_propagate (a1) (a2) (a3) (a4) (s : State) : (State.propagate a1 a2 a3 a4 s).quiet = s.quiet := by
  unfold State.propagate
  simp only [quiet_State_modObju, quiet_State_broadcast, eq_self]

theorem quiet_State_signal (a1) (a2) (a3) (s : State) : (State.signal a1 a2 a3 s).1.quiet = s.quiet := by
  unfold State.signal
  simp only [quiet_State_signalHere, quiet_State_propagate, apply_ite State.quiet, ite_self, eq_self]

theorem quiet_State_modObj (a1) (a2) (a3) (s : State) : (State.modObj a1 a2 a3 s).quiet = s.quiet := by
  unfold State.modObj
  simp only [quiet_State_modObju, eq_self]

theorem quiet_State_unref (a1) (a2) (s : State) : (State.unref a1 a2 s).quiet = s.quiet := by
  unfold State.unref
  simp only [quiet_each, quiet_State_modObj, implies_true, eq_self, quiet_each]

theorem quiet_State_releaseRings (a1) (s : State) : (State.releaseRings a1 s).quiet = s.quiet := by
  unfold State.releaseRings
  simp only [quiet_State_modQueue, quiet_State_unref, apply_ite State.quiet, ite_self, eq_self]

theorem quiet_State_removeQueue (a1) (s : State) : (State.removeQueue a1 s).quiet = s.quiet := by
  unfold State.removeQueue
  simp only [quiet_State_modCmd, quiet_State_releaseRings, eq_self]

theorem quiet_State_reapQueue (a1) (s : State) : (State.reapQueue a1 s).1.quiet = s.quiet := by
  unfold State.reapQueue
  repeat' (first | with_reducible rfl | (simp only [quiet_State_setFld, quiet_State_removeQueue, apply_ite State.quiet, apply_ite Prod.fst, ite_self, implies_true, eq_self, quiet_foldl, quiet_each, quiet_when, quiet_State_emit, quiet_State_used]; done) | (simp only [quiet_State_setFld, quiet_State_removeQueue, apply_ite State.quiet, apply_ite Prod.fst, ite_self, implies_true, eq_self, quiet_foldl, quiet_each, quiet_when, quiet_State_emit, quiet_State_used]) | split | (refine (quiet_each _ _ _ (fun x t => ?_)).trans ?_) | (refine (quiet_when _ _ _ (fun t => ?_)).trans ?_) | (refine (quiet_foldl _ _ _ (fun t x => ?_)).trans ?_) | (rename_i h; refine (congrArg (fun x => State.quiet (Prod.fst x)) h).symm.trans ?_; simp only [quiet_State_setFld, quiet_State_removeQueue, apply_ite State.quiet, apply_ite Prod.fst, ite_self, implies_true, eq_self, quiet_foldl, quiet_each, quiet_when, quiet_State_emit, quiet_State_used]; done) | (refine (quiet_foldFst _ _ _ (fun x k => ?_)).trans ?_) | intro x)

theorem quiet_State_carried (a1) (s : State) : (State.carried a1 s).1.quiet = s.quiet := by
  unfold State.carried
  repeat' (first | with_reducible rfl | (simp only [quiet_State_modCmd, quiet_State_sealRec, quiet_State_cdmWrite, apply_ite State.quiet, apply_ite Prod.fst, ite_self, implies_true, eq_self, quiet_foldl, quiet_each, quiet_when, quiet_State_emit, quiet_State_used]; done) | (simp only [quiet_State_modCmd, quiet_State_sealRec, quiet_State_cdmWrite, apply_ite State.quiet, apply_ite Prod.fst, ite_self, implies_true, eq_self, quiet_foldl, quiet_each, quiet_when, quiet_State_emit, quiet_State_used]) | split | (refine (quiet_each _ _ _ (fun x t => ?_)).trans ?_) | (refine (quiet_when _ _ _ (fun t => ?_)).trans ?_) | (refine (quiet_foldl _ _ _ (fun t x => ?_)).trans ?_) | (rename_i h; refine (congrArg (fun x => State.quiet (Prod.fst x)) h).symm.trans ?_; simp only [quiet_State_modCmd, quiet_State_sealRec, quiet_State_cdmWrite, apply_ite State.quiet, apply_ite Prod.fst, ite_self, implies_true, eq_self, quiet_foldl, quiet_each, quiet_when, quiet_State_emit, quiet_State_used]; done) | (refine (quiet_foldFst _ _ _ (fun x k => ?_)).trans ?_) | intro x)

theorem quiet_State_sendChunk (a1) (a2) (a3) (a4) (s : State) : (State.sendChunk a1 a2 a3 a4 s).1.quiet = s.quiet := by
  unfold State.sendChunk
  simp only [quiet_each, quiet_State_sendTo, implies_true, eq_self, quiet_each]

theorem quiet_State_traceSess (a1) (a2) (s : State) : (State.traceSess a1 a2 s).quiet = s.quiet := by
  unfold State.traceSess
  simp only [quiet_State_trace, apply_ite State.quiet, ite_self, eq_self]

theorem quiet_State_sessTo (a1) (a2) (a3) (s : State) : (State.sessTo a1 a2 a3 s).quiet = s.quiet := by
  unfold State.sessTo
  simp only [quiet_State_traceSess, quiet_State_modSess, eq_self]

theorem quiet_State_send (a1) (s : State) : (State.send a1 s).quiet = s.quiet := by
  unfold State.send
  simp only [quiet_State_emit, apply_ite State.quiet, ite_self, eq_self, quiet_State_emit]

theorem quiet_State_mnNoData (a1) (a2) (a3) (s : State) : (State.mnNoData a1 a2 a3 s).quiet = s.quiet := by
  unfold State.mnNoData
  simp only [quiet_State_emit, eq_self, quiet_State_emit]

theorem quiet_State_fenceMn (a1) (s : State) : (State.fenceMn a1 s).quiet = s.quiet := by
  unfold State.fenceMn
  simp only [quiet_each, quiet_State_mnNoData, quiet_State_modSg, implies_true, eq_self, quiet_each]

theorem quiet_State_dropFrames (a1) (a2) (s : State) : (State.dropFrames a1 a2 s).quiet = s.quiet := by
  unfold State.dropFrames
  simp only [quiet_State_modLnk, eq_self]

theorem quiet_State_backEntry (a1) (s : State) : (State.backEntry a1 s).quiet = s.quiet := by
  unfold State.backEntry
  simp only [quiet_State_start, eq_self]

theorem quiet_State_backWhere (a1) (s : State) : (State.backWhere a1 s).quiet = s.quiet := by
  unfold State.backWhere
  simp only [quiet_each, quiet_State_backEntry, implies_true, eq_self, quiet_each]

theorem quiet_State_passFenced (s : State) : (State.passFenced s).quiet = s.quiet := by
  unfold State.passFenced
  repeat' (first | with_reducible rfl | (simp only [quiet_State_modSg, quiet_each, quiet_State_mnNoData, quiet_State_emit, apply_ite State.quiet, apply_ite Prod.fst, ite_self, implies_true, eq_self, quiet_foldl, quiet_each, quiet_when, quiet_State_emit, quiet_State_used]; done) | (simp only [quiet_State_modSg, quiet_each, quiet_State_mnNoData, quiet_State_emit, apply_ite State.quiet, apply_ite Prod.fst, ite_self, implies_true, eq_self, quiet_foldl, quiet_each, quiet_when, quiet_State_emit, quiet_State_used]) | split | (refine (quiet_each _ _ _ (fun x t => ?_)).trans ?_) | (refine (quiet_when _ _ _ (fun t => ?_)).trans ?_) | (refine (quiet_foldl _ _ _ (fun t x => ?_)).trans ?_) | (rename_i h; refine (congrArg (fun x => State.quiet (Prod.fst x)) h).symm.trans ?_; simp only [quiet_State_modSg, quiet_each, quiet_State_mnNoData, quiet_State_emit, apply_ite State.quiet, apply_ite Prod.fst, ite_self, implies_true, eq_self, quiet_foldl, quiet_each, quiet_when, quiet_State_emit, quiet_State_used]; done) | (refine (quiet_foldFst _ _ _ (fun x k => ?_)).trans ?_) | intro x)

theorem quiet_State_touchCtx (a1) (s : State) : (State.touchCtx a1 s).quiet = s.quiet := by
  unfold State.touchCtx
  simp only [quiet_State_modCtx, apply_ite State.quiet, ite_self, eq_self]

theorem quiet_State_takePacket (a1) (a2) (a3) (s : State) : (State.takePacket a1 a2 a3 s).1.quiet = s.quiet := by
  unfold State.takePacket
  repeat' (first | with_reducible rfl | (simp only [quiet_State_modQueue, quiet_State_glob, quiet_State_count, quiet_State_trace, quiet_State_touchCtx, apply_ite State.quiet, apply_ite Prod.fst, ite_self, implies_true, eq_self, quiet_foldl, quiet_each, quiet_when, quiet_State_emit, quiet_State_used]; done) | (simp only [quiet_State_modQueue, quiet_State_glob, quiet_State_count, quiet_State_trace, quiet_State_touchCtx, apply_ite State.quiet, apply_ite Prod.fst, ite_self, implies_true, eq_self, quiet_foldl, quiet_each, quiet_when, quiet_State_emit, quiet_State_used]) | split | (refine (quiet_each _ _ _ (fun x t => ?_)).trans ?_) | (refine (quiet_when _ _ _ (fun t => ?_)).trans ?_) | (refine (quiet_foldl _ _ _ (fun t x => ?_)).trans ?_) | (rename_i h; refine (congrArg (fun x => State.quiet (Prod.fst x)) h).symm.trans ?_; simp only [quiet_State_modQueue, quiet_State_glob, quiet_State_count, quiet_State_trace, quiet_State_touchCtx, apply_ite State.quiet, apply_ite Prod.fst, ite_self, implies_true, eq_self, quiet_foldl, quiet_each, quiet_when, quiet_State_emit, quiet_State_used]; done) | (refine (quiet_foldFst _ _ _ (fun x k => ?_)).trans ?_) | intro x)

theorem quiet_State_reserve (a1) (a2) (s : State) : (State.reserve a1 a2 s).quiet = s.quiet := by
  unfold State.reserve
  repeat' (first | with_reducible rfl | (simp only [quiet_State_modQueue, apply_ite State.quiet, apply_ite Prod.fst, ite_self, implies_true, eq_self, quiet_foldl, quiet_each, quiet_when, quiet_State_emit, quiet_State_used]; done) | (simp only [quiet_State_modQueue, apply_ite State.quiet, apply_ite Prod.fst, ite_self, implies_true, eq_self, quiet_foldl, quiet_each, quiet_when, quiet_State_emit, quiet_State_used]) | split | (refine (quiet_each _ _ _ (fun x t => ?_)).trans ?_) | (refine (quiet_when _ _ _ (fun t => ?_)).trans ?_) | (refine (quiet_foldl _ _ _ (fun t x => ?_)).trans ?_) | (rename_i h; refine (congrArg (fun x => State.quiet (Prod.fst x)) h).symm.trans ?_; simp only [quiet_State_modQueue, apply_ite State.quiet, apply_ite Prod.fst, ite_self, implies_true, eq_self, quiet_foldl, quiet_each, quiet_when, quiet_State_emit, quiet_State_used]; done) | (refine (quiet_foldFst _ _ _ (fun x k => ?_)).trans ?_) | intro x)

theorem quiet_State_hold (a1) (a2) (a3) (s : State) : (State.hold a1 a2 a3 s).quiet = s.quiet := by
  unfold State.hold
  repeat' (first | with_reducible rfl | (simp only [quiet_State_modQueue, quiet_State_used, quiet_State_cntr, quiet_State_count, apply_ite State.quiet, apply_ite Prod.fst, ite_self, implies_true, eq_self, quiet_foldl, quiet_each, quiet_when, quiet_State_emit, quiet_State_used]; done) | (simp only [quiet_State_modQueue, quiet_State_used, quiet_State_cntr, quiet_State_count, apply_ite State.quiet, apply_ite Prod.fst, ite_self, implies_true, eq_self, quiet_foldl, quiet_each, quiet_when, quiet_State_emit, quiet_State_used]) | split | (refine (quiet_each _ _ _ (fun x t => ?_)).trans ?_) | (refine (quiet_when _ _ _ (fun t => ?_)).trans ?_) | (refine (quiet_foldl _ _ _ (fun t x => ?_)).trans ?_) | (rename_i h; refine (congrArg (fun x => State.quiet (Prod.fst x)) h).symm.trans ?_; simp only [quiet_State_modQueue, quiet_State_used, quiet_State_cntr, quiet_State_count, apply_ite State.quiet, apply_ite Prod.fst, ite_self, implies_true, eq_self, quiet_foldl, quiet_each, quiet_when, quiet_State_emit, quiet_State_used]; done) | (refine (quiet_foldFst _ _ _ (fun x k => ?_)).trans ?_) | intro x)

theorem quiet_State_ringRead (a1) (s : State) : (State.ringRead a1 s).1.quiet = s.quiet := by
  unfold State.ringRead
  repeat' (first | with_reducible rfl | (simp only [quiet_State_innerRead, apply_ite State.quiet, apply_ite Prod.fst, ite_self, implies_true, eq_self, quiet_foldl, quiet_each, quiet_when, quiet_State_emit, quiet_State_used]; done) | (simp only [quiet_State_innerRead, apply_ite State.quiet, apply_ite Prod.fst, ite_self, implies_true, eq_self, quiet_foldl, quiet_each, quiet_when, quiet_State_emit, quiet_State_used]) | split | (refine (quiet_each _ _ _ (fun x t => ?_)).trans ?_) | (refine (quiet_when _ _ _ (fun t => ?_)).trans ?_) | (refine (quiet_foldl _ _ _ (fun t x => ?_)).trans ?_) | (rename_i h; refine (congrArg (fun x => State.quiet (Prod.fst x)) h).symm.trans ?_; simp only [quiet_State_innerRead, apply_ite State.quiet, apply_ite Prod.fst, ite_self, implies_true, eq_self, quiet_foldl, quiet_each, quiet_when, quiet_State_emit, quiet_State_used]; done) | (refine (quiet_foldFst _ _ _ (fun x k => ?_)).trans ?_) | intro x)

theorem quiet_State_otherAccess (s : State) : (State.otherAccess s).quiet = s.quiet := by
  unfold State.otherAccess
  simp only [quiet_State_modRegf, eq_self]

theorem quiet_State_portWrite (a1) (a2) (a3) (s : State) (ha3 : ∀ x0 t, State.quiet (a3 x0 t).1 = t.quiet) : (State.portWrite a1 a2 a3 s).quiet = s.quiet := by
  unfold State.portWrite
  simp only [quiet_State_emit, quiet_State_otherAccess, ha3, apply_ite State.quiet, ite_self, eq_self, quiet_State_emit]

theorem quiet_State_ctlWrite (a1) (a2) (s : State) (ha2 : ∀ t, State.quiet (a2 t) = t.quiet) : (State.ctlWrite a1 a2 s).quiet = s.quiet := by
  unfold State.ctlWrite
  simp only [quiet_State_portWrite, ha2, apply_ite State.quiet, ite_self, implies_true, eq_self]

theorem quiet_innerBytesFuel (n) (p) (a) (l) (s : State) : (innerBytesFuel n p a l s).1.quiet = s.quiet := by
  induction n generalizing a l s with
  | zero => rfl
  | succ n ih =>
    unfold innerBytesFuel
    split
    · rfl
    · simp only []
      exact (ih _ _ _).trans (quiet_State_innerWrite ..)

theorem quiet_State_innerBytes (a1) (a2) (a3) (s : State) : (State.innerBytes a1 a2 a3 s).1.quiet = s.quiet := by
  unfold State.innerBytes
  simp only [quiet_innerBytesFuel, eq_self]

theorem quiet_State_writeObj (a1) (a2) (s : State) : (State.writeObj a1 a2 s).1.quiet = s.quiet := by
  unfold State.writeObj
  simp only [quiet_State_innerBytes, eq_self]

theorem quiet_State_zeroPlot (a1) (a2) (s : State) : (State.zeroPlot a1 a2 s).quiet = s.quiet := by
  unfold State.zeroPlot
  repeat' (first | with_reducible rfl | (simp only [quiet_each, quiet_State_modLine, quiet_State_insertLine, apply_ite State.quiet, apply_ite Prod.fst, ite_self, implies_true, eq_self, quiet_foldl, quiet_each, quiet_when, quiet_State_emit, quiet_State_used]; done) | (simp only [quiet_each, quiet_State_modLine, quiet_State_insertLine, apply_ite State.quiet, apply_ite Prod.fst, ite_self, implies_true, eq_self, quiet_foldl, quiet_each, quiet_when, quiet_State_emit, quiet_State_used]) | split | (refine (quiet_each _ _ _ (fun x t => ?_)).trans ?_) | (refine (quiet_when _ _ _ (fun t => ?_)).trans ?_) | (refine (quiet_foldl _ _ _ (fun t x => ?_)).trans ?_) | (rename_i h; refine (congrArg (fun x => State.quiet (Prod.fst x)) h).symm.trans ?_; simp only [quiet_each, quiet_State_modLine, quiet_State_insertLine, apply_ite State.quiet, apply_ite Prod.fst, ite_self, implies_true, eq_self, quiet_foldl, quiet_each, quiet_when, quiet_State_emit, quiet_State_used]; done) | (refine (quiet_foldFst _ _ _ (fun x k => ?_)).trans ?_) | intro x)

theorem quiet_State_bindPlots (a1) (a2) (a3) (a4) (a5) (a6) (s : State) : (State.bindPlots a1 a2 a3 a4 a5 a6 s).quiet = s.quiet := by
  unfold State.bindPlots
  simp only [quiet_each, quiet_State_modObju, quiet_State_zeroPlot, implies_true, eq_self, quiet_each]

theorem quiet_State_alloc (a1) (a2) (a3) (a4) (a5) (s : State) : (State.alloc a1 a2 a3 a4 a5 s).1.quiet = s.quiet := by
  unfold State.alloc
  repeat' (first | with_reducible rfl | (simp only [quiet_State_modObju, quiet_State_modObj, quiet_State_writeObj, quiet_State_bindPlots, quiet_State_press, apply_ite State.quiet, apply_ite Prod.fst, ite_self, implies_true, eq_self, quiet_foldl, quiet_each, quiet_when, quiet_State_emit, quiet_State_used]; done) | (simp only [quiet_State_modObju, quiet_State_modObj, quiet_State_writeObj, quiet_State_bindPlots, quiet_State_press, apply_ite State.quiet, apply_ite Prod.fst, ite_self, implies_true, eq_self, quiet_foldl, quiet_each, quiet_when, quiet_State_emit, quiet_State_used]) | split | (refine (quiet_each _ _ _ (fun x t => ?_)).trans ?_) | (refine (quiet_when _ _ _ (fun t => ?_)).trans ?_) | (refine (quiet_foldl _ _ _ (fun t x => ?_)).trans ?_) | (rename_i h; refine (congrArg (fun x => State.quiet (Prod.fst x)) h).symm.trans ?_; simp only [quiet_State_modObju, quiet_State_modObj, quiet_State_writeObj, quiet_State_bindPlots, quiet_State_press, apply_ite State.quiet, apply_ite Prod.fst, ite_self, implies_true, eq_self, quiet_foldl, quiet_each, quiet_when, quiet_State_emit, quiet_State_used]; done) | (refine (quiet_foldFst _ _ _ (fun x k => ?_)).trans ?_) | intro x)

theorem quiet_State_dropOld (a1) (a2) (a3) (s : State) : (State.dropOld a1 a2 a3 s).quiet = s.quiet := by
  unfold State.dropOld
  simp only [quiet_State_modSg, quiet_each, quiet_State_dropTag, implies_true, eq_self, quiet_each]

theorem quiet_State_setAdb (a1) (a2) (a3) (s : State) : (State.setAdb a1 a2 a3 s).quiet = s.quiet := by
  unfold State.setAdb
  simp only [quiet_State_modObju, eq_self]

theorem quiet_State_adbSubmit (a1) (a2) (a3) (a4) (a5) (s : State) : (State.adbSubmit a1 a2 a3 a4 a5 s).1.quiet = s.quiet := by
  unfold State.adbSubmit
  simp only [quiet_State_flag, quiet_State_used, quiet_State_cntr, quiet_State_touchCtx, quiet_State_setAdb, apply_ite State.quiet, apply_ite Prod.fst, ite_self, eq_self, quiet_State_used]

theorem quiet_State_spill (a1) (s : State) : (State.spill a1 s).1.quiet = s.quiet := by
  unfold State.spill
  repeat' (first | with_reducible rfl | (simp only [quiet_State_innerSect, quiet_when, quiet_State_modCtx, apply_ite State.quiet, apply_ite Prod.fst, ite_self, implies_true, eq_self, quiet_foldl, quiet_each, quiet_when, quiet_State_emit, quiet_State_used]; done) | (simp only [quiet_State_innerSect, quiet_when, quiet_State_modCtx, apply_ite State.quiet, apply_ite Prod.fst, ite_self, implies_true, eq_self, quiet_foldl, quiet_each, quiet_when, quiet_State_emit, quiet_State_used]) | split | (refine (quiet_each _ _ _ (fun x t => ?_)).trans ?_) | (refine (quiet_when _ _ _ (fun t => ?_)).trans ?_) | (refine (quiet_foldl _ _ _ (fun t x => ?_)).trans ?_) | (rename_i h; refine (congrArg (fun x => State.quiet (Prod.fst x)) h).symm.trans ?_; simp only [quiet_State_innerSect, quiet_when, quiet_State_modCtx, apply_ite State.quiet, apply_ite Prod.fst, ite_self, implies_true, eq_self, quiet_foldl, quiet_each, quiet_when, quiet_State_emit, quiet_State_used]; done) | (refine (quiet_foldFst _ _ _ (fun x k => ?_)).trans ?_) | intro x)

theorem quiet_State_makeRoom (s : State) : (State.makeRoom s).1.quiet = s.quiet := by
  unfold State.makeRoom
  repeat' (first | with_reducible rfl | (simp only [quiet_State_spill, apply_ite State.quiet, apply_ite Prod.fst, ite_self, implies_true, eq_self, quiet_foldl, quiet_each, quiet_when, quiet_State_emit, quiet_State_used]; done) | (simp only [quiet_State_spill, apply_ite State.quiet, apply_ite Prod.fst, ite_self, implies_true, eq_self, quiet_foldl, quiet_each, quiet_when, quiet_State_emit, quiet_State_used]) | split | (refine (quiet_each _ _ _ (fun x t => ?_)).trans ?_) | (refine (quiet_when _ _ _ (fun t => ?_)).trans ?_) | (refine (quiet_foldl _ _ _ (fun t x => ?_)).trans ?_) | (rename_i h; refine (congrArg (fun x => State.quiet (Prod.fst x)) h).symm.trans ?_; simp only [quiet_State_spill, apply_ite State.quiet, apply_ite Prod.fst, ite_self, implies_true, eq_self, quiet_foldl, quiet_each, quiet_when, quiet_State_emit, quiet_State_used]; done) | (refine (quiet_foldFst _ _ _ (fun x k => ?_)).trans ?_) | intro x)

theorem quiet_State_discardQueues (a1) (s : State) : (State.discardQueues a1 s).quiet = s.quiet := by
  unfold State.discardQueues
  simp only [quiet_each, quiet_State_modQueue, apply_ite State.quiet, ite_self, implies_true, eq_self, quiet_each]

theorem quiet_State_unstall (a1) (s : State) : (State.unstall a1 s).quiet = s.quiet := by
  unfold State.unstall
  simp only [quiet_State_modCtx, eq_self]

theorem quiet_State_fqConsume (a1) (a2) (s : State) : (State.fqConsume a1 a2 s).quiet = s.quiet := by
  unfold State.fqConsume
  repeat' (first | with_reducible rfl | (simp only [quiet_State_modCtx, quiet_State_faultTo, quiet_State_unstall, apply_ite State.quiet, apply_ite Prod.fst, ite_self, implies_true, eq_self, quiet_foldl, quiet_each, quiet_when, quiet_State_emit, quiet_State_used]; done) | (simp only [quiet_State_modCtx, quiet_State_faultTo, quiet_State_unstall, apply_ite State.quiet, apply_ite Prod.fst, ite_self, implies_true, eq_self, quiet_foldl, quiet_each, quiet_when, quiet_State_emit, quiet_State_used]) | split | (refine (quiet_each _ _ _ (fun x t => ?_)).trans ?_) | (refine (quiet_when _ _ _ (fun t => ?_)).trans ?_) | (refine (quiet_foldl _ _ _ (fun t x => ?_)).trans ?_) | (rename_i h; refine (congrArg (fun x => State.quiet (Prod.fst x)) h).symm.trans ?_; simp only [quiet_State_modCtx, quiet_State_faultTo, quiet_State_unstall, apply_ite State.quiet, apply_ite Prod.fst, ite_self, implies_true, eq_self, quiet_foldl, quiet_each, quiet_when, quiet_State_emit, quiet_State_used]; done) | (refine (quiet_foldFst _ _ _ (fun x k => ?_)).trans ?_) | intro x)

theorem quiet_State_fqWrite (a1) (a2) (a3) (s : State) : (State.fqWrite a1 a2 a3 s).quiet = s.quiet := by
  unfold State.fqWrite
  simp only [quiet_State_fqConsume, quiet_State_flag, apply_ite State.quiet, ite_self, eq_self]

theorem quiet_State_mnFault (a1) (a2) (a3) (s : State) : (State.mnFault a1 a2 a3 s).quiet = s.quiet := by
  unfold State.mnFault
  simp only [quiet_State_fault, eq_self]

theorem quiet_State_mnRefuse (a1) (a2) (a3) (a4) (s : State) : (State.mnRefuse a1 a2 a3 a4 s).quiet = s.quiet := by
  unfold State.mnRefuse
  simp only [quiet_when, quiet_State_mnFault, quiet_State_mnNoData, quiet_State_cntr, implies_true, eq_self, quiet_when]

theorem quiet_State_sampleMn (a1) (a2) (a3) (s : State) : (State.sampleMn a1 a2 a3 s).quiet = s.quiet := by
  unfold State.sampleMn
  simp only [quiet_State_modObs, quiet_each, quiet_State_formIn, implies_true, eq_self, quiet_each]

theorem quiet_State_putEntry (a1) (s : State) : (State.putEntry a1 s).quiet = s.quiet := by
  unfold State.putEntry
  simp only [quiet_State_modSg, eq_self]

theorem quiet_State_dropEntry (a1) (s : State) : (State.dropEntry a1 s).quiet = s.quiet := by
  unfold State.dropEntry
  simp only [quiet_State_modSg, eq_self]

theorem quiet_State_entryEnd (a1) (a2) (s : State) : (State.entryEnd a1 a2 s).quiet = s.quiet := by
  unfold State.entryEnd
  repeat' (first | with_reducible rfl | (simp only [quiet_State_dropEntry, apply_ite State.quiet, apply_ite Prod.fst, ite_self, implies_true, eq_self, quiet_foldl, quiet_each, quiet_when, quiet_State_emit, quiet_State_used]; done) | (simp only [quiet_State_dropEntry, apply_ite State.quiet, apply_ite Prod.fst, ite_self, implies_true, eq_self, quiet_foldl, quiet_each, quiet_when, quiet_State_emit, quiet_State_used]) | split | (refine (quiet_each _ _ _ (fun x t => ?_)).trans ?_) | (refine (quiet_when _ _ _ (fun t => ?_)).trans ?_) | (refine (quiet_foldl _ _ _ (fun t x => ?_)).trans ?_) | (rename_i h; refine (congrArg (fun x => State.quiet (Prod.fst x)) h).symm.trans ?_; simp only [quiet_State_dropEntry, apply_ite State.quiet, apply_ite Prod.fst, ite_self, implies_true, eq_self, quiet_foldl, quiet_each, quiet_when, quiet_State_emit, quiet_State_used]; done) | (refine (quiet_foldFst _ _ _ (fun x k => ?_)).trans ?_) | intro x)

theorem quiet_State_mismatch (a1) (a2) (a3) (a4) (s : State) : (State.mismatch a1 a2 a3 a4 s).quiet = s.quiet := by
  unfold State.mismatch
  simp only [quiet_State_press, quiet_State_glob, quiet_State_modSg, eq_self]

theorem quiet_State_mergeTake (a1) (a2) (s : State) : (State.mergeTake a1 a2 s).quiet = s.quiet := by
  unfold State.mergeTake
  repeat' (first | with_reducible rfl | (simp only [quiet_State_dropEntry, quiet_when, quiet_State_glob, quiet_State_backEntry, apply_ite State.quiet, apply_ite Prod.fst, ite_self, implies_true, eq_self, quiet_foldl, quiet_each, quiet_when, quiet_State_emit, quiet_State_used]; done) | (simp only [quiet_State_dropEntry, quiet_when, quiet_State_glob, quiet_State_backEntry, apply_ite State.quiet, apply_ite Prod.fst, ite_self, implies_true, eq_self, quiet_foldl, quiet_each, quiet_when, quiet_State_emit, quiet_State_used]) | split | (refine (quiet_each _ _ _ (fun x t => ?_)).trans ?_) | (refine (quiet_when _ _ _ (fun t => ?_)).trans ?_) | (refine (quiet_foldl _ _ _ (fun t x => ?_)).trans ?_) | (rename_i h; refine (congrArg (fun x => State.quiet (Prod.fst x)) h).symm.trans ?_; simp only [quiet_State_dropEntry, quiet_when, quiet_State_glob, quiet_State_backEntry, apply_ite State.quiet, apply_ite Prod.fst, ite_self, implies_true, eq_self, quiet_foldl, quiet_each, quiet_when, quiet_State_emit, quiet_State_used]; done) | (refine (quiet_foldFst _ _ _ (fun x k => ?_)).trans ?_) | intro x)

theorem quiet_State_commitPath (a1) (s : State) : (State.commitPath a1 s).quiet = s.quiet := by
  unfold State.commitPath
  repeat' (first | with_reducible rfl | (simp only [quiet_each, quiet_State_modLine, quiet_State_insertLine, apply_ite State.quiet, apply_ite Prod.fst, ite_self, implies_true, eq_self, quiet_foldl, quiet_each, quiet_when, quiet_State_emit, quiet_State_used]; done) | (simp only [quiet_each, quiet_State_modLine, quiet_State_insertLine, apply_ite State.quiet, apply_ite Prod.fst, ite_self, implies_true, eq_self, quiet_foldl, quiet_each, quiet_when, quiet_State_emit, quiet_State_used]) | split | (refine (quiet_each _ _ _ (fun x t => ?_)).trans ?_) | (refine (quiet_when _ _ _ (fun t => ?_)).trans ?_) | (refine (quiet_foldl _ _ _ (fun t x => ?_)).trans ?_) | (rename_i h; refine (congrArg (fun x => State.quiet (Prod.fst x)) h).symm.trans ?_; simp only [quiet_each, quiet_State_modLine, quiet_State_insertLine, apply_ite State.quiet, apply_ite Prod.fst, ite_self, implies_true, eq_self, quiet_foldl, quiet_each, quiet_when, quiet_State_emit, quiet_State_used]; done) | (refine (quiet_foldFst _ _ _ (fun x k => ?_)).trans ?_) | intro x)

theorem quiet_State_setWord (a1) (a2) (a3) (s : State) : (State.setWord a1 a2 a3 s).quiet = s.quiet := by
  unfold State.setWord
  simp only [quiet_State_modLine, eq_self]

theorem quiet_State_ensureLine (a1) (a2) (s : State) : (State.ensureLine a1 a2 s).quiet = s.quiet := by
  unfold State.ensureLine
  simp only [quiet_State_insertLine, apply_ite State.quiet, ite_self, eq_self]

theorem quiet_State_bumpVersion (a1) (a2) (s : State) : (State.bumpVersion a1 a2 s).1.quiet = s.quiet := by
  unfold State.bumpVersion
  simp only [quiet_State_ensureLine, quiet_State_setWord, apply_ite State.quiet, apply_ite Prod.fst, ite_self, eq_self]

theorem quiet_State_poisonSect (a1) (a2) (s : State) : (State.poisonSect a1 a2 s).quiet = s.quiet := by
  unfold State.poisonSect
  simp only [quiet_State_setWord, quiet_State_ensureLine, quiet_State_bumpVersion, apply_ite State.quiet, ite_self, eq_self]

theorem quiet_State_poisonAll (a1) (a2) (a3) (s : State) : (State.poisonAll a1 a2 a3 s).quiet = s.quiet := by
  unfold State.poisonAll
  simp only [quiet_each, quiet_State_poisonSect, implies_true, eq_self, quiet_each]

theorem quiet_State_putSector (a1) (a2) (a3) (a4) (s : State) : (State.putSector a1 a2 a3 a4 s).quiet = s.quiet := by
  unfold State.putSector
  simp only [quiet_State_bumpVersion, quiet_State_setWord, quiet_State_ensureLine, quiet_State_glob, quiet_State_cntr, quiet_State_msWrite, eq_self]

theorem quiet_State_giveRead (a1) (a2) (s : State) : (State.giveRead a1 a2 s).quiet = s.quiet := by
  unfold State.giveRead
  simp only [quiet_State_emit, eq_self, quiet_State_emit]

theorem quiet_State_plotDone (a1) (a2) (a3) (s : State) : (State.plotDone a1 a2 a3 s).quiet = s.quiet := by
  unfold State.plotDone
  simp only [quiet_State_plotSays, quiet_State_modSg, eq_self]

theorem quiet_State_kick (s : State) : (State.kick s).quiet = s.quiet := by
  unfold State.kick
  repeat' (first | with_reducible rfl | (simp only [quiet_each, quiet_State_issue, apply_ite State.quiet, apply_ite Prod.fst, ite_self, implies_true, eq_self, quiet_foldl, quiet_each, quiet_when, quiet_State_emit, quiet_State_used]; done) | (simp only [quiet_each, quiet_State_issue, apply_ite State.quiet, apply_ite Prod.fst, ite_self, implies_true, eq_self, quiet_foldl, quiet_each, quiet_when, quiet_State_emit, quiet_State_used]) | split | (refine (quiet_each _ _ _ (fun x t => ?_)).trans ?_) | (refine (quiet_when _ _ _ (fun t => ?_)).trans ?_) | (refine (quiet_foldl _ _ _ (fun t x => ?_)).trans ?_) | (rename_i h; refine (congrArg (fun x => State.quiet (Prod.fst x)) h).symm.trans ?_; simp only [quiet_each, quiet_State_issue, apply_ite State.quiet, apply_ite Prod.fst, ite_self, implies_true, eq_self, quiet_foldl, quiet_each, quiet_when, quiet_State_emit, quiet_State_used]; done) | (refine (quiet_foldFst _ _ _ (fun x k => ?_)).trans ?_) | intro x)

theorem quiet_State_startFill (a1) (a2) (s : State) : (State.startFill a1 a2 s).quiet = s.quiet := by
  unfold State.startFill
  simp only [quiet_State_startPlotAs, quiet_State_putEntry, eq_self]

theorem quiet_State_plotGate (a1) (a2) (a3) (s : State) : (State.plotGate a1 a2 a3 s).1.quiet = s.quiet := by
  unfold State.plotGate
  repeat' (first | with_reducible rfl | (simp only [quiet_State_plotLook, apply_ite State.quiet, apply_ite Prod.fst, ite_self, implies_true, eq_self, quiet_foldl, quiet_each, quiet_when, quiet_State_emit, quiet_State_used]; done) | (simp only [quiet_State_plotLook, apply_ite State.quiet, apply_ite Prod.fst, ite_self, implies_true, eq_self, quiet_foldl, quiet_each, quiet_when, quiet_State_emit, quiet_State_used]) | split | (refine (quiet_each _ _ _ (fun x t => ?_)).trans ?_) | (refine (quiet_when _ _ _ (fun t => ?_)).trans ?_) | (refine (quiet_foldl _ _ _ (fun t x => ?_)).trans ?_) | (rename_i h; refine (congrArg (fun x => State.quiet (Prod.fst x)) h).symm.trans ?_; simp only [quiet_State_plotLook, apply_ite State.quiet, apply_ite Prod.fst, ite_self, implies_true, eq_self, quiet_foldl, quiet_each, quiet_when, quiet_State_emit, quiet_State_used]; done) | (refine (quiet_foldFst _ _ _ (fun x k => ?_)).trans ?_) | intro x)

theorem quiet_State_upset (a1) (a2) (a3) (s : State) : (State.upset a1 a2 a3 s).quiet = s.quiet := by
  unfold State.upset
  repeat' (first | with_reducible rfl | (simp only [quiet_State_setAnchor, apply_ite State.quiet, apply_ite Prod.fst, ite_self, implies_true, eq_self, quiet_foldl, quiet_each, quiet_when, quiet_State_emit, quiet_State_used]; done) | (simp only [quiet_State_setAnchor, apply_ite State.quiet, apply_ite Prod.fst, ite_self, implies_true, eq_self, quiet_foldl, quiet_each, quiet_when, quiet_State_emit, quiet_State_used]) | split | (refine (quiet_each _ _ _ (fun x t => ?_)).trans ?_) | (refine (quiet_when _ _ _ (fun t => ?_)).trans ?_) | (refine (quiet_foldl _ _ _ (fun t x => ?_)).trans ?_) | (rename_i h; refine (congrArg (fun x => State.quiet (Prod.fst x)) h).symm.trans ?_; simp only [quiet_State_setAnchor, apply_ite State.quiet, apply_ite Prod.fst, ite_self, implies_true, eq_self, quiet_foldl, quiet_each, quiet_when, quiet_State_emit, quiet_State_used]; done) | (refine (quiet_foldFst _ _ _ (fun x k => ?_)).trans ?_) | intro x)

theorem quiet_State_mnNo (a1) (a2) (a3) (a4) (s : State) : (State.mnNo a1 a2 a3 a4 s).quiet = s.quiet := by
  unfold State.mnNo
  repeat' (first | with_reducible rfl | (simp only [quiet_State_mnRefuse, quiet_State_mnNoData, apply_ite State.quiet, apply_ite Prod.fst, ite_self, implies_true, eq_self, quiet_foldl, quiet_each, quiet_when, quiet_State_emit, quiet_State_used]; done) | (simp only [quiet_State_mnRefuse, quiet_State_mnNoData, apply_ite State.quiet, apply_ite Prod.fst, ite_self, implies_true, eq_self, quiet_foldl, quiet_each, quiet_when, quiet_State_emit, quiet_State_used]) | split | (refine (quiet_each _ _ _ (fun x t => ?_)).trans ?_) | (refine (quiet_when _ _ _ (fun t => ?_)).trans ?_) | (refine (quiet_foldl _ _ _ (fun t x => ?_)).trans ?_) | (rename_i h; refine (congrArg (fun x => State.quiet (Prod.fst x)) h).symm.trans ?_; simp only [quiet_State_mnRefuse, quiet_State_mnNoData, apply_ite State.quiet, apply_ite Prod.fst, ite_self, implies_true, eq_self, quiet_foldl, quiet_each, quiet_when, quiet_State_emit, quiet_State_used]; done) | (refine (quiet_foldFst _ _ _ (fun x k => ?_)).trans ?_) | intro x)

theorem quiet_State_passWrite (a1) (a2) (a3) (a4) (s : State) : (State.passWrite a1 a2 a3 a4 s).quiet = s.quiet := by
  unfold State.passWrite
  repeat' (first | with_reducible rfl | (simp only [quiet_State_msWrite, quiet_State_modSg, apply_ite State.quiet, apply_ite Prod.fst, ite_self, implies_true, eq_self, quiet_foldl, quiet_each, quiet_when, quiet_State_emit, quiet_State_used]; done) | (simp only [quiet_State_msWrite, quiet_State_modSg, apply_ite State.quiet, apply_ite Prod.fst, ite_self, implies_true, eq_self, quiet_foldl, quiet_each, quiet_when, quiet_State_emit, quiet_State_used]) | split | (refine (quiet_each _ _ _ (fun x t => ?_)).trans ?_) | (refine (quiet_when _ _ _ (fun t => ?_)).trans ?_) | (refine (quiet_foldl _ _ _ (fun t x => ?_)).trans ?_) | (rename_i h; refine (congrArg (fun x => State.quiet (Prod.fst x)) h).symm.trans ?_; simp only [quiet_State_msWrite, quiet_State_modSg, apply_ite State.quiet, apply_ite Prod.fst, ite_self, implies_true, eq_self, quiet_foldl, quiet_each, quiet_when, quiet_State_emit, quiet_State_used]; done) | (refine (quiet_foldFst _ _ _ (fun x k => ?_)).trans ?_) | intro x)

theorem quiet_State_lineHere (a1) (a2) (a3) (s : State) : (State.lineHere a1 a2 a3 s).quiet = s.quiet := by
  unfold State.lineHere
  simp only [quiet_State_modLine, eq_self]

theorem quiet_State_sendLine (a1) (a2) (s : State) : (State.sendLine a1 a2 s).quiet = s.quiet := by
  unfold State.sendLine
  simp only [quiet_State_glob, quiet_State_msWrite, quiet_State_modSg, quiet_State_modLine, apply_ite State.quiet, ite_self, eq_self]

theorem quiet_State_backNode (a1) (a2) (s : State) : (State.backNode a1 a2 s).quiet = s.quiet := by
  unfold State.backNode
  simp only [quiet_State_setAnchor, quiet_State_setWord, quiet_State_sendLine, apply_ite State.quiet, ite_self, eq_self]

theorem quiet_State_discard (a1) (a2) (s : State) : (State.discard a1 a2 s).quiet = s.quiet := by
  unfold State.discard
  simp only [quiet_State_glob, quiet_State_count, eq_self]

theorem quiet_State_rxAccept (a1) (a2) (s : State) : (State.rxAccept a1 a2 s).1.quiet = s.quiet := by
  unfold State.rxAccept
  repeat' (first | with_reducible rfl | (simp only [quiet_State_discard, quiet_State_modSess, quiet_State_glob, quiet_State_wants, quiet_State_cntr, apply_ite State.quiet, apply_ite Prod.fst, ite_self, implies_true, eq_self, quiet_foldl, quiet_each, quiet_when, quiet_State_emit, quiet_State_used]; done) | (simp only [quiet_State_discard, quiet_State_modSess, quiet_State_glob, quiet_State_wants, quiet_State_cntr, apply_ite State.quiet, apply_ite Prod.fst, ite_self, implies_true, eq_self, quiet_foldl, quiet_each, quiet_when, quiet_State_emit, quiet_State_used]) | split | (refine (quiet_each _ _ _ (fun x t => ?_)).trans ?_) | (refine (quiet_when _ _ _ (fun t => ?_)).trans ?_) | (refine (quiet_foldl _ _ _ (fun t x => ?_)).trans ?_) | (rename_i h; refine (congrArg (fun x => State.quiet (Prod.fst x)) h).symm.trans ?_; simp only [quiet_State_discard, quiet_State_modSess, quiet_State_glob, quiet_State_wants, quiet_State_cntr, apply_ite State.quiet, apply_ite Prod.fst, ite_self, implies_true, eq_self, quiet_foldl, quiet_each, quiet_when, quiet_State_emit, quiet_State_used]; done) | (refine (quiet_foldFst _ _ _ (fun x k => ?_)).trans ?_) | intro x)

theorem quiet_State_closeSess (a1) (a2) (a3) (s : State) : (State.closeSess a1 a2 a3 s).quiet = s.quiet := by
  unfold State.closeSess
  simp only [quiet_State_modPort, quiet_State_sessTo, quiet_State_enqueue, apply_ite State.quiet, ite_self, eq_self]

theorem quiet_State_closePart (a1) (a2) (s : State) : (State.closePart a1 a2 s).quiet = s.quiet := by
  unfold State.closePart
  simp only [quiet_each, quiet_State_closeSess, implies_true, eq_self, quiet_each]

theorem quiet_State_rejoinNotice (a1) (s : State) : (State.rejoinNotice a1 s).quiet = s.quiet := by
  unfold State.rejoinNotice
  simp only [quiet_State_broadcast, eq_self]

theorem quiet_State_saltKeys (a1) (s : State) : (State.saltKeys a1 s).quiet = s.quiet := by
  unfold State.saltKeys
  simp only [quiet_each, quiet_State_retireFor, apply_ite State.quiet, ite_self, implies_true, eq_self, quiet_each]

theorem quiet_State_flowLess (a1) (a2) (s : State) : (State.flowLess a1 a2 s).quiet = s.quiet := by
  unfold State.flowLess
  simp only [quiet_State_saltKeys, quiet_State_modPort, eq_self]

theorem quiet_State_unqueue (a1) (a2) (s : State) : (State.unqueue a1 a2 s).quiet = s.quiet := by
  unfold State.unqueue
  simp only [quiet_State_modPort, eq_self]

theorem quiet_State_nextSecret (a1) (a2) (a3) (s : State) : (State.nextSecret a1 a2 a3 s).1.quiet = s.quiet := by
  unfold State.nextSecret
  simp only [quiet_State_retireFor, quiet_State_settleSlot, eq_self]

theorem quiet_State_epochMove (a1) (a2) (s : State) : (State.epochMove a1 a2 s).quiet = s.quiet := by
  unfold State.epochMove
  simp only [quiet_State_nextSecret, quiet_State_glob, quiet_State_modSess, eq_self]

theorem quiet_State_epochChange (a1) (a2) (s : State) : (State.epochChange a1 a2 s).quiet = s.quiet := by
  unfold State.epochChange
  simp only [quiet_State_modSess, quiet_State_epochMove, apply_ite State.quiet, ite_self, eq_self]

theorem quiet_State_routeReply (a1) (a2) (a3) (a4) (a5) (a6) (s : State) : (State.routeReply a1 a2 a3 a4 a5 a6 s).quiet = s.quiet := by
  unfold State.routeReply
  simp only [quiet_State_enqueue, eq_self]

theorem quiet_State_applyRoute (a1) (a2) (a3) (a4) (s : State) : (State.applyRoute a1 a2 a3 a4 s).quiet = s.quiet := by
  unfold State.applyRoute
  simp only [quiet_State_routeReply, quiet_State_enqueue, apply_ite State.quiet, ite_self, eq_self]

theorem quiet_State_sendOp (a1) (a2) (s : State) : (State.sendOp a1 a2 s).quiet = s.quiet := by
  unfold State.sendOp
  simp only [quiet_State_sendTo, eq_self]

theorem quiet_State_traceOp (a1) (a2) (a3) (a4) (s : State) : (State.traceOp a1 a2 a3 a4 s).quiet = s.quiet := by
  unfold State.traceOp
  simp only [quiet_State_trace, eq_self]

theorem quiet_State_srcRead (a1) (a2) (a3) (a4) (s : State) : (State.srcRead a1 a2 a3 a4 s).1.quiet = s.quiet := by
  unfold State.srcRead
  simp only [quiet_State_innerRead, eq_self]

theorem quiet_State_flowAnswered (a1) (a2) (a3) (a4) (a5) (s : State) : (State.flowAnswered a1 a2 a3 a4 a5 s).quiet = s.quiet := by
  unfold State.flowAnswered
  simp only [quiet_State_flowLess, eq_self]

theorem quiet_State_unlessBreach (a1) (a2) (a3) (s : State) (ha3 : ∀ t, State.quiet (a3 t) = t.quiet) : (State.unlessBreach a1 a2 a3 s).quiet = s.quiet := by
  unfold State.unlessBreach
  simp only [quiet_State_discard, ha3, apply_ite State.quiet, ite_self, eq_self]

theorem quiet_State_sendReplyTo (a1) (a2) (a3) (a4) (a5) (a6) (a7) (a8) (a9) (a10) (a11) (a12) (s : State) : (State.sendReplyTo a1 a2 a3 a4 a5 a6 a7 a8 a9 a10 a11 a12 s).quiet = s.quiet := by
  unfold State.sendReplyTo
  simp only [quiet_State_enqueue, eq_self]

theorem quiet_State_remotePlace (a1) (a2) (a3) (a4) (a5) (s : State) : (State.remotePlace a1 a2 a3 a4 a5 s).1.quiet = s.quiet := by
  unfold State.remotePlace
  repeat' (first | with_reducible rfl | (simp only [quiet_State_useRegion, apply_ite State.quiet, apply_ite Prod.fst, ite_self, implies_true, eq_self, quiet_foldl, quiet_each, quiet_when, quiet_State_emit, quiet_State_used]; done) | (simp only [quiet_State_useRegion, apply_ite State.quiet, apply_ite Prod.fst, ite_self, implies_true, eq_self, quiet_foldl, quiet_each, quiet_when, quiet_State_emit, quiet_State_used]) | split | (refine (quiet_each _ _ _ (fun x t => ?_)).trans ?_) | (refine (quiet_when _ _ _ (fun t => ?_)).trans ?_) | (refine (quiet_foldl _ _ _ (fun t x => ?_)).trans ?_) | (rename_i h; refine (congrArg (fun x => State.quiet (Prod.fst x)) h).symm.trans ?_; simp only [quiet_State_useRegion, apply_ite State.quiet, apply_ite Prod.fst, ite_self, implies_true, eq_self, quiet_foldl, quiet_each, quiet_when, quiet_State_emit, quiet_State_used]; done) | (refine (quiet_foldFst _ _ _ (fun x k => ?_)).trans ?_) | intro x)

theorem quiet_State_sendContrib (a1) (a2) (s : State) : (State.sendContrib a1 a2 s).quiet = s.quiet := by
  unfold State.sendContrib
  simp only [quiet_State_sendTo, eq_self]

theorem quiet_State_traceContrib (a1) (a2) (a3) (s : State) : (State.traceContrib a1 a2 a3 s).quiet = s.quiet := by
  unfold State.traceContrib
  simp only [quiet_State_trace, eq_self]

theorem quiet_State_ackContrib (a1) (a2) (a3) (a4) (s : State) : (State.ackContrib a1 a2 a3 a4 s).quiet = s.quiet := by
  unfold State.ackContrib
  simp only [quiet_State_sendTo, eq_self]

theorem quiet_State_ackResult (a1) (a2) (a3) (a4) (s : State) : (State.ackResult a1 a2 a3 a4 s).quiet = s.quiet := by
  unfold State.ackResult
  simp only [quiet_State_sendTo, eq_self]

theorem quiet_State_ptpSend (a1) (a2) (a3) (a4) (a5) (a6) (a7) (s : State) : (State.ptpSend a1 a2 a3 a4 a5 a6 a7 s).quiet = s.quiet := by
  unfold State.ptpSend
  simp only [quiet_State_enqueue, apply_ite State.quiet, ite_self, eq_self]

theorem quiet_State_drawn (s : State) : (State.drawn s).quiet = s.quiet := by
  unfold State.drawn
  simp only [quiet_State_modKey, quiet_State_used, eq_self, quiet_State_used]

theorem quiet_State_drawnPr (s : State) : (State.drawnPr s).quiet = s.quiet := by
  unfold State.drawnPr
  simp only [quiet_State_modKey, quiet_State_used, eq_self, quiet_State_used]

theorem quiet_State_cceTolaro (a1) (a2) (a3) (a4) (a5) (a6) (s : State) : (State.cceTolaro a1 a2 a3 a4 a5 a6 s).quiet = s.quiet := by
  unfold State.cceTolaro
  simp only [quiet_State_modKey, quiet_when, quiet_State_drawn, apply_ite State.quiet, ite_self, implies_true, eq_self, quiet_when]

theorem quiet_State_pkeNext (a1) (a2) (s : State) : (State.pkeNext a1 a2 s).quiet = s.quiet := by
  unfold State.pkeNext
  simp only [quiet_State_modKey, eq_self]

theorem quiet_State_setReseal (a1) (a2) (s : State) : (State.setReseal a1 a2 s).quiet = s.quiet := by
  unfold State.setReseal
  simp only [quiet_State_modKey, eq_self]

theorem quiet_State_sgWrite (a1) (a2) (s : State) : (State.sgWrite a1 a2 s).quiet = s.quiet := by
  unfold State.sgWrite
  simp only [quiet_State_busErr, quiet_State_setFld, quiet_State_flag, apply_ite State.quiet, ite_self, eq_self]

theorem quiet_State_commitWeights (a1) (s : State) : (State.commitWeights a1 s).quiet = s.quiet := by
  unfold State.commitWeights
  simp only [quiet_State_modShare, apply_ite State.quiet, ite_self, eq_self]

theorem quiet_State_wakeOne (a1) (s : State) : (State.wakeOne a1 s).quiet = s.quiet := by
  unfold State.wakeOne
  simp only [quiet_State_modShare, quiet_State_modUnit, apply_ite State.quiet, ite_self, eq_self]

theorem quiet_State_wasHeld (a1) (a2) (s : State) : (State.wasHeld a1 a2 s).quiet = s.quiet := by
  unfold State.wasHeld
  simp only [quiet_State_cntr, eq_self]

theorem quiet_State_freeFabric (a1) (s : State) : (State.freeFabric a1 s).quiet = s.quiet := by
  unfold State.freeFabric
  simp only [quiet_State_modPort, quiet_each, quiet_State_wasHeld, implies_true, eq_self, quiet_each]

theorem quiet_State_freeNorth (a1) (s : State) : (State.freeNorth a1 s).quiet = s.quiet := by
  unfold State.freeNorth
  simp only [quiet_State_modSg, quiet_each, quiet_State_msWrite, quiet_State_wasHeld, implies_true, eq_self, quiet_each]

theorem quiet_State_freeTrace (s : State) : (State.freeTrace s).quiet = s.quiet := by
  unfold State.freeTrace
  repeat' (first | with_reducible rfl | (simp only [quiet_each, quiet_State_writeRing, quiet_State_wasHeld, apply_ite State.quiet, apply_ite Prod.fst, ite_self, implies_true, eq_self, quiet_foldl, quiet_each, quiet_when, quiet_State_emit, quiet_State_used]; done) | (simp only [quiet_each, quiet_State_writeRing, quiet_State_wasHeld, apply_ite State.quiet, apply_ite Prod.fst, ite_self, implies_true, eq_self, quiet_foldl, quiet_each, quiet_when, quiet_State_emit, quiet_State_used]) | split | (refine (quiet_each _ _ _ (fun x t => ?_)).trans ?_) | (refine (quiet_when _ _ _ (fun t => ?_)).trans ?_) | (refine (quiet_foldl _ _ _ (fun t x => ?_)).trans ?_) | (rename_i h; refine (congrArg (fun x => State.quiet (Prod.fst x)) h).symm.trans ?_; simp only [quiet_each, quiet_State_writeRing, quiet_State_wasHeld, apply_ite State.quiet, apply_ite Prod.fst, ite_self, implies_true, eq_self, quiet_foldl, quiet_each, quiet_when, quiet_State_emit, quiet_State_used]; done) | (refine (quiet_foldFst _ _ _ (fun x k => ?_)).trans ?_) | intro x)

theorem quiet_State_bellRefuse (a1) (a2) (a3) (a4) (a5) (s : State) : (State.bellRefuse a1 a2 a3 a4 a5 s).quiet = s.quiet := by
  unfold State.bellRefuse
  simp only [quiet_State_modCmd, quiet_State_glob, quiet_State_flag, apply_ite State.quiet, ite_self, eq_self]

theorem quiet_State_bell (a1) (a2) (a3) (a4) (a5) (a6) (s : State) : (State.bell a1 a2 a3 a4 a5 a6 s).quiet = s.quiet := by
  unfold State.bell
  simp only [quiet_State_bellRefuse, quiet_State_modQueue, quiet_State_touchCtx, apply_ite State.quiet, ite_self, eq_self]

theorem quiet_State_hostQueueOpen (a1) (s : State) : (State.hostQueueOpen a1 s).quiet = s.quiet := by
  unfold State.hostQueueOpen
  simp only [quiet_State_flag, quiet_State_modQueue, apply_ite State.quiet, ite_self, eq_self]

theorem quiet_State_ownRegion (a1) (a2) (s : State) : (State.ownRegion a1 a2 s).quiet = s.quiet := by
  unfold State.ownRegion
  simp only [quiet_State_setAnchor, quiet_State_modSg, quiet_State_dropRegion, eq_self]

theorem quiet_State_clearWays (a1) (a2) (s : State) : (State.clearWays a1 a2 s).quiet = s.quiet := by
  unfold State.clearWays
  simp only [quiet_State_modKey, quiet_State_modSg, eq_self]

theorem quiet_State_putShare (a1) (a2) (s : State) : (State.putShare a1 a2 s).quiet = s.quiet := by
  unfold State.putShare
  repeat' (first | with_reducible rfl | (simp only [quiet_State_modShare, quiet_each, quiet_State_clearWays, apply_ite State.quiet, apply_ite Prod.fst, ite_self, implies_true, eq_self, quiet_foldl, quiet_each, quiet_when, quiet_State_emit, quiet_State_used]; done) | (simp only [quiet_State_modShare, quiet_each, quiet_State_clearWays, apply_ite State.quiet, apply_ite Prod.fst, ite_self, implies_true, eq_self, quiet_foldl, quiet_each, quiet_when, quiet_State_emit, quiet_State_used]) | split | (refine (quiet_each _ _ _ (fun x t => ?_)).trans ?_) | (refine (quiet_when _ _ _ (fun t => ?_)).trans ?_) | (refine (quiet_foldl _ _ _ (fun t x => ?_)).trans ?_) | (rename_i h; refine (congrArg (fun x => State.quiet (Prod.fst x)) h).symm.trans ?_; simp only [quiet_State_modShare, quiet_each, quiet_State_clearWays, apply_ite State.quiet, apply_ite Prod.fst, ite_self, implies_true, eq_self, quiet_foldl, quiet_each, quiet_when, quiet_State_emit, quiet_State_used]; done) | (refine (quiet_foldFst _ _ _ (fun x k => ?_)).trans ?_) | intro x)

theorem quiet_State_dropShare (a1) (s : State) : (State.dropShare a1 s).quiet = s.quiet := by
  unfold State.dropShare
  repeat' (first | with_reducible rfl | (simp only [quiet_State_modShare, quiet_each, apply_ite State.quiet, apply_ite Prod.fst, ite_self, implies_true, eq_self, quiet_foldl, quiet_each, quiet_when, quiet_State_emit, quiet_State_used]; done) | (simp only [quiet_State_modShare, quiet_each, apply_ite State.quiet, apply_ite Prod.fst, ite_self, implies_true, eq_self, quiet_foldl, quiet_each, quiet_when, quiet_State_emit, quiet_State_used]) | split | (refine (quiet_each _ _ _ (fun x t => ?_)).trans ?_) | (refine (quiet_when _ _ _ (fun t => ?_)).trans ?_) | (refine (quiet_foldl _ _ _ (fun t x => ?_)).trans ?_) | (rename_i h; refine (congrArg (fun x => State.quiet (Prod.fst x)) h).symm.trans ?_; simp only [quiet_State_modShare, quiet_each, apply_ite State.quiet, apply_ite Prod.fst, ite_self, implies_true, eq_self, quiet_foldl, quiet_each, quiet_when, quiet_State_emit, quiet_State_used]; done) | (refine (quiet_foldFst _ _ _ (fun x k => ?_)).trans ?_) | intro x)

theorem quiet_State_newTables (a1) (a2) (s : State) : (State.newTables a1 a2 s).1.quiet = s.quiet := by
  unfold State.newTables
  simp only [quiet_State_modObju, quiet_State_modObj, quiet_State_writeObj, quiet_State_bindPlots, eq_self]

theorem quiet_State_abandonAsk (a1) (s : State) : (State.abandonAsk a1 s).quiet = s.quiet := by
  unfold State.abandonAsk
  repeat' (first | with_reducible rfl | (simp only [quiet_State_modSess, quiet_State_retireAll, apply_ite State.quiet, apply_ite Prod.fst, ite_self, implies_true, eq_self, quiet_foldl, quiet_each, quiet_when, quiet_State_emit, quiet_State_used]; done) | (simp only [quiet_State_modSess, quiet_State_retireAll, apply_ite State.quiet, apply_ite Prod.fst, ite_self, implies_true, eq_self, quiet_foldl, quiet_each, quiet_when, quiet_State_emit, quiet_State_used]) | split | (refine (quiet_each _ _ _ (fun x t => ?_)).trans ?_) | (refine (quiet_when _ _ _ (fun t => ?_)).trans ?_) | (refine (quiet_foldl _ _ _ (fun t x => ?_)).trans ?_) | (rename_i h; refine (congrArg (fun x => State.quiet (Prod.fst x)) h).symm.trans ?_; simp only [quiet_State_modSess, quiet_State_retireAll, apply_ite State.quiet, apply_ite Prod.fst, ite_self, implies_true, eq_self, quiet_foldl, quiet_each, quiet_when, quiet_State_emit, quiet_State_used]; done) | (refine (quiet_foldFst _ _ _ (fun x k => ?_)).trans ?_) | intro x)

theorem quiet_State_sessionSecrets (a1) (s : State) : (State.sessionSecrets a1 s).1.quiet = s.quiet := by
  unfold State.sessionSecrets
  repeat' (first | with_reducible rfl | (simp only [quiet_State_renew, quiet_State_used, apply_ite State.quiet, apply_ite Prod.fst, ite_self, implies_true, eq_self, quiet_foldl, quiet_each, quiet_when, quiet_State_emit, quiet_State_used]; done) | (simp only [quiet_State_renew, quiet_State_used, apply_ite State.quiet, apply_ite Prod.fst, ite_self, implies_true, eq_self, quiet_foldl, quiet_each, quiet_when, quiet_State_emit, quiet_State_used]) | split | (refine (quiet_each _ _ _ (fun x t => ?_)).trans ?_) | (refine (quiet_when _ _ _ (fun t => ?_)).trans ?_) | (refine (quiet_foldl _ _ _ (fun t x => ?_)).trans ?_) | (rename_i h; refine (congrArg (fun x => State.quiet (Prod.fst x)) h).symm.trans ?_; simp only [quiet_State_renew, quiet_State_used, apply_ite State.quiet, apply_ite Prod.fst, ite_self, implies_true, eq_self, quiet_foldl, quiet_each, quiet_when, quiet_State_emit, quiet_State_used]; done) | (refine (quiet_foldFst _ _ _ (fun x k => ?_)).trans ?_) | intro x)

theorem quiet_State_applyCarriage (a1) (a2) (a3) (s : State) : (State.applyCarriage a1 a2 a3 s).quiet = s.quiet := by
  unfold State.applyCarriage
  simp only [quiet_State_modPort, apply_ite State.quiet, ite_self, eq_self]

theorem quiet_takeSlots (p) (n) (s : State) : (takeSlots p n s).1.quiet = s.quiet := by
  induction n generalizing s with
  | zero => rfl
  | succ n ih =>
    unfold takeSlots
    split
    · simp only []
      exact (ih _).trans (quiet_State_fill ..)
    · rfl

theorem quiet_State_mctp (a1) (a2) (s : State) : (State.mctp a1 a2 s).quiet = s.quiet := by
  unfold State.mctp
  simp only [quiet_State_emit, apply_ite State.quiet, ite_self, eq_self, quiet_State_emit]

theorem quiet_State_drawSeed (a1) (s : State) : (State.drawSeed a1 s).quiet = s.quiet := by
  unfold State.drawSeed
  simp only [quiet_State_drawnPr, quiet_State_fill, eq_self]

theorem quiet_State_encaps (a1) (a2) (s : State) : (State.encaps a1 a2 s).1.quiet = s.quiet := by
  unfold State.encaps
  simp only [quiet_State_used, quiet_State_fill, quiet_State_drawn, eq_self, quiet_State_used]

theorem quiet_State_pkeRun (j) (op) (s : State) : (State.pkeRun j op s).1.quiet = s.quiet := by
  unfold State.pkeRun
  repeat' (first | with_reducible rfl | split)
  · rename_i t sid _ _; show ((s.session _ _).elim s _).quiet = _; cases s.session _ _
    · rfl
    · exact quiet_State_drawSeed ..
  · exact quiet_each _ _ _ fun _ _ => quiet_State_drawSeed ..
  · rename_i h; exact (congrArg (fun x => State.quiet (Prod.fst x)) h).symm.trans (quiet_State_encaps ..)
  · exact quiet_State_drawnPr ..
  · exact quiet_State_drawn ..

theorem quiet_State_publish (a1) (s : State) : (State.publish a1 s).quiet = s.quiet := by
  unfold State.publish
  simp only [quiet_State_modObs, quiet_State_used, quiet_State_trace, apply_ite State.quiet, ite_self, eq_self, quiet_State_used]

theorem quiet_State_mark (a1) (a2) (a3) (a4) (s : State) : (State.mark a1 a2 a3 a4 s).quiet = s.quiet := by
  unfold State.mark
  simp only [quiet_State_trace, quiet_State_modCtx, quiet_State_flag, apply_ite State.quiet, ite_self, eq_self]

theorem quiet_State_flushPress (s : State) : (State.flushPress s).quiet = s.quiet := by
  unfold State.flushPress
  simp only [quiet_State_emit, quiet_State_modObs, apply_ite State.quiet, ite_self, eq_self, quiet_State_emit]

theorem quiet_State_resaltPort (a1) (s : State) : (State.resaltPort a1 s).quiet = s.quiet := by
  unfold State.resaltPort
  simp only [quiet_State_modPort, quiet_State_saltKeys, quiet_State_glob, apply_ite State.quiet, ite_self, eq_self]

theorem quiet_State_markHeld (a1) (s : State) : (State.markHeld a1 s).quiet = s.quiet := by
  unfold State.markHeld
  simp only [quiet_State_modLnk, eq_self]

theorem quiet_State_sweepLine (a1) (a2) (s : State) : (State.sweepLine a1 a2 s).quiet = s.quiet := by
  unfold State.sweepLine
  simp only [quiet_State_glob, quiet_State_msWrite, eq_self]

theorem quiet_State_resealTo (a1) (a2) (a3) (a4) (a5) (s : State) : (State.resealTo a1 a2 a3 a4 a5 s).quiet = s.quiet := by
  unfold State.resealTo
  repeat' (first | with_reducible rfl | (simp only [quiet_State_modSg, quiet_State_dropRegion, quiet_each, quiet_State_glob, quiet_State_msWrite, quiet_State_sweepLine, quiet_State_setAnchor, apply_ite State.quiet, apply_ite Prod.fst, ite_self, implies_true, eq_self, quiet_foldl, quiet_each, quiet_when, quiet_State_emit, quiet_State_used]; done) | (simp only [quiet_State_modSg, quiet_State_dropRegion, quiet_each, quiet_State_glob, quiet_State_msWrite, quiet_State_sweepLine, quiet_State_setAnchor, apply_ite State.quiet, apply_ite Prod.fst, ite_self, implies_true, eq_self, quiet_foldl, quiet_each, quiet_when, quiet_State_emit, quiet_State_used]) | split | (refine (quiet_each _ _ _ (fun x t => ?_)).trans ?_) | (refine (quiet_when _ _ _ (fun t => ?_)).trans ?_) | (refine (quiet_foldl _ _ _ (fun t x => ?_)).trans ?_) | (rename_i h; refine (congrArg (fun x => State.quiet (Prod.fst x)) h).symm.trans ?_; simp only [quiet_State_modSg, quiet_State_dropRegion, quiet_each, quiet_State_glob, quiet_State_msWrite, quiet_State_sweepLine, quiet_State_setAnchor, apply_ite State.quiet, apply_ite Prod.fst, ite_self, implies_true, eq_self, quiet_foldl, quiet_each, quiet_when, quiet_State_emit, quiet_State_used]; done) | (refine (quiet_foldFst _ _ _ (fun x k => ?_)).trans ?_) | intro x)

theorem quiet_State_zeroRegion (a1) (a2) (a3) (s : State) : (State.zeroRegion a1 a2 a3 s).quiet = s.quiet := by
  unfold State.zeroRegion
  repeat' (first | with_reducible rfl | (simp only [quiet_State_setAnchor, quiet_State_resealTo, apply_ite State.quiet, apply_ite Prod.fst, ite_self, implies_true, eq_self, quiet_foldl, quiet_each, quiet_when, quiet_State_emit, quiet_State_used]; done) | (simp only [quiet_State_setAnchor, quiet_State_resealTo, apply_ite State.quiet, apply_ite Prod.fst, ite_self, implies_true, eq_self, quiet_foldl, quiet_each, quiet_when, quiet_State_emit, quiet_State_used]) | split | (refine (quiet_each _ _ _ (fun x t => ?_)).trans ?_) | (refine (quiet_when _ _ _ (fun t => ?_)).trans ?_) | (refine (quiet_foldl _ _ _ (fun t x => ?_)).trans ?_) | (rename_i h; refine (congrArg (fun x => State.quiet (Prod.fst x)) h).symm.trans ?_; simp only [quiet_State_setAnchor, quiet_State_resealTo, apply_ite State.quiet, apply_ite Prod.fst, ite_self, implies_true, eq_self, quiet_foldl, quiet_each, quiet_when, quiet_State_emit, quiet_State_used]; done) | (refine (quiet_foldFst _ _ _ (fun x k => ?_)).trans ?_) | intro x)

theorem quiet_State_scrubAnchors (a1) (s : State) : (State.scrubAnchors a1 s).quiet = s.quiet := by
  unfold State.scrubAnchors
  simp only [quiet_each, quiet_State_setAnchor, quiet_State_finishRetire, quiet_State_retire, quiet_State_modSg, quiet_State_modObju, implies_true, eq_self, quiet_each]

theorem quiet_State_sendPwr (s : State) : (State.sendPwr s).quiet = s.quiet := by
  unfold State.sendPwr
  repeat' (first | with_reducible rfl | (simp only [quiet_State_emit, apply_ite State.quiet, apply_ite Prod.fst, ite_self, implies_true, eq_self, quiet_foldl, quiet_each, quiet_when, quiet_State_emit, quiet_State_used]; done) | (simp only [quiet_State_emit, apply_ite State.quiet, apply_ite Prod.fst, ite_self, implies_true, eq_self, quiet_foldl, quiet_each, quiet_when, quiet_State_emit, quiet_State_used]) | split | (refine (quiet_each _ _ _ (fun x t => ?_)).trans ?_) | (refine (quiet_when _ _ _ (fun t => ?_)).trans ?_) | (refine (quiet_foldl _ _ _ (fun t x => ?_)).trans ?_) | (rename_i h; refine (congrArg (fun x => State.quiet (Prod.fst x)) h).symm.trans ?_; simp only [quiet_State_emit, apply_ite State.quiet, apply_ite Prod.fst, ite_self, implies_true, eq_self, quiet_foldl, quiet_each, quiet_when, quiet_State_emit, quiet_State_used]; done) | (refine (quiet_foldFst _ _ _ (fun x k => ?_)).trans ?_) | intro x)

theorem quiet_State_cutBurn (s : State) : (State.cutBurn s).quiet = s.quiet := by
  unfold State.cutBurn
  repeat' (first | with_reducible rfl | (simp only [quiet_State_used, quiet_State_burn, apply_ite State.quiet, apply_ite Prod.fst, ite_self, implies_true, eq_self, quiet_foldl, quiet_each, quiet_when, quiet_State_emit, quiet_State_used]; done) | (simp only [quiet_State_used, quiet_State_burn, apply_ite State.quiet, apply_ite Prod.fst, ite_self, implies_true, eq_self, quiet_foldl, quiet_each, quiet_when, quiet_State_emit, quiet_State_used]) | split | (refine (quiet_each _ _ _ (fun x t => ?_)).trans ?_) | (refine (quiet_when _ _ _ (fun t => ?_)).trans ?_) | (refine (quiet_foldl _ _ _ (fun t x => ?_)).trans ?_) | (rename_i h; refine (congrArg (fun x => State.quiet (Prod.fst x)) h).symm.trans ?_; simp only [quiet_State_used, quiet_State_burn, apply_ite State.quiet, apply_ite Prod.fst, ite_self, implies_true, eq_self, quiet_foldl, quiet_each, quiet_when, quiet_State_emit, quiet_State_used]; done) | (refine (quiet_foldFst _ _ _ (fun x k => ?_)).trans ?_) | intro x)

theorem quiet_State_pressGoOn (s : State) : (State.pressGoOn s).quiet = s.quiet := by
  unfold State.pressGoOn
  repeat' (first | with_reducible rfl | (simp only [quiet_State_modObs, apply_ite State.quiet, apply_ite Prod.fst, ite_self, implies_true, eq_self, quiet_foldl, quiet_each, quiet_when, quiet_State_emit, quiet_State_used]; done) | (simp only [quiet_State_modObs, apply_ite State.quiet, apply_ite Prod.fst, ite_self, implies_true, eq_self, quiet_foldl, quiet_each, quiet_when, quiet_State_emit, quiet_State_used]) | split | (refine (quiet_each _ _ _ (fun x t => ?_)).trans ?_) | (refine (quiet_when _ _ _ (fun t => ?_)).trans ?_) | (refine (quiet_foldl _ _ _ (fun t x => ?_)).trans ?_) | (rename_i h; refine (congrArg (fun x => State.quiet (Prod.fst x)) h).symm.trans ?_; simp only [quiet_State_modObs, apply_ite State.quiet, apply_ite Prod.fst, ite_self, implies_true, eq_self, quiet_foldl, quiet_each, quiet_when, quiet_State_emit, quiet_State_used]; done) | (refine (quiet_foldFst _ _ _ (fun x k => ?_)).trans ?_) | intro x)

theorem quiet_State_coreWrite (a1) (a2) (s : State) (ha2 : ∀ t, State.quiet (a2 t) = t.quiet) : (State.coreWrite a1 a2 s).quiet = s.quiet := by
  unfold State.coreWrite
  simp only [quiet_State_ctlWrite, ha2, apply_ite State.quiet, ite_self, implies_true, eq_self]

theorem quiet_State_badRecord (a1) (a2) (a3) (a4) (s : State) : (State.badRecord a1 a2 a3 a4 s).quiet = s.quiet := by
  unfold State.badRecord
  simp only [quiet_State_emit, quiet_State_cntr, apply_ite State.quiet, ite_self, eq_self, quiet_State_emit]

theorem quiet_State_plainWrite (a1) (a2) (s : State) : (State.plainWrite a1 a2 s).quiet = s.quiet := by
  unfold State.plainWrite
  repeat' (first | with_reducible rfl | (simp only [quiet_State_setReg, quiet_State_modRegf, quiet_State_flag, apply_ite State.quiet, apply_ite Prod.fst, ite_self, implies_true, eq_self, quiet_foldl, quiet_each, quiet_when, quiet_State_emit, quiet_State_used]; done) | (simp only [quiet_State_setReg, quiet_State_modRegf, quiet_State_flag, apply_ite State.quiet, apply_ite Prod.fst, ite_self, implies_true, eq_self, quiet_foldl, quiet_each, quiet_when, quiet_State_emit, quiet_State_used]) | split | (refine (quiet_each _ _ _ (fun x t => ?_)).trans ?_) | (refine (quiet_when _ _ _ (fun t => ?_)).trans ?_) | (refine (quiet_foldl _ _ _ (fun t x => ?_)).trans ?_) | (rename_i h; refine (congrArg (fun x => State.quiet (Prod.fst x)) h).symm.trans ?_; simp only [quiet_State_setReg, quiet_State_modRegf, quiet_State_flag, apply_ite State.quiet, apply_ite Prod.fst, ite_self, implies_true, eq_self, quiet_foldl, quiet_each, quiet_when, quiet_State_emit, quiet_State_used]; done) | (refine (quiet_foldFst _ _ _ (fun x k => ?_)).trans ?_) | intro x)

theorem quiet_State_traceWrite (a1) (a2) (a3) (s : State) : (State.traceWrite a1 a2 a3 s).quiet = s.quiet := by
  unfold State.traceWrite
  repeat' (first | with_reducible rfl | (simp only [quiet_State_modObs, apply_ite State.quiet, apply_ite Prod.fst, ite_self, implies_true, eq_self, quiet_foldl, quiet_each, quiet_when, quiet_State_emit, quiet_State_used]; done) | (simp only [quiet_State_modObs, apply_ite State.quiet, apply_ite Prod.fst, ite_self, implies_true, eq_self, quiet_foldl, quiet_each, quiet_when, quiet_State_emit, quiet_State_used]) | split | (refine (quiet_each _ _ _ (fun x t => ?_)).trans ?_) | (refine (quiet_when _ _ _ (fun t => ?_)).trans ?_) | (refine (quiet_foldl _ _ _ (fun t x => ?_)).trans ?_) | (rename_i h; refine (congrArg (fun x => State.quiet (Prod.fst x)) h).symm.trans ?_; simp only [quiet_State_modObs, apply_ite State.quiet, apply_ite Prod.fst, ite_self, implies_true, eq_self, quiet_foldl, quiet_each, quiet_when, quiet_State_emit, quiet_State_used]; done) | (refine (quiet_foldFst _ _ _ (fun x k => ?_)).trans ?_) | intro x)

theorem quiet_State_takeHeld (a1) (a2) (s : State) : (State.takeHeld a1 a2 s).1.quiet = s.quiet := by
  unfold State.takeHeld
  simp only [quiet_State_modRegf, eq_self]

theorem quiet_State_holdLo (a1) (a2) (a3) (s : State) : (State.holdLo a1 a2 a3 s).1.quiet = s.quiet := by
  unfold State.holdLo
  simp only [quiet_State_flag, quiet_State_takeHeld, quiet_State_modRegf, apply_ite State.quiet, apply_ite Prod.fst, ite_self, eq_self]

theorem quiet_State_tickPort (a1) (s : State) : (State.tickPort a1 s).quiet = s.quiet := by
  unfold State.tickPort
  simp only [quiet_State_modPort, eq_self]

theorem quiet_execAllocDoorbell (a1) (a2) (a3) (a4) (a5) (s : State) : ∀ t, execAllocDoorbell a1 a2 a3 a4 a5 s = .next t → t.quiet = s.quiet := by
  intro t h; unfold execAllocDoorbell at h
  rcases h
  simp only [quiet_State_portWrite, quiet_State_adbSubmit, implies_true, eq_self]

theorem quiet_execAllocDoorbellDone (a1) (a2) (s : State) : ∀ t, execAllocDoorbellDone a1 a2 s = .next t → t.quiet = s.quiet := by
  intro t h; unfold execAllocDoorbellDone at h
  rcases h
  repeat' (first | with_reducible rfl | (simp only [quiet_State_setAdb, quiet_State_alloc, apply_ite State.quiet, apply_ite Prod.fst, ite_self, implies_true, eq_self, quiet_foldl, quiet_each, quiet_when, quiet_State_emit, quiet_State_used]; done) | (simp only [quiet_State_setAdb, quiet_State_alloc, apply_ite State.quiet, apply_ite Prod.fst, ite_self, implies_true, eq_self, quiet_foldl, quiet_each, quiet_when, quiet_State_emit, quiet_State_used]) | split | (refine (quiet_each _ _ _ (fun x t => ?_)).trans ?_) | (refine (quiet_when _ _ _ (fun t => ?_)).trans ?_) | (refine (quiet_foldl _ _ _ (fun t x => ?_)).trans ?_) | (rename_i h; refine (congrArg (fun x => State.quiet (Prod.fst x)) h).symm.trans ?_; simp only [quiet_State_setAdb, quiet_State_alloc, apply_ite State.quiet, apply_ite Prod.fst, ite_self, implies_true, eq_self, quiet_foldl, quiet_each, quiet_when, quiet_State_emit, quiet_State_used]; done) | intro x)

theorem quiet_execContextRestore (a1) (s : State) : ∀ t, execContextRestore a1 s = .next t → t.quiet = s.quiet := by
  intro t h; unfold execContextRestore at h
  rcases h
  simp only [quiet_State_makeRoom, quiet_State_innerRead, quiet_State_touchCtx, quiet_State_modCtx, quiet_each, quiet_State_faultTo, quiet_State_modObju, apply_ite State.quiet, apply_ite Prod.fst, ite_self, implies_true, eq_self, quiet_each]

theorem quiet_execFaultQueueDoorbell (a1) (a2) (a3) (s : State) : ∀ t, execFaultQueueDoorbell a1 a2 a3 s = .next t → t.quiet = s.quiet := by
  intro t h; unfold execFaultQueueDoorbell at h
  rcases h
  simp only [quiet_State_portWrite, quiet_State_fqWrite, apply_ite State.quiet, ite_self, implies_true, eq_self]

theorem quiet_execMsWriteAck (a1) (a2) (a3) (s : State) : ∀ t, execMsWriteAck a1 a2 a3 s = .next t → t.quiet = s.quiet := by
  intro t h; unfold execMsWriteAck at h
  rcases h
  repeat' (first | with_reducible rfl | (simp only [quiet_State_msNext, quiet_State_modSg, quiet_State_mnNoData, apply_ite State.quiet, apply_ite Prod.fst, ite_self, implies_true, eq_self, quiet_foldl, quiet_each, quiet_when, quiet_State_emit, quiet_State_used]; done) | (simp only [quiet_State_msNext, quiet_State_modSg, quiet_State_mnNoData, apply_ite State.quiet, apply_ite Prod.fst, ite_self, implies_true, eq_self, quiet_foldl, quiet_each, quiet_when, quiet_State_emit, quiet_State_used]) | split | (refine (quiet_each _ _ _ (fun x t => ?_)).trans ?_) | (refine (quiet_when _ _ _ (fun t => ?_)).trans ?_) | (refine (quiet_foldl _ _ _ (fun t x => ?_)).trans ?_) | (rename_i h; refine (congrArg (fun x => State.quiet (Prod.fst x)) h).symm.trans ?_; simp only [quiet_State_msNext, quiet_State_modSg, quiet_State_mnNoData, apply_ite State.quiet, apply_ite Prod.fst, ite_self, implies_true, eq_self, quiet_foldl, quiet_each, quiet_when, quiet_State_emit, quiet_State_used]; done) | intro x)

theorem quiet_execAnchorRestore (a1) (s : State) : ∀ t, execAnchorRestore a1 s = .next t → t.quiet = s.quiet := by
  intro t h; unfold execAnchorRestore at h
  rcases h
  repeat' (first | with_reducible rfl | (simp only [quiet_State_setAnchor, apply_ite State.quiet, apply_ite Prod.fst, ite_self, implies_true, eq_self, quiet_foldl, quiet_each, quiet_when, quiet_State_emit, quiet_State_used]; done) | (simp only [quiet_State_setAnchor, apply_ite State.quiet, apply_ite Prod.fst, ite_self, implies_true, eq_self, quiet_foldl, quiet_each, quiet_when, quiet_State_emit, quiet_State_used]) | split | (refine (quiet_each _ _ _ (fun x t => ?_)).trans ?_) | (refine (quiet_when _ _ _ (fun t => ?_)).trans ?_) | (refine (quiet_foldl _ _ _ (fun t x => ?_)).trans ?_) | (rename_i h; refine (congrArg (fun x => State.quiet (Prod.fst x)) h).symm.trans ?_; simp only [quiet_State_setAnchor, apply_ite State.quiet, apply_ite Prod.fst, ite_self, implies_true, eq_self, quiet_foldl, quiet_each, quiet_when, quiet_State_emit, quiet_State_used]; done) | intro x)

theorem quiet_execKeepaliveTx (a1) (a2) (s : State) : ∀ t, execKeepaliveTx a1 a2 s = .next t → t.quiet = s.quiet := by
  intro t h; unfold execKeepaliveTx at h
  rcases h
  simp only [quiet_State_enqueue, apply_ite State.quiet, ite_self, eq_self]

theorem quiet_execFlowEntryTimeout (a1) (a2) (s : State) : ∀ t, execFlowEntryTimeout a1 a2 s = .next t → t.quiet = s.quiet := by
  intro t h; unfold execFlowEntryTimeout at h
  rcases h
  simp only [quiet_State_flowLess, eq_self]

theorem quiet_execFlowEntryGrant (a1) (s : State) : ∀ t, execFlowEntryGrant a1 s = .next t → t.quiet = s.quiet := by
  intro t h; unfold execFlowEntryGrant at h
  rcases h
  simp only [quiet_State_modPort, apply_ite State.quiet, ite_self, eq_self]

theorem quiet_execTxStall (a1) (s : State) : ∀ t, execTxStall a1 s = .next t → t.quiet = s.quiet := by
  intro t h; unfold execTxStall at h
  rcases h
  simp only [quiet_State_flag, quiet_State_modPort, apply_ite State.quiet, ite_self, eq_self]

theorem quiet_execFrameEnqueue (a1) (a2) (s : State) : ∀ t, execFrameEnqueue a1 a2 s = .next t → t.quiet = s.quiet := by
  intro t h; unfold execFrameEnqueue at h
  rcases h
  simp only [quiet_State_enqueue, apply_ite State.quiet, ite_self, eq_self]

theorem quiet_execEpochCountLimit (a1) (a2) (s : State) : ∀ t, execEpochCountLimit a1 a2 s = .next t → t.quiet = s.quiet := by
  intro t h; unfold execEpochCountLimit at h
  rcases h
  simp only [quiet_State_epochChange, apply_ite State.quiet, ite_self, eq_self]

theorem quiet_execEpochChangeDeferred (a1) (a2) (s : State) : ∀ t, execEpochChangeDeferred a1 a2 s = .next t → t.quiet = s.quiet := by
  intro t h; unfold execEpochChangeDeferred at h
  rcases h
  simp only [quiet_State_epochMove, apply_ite State.quiet, ite_self, eq_self]

theorem quiet_execRxEpochRetire (a1) (a2) (s : State) : ∀ t, execRxEpochRetire a1 a2 s = .next t → t.quiet = s.quiet := by
  intro t h; unfold execRxEpochRetire at h
  rcases h
  simp only [quiet_State_nextSecret, quiet_State_modSess, apply_ite State.quiet, ite_self, eq_self]

theorem quiet_execRatomicRetry (a1) (a2) (s : State) : ∀ t, execRatomicRetry a1 a2 s = .next t → t.quiet = s.quiet := by
  intro t h; unfold execRatomicRetry at h
  rcases h
  repeat' (first | with_reducible rfl | (simp only [quiet_State_sendOp, apply_ite State.quiet, apply_ite Prod.fst, ite_self, implies_true, eq_self, quiet_foldl, quiet_each, quiet_when, quiet_State_emit, quiet_State_used]; done) | (simp only [quiet_State_sendOp, apply_ite State.quiet, apply_ite Prod.fst, ite_self, implies_true, eq_self, quiet_foldl, quiet_each, quiet_when, quiet_State_emit, quiet_State_used]) | split | (refine (quiet_each _ _ _ (fun x t => ?_)).trans ?_) | (refine (quiet_when _ _ _ (fun t => ?_)).trans ?_) | (refine (quiet_foldl _ _ _ (fun t x => ?_)).trans ?_) | (rename_i h; refine (congrArg (fun x => State.quiet (Prod.fst x)) h).symm.trans ?_; simp only [quiet_State_sendOp, apply_ite State.quiet, apply_ite Prod.fst, ite_self, implies_true, eq_self, quiet_foldl, quiet_each, quiet_when, quiet_State_emit, quiet_State_used]; done) | intro x)

theorem quiet_execContributionResend (a1) (a2) (a3) (a4) (s : State) : ∀ t, execContributionResend a1 a2 a3 a4 s = .next t → t.quiet = s.quiet := by
  intro t h; unfold execContributionResend at h
  rcases h
  repeat' (first | with_reducible rfl | (simp only [quiet_State_sendContrib, apply_ite State.quiet, apply_ite Prod.fst, ite_self, implies_true, eq_self, quiet_foldl, quiet_each, quiet_when, quiet_State_emit, quiet_State_used]; done) | (simp only [quiet_State_sendContrib, apply_ite State.quiet, apply_ite Prod.fst, ite_self, implies_true, eq_self, quiet_foldl, quiet_each, quiet_when, quiet_State_emit, quiet_State_used]) | split | (refine (quiet_each _ _ _ (fun x t => ?_)).trans ?_) | (refine (quiet_when _ _ _ (fun t => ?_)).trans ?_) | (refine (quiet_foldl _ _ _ (fun t x => ?_)).trans ?_) | (rename_i h; refine (congrArg (fun x => State.quiet (Prod.fst x)) h).symm.trans ?_; simp only [quiet_State_sendContrib, apply_ite State.quiet, apply_ite Prod.fst, ite_self, implies_true, eq_self, quiet_foldl, quiet_each, quiet_when, quiet_State_emit, quiet_State_used]; done) | intro x)

theorem quiet_execResultChunkResend (a1) (a2) (a3) (s : State) : ∀ t, execResultChunkResend a1 a2 a3 s = .next t → t.quiet = s.quiet := by
  intro t h; unfold execResultChunkResend at h
  rcases h
  repeat' (first | with_reducible rfl | (simp only [quiet_each, quiet_State_sendTo, apply_ite State.quiet, apply_ite Prod.fst, ite_self, implies_true, eq_self, quiet_foldl, quiet_each, quiet_when, quiet_State_emit, quiet_State_used]; done) | (simp only [quiet_each, quiet_State_sendTo, apply_ite State.quiet, apply_ite Prod.fst, ite_self, implies_true, eq_self, quiet_foldl, quiet_each, quiet_when, quiet_State_emit, quiet_State_used]) | split | (refine (quiet_each _ _ _ (fun x t => ?_)).trans ?_) | (refine (quiet_when _ _ _ (fun t => ?_)).trans ?_) | (refine (quiet_foldl _ _ _ (fun t x => ?_)).trans ?_) | (rename_i h; refine (congrArg (fun x => State.quiet (Prod.fst x)) h).symm.trans ?_; simp only [quiet_each, quiet_State_sendTo, apply_ite State.quiet, apply_ite Prod.fst, ite_self, implies_true, eq_self, quiet_foldl, quiet_each, quiet_when, quiet_State_emit, quiet_State_used]; done) | intro x)

theorem quiet_execRngStartupPass (s : State) : ∀ t, execRngStartupPass s = .next t → t.quiet = s.quiet := by
  intro t h; unfold execRngStartupPass at h
  rcases h
  simp only [quiet_State_modKey, apply_ite State.quiet, ite_self, eq_self]

theorem quiet_execDrbgReseed (s : State) : ∀ t, execDrbgReseed s = .next t → t.quiet = s.quiet := by
  intro t h; unfold execDrbgReseed at h
  rcases h
  simp only [quiet_State_modKey, apply_ite State.quiet, ite_self, eq_self]

theorem quiet_execSlotRelease (a1) (s : State) : ∀ t, execSlotRelease a1 s = .next t → t.quiet = s.quiet := by
  intro t h; unfold execSlotRelease at h
  rcases h
  simp only [quiet_State_setSlot, apply_ite State.quiet, ite_self, eq_self]

theorem quiet_execMldsaSignRestart (s : State) : ∀ t, execMldsaSignRestart s = .next t → t.quiet = s.quiet := by
  intro t h; unfold execMldsaSignRestart at h
  rcases h
  simp only [quiet_State_modKey, quiet_State_drawn, apply_ite State.quiet, ite_self, eq_self]

theorem quiet_execSgEnable (a1) (a2) (s : State) : ∀ t, execSgEnable a1 a2 s = .next t → t.quiet = s.quiet := by
  intro t h; unfold execSgEnable at h
  rcases h
  simp only [quiet_State_ctlWrite, quiet_State_sgWrite, implies_true, eq_self]

theorem quiet_execSgDisable (a1) (a2) (s : State) : ∀ t, execSgDisable a1 a2 s = .next t → t.quiet = s.quiet := by
  intro t h; unfold execSgDisable at h
  rcases h
  simp only [quiet_State_ctlWrite, quiet_State_sgWrite, implies_true, eq_self]

theorem quiet_execLaneGate (a1) (s : State) : ∀ t, execLaneGate a1 s = .next t → t.quiet = s.quiet := by
  intro t h; unfold execLaneGate at h
  rcases h
  simp only [quiet_State_modShare, quiet_State_modUnit, apply_ite State.quiet, ite_self, eq_self]

theorem quiet_execLaneWake (s : State) : ∀ t, execLaneWake s = .next t → t.quiet = s.quiet := by
  intro t h; unfold execLaneWake at h
  rcases h
  simp only [quiet_State_modShare, quiet_each, quiet_State_wakeOne, apply_ite State.quiet, ite_self, implies_true, eq_self, quiet_each]

theorem quiet_execSubmissionDoorbell (a1) (a2) (a3) (a4) (a5) (s : State) : ∀ t, execSubmissionDoorbell a1 a2 a3 a4 a5 s = .next t → t.quiet = s.quiet := by
  intro t h; unfold execSubmissionDoorbell at h
  rcases h
  simp only [quiet_State_portWrite, quiet_State_bell, implies_true, eq_self]

theorem quiet_execReplyDoorbell (a1) (a2) (a3) (a4) (a5) (s : State) : ∀ t, execReplyDoorbell a1 a2 a3 a4 a5 s = .next t → t.quiet = s.quiet := by
  intro t h; unfold execReplyDoorbell at h
  rcases h
  simp only [quiet_State_portWrite, quiet_State_bell, implies_true, eq_self]

theorem quiet_execHostQueueEnable (a1) (a2) (s : State) : ∀ t, execHostQueueEnable a1 a2 s = .next t → t.quiet = s.quiet := by
  intro t h; unfold execHostQueueEnable at h
  rcases h
  simp only [quiet_State_ctlWrite, quiet_State_hostQueueOpen, implies_true, eq_self]

theorem quiet_execStoredReplyExpire (a1) (a2) (s : State) : ∀ t, execStoredReplyExpire a1 a2 s = .next t → t.quiet = s.quiet := by
  intro t h; unfold execStoredReplyExpire at h
  rcases h
  simp only [quiet_State_modCmd, eq_self]

theorem quiet_execGetEndpointId (s : State) : ∀ t, execGetEndpointId s = .next t → t.quiet = s.quiet := by
  intro t h; unfold execGetEndpointId at h
  rcases h
  simp only [quiet_State_mctp, eq_self]

theorem quiet_execGetEndpointUuid (s : State) : ∀ t, execGetEndpointUuid s = .next t → t.quiet = s.quiet := by
  intro t h; unfold execGetEndpointUuid at h
  rcases h
  simp only [quiet_State_mctp, eq_self]

theorem quiet_execGetMctpVersionSupport (s : State) : ∀ t, execGetMctpVersionSupport s = .next t → t.quiet = s.quiet := by
  intro t h; unfold execGetMctpVersionSupport at h
  rcases h
  simp only [quiet_State_mctp, eq_self]

theorem quiet_execGetMessageTypeSupport (s : State) : ∀ t, execGetMessageTypeSupport s = .next t → t.quiet = s.quiet := by
  intro t h; unfold execGetMessageTypeSupport at h
  rcases h
  simp only [quiet_State_mctp, eq_self]

theorem quiet_execQuantisationInstant (s : State) : ∀ t, execQuantisationInstant s = .next t → t.quiet = s.quiet := by
  intro t h; unfold execQuantisationInstant at h
  rcases h
  simp only [quiet_each, quiet_State_publish, apply_ite State.quiet, ite_self, implies_true, eq_self, quiet_each]

theorem quiet_execTraceSectorTimeout (a1) (a2) (s : State) : ∀ t, execTraceSectorTimeout a1 a2 s = .next t → t.quiet = s.quiet := by
  intro t h; unfold execTraceSectorTimeout at h
  rcases h
  simp only [quiet_State_writeRing, quiet_State_setRing, apply_ite State.quiet, ite_self, eq_self]

theorem quiet_execObsMark (a1) (a2) (a3) (a4) (s : State) : ∀ t, execObsMark a1 a2 a3 a4 s = .next t → t.quiet = s.quiet := by
  intro t h; unfold execObsMark at h
  rcases h
  simp only [quiet_State_portWrite, quiet_State_mark, implies_true, eq_self]

theorem quiet_execPressFlush (s : State) : ∀ t, execPressFlush s = .next t → t.quiet = s.quiet := by
  intro t h; unfold execPressFlush at h
  rcases h
  simp only [quiet_State_flushPress, apply_ite State.quiet, ite_self, eq_self]

theorem quiet_execPowerCycleMessageResend (s : State) : ∀ t, execPowerCycleMessageResend s = .next t → t.quiet = s.quiet := by
  intro t h; unfold execPowerCycleMessageResend at h
  rcases h
  simp only [quiet_State_sendPwr, apply_ite State.quiet, ite_self, eq_self]

end Sys2Proof.Machine
end

