-- ==== Sys2Proof/Laws/State.lean ====
section
/-!
SUPPORT. What each updater of a unit does to each field of State, so that no proof unfolds a record update.
-/
namespace Sys2Proof.Machine

@[simp] theorem modRegf_pending (f : Regf → Regf) (s : State) : (s.modRegf f).pending = s.pending := rfl
@[simp] theorem modRegf_out (f : Regf → Regf) (s : State) : (s.modRegf f).out = s.out := rfl
@[simp] theorem modRegf_tref (f : Regf → Regf) (s : State) : (s.modRegf f).tref = s.tref := rfl
@[simp] theorem modRegf_fresh (f : Regf → Regf) (s : State) : (s.modRegf f).fresh = s.fresh := rfl
@[simp] theorem modRegf_params (f : Regf → Regf) (s : State) : (s.modRegf f).params = s.params := rfl
@[simp] theorem modRegf_fuse (f : Regf → Regf) (s : State) : (s.modRegf f).fuse = s.fuse := rfl
@[simp] theorem modRegf_regf (f : Regf → Regf) (s : State) : (s.modRegf f).regf = f s.regf := rfl
@[simp] theorem modRegf_pins (f : Regf → Regf) (s : State) : (s.modRegf f).pins = s.pins := rfl
@[simp] theorem modRegf_boot (f : Regf → Regf) (s : State) : (s.modRegf f).boot = s.boot := rfl
@[simp] theorem modRegf_dt (f : Regf → Regf) (s : State) : (s.modRegf f).dt = s.dt := rfl
@[simp] theorem modRegf_key (f : Regf → Regf) (s : State) : (s.modRegf f).key = s.key := rfl
@[simp] theorem modRegf_sg (f : Regf → Regf) (s : State) : (s.modRegf f).sg = s.sg := rfl
@[simp] theorem modRegf_share (f : Regf → Regf) (s : State) : (s.modRegf f).share = s.share := rfl
@[simp] theorem modRegf_rem (f : Regf → Regf) (s : State) : (s.modRegf f).rem = s.rem := rfl
@[simp] theorem modRegf_lnk (f : Regf → Regf) (s : State) : (s.modRegf f).lnk = s.lnk := rfl
@[simp] theorem modRegf_hst (f : Regf → Regf) (s : State) : (s.modRegf f).hst = s.hst := rfl
@[simp] theorem modRegf_cmd (f : Regf → Regf) (s : State) : (s.modRegf f).cmd = s.cmd := rfl
@[simp] theorem modRegf_obju (f : Regf → Regf) (s : State) : (s.modRegf f).obju = s.obju := rfl
@[simp] theorem modRegf_att (f : Regf → Regf) (s : State) : (s.modRegf f).att = s.att := rfl
@[simp] theorem modRegf_rst (f : Regf → Regf) (s : State) : (s.modRegf f).rst = s.rst := rfl
@[simp] theorem modRegf_obs (f : Regf → Regf) (s : State) : (s.modRegf f).obs = s.obs := rfl

@[simp] theorem modPins_pending (f : Pins → Pins) (s : State) : (s.modPins f).pending = s.pending := rfl
@[simp] theorem modPins_out (f : Pins → Pins) (s : State) : (s.modPins f).out = s.out := rfl
@[simp] theorem modPins_tref (f : Pins → Pins) (s : State) : (s.modPins f).tref = s.tref := rfl
@[simp] theorem modPins_fresh (f : Pins → Pins) (s : State) : (s.modPins f).fresh = s.fresh := rfl
@[simp] theorem modPins_params (f : Pins → Pins) (s : State) : (s.modPins f).params = s.params := rfl
@[simp] theorem modPins_fuse (f : Pins → Pins) (s : State) : (s.modPins f).fuse = s.fuse := rfl
@[simp] theorem modPins_regf (f : Pins → Pins) (s : State) : (s.modPins f).regf = s.regf := rfl
@[simp] theorem modPins_pins (f : Pins → Pins) (s : State) : (s.modPins f).pins = f s.pins := rfl
@[simp] theorem modPins_boot (f : Pins → Pins) (s : State) : (s.modPins f).boot = s.boot := rfl
@[simp] theorem modPins_dt (f : Pins → Pins) (s : State) : (s.modPins f).dt = s.dt := rfl
@[simp] theorem modPins_key (f : Pins → Pins) (s : State) : (s.modPins f).key = s.key := rfl
@[simp] theorem modPins_sg (f : Pins → Pins) (s : State) : (s.modPins f).sg = s.sg := rfl
@[simp] theorem modPins_share (f : Pins → Pins) (s : State) : (s.modPins f).share = s.share := rfl
@[simp] theorem modPins_rem (f : Pins → Pins) (s : State) : (s.modPins f).rem = s.rem := rfl
@[simp] theorem modPins_lnk (f : Pins → Pins) (s : State) : (s.modPins f).lnk = s.lnk := rfl
@[simp] theorem modPins_hst (f : Pins → Pins) (s : State) : (s.modPins f).hst = s.hst := rfl
@[simp] theorem modPins_cmd (f : Pins → Pins) (s : State) : (s.modPins f).cmd = s.cmd := rfl
@[simp] theorem modPins_obju (f : Pins → Pins) (s : State) : (s.modPins f).obju = s.obju := rfl
@[simp] theorem modPins_att (f : Pins → Pins) (s : State) : (s.modPins f).att = s.att := rfl
@[simp] theorem modPins_rst (f : Pins → Pins) (s : State) : (s.modPins f).rst = s.rst := rfl
@[simp] theorem modPins_obs (f : Pins → Pins) (s : State) : (s.modPins f).obs = s.obs := rfl

@[simp] theorem modBoot_pending (f : Boot → Boot) (s : State) : (s.modBoot f).pending = s.pending := rfl
@[simp] theorem modBoot_out (f : Boot → Boot) (s : State) : (s.modBoot f).out = s.out := rfl
@[simp] theorem modBoot_tref (f : Boot → Boot) (s : State) : (s.modBoot f).tref = s.tref := rfl
@[simp] theorem modBoot_fresh (f : Boot → Boot) (s : State) : (s.modBoot f).fresh = s.fresh := rfl
@[simp] theorem modBoot_params (f : Boot → Boot) (s : State) : (s.modBoot f).params = s.params := rfl
@[simp] theorem modBoot_fuse (f : Boot → Boot) (s : State) : (s.modBoot f).fuse = s.fuse := rfl
@[simp] theorem modBoot_regf (f : Boot → Boot) (s : State) : (s.modBoot f).regf = s.regf := rfl
@[simp] theorem modBoot_pins (f : Boot → Boot) (s : State) : (s.modBoot f).pins = s.pins := rfl
@[simp] theorem modBoot_boot (f : Boot → Boot) (s : State) : (s.modBoot f).boot = f s.boot := rfl
@[simp] theorem modBoot_dt (f : Boot → Boot) (s : State) : (s.modBoot f).dt = s.dt := rfl
@[simp] theorem modBoot_key (f : Boot → Boot) (s : State) : (s.modBoot f).key = s.key := rfl
@[simp] theorem modBoot_sg (f : Boot → Boot) (s : State) : (s.modBoot f).sg = s.sg := rfl
@[simp] theorem modBoot_share (f : Boot → Boot) (s : State) : (s.modBoot f).share = s.share := rfl
@[simp] theorem modBoot_rem (f : Boot → Boot) (s : State) : (s.modBoot f).rem = s.rem := rfl
@[simp] theorem modBoot_lnk (f : Boot → Boot) (s : State) : (s.modBoot f).lnk = s.lnk := rfl
@[simp] theorem modBoot_hst (f : Boot → Boot) (s : State) : (s.modBoot f).hst = s.hst := rfl
@[simp] theorem modBoot_cmd (f : Boot → Boot) (s : State) : (s.modBoot f).cmd = s.cmd := rfl
@[simp] theorem modBoot_obju (f : Boot → Boot) (s : State) : (s.modBoot f).obju = s.obju := rfl
@[simp] theorem modBoot_att (f : Boot → Boot) (s : State) : (s.modBoot f).att = s.att := rfl
@[simp] theorem modBoot_rst (f : Boot → Boot) (s : State) : (s.modBoot f).rst = s.rst := rfl
@[simp] theorem modBoot_obs (f : Boot → Boot) (s : State) : (s.modBoot f).obs = s.obs := rfl

@[simp] theorem modDt_pending (f : Dt → Dt) (s : State) : (s.modDt f).pending = s.pending := rfl
@[simp] theorem modDt_out (f : Dt → Dt) (s : State) : (s.modDt f).out = s.out := rfl
@[simp] theorem modDt_tref (f : Dt → Dt) (s : State) : (s.modDt f).tref = s.tref := rfl
@[simp] theorem modDt_fresh (f : Dt → Dt) (s : State) : (s.modDt f).fresh = s.fresh := rfl
@[simp] theorem modDt_params (f : Dt → Dt) (s : State) : (s.modDt f).params = s.params := rfl
@[simp] theorem modDt_fuse (f : Dt → Dt) (s : State) : (s.modDt f).fuse = s.fuse := rfl
@[simp] theorem modDt_regf (f : Dt → Dt) (s : State) : (s.modDt f).regf = s.regf := rfl
@[simp] theorem modDt_pins (f : Dt → Dt) (s : State) : (s.modDt f).pins = s.pins := rfl
@[simp] theorem modDt_boot (f : Dt → Dt) (s : State) : (s.modDt f).boot = s.boot := rfl
@[simp] theorem modDt_dt (f : Dt → Dt) (s : State) : (s.modDt f).dt = f s.dt := rfl
@[simp] theorem modDt_key (f : Dt → Dt) (s : State) : (s.modDt f).key = s.key := rfl
@[simp] theorem modDt_sg (f : Dt → Dt) (s : State) : (s.modDt f).sg = s.sg := rfl
@[simp] theorem modDt_share (f : Dt → Dt) (s : State) : (s.modDt f).share = s.share := rfl
@[simp] theorem modDt_rem (f : Dt → Dt) (s : State) : (s.modDt f).rem = s.rem := rfl
@[simp] theorem modDt_lnk (f : Dt → Dt) (s : State) : (s.modDt f).lnk = s.lnk := rfl
@[simp] theorem modDt_hst (f : Dt → Dt) (s : State) : (s.modDt f).hst = s.hst := rfl
@[simp] theorem modDt_cmd (f : Dt → Dt) (s : State) : (s.modDt f).cmd = s.cmd := rfl
@[simp] theorem modDt_obju (f : Dt → Dt) (s : State) : (s.modDt f).obju = s.obju := rfl
@[simp] theorem modDt_att (f : Dt → Dt) (s : State) : (s.modDt f).att = s.att := rfl
@[simp] theorem modDt_rst (f : Dt → Dt) (s : State) : (s.modDt f).rst = s.rst := rfl
@[simp] theorem modDt_obs (f : Dt → Dt) (s : State) : (s.modDt f).obs = s.obs := rfl

@[simp] theorem modKey_pending (f : Key → Key) (s : State) : (s.modKey f).pending = s.pending := rfl
@[simp] theorem modKey_out (f : Key → Key) (s : State) : (s.modKey f).out = s.out := rfl
@[simp] theorem modKey_tref (f : Key → Key) (s : State) : (s.modKey f).tref = s.tref := rfl
@[simp] theorem modKey_fresh (f : Key → Key) (s : State) : (s.modKey f).fresh = s.fresh := rfl
@[simp] theorem modKey_params (f : Key → Key) (s : State) : (s.modKey f).params = s.params := rfl
@[simp] theorem modKey_fuse (f : Key → Key) (s : State) : (s.modKey f).fuse = s.fuse := rfl
@[simp] theorem modKey_regf (f : Key → Key) (s : State) : (s.modKey f).regf = s.regf := rfl
@[simp] theorem modKey_pins (f : Key → Key) (s : State) : (s.modKey f).pins = s.pins := rfl
@[simp] theorem modKey_boot (f : Key → Key) (s : State) : (s.modKey f).boot = s.boot := rfl
@[simp] theorem modKey_dt (f : Key → Key) (s : State) : (s.modKey f).dt = s.dt := rfl
@[simp] theorem modKey_key (f : Key → Key) (s : State) : (s.modKey f).key = f s.key := rfl
@[simp] theorem modKey_sg (f : Key → Key) (s : State) : (s.modKey f).sg = s.sg := rfl
@[simp] theorem modKey_share (f : Key → Key) (s : State) : (s.modKey f).share = s.share := rfl
@[simp] theorem modKey_rem (f : Key → Key) (s : State) : (s.modKey f).rem = s.rem := rfl
@[simp] theorem modKey_lnk (f : Key → Key) (s : State) : (s.modKey f).lnk = s.lnk := rfl
@[simp] theorem modKey_hst (f : Key → Key) (s : State) : (s.modKey f).hst = s.hst := rfl
@[simp] theorem modKey_cmd (f : Key → Key) (s : State) : (s.modKey f).cmd = s.cmd := rfl
@[simp] theorem modKey_obju (f : Key → Key) (s : State) : (s.modKey f).obju = s.obju := rfl
@[simp] theorem modKey_att (f : Key → Key) (s : State) : (s.modKey f).att = s.att := rfl
@[simp] theorem modKey_rst (f : Key → Key) (s : State) : (s.modKey f).rst = s.rst := rfl
@[simp] theorem modKey_obs (f : Key → Key) (s : State) : (s.modKey f).obs = s.obs := rfl

@[simp] theorem modSg_pending (f : Sg → Sg) (s : State) : (s.modSg f).pending = s.pending := rfl
@[simp] theorem modSg_out (f : Sg → Sg) (s : State) : (s.modSg f).out = s.out := rfl
@[simp] theorem modSg_tref (f : Sg → Sg) (s : State) : (s.modSg f).tref = s.tref := rfl
@[simp] theorem modSg_fresh (f : Sg → Sg) (s : State) : (s.modSg f).fresh = s.fresh := rfl
@[simp] theorem modSg_params (f : Sg → Sg) (s : State) : (s.modSg f).params = s.params := rfl
@[simp] theorem modSg_fuse (f : Sg → Sg) (s : State) : (s.modSg f).fuse = s.fuse := rfl
@[simp] theorem modSg_regf (f : Sg → Sg) (s : State) : (s.modSg f).regf = s.regf := rfl
@[simp] theorem modSg_pins (f : Sg → Sg) (s : State) : (s.modSg f).pins = s.pins := rfl
@[simp] theorem modSg_boot (f : Sg → Sg) (s : State) : (s.modSg f).boot = s.boot := rfl
@[simp] theorem modSg_dt (f : Sg → Sg) (s : State) : (s.modSg f).dt = s.dt := rfl
@[simp] theorem modSg_key (f : Sg → Sg) (s : State) : (s.modSg f).key = s.key := rfl
@[simp] theorem modSg_sg (f : Sg → Sg) (s : State) : (s.modSg f).sg = f s.sg := rfl
@[simp] theorem modSg_share (f : Sg → Sg) (s : State) : (s.modSg f).share = s.share := rfl
@[simp] theorem modSg_rem (f : Sg → Sg) (s : State) : (s.modSg f).rem = s.rem := rfl
@[simp] theorem modSg_lnk (f : Sg → Sg) (s : State) : (s.modSg f).lnk = s.lnk := rfl
@[simp] theorem modSg_hst (f : Sg → Sg) (s : State) : (s.modSg f).hst = s.hst := rfl
@[simp] theorem modSg_cmd (f : Sg → Sg) (s : State) : (s.modSg f).cmd = s.cmd := rfl
@[simp] theorem modSg_obju (f : Sg → Sg) (s : State) : (s.modSg f).obju = s.obju := rfl
@[simp] theorem modSg_att (f : Sg → Sg) (s : State) : (s.modSg f).att = s.att := rfl
@[simp] theorem modSg_rst (f : Sg → Sg) (s : State) : (s.modSg f).rst = s.rst := rfl
@[simp] theorem modSg_obs (f : Sg → Sg) (s : State) : (s.modSg f).obs = s.obs := rfl

@[simp] theorem modShare_pending (f : Share → Share) (s : State) : (s.modShare f).pending = s.pending := rfl
@[simp] theorem modShare_out (f : Share → Share) (s : State) : (s.modShare f).out = s.out := rfl
@[simp] theorem modShare_tref (f : Share → Share) (s : State) : (s.modShare f).tref = s.tref := rfl
@[simp] theorem modShare_fresh (f : Share → Share) (s : State) : (s.modShare f).fresh = s.fresh := rfl
@[simp] theorem modShare_params (f : Share → Share) (s : State) : (s.modShare f).params = s.params := rfl
@[simp] theorem modShare_fuse (f : Share → Share) (s : State) : (s.modShare f).fuse = s.fuse := rfl
@[simp] theorem modShare_regf (f : Share → Share) (s : State) : (s.modShare f).regf = s.regf := rfl
@[simp] theorem modShare_pins (f : Share → Share) (s : State) : (s.modShare f).pins = s.pins := rfl
@[simp] theorem modShare_boot (f : Share → Share) (s : State) : (s.modShare f).boot = s.boot := rfl
@[simp] theorem modShare_dt (f : Share → Share) (s : State) : (s.modShare f).dt = s.dt := rfl
@[simp] theorem modShare_key (f : Share → Share) (s : State) : (s.modShare f).key = s.key := rfl
@[simp] theorem modShare_sg (f : Share → Share) (s : State) : (s.modShare f).sg = s.sg := rfl
@[simp] theorem modShare_share (f : Share → Share) (s : State) : (s.modShare f).share = f s.share := rfl
@[simp] theorem modShare_rem (f : Share → Share) (s : State) : (s.modShare f).rem = s.rem := rfl
@[simp] theorem modShare_lnk (f : Share → Share) (s : State) : (s.modShare f).lnk = s.lnk := rfl
@[simp] theorem modShare_hst (f : Share → Share) (s : State) : (s.modShare f).hst = s.hst := rfl
@[simp] theorem modShare_cmd (f : Share → Share) (s : State) : (s.modShare f).cmd = s.cmd := rfl
@[simp] theorem modShare_obju (f : Share → Share) (s : State) : (s.modShare f).obju = s.obju := rfl
@[simp] theorem modShare_att (f : Share → Share) (s : State) : (s.modShare f).att = s.att := rfl
@[simp] theorem modShare_rst (f : Share → Share) (s : State) : (s.modShare f).rst = s.rst := rfl
@[simp] theorem modShare_obs (f : Share → Share) (s : State) : (s.modShare f).obs = s.obs := rfl

@[simp] theorem modRem_pending (f : Rem → Rem) (s : State) : (s.modRem f).pending = s.pending := rfl
@[simp] theorem modRem_out (f : Rem → Rem) (s : State) : (s.modRem f).out = s.out := rfl
@[simp] theorem modRem_tref (f : Rem → Rem) (s : State) : (s.modRem f).tref = s.tref := rfl
@[simp] theorem modRem_fresh (f : Rem → Rem) (s : State) : (s.modRem f).fresh = s.fresh := rfl
@[simp] theorem modRem_params (f : Rem → Rem) (s : State) : (s.modRem f).params = s.params := rfl
@[simp] theorem modRem_fuse (f : Rem → Rem) (s : State) : (s.modRem f).fuse = s.fuse := rfl
@[simp] theorem modRem_regf (f : Rem → Rem) (s : State) : (s.modRem f).regf = s.regf := rfl
@[simp] theorem modRem_pins (f : Rem → Rem) (s : State) : (s.modRem f).pins = s.pins := rfl
@[simp] theorem modRem_boot (f : Rem → Rem) (s : State) : (s.modRem f).boot = s.boot := rfl
@[simp] theorem modRem_dt (f : Rem → Rem) (s : State) : (s.modRem f).dt = s.dt := rfl
@[simp] theorem modRem_key (f : Rem → Rem) (s : State) : (s.modRem f).key = s.key := rfl
@[simp] theorem modRem_sg (f : Rem → Rem) (s : State) : (s.modRem f).sg = s.sg := rfl
@[simp] theorem modRem_share (f : Rem → Rem) (s : State) : (s.modRem f).share = s.share := rfl
@[simp] theorem modRem_rem (f : Rem → Rem) (s : State) : (s.modRem f).rem = f s.rem := rfl
@[simp] theorem modRem_lnk (f : Rem → Rem) (s : State) : (s.modRem f).lnk = s.lnk := rfl
@[simp] theorem modRem_hst (f : Rem → Rem) (s : State) : (s.modRem f).hst = s.hst := rfl
@[simp] theorem modRem_cmd (f : Rem → Rem) (s : State) : (s.modRem f).cmd = s.cmd := rfl
@[simp] theorem modRem_obju (f : Rem → Rem) (s : State) : (s.modRem f).obju = s.obju := rfl
@[simp] theorem modRem_att (f : Rem → Rem) (s : State) : (s.modRem f).att = s.att := rfl
@[simp] theorem modRem_rst (f : Rem → Rem) (s : State) : (s.modRem f).rst = s.rst := rfl
@[simp] theorem modRem_obs (f : Rem → Rem) (s : State) : (s.modRem f).obs = s.obs := rfl

@[simp] theorem modLnk_pending (f : Lnk → Lnk) (s : State) : (s.modLnk f).pending = s.pending := rfl
@[simp] theorem modLnk_out (f : Lnk → Lnk) (s : State) : (s.modLnk f).out = s.out := rfl
@[simp] theorem modLnk_tref (f : Lnk → Lnk) (s : State) : (s.modLnk f).tref = s.tref := rfl
@[simp] theorem modLnk_fresh (f : Lnk → Lnk) (s : State) : (s.modLnk f).fresh = s.fresh := rfl
@[simp] theorem modLnk_params (f : Lnk → Lnk) (s : State) : (s.modLnk f).params = s.params := rfl
@[simp] theorem modLnk_fuse (f : Lnk → Lnk) (s : State) : (s.modLnk f).fuse = s.fuse := rfl
@[simp] theorem modLnk_regf (f : Lnk → Lnk) (s : State) : (s.modLnk f).regf = s.regf := rfl
@[simp] theorem modLnk_pins (f : Lnk → Lnk) (s : State) : (s.modLnk f).pins = s.pins := rfl
@[simp] theorem modLnk_boot (f : Lnk → Lnk) (s : State) : (s.modLnk f).boot = s.boot := rfl
@[simp] theorem modLnk_dt (f : Lnk → Lnk) (s : State) : (s.modLnk f).dt = s.dt := rfl
@[simp] theorem modLnk_key (f : Lnk → Lnk) (s : State) : (s.modLnk f).key = s.key := rfl
@[simp] theorem modLnk_sg (f : Lnk → Lnk) (s : State) : (s.modLnk f).sg = s.sg := rfl
@[simp] theorem modLnk_share (f : Lnk → Lnk) (s : State) : (s.modLnk f).share = s.share := rfl
@[simp] theorem modLnk_rem (f : Lnk → Lnk) (s : State) : (s.modLnk f).rem = s.rem := rfl
@[simp] theorem modLnk_lnk (f : Lnk → Lnk) (s : State) : (s.modLnk f).lnk = f s.lnk := rfl
@[simp] theorem modLnk_hst (f : Lnk → Lnk) (s : State) : (s.modLnk f).hst = s.hst := rfl
@[simp] theorem modLnk_cmd (f : Lnk → Lnk) (s : State) : (s.modLnk f).cmd = s.cmd := rfl
@[simp] theorem modLnk_obju (f : Lnk → Lnk) (s : State) : (s.modLnk f).obju = s.obju := rfl
@[simp] theorem modLnk_att (f : Lnk → Lnk) (s : State) : (s.modLnk f).att = s.att := rfl
@[simp] theorem modLnk_rst (f : Lnk → Lnk) (s : State) : (s.modLnk f).rst = s.rst := rfl
@[simp] theorem modLnk_obs (f : Lnk → Lnk) (s : State) : (s.modLnk f).obs = s.obs := rfl

@[simp] theorem modHst_pending (f : Hst → Hst) (s : State) : (s.modHst f).pending = s.pending := rfl
@[simp] theorem modHst_out (f : Hst → Hst) (s : State) : (s.modHst f).out = s.out := rfl
@[simp] theorem modHst_tref (f : Hst → Hst) (s : State) : (s.modHst f).tref = s.tref := rfl
@[simp] theorem modHst_fresh (f : Hst → Hst) (s : State) : (s.modHst f).fresh = s.fresh := rfl
@[simp] theorem modHst_params (f : Hst → Hst) (s : State) : (s.modHst f).params = s.params := rfl
@[simp] theorem modHst_fuse (f : Hst → Hst) (s : State) : (s.modHst f).fuse = s.fuse := rfl
@[simp] theorem modHst_regf (f : Hst → Hst) (s : State) : (s.modHst f).regf = s.regf := rfl
@[simp] theorem modHst_pins (f : Hst → Hst) (s : State) : (s.modHst f).pins = s.pins := rfl
@[simp] theorem modHst_boot (f : Hst → Hst) (s : State) : (s.modHst f).boot = s.boot := rfl
@[simp] theorem modHst_dt (f : Hst → Hst) (s : State) : (s.modHst f).dt = s.dt := rfl
@[simp] theorem modHst_key (f : Hst → Hst) (s : State) : (s.modHst f).key = s.key := rfl
@[simp] theorem modHst_sg (f : Hst → Hst) (s : State) : (s.modHst f).sg = s.sg := rfl
@[simp] theorem modHst_share (f : Hst → Hst) (s : State) : (s.modHst f).share = s.share := rfl
@[simp] theorem modHst_rem (f : Hst → Hst) (s : State) : (s.modHst f).rem = s.rem := rfl
@[simp] theorem modHst_lnk (f : Hst → Hst) (s : State) : (s.modHst f).lnk = s.lnk := rfl
@[simp] theorem modHst_hst (f : Hst → Hst) (s : State) : (s.modHst f).hst = f s.hst := rfl
@[simp] theorem modHst_cmd (f : Hst → Hst) (s : State) : (s.modHst f).cmd = s.cmd := rfl
@[simp] theorem modHst_obju (f : Hst → Hst) (s : State) : (s.modHst f).obju = s.obju := rfl
@[simp] theorem modHst_att (f : Hst → Hst) (s : State) : (s.modHst f).att = s.att := rfl
@[simp] theorem modHst_rst (f : Hst → Hst) (s : State) : (s.modHst f).rst = s.rst := rfl
@[simp] theorem modHst_obs (f : Hst → Hst) (s : State) : (s.modHst f).obs = s.obs := rfl

@[simp] theorem modCmd_pending (f : Cmd → Cmd) (s : State) : (s.modCmd f).pending = s.pending := rfl
@[simp] theorem modCmd_out (f : Cmd → Cmd) (s : State) : (s.modCmd f).out = s.out := rfl
@[simp] theorem modCmd_tref (f : Cmd → Cmd) (s : State) : (s.modCmd f).tref = s.tref := rfl
@[simp] theorem modCmd_fresh (f : Cmd → Cmd) (s : State) : (s.modCmd f).fresh = s.fresh := rfl
@[simp] theorem modCmd_params (f : Cmd → Cmd) (s : State) : (s.modCmd f).params = s.params := rfl
@[simp] theorem modCmd_fuse (f : Cmd → Cmd) (s : State) : (s.modCmd f).fuse = s.fuse := rfl
@[simp] theorem modCmd_regf (f : Cmd → Cmd) (s : State) : (s.modCmd f).regf = s.regf := rfl
@[simp] theorem modCmd_pins (f : Cmd → Cmd) (s : State) : (s.modCmd f).pins = s.pins := rfl
@[simp] theorem modCmd_boot (f : Cmd → Cmd) (s : State) : (s.modCmd f).boot = s.boot := rfl
@[simp] theorem modCmd_dt (f : Cmd → Cmd) (s : State) : (s.modCmd f).dt = s.dt := rfl
@[simp] theorem modCmd_key (f : Cmd → Cmd) (s : State) : (s.modCmd f).key = s.key := rfl
@[simp] theorem modCmd_sg (f : Cmd → Cmd) (s : State) : (s.modCmd f).sg = s.sg := rfl
@[simp] theorem modCmd_share (f : Cmd → Cmd) (s : State) : (s.modCmd f).share = s.share := rfl
@[simp] theorem modCmd_rem (f : Cmd → Cmd) (s : State) : (s.modCmd f).rem = s.rem := rfl
@[simp] theorem modCmd_lnk (f : Cmd → Cmd) (s : State) : (s.modCmd f).lnk = s.lnk := rfl
@[simp] theorem modCmd_hst (f : Cmd → Cmd) (s : State) : (s.modCmd f).hst = s.hst := rfl
@[simp] theorem modCmd_cmd (f : Cmd → Cmd) (s : State) : (s.modCmd f).cmd = f s.cmd := rfl
@[simp] theorem modCmd_obju (f : Cmd → Cmd) (s : State) : (s.modCmd f).obju = s.obju := rfl
@[simp] theorem modCmd_att (f : Cmd → Cmd) (s : State) : (s.modCmd f).att = s.att := rfl
@[simp] theorem modCmd_rst (f : Cmd → Cmd) (s : State) : (s.modCmd f).rst = s.rst := rfl
@[simp] theorem modCmd_obs (f : Cmd → Cmd) (s : State) : (s.modCmd f).obs = s.obs := rfl

@[simp] theorem modObju_pending (f : ObjU → ObjU) (s : State) : (s.modObju f).pending = s.pending := rfl
@[simp] theorem modObju_out (f : ObjU → ObjU) (s : State) : (s.modObju f).out = s.out := rfl
@[simp] theorem modObju_tref (f : ObjU → ObjU) (s : State) : (s.modObju f).tref = s.tref := rfl
@[simp] theorem modObju_fresh (f : ObjU → ObjU) (s : State) : (s.modObju f).fresh = s.fresh := rfl
@[simp] theorem modObju_params (f : ObjU → ObjU) (s : State) : (s.modObju f).params = s.params := rfl
@[simp] theorem modObju_fuse (f : ObjU → ObjU) (s : State) : (s.modObju f).fuse = s.fuse := rfl
@[simp] theorem modObju_regf (f : ObjU → ObjU) (s : State) : (s.modObju f).regf = s.regf := rfl
@[simp] theorem modObju_pins (f : ObjU → ObjU) (s : State) : (s.modObju f).pins = s.pins := rfl
@[simp] theorem modObju_boot (f : ObjU → ObjU) (s : State) : (s.modObju f).boot = s.boot := rfl
@[simp] theorem modObju_dt (f : ObjU → ObjU) (s : State) : (s.modObju f).dt = s.dt := rfl
@[simp] theorem modObju_key (f : ObjU → ObjU) (s : State) : (s.modObju f).key = s.key := rfl
@[simp] theorem modObju_sg (f : ObjU → ObjU) (s : State) : (s.modObju f).sg = s.sg := rfl
@[simp] theorem modObju_share (f : ObjU → ObjU) (s : State) : (s.modObju f).share = s.share := rfl
@[simp] theorem modObju_rem (f : ObjU → ObjU) (s : State) : (s.modObju f).rem = s.rem := rfl
@[simp] theorem modObju_lnk (f : ObjU → ObjU) (s : State) : (s.modObju f).lnk = s.lnk := rfl
@[simp] theorem modObju_hst (f : ObjU → ObjU) (s : State) : (s.modObju f).hst = s.hst := rfl
@[simp] theorem modObju_cmd (f : ObjU → ObjU) (s : State) : (s.modObju f).cmd = s.cmd := rfl
@[simp] theorem modObju_obju (f : ObjU → ObjU) (s : State) : (s.modObju f).obju = f s.obju := rfl
@[simp] theorem modObju_att (f : ObjU → ObjU) (s : State) : (s.modObju f).att = s.att := rfl
@[simp] theorem modObju_rst (f : ObjU → ObjU) (s : State) : (s.modObju f).rst = s.rst := rfl
@[simp] theorem modObju_obs (f : ObjU → ObjU) (s : State) : (s.modObju f).obs = s.obs := rfl

@[simp] theorem modAtt_pending (f : Att → Att) (s : State) : (s.modAtt f).pending = s.pending := rfl
@[simp] theorem modAtt_out (f : Att → Att) (s : State) : (s.modAtt f).out = s.out := rfl
@[simp] theorem modAtt_tref (f : Att → Att) (s : State) : (s.modAtt f).tref = s.tref := rfl
@[simp] theorem modAtt_fresh (f : Att → Att) (s : State) : (s.modAtt f).fresh = s.fresh := rfl
@[simp] theorem modAtt_params (f : Att → Att) (s : State) : (s.modAtt f).params = s.params := rfl
@[simp] theorem modAtt_fuse (f : Att → Att) (s : State) : (s.modAtt f).fuse = s.fuse := rfl
@[simp] theorem modAtt_regf (f : Att → Att) (s : State) : (s.modAtt f).regf = s.regf := rfl
@[simp] theorem modAtt_pins (f : Att → Att) (s : State) : (s.modAtt f).pins = s.pins := rfl
@[simp] theorem modAtt_boot (f : Att → Att) (s : State) : (s.modAtt f).boot = s.boot := rfl
@[simp] theorem modAtt_dt (f : Att → Att) (s : State) : (s.modAtt f).dt = s.dt := rfl
@[simp] theorem modAtt_key (f : Att → Att) (s : State) : (s.modAtt f).key = s.key := rfl
@[simp] theorem modAtt_sg (f : Att → Att) (s : State) : (s.modAtt f).sg = s.sg := rfl
@[simp] theorem modAtt_share (f : Att → Att) (s : State) : (s.modAtt f).share = s.share := rfl
@[simp] theorem modAtt_rem (f : Att → Att) (s : State) : (s.modAtt f).rem = s.rem := rfl
@[simp] theorem modAtt_lnk (f : Att → Att) (s : State) : (s.modAtt f).lnk = s.lnk := rfl
@[simp] theorem modAtt_hst (f : Att → Att) (s : State) : (s.modAtt f).hst = s.hst := rfl
@[simp] theorem modAtt_cmd (f : Att → Att) (s : State) : (s.modAtt f).cmd = s.cmd := rfl
@[simp] theorem modAtt_obju (f : Att → Att) (s : State) : (s.modAtt f).obju = s.obju := rfl
@[simp] theorem modAtt_att (f : Att → Att) (s : State) : (s.modAtt f).att = f s.att := rfl
@[simp] theorem modAtt_rst (f : Att → Att) (s : State) : (s.modAtt f).rst = s.rst := rfl
@[simp] theorem modAtt_obs (f : Att → Att) (s : State) : (s.modAtt f).obs = s.obs := rfl

@[simp] theorem modRst_pending (f : Rst → Rst) (s : State) : (s.modRst f).pending = s.pending := rfl
@[simp] theorem modRst_out (f : Rst → Rst) (s : State) : (s.modRst f).out = s.out := rfl
@[simp] theorem modRst_tref (f : Rst → Rst) (s : State) : (s.modRst f).tref = s.tref := rfl
@[simp] theorem modRst_fresh (f : Rst → Rst) (s : State) : (s.modRst f).fresh = s.fresh := rfl
@[simp] theorem modRst_params (f : Rst → Rst) (s : State) : (s.modRst f).params = s.params := rfl
@[simp] theorem modRst_fuse (f : Rst → Rst) (s : State) : (s.modRst f).fuse = s.fuse := rfl
@[simp] theorem modRst_regf (f : Rst → Rst) (s : State) : (s.modRst f).regf = s.regf := rfl
@[simp] theorem modRst_pins (f : Rst → Rst) (s : State) : (s.modRst f).pins = s.pins := rfl
@[simp] theorem modRst_boot (f : Rst → Rst) (s : State) : (s.modRst f).boot = s.boot := rfl
@[simp] theorem modRst_dt (f : Rst → Rst) (s : State) : (s.modRst f).dt = s.dt := rfl
@[simp] theorem modRst_key (f : Rst → Rst) (s : State) : (s.modRst f).key = s.key := rfl
@[simp] theorem modRst_sg (f : Rst → Rst) (s : State) : (s.modRst f).sg = s.sg := rfl
@[simp] theorem modRst_share (f : Rst → Rst) (s : State) : (s.modRst f).share = s.share := rfl
@[simp] theorem modRst_rem (f : Rst → Rst) (s : State) : (s.modRst f).rem = s.rem := rfl
@[simp] theorem modRst_lnk (f : Rst → Rst) (s : State) : (s.modRst f).lnk = s.lnk := rfl
@[simp] theorem modRst_hst (f : Rst → Rst) (s : State) : (s.modRst f).hst = s.hst := rfl
@[simp] theorem modRst_cmd (f : Rst → Rst) (s : State) : (s.modRst f).cmd = s.cmd := rfl
@[simp] theorem modRst_obju (f : Rst → Rst) (s : State) : (s.modRst f).obju = s.obju := rfl
@[simp] theorem modRst_att (f : Rst → Rst) (s : State) : (s.modRst f).att = s.att := rfl
@[simp] theorem modRst_rst (f : Rst → Rst) (s : State) : (s.modRst f).rst = f s.rst := rfl
@[simp] theorem modRst_obs (f : Rst → Rst) (s : State) : (s.modRst f).obs = s.obs := rfl

@[simp] theorem modObs_pending (f : Obs → Obs) (s : State) : (s.modObs f).pending = s.pending := rfl
@[simp] theorem modObs_out (f : Obs → Obs) (s : State) : (s.modObs f).out = s.out := rfl
@[simp] theorem modObs_tref (f : Obs → Obs) (s : State) : (s.modObs f).tref = s.tref := rfl
@[simp] theorem modObs_fresh (f : Obs → Obs) (s : State) : (s.modObs f).fresh = s.fresh := rfl
@[simp] theorem modObs_params (f : Obs → Obs) (s : State) : (s.modObs f).params = s.params := rfl
@[simp] theorem modObs_fuse (f : Obs → Obs) (s : State) : (s.modObs f).fuse = s.fuse := rfl
@[simp] theorem modObs_regf (f : Obs → Obs) (s : State) : (s.modObs f).regf = s.regf := rfl
@[simp] theorem modObs_pins (f : Obs → Obs) (s : State) : (s.modObs f).pins = s.pins := rfl
@[simp] theorem modObs_boot (f : Obs → Obs) (s : State) : (s.modObs f).boot = s.boot := rfl
@[simp] theorem modObs_dt (f : Obs → Obs) (s : State) : (s.modObs f).dt = s.dt := rfl
@[simp] theorem modObs_key (f : Obs → Obs) (s : State) : (s.modObs f).key = s.key := rfl
@[simp] theorem modObs_sg (f : Obs → Obs) (s : State) : (s.modObs f).sg = s.sg := rfl
@[simp] theorem modObs_share (f : Obs → Obs) (s : State) : (s.modObs f).share = s.share := rfl
@[simp] theorem modObs_rem (f : Obs → Obs) (s : State) : (s.modObs f).rem = s.rem := rfl
@[simp] theorem modObs_lnk (f : Obs → Obs) (s : State) : (s.modObs f).lnk = s.lnk := rfl
@[simp] theorem modObs_hst (f : Obs → Obs) (s : State) : (s.modObs f).hst = s.hst := rfl
@[simp] theorem modObs_cmd (f : Obs → Obs) (s : State) : (s.modObs f).cmd = s.cmd := rfl
@[simp] theorem modObs_obju (f : Obs → Obs) (s : State) : (s.modObs f).obju = s.obju := rfl
@[simp] theorem modObs_att (f : Obs → Obs) (s : State) : (s.modObs f).att = s.att := rfl
@[simp] theorem modObs_rst (f : Obs → Obs) (s : State) : (s.modObs f).rst = s.rst := rfl
@[simp] theorem modObs_obs (f : Obs → Obs) (s : State) : (s.modObs f).obs = f s.obs := rfl

@[simp] theorem emit_pending (x : Out) (s : State) : (s.emit x).pending = s.pending := rfl
@[simp] theorem emit_out (x : Out) (s : State) : (s.emit x).out = s.out ++ [x] := rfl
@[simp] theorem emit_tref (x : Out) (s : State) : (s.emit x).tref = s.tref := rfl
@[simp] theorem emit_fresh (x : Out) (s : State) : (s.emit x).fresh = s.fresh := rfl
@[simp] theorem emit_params (x : Out) (s : State) : (s.emit x).params = s.params := rfl
@[simp] theorem emit_fuse (x : Out) (s : State) : (s.emit x).fuse = s.fuse := rfl
@[simp] theorem emit_regf (x : Out) (s : State) : (s.emit x).regf = s.regf := rfl
@[simp] theorem emit_pins (x : Out) (s : State) : (s.emit x).pins = s.pins := rfl
@[simp] theorem emit_boot (x : Out) (s : State) : (s.emit x).boot = s.boot := rfl
@[simp] theorem emit_dt (x : Out) (s : State) : (s.emit x).dt = s.dt := rfl
@[simp] theorem emit_key (x : Out) (s : State) : (s.emit x).key = s.key := rfl
@[simp] theorem emit_sg (x : Out) (s : State) : (s.emit x).sg = s.sg := rfl
@[simp] theorem emit_share (x : Out) (s : State) : (s.emit x).share = s.share := rfl
@[simp] theorem emit_rem (x : Out) (s : State) : (s.emit x).rem = s.rem := rfl
@[simp] theorem emit_lnk (x : Out) (s : State) : (s.emit x).lnk = s.lnk := rfl
@[simp] theorem emit_hst (x : Out) (s : State) : (s.emit x).hst = s.hst := rfl
@[simp] theorem emit_cmd (x : Out) (s : State) : (s.emit x).cmd = s.cmd := rfl
@[simp] theorem emit_obju (x : Out) (s : State) : (s.emit x).obju = s.obju := rfl
@[simp] theorem emit_att (x : Out) (s : State) : (s.emit x).att = s.att := rfl
@[simp] theorem emit_rst (x : Out) (s : State) : (s.emit x).rst = s.rst := rfl
@[simp] theorem emit_obs (x : Out) (s : State) : (s.emit x).obs = s.obs := rfl

@[simp] theorem used_pending (s : State) : (s.used).pending = s.pending := rfl
@[simp] theorem used_out (s : State) : (s.used).out = s.out := rfl
@[simp] theorem used_tref (s : State) : (s.used).tref = s.tref := rfl
@[simp] theorem used_fresh (s : State) : (s.used).fresh = s.fresh + 1 := rfl
@[simp] theorem used_params (s : State) : (s.used).params = s.params := rfl
@[simp] theorem used_fuse (s : State) : (s.used).fuse = s.fuse := rfl
@[simp] theorem used_regf (s : State) : (s.used).regf = s.regf := rfl
@[simp] theorem used_pins (s : State) : (s.used).pins = s.pins := rfl
@[simp] theorem used_boot (s : State) : (s.used).boot = s.boot := rfl
@[simp] theorem used_dt (s : State) : (s.used).dt = s.dt := rfl
@[simp] theorem used_key (s : State) : (s.used).key = s.key := rfl
@[simp] theorem used_sg (s : State) : (s.used).sg = s.sg := rfl
@[simp] theorem used_share (s : State) : (s.used).share = s.share := rfl
@[simp] theorem used_rem (s : State) : (s.used).rem = s.rem := rfl
@[simp] theorem used_lnk (s : State) : (s.used).lnk = s.lnk := rfl
@[simp] theorem used_hst (s : State) : (s.used).hst = s.hst := rfl
@[simp] theorem used_cmd (s : State) : (s.used).cmd = s.cmd := rfl
@[simp] theorem used_obju (s : State) : (s.used).obju = s.obju := rfl
@[simp] theorem used_att (s : State) : (s.used).att = s.att := rfl
@[simp] theorem used_rst (s : State) : (s.used).rst = s.rst := rfl
@[simp] theorem used_obs (s : State) : (s.used).obs = s.obs := rfl

@[simp] theorem burn_pending (w b : Nat) (s : State) : (s.burn w b).pending = s.pending := rfl
@[simp] theorem burn_out (w b : Nat) (s : State) : (s.burn w b).out = s.out := rfl
@[simp] theorem burn_tref (w b : Nat) (s : State) : (s.burn w b).tref = s.tref := rfl
@[simp] theorem burn_fresh (w b : Nat) (s : State) : (s.burn w b).fresh = s.fresh := rfl
@[simp] theorem burn_params (w b : Nat) (s : State) : (s.burn w b).params = s.params := rfl
@[simp] theorem burn_fuse (w b : Nat) (s : State) : (s.burn w b).fuse = s.fuse.set 0 w (s.fuseW w ||| BitVec.twoPow 32 b) := rfl
@[simp] theorem burn_regf (w b : Nat) (s : State) : (s.burn w b).regf = s.regf := rfl
@[simp] theorem burn_pins (w b : Nat) (s : State) : (s.burn w b).pins = s.pins := rfl
@[simp] theorem burn_boot (w b : Nat) (s : State) : (s.burn w b).boot = s.boot := rfl
@[simp] theorem burn_dt (w b : Nat) (s : State) : (s.burn w b).dt = s.dt := rfl
@[simp] theorem burn_key (w b : Nat) (s : State) : (s.burn w b).key = s.key := rfl
@[simp] theorem burn_sg (w b : Nat) (s : State) : (s.burn w b).sg = s.sg := rfl
@[simp] theorem burn_share (w b : Nat) (s : State) : (s.burn w b).share = s.share := rfl
@[simp] theorem burn_rem (w b : Nat) (s : State) : (s.burn w b).rem = s.rem := rfl
@[simp] theorem burn_lnk (w b : Nat) (s : State) : (s.burn w b).lnk = s.lnk := rfl
@[simp] theorem burn_hst (w b : Nat) (s : State) : (s.burn w b).hst = s.hst := rfl
@[simp] theorem burn_cmd (w b : Nat) (s : State) : (s.burn w b).cmd = s.cmd := rfl
@[simp] theorem burn_obju (w b : Nat) (s : State) : (s.burn w b).obju = s.obju := rfl
@[simp] theorem burn_att (w b : Nat) (s : State) : (s.burn w b).att = s.att := rfl
@[simp] theorem burn_rst (w b : Nat) (s : State) : (s.burn w b).rst = s.rst := rfl
@[simp] theorem burn_obs (w b : Nat) (s : State) : (s.burn w b).obs = s.obs := rfl

/-! Operations that change one unit alone. -/

@[simp] theorem setReg_regf (off : Nat) (w : Word) (s : State) :
    (s.setReg off w).regf = { s.regf with regs := s.regf.regs.set (regReset s.params.profile off) off w } := rfl
@[simp] theorem setSlot_key (n : Nat) (v : Slot) (s : State) :
    (s.setSlot n v).key = { s.key with slots := s.key.slots.set Slot.empty n v } := rfl
@[simp] theorem modPart_att (p : Nat) (f : Part → Part) (s : State) :
    (s.modPart p f).att = { s.att with parts := s.att.parts.upd Part.free p f } := rfl
@[simp] theorem glob_obs (i n : Nat) (s : State) :
    (s.glob i n).obs = { s.obs with glob := s.obs.glob.upd 0 i fun c => c + BitVec.ofNat 64 n } := rfl

end Sys2Proof.Machine
end

