-- ==== Sys2Proof/Tests/Slice0.lean ====
section
/-!
SUPPORT. Tests: ill-formed commands that the check refuses, a few commands whose results the spec gives in numbers, and for each
statement with hypotheses a state and operands that meet them.
-/
namespace Sys2Proof.Tests
open Sys2Proof Sys2Proof.Machine

set_option Elab.async false

/-! States to test on. -/

/-- Boot done: BLOCK_READY, life-cycle state FIELDED, random numbers ready. -/
def up : State :=
  { State.reset with
    boot := { Boot.reset with phase := .ready, decided := true, sensed := true, anchorInit := true, lc := 2 }
    pins := { Pins.reset with blockReady := true, breachN := true, fpUp := 1, hcUp := 3, pfenceReq := 0, engReq := 0, cstop := false }
    key := { Key.reset with rngReady := true }
    att := { Att.reset with eid := some (9, 8), flash := some 128 } }

/-- A member entry that names the block itself. -/
def me : Member := { num := 7, profile := .a, set := 0, devid := up.devid, neigh := [] }

/-- A manifest of domain 0x77 that names the block. -/
def man : Manifest :=
  { layoutOk := true, sigOk := true, size := 1024, major := 4, mseq := 3, domain := 0x77, nsets := 1, dfCount := 4, features := 0,
    policy := 0, minSvn := 0, tenantKey := [], verifier := 0xBB, roots := [0xAB], sets := [{ mask := 0, exp := [] }], members := [me] }

/-- Partition 1 LOCAL with context 5, which holds queue 0, and context 6; partition 3 JOINED; a management session 1, tenant sessions 2 (of
partition 1) and 3 (of partition 3), DOE session 4; sector group 0 with 64 MiB protected, its regions 0 to 3 owned by partition 1. -/
def busy : State :=
  { up with
    regf := { Regf.reset with
      regs := [(rSgAnchorCount 0, 64), (rSgMemCtrl 0, 1), (rKeyQuota 1, 100), (rKeyQuota 2, 100), (rKeyQuota 3, 100), (rCmdStageBase, 0x10000000),
        (rHstPortCfg 0, 1), (rHstTdi 1, 0x80000100), (rDtCtrl, 3), (rRstEng 2, 0x80000001)] }
    key := { up.key with
      slots := [(0, { Slot.empty with st := 1 }), (1, { Slot.empty with st := 1 }), (130, { Slot.empty with st := 1, part := 1 }),
        (131, { Slot.empty with st := 1, part := 1, use := 3, exportable := true }),
        (132, { Slot.empty with st := 1, part := 1, use := 3 }), (133, { Slot.empty with st := 2, part := 1 }),
        (134, { Slot.empty with st := 3, part := 1 })] }
    sg := { Sg.reset with
      anchors := [(0, { Anchor.unowned with st := 1, part := 1, slot := 130 }), (1, { Anchor.unowned with st := 1, part := 1, slot := 130 }),
        (2, { Anchor.unowned with st := 1, part := 1, slot := 130 }), (3, { Anchor.unowned with st := 2, part := 1, slot := 130 })] }
    att := { up.att with
      parts := [(1, { Part.free with st := 1, slot := 130 }), (3, { Part.free with st := 3, man := some man, member := 7 })]
      mgmtRoots := [0xAA] }
    obju := { ObjU.reset with
      ctxs := [(5, { Ctx.free with st := 1, resident := true, part := 1 }), (6, { Ctx.free with st := 1, resident := true, part := 1 })]
      ptCount := [(1, 32)], plots := [(0, { Plot.unbound with bound := true, obj := 1, system := true }), (1, { Plot.unbound with bound := true, obj := 2 })]
      objs := [(2 ^ 25 + 1, { Obj.vacant with st := 1, plots := 1, system := true, owner := 0xFFFF }),
        (2 ^ 25 + 2, { Obj.vacant with st := 1, plots := 1, first := 1, owner := 5 })]
      fences := [(2, { Fence.free with used := true, part := 1, owner := 5 })], fenceNext := 3 }
    cmd := { Cmd.reset with
      queues := [(0, { Queue.none with valid := true, log2 := 4, tail := 8 }),
        (56, { Queue.none with valid := true, owner := 3, log2 := 4, tail := 8 })]
      sessions := [{ sid := 1, t := .mgmt, leaf := 0xA1, root := 0xAA, live := true, slots := [80], hand := [], seq := 0, born := 0, tdi := none },
        { sid := 2, t := .mgmt, leaf := 0xB2, root := 0xB0, live := true, slots := [81], hand := [], seq := 0, born := 0, tdi := some 1 },
        { sid := 3, t := .mgmt, leaf := 0xBB, root := 0xB0, live := true, slots := [82], hand := [], seq := 0, born := 0, tdi := none },
        { sid := 4, t := .doe 0, leaf := 0xC4, root := 0xB0, live := true, slots := [84], hand := [], seq := 0, born := 0, tdi := some 1 }]
      stages := [(1, some man)] } }

/-- `busy` on a profile. -/
def onS : State := { busy with params := { busy.params with profile := .s } }

/-- A header: the longest packet, so that any parameters fit. -/
def hd (path : Path) (i : Issuer) (part ctx : Nat) : Hdr :=
  { path := path, issuer := i, part := part, size := 2, ordered := false, noreply := false, signal := false, ctx := ctx, plen := 240,
    seq := 9, fence := 0, bad := none, trailer := 0 }

/-- A reply with sequence number 4. -/
def rep4 : Reply :=
  { opcode := 0, status := .done, final := true, path := .mgmt 2, ctx := 0, sqHead := 0, seq := 4, part := 1, detail := 0, phase := false,
    x := 0, result := 0, trailer := [], ringAt := 0, dev := false }

/-- Packets of host software, of the management service, of a tenant of partition 1 and of a device queue of context 5. -/
def hostH (p : Nat) : Hdr := hd (.hostq 0) .host p 0xFFFF
def mgmtH (p : Nat) : Hdr := hd (.mgmt 1) .mgmt p 0xFFFF
def tenH : Hdr := hd (.mgmt 2) .tenant 1 0xFFFF
/-- A tenant of partition 3. -/
def tenH3 : Hdr := hd (.mgmt 3) .tenant 3 0xFFFF
def devH : Hdr := hd (.ctxq 5 0) .device 1 5

/-- The manifest of an S-profile block. -/
def manS : Manifest := { man with domain := 0x78, members := [{ me with profile := .s }] }

/-- A manifest of a domain that no partition has. -/
def man9 : Manifest := { man with domain := 0x79 }

/-- A contribution of 64 elements. -/
def con : Contrib :=
  { fmt := 0x20, out := 0, mode := 0, rid := 5, n := 2, cidx := 0, dest := 8, chunk := 0, count := 64, chunkElems := 64, total := 64, destObj := 1,
    destGen := 0, destSect := 0 }

/-- `busy` with schedule entry 0 ARMED, a trigger output, and domain time running. -/
def armed : State :=
  { busy with dt := { busy.dt with st := 2, sched := [(0, { Sched.free with st := 1, instant := 50, action := 8, part := 1, id := 7, origin := 0x3FFF })] } }

/-- `busy` with ring 0 of partition 1 in a state. -/
def ringed (st : Nat) : State := { busy with obs := { busy.obs with rings := [(4, { Ring.off with st := st, log2 := 2 })] } }

/-- An S-profile block with that manifest staged. -/
def onS1 : State := { onS with cmd := { onS.cmd with stages := [(1, some manS)] } }

/-- `busy` with that reply stored for session 2. -/
def stored4 : State := { busy with cmd := { busy.cmd with stored := [(2, rep4)] } }

/-- The block finds itself in both manifests. -/
theorem own_member : onS1.ownMember manS = some { me with profile := .s } := by
  have : onS1.devid = up.devid := rfl
  simp [State.ownMember, manS, man, me, this]; decide +kernel
theorem man9_passes :
    (busy.begun ⟨0x0107, [.mgmt, .host, .tenant], .all, 1, 0, true⟩ { mgmtH 2 with trailer := 1024 } []).1.manifestCheck man9 = .done := by
  have h : (busy.begun ⟨0x0107, [.mgmt, .host, .tenant], .all, 1, 0, true⟩ { mgmtH 2 with trailer := 1024 } []).1.devid = up.devid := rfl
  have g : (busy.begun ⟨0x0107, [.mgmt, .host, .tenant], .all, 1, 0, true⟩ { mgmtH 2 with trailer := 1024 } []).1.ownMember man9 = some me := by
    simp [State.ownMember, man9, man, me, h]; decide +kernel
  simp only [State.manifestCheck, g]
  decide +kernel

/-- `busy` with the version lines of plot 2 cached and accesses under way to the four sectors of object 0 that an allocation writes, so that its
writes wait for them: nothing in the allocation then rests on which set of a cache a line falls into. -/
def held : State :=
  { busy with sg := { busy.sg with
      mdc := (List.range 32).map fun i => { madeLine ⟨0, 0, .ver, 64 + i⟩ .clean with here := true }
      nextAcc := 4
      accs := [256, 257, 1, 0].zipIdx.map fun x =>
        { Acc.mk0 .full .inner ⟨0, 0, 256 * x.1, 3, 1, 0, 0xFFFF, 0⟩ 1 0 x.1 x.1 130 .stale 0 0 with id := x.2 } } }

/-- The states in which CTX_CREATE and OBJ_ALLOC have allocated. -/
def alloc2 : State := ((held.begun ⟨0x0201, [.host], .all, 6, 0, false⟩ (hostH 1) []).1.alloc 1 1 7 false true).1
def alloc3 : State := ((held.begun ⟨0x0301, [.device, .tenant], .am, 5, 0, false⟩ devH []).1.alloc 1 1 5 false false).1

/-- An allocation that is answered `v`. -/
theorem alloc_is {x : State × Except Status (Nat × Nat × Nat)} {v : Nat × Nat × Nat}
    (h : (match x.2 with
      | .ok w => decide (w = v)
      | .error _ => false) = true) : x = (x.1, .ok v) := by
  obtain ⟨a, e⟩ := x
  cases e with
  | ok w => simp_all
  | error st => simp at h

/-- `up` with a bring-up record. -/
def boot (b : Boot) : State := { up with boot := b }

/-- In reset; before VDD_RET is there; in Tolaro. -/
def off : State := boot { up.boot with phase := .inReset }
def noRet : State := { State.reset with pins := { Pins.reset with vddRet := false } }
def tolaro : State := { boot { up.boot with phase := .tolaro } with pins := { up.pins with blockReady := false } }

/-- With a chip reset asked for; with the power-cycle message to send again. -/
def asking : State := { up with pins := { up.pins with chipRstReq := true }, rst := { up.rst with steps := [.chip] } }
def cycling : State := { boot { up.boot with pwrMsg := some (1, 2, 3) } with pins := { up.pins with pwrcycReq := true } }

/-- Domain time in a state. -/
def locked (st : Nat) : State := { busy with dt := { busy.dt with st := st } }

/-- Ready for retention, with RET_REQ high or low; retention ready; the supply warning low, with fuse bits being programmed or not. -/
def keeping (b : Bool) : State := { boot { up.boot with retRun := true } with pins := { up.pins with retReq := b } }
def kept : State := { up with pins := { up.pins with retReady := true } }
def low (b : Bool) : State := { boot { up.boot with burning := b } with pins := { up.pins with supplyLow := true } }

/-- Sensor 15 enabled by its fuse, before and after sensing. -/
def sensing : State := { State.reset with fuse := [(0x11, 0x8000)] }
def watching : State := { up with fuse := [(0x11, 0x8000)] }

/-- Entry 0 ARMED for a trigger; a read of group 0 under way; a sealed frame on port 0. -/
def armed1 : State := { busy with dt := { busy.dt with sched := [(0, { Sched.free with st := 1, action := 8 })] } }
def reading : State := { busy with sg := { busy.sg with rds := [{ group := 0, port := 0, tag := 0, addr := 0, granules := 8, what := .pass ⟨0, 0, 0, 0, 0, 0, 0xFFFF, 0⟩, got := 0 }] } }
def sealing : State := { busy with lnk := { busy.lnk with ports := [(0, { Port.idle with txq := [{ beats := 1, sof := true, label := none }] })] } }

/-- No partition assigned, one management session. -/
def up1 : State := { up with cmd := busy.cmd, att := { up.att with mgmtRoots := [0xAA] } }

/-! Yarrel's debug key: a hash in the fuses. -/

/-- Four bytes, through a fuse word. -/
theorem word_spells (a b c d : Byte) : leBytes 4 (BitVec.ofNat 32 (ofLe [a, b, c, d])).toNat = [a, b, c, d] := by
  have ha := a.isLt; have hb := b.isLt; have hc := c.isLt; have hd := d.isLt
  simp only [leBytes, ofLe, BitVec.toNat_ofNat]
  refine List.ext_getElem (by simp) ?_
  intro i h1 h2
  simp at h1
  interval_cases i <;> simp <;> apply BitVec.eq_of_toNat_eq <;> simp <;> omega

/-- Bytes, through fuse words. -/
theorem words_spell (n : Nat) (l : List Byte) (h : l.length = 4 * n) :
    ((List.range n).map fun i => leBytes 4 (BitVec.ofNat 32 (ofLe ((l.drop (4 * i)).take 4))).toNat).flatten = l := by
  induction n generalizing l with
  | zero => simp at h; simp [h]
  | succ n ih =>
    match l, h with
    | a :: b :: c :: d :: r, h =>
      rw [List.range_succ_eq_map, List.map_cons, List.flatten_cons, List.map_map]
      have := ih r (by simp at h; omega)
      simp only [Nat.mul_zero, List.drop_zero, List.take_succ_cons, List.take_zero, word_spells, Function.comp_def, Nat.mul_succ]
      simp only [List.drop_succ_cons]
      rw [this]; rfl

/-- The hash of the debug key, and MAKER state with it fused and challenge 5 of level 1 open. -/
def keyHash : List Byte := beBytes 48 (Config.sha384 [9]).toNat
def granting : State :=
  { busy with
    fuse := (List.range 12).map fun i => (0x24 + i, BitVec.ofNat 32 (ofLe ((keyHash.drop (4 * i)).take 4)))
    boot := { busy.boot with lc := 0, challenge := some (5, 1) } }

/-- A token of level 1 for it. -/
def tok1 : Token :=
  { layoutOk := true, purpose := 2, target := 1, frm := 0, disableDebug := false, challenge := 5, devid := up.devid,
    signers := [{ role := 1, part := 0, key := [9], sigOk := true }] }

/-- The state in which DBG_TOKEN is admitted. -/
def granted : State := granting.modBoot fun b => { b with challenge := none }

theorem tok1_holds : granted.tokenOk tok1 2 1 0 5 (granted.debugSigners 1) = true := by
  have h : granted.fuseBytes 0x24 12 = keyHash := by
    have : granted.fuseBytes 0x24 12
        = ((List.range 12).map fun i => leBytes 4 (BitVec.ofNat 32 (ofLe ((keyHash.drop (4 * i)).take 4))).toNat).flatten := rfl
    rw [this]
    exact words_spell 12 keyHash (by simp [keyHash, beBytes, leBytes])
  have g : granted.signerOk { role := 1, part := 0, key := [9], sigOk := true } = true := by simp [State.signerOk, h, keyHash]
  have d : up.devid = granted.devid := rfl
  have e : granted.debugSigners 1 = [(1, 0)] := rfl
  have z : (granted.slot 0).st = 1 := rfl
  simp [State.tokenOk, tok1, ← d, e, z, signersAre]
  exact g

/-- Fuse bits queued; a rejoin record of partition 2. -/
def burning : State := boot { up.boot with burnGo := true, burnQ := [(8, 0)] }
def rj : Rejoin :=
  { man := none, amends := [], policy := 4, strict := false, allot := 0, merge := 0, weight := 1, mdc := 0xFFFF, dkc := 0xFFFF, pbase := 0x1000000,
    psize := 0x100000, otPlots := 1, added := [], lcAt := 2 }
def recorded : State := { busy with att := { busy.att with rejoin := [(2, some rj)] } }

/-- `busy` with a reset step in progress. -/
def stepping (x : Step) : State := { busy with rst := { busy.rst with steps := [x] } }

/-- `busy` with a STOP of partition 1 ACTIVE and complete, to be resumed by entry 0; entry 0 due. -/
def stopped : State :=
  { busy with dt := { busy.dt with st := 2, stops := [(1, { Stop.none with active := true, complete := true, resume := some 0 })]
                                   sched := [(0, { Sched.free with st := 2, action := 5, part := 1 })] } }
def due (act : Nat) : State := { busy with dt := { busy.dt with st := 2, sched := [(0, { Sched.free with st := 1, action := act, part := 1 })] } }

/-- `busy` with partition 1 SCRUBBING at a step, one region still to be filled with zeros in `z`. -/
def scrubbing (n : Nat) (z : List Nat) : State :=
  { busy with att := { busy.att with parts := [(1, { Part.free with st := 5, slot := 130, scrub := n, zero := z })] } }
def tearing : State := { busy with obju := { busy.obju with ctxs := [(5, { Ctx.free with st := 3, resident := true, part := 1 })] } }

/-- Domain time: a slave of port 0; a backup grandmaster with nothing to follow; time marks of port 0. -/
def slave : State := { busy with dt := { busy.dt with st := 2, slave := 0 } }
def backup : State := { busy with dt := { busy.dt with st := 3 }, regf := { busy.regf with regs := [(rDtCtrl, 5)] } }
def marked : State := { busy with dt := { busy.dt with ptp := [(0, { PtpPort.none with txMarks := [(3, some 4)] })] } }

/-- Port 0 with its block-owned session and the sessions of partitions 1 and 3 OPEN, and what arrives on them. -/
def linked : State :=
  { busy with
    dt := { busy.dt with st := 2 }
    regf := { busy.regf with regs := (rDtPortCfg 0, 2) :: busy.regf.regs }
    lnk := { busy.lnk with sess := [(0, { Sess.down with st := 3, slots := [92] }), (2, { Sess.down with st := 3, rxIdx := 21 }),
      (4, { Sess.down with st := 3, rxIdx := 23 })] } }
def rx (kind sess : Nat) : RxHdr :=
  let k := (kindRow kind).getD (0, 0, false, false, false)
  { port := 0, sess := sess, epoch := 0, tc := k.1, retry := false, control := k.2.2.1, stopSide := k.2.2.2.1, cover := false, event := false,
    close := k.2.2.2.2, seq := 1, stamp := 0, entropy := 0, plen := 64, len := 104, err := false, tagOk := true }
theorem receives {s : State} {h : RxHdr} {kind si : Nat} (a : (s.rxAccept h kind).2 = some si)
    (b : si = 0 ∨ ((s.rxAccept h kind).1.dt.stops.get Stop.none (si - 1)).active = false) : s.Receives h kind si (s.rxAccept h kind).1 :=
  ⟨Prod.ext rfl a, b⟩

/-- `busy` with a measurement lock; with the management bus. -/
def mlocked : State := { busy with att := { busy.att with measLock := true } }
def bus : State := { busy with att := { busy.att with i3cAddr := some 8 } }

/-- A pending packet; the key engines with a derivation, a message and a signature to do. -/
def pend : Pend := { h := tenH, opc := 0x0508, sqHead := 0, refs := [] }
def cmsg : CceMsg := { p := some pend, slot := 131, mode := 2, decrypt := false, ivGen := false, iv := 0, msg := [7], again := false }
def job : PkeJob := { link := false, ops := [.mldsaSign], sign := some (1, [], []), sig := [], ends := .attest pend [] }
def engines : State :=
  { busy with key := { busy.key with deriv := [{ tag := ⟨130, 2, 0⟩, part := 1, stale := false }], cce := [cmsg], pke := [job] } }
def failing : State := { busy with key := { busy.key with failRun := 15 } }
def resealing : State := { busy with key := { busy.key with reseal := [(1, { active := true, new := 131, old := 130, done := 0, p := none })] } }

/-- Requests at port 0 of group 0 for context 5. -/
def mn (op len addr : Nat) (attr : BitVec 8) : MnReq :=
  { group := 0, port := 0, addr := addr, len := len, op := op, tag := 3, ctx := 5, attr := attr }
theorem gate {s : State} {q : MnReq} {ok : Bool} {g : MnGo} (h : (s.mnGate q ok).2 = g) : s.mnGate q ok = ((s.mnGate q ok).1, g) :=
  Prod.ext rfl h

/-- Sector groups with one thing under way. -/
def onSg (g : Sg) : State := { busy with sg := g }
def qq : MnReq := mn 0 0 0x100000000 0
def rd : MsRd := { group := 0, port := 0, tag := 0, addr := 0, granules := 8, what := .pass qq, got := 0 }
def wr : MsWr := { group := 0, port := 0, tag := 0, addr := 0, granules := 8, data := 0, be := 0, what := .pass qq }
def acc (kind : AccKind) (w : Bool) : Acc := { Acc.mk0 kind .mn (mn 0 0 0 0) 1 0 0 0 130 .stale 0 0 with waiting := w }
def tagLine : Line := { madeLine ⟨0, 0, .tag, 0⟩ .dirty with way := 16 }
def restoring : Anchor := { Anchor.unowned with st := 1, part := 1, slot := 130, restoring := true }
def mentry : MEntry :=
  { group := 0, lbn := 0, entry := 0, part := 1, addr := 0, tag := ⟨130, 2, 0⟩, data := 0, dirty := true, ready := true, ops := [], full := false }
def ranged : State :=
  { onSg { busy.sg with anchors := [(0, restoring)] } with
    att := { busy.att with parts := [(1, { Part.free with st := 1, psize := 0x100000 })] } }
def awake : State := { busy with share := { busy.share with units := [(108, { awake := true, demand := none })] }, regf := { busy.regf with regs := [(rGlbWake, 0x1020)] } }

/-! Remote operations, links, host ports and deferred work. -/

/-- An atomic of partition 1 with transaction 7, or its query, sent `n` times; a contribution; a reduction. -/
def op (q : Bool) (n : Nat) : RemOp :=
  { part := 1, p := pend, query := q, op := 0x10, attr := 1, dst := 9, txid := 7, issue := 0, obj := 1, gen := 0, offset := 0, data := [], sent := n,
    src := none }
def contrib : ContribOp := { part := 1, p := pend, c := con, sw := 9, data := [], src := 2 }
def red : Reduction :=
  { part := 1, hdr := con, accs := [], ledger := [], members := [], sent := [(0, [8], .done, 0)], done := [], ended := false }
def remote (q : Bool) (n : Nat) : State :=
  { linked with rem := { linked.rem with ops := [op q n], contribs := [contrib], pool := [red] } }
def raReq : RaReq :=
  { op := 0x10, attr := 1, src := 8, dst := 7, txid := 7, issue := 0, obj := 1, gen := 0, offset := 0, data := [], resvOk := true }
def raRep : RaRep := { query := false, status := .done, outcome := 0, origStatus := .done, src := 8, dst := 7, txid := 7, exec := 0, result := 0 }
def rwReq : RwReq := { write := false, src := 8, dst := 7, txid := 7, issue := 0, obj := 1, gen := 0, offset := 0, length := 1, data := [] }

/-- A frame of a KIND; port 0 with it queued, with a cover schedule or without; sessions in other states. -/
def fr (kind si : Nat) : EgFrame :=
  { si := si, kind := kind, tc := 0, retry := false, event := false, src := 7, dst := 8, label := 0, payload := List.replicate 32 0 }
def item (w : Bool) : EgItem := { f := fr 0x11 0, stamp := 0, free := true, flowWait := w, out := false, held := false }
def queued (w : Bool) (cover : Nat) : State :=
  { linked with
    regf := { linked.regf with regs := (rLnkCover 0, BitVec.ofNat 32 cover) :: linked.regf.regs }
    lnk := { linked.lnk with ports := [(0, { Port.idle with q := [item w], txq := [{ beats := 1, sof := true, label := none }] })] } }
def sess0 (x : Sess) : State :=
  { linked with
    regf := { linked.regf with regs := (rLnkCtrl 0, 1) :: linked.regf.regs }
    lnk := { linked.lnk with sess := [(0, x)] }, att := { linked.att with fabricRoots := [0xAB] } }

/-- A port that is being bound, the evidence and the bind record of its peer. -/
def binding : State := sess0 { Sess.down with st := 1, slots := [92], authed := true }
def ev (ok : Bool) : Evidence :=
  { spdmOk := ok, chainOk := true, root := Config.yarrelRoot, devid := 0, lcState := 2, dbgAuth := 0, svn := 0, meas := [], idx24Ok := true, exch := [] }
def bind : Bind :=
  { rxIdx := 0, member := 8, part := 0, profile := .a, domain := 0, mseq := 0, major := 4, features := 0, dtState := 0, port := 0, digest := 0 }

/-- SPDM: the sessions of `busy`, the block's own chain, a session that has not finished. -/
def sec1 : Secured := { sid := 1, t := .mgmt, leaf := 0xA1, root := 0xAA, live := true, slots := [80], hand := [], seq := 0, born := 0, tdi := none }
def sec9 : Secured := { sec1 with sid := 9, live := false }
def fresh9 : State := { busy with cmd := { busy.cmd with sessions := [sec9] } }
def asked : State := { busy with cmd := { busy.cmd with sessions := [] }, att := { busy.att with negotiated := [.mgmt] } }
def chain : CertChain := { leaf := busy.devid, root := 0, bytes := [1] }
def amendment : Amendment :=
  { layoutOk := true, sigOk := true, major := 4, mseq := 4, domain := 0x77, base := 3, changes := [{ me with num := 8, devid := 1, neigh := [7] }], sig := [] }
def live3 : State := { linked with lnk := { linked.lnk with sess := [(4, { Sess.down with st := 3, authed := true })] } }

/-- Host port 0 enabled with the TDI of partition 1 on it; a request of that TDI. -/
def hosted : State :=
  { busy with
    regf := { busy.regf with
      regs := [(rHstPortCfg 0, 0x22003), (rHstTdi 1, 0x80000100), (rHstTileCfg, 0x1234), (rKeyQuota 1, 100)] }
    hst := { busy.hst with streams := [(1, { Stream.none with secure := true, rid := 0x100, part := 1 })]
                           keys := [false, true].map fun b => (keyNo 0 1 0 b, { set0 := some 140, set1 := some 141, go := some 0, used := [] }) }
    att := { busy.att with parts := [(1, { Part.free with st := 1, slot := 130, vmAssign := true })] } }
def tlp (k : TlpKind) (rid : Nat) : Tlp :=
  { kind := k, rid := rid, addr := 0x1000, len := 64, pasid := none, tag := 0, translated := false, ctx := 5, stream := some 1, tbit := false,
    ideOk := false, ro := false, ido := false, payload := [] }
def onHst (f : Hst → Hst) : State := { hosted with hst := f hosted.hst }
def tr (stale : Bool) : TrReq := { h := 0, tag := 3, part := 1, pasid := none, va := 0, stale := stale }
def pr : PrReq := { prg := 3, h := 0, part := 1, pasid := none, va := 0 }
def tileMsg (dir : BitVec 8) : TileMsg :=
  { rid := 0x100, vid := 0x1234, tile := 1, ctx := 5, dir := dir, resvOk := true, base := 0, rowBytes := 64, pitch := 64, rows := 1 }

/-- Work that the object, context, trace and dump units have put off. -/
def put : State :=
  { held with obju := { held.obju with
      objs := (2 ^ 25 + 4, { Obj.vacant with st := 2 }) :: held.obju.objs
      adbs := [(64, { Adb.zero with plots := 1, ctx := 5, status := .accepted })]
      ctxs := (8, { Ctx.free with st := 1, part := 1 }) :: held.obju.ctxs } }
def alloc4 : State := (put.alloc 1 1 5 false false).1
def tensor : Tensor := { name := 4, base := 0x10000, len := 0x20000, obj := 2, gen := 0 }
def dump (c : Option (Tensor × Nat × Nat)) : Dump := { part := 1, idx := 0, name := 4, step := 0, due := true, cap := c }
def rec1 : TraceRec := { kind := 1, status := 0, cfgn := 0, ids := false, seq := 0, stamp := 0, addr := 0, info := 0, ctx := 5 }
def traced (c : Option (Tensor × Nat × Nat)) : State :=
  { busy with obs := { busy.obs with dumps := [dump c], rings := [(4, { Ring.off with st := 2, staged := [(rec1, 0)] })] } }
def debugging : State := boot { up.boot with lc := 1, dbgAuth := 1 }

/-- The reference host (worked example of 02_block_boundary.md), groups 2 and 3 configured, group 2 on. -/
def refHost : State :=
  { busy with regf := { busy.regf with regs :=
      [(rGlbIlv, 0x0A090803), (rSgAnchorFirst 2, 131072), (rSgAnchorCount 2, 65536), (rSgCarveBaseHi 2, 0x10), (rSgCarveSize 2, 0x24C00000),
        (rSgCarveSizeHi 2, 1), (rSgMemCtrl 2, 1), (rSgAnchorFirst 3, 196608), (rSgAnchorCount 3, 65536), (rSgCarveBaseHi 3, 0x10),
        (rSgCarveSize 3, 0x24C00000), (rSgCarveSizeHi 3, 1), (rSgAnchorFirst 4, 131072),
        (rSgAnchorCount 4, 1)] } }


/-- A pair, from its second part. -/
theorem pair_is {α β : Type} {x : α × β} {b : β} (h : x.2 = b) : x = (x.1, b) := Prod.ext rfl h

/-- A pair whose second part is a value and not an error, from a test of that. -/
theorem ok_is {α β ε : Type} [DecidableEq β] {x : α × Except ε β} {v : β}
    (h : (match x.2 with
      | .ok w => decide (w = v)
      | .error _ => false) = true) : x = (x.1, .ok v) := by
  obtain ⟨a, e⟩ := x
  cases e with
  | ok w => simp_all
  | error st => simp at h

/-- A slot of the block for the control cipher engine; a wrapped value of 32 bytes. -/
def blocked : State := { busy with key := { busy.key with slots := (60, { Slot.empty with st := 1, block := true, use := 3 }) :: busy.key.slots } }
def wrapped : List Byte := leBytes 2 2 ++ leBytes 4 3 ++ leBytes 2 32 ++ leBytes 72 0

/-- `s` with PFENCE_REQ bits or ENG_RST_REQ bits raised. -/
def fenced (s : State) (n : Nat) : State := { s with pins := { s.pins with pfenceReq := BitVec.ofNat 16 n } }
def engined (s : State) (n : Nat) : State := { s with pins := { s.pins with engReq := BitVec.ofNat 32 n } }
/-- Partition 1 SCRUBBING, with its slot for the zero sectors. -/
def zeroing (n : Nat) (z : List Nat) : State :=
  { busy with att := { busy.att with parts := [(1, { Part.free with st := 5, slot := 130, scrub := n, zero := z, zslot := some 140, zeroFill := true })] } }

/-- A key attestation at its ECDSA signature. -/
def eccJob : PkeJob := { job with ops := [.ecSign, .mldsaSign] }
def signing : State := { busy with key := { busy.key with pke := [eccJob] } }

/-! An assignment: its lines fall into sets of the cache that nothing here fixes, so they are set aside. -/

/-- `busy` with accesses under way to the sectors of the tables, so that their writes wait. -/
def heldTwo : State :=
  { busy with sg := { busy.sg with
      mdc := (List.range 64).map fun i => { madeLine ⟨0, 16, .ver, i⟩ .clean with here := true }
      nextAcc := 5
      accs := [256, 306, 307, 1, 0].zipIdx.map fun x =>
        { Acc.mk0 .full .inner ⟨0, 0, 0x1000000 + 256 * x.1, 3, 1, 0, 0xFFFF, 0⟩ 2 16 x.1 x.1 130 .stale 0 0 with id := x.2, lbn := busy.lbn 16 x.1 } } }
/-- Its record. -/
def rejoin2 : Rejoin := { man := none, amends := [], policy := 4, strict := false, allot := 0, merge := 0, weight := 1, mdc := 0xffff, dkc := 0xffff, pbase := 0x1000000, psize := 0x100000, otPlots := 2, added := [], lcAt := busy.boot.lc }
def gg := ((heldTwo.begun ⟨0x0101, [.mgmt, .host], .all, 30, 0, false⟩ (mgmtH 2) []).1.eraseRecord 2).assignNew 2 rejoin2
/-- A line put into the metadata cache changes nothing else. -/
theorem inserted (p : Nat) (l : Line) (s : State) : ∃ m, s.insertLine p l = s.modSg fun g => { g with mdc := m } := by
  unfold State.insertLine
  dsimp only
  split
  · exact ⟨_, rfl⟩
  · split
    · exact ⟨_, rfl⟩
    · split <;> exact ⟨_, rfl⟩
/-- One line of a plot that is bound. -/
def zeroLine (p : Nat) (l : LineId) (s : State) : State := match s.line l with
    | some _ => s.modLine l fun m => { m with st := .dirty, here := true, ue := false, words := zeroWords }
    | none => s.insertLine p (madeLine l .dirty)
theorem zeroLine_is (p l) (s : State) : ∃ m, zeroLine p l s = s.modSg fun g => { g with mdc := m } := by
  unfold zeroLine; split
  · exact ⟨_, rfl⟩
  · exact inserted ..
theorem zeroLines_is (p) (ls : List LineId) (s : State) : ∃ m, each ls (zeroLine p) s = s.modSg fun g => { g with mdc := m } := by
  induction ls generalizing s with
  | nil => exact ⟨s.sg.mdc, rfl⟩
  | cons l r ih =>
    obtain ⟨m, h⟩ := zeroLine_is p l s
    obtain ⟨n, e⟩ := ih (s.modSg fun g => { g with mdc := m })
    refine ⟨n, ?_⟩
    show each r (zeroLine p) (zeroLine p l s) = _
    rw [h, e]; rfl
theorem zeroed (p x : Nat) (s : State) : ∃ m, s.zeroPlot p x = s.modSg fun g => { g with mdc := m } := zeroLines_is p (s.plotBlocks x) s

/-- Binding two plots to object 0, but for the cache. -/
def bound2 (first : Nat) (s : State) : State :=
  each (List.range 2) (fun j t => t.modObju fun o =>
    { o with plots := o.plots.set Plot.unbound (first + j) { bound := true, obj := 0, gen := 0, system := true } }) s
theorem binds (p first : Nat) (s : State) : ∃ m, s.bindPlots p first 2 0 0 true = (bound2 first s).modSg fun g => { g with mdc := m } := by
  obtain ⟨a, ha⟩ := zeroed p first s
  obtain ⟨b, hb⟩ := zeroed p (first + 1) ((s.zeroPlot p first).modObju fun o =>
    { o with plots := o.plots.set Plot.unbound first { bound := true, obj := 0, gen := 0, system := true } })
  refine ⟨b, ?_⟩
  have : s.bindPlots p first 2 0 0 true = State.modObju (fun o =>
    { o with plots := o.plots.set Plot.unbound (first + 1) { bound := true, obj := 0, gen := 0, system := true } }) (State.zeroPlot p (first + 1) ((s.zeroPlot p first).modObju fun o =>
    { o with plots := o.plots.set Plot.unbound first { bound := true, obj := 0, gen := 0, system := true } })) := rfl
  rw [this, hb, ha]; rfl
/-- What PART_ASSIGN of two plots for object 0 sets before it writes object 0. -/
def tabled (p : Nat) (s : State) : State :=
  let first := (s.part p).pbase / 65536
  let t := s.modObju fun o => { o with ptFirst := o.ptFirst.set 0 p first, ptCount := o.ptCount.set 0 p 1638, nextId := o.nextId.drop p }
  bound2 first (t.modObj p 0 fun _ =>
    { Obj.vacant with st := 1, plots := 2, system := true, first := first, owner := 0xFFFF, created := t.now })
theorem tables (p : Nat) (s : State) : ∃ m, s.newTables p 2 = ((tabled p s).modSg fun g => { g with mdc := m }).writeObj p 0 := by
  have h : min ((2 - 1) * 65536 / 40) 33423360 = 1638 := rfl
  unfold State.newTables
  simp only [h]
  obtain ⟨m, e⟩ := binds p ((s.part p).pbase / 65536) (State.modObj p 0 (fun _ =>
      { Obj.vacant with st := 1, plots := 2, system := true, first := (s.part p).pbase / 65536, owner := 0xFFFF, created := (s.modObju fun o =>
    { o with ptFirst := o.ptFirst.set 0 p ((s.part p).pbase / 65536), ptCount := o.ptCount.set 0 p 1638, nextId := o.nextId.drop p }).now }) (s.modObju fun o =>
    { o with ptFirst := o.ptFirst.set 0 p ((s.part p).pbase / 65536), ptCount := o.ptCount.set 0 p 1638, nextId := o.nextId.drop p }))
  exact ⟨m, by rw [e]; rfl⟩
/-- What PART_ASSIGN does before its tables. -/
def owned (p : Nat) (r : Rejoin) (s : State) : State :=
  let s1 := s.take p r 0
  let n := (s1.takeSlot p).getD 0
  let s2 := ((s1.fill n p 0 0 false false true false ((s1.free.setWidth 256).setWidth 512)).drawnPr).modPart p fun x => { x with slot := n }
  each ((s2.recordEntries r).getD []) (State.ownRegion p) s2
/-- The state in which PART_ASSIGN of partition 2 is admitted. -/
def admitted2 : State := (heldTwo.begun ⟨0x0101, [.mgmt, .host], .all, 30, 0, false⟩ (mgmtH 2) []).1.eraseRecord 2
theorem admitted2_tables : ∃ m, (owned 2 rejoin2 admitted2).newTables 2 2 = ((tabled 2 (owned 2 rejoin2 admitted2)).modSg fun g => { g with mdc := m }).writeObj 2 0 := tables ..
theorem admitted2_done : (((tabled 2 (owned 2 rejoin2 admitted2)).modSg fun g => { g with mdc := admitted2_tables.choose }).writeObj 2 0).2 = .done := by decide +kernel
theorem assigns (p : Nat) (r : Rejoin) (s : State) (h : s.params.profile ≠ .s) : s.assignNew p r = (owned p r s).newTables p r.otPlots := by
  unfold State.assignNew; exact if_neg h

/-- A group's arithmetic with a rounding seed; a top node to be written back; an M-profile block, with a result in its memo. -/
def seeded : State := onSg { busy.sg with seed := [(1, some 130)] }
def topNode : Line := { madeLine ⟨0, 0, .node 3, 0⟩ .dirty with way := 16 }
def noded : State := onSg { busy.sg with mdc := [topNode, { madeLine (busy.macLine topNode.id) .clean with here := true }] }
def mem : State := { linked with params := { linked.params with profile := .m } }
def memo : Memo := { domain := 0, src := 8, txid := 7, issue := 0, executed := true, status := .done, exec := 0, result := 0 }
def memoed : State := { mem with rem := { mem.rem with memo := [memo] } }
def raM : RaReq := { raReq with dst := Part.free.member, obj := 2, data := List.replicate 32 0 }
def raBack : RaRep := { raRep with dst := Part.free.member, src := 9 }
def rwM (w : Bool) : RwReq :=
  { rwReq with write := w, dst := Part.free.member, obj := 2, length := 64, data := if w then List.replicate 64 0 else [] }
/-- An S-profile block with reductions. -/
def switch (l : List Reduction) : State :=
  { linked with params := { linked.params with profile := .s }, rem := { linked.rem with pool := l } }

/-- Accesses under way to `n` sectors of entry 0 from `first` on, so that a read of them waits. -/
def waitingFor (first n : Nat) : List Acc :=
  (List.range n).map fun i => { Acc.mk0 .full .inner ⟨0, 0, 256 * (first + i), 3, 1, 0, 0xFFFF, 0⟩ 1 0 (first + i) (first + i) 130 .stale 0 0 with id := i }
/-- `s` with them, in a plot of object 0. -/
def waits (first n : Nat) (s : State) : State :=
  { s with sg := { s.sg with accs := waitingFor first n, nextAcc := n }
           obju := { s.obju with plots := [(first / 256, { Plot.unbound with bound := true })] } }

/-- A job of the engine for a verification; SPDM sessions that have not finished. -/
def vjob (e : PkeEnd) : PkeJob := { link := false, ops := [.mldsaVerify], sign := none, sig := [], ends := e }
def secL : Secured := { sec9 with t := .link 0 0, sid := 11 }
def secP : Secured := { sec1 with t := .link 0 2, sid := 12 }
def served : State := { linked with cmd := { linked.cmd with sessions := [secP] } }
def verifying (s : State) (e : PkeEnd) : State := { s with key := { s.key with pke := [vjob e] } }
def unfinished : State := { busy with cmd := { busy.cmd with sessions := [sec9, secL] } }
/-- A session that awaits its OPEN; a port with cover on and nothing queued; host port 0 with its capability. -/
def opening : State := { linked with lnk := { linked.lnk with sess := [(2, { Sess.down with st := 2, rxIdx := 21, peer := 9 })] } }
def covering : State := { queued false 0x80000000 with lnk := { linked.lnk with ports := [(0, Port.idle)] } }
def capped : State := { hosted with regf := { hosted.regf with regs := (rHstPortCap 0, 0x02000100) :: hosted.regf.regs } }
theorem witness_StepRunsFrontCommand :
    ∃ (c : Instr) (rest : List Instr) (s : State), s.pending = c :: rest :=
  ⟨.pressFlush, [], { busy with pending := [.pressFlush] }, by decide +kernel⟩

theorem witness_NetlistParametersFixed :
    (∃ s t : State, step s = .next t) ∧
    (∃ s : State, s.service ≠ .off) ∧
    (∃ s : State, s.params.sgCount ≤ 8 ∧ s.params.fpCount ≤ 18 ∧ s.params.hcCount ≤ 2) :=
  ⟨⟨State.reset, tick State.reset, by rfl⟩,
    ⟨busy, by decide +kernel⟩,
    ⟨busy, by decide +kernel⟩⟩

theorem witness_BlownFuseBitsStayBlown :
    ∃ s t : State, step s = .next t :=
  ⟨State.reset, tick State.reset, by rfl⟩

theorem witness_FuseArrayStaysCanonical :
    ∃ s t : State, Tab.wf 0 s.fuse = true ∧ step s = .next t :=
  ⟨State.reset, tick State.reset, by exact ⟨by decide +kernel, rfl⟩⟩

theorem witness_CommandsLeaveQueueAndTimeBase :
    (∃ (c : Instr) (s t : State), exec c s = .next t) ∧
    (∃ s t : State, s.pending = [] ∧ step s = .next t) :=
  ⟨⟨.cClassCommit 2, busy, busy, by rfl⟩,
    ⟨State.reset, tick State.reset, by exact ⟨rfl, rfl⟩⟩⟩

theorem witness_LifeCycleStateMovesOnlyUnderItsCommands :
    ∃ (c : Instr) (s t : State), touchesLifeCycle c = false ∧ exec c s = .next t :=
  ⟨.cClassCommit 2, busy, busy, by exact ⟨rfl, rfl⟩⟩

theorem witness_GeneralPacketsComplete :
    (∃ (s : State) (h : Hdr), s.Accepts ⟨0x0000, [.mgmt, .host, .tenant, .device], .all, 0, 0, false⟩ h []) ∧
    (∃ (s : State) (h : Hdr), s.Accepts ⟨0x0001, [.mgmt, .host, .tenant, .device], .all, 0, 0, false⟩ h []) ∧
    (∃ (s : State) (h : Hdr) (seq : Word), s.Accepts ⟨0x0003, [.mgmt, .host, .tenant], .all, 4, 0, false⟩ h [] ∧ ∃ (sid : Nat) (r : Reply),
      (s.begun ⟨0x0003, [.mgmt, .host, .tenant], .all, 4, 0, false⟩ h []).1.pollSid h.path = some sid ∧ ((s.begun ⟨0x0003, [.mgmt, .host, .tenant],
      .all, 4, 0, false⟩ h []).1.cmd.stored.find? fun x => decide (x.1 = sid) && decide (x.2.seq = seq)) = some (sid, r)) ∧
    (∃ (s : State) (h : Hdr) (sid ra rl pa pl mx : Nat), s.Accepts ⟨0x0002, [.host, .device], .all, 28, 0, false⟩ h [] ∧ mx ≤ pl ∧ ((s.begun
      ⟨0x0002, [.host, .device], .all, 28, 0, false⟩ h []).1.cmd.sessions.any fun x => decide (x.sid = sid) && x.live) = true) :=
  ⟨⟨busy, hostH 1, by unfold State.Accepts; decide +kernel⟩,
    ⟨busy, mgmtH 0, by unfold State.Accepts; decide +kernel⟩,
    ⟨stored4, tenH, 4, (by unfold State.Accepts; decide +kernel), 2, rep4, by decide +kernel⟩,
    ⟨busy, hostH 1, 2, 0, 64, 0, 64, 64, by unfold State.Accepts; decide +kernel⟩⟩

theorem witness_PartitionPacketsComplete :
    (∃ (s : State) (h : Hdr) (strict : Bool) (allot merge weight : Nat) (mdc dkc : BitVec 16) (pbase psize ot : Nat) (es : List Nat), let r :
      Rejoin := { man := none, amends := [], policy := 4, strict := strict, allot := allot, merge := merge, weight := weight, mdc := mdc, dkc := dkc, pbase := pbase, psize := psize, otPlots := ot, added := [], lcAt := s.boot.lc }; s.Accepts ⟨0x0101, [.mgmt, .host], .all, 30, 0, false⟩ h [] ∧ s.pst h.part = 0 ∧ s.params.profile ≠ .s ∧ s.key.rngReady = true ∧ s.shareOk h.part r = true ∧ s.rangeEntries pbase psize = some es ∧ s.allUnowned es = true ∧ 1 ≤ ot ∧ ot ≤ psize / 65536 ∧ s.canTake h.part 1 = true ∧ s.dfFits none = true ∧ s.recordFits none = true ∧ s.boot.dbgAuth ≠ 2 ∧ ∃ u : State, ((s.begun ⟨0x0101, [.mgmt, .host], .all, 30, 0, false⟩ h []).1.eraseRecord h.part).assignNew h.part r = (u, .done)) ∧
    (∃ (s : State) (h : Hdr) (strict : Bool) (allot merge weight : Nat) (mdc dkc : BitVec 16) (stage : Nat) (m : Manifest), let r :
      Rejoin := { man := some m, amends := [], policy := m.policy.setWidth 3, strict := strict, allot := allot, merge := merge, weight := weight, mdc := mdc, dkc := dkc, pbase := 0, psize := 0, otPlots := 0, added := [], lcAt := s.boot.lc }; s.Accepts ⟨0x0101, [.mgmt, .host], .all, 30, 0, false⟩ h [] ∧ s.pst h.part = 0 ∧ s.params.profile = .s ∧ 1 ≤ stage ∧ stage ≤ 4 ∧ s.stage stage = some m ∧ (s.ownMember m).isSome = true ∧ s.partOfDomain m.domain = none ∧ s.shareOk h.part r = true ∧ s.dfFits (some m) = true ∧ s.recordFits (some m) = true ∧ s.boot.dbgAuth ≠ 2 ∧ ∃ u : State, (((s.begun ⟨0x0101, [.mgmt, .host], .all, 30, 0, false⟩ h []).1.eraseRecord h.part).modCmd fun c => { c with stages := c.stages.set none stage none }).assignNew h.part r = (u, .done)) ∧
    (∃ (s : State) (h : Hdr) (z : Bool), s.Accepts ⟨0x0102, [.mgmt, .host], .all, 1, 0, false⟩ h [] ∧ s.pst h.part ≠ 0) ∧
    (∃ (s : State) (h : Hdr) (w : Nat), s.Accepts ⟨0x0103, [.mgmt, .host], .am, 1, 0, false⟩ h [] ∧ s.pst h.part ≠ 0) ∧
    (∃ (s : State) (h : Hdr) (base size : Nat) (es : List Nat), s.Accepts ⟨0x0104, [.mgmt, .host], .am, 16, 0, false⟩ h [] ∧ (s.pst h.part = 1 ∨
      s.pst h.part = 2 ∨ s.pst h.part = 3) ∧ s.rangeEntries base size = some es ∧ s.allUnowned es = true) ∧
    (∃ (s : State) (h : Hdr) (addr e : Nat), s.Accepts ⟨0x0105, [.tenant, .device], .am, 8, 0, false⟩ h [] ∧ s.regionAt addr = some e ∧ (s.anchor
      e).st = 2 ∧ (s.anchor e).part = h.part ∧ (s.anchor e).counter = 0 ∧ (s.reseal h.part).active = false) ∧
    (∃ (s : State) (h : Hdr) (pol : BitVec 8), s.Accepts ⟨0x0106, [.tenant], .all, 1, 0, false⟩ h [] ∧ pol.toNat < 8) ∧
    (∃ (s : State) (h : Hdr) (stage : Nat) (m : Manifest), s.Accepts ⟨0x0107, [.mgmt, .host, .tenant], .all, 1, 0, true⟩ h [] ∧ 1 ≤ stage ∧ stage ≤
      4 ∧ 0 < h.trailer ∧ s.pair rCmdStageBase ≠ 0 ∧ (s.begun ⟨0x0107, [.mgmt, .host, .tenant], .all, 1, 0, true⟩ h []).1.manifestCheck m = .done) ∧
    (∃ (s : State) (h : Hdr), s.Accepts ⟨0x0108, [.tenant], .all, 0, 0, false⟩ h [] ∧ (s.part h.part).man.isSome = true) :=
  ⟨⟨heldTwo, mgmtH 2, false, 0, 0, 1, 0xFFFF, 0xFFFF, 0x1000000, 0x100000, 2, [16],
      by unfold State.Accepts; intro r; and_intros <;> first | decide +kernel | exact ⟨_, (assigns 2 rejoin2 admitted2 (by decide +kernel)).trans (admitted2_tables.choose_spec.trans (pair_is admitted2_done))⟩⟩,
    ⟨onS1, mgmtH 2, false, 0, 0, 1, 0xFFFF, 0xFFFF, 1, manS,
      by unfold State.Accepts; intro r; and_intros <;> first | decide +kernel | rfl | exact ⟨_, pair_is (by decide +kernel)⟩ | (rw [own_member]; rfl)⟩,
    ⟨busy, mgmtH 1, false, by unfold State.Accepts; decide +kernel⟩,
    ⟨busy, mgmtH 1, 2, by unfold State.Accepts; decide +kernel⟩,
    ⟨busy, mgmtH 1, 0x1000000, 0x200000, [16, 17], by unfold State.Accepts; decide +kernel⟩,
    ⟨busy, tenH, 0x300000, 3, by unfold State.Accepts; decide +kernel⟩,
    ⟨busy, tenH, 7, by unfold State.Accepts; decide +kernel⟩,
    ⟨busy, { mgmtH 2 with trailer := 1024 }, 2, man9, by unfold State.Accepts; and_intros <;> first | decide +kernel | exact man9_passes⟩,
    ⟨busy, tenH3, by unfold State.Accepts; decide +kernel⟩⟩

theorem witness_ContextPacketsComplete :
    (∃ (s : State) (h : Hdr) (ctx pasid : Nat) (pv : Bool), s.Accepts ⟨0x0201, [.host], .all, 6, 0, false⟩ h [] ∧ ctx ≠ 0xFFFF ∧ (s.ctx ctx).st = 0
      ∧ s.pst h.part ≠ 0 ∧ s.pst h.part ≠ 5 ∧ s.params.profile = .s ∧ s.obju.ctxs.length < 1024) ∧
    (∃ (s : State) (h : Hdr) (ctx pasid : Nat) (pv : Bool) (u : State) (i g x : Nat), s.Accepts ⟨0x0201, [.host], .all, 6, 0, false⟩ h [] ∧ ctx ≠
      0xFFFF ∧ (s.ctx ctx).st = 0 ∧ s.pst h.part ≠ 0 ∧ s.pst h.part ≠ 5 ∧ s.params.profile ≠ .s ∧ (s.wouldAlloc h.part 1).isSome = true ∧ (s.begun
      ⟨0x0201, [.host], .all, 6, 0, false⟩ h []).1.alloc h.part 1 ctx false true = (u, .ok (i, g, x))) ∧
    (∃ (s : State) (h : Hdr) (ctx : Nat), s.Accepts ⟨0x0202, [.host, .device], .all, 2, 0, false⟩ h [] ∧ ctx < 0xFFFF ∧ (s.ctx ctx).resident = true
      ∧ (s.ctx ctx).st ≠ 0 ∧ (s.ctx ctx).st ≠ 3 ∧ (s.ctx ctx).part = h.part) ∧
    (∃ (s : State) (h : Hdr) (ctx queue log2 sq rq : Nat), s.Accepts ⟨0x0203, [.host], .all, 24, 0, false⟩ h [] ∧ ctx < 0xFFFF ∧ (s.ctx
      ctx).resident = true ∧ (s.ctx ctx).st ≠ 0 ∧ (s.ctx ctx).st ≠ 3 ∧ (s.ctx ctx).part = h.part ∧ queue < 8 ∧ (s.queue (16 + 8 * ctx +
      queue)).valid = false ∧ 4 ≤ log2 ∧ log2 ≤ 16 ∧ sq % max (64 * 2 ^ log2) 4096 = 0 ∧ rq % max (32 * 2 ^ log2) 4096 = 0 ∧ s.ringOk h.part 1 sq
      (64 * 2 ^ log2) = true ∧ s.ringOk h.part 1 rq (32 * 2 ^ log2) = true ∧ s.pinWait h.part [] = false) ∧
    (∃ (s : State) (h : Hdr) (ctx queue : Nat), s.Accepts ⟨0x0204, [.host], .all, 3, 0, false⟩ h [] ∧ ctx < 0xFFFF ∧ (s.ctx ctx).resident = true ∧
      (s.ctx ctx).st ≠ 0 ∧ (s.ctx ctx).st ≠ 3 ∧ (s.ctx ctx).part = h.part ∧ queue < 8 ∧ (s.queue (16 + 8 * ctx + queue)).valid = true ∧ (s.queue
      (16 + 8 * ctx + queue)).destroying = false) :=
  ⟨⟨onS, hostH 1, 7, 0, false, by unfold State.Accepts; decide +kernel⟩,
    ⟨held, hostH 1, 7, 0, false, alloc2, 3, 0, 2,
      by unfold State.Accepts; and_intros <;> first | decide +kernel | exact alloc_is (by decide +kernel)⟩,
    ⟨busy, hostH 1, 5, by unfold State.Accepts; decide +kernel⟩,
    ⟨busy, hostH 1, 5, 1, 4, 0x80000000, 0x90000000, by unfold State.Accepts; decide +kernel⟩,
    ⟨busy, hostH 1, 5, 0, by unfold State.Accepts; decide +kernel⟩⟩

theorem witness_ObjectPacketsComplete :
    (∃ (s : State) (h : Hdr) (plots : Nat) (shared : Bool) (u : State) (i g x : Nat), s.Accepts ⟨0x0301, [.device, .tenant], .am, 5, 0, false⟩ h []
      ∧ 0 < plots ∧ plots ≤ 0xFFFFFF ∧ (s.wouldAlloc h.part plots).isSome = true ∧ (s.begun ⟨0x0301, [.device, .tenant], .am, 5, 0, false⟩ h
      []).1.alloc h.part plots h.ctx shared false = (u, .ok (i, g, x))) ∧
    (∃ (s : State) (h : Hdr) (obj gen : Nat), s.Accepts ⟨0x0302, [.device, .tenant], .am, 7, 0, false⟩ h [] ∧ s.handleFails h obj gen 16 = []) ∧
    (∃ (s : State) (h : Hdr) (obj gen : Nat), s.Accepts ⟨0x0303, [.device, .tenant], .am, 7, 0, false⟩ h [] ∧ s.handleFails h obj gen 16 = []) :=
  ⟨⟨held, devH, 1, false, alloc3, 3, 0, 2, by unfold State.Accepts; and_intros <;> first | decide +kernel | exact alloc_is (by decide +kernel)⟩,
    ⟨busy, devH, 2, 0, by unfold State.Accepts; decide +kernel⟩,
    ⟨busy, devH, 2, 0, by unfold State.Accepts; decide +kernel⟩⟩

theorem witness_RemotePacketsComplete :
    (∃ (s : State) (h : Hdr) (dst op : Nat) (attr : BitVec 8) (obj gen offset : Nat) (x y : BitVec 128), s.Accepts ⟨0x0310, [.device], .a, 48, 0,
      false⟩ h [] ∧ s.atomicsOut < 65536 ∧ 0x10 ≤ op ∧ op ≤ 0x16 ∧ scalarOk op attr = true ∧ offset % sizeBytes (bits attr 1 0) = 0 ∧ s.isLost
      h.part dst = false ∧ ((sizeBytes (bits attr 1 0) ≠ 16 ∨ s.featureOn h.part dst 1 = true))) ∧
    (∃ (s : State) (h : Hdr) (dst op : Nat) (attr : BitVec 8) (obj gen offset so sg sf size : Nat) (src : List Byte), s.Accepts ⟨0x0311, [.device],
      .a, 28, 0, false⟩ h [so] ∧ s.atomicsOut < 65536 ∧ 0x20 ≤ op ∧ op ≤ 0x2D ∧ vectorOk op attr = true ∧ offset % 256 = 0 ∧ sf % 256 = 0 ∧ srcSize
      op (bits attr 1 0) = some size ∧ sf + size ≤ 65536 * (s.obj h.part so).plots ∧ s.handleFails h so sg 32 = [] ∧ s.isLost h.part dst = false ∧
      (srcMx op = false ∨ s.featureOn h.part dst 0 = true) ∧ ∃ (t u : State) (p : Pend) (rd : Status), s.begun ⟨0x0311, [.device], .a, 28, 0,
      false⟩ h [so] = (t, p) ∧ t.srcRead h.part so sf size = (u, rd)) ∧
    (∃ (s : State) (h : Hdr) (dst : Nat) (txid : Word) (issue : Nat), s.Accepts ⟨0x0312, [.device], .a, 16, 0, false⟩ h [] ∧ s.isLost h.part dst =
      false) ∧
    (∃ (s : State) (h : Hdr) (c : Contrib) (sw so sg sf : Nat) (src : List Byte), s.Accepts ⟨0x0313, [.device], .a, 64, 1, false⟩ h [so] ∧
      contribOk c = true ∧ sf + c.count * srcBits c.fmt / 8 ≤ 65536 * (s.obj h.part so).plots ∧ s.handleFails h so sg 68 = [] ∧ s.isLost h.part sw
      = false ∧ ∃ (t u : State) (p : Pend) (rd : Status), s.begun ⟨0x0313, [.device], .a, 64, 1, false⟩ h [so] = (t, p) ∧ t.srcRead h.part so sf
      (c.count * srcBits c.fmt / 8) = (u, rd)) :=
  ⟨⟨busy, devH, 9, 0x10, 1, 1, 0, 8, 5, 0, by unfold State.Accepts; decide +kernel⟩,
    ⟨busy, devH, 9, 0x20, 0, 1, 0, 0, 2, 0, 0, 256, [],
      by unfold State.Accepts; and_intros <;> first | decide +kernel | exact ⟨_, _, _, _, pair_is rfl, pair_is rfl⟩⟩,
    ⟨busy, devH, 9, 4, 0, by unfold State.Accepts; decide +kernel⟩,
    ⟨busy, devH, con, 9, 2, 0, 0, [],
      by unfold State.Accepts; and_intros <;> first | decide +kernel | exact ⟨_, _, _, _, pair_is rfl, pair_is rfl⟩⟩⟩

theorem witness_FencePacketsComplete :
    (∃ (s : State) (h : Hdr) (f : Nat), s.Accepts ⟨0x0401, [.device, .tenant], .all, 1, 0, false⟩ h [] ∧ s.obju.freed = [] ∧ s.obju.fenceNext = f ∧
      f < 0xF000 ∧ (s.begun ⟨0x0401, [.device, .tenant], .all, 1, 0, false⟩ h []).1.obju.freed = []) ∧
    (∃ (s : State) (h : Hdr) (i : Nat), s.Accepts ⟨0x0401, [.device, .tenant], .all, 1, 0, false⟩ h [] ∧ ((List.range (s.dfCount h.part)).find? fun
      j => decide ((s.fence h.part (0xF000 + j)).owner = 0xFFFF)) = some i) ∧
    (∃ (s : State) (h : Hdr) (f e : Nat), s.Accepts ⟨0x0402, [.device, .tenant], .all, 3, 0, false⟩ h [] ∧ s.maySignal h.issuer h.part h.ctx f =
      true ∧ signalCode e = true) ∧
    (∃ (s : State) (h : Hdr) (f : Nat), s.Accepts ⟨0x0403, [.device, .host], .all, 2, 0, false⟩ h [] ∧ s.fenceOk h.part f = true ∧ (h.issuer =
      .host ∨ s.maySignal h.issuer h.part h.ctx f = true)) ∧
    (∃ (s : State) (h : Hdr) (f : Nat), s.Accepts ⟨0x0404, [.device, .tenant], .all, 2, 0, false⟩ h [] ∧ s.maySignal h.issuer h.part h.ctx f =
      true) ∧
    (∃ (s : State) (h : Hdr) (f : Nat), s.Accepts ⟨0x0405, [.device, .tenant], .all, 2, 0, false⟩ h [] ∧ s.fenceOk h.part f = true ∧ ((h.issuer =
      .tenant ∨ (s.fence h.part f).owner = h.ctx ∨ ((s.fence h.part f).owner = 0xFFFF ∧ (s.fence h.part f).shares.contains h.ctx)))) ∧
    (∃ (s : State) (h : Hdr) (f c : Nat), s.Accepts ⟨0x0406, [.device], .all, 4, 0, false⟩ h [] ∧ s.fenceOk h.part f = true ∧ (s.fence h.part
      f).owner = h.ctx ∧ s.ctxFails h.part c 18 = [] ∧ h.ctx ≠ c ∧ (s.fence h.part f).shares.contains c = false ∧ s.sharesUsed < 16384 ∧ (s.ctx
      c).resident = true) :=
  ⟨⟨busy, devH, 3, by unfold State.Accepts; decide +kernel⟩,
    ⟨busy, tenH3, 0, by unfold State.Accepts; decide +kernel⟩,
    ⟨busy, devH, 2, 0, by unfold State.Accepts; decide +kernel⟩,
    ⟨busy, devH, 2, by unfold State.Accepts; decide +kernel⟩,
    ⟨busy, devH, 2, by unfold State.Accepts; decide +kernel⟩,
    ⟨busy, devH, 2, by unfold State.Accepts; decide +kernel⟩,
    ⟨busy, devH, 2, 6, by unfold State.Accepts; decide +kernel⟩⟩

theorem witness_KeyPacketsComplete :
    (∃ (s : State) (h : Hdr) (n : Nat), s.Accepts ⟨0x0501, [.tenant, .device], .am, 0, 0, false⟩ h [] ∧ s.key.rngReady = true ∧ (s.reseal
      h.part).active = false ∧ (s.pst h.part = 1 ∨ s.pst h.part = 2 ∨ s.pst h.part = 3) ∧ (s.takeSlot h.part).isSome = true ∧ (s.begun ⟨0x0501,
      [.tenant, .device], .am, 0, 0, false⟩ h []).1.takeSlot h.part = some n) ∧
    (∃ (s : State) (h : Hdr) (slot : Nat) (nonce : BitVec 256), s.Accepts ⟨0x0502, [.tenant], .all, 34, 0, false⟩ h [] ∧ s.key.rngReady = true ∧
      s.ownSlot h.part slot [1, 2] = true ∧ (s.slot 1).st = 1) ∧
    (∃ (s : State) (h : Hdr) (e r m : Bool), s.Accepts ⟨0x0503, [.tenant, .device], .all, 1, 0, false⟩ h [] ∧ s.key.rngReady = true ∧ (s.takeSlot
      h.part).isSome = true) ∧
    (∃ (s : State) (h : Hdr) (e r m : Bool) (v : BitVec 256), s.Accepts ⟨0x0504, [.tenant], .all, 1, 0, true⟩ h [] ∧ h.trailer = 32 ∧ (s.takeSlot
      h.part).isSome = true) ∧
    (∃ (s : State) (h : Hdr) (slot w : Nat), s.Accepts ⟨0x0505, [.tenant], .all, 4, 0, false⟩ h [] ∧ s.key.rngReady = true ∧ s.ownSlot h.part slot
      [1] = true ∧ (s.slot slot).exportable = true ∧ s.controlSlot h.part w = true) ∧
    (∃ (s : State) (h : Hdr) (w : Nat) (b : List Byte), s.Accepts ⟨0x0506, [.tenant], .all, 2, 0, true⟩ h [] ∧ s.controlSlot h.part w = true ∧
      h.trailer = b.length ∧ b.length = 80 ∧ (s.takeSlot h.part).isSome = true ∧ ∃ (t : State) (p : Pend) (attr : Word), s.begun ⟨0x0506,
      [.tenant], .all, 2, 0, true⟩ h [] = (t, p) ∧ attr = BitVec.ofNat 32 (ofLe ((b.drop 2).take 4)) ∧ ofLe (b.take 2) = 2 ∧ ofLe ((b.drop 6).take
      2) = 32 ∧ ofLe ((b.drop 8).take 8) = 0 ∧ bits attr 2 0 = 3) ∧
    (∃ (s : State) (h : Hdr) (slot : Nat), s.Accepts ⟨0x0507, [.tenant, .device], .all, 2, 0, false⟩ h [] ∧ s.controlSlot h.part slot = true) ∧
    (∃ (s : State) (h : Hdr) (slot mode len : Nat) (dec g : Bool) (iv : BitVec 128) (msg : List Byte), s.Accepts ⟨0x0508, [.tenant], .all, 22, 0,
      true⟩ h [] ∧ (g = true → s.key.rngReady = true) ∧ s.controlSlot h.part slot = true ∧ mode < 3 ∧ 1 ≤ len ∧ len ≤ 4096 ∧ h.trailer = len ∧
      msg.length = len ∧ (mode = 0 → dec = true → len % 16 = 0) ∧ ((mode = 1 → g = false → iv.toNat % 2 ^ 32 + (len + 15) / 16 ≤ 2 ^ 32))) ∧
    (∃ (s : State) (h : Hdr) (slot mode len : Nat) (dec g : Bool) (iv : BitVec 128) (msg : List Byte), (s.boot.phase = .tolaro ∨ s.boot.phase =
      .ready) ∧ (s.slot slot).st = 1 ∧ (s.slot slot).block = true ∧ (s.slot slot).use = 3 ∧ mode < 3 ∧ 1 ≤ msg.length ∧ msg.length ≤ 4096 ∧ (mode =
      0 → dec = true → msg.length % 16 = 0) ∧ ((mode = 1 → g = false → iv.toNat % 2 ^ 32 + (msg.length + 15) / 16 ≤ 2 ^ 32)) ∧ (g = true →
      s.key.rngReady = true)) ∧
    (∃ (s : State) (h : Hdr) (slot : Nat), s.Accepts ⟨0x0509, [.tenant, .device], .am, 2, 0, false⟩ h [] ∧ (slot = 0xFFFF ∨ s.controlSlot h.part
      slot = true)) ∧
    (∃ (s : State) (h : Hdr) (step : Word), s.Accepts ⟨0x050A, [.tenant, .device], .am, 4, 0, false⟩ h []) :=
  ⟨⟨busy, devH, 128, by unfold State.Accepts; decide +kernel⟩,
    ⟨busy, tenH, 131, 5, by unfold State.Accepts; decide +kernel⟩,
    ⟨busy, tenH, true, false, false, by unfold State.Accepts; decide +kernel⟩,
    ⟨busy, { tenH with trailer := 32 }, true, false, false, 5, by unfold State.Accepts; decide +kernel⟩,
    ⟨busy, tenH, 131, 132, by unfold State.Accepts; decide +kernel⟩,
    ⟨busy, { tenH with trailer := 80 }, 132, wrapped,
      by unfold State.Accepts; refine ⟨?_, ?_, ?_, ?_, ?_, _, _, _, rfl, rfl, ?_⟩ <;> decide +kernel⟩,
    ⟨busy, devH, 131, by unfold State.Accepts; decide +kernel⟩,
    ⟨busy, { tenH with trailer := 1 }, 131, 0, 1, false, true, 0, [3], by unfold State.Accepts; decide +kernel⟩,
    ⟨blocked, devH, 60, 0, 0, false, false, 0, [3], by decide +kernel⟩,
    ⟨busy, devH, 0xFFFF, by unfold State.Accepts; decide +kernel⟩,
    ⟨busy, devH, 4, by unfold State.Accepts; decide +kernel⟩⟩

theorem witness_SchedulePacketsComplete :
    (∃ (s : State) (h : Hdr) (e : SchedReq) (i : Nat), s.Accepts ⟨0x0601, [.mgmt, .host, .tenant, .device], .all, 26, 0, false⟩ h [] ∧ ((e.block =
      true → (h.issuer = .mgmt ∨ h.issuer = .host) ∧ (e.action = 1 ∨ e.action = 8) ∧ e.domain = false)) ∧ s.mayAct h.issuer h.part e.action
      e.param.toNat = true ∧ 1 ≤ e.action ∧ e.action ≤ 8 ∧ (e.block = false → s.pst h.part ≠ 0) ∧ (e.domain = true → s.pst h.part = 3 ∧ s.now +
      1000000 ≤ e.instant) ∧ ((e.action = 1 → s.windowThere (e.param.toNat % 65536) = true)) ∧ (((e.action = 2 ∨ e.action = 3) → e.param.toNat % 2
      ^ 18 < 2 ^ s.params.fpCount)) ∧ s.liveEntry e.block (s.schedOrigin h.part e.block) e.id = none ∧ s.freeSched.isSome = true ∧ (s.begun
      ⟨0x0601, [.mgmt, .host, .tenant, .device], .all, 26, 0, false⟩ h []).1.freeSched = some i) ∧
    (∃ (s : State) (h : Hdr) (id : Word) (block : Bool) (i : Nat), s.Accepts ⟨0x0602, [.mgmt, .host, .tenant, .device], .all, 5, 0, false⟩ h [] ∧
      (block = true → h.issuer = .mgmt ∨ h.issuer = .host) ∧ s.liveEntry block (s.schedOrigin h.part block) id = some i ∧ ((block = true ∨ (s.sched
      i).part = h.part)) ∧ s.mayAct h.issuer h.part (s.sched i).action (s.sched i).param.toNat = true ∧ (s.sched i).st = 1 ∧ s.isDue (s.sched i) =
      false) :=
  ⟨⟨busy, hostH 1, { instant := 0, period := 0, action := 8, block := false, stagger := false, domain := false, id := 7, param := 0 }, 0,
      by unfold State.Accepts; decide +kernel⟩,
    ⟨armed, hostH 1, 7, false, 0, by unfold State.Accepts; decide +kernel⟩⟩

theorem witness_ObservabilityPacketsComplete :
    (∃ (s : State) (h : Hdr) (index : Nat), s.Accepts ⟨0x0701, [.device, .tenant, .mgmt], .all, 3, 0, false⟩ h [] ∧ h.issuer ≠ .mgmt ∧ index < 32) ∧
    (∃ (s : State) (h : Hdr) (index : Nat), s.Accepts ⟨0x0701, [.device, .tenant, .mgmt], .all, 3, 0, false⟩ h [] ∧ h.issuer = .mgmt ∧ index <
      1024) ∧
    (∃ (s : State) (h : Hdr) (ring base lg mode post : Nat), s.Accepts ⟨0x0702, [.device, .tenant], .am, 17, 0, false⟩ h [] ∧ ring < 4 ∧ ((s.ring
      h.part ring).staged.isEmpty || s.vbrOf h.part) = true ∧ (s.ring h.part ring).active = false ∧ 2 ≤ lg ∧ lg ≤ 20 ∧ mode < 3 ∧ s.ringPlace
      h.part ring base lg = true) ∧
    (∃ (s : State) (h : Hdr) (ring : Nat), s.Accepts ⟨0x0703, [.device, .tenant], .am, 3, 0, false⟩ h [] ∧ ring < 4 ∧ (s.ring h.part ring).st = 1) ∧
    (∃ (s : State) (h : Hdr) (ring : Nat), s.Accepts ⟨0x0703, [.device, .tenant], .am, 3, 0, false⟩ h [] ∧ ring < 4 ∧ (s.ring h.part ring).st ≠ 0) ∧
    (∃ (s : State) (h : Hdr) (ring : Nat), s.Accepts ⟨0x0703, [.device, .tenant], .am, 3, 0, false⟩ h [] ∧ ring < 4) ∧
    (∃ (s : State) (h : Hdr) (ring : Nat), s.Accepts ⟨0x0703, [.device, .tenant], .am, 3, 0, false⟩ h [] ∧ ring < 4 ∧ (s.ring h.part ring).st = 5) ∧
    (∃ (s : State) (h : Hdr) (name : Word) (base len i : Nat), s.Accepts ⟨0x0704, [.device, .tenant], .am, 20, 0, false⟩ h [] ∧ name ≠ 0 ∧
      (s.obs.dumps.any fun d => decide (d.part = h.part) && decide (d.name = name) && d.cap.isSome) = false ∧ base % 256 = 0 ∧ len % 256 = 0 ∧ 0 <
      len ∧ len ≤ 2 ^ 30 ∧ s.objectOf h.part base len = some i ∧ ((h.issuer = .tenant ∨ (s.obj h.part i).shared = true ∨ (s.obj h.part i).owner =
      0xFFFF ∨ (s.obj h.part i).owner = h.ctx)) ∧ (s.obs.tensors.filter fun x => decide (x.1 = h.part)).length < 64) ∧
    (∃ (s : State) (h : Hdr) (first : Word) (n : Nat), s.Accepts ⟨0x0705, [.mgmt], .all, 6, 0, false⟩ h [] ∧ 1 ≤ n ∧ n ≤ 32768) ∧
    (∃ (s : State) (h : Hdr), s.Accepts ⟨0x0706, [.mgmt], .all, 0, 0, false⟩ h []) :=
  ⟨⟨busy, devH, 31, by unfold State.Accepts; decide +kernel⟩,
    ⟨busy, mgmtH 0, 1023, by unfold State.Accepts; decide +kernel⟩,
    ⟨busy, devH, 3, 0x10000, 2, 0, 0, by unfold State.Accepts; decide +kernel⟩,
    ⟨ringed 1, devH, 0, by unfold State.Accepts; decide +kernel⟩,
    ⟨ringed 2, devH, 0, by unfold State.Accepts; decide +kernel⟩,
    ⟨busy, devH, 3, by unfold State.Accepts; decide +kernel⟩,
    ⟨ringed 5, devH, 0, by unfold State.Accepts; decide +kernel⟩,
    ⟨busy, devH, 4, 0x10000, 256, 2, by unfold State.Accepts; decide +kernel⟩,
    ⟨busy, mgmtH 0, 0, 32768, by unfold State.Accepts; decide +kernel⟩,
    ⟨busy, mgmtH 0, by unfold State.Accepts; decide +kernel⟩⟩

theorem witness_ResetPacketsComplete :
    (∃ (s : State) (h : Hdr) (c : Nat), s.Accepts ⟨0x0801, [.host, .device], .all, 2, 0, false⟩ h [] ∧ c < 0xFFFF ∧ (s.ctx c).resident = true ∧
      (s.ctx c).st ≠ 0 ∧ (s.ctx c).st ≠ 3 ∧ (s.ctx c).part = h.part) ∧
    (∃ (s : State) (h : Hdr) (e : Nat), s.Accepts ⟨0x0802, [.mgmt, .host], .a, 1, 0, false⟩ h [] ∧ e < 32 ∧ bit (s.reg (rRstEng e)) 31 = true ∧
      s.pst (s.fld (rRstEng e) 3 0) ≠ 0 ∧ s.pst (s.fld (rRstEng e) 3 0) ≠ 5 ∧ (s.part (s.fld (rRstEng e) 3 0)).wantScrub = false) ∧
    (∃ (s : State) (h : Hdr) (e : Nat), s.Accepts ⟨0x0802, [.mgmt, .host], .a, 1, 0, false⟩ h [] ∧ e < 32 ∧ bit (s.reg (rRstEng e)) 31 = false) ∧
    (∃ (s : State) (h : Hdr), s.Accepts ⟨0x0803, [.mgmt, .host], .all, 0, 0, false⟩ h [] ∧ s.pst h.part ≠ 0) ∧
    (∃ (s : State) (h : Hdr), s.Accepts ⟨0x0804, [.mgmt, .host], .all, 0, 0, false⟩ h [] ∧ h.signal = false) ∧
    (∃ (s : State) (h : Hdr), s.Accepts ⟨0x0805, [.mgmt, .host], .all, 0, 0, false⟩ h [] ∧ h.signal = false) ∧
    (∃ (s : State) (h : Hdr), s.Accepts ⟨0x0806, [.mgmt], .all, 0, 0, false⟩ h [] ∧ h.signal = false) :=
  ⟨⟨busy, hostH 1, 5, by unfold State.Accepts; decide +kernel⟩,
    ⟨busy, mgmtH 0, 2, by unfold State.Accepts; decide +kernel⟩,
    ⟨busy, mgmtH 1, 0, by unfold State.Accepts; decide +kernel⟩,
    ⟨busy, mgmtH 1, by unfold State.Accepts; decide +kernel⟩,
    ⟨busy, mgmtH 0, by unfold State.Accepts; decide +kernel⟩,
    ⟨busy, mgmtH 0, by unfold State.Accepts; decide +kernel⟩,
    ⟨busy, mgmtH 0, by unfold State.Accepts; decide +kernel⟩⟩

theorem witness_LifeCyclePacketsComplete :
    (∃ (s : State) (h : Hdr) (target : Nat) (tok : Option Token), s.Accepts ⟨0x0901, [.mgmt], .all, 1, 0, true⟩ h [] ∧ h.signal = false ∧
      s.lcAllowed target = true ∧ s.held = [] ∧ s.pins.supplyLow = false ∧ s.boot.dbgAuth = 0 ∧ s.lcTokenOk target tok = true) ∧
    (∃ (s : State) (h : Hdr) (level : Nat), s.Accepts ⟨0x0902, [.mgmt, .host, .tenant], .all, 1, 0, false⟩ h [] ∧ s.key.rngReady = true ∧ (level =
      1 ∨ level = 2) ∧ lcLevel s.boot.lc = some level ∧ s.control 0x32 = false ∧ s.boot.dbgAuth = 0 ∧ (s.boot.lc ≠ 3 ∨ s.control 0x31 = true)) ∧
    (∃ (s : State) (h : Hdr) (tok : Token) (chal : BitVec 128) (level : Nat), (s.modBoot fun b => { b with challenge := none }).Accepts ⟨0x0903,
      [.mgmt, .host, .tenant], .all, 0, 0, true⟩ h [] ∧ s.admits = true ∧ s.pathOpen h.path = true ∧ s.admitWait 0x0903 h [] none (s.issuerOk
      ⟨0x0903, [.mgmt, .host, .tenant], .all, 0, 0, true⟩ h) = none ∧ s.boot.challenge = some (chal, level) ∧ ((tok.purpose = 3 → (parts16.any fun
      p => decide (s.pst p = 1)) = false)) ∧ s.tokenOk tok (level + 1) level 0 chal (s.debugSigners level) = true) :=
  ⟨⟨up1, mgmtH 0, 4, none, by unfold State.Accepts; decide +kernel⟩,
    ⟨busy, mgmtH 0, 2, by unfold State.Accepts; decide +kernel⟩,
    ⟨granting, { mgmtH 0 with trailer := 200 }, tok1, 5, 1, by unfold State.Accepts; and_intros <;> first | decide +kernel | exact tok1_holds⟩⟩

theorem witness_RegisterBitsFollowTheirClass :
    ∃ (s : State) (off : Nat) (w : Word) (r : RegRow), regRow s.params.profile off = some r ∧ r.counts = [] :=
  ⟨busy, 0x40, 1, (regRow .a 0x40).get rfl, by decide +kernel⟩

theorem witness_RegisterAccessesAreAnswered :
    (∃ (s : State) (a : Access), s.service = .off) ∧
    (∃ (s : State) (a : Access), s.service ≠ .off ∧ a.rq.dbg = false ∧ (¬((a.size = 32 ∧ a.addr % 4 = 0) ∨ (a.size = 64 ∧ a.addr % 8 = 0)))) ∧
    (∃ (s : State) (a : Access), (s.service = .early ∨ s.service = .identity) ∧ a.rq.dbg = false ∧ a.write = true) ∧
    (∃ (s : State) (rq : Rq) (write : Bool) (addr : Nat) (d : DWord), s.PortOpen rq ∧ addr < 0x400000 ∧ addr % 4 = 0 ∧ s.present addr = none) ∧
    (∃ (s : State) (rq : Rq), s.PortOpen rq) ∧
    (∃ (s : State) (rq : Rq) (d : DWord), s.PortOpen rq) :=
  ⟨⟨off, { rq := ⟨false, 0, 0⟩, write := false, addr := 0, size := 32, wdata := 0 }, by decide +kernel⟩,
    ⟨busy, { rq := ⟨false, 0, 0⟩, write := false, addr := 2, size := 32, wdata := 0 }, by decide +kernel⟩,
    ⟨State.reset, { rq := ⟨false, 0, 0⟩, write := true, addr := 0, size := 32, wdata := 0 }, by decide +kernel⟩,
    ⟨busy, ⟨false, 0, 0⟩, true, 0x3FFFFC, 7, by unfold State.PortOpen; decide +kernel⟩,
    ⟨busy, ⟨false, 1, 1⟩, by unfold State.PortOpen; decide +kernel⟩,
    ⟨busy, ⟨false, 2, 1⟩, by unfold State.PortOpen; decide +kernel⟩⟩

theorem witness_BusErrorsAreRecorded :
    ∃ (s : State) (addr : Nat), addr < 0x400000 ∧ addr % 4 = 0 :=
  ⟨busy, 0x3FFFFC, by decide +kernel⟩

theorem witness_ClassCCommitsWhenIdle :
    (∃ s : State, s.service ≠ .off ∧ s.trigIdle = true) ∧
    (∃ s : State, s.trigIdle = false) ∧
    (∃ (s : State) (n : Nat), s.service ≠ .off ∧ s.params.profile ≠ .s ∧ n < s.params.sgCount ∧ s.params.sgCount ≤ 8 ∧ s.groupIdle n = true) ∧
    (∃ (s : State) (n : Nat), s.params.profile ≠ .s ∧ n < s.params.sgCount ∧ s.params.sgCount ≤ 8 ∧ s.groupIdle n = false) ∧
    (∃ (s : State) (k : Nat), k < 18 ∧ s.portIdle k = false) :=
  ⟨⟨busy, by decide +kernel⟩,
    ⟨armed1, by decide +kernel⟩,
    ⟨busy, 7, by decide +kernel⟩,
    ⟨reading, 0, by decide +kernel⟩,
    ⟨sealing, 0, by decide +kernel⟩⟩

theorem witness_SectorGroupEnableIsChecked :
    ∃ (s : State) (rq : Rq) (n : Nat), s.PortOpen rq ∧ n < s.params.sgCount ∧ s.params.profile ≠ .s :=
  ⟨busy, ⟨false, 0, 0⟩, 0, by unfold State.PortOpen; decide +kernel⟩

theorem witness_ResetKeepsWhatItsClassKeeps :
    ∃ (s : State) (source : Nat) (warm lost : Bool), source < 16 :=
  ⟨busy, 15, true, false, by decide +kernel⟩

theorem witness_ResetInputsTakeTheirReset :
    (∃ s : State, s.pins.vddRet = false) ∧
    (∃ s : State, s.pins.vddRet = true) ∧
    (∃ s : State, s.pins.vddRet = true ∧ s.boot.phase ≠ .stormHold ∧ s.boot.phase ≠ .inReset ∧ s.boot.chipCause = 0 ∧ s.boot.retLatch = false) ∧
    (∃ s : State, s.pins.vddRet = true ∧ s.boot.phase ≠ .stormHold ∧ s.boot.phase ≠ .inReset ∧ s.boot.chipCause ≠ 0 ∧ s.boot.retLatch = false) ∧
    (∃ s : State, s.pins.vddRet = true ∧ s.boot.phase ≠ .stormHold ∧ s.boot.phase ≠ .inReset ∧ s.boot.retLatch = true) ∧
    (∃ s : State, s.boot.phase = .inReset ∧ s.pins.vddRet = true ∧ s.dt.trefLost = false ∧ s.recent.length < 8) ∧
    (∃ s : State, s.boot.phase = .inReset ∧ s.pins.vddRet = true ∧ s.dt.trefLost = false ∧ 8 ≤ s.recent.length) ∧
    (∃ s : State, s.boot.phase = .stormHold ∧ s.pins.vddRet = true ∧ s.pins.resetN = true ∧ s.dt.trefLost = false) ∧
    (∃ s : State, s.boot.phase = .ready ∧ s.service = .full ∧ s.pins.warmArmed = true ∧ s.boot.breached = false ∧ s.pins.chipRstReq = false ∧
      s.boot.warmRun = none) ∧
    (∃ (s : State) (src : Nat), s.boot.warmRun = some src ∧ s.flushed = true) ∧
    (∃ (s : State) (src : Nat), s.boot.warmRun = some src) ∧
    (∃ s : State, s.boot.halted = false ∧ s.boot.phase = .ready ∧ s.pins.blockReady = true) ∧
    (∃ s : State, s.boot.halted = false ∧ s.boot.phase = .tolaro ∧ s.pins.blockReady = false) :=
  ⟨⟨noRet, by decide +kernel⟩,
    ⟨busy, by decide +kernel⟩,
    ⟨busy, by decide +kernel⟩,
    ⟨boot { up.boot with chipCause := 10 }, by decide +kernel⟩,
    ⟨boot { up.boot with retLatch := true }, by decide +kernel⟩,
    ⟨off, by decide +kernel⟩,
    ⟨boot { off.boot with storm := [0, 0, 0, 0, 0, 0, 0, 0] }, by decide +kernel⟩,
    ⟨boot { up.boot with phase := .stormHold }, by decide +kernel⟩,
    ⟨busy, by decide +kernel⟩,
    ⟨boot { up.boot with warmRun := some 5 }, 5, by decide +kernel⟩,
    ⟨boot { up.boot with warmRun := some 5 }, 5, by decide +kernel⟩,
    ⟨busy, by decide +kernel⟩,
    ⟨tolaro, by decide +kernel⟩⟩

theorem witness_ChipRequestsAndTrefEvents :
    (∃ s : State, s.pins.chipRstReq = true ∧ s.pins.resetN = true ∧ s.rst.steps.contains .chip = true) ∧
    (∃ (s : State) (reason src : Nat) (d : BitVec 64), s.pins.pwrcycReq = true ∧ s.boot.pwrMsg = some (reason, src, d) ∧ s.service ≠ .off ∧
      s.att.eid.isSome = true) ∧
    (∃ s : State, s.service ≠ .off) ∧
    (∃ s : State, s.dt.st ≠ 2) ∧
    (∃ s : State, s.dt.st = 2) ∧
    (∃ s : State, s.service ≠ .off) ∧
    (∃ s : State, s.service = .off) :=
  ⟨⟨asking, by decide +kernel⟩,
    ⟨cycling, 1, 2, 3, by decide +kernel⟩,
    ⟨busy, by decide +kernel⟩,
    ⟨busy, by decide +kernel⟩,
    ⟨locked 2, by decide +kernel⟩,
    ⟨locked 3, by decide +kernel⟩,
    ⟨off, by decide +kernel⟩⟩

theorem witness_RetentionSupplyAndSensors :
    (∃ s : State, s.runs = true ∧ s.pins.retReq = false ∧ s.pins.chipRstReq = false ∧ s.boot.warmRun = none ∧ s.boot.retRun = false) ∧
    (∃ s : State, s.boot.retRun = true ∧ s.flushed = true ∧ s.boot.warmRun = none ∧ s.pins.retReq = true) ∧
    (∃ s : State, s.boot.retRun = true ∧ s.flushed = true ∧ s.boot.warmRun = none ∧ s.pins.retReq = false) ∧
    (∃ s : State, s.service ≠ .off ∧ s.pins.retReady = true) ∧
    (∃ s : State, s.pins.retReady = false) ∧
    (∃ s : State, s.pins.supplyLow = false ∧ s.pins.vddRet = true) ∧
    (∃ s : State, s.pins.supplyLow = true ∧ s.service ≠ .off ∧ s.boot.burning = true) ∧
    (∃ s : State, s.pins.supplyLow = true ∧ s.service ≠ .off ∧ s.boot.burning = false) ∧
    (∃ (s : State) (i : Nat) (level : Bool), i < 16 ∧ bit (s.fuseW 0x11) i = true ∧ bit (s.fuseW 0x11) (16 + i) = level ∧ s.pins.vddRet = true ∧
      s.boot.sensed = false) ∧
    (∃ (s : State) (i : Nat) (level : Bool), i < 16 ∧ bit (s.fuseW 0x11) i = true ∧ bit (s.fuseW 0x11) (16 + i) = level ∧ s.pins.vddRet = true ∧
      s.boot.sensed = true ∧ s.service ≠ .off ∧ s.boot.breached = false) ∧
    (∃ (s : State) (i : Nat) (level : Bool), (16 ≤ i ∨ bit (s.fuseW 0x11) i = false ∨ bit (s.fuseW 0x11) (16 + i) ≠ level)) :=
  ⟨⟨busy, by decide +kernel⟩,
    ⟨keeping true, by decide +kernel⟩,
    ⟨keeping false, by decide +kernel⟩,
    ⟨kept, by decide +kernel⟩,
    ⟨busy, by decide +kernel⟩,
    ⟨busy, by decide +kernel⟩,
    ⟨low true, by decide +kernel⟩,
    ⟨low false, by decide +kernel⟩,
    ⟨sensing, 15, by decide +kernel⟩,
    ⟨watching, 15, by decide +kernel⟩,
    ⟨busy, 16, by decide +kernel⟩⟩

theorem witness_BreachHaltsTheBlock :
    ∃ (s : State) (src addr : Nat), s.boot.breached = false :=
  ⟨busy, 1, 2, by decide +kernel⟩

theorem witness_BringUpEventsTakeEffect :
    (∃ s : State, s.boot.phase = .sensing ∧ s.boot.breached = false ∧ s.pins.sns = 0) ∧
    (∃ s : State, s.boot.phase = .sensing ∧ s.boot.breached = false ∧ s.pins.sns = 0 ∧ s.profileOk = true) ∧
    (∃ (s : State) (w b : Nat) (rest : List (Nat × Nat)), s.boot.burnGo = true ∧ s.boot.burnQ = (w, b) :: rest) ∧
    (∃ (s : State) (w b : Nat) (rest : List (Nat × Nat)), s.boot.burnGo = true ∧ s.boot.burnQ = (w, b) :: rest ∧ s.boot.burnTry < 3) ∧
    (∃ s : State, s.boot.phase = .husWait ∧ s.key.rngReady = true ∧ s.boot.breached = false ∧ s.pins.chipRstReq = false) ∧
    (∃ s : State, s.boot.phase = .wiping ∧ s.boot.breached = false ∧ s.pins.chipRstReq = false) ∧
    (∃ s : State, s.service ≠ .off ∧ s.boot.decided = true ∧ s.boot.warmClass = false ∧ s.boot.anchorInit = false) :=
  ⟨⟨State.reset, by decide +kernel⟩,
    ⟨{ boot { up.boot with phase := .sensing } with pins := { up.pins with sns := 0 } }, by decide +kernel⟩,
    ⟨burning, 8, 0, [], by decide +kernel⟩,
    ⟨burning, 8, 0, [], by decide +kernel⟩,
    ⟨boot { up.boot with phase := .husWait }, by decide +kernel⟩,
    ⟨boot { up.boot with phase := .wiping }, by decide +kernel⟩,
    ⟨boot { up.boot with anchorInit := false }, by decide +kernel⟩⟩

theorem witness_BootImagesTakeEffect :
    (∃ (s : State) (mfw : Digest) (svn mib : Nat), s.boot.phase = .snowdrop ∧ s.boot.anchorInit = true ∧ s.boot.breached = false ∧
      s.pins.chipRstReq = false ∧ s.key.rngReady = true) ∧
    (∃ s : State, s.boot.phase = .tolaro ∧ s.boot.breached = false ∧ s.pins.chipRstReq = false ∧ s.boot.pwrOff = false) ∧
    (∃ (s : State) (p : Nat) (r : Rejoin), s.runs = true ∧ s.pins.chipRstReq = false ∧ s.boot.warmClass = false ∧ (s.boot.phase = .tolaro ∨
      s.boot.phase = .ready) ∧ s.pst p = 0 ∧ p < 16 ∧ s.key.rngReady = true ∧ s.record p = some r ∧ (s.recordEntries r).isSome = true) :=
  ⟨⟨boot { up.boot with phase := .snowdrop }, 1, 2, 128, by decide +kernel⟩,
    ⟨tolaro, by decide +kernel⟩,
    ⟨recorded, 2, rj, by decide +kernel⟩⟩

theorem witness_HandshakesAreFollowed :
    (∃ (s : State) (q : Nat), q < 16 ∧ s.service ≠ .off ∧ bit s.pins.pfenceReq q = true ∧ s.pfenceWant q = true) ∧
    (∃ (s : State) (q : Nat), q < 16 ∧ s.service ≠ .off ∧ bit s.pins.pfenceReq q = true ∧ s.pfenceWant q = false) ∧
    (∃ (s : State) (q : Nat), q < 16 ∧ s.service ≠ .off ∧ s.pfenceWant q = true) ∧
    (∃ (s : State) (e d q : Nat) (ps : List Pend) (f : Bool), e < 32 ∧ s.service ≠ .off ∧ bit s.pins.engReq e = true ∧ s.engStep e = some (.engine
      d q false ps f)) ∧
    (∃ (s : State) (e d q : Nat) (ps : List Pend) (f : Bool), e < 32 ∧ s.service ≠ .off ∧ s.engStep e = some (.engine d q true ps f)) ∧
    (∃ (s : State) (e : Nat), e < 32 ∧ s.service ≠ .off ∧ s.engStep e = none) ∧
    (∃ s : State, s.service ≠ .off ∧ s.boot.phase = .ready) ∧
    (∃ s : State, (s.service = .off ∨ s.boot.phase ≠ .ready)) ∧
    (∃ s : State, s.service ≠ .off ∧ s.dt.stops.any (fun x => x.2.active) = true) ∧
    (∃ (s : State) (p : Nat), s.service ≠ .off ∧ s.rst.steps.contains (.partition p) = true) ∧
    (∃ s : State, s.service ≠ .off) :=
  ⟨⟨fenced (scrubbing 1 []) 2, 1, by decide +kernel⟩,
    ⟨fenced busy 2, 1, by decide +kernel⟩,
    ⟨scrubbing 1 [], 1, by decide +kernel⟩,
    ⟨engined (stepping (.engine 2 1 false [] true)) 4, 2, 2, 1, [], true, by decide +kernel⟩,
    ⟨stepping (.engine 2 1 true [] true), 2, 2, 1, [], true, by decide +kernel⟩,
    ⟨stopped, by decide +kernel⟩,
    ⟨busy, by decide +kernel⟩,
    ⟨off, by decide +kernel⟩,
    ⟨stopped, by decide +kernel⟩,
    ⟨stepping (.partition 1), 1, by decide +kernel⟩,
    ⟨busy, by decide +kernel⟩⟩

theorem witness_ScrubStepsFollow :
    (∃ (s : State) (p : Nat), s.runs = true ∧ (s.part p).st = 5 ∧ (s.part p).scrub = 1) ∧
    (∃ (s : State) (p : Nat), s.runs = true ∧ (s.part p).st = 5 ∧ (s.part p).scrub = 2 ∧ ((s.part p).zeroFill = false ∨ s.params.profile = .s)) ∧
    (∃ (s : State) (p z : Nat), s.runs = true ∧ (s.part p).st = 5 ∧ (s.part p).scrub = 2 ∧ (s.part p).zeroFill = true ∧ s.params.profile ≠ .s ∧
      s.key.rngReady = true ∧ (s.scrubAnchors p).takeSlot p = some z) ∧
    (∃ (s : State) (p z : Nat), s.runs = true ∧ (s.part p).st = 5 ∧ (s.part p).scrub = 3 ∧ (s.part p).zero = [] ∧ (s.part p).zslot = some z) ∧
    (∃ (s : State) (p : Nat), s.runs = true ∧ (s.part p).st = 5 ∧ (s.part p).scrub = 4) ∧
    (∃ (s : State) (p e z : Nat), s.runs = true ∧ (s.part p).st = 5 ∧ (s.part p).scrub = 3 ∧ (s.part p).zero.contains e = true ∧ (s.part p).zslot =
      some z) ∧
    (∃ (s : State) (c : Nat), ((s.ctxResetEnd c).ctx c).st = 3 ∧ (s.ctxResetEnd c).drained c = true) :=
  ⟨⟨scrubbing 1 [], 1, by decide +kernel⟩,
    ⟨scrubbing 2 [], 1, by decide +kernel⟩,
    ⟨zeroing 2 [], 1, 128,
      by exact ⟨by decide +kernel, by decide +kernel, by decide +kernel, by decide +kernel, by decide +kernel, by decide +kernel, by decide +kernel⟩⟩,
    ⟨zeroing 3 [], 1, 140, by decide +kernel⟩,
    ⟨zeroing 4 [], 1, by decide +kernel⟩,
    ⟨zeroing 3 [0], 1, 0, 140, by decide +kernel⟩,
    ⟨tearing, 5, by decide +kernel⟩⟩

theorem witness_DomainTimeEventsTakeEffect :
    (∃ (s : State) (rq : Rq) (gm bk : Bool), s.PortOpen rq) ∧
    (∃ (s : State) (rq : Rq), s.PortOpen rq) ∧
    (∃ s : State, s.dt.st = 2 ∧ s.dt.slave ≠ 31) ∧
    (∃ s : State, s.dt.st = 3) ∧
    (∃ s : State, s.dt.st = 3) ∧
    (∃ s : State, s.dt.st ≠ 0 ∧ bit (s.reg rDtCtrl) 2 = true ∧ bit (s.reg rDtCtrl) 1 = false ∧ s.followable = none) :=
  ⟨⟨busy, ⟨false, 0, 0⟩, true, false, by unfold State.PortOpen; decide +kernel⟩,
    ⟨busy, ⟨false, 0, 0⟩, by unfold State.PortOpen; decide +kernel⟩,
    ⟨slave, by decide +kernel⟩,
    ⟨backup, by decide +kernel⟩,
    ⟨backup, by decide +kernel⟩,
    ⟨backup, by decide +kernel⟩⟩

theorem witness_TimeStampsAndMessagesAreTaken :
    (∃ (s : State) (k label : Nat) (i lat : Int) (rest : List (Nat × Option Int)), (s.ptp k).txMarks = (label, some i) :: rest) ∧
    (∃ (s : State) (k : Nat) (m : Nat × Option Int) (rest : List (Nat × Option Int)), (s.ptp k).txMarks = m :: rest) ∧
    (∃ (s t : State) (h : RxHdr) (m : PtpKind) (adj : Int), (h.cover = true ∨ h.event = ptpEvent m) ∧ s.Receives h 0x13 0 t ∧ m ≠ .other ∧ t.dt.st
      ≠ 0 ∧ t.fld (rDtPortCfg h.port) 1 0 ≠ 0) ∧
    (∃ (s t : State) (h : RxHdr) (m : PtpKind) (adj : Int) (d x si : Nat), (h.cover = true ∨ h.event = ptpEvent m) ∧ s.Receives h 0x13 si t ∧ (si ≠
      0 ∨ d ≠ 0 ∨ x ≠ 0 ∨ m = .other)) :=
  ⟨⟨marked, 0, 3, 4, 0, [], by decide +kernel⟩,
    ⟨marked, 0, (3, some 4), [], by decide +kernel⟩,
    ⟨linked, _, rx 0x13 0, .followUp 1 2 3, 0,
      by exact ⟨by decide +kernel, receives (by decide +kernel) (by decide +kernel), by decide +kernel, by decide +kernel, by decide +kernel⟩⟩,
    ⟨linked, _, rx 0x13 21, .other, 0, 0, 0, 2, by exact ⟨by decide +kernel, receives (by decide +kernel) (by decide +kernel), by decide +kernel⟩⟩⟩

theorem witness_MeasurementsExtendUntilLock :
    (∃ (s : State) (i : Nat) (image : List Byte), s.service ≠ .off ∧ s.att.measLock = false) ∧
    (∃ (s : State) (i : Nat) (image : List Byte), s.service ≠ .off ∧ s.att.measLock = true) ∧
    (∃ s : State, s.service ≠ .off) ∧
    (∃ s : State, s.service ≠ .off ∧ s.att.measLock = true) :=
  ⟨⟨busy, 15, [1], by decide +kernel⟩,
    ⟨mlocked, 15, [1], by decide +kernel⟩,
    ⟨busy, by decide +kernel⟩,
    ⟨mlocked, by decide +kernel⟩⟩

theorem witness_ManagementBusAnswers :
    (∃ (s : State) (a : Nat), s.service ≠ .off) ∧
    (∃ s : State, s.service ≠ .off ∧ s.att.hotJoin = true) ∧
    (∃ (s : State) (w : Bool) (n : Nat), s.busOn = true ∧ 64 ≤ n ∧ n ≤ 256) ∧
    (∃ (s : State) (w : Bool) (n : Nat), (n < 64 ∨ 256 < n)) ∧
    (∃ (s : State) (e f : Nat), s.busOn = true ∧ 8 ≤ e ∧ e < 255) ∧
    (∃ (s : State) (e f : Nat), s.busOn = true ∧ (e < 8 ∨ 255 ≤ e)) ∧
    (∃ s : State, s.busOn = true) ∧
    (∃ s : State, s.busOn = true) ∧
    (∃ s : State, s.busOn = true) ∧
    (∃ s : State, s.busOn = true) :=
  ⟨⟨busy, 9, by decide +kernel⟩,
    ⟨busy, by decide +kernel⟩,
    ⟨bus, true, 256, by decide +kernel⟩,
    ⟨bus, true, 63, by decide +kernel⟩,
    ⟨bus, 8, 9, by decide +kernel⟩,
    ⟨bus, 255, 9, by decide +kernel⟩,
    ⟨bus, by decide +kernel⟩,
    ⟨bus, by decide +kernel⟩,
    ⟨bus, by decide +kernel⟩,
    ⟨bus, by decide +kernel⟩⟩

theorem witness_ScheduledActionsFire :
    (∃ (s t : State) (i : Nat), (s.sched i).st = 1 ∧ s.isDue (s.sched i) = true ∧ t = each (s.dueBefore i) State.fireDue s ∧ t.sched i = s.sched i
      ∧ t.isDue (s.sched i) = true) ∧
    (∃ (s : State) (i : Nat), ((s.sched i).st ≠ 1 ∨ s.isDue (s.sched i) = false)) ∧
    (∃ (s : State) (i : Nat), (s.sched i).st = 2 ∧ (s.sched i).action = 5 ∧ (s.stop (s.sched i).part).active = true ∧ (s.stop (s.sched
      i).part).resume = some i ∧ (s.stop (s.sched i).part).complete = true) ∧
    (∃ (s : State) (o : Nat), o < 16 ∧ bit s.dt.pulse o = true) :=
  ⟨⟨due 8, _, 0, by exact ⟨by decide +kernel, by decide +kernel, rfl, by decide +kernel, by decide +kernel⟩⟩,
    ⟨busy, 0, by decide +kernel⟩,
    ⟨stopped, 0, by decide +kernel⟩,
    ⟨{ busy with dt := { busy.dt with pulse := 0x8000 } }, 15, by decide +kernel⟩⟩

theorem witness_DomainScheduleFramesTakeEffect :
    (∃ (s : State) (k p : Nat), (s.stop p).active = true ∧ (s.stop p).sent.contains k = false ∧ (s.sess k (1 + p)).st = 3 ∧ (s.port k).txq = []) ∧
    (∃ (s t : State) (h : RxHdr) (o si : Nat) (id : Word), s.Receives h 0x30 si t) ∧
    (∃ (s t : State) (h : RxHdr) (e : SchedReq) (o si : Nat), s.Receives h 0x31 si t) ∧
    (∃ (s t : State) (h : RxHdr) (o si : Nat) (id : Word), s.Receives h 0x32 si t) :=
  ⟨⟨{ linked with dt := stopped.dt }, 0, 1, by decide +kernel⟩,
    ⟨linked, (linked.rxAccept (rx 0x30 21) 0x30).1, rx 0x30 21, 7, 2, 5, by exact receives (by decide +kernel) (by decide +kernel)⟩,
    ⟨linked, (linked.rxAccept (rx 0x31 21) 0x31).1, rx 0x31 21, ⟨0, 0, 8, false, false, true, 7, 0⟩, 7, 2,
      by exact receives (by decide +kernel) (by decide +kernel)⟩,
    ⟨linked, (linked.rxAccept (rx 0x32 21) 0x32).1, rx 0x32 21, 7, 2, 5, by exact receives (by decide +kernel) (by decide +kernel)⟩⟩

theorem witness_KeyEnginesProceed :
    (∃ s : State, s.service ≠ .off) ∧
    (∃ s : State, s.service ≠ .off) ∧
    (∃ s : State, s.service ≠ .off ∧ s.key.failRun < 15) ∧
    (∃ s : State, s.service ≠ .off ∧ s.key.failRun = 15 ∧ s.key.rngFailed = false) ∧
    (∃ s : State, s.key.rngReady = true) ∧
    (∃ (s : State) (n : Nat), (s.slot n).st = 2 ∧ s.slotBusy n = false ∧ s.boot.phase = .ready) ∧
    (∃ (s : State) (n : Nat), (s.slot n).st = 3 ∧ s.anchorNames n = false) ∧
    (∃ (s : State) (a b c : Nat) (d : Deriv), (s.key.deriv.find? fun d => decide (d.tag = { slot := a, obj := b, gen := c })) = some d ∧ d.stale =
      false ∧ (s.slot a).st = 1) ∧
    (∃ (s : State) (m : CceMsg) (rest : List CceMsg) (p : Pend) (out : List Byte), s.key.cce = m :: rest ∧ m.p = some p ∧ ((m.mode ≠ 1 ∨ m.iv.toNat
      % 2 ^ 32 + (m.msg.length + 15) / 16 ≤ 2 ^ 32)) ∧ cceRun ((s.slot m.slot).value.setWidth 256) m = some out) ∧
    (∃ (s : State) (j : PkeJob) (rest : List PkeJob) (n : Nat) (label msg body : List Byte) (p : Pend), s.key.pke = j :: rest ∧ j.ops =
      [.mldsaSign] ∧ j.sign = some (n, label, msg) ∧ (s.slot n).st = 1 ∧ j.ends = .attest p body ∧ s.key.rngReady = true) ∧
    (∃ (s : State) (j : PkeJob) (rest : List PkeJob) (n : Nat) (label msg : List Byte) (op : PkeOp) (ops : List PkeOp), s.key.pke = j :: rest ∧
      j.ops = .ecSign :: op :: ops ∧ j.sign = some (n, label, msg) ∧ s.key.rngReady = true) ∧
    (∃ (s : State) (j : PkeJob) (rest : List PkeJob), s.key.pke = j :: rest ∧ j.ops.head? = some .mldsaSign) :=
  ⟨⟨busy, by decide +kernel⟩,
    ⟨busy, by decide +kernel⟩,
    ⟨busy, by decide +kernel⟩,
    ⟨failing, by decide +kernel⟩,
    ⟨busy, by decide +kernel⟩,
    ⟨busy, 133, by decide +kernel⟩,
    ⟨busy, 134, by decide +kernel⟩,
    ⟨engines, 130, 2, 0, { tag := ⟨130, 2, 0⟩, part := 1, stale := false }, by decide +kernel⟩,
    ⟨engines, cmsg, [], pend, cfbRun ((engines.slot 131).value.setWidth 256) false 0 (blocks16 [7]), by exact ⟨rfl, rfl, by decide +kernel, rfl⟩⟩,
    ⟨engines, job, [], 1, [], [], [], pend, by exact ⟨rfl, rfl, rfl, by decide +kernel, rfl, by decide +kernel⟩⟩,
    ⟨signing, eccJob, [], 1, [], [], .mldsaSign, [], by exact ⟨rfl, rfl, rfl, by decide +kernel⟩⟩,
    ⟨engines, job, [], by decide +kernel⟩⟩

theorem witness_ResealSweepTakesRegions :
    ∃ (s t : State) (a : Anchor) (p n e : Nat) (rest : List Nat) (got : Swept), ((s.regionsOn p (s.reseal p).old).filter fun e => decide
      (s.groupOfEntry e = some n)) = e :: rest ∧ (s.reseal p).active = true ∧ s.runs = true ∧ s.pst p ≠ 5 ∧ s.regionBusy e = false :=
  ⟨resealing, busy, Anchor.unowned, 1, 0, 0, [1, 2, 3], ⟨[], []⟩, by decide +kernel⟩

theorem witness_MemoryRequestsTakeEffect :
    (∃ (s t : State) (q : MnReq) (flips : Nat) (ecc : Bool) (p : Option Nat) (st : Status), s.mnThere q = true ∧ (s.upset q.addr q.group
      flips).mnGate q (decide (q.op = 0) && lenOk q) = (t, .refuse p st)) ∧
    (∃ (s t : State) (q : MnReq) (flips : Nat) (ecc : Bool) (p : Option Nat), s.mnThere q = true ∧ (s.upset q.addr q.group flips).mnGate q (decide
      (q.op = 0) && lenOk q) = (t, .pass p)) ∧
    (∃ (s t : State) (q : MnReq) (flips : Nat) (ecc : Bool) (p e sect slot : Nat) (plot : PlotRes), s.mnThere q = true ∧ (s.upset q.addr q.group
      flips).mnGate q (decide (q.op = 0) && lenOk q) = (t, .prot p e sect slot plot)) ∧
    (∃ (s t : State) (q : MnReq) (data : Sector) (be : BitVec 256) (flips : Nat) (ecc : Bool) (p : Option Nat), s.mnThere q = true ∧ (s.upset
      q.addr q.group flips).mnGate q (decide (q.op = 1) && lenOk q && decide (be.toNat < 2 ^ (64 * (q.len + 1)))) = (t, .pass p)) ∧
    (∃ (s t : State) (q : MnReq) (data : Sector) (be : BitVec 256) (flips : Nat) (ecc : Bool) (p e sect slot : Nat) (plot : PlotRes), s.mnThere q =
      true ∧ (s.upset q.addr q.group flips).mnGate q (decide (q.op = 1) && lenOk q && decide (be.toNat < 2 ^ (64 * (q.len + 1)))) = (t, .prot p e
      sect slot plot)) ∧
    (∃ (s t : State) (q : MnReq) (data : Beat) (be : BitVec 128) (flips mism p e sect slot : Nat) (plot : PlotRes), s.mnThere q = true ∧ (s.upset
      q.addr q.group flips).mnGate q (scalarOk q.op q.attr && decide (q.len = 0) && lenOk q && scalarBe (sizeBytes (bits q.attr 1 0)) be) = (t,
      .prot p e sect slot plot)) ∧
    (∃ (s t : State) (q : MnReq) (data : Sector) (be : BitVec 256) (flips mism p e sect slot : Nat) (plot : PlotRes), s.mnThere q = true ∧ bit
      q.attr 2 = false ∧ (s.upset q.addr q.group flips).mnGate q (vectorOk q.op q.attr && decide (q.addr % 256 = 0) && decide (q.len + 1 =
      ((srcSize q.op (bits q.attr 1 0)).getD 0 + 63) / 64) && enablesOk q.op (bits q.attr 1 0) be) = (t, .prot p e sect slot plot)) ∧
    (∃ (s t : State) (q : MnReq) (data : Sector) (be : BitVec 256) (flips mism r p e sect slot : Nat) (plot : PlotRes), s.mnThere q = true ∧ bit
      q.attr 2 = true ∧ accFloat (bits q.attr 1 0) = true ∧ s.mnPart q = some r ∧ (s.roundSeed r).isSome = true ∧ (s.upset q.addr q.group
      flips).mnGate q (vectorOk q.op q.attr && decide (q.addr % 256 = 0) && decide (q.len + 1 = ((srcSize q.op (bits q.attr 1 0)).getD 0 + 63) /
      64) && enablesOk q.op (bits q.attr 1 0) be) = (t, .prot p e sect slot plot)) :=
  ⟨⟨busy, _, mn 0 0 0x800000 0, 0, false, some 1, .badParam, by exact ⟨by decide +kernel, gate (by decide +kernel)⟩⟩,
    ⟨busy, _, mn 0 3 0x100000000 0, 0, false, some 1, by exact ⟨by decide +kernel, gate (by decide +kernel)⟩⟩,
    ⟨busy, _, mn 0 3 0x10000 0, 0, false, 1, 0, 256, 130, .waiting, by exact ⟨by decide +kernel, gate (by decide +kernel)⟩⟩,
    ⟨busy, _, mn 1 0 0x100000000 0, 0, 1, 0, false, some 1, by exact ⟨by decide +kernel, gate (by decide +kernel)⟩⟩,
    ⟨busy, _, mn 1 0 0x10000 0, 0, 1, 0, false, 1, 0, 256, 130, .waiting, by exact ⟨by decide +kernel, gate (by decide +kernel)⟩⟩,
    ⟨busy, _, mn 0x10 0 0x10000 1, 0, 0xFF, 0, 0, 1, 0, 256, 130, .waiting, by exact ⟨by decide +kernel, gate (by decide +kernel)⟩⟩,
    ⟨busy, _, mn 0x20 3 0x10000 0, 0, 0, 0, 0, 1, 0, 256, 130, .waiting, by exact ⟨by decide +kernel, by decide +kernel, gate (by decide +kernel)⟩⟩,
    ⟨seeded, _, mn 0x20 3 0x10000 4, 0, 0, 0, 0, 1, 1, 0, 256, 130, .waiting,
      by exact ⟨by decide +kernel, by decide +kernel, by decide +kernel, by decide +kernel, by decide +kernel, gate (by decide +kernel)⟩⟩⟩

theorem witness_MemorySideProceeds :
    (∃ (s : State) (n port tag : Nat) (d : Beat) (ue : Bool) (r : MsRd) (q : MnReq), s.service ≠ .off ∧ tag < 1024 ∧ (s.sg.rds.find? fun x =>
      decide (x.group = n) && decide (x.port = port) && decide (x.tag = tag) && decide (tag < 1024)) = some r ∧ r.what = .pass q) ∧
    (∃ (s : State) (n port tag : Nat) (w : MsWr) (q : MnReq), s.service ≠ .off ∧ tag < 1024 ∧ (s.sg.wr.find? fun x => decide (x.group = n) &&
      decide (x.port = port) && decide (x.tag = tag) && decide (tag < 1024)) = some w ∧ w.what = .pass q) ∧
    (∃ (s : State) (i : Nat) (a : Acc), s.acc i = some a ∧ s.runs = true ∧ s.ready a = true ∧ (∀ b ∈ s.sg.accs, ∀ x, b.serve ≠ .plot i x)) ∧
    (∃ (s : State) (i : Nat) (a : Acc), s.acc i = some a ∧ a.waiting = true ∧ a.kind.locks = true ∧ s.mayStart a = true) ∧
    (∃ (s : State) (l : LineId) (x : Line), s.line l = some x ∧ s.runs = true ∧ ¬(x.way = 16 ∧ x.st = .clean ∧ s.lineUsed l = false) ∧ s.leaves x =
      true ∧ (l.kind = .tag ∨ l.kind = .mac)) ∧
    (∃ (s t u : State) (l : LineId) (x : Line) (a : Anchor) (ms : List LineId), s.line l = some x ∧ s.runs = true ∧ ¬(x.way = 16 ∧ x.st = .clean ∧
      s.lineUsed l = false) ∧ s.leaves x = true ∧ l.kind ≠ .tag ∧ l.kind ≠ .mac ∧ treeLevel l.kind = s.topLevel ∧ s.useRegion l.entry = (t, a) ∧
      a.st = 1 ∧ treeLevel l.kind = t.topLevel ∧ t.needLine a.part (t.macLine l) = (u, ms) ∧ (ms.any fun m => (u.line m).any fun y => !y.here) =
      false ∧ treeLevel l.kind = u.topLevel) ∧
    (∃ (s t : State) (e flips : Nat) (a : Anchor) (bad : Bool), e < 2097152 ∧ s.runs = true ∧ (s.setAnchor e
      { s.anchor e with err := (s.anchor e).err + flips }).useAnchor e = (t, a, bad)) ∧
    (∃ (s : State) (e p : Nat), (s.anchor e).restoring = true ∧ (s.held.find? fun p => (s.part p).ranges.any fun r => s.regionIn e r.1 r.2) = some
      p) ∧
    (∃ (s : State) (e : Nat), (s.anchor e).restoring = true ∧ (s.held.find? fun p => (s.part p).ranges.any fun r => s.regionIn e r.1 r.2) = none) ∧
    (∃ (s : State) (n lbn : Nat) (m : MEntry), s.entry n lbn = some m ∧ s.runs = true ∧ m.dirty = true ∧ m.ready = true ∧ m.ops = [] ∧
      (s.sg.accs.any fun a => decide (a.kind = .back) && decide (a.lbn = lbn)) = false) ∧
    (∃ (s : State) (u : Nat), s.unitHere u = true ∧ (s.gunit u).awake = true ∧ (s.gunit u).demand = none ∧ s.neverGates u = false ∧ s.fld rGlbWake
      15 8 ≠ 0 ∧ s.share.winGate + unitWeight u ≤ s.wakeStep) ∧
    (∃ (s : State) (u : Nat), s.unitHere u = true ∧ (s.gunit u).awake = true ∧ s.gatesAll = true ∧ s.share.winGate + unitWeight u ≤ s.wakeStep) ∧
    (∃ s : State, s.gatesAll = false) :=
  ⟨⟨onSg { busy.sg with rds := [rd] }, 0, 0, 0, 5, false, rd, qq, by decide +kernel⟩,
    ⟨onSg { busy.sg with wr := [wr] }, 0, 0, 0, wr, qq, by decide +kernel⟩,
    ⟨onSg { busy.sg with accs := [acc .read false] }, 0, acc .read false,
      by exact ⟨by decide +kernel, by decide +kernel, by decide +kernel, fun b h x => by rw [List.mem_singleton.mp h]; exact nofun⟩⟩,
    ⟨onSg { busy.sg with accs := [acc .partW true] }, 0, acc .partW true, by decide +kernel⟩,
    ⟨onSg { busy.sg with mdc := [tagLine] }, tagLine.id, tagLine, by decide +kernel⟩,
    ⟨noded, _, _, topNode.id, topNode, _, [],
      by exact ⟨by decide +kernel, by decide +kernel, by decide +kernel, by decide +kernel, by decide +kernel, by decide +kernel, by decide +kernel, pair_is rfl, by decide +kernel, by decide +kernel, pair_is (by decide +kernel), by decide +kernel, by decide +kernel⟩⟩,
    ⟨busy, _, 2097151, 0, _, _, by exact ⟨by decide +kernel, by decide +kernel, pair_is rfl⟩⟩,
    ⟨ranged, 0, 1, by decide +kernel⟩,
    ⟨onSg { busy.sg with anchors := [(0, restoring)] }, 0, by decide +kernel⟩,
    ⟨onSg { busy.sg with merge := [mentry] }, 0, 0, mentry, by decide +kernel⟩,
    ⟨awake, 108, by decide +kernel⟩,
    ⟨{ awake with boot := { awake.boot with breached := true } }, 108, by decide +kernel⟩,
    ⟨busy, by decide +kernel⟩⟩

theorem witness_RemoteOperationsProceed :
    (∃ (s t : State) (h : RxHdr) (r : RaReq) (m si : Nat), s.Receives h 0x40 si t) ∧
    (∃ (s t : State) (h : RxHdr) (r : RaReq) (si : Nat), s.Receives h 0x42 si t) ∧
    (∃ (s t : State) (h : RxHdr) (r : RaRep) (si : Nat), s.Receives h (if r.query then 0x43 else 0x41) si t ∧ r.status ≠ .breach ∧ r.origStatus ≠
      .breach) ∧
    (∃ (s t : State) (h : RxHdr) (r : RwReq) (si : Nat), s.Receives h (if r.write then 0x22 else 0x20) si t) ∧
    (∃ (s t u v : State) (h : RxHdr) (r : RaReq) (m p a g e sect slot : Nat) (plot : PlotRes), s.Receives h 0x40 (p + 1) t ∧ r.dst = t.memberOf p ∧
      t.params.profile = .m ∧ t.memoRule p (t.domainOf p) r.src r.txid r.issue = none ∧ t.atomicRuns (t.domainOf p) r = false ∧ t.atomicOk p r =
      true ∧ t.remotePlace p r.obj r.gen r.offset (if r.op < 0x20 then sizeBytes (bits r.attr 1 0) else 256) = (u, .ok (a, g, e, sect, slot)) ∧ bit
      u.sg.saStop g = false ∧ u.plotLook p a = (v, plot)) ∧
    (∃ (s t : State) (h : RxHdr) (r : RaReq) (m p oc ex : Nat) (st : Status) (res : BitVec 128), s.Receives h 0x40 (p + 1) t ∧ r.dst = t.memberOf p
      ∧ t.params.profile = .m ∧ t.memoRule p (t.domainOf p) r.src r.txid r.issue = some (st, oc, ex, res)) ∧
    (∃ (s t : State) (h : RxHdr) (r : RaReq) (p : Nat) (m : Memo), s.Receives h 0x42 (p + 1) t ∧ r.dst = t.memberOf p ∧ t.params.profile = .m ∧
      t.memoOf (t.domainOf p) r.src r.txid = some m ∧ m.executed = true) ∧
    (∃ (s t : State) (h : RxHdr) (r : RaReq) (p : Nat), s.Receives h 0x42 (p + 1) t ∧ r.dst = t.memberOf p ∧ t.params.profile = .m ∧ t.memoOf
      (t.domainOf p) r.src r.txid = none ∧ t.elapsed p r.issue ≤ 3500000 ∧ t.memoUsed < 262144) ∧
    (∃ (s t : State) (h : RxHdr) (r : RaRep) (p : Nat) (o : RemOp), s.Receives h (if r.query then 0x43 else 0x41) (p + 1) t ∧ r.status ≠ .breach ∧
      r.origStatus ≠ .breach ∧ r.dst = t.memberOf p ∧ t.findOp p r.txid r.query = some o ∧ o.dst = r.src ∧ (r.query = true ∨ r.status ≠
      .outOfSlots)) ∧
    (∃ (s t : State) (h : RxHdr) (r : RaRep) (si : Nat), s.Receives h (if r.query then 0x43 else 0x41) si t ∧ r.status = .breach) ∧
    (∃ (s t u : State) (h : RxHdr) (r : RwReq) (p : Nat) (x : Nat × Nat × Nat × Nat × Nat), s.Receives h 0x22 (p + 1) t ∧ r.write = true ∧ r.dst =
      t.memberOf p ∧ t.params.profile = .m ∧ t.memoRule p (t.domainOf p) r.src r.txid r.issue = none ∧ (t.rem.serves.any fun y => decide (y.domain
      = t.domainOf p) && decide (y.r.src = r.src) && decide (y.r.txid = r.txid)) = false ∧ r.offset % 64 = 0 ∧ r.length % 64 = 0 ∧ r.length ≤ 4048
      ∧ 0 < r.length ∧ r.data.length = r.length ∧ t.remotePlace p r.obj r.gen r.offset r.length = (u, .ok x)) ∧
    (∃ (s t u : State) (h : RxHdr) (r : RwReq) (p : Nat) (x : Nat × Nat × Nat × Nat × Nat), s.Receives h 0x20 (p + 1) t ∧ r.write = false ∧ r.dst =
      t.memberOf p ∧ t.params.profile = .m ∧ t.pst p ≠ 4 ∧ t.pst p ≠ 5 ∧ r.offset % 64 = 0 ∧ r.length % 64 = 0 ∧ r.length ≤ 4048 ∧ 0 < r.length ∧
      r.data = [] ∧ t.remotePlace p r.obj r.gen r.offset r.length = (u, .ok x)) ∧
    (∃ (s : State) (p : Nat) (x : Word) (o : RemOp), s.findOp p x false = some o ∧ s.elapsed p o.issue < 3000000 ∧ s.stopped p = false) ∧
    (∃ (s : State) (p : Nat) (x : Word) (o : RemOp), s.findOp p x false = some o ∧ s.stopped p = false) ∧
    (∃ (s : State) (p : Nat) (x : Word) (o : RemOp), s.findOp p x true = some o ∧ s.stopped p = false ∧ 10 ≤ o.sent) ∧
    (∃ (s : State) (p : Nat) (x : Word) (o : RemOp), s.findOp p x true = some o ∧ s.stopped p = false ∧ o.sent < 10) ∧
    (∃ (s : State) (d : DWord) (src : Nat) (x : Word), (s.partOfDomain d).any s.stopped = false) :=
  ⟨⟨linked, (linked.rxAccept (rx 0x40 21) 0x40).1, rx 0x40 21, raReq, 0, 2, by exact receives (by decide +kernel) (by decide +kernel)⟩,
    ⟨linked, (linked.rxAccept (rx 0x42 21) 0x42).1, rx 0x42 21, raReq, 2, by exact receives (by decide +kernel) (by decide +kernel)⟩,
    ⟨linked, _, rx 0x41 21, raRep, 2,
      by exact ⟨receives (kind := 0x41) (by decide +kernel) (by decide +kernel), by decide +kernel, by decide +kernel⟩⟩,
    ⟨linked, (linked.rxAccept (rx 0x20 21) 0x20).1, rx 0x20 21, rwReq, 2, by exact receives (by decide +kernel) (by decide +kernel)⟩,
    ⟨mem, _, _, _, rx 0x40 21, raM, 0, 1, 65536, 0, 0, 256, 130, .waiting,
      by exact ⟨receives (by decide +kernel) (by decide +kernel), by decide +kernel, by decide +kernel, by decide +kernel, by decide +kernel, by decide +kernel, ok_is (by decide +kernel), by decide +kernel, pair_is (by decide +kernel)⟩⟩,
    ⟨memoed, _, rx 0x40 21, raM, 0, 1, 1, 0, .done, 0,
      by exact ⟨receives (by decide +kernel) (by decide +kernel), by decide +kernel, by decide +kernel, by decide +kernel⟩⟩,
    ⟨memoed, _, rx 0x42 21, raM, 1, memo,
      by exact ⟨receives (by decide +kernel) (by decide +kernel), by decide +kernel, by decide +kernel, by decide +kernel, by decide +kernel⟩⟩,
    ⟨mem, _, rx 0x42 21, raM, 1,
      by exact ⟨receives (by decide +kernel) (by decide +kernel), by decide +kernel, by decide +kernel, by decide +kernel, by decide +kernel, by decide +kernel⟩⟩,
    ⟨remote false 1, _, rx 0x41 21, raBack, 1, op false 1,
      by exact ⟨receives (kind := 0x41) (by decide +kernel) (by decide +kernel), by decide +kernel, by decide +kernel, by decide +kernel, by decide +kernel, by decide +kernel, by decide +kernel⟩⟩,
    ⟨linked, _, rx 0x41 21, { raRep with status := .breach }, 2, by exact ⟨receives (kind := 0x41) (by decide +kernel) (by decide +kernel), rfl⟩⟩,
    ⟨mem, _, _, rx 0x22 21, rwM true, 1, (65536, 0, 0, 256, 130),
      by exact ⟨receives (by decide +kernel) (by decide +kernel), by decide +kernel, by decide +kernel, by decide +kernel, by decide +kernel, by decide +kernel, by decide +kernel, by decide +kernel, by decide +kernel, by decide +kernel, by decide +kernel, ok_is (by decide +kernel)⟩⟩,
    ⟨mem, _, _, rx 0x20 21, rwM false, 1, (65536, 0, 0, 256, 130),
      by exact ⟨receives (by decide +kernel) (by decide +kernel), by decide +kernel, by decide +kernel, by decide +kernel, by decide +kernel, by decide +kernel, by decide +kernel, by decide +kernel, by decide +kernel, by decide +kernel, by decide +kernel, ok_is (by decide +kernel)⟩⟩,
    ⟨remote false 1, 1, 7, op false 1, by decide +kernel⟩,
    ⟨remote false 1, 1, 7, op false 1, by decide +kernel⟩,
    ⟨remote true 10, 1, 7, op true 10, by decide +kernel⟩,
    ⟨remote true 9, 1, 7, op true 9, by decide +kernel⟩,
    ⟨busy, 0x77, 8, 7, by decide +kernel⟩⟩

theorem witness_ReductionsProceed :
    (∃ (s t : State) (h : RxHdr) (src : Nat) (c : Contrib) (es : List Byte) (m si : Nat), s.Receives h 0x50 si t) ∧
    (∃ (s t : State) (h : RxHdr) (c : Contrib) (st : Status) (si : Nat), s.Receives h 0x51 si t ∧ st ≠ .breach) ∧
    (∃ (s t : State) (h : RxHdr) (sw : Nat) (c : Contrib) (st : Status) (d : List Byte) (m : List Nat) (si : Nat), s.Receives h 0x52 si t ∧ st ≠
      .breach) ∧
    (∃ (s t : State) (h : RxHdr) (src : Nat) (c : Contrib) (st : Status) (si : Nat), s.Receives h 0x53 si t ∧ st ≠ .breach) ∧
    (∃ (s t : State) (h : RxHdr) (src p : Nat) (c : Contrib) (es : List Byte) (x : Reduction), s.Receives h 0x50 (p + 1) t ∧ t.params.profile = .s
      ∧ t.pst p ≠ 4 ∧ t.pst p ≠ 5 ∧ contribOk c = true ∧ es.length = c.count * srcBits c.fmt / 8 ∧ t.reduction p c.rid = some x ∧ sameReduction
      x.hdr c = true ∧ x.ledger.contains (c.cidx, c.chunk) = false ∧ x.ended = false) ∧
    (∃ (s t : State) (h : RxHdr) (src p : Nat) (c : Contrib) (es : List Byte), s.Receives h 0x50 (p + 1) t ∧ t.params.profile = .s ∧ t.pst p ≠ 4 ∧
      t.pst p ≠ 5 ∧ contribOk c = true ∧ es.length = c.count * srcBits c.fmt / 8 ∧ t.reduction p c.rid = none ∧ t.poolRoom p c = true) ∧
    (∃ (s t : State) (h : RxHdr) (p : Nat) (c : Contrib) (st : Status) (o : ContribOp), s.Receives h 0x51 (p + 1) t ∧ st ≠ .breach ∧ t.findContrib
      p c.rid c.cidx c.chunk = some o) ∧
    (∃ (s t : State) (h : RxHdr) (sw p : Nat) (c : Contrib) (d : List Byte) (m : List Nat), s.Receives h 0x52 (p + 1) t ∧ t.params.sgCount ≠ 0 ∧
      (t.rem.resLed.find? fun x => decide (x.domain = t.domainOf p) && decide (x.sw = sw) && decide (x.rid = c.rid) && decide (x.chunk = c.chunk))
      = none ∧ t.pst p ≠ 4 ∧ t.pst p ≠ 5 ∧ (t.rem.serves.any fun x => decide (x.domain = t.domainOf p) && (x.res.any fun y => decide (y.1 = sw) &&
      decide (y.2.rid = c.rid) && decide (y.2.chunk = c.chunk))) = false ∧ t.rem.resLed.length + (t.rem.serves.filter fun x => x.res.isSome).length
      < 16384 ∧ contribOk { c with cidx := 0 } = true ∧ d.length = c.count * outBytes c.out) ∧
    (∃ (s t : State) (h : RxHdr) (src p : Nat) (c : Contrib) (st : Status) (x : Reduction), s.Receives h 0x53 (p + 1) t ∧ st ≠ .breach ∧ st ≠
      .outOfSlots ∧ t.reduction p c.rid = some x) ∧
    (∃ (s : State) (p : Nat) (rid : Word) (i ch : Nat) (o : ContribOp), s.findContrib p rid i ch = some o ∧ s.stopped p = false) ∧
    (∃ (s : State) (p : Nat) (rid : Word) (x : Reduction), s.reduction p rid = some x ∧ s.stopped p = false ∧ x.ended = false) ∧
    (∃ (s : State) (p ch : Nat) (rid : Word) (x : Reduction) (y : Nat × List Nat × Status × Nat), s.reduction p rid = some x ∧ (x.sent.find? fun y
      => decide (y.1 = ch)) = some y ∧ s.stopped p = false ∧ s.elapsed p y.2.2.2 < 3000000) ∧
    (∃ (s : State) (p ch : Nat) (rid : Word) (x : Reduction), s.reduction p rid = some x ∧ (x.sent.any fun y => decide (y.1 = ch)) = true ∧
      s.stopped p = false) ∧
    (∃ (s : State) (d : DWord) (sw ch : Nat) (rid : Word), (s.partOfDomain d).any s.stopped = false) :=
  ⟨⟨linked, (linked.rxAccept (rx 0x50 21) 0x50).1, rx 0x50 21, 8, con, [], 0, 2, by exact receives (by decide +kernel) (by decide +kernel)⟩,
    ⟨linked, _, rx 0x51 21, con, .done, 2, by exact ⟨receives (by decide +kernel) (by decide +kernel), by decide +kernel⟩⟩,
    ⟨linked, _, rx 0x52 21, 9, con, .done, [], [], 2, by exact ⟨receives (by decide +kernel) (by decide +kernel), by decide +kernel⟩⟩,
    ⟨linked, _, rx 0x53 21, 8, con, .done, 2, by exact ⟨receives (by decide +kernel) (by decide +kernel), by decide +kernel⟩⟩,
    ⟨switch [red], _, rx 0x50 21, 8, 1, con, List.replicate (64 * srcBits 0x20 / 8) 0, red,
      by exact ⟨receives (by decide +kernel) (by decide +kernel), by decide +kernel, by decide +kernel, by decide +kernel, by decide +kernel, by decide +kernel, by decide +kernel, by decide +kernel, by decide +kernel, by decide +kernel⟩⟩,
    ⟨switch [], _, rx 0x50 21, 8, 1, con, List.replicate (64 * srcBits 0x20 / 8) 0,
      by exact ⟨receives (by decide +kernel) (by decide +kernel), by decide +kernel, by decide +kernel, by decide +kernel, by decide +kernel, by decide +kernel, by decide +kernel, by decide +kernel⟩⟩,
    ⟨remote false 1, _, rx 0x51 21, 1, con, .done, contrib,
      by exact ⟨receives (by decide +kernel) (by decide +kernel), by decide +kernel, by decide +kernel⟩⟩,
    ⟨linked, _, rx 0x52 21, 9, 1, con, List.replicate (64 * outBytes 0) 0, [],
      by exact ⟨receives (by decide +kernel) (by decide +kernel), by decide +kernel, by decide +kernel, by decide +kernel, by decide +kernel, by decide +kernel, by decide +kernel, by decide +kernel, by decide +kernel⟩⟩,
    ⟨remote false 1, _, rx 0x53 21, 8, 1, con, .done, red,
      by exact ⟨receives (by decide +kernel) (by decide +kernel), by decide +kernel, by decide +kernel, by decide +kernel⟩⟩,
    ⟨remote false 1, 1, 5, 0, 0, contrib, by decide +kernel⟩,
    ⟨remote false 1, 1, 5, red, by decide +kernel⟩,
    ⟨remote false 1, 1, 0, 5, red, (0, [8], .done, 0), by decide +kernel⟩,
    ⟨remote false 1, 1, 0, 5, red, by decide +kernel⟩,
    ⟨busy, 0x77, 9, 0, 5, by decide +kernel⟩⟩

theorem witness_LinkSessionsFollowTheirEvents :
    (∃ (s : State) (k si : Nat), (s.sess k si).st = 0 ∧ (s.sess k si).backoff = false ∧ si < 17 ∧ s.canSetup k si = true) ∧
    (∃ (s : State) (k si : Nat), ((s.sess k si).st = 1 ∨ (s.sess k si).st = 2)) ∧
    (∃ (s : State) (k si : Nat), (s.sess k si).backoff = true) ∧
    (∃ (s t : State) (h : RxHdr) (m si : Nat), s.Receives h 0x11 si t) ∧
    (∃ (s t : State) (h : RxHdr) (r m si : Nat), s.Receives h 0x12 si t) ∧
    (∃ (s t : State) (h : RxHdr) (m si : Nat), s.Receives h 0x11 si t ∧ (t.sess h.port si).st = 2 ∧ (t.sess h.port si).peer = m) ∧
    (∃ (s t : State) (h : RxHdr) (r m si : Nat), s.Receives h 0x12 si t ∧ (t.sess h.port si).st = 3) ∧
    (∃ (s : State) (k si : Nat), (s.sess k si).st = 4) ∧
    (∃ (s : State) (rq : Rq) (k : Nat), s.PortOpen rq) ∧
    (∃ (s : State) (k : Nat), k < s.params.fpCount) ∧
    (∃ (s : State) (k : Nat), k < s.params.fpCount) ∧
    (∃ (s : State) (k si : Nat), (s.sess k si).st = 3 ∧ (si = 0 ∨ bit (s.reg (rLnkKa k)) 31 = true)) ∧
    (∃ (s t : State) (h : RxHdr) (d q si : Nat), s.Receives h 0x01 si t) ∧
    (∃ (s : State) (k p : Nat), (s.sess k (p + 1)).st = 3) ∧
    (∃ (s t : State) (h : RxHdr) (r l d si : Nat), s.Receives h 0x34 si t) ∧
    (∃ (s t : State) (h : RxHdr) (op e o i : Nat) (fe : Word) (st : Nat) (os : Word) (si : Nat), s.Receives h 0x33 si t) ∧
    (∃ (s t : State) (h : RxHdr) (r l d p : Nat), s.Receives h 0x34 (p + 1) t ∧ t.lnk.seenLost.contains (p, l, d) = false ∧ r ≠ l) ∧
    (∃ (s t : State) (h : RxHdr) (e o i : Nat) (st : Nat) (os : Word) (p : Nat), s.Receives h 0x33 (p + 1) t ∧ i < t.dfCount p ∧
      t.obju.seenFence.contains (p, o, os) = false ∧ signalCode e = true) :=
  ⟨⟨sess0 Sess.down, 0, 0, by decide +kernel⟩,
    ⟨binding, 0, 0, by decide +kernel⟩,
    ⟨sess0 { Sess.down with backoff := true }, 0, 0, by decide +kernel⟩,
    ⟨linked, (linked.rxAccept (rx 0x11 21) 0x11).1, rx 0x11 21, 9, 2, by exact receives (by decide +kernel) (by decide +kernel)⟩,
    ⟨linked, (linked.rxAccept (rx 0x12 21) 0x12).1, rx 0x12 21, 1, 9, 2, by exact receives (by decide +kernel) (by decide +kernel)⟩,
    ⟨opening, _, rx 0x11 21, 9, 2, by exact ⟨receives (by decide +kernel) (by decide +kernel), by decide +kernel, by decide +kernel⟩⟩,
    ⟨linked, _, rx 0x12 21, 1, 9, 2, by exact ⟨receives (by decide +kernel) (by decide +kernel), by decide +kernel⟩⟩,
    ⟨sess0 { Sess.down with st := 4 }, 0, 0, by decide +kernel⟩,
    ⟨busy, ⟨false, 0, 0⟩, 0, by unfold State.PortOpen; decide +kernel⟩,
    ⟨busy, 17, by decide +kernel⟩,
    ⟨busy, 17, by decide +kernel⟩,
    ⟨linked, 0, 0, by decide +kernel⟩,
    ⟨linked, (linked.rxAccept (rx 0x01 21) 0x01).1, rx 0x01 21, 0, 1, 2, by exact receives (by decide +kernel) (by decide +kernel)⟩,
    ⟨linked, 0, 1, by decide +kernel⟩,
    ⟨linked, (linked.rxAccept (rx 0x34 21) 0x34).1, rx 0x34 21, 8, 9, 0, 2, by exact receives (by decide +kernel) (by decide +kernel)⟩,
    ⟨linked, (linked.rxAccept (rx 0x33 21) 0x33).1, rx 0x33 21, 1, 0, 8, 0, 1, 5, 6, 2, by exact receives (by decide +kernel) (by decide +kernel)⟩,
    ⟨linked, _, rx 0x34 21, 8, 9, 0, 1, by exact ⟨receives (by decide +kernel) (by decide +kernel), by decide +kernel, by decide +kernel⟩⟩,
    ⟨linked, _, rx 0x33 23, 0, 8, 0, 5, 6, 3,
      by exact ⟨receives (by decide +kernel) (by decide +kernel), by decide +kernel, by decide +kernel, by decide +kernel⟩⟩⟩

theorem witness_FramesAreQueuedAndSealed :
    (∃ (s : State) (k : Nat) (f : EgFrame), s.runs = true ∧ k < s.params.fpCount ∧ f.si < 17 ∧ (s.sess k f.si).st = 3 ∧ f.payload.length ≤ 4096 ∧
      (f.si = 0 ∨ (s.holdRoom k f = true ∧ (isRequest f.kind = true → s.pst (f.si - 1) ≠ 4 ∧ s.pst (f.si - 1) ≠ 5)))) ∧
    (∃ (s : State) (k : Nat) (i : EgItem), s.mayPick k = true ∧ s.coverOn k = false ∧ (s.refill k).pick k = some i) ∧
    (∃ (s : State) (k : Nat) (i : EgItem), s.mayPick k = true ∧ s.coverOn k = true ∧ (s.refill k).pick k = some i) ∧
    (∃ (s : State) (k : Nat), s.mayPick k = true ∧ s.coverOn k = true ∧ (s.refill k).pick k = none ∧ (s.sess k (s.port k).coverTurn).st = 3 ∧
      (s.port k).coverTurn = 0) ∧
    (∃ (s : State) (k : Nat), (s.port k).txq ≠ []) ∧
    (∃ (s : State) (k si : Nat), 2 ^ 36 ≤ (s.sess k si).epCnt) ∧
    (∃ (s : State) (k si : Nat), (s.sess k si).epWait = true ∧ (s.sess k si).st = 3) ∧
    (∃ (s t : State) (k si : Nat) (l : List Nat), (s.sess k si).rxNew = true ∧ (s.sess k si).st ≠ 0 ∧ s.nextSecret 2 (s.sess k si).rxEp (s.sess k
      si).slots = (t, l)) ∧
    (∃ (s : State) (k : Nat) (f : BitVec 128), True) ∧
    (∃ (s : State) (k n : Nat), (s.port k).flows.length < 8192 ∧ ((s.port k).q.findIdx? fun i => i.flowWait) = some n) ∧
    (∃ (s : State) (h : RxHdr) (kind : Nat), s.rxAccept h kind = ((s.rxAccept h kind).1, none)) ∧
    (∃ (s t : State) (h : RxHdr) (k si : Nat) (f : EgFrame), s.params.profile = .s ∧ s.Receives h f.kind si t) ∧
    (∃ (s t : State) (h : RxHdr) (k p : Nat) (f : EgFrame), s.params.profile = .s ∧ s.Receives h f.kind (p + 1) t ∧ ((isRequest f.kind = false ∨
      (t.isLost p f.dst = false ∧ t.pst p ≠ 4))) ∧ (t.sess k (p + 1)).st = 3 ∧ k < t.params.fpCount) :=
  ⟨⟨linked, 0, fr 0x40 2, by decide +kernel⟩,
    ⟨queued false 0, 0, item false, by decide +kernel⟩,
    ⟨queued false 0x80000000, 0, item false, by decide +kernel⟩,
    ⟨covering, 0, by decide +kernel⟩,
    ⟨queued false 0, 0, by decide +kernel⟩,
    ⟨sess0 { Sess.down with epCnt := 2 ^ 36 }, 0, 0, by decide +kernel⟩,
    ⟨sess0 { Sess.down with st := 3, epWait := true }, 0, 0, by decide +kernel⟩,
    ⟨sess0 { Sess.down with st := 3, rxNew := true }, _, 0, 0, _, by exact ⟨by decide +kernel, by decide +kernel, pair_is rfl⟩⟩,
    ⟨queued true 0, 0, 0, by decide +kernel⟩,
    ⟨queued true 0, 0, 0, by decide +kernel⟩,
    ⟨linked, { rx 0x40 21 with err := true }, 0x40, by exact pair_is (by decide +kernel)⟩,
    ⟨switch [], _, rx 0x40 21, 1, 2, fr 0x40 2, by exact ⟨by decide +kernel, receives (kind := 0x40) (by decide +kernel) (by decide +kernel)⟩⟩,
    ⟨switch [], _, rx 0x40 21, 0, 1, fr 0x40 2,
      by exact ⟨by decide +kernel, receives (kind := 0x40) (by decide +kernel) (by decide +kernel), by decide +kernel, by decide +kernel, by decide +kernel⟩⟩⟩

theorem witness_SpdmRequestsAreAnswered :
    ∃ (s : State) (t : Transport), s.Serves t :=
  ⟨busy, .mgmt, by unfold State.Serves; decide +kernel⟩

theorem witness_SecuredSessionsFollowTheirRequests :
    (∃ (s : State) (t : Transport) (x : KeyEx) (l : List Nat), s.Serves t ∧ s.att.negotiated.contains t = true ∧ x.elementOk = true ∧
      s.sessionSlots t = some l ∧ (s.slot 1).st = 1 ∧ s.cmd.sessions.any (fun y => decide (y.sid = x.sid)) = false ∧ (if isLink t then 3 else 2) ≤
      s.handFree.length) ∧
    (∃ (s : State) (t : Transport) (sid : Nat) (ok : Bool) (x : Secured), s.Serves t ∧ s.session t sid = some x ∧ x.live = false ∧ (s.slot
      (x.hand.getD 1 0)).st = 1) ∧
    (∃ (s u : State) (j : PkeJob) (rest : List PkeJob) (sid : Nat) (x : Secured), s.key.pke = j :: rest ∧ j.ops = [.mldsaVerify] ∧ j.sign = none ∧
      j.ends = .finish .mgmt sid true ∧ u = (s.modKey fun k => { k with pke := rest }) ∧ u.session .mgmt sid = some x ∧ x.live = false) ∧
    (∃ (s u : State) (j : PkeJob) (rest : List PkeJob) (sid : Nat) (x : Secured), s.key.pke = j :: rest ∧ j.ops = [.mldsaVerify] ∧ j.sign = none ∧
      j.ends = .finish .mgmt sid false ∧ u = (s.modKey fun k => { k with pke := rest }) ∧ u.session .mgmt sid = some x ∧ x.live = false) ∧
    (∃ (s u : State) (j : PkeJob) (rest : List PkeJob) (k si sid : Nat) (x : Secured), s.key.pke = j :: rest ∧ j.ops = [.mldsaVerify] ∧ j.sign =
      none ∧ j.ends = .finish (.link k si) sid true ∧ u = (s.modKey fun k => { k with pke := rest }) ∧ u.session (.link k si) sid = some x ∧ x.live
      = false) ∧
    (∃ (s : State) (t : Transport) (sid : Nat) (x : Secured), (∀ k i, t ≠ .link k (i + 1)) ∧ s.Serves t ∧ s.secured t sid = some x) ∧
    (∃ (s : State) (k i sid : Nat) (x : Secured), s.Serves (.link k (i + 1)) ∧ s.secured (.link k (i + 1)) sid = some x) ∧
    (∃ (s : State) (t : Transport) (sid : Nat), s.Serves t) ∧
    (∃ (s : State) (t : Transport) (sid : Nat) (x : Secured), isLink t = false ∧ s.session t sid = some x) ∧
    (∃ (s : State) (t : Transport) (sid : Nat) (x : Secured), s.Serves t ∧ s.secured t sid = some x) ∧
    (∃ (s : State) (t : Transport) (sid : Nat) (hs : List Digest), s.Serves t ∧ s.inMgmt t sid = true) ∧
    (∃ (s : State) (k si p : Nat) (a : Amendment), s.Serves (.link k si) ∧ s.linkLive k si = true ∧ s.partOfDomain a.domain = some p ∧ s.mseq p <
      a.mseq) ∧
    (∃ (s : State) (k si p : Nat) (a : Amendment), s.Serves (.link k si) ∧ s.linkLive k si = true ∧ s.partOfDomain a.domain = some p ∧ a.mseq ≤
      s.mseq p) ∧
    (∃ (s u : State) (j : PkeJob) (rest : List PkeJob) (k si p : Nat) (a : Amendment) (m : Manifest), s.key.pke = j :: rest ∧ j.ops =
      [.mldsaVerify] ∧ j.sign = none ∧ j.ends = .amend (.link k si) 0 a ∧ u = (s.modKey fun k => { k with pke := rest }) ∧ u.linkLive k si = true ∧
      u.partOfDomain a.domain = some p ∧ u.mseq p < a.mseq ∧ a.base = u.mseq p ∧ (u.part p).man = some m ∧ amendShape m a = true ∧ a.sigOk = true) ∧
    (∃ (s : State) (k si held : Nat), s.Serves (.link k si) ∧ s.linkLive k si = true) ∧
    (∃ (s : State) (k si : Nat) (b : Bind) (ev : Evidence), s.Serves (.link k si) ∧ s.mayBind k si = true) ∧
    (∃ (s u : State) (j : PkeJob) (rest : List PkeJob) (k : Nat) (b : Bind) (ev : Evidence), s.key.pke = j :: rest ∧ j.ops = [.mldsaVerify] ∧
      j.sign = none ∧ j.ends = .bind k 0 b ev ∧ u = (s.modKey fun k => { k with pke := rest }) ∧ u.mayBind k 0 = true ∧ (u.bindCheck k 0 b ev).1 =
      0) ∧
    (∃ (s u : State) (j : PkeJob) (rest : List PkeJob) (k si n : Nat) (st : Status) (b : Bind) (ev : Evidence), s.key.pke = j :: rest ∧ j.ops =
      [.mldsaVerify] ∧ j.sign = none ∧ j.ends = .bind k si b ev ∧ u = (s.modKey fun k => { k with pke := rest }) ∧ u.mayBind k si = true ∧
      u.bindWaits k si b ev = false ∧ u.bindCheck k si b ev = (n + 1, st)) ∧
    (∃ (s t : State) (h : RxHdr) (c : Carriage), s.Receives h 0x10 0 t ∧ c.target = 0xFF ∧ c.domain = 0) :=
  ⟨⟨asked, .mgmt, { elementOk := true, leaf := 1, root := 2, sid := 6, exch := [] }, [80, 81], by unfold State.Serves; decide +kernel⟩,
    ⟨fresh9, .mgmt, 9, true, sec9, by unfold State.Serves; decide +kernel⟩,
    ⟨verifying unfinished (.finish .mgmt 9 true), _, vjob (.finish .mgmt 9 true), [], 9, sec9,
      by exact ⟨rfl, rfl, rfl, rfl, rfl, by decide +kernel, by decide +kernel⟩⟩,
    ⟨verifying unfinished (.finish .mgmt 9 false), _, vjob (.finish .mgmt 9 false), [], 9, sec9,
      by exact ⟨rfl, rfl, rfl, rfl, rfl, by decide +kernel, by decide +kernel⟩⟩,
    ⟨verifying unfinished (.finish (.link 0 0) 11 true), _, vjob (.finish (.link 0 0) 11 true), [], 0, 0, 11, secL,
      by exact ⟨rfl, rfl, rfl, rfl, rfl, by decide +kernel, by decide +kernel⟩⟩,
    ⟨busy, .mgmt, 1, sec1, by exact ⟨fun _ _ => nofun, by unfold State.Serves; decide +kernel, by decide +kernel⟩⟩,
    ⟨served, 0, 1, 12, secP, by unfold State.Serves; decide +kernel⟩,
    ⟨busy, .doe 0, 4, by unfold State.Serves; decide +kernel⟩,
    ⟨busy, .mgmt, 1, sec1, by decide +kernel⟩,
    ⟨busy, .mgmt, 1, sec1, by unfold State.Serves; decide +kernel⟩,
    ⟨busy, .mgmt, 1, [1, 2, 3], by unfold State.Serves; decide +kernel⟩,
    ⟨live3, 0, 4, 3, amendment, by unfold State.Serves; decide +kernel⟩,
    ⟨live3, 0, 4, 3, { amendment with mseq := 3 }, by unfold State.Serves; decide +kernel⟩,
    ⟨verifying live3 (.amend (.link 0 4) 0 amendment), _, vjob (.amend (.link 0 4) 0 amendment), [], 0, 4, 3, amendment, man,
      by exact ⟨rfl, rfl, rfl, rfl, rfl, by decide +kernel, by decide +kernel, by decide +kernel, by decide +kernel, rfl, by decide +kernel, by decide +kernel⟩⟩,
    ⟨live3, 0, 4, 2, by unfold State.Serves; decide +kernel⟩,
    ⟨binding, 0, 0, bind, ev true, by unfold State.Serves; decide +kernel⟩,
    ⟨verifying binding (.bind 0 0 bind (ev true)), _, vjob (.bind 0 0 bind (ev true)), [], 0, bind, ev true,
      by exact ⟨rfl, rfl, rfl, rfl, rfl, by decide +kernel, by simp [State.bindCheck, State.rootsFor, ev, bind]⟩⟩,
    ⟨verifying binding (.bind 0 0 bind (ev false)), _, vjob (.bind 0 0 bind (ev false)), [], 0, 0, 0, .authFailed, bind, ev false,
      by exact ⟨rfl, rfl, rfl, rfl, rfl, by decide +kernel, by decide +kernel, by decide +kernel⟩⟩,
    ⟨linked, (linked.rxAccept (rx 0x10 0) 0x10).1, rx 0x10 0,
      { first := true, last := true, secured := false, target := 0xFF, offset := 0, domain := 0, msgLen := 32, data := [] },
      by exact ⟨receives (by decide +kernel) (by decide +kernel), by decide +kernel⟩⟩⟩

theorem witness_HostPortsCarryTheirTraffic :
    (∃ (s : State) (h : Nat) (t : Tlp), s.service ≠ .off ∧ h < s.params.hcCount ∧ s.boot.breached = false ∧ s.hstOn h = false) ∧
    (∃ (s : State) (h : Nat) (t : Tlp), s.service ≠ .off ∧ h < s.params.hcCount ∧ s.boot.breached = false ∧ s.hstOn h = true ∧ s.tdiOf h t.rid =
      none ∧ s.mustHold h none t = false) ∧
    (∃ (s : State) (h p : Nat) (t : Tlp), s.service ≠ .off ∧ h < s.params.hcCount ∧ s.boot.breached = false ∧ s.hstOn h = true ∧ s.tdiOf h t.rid =
      some p ∧ s.pst p ≠ 4 ∧ s.pst p ≠ 5 ∧ (t.kind = .memRd ∨ t.kind = .memWr) ∧ t.translated = false) ∧
    (∃ (s : State) (h i : Nat) (t : Tlp), s.service ≠ .off ∧ h < s.params.hcCount ∧ s.boot.breached = false ∧ s.hstOn h = true ∧ t.stream = some i
      ∧ (s.stream h i).secure = true ∧ t.ideOk = false) ∧
    (∃ (s : State) (h : Nat) (t : Tlp), s.service ≠ .off ∧ h < s.params.hcCount ∧ s.boot.breached = false ∧ s.hstOn h = true ∧ t.stream = none ∧
      (t.kind = .memRd ∨ t.kind = .memWr) ∧ s.tdiOf h t.rid = none) ∧
    (∃ (s : State) (h proto n : Nat), s.service = .full ∧ h < s.params.hcCount ∧ (proto = 1 ∨ proto = 2) ∧ n ≤ 262144 ∧ s.hst.doe.get none h =
      none) ∧
    (∃ (s : State) (h n : Nat), s.service = .full ∧ h < s.params.hcCount ∧ n ≤ 262144 ∧ s.hst.doe.get none h = none) ∧
    (∃ (s : State) (h func off : Nat) (d : Word), s.service ≠ .off ∧ h < s.params.hcCount ∧ s.hstOn h = false) ∧
    (∃ (s : State) (h func off : Nat) (d : Word) (locked : Bool), s.service ≠ .off ∧ h < s.params.hcCount ∧ s.hstOn h = true ∧ func = s.fld
      (rHstPortCap h) 31 24 ∧ s.fld (rHstPortCap h) 11 0 ≠ 0 ∧ s.fld (rHstPortCap h) 11 0 ≤ off ∧ off < s.fld (rHstPortCap h) 11 0 + doeLen ∧
      ((s.fld (rHstPortCap h) 23 12 = 0 ∨ off < s.fld (rHstPortCap h) 23 12 ∨ s.fld (rHstPortCap h) 23 12 + ideLen ≤ off))) ∧
    (∃ (s : State) (h : Nat), h < s.params.hcCount) ∧
    (∃ (s : State) (h : Nat), h < s.params.hcCount) :=
  ⟨⟨up, 0, tlp .memRd 1, by decide +kernel⟩,
    ⟨hosted, 0, tlp .memRd 0x101, by decide +kernel⟩,
    ⟨hosted, 0, 1, tlp .memRd 0x100, by decide +kernel⟩,
    ⟨hosted, 0, 1, tlp .memRd 0x100, by decide +kernel⟩,
    ⟨hosted, 0, { tlp .memRd 0x999 with stream := none }, by decide +kernel⟩,
    ⟨hosted, 0, 1, 262144, by decide +kernel⟩,
    ⟨hosted, 0, 262144, by decide +kernel⟩,
    ⟨up, 1, 0, 0, 0, by decide +kernel⟩,
    ⟨capped, 0, 2, 0x100, 0, false, by decide +kernel⟩,
    ⟨busy, 1, by decide +kernel⟩,
    ⟨busy, 1, by decide +kernel⟩⟩

theorem witness_StreamKeysAndInterfacesFollow :
    (∃ (s : State) (h sid : Nat), s.doeSess h sid = true) ∧
    (∃ (s : State) (h sid i set p n : Nat) (sub : SubStream) (rx : Bool) (key : BitVec 256), s.doeSess h sid = true ∧ s.streamOwner h i = some p ∧
      i < 8 ∧ set < 2 ∧ (s.ideKeys h i (subNo sub) rx).used.contains set = false ∧ s.pst p ≠ 0 ∧ (s.ideKeys h i (subNo sub) rx).slotOf set = none ∧
      s.takeSlot p = some n) ∧
    (∃ (s : State) (h sid i set : Nat) (sub : SubStream) (rx : Bool), s.doeSess h sid = true ∧ i < 8 ∧ set < 2 ∧ ((s.ideKeys h i (subNo sub)
      rx).slotOf set).isSome = true) ∧
    (∃ (s : State) (h sid i set n : Nat) (sub : SubStream), s.doeSess h sid = true ∧ (s.ideKeys h i (subNo sub) false).slotOf set = some n ∧
      (s.ideKeys h i (subNo sub) false).go ≠ some set ∧ (s.ideKeys h i (subNo sub) false).go.isSome = true) ∧
    (∃ (s : State) (h sid i set n : Nat) (sub : SubStream), s.doeSess h sid = true ∧ set < 2 ∧ (s.ideKeys h i (subNo sub) true).slotOf set = some n
      ∧ ((s.ideKeys h i (subNo sub) true).slotOf (1 - set)).isSome = true) ∧
    (∃ (s : State) (h sid p : Nat), s.doeSess h sid = true ∧ s.tdiPort p = some h ∧ p < 16) ∧
    (∃ (s : State) (h sid p : Nat), s.doeSess h sid = true ∧ s.tdiPort p ≠ some h) ∧
    (∃ (s : State) (h sid p i : Nat), s.doeSess h sid = true ∧ p < 16 ∧ s.tdiPort p = some h ∧ s.lockStream h p = some i ∧ (s.tdi p).st = 0 ∧
      (s.pst p = 1 ∨ s.pst p = 2 ∨ s.pst p = 3)) ∧
    (∃ (s : State) (h sid p : Nat), s.doeSess h sid = true ∧ p < 16 ∧ s.tdiPort p = some h ∧ (s.tdi p).st = 1 ∧ (s.part p).vmAssign = true) ∧
    (∃ (s : State) (h rid p : Nat), s.hstOn h = true ∧ s.tdiOf h rid = some p) :=
  ⟨⟨hosted, 0, 4, by decide +kernel⟩,
    ⟨hosted, 0, 4, 1, 1, 1, 128, .completion, false, 5, by decide +kernel⟩,
    ⟨hosted, 0, 4, 1, 1, .posted, false, by decide +kernel⟩,
    ⟨hosted, 0, 4, 1, 1, 141, .posted, by decide +kernel⟩,
    ⟨hosted, 0, 4, 1, 0, 140, .posted, by decide +kernel⟩,
    ⟨hosted, 0, 4, 1, by decide +kernel⟩,
    ⟨hosted, 0, 4, 2, by decide +kernel⟩,
    ⟨hosted, 0, 4, 1, 1, by decide +kernel⟩,
    ⟨onHst fun x => { x with tdi := [(1, { Tdi.unlocked with st := 1 })] }, 0, 4, 1, by decide +kernel⟩,
    ⟨hosted, 0, 0x100, 1, by decide +kernel⟩⟩

theorem witness_TranslationsAndTilesFollow :
    (∃ (s : State) (h tag : Nat) (ok : Bool) (ps : List Page) (r : TrReq), s.boot.breached = false ∧ (s.hst.trs.find? fun r => decide (r.h = h) &&
      decide (r.tag = tag)) = some r) ∧
    (∃ (s : State) (h itag rid p va len : Nat) (pasid : Option Nat), s.tdiOf h rid = some p ∧ s.hstOn h = true ∧ (s.hst.invs.filter fun x => decide
      (x.1 = h)).length < 32) ∧
    (∃ (s : State) (h itag : Nat) (x : Nat × Nat × List Nat), s.boot.breached = false ∧ (s.hst.invs.find? fun x => decide (x.1 = h) && decide
      (x.2.1 = itag)) = some x ∧ x.2.2 = []) ∧
    (∃ (s : State) (h prg : Nat) (r : PrReq), s.boot.breached = false ∧ (s.hst.prs.find? fun r => decide (r.h = h) && decide (r.prg = prg)) = some
      r) ∧
    (∃ (s : State) (prg : Nat) (r : PrReq), s.boot.breached = false ∧ (s.hst.prs.find? fun r => decide (r.prg = prg)) = some r) ∧
    (∃ (s : State) (h p : Nat) (m : TileMsg), s.tileVid h m = true ∧ s.tdiOf h m.rid = some p ∧ s.tileRefused h p m
      { st := 1, h := h, ctx := m.ctx, pasid := (s.ctx m.ctx).pasid, rd := bit m.dir 0, wr := bit m.dir 1, base := m.base, rowBytes := m.rowBytes, pitch := m.pitch, rows := m.rows, held := [], reads := [], sent := 0, born := s.hst.tileNo, closing := false } = true) ∧
    (∃ (s : State) (h p : Nat) (m : TileMsg), s.hstOn h = true ∧ s.fld rHstTileCfg 15 0 ≠ 0xFFFF ∧ s.fld rHstTileCfg 15 0 = m.vid ∧ s.tdiOf h m.rid
      = some p ∧ s.tileRefused h p m
      { st := 1, h := h, ctx := m.ctx, pasid := (s.ctx m.ctx).pasid, rd := bit m.dir 0, wr := bit m.dir 1, base := m.base, rowBytes := m.rowBytes, pitch := m.pitch, rows := m.rows, held := [], reads := [], sent := 0, born := s.hst.tileNo, closing := false } = false ∧ (s.hst.tiles.filter fun y => decide (y.2.st ≠ 0) && decide (y.2.h = h)).length < 64 ∧ s.pst p ≠ 4 ∧ s.pst p ≠ 5 ∧ (s.ctx m.ctx).st ≠ 3 ∧ (s.ctx m.ctx).resetting = false ∧ s.atsOn h = true) ∧
    (∃ (s : State) (h p : Nat) (m : TileMsg), s.tileVid h m = true ∧ s.tdiOf h m.rid = some p ∧ (s.tile p (m.tile % 16)).st = 2) :=
  ⟨⟨onHst fun x => { x with trs := [tr false] }, 0, 3, true, [], tr false, by decide +kernel⟩,
    ⟨hosted, 0, 1, 0x100, 1, 0, 4096, none, by decide +kernel⟩,
    ⟨onHst fun x => { x with invs := [(0, 3, [])] }, 0, 3, (0, 3, []), by decide +kernel⟩,
    ⟨onHst fun x => { x with prs := [pr] }, 0, 3, pr, by decide +kernel⟩,
    ⟨onHst fun x => { x with prs := [pr] }, 3, pr, by decide +kernel⟩,
    ⟨hosted, 0, 1, tileMsg 0, by decide +kernel⟩,
    ⟨hosted, 0, 1, tileMsg 1, by decide +kernel⟩,
    ⟨onHst fun x => { x with tiles := [(17, { Tile.free with st := 2 })] }, 0, 1, tileMsg 1, by decide +kernel⟩⟩

theorem witness_DoorbellsTakeEffect :
    ∃ (s : State) (rq : Rq), s.PortOpen rq :=
  ⟨busy, ⟨false, 1, 1⟩, by unfold State.PortOpen; decide +kernel⟩

theorem witness_DeferredWorkCompletes :
    (∃ (s : State) (p o : Nat), (s.obj p o).st = 2 ∧ (s.obj p o).refs = 0) ∧
    (∃ (s t : State) (p i o g x : Nat), (s.adb p i).status = .accepted ∧ (s.ctx (s.adb p i).ctx).st = 1 ∧ (s.ctx (s.adb p i).ctx).resident = true ∧
      (s.ctx (s.adb p i).ctx).part = p ∧ s.alloc p (s.adb p i).plots (s.adb p i).ctx (s.adb p i).shared false = (t, .ok (o, g, x))) ∧
    (∃ (s r t : State) (c : Nat), (s.ctx c).st ≠ 0 ∧ (s.ctx c).resident = false ∧ s.makeRoom = (r, true) ∧ r.params.profile ≠ .s ∧ r.innerRead
      (s.ctx c).part (s.ctx c).base 4096 = (t, .done)) ∧
    (∃ (s : State) (k : Nat), s.runs = true) ∧
    (∃ s : State, s.service = .full) ∧
    (∃ (s : State) (p r : Nat), p < 16 ∧ r < 4 ∧ (s.ring p r).staged ≠ []) ∧
    (∃ (s t u : State) (p sid i : Nat) (data rec : List Byte) (d : Dump) (x : Tensor), (s.obs.dumps.find? fun d => decide (d.part = p) &&
      d.cap.isSome) = some d ∧ d.cap = some (x, sid, i) ∧ i + 1 < x.chunks ∧ s.innerRead p (x.base + 65536 * i) (x.chunkLen i) = (t, .done) ∧
      t.sealRec sid (t.dumpHeader d x i .done ++ (data ++ List.replicate (x.chunkLen i - data.length) 0).take (x.chunkLen i)) = (u, rec)) ∧
    (∃ (s : State) (p i : Nat) (d : Dump), (s.obs.dumps.find? fun d => decide (d.part = p) && decide (d.idx = i) && d.cap.isNone) = some d) ∧
    (∃ s : State, (s.boot.phase = .ready ∨ s.boot.phase = .tolaro)) ∧
    (∃ (s : State) (sid : Nat) (seq : Word) (x : Nat × Reply), (s.cmd.stored.find? fun x => decide (x.1 = sid) && decide (x.2.seq = seq)) = some x)
      ∧
    (∃ (s : State) (rq : Rq), s.service ≠ .off ∧ rq.dbg = true ∧ s.dbgWrites false = true) ∧
    (∃ (s : State) (rq : Rq) (halt : Bool), s.PortOpen rq) :=
  ⟨⟨put, 1, 4, by decide +kernel⟩,
    ⟨put, alloc4, 1, 0, 3, 0, 2,
      by exact ⟨by decide +kernel, by decide +kernel, by decide +kernel, by decide +kernel, alloc_is (by decide +kernel)⟩⟩,
    ⟨waits 0 16 put, _, _, 8,
      by exact ⟨by decide +kernel, by decide +kernel, pair_is (by decide +kernel), by decide +kernel, pair_is (by decide +kernel)⟩⟩,
    ⟨busy, 17, by decide +kernel⟩,
    ⟨busy, by decide +kernel⟩,
    ⟨traced none, 1, 0, by decide +kernel⟩,
    ⟨waits 256 256 (traced (some (tensor, 1, 0))), _, _, 1, 1, 0, [], _, dump (some (tensor, 1, 0)), tensor,
      by exact ⟨by decide +kernel, by decide +kernel, by decide +kernel, pair_is (by decide +kernel), pair_is rfl⟩⟩,
    ⟨traced none, 1, 0, dump none, by decide +kernel⟩,
    ⟨busy, by decide +kernel⟩,
    ⟨stored4, 2, 4, (2, rep4), by decide +kernel⟩,
    ⟨debugging, ⟨true, 0, 0⟩, by decide +kernel⟩,
    ⟨busy, ⟨false, 0, 0⟩, true, by unfold State.PortOpen; decide +kernel⟩⟩

theorem witness_SlotsChangeStateOnlyAsTheTableAllows :
    (∃ (s : State) (n : Nat), (s.slot n).st = 1) ∧
    (∃ (s : State) (n : Nat), (s.slot n).st ≠ 1) ∧
    (∃ (s : State) (n : Nat), (s.slot n).st = 2 ∧ s.slotBusy n = false ∧ s.boot.phase = .ready ∧ s.key.refill.get none n = none) ∧
    (∃ (s : State) (n : Nat), (s.slot n).st = 3 ∧ s.anchorNames n = false) ∧
    (∃ (s : State) (n : Nat), (s.slot n).st ≠ 2 ∨ s.slotBusy n = true ∨ s.boot.phase ≠ .ready) ∧
    (∃ (s : State) (n : Nat), ((s.slot n).st ≠ 3 ∨ s.anchorNames n = true)) :=
  ⟨⟨busy, 131, by decide +kernel⟩,
    ⟨busy, 133, by decide +kernel⟩,
    ⟨busy, 133, by decide +kernel⟩,
    ⟨busy, 134, by decide +kernel⟩,
    ⟨busy, 131, by decide +kernel⟩,
    ⟨busy, 131, by decide +kernel⟩⟩

theorem witness_OneChallengeIsLive :
    (∃ (s : State) (h : Hdr) (level : Nat), s.Accepts ⟨0x0902, [.mgmt, .host, .tenant], .all, 1, 0, false⟩ h [] ∧ s.key.rngReady = true ∧ (level =
      1 ∨ level = 2) ∧ lcLevel s.boot.lc = some level ∧ s.control 0x32 = false ∧ s.boot.dbgAuth = 0 ∧ (s.boot.lc ≠ 3 ∨ s.control 0x31 = true)) ∧
    (∃ (s : State) (h : Hdr) (level : Nat), s.Accepts ⟨0x0902, [.mgmt, .host, .tenant], .all, 1, 0, false⟩ h [] ∧ s.key.rngReady = true ∧ (level =
      1 ∨ level = 2) ∧ ((lcLevel s.boot.lc ≠ some level ∨ s.control 0x32 = true ∨ s.boot.dbgAuth ≠ 0 ∨ (s.boot.lc = 3 ∧ s.control 0x31 = false)))) ∧
    (∃ (s t : State) (h : Hdr) (k : Token), s.admits = true ∧ s.pathOpen h.path = true ∧ s.admitWait tokenRow.opc h [] none (s.issuerOk tokenRow h
      || !tokenRow.prof.has s.params.profile) = none ∧ exec (.dbgToken h k) s = .next t) :=
  ⟨⟨busy, mgmtH 0, 2, by unfold State.Accepts; decide +kernel⟩,
    ⟨busy, mgmtH 0, 1, by unfold State.Accepts; decide +kernel⟩,
    ⟨granting, _, { mgmtH 0 with trailer := 200 }, tok1, by exact ⟨by decide +kernel, by decide +kernel, by decide +kernel, rfl⟩⟩⟩

theorem witness_UnitCommandsLeaveTheOtherUnits :
    (∃ (c : Instr) (s t : State), staysInItsUnit c = true ∧ exec c s = .next t) ∧
    (∃ (c : Instr) (s t : State), staysInItsUnit c = true ∧ touchesDomainTime c = false ∧ exec c s = .next t) ∧
    (∃ (c : Instr) (s t : State), leavesHostPorts c = true ∧ exec c s = .next t) :=
  ⟨⟨.rngStartupPass, busy, _, by exact ⟨by decide, rfl⟩⟩,
    ⟨.rngStartupPass, busy, _, by exact ⟨by decide, by decide, rfl⟩⟩,
    ⟨.rngStartupPass, busy, _, by exact ⟨by decide, rfl⟩⟩⟩

/-! Statements with several cases inside. -/

/-- Where nothing is admitted; a packet that waits; one that fails a check; an opcode that the profile lacks; one that is admitted. -/
theorem witness_AdmissionEndsInOneOfFourWays :
    (off.admits = false ∨ off.pathOpen (hostH 1).path = false)
      ∧ (busy.admits = true ∧ busy.pathOpen (hostH 1).path = true ∧ busy.admitWait 0 (hostH 1) [] (some 5) true = some 5)
      ∧ (busy.admitWait 0 (hostH 1) [] none (busy.issuerOk ⟨0, [.device], .all, 0, 0, false⟩ (hostH 1) || !Prof.all.has busy.params.profile) = none
        ∧ Prof.all.has busy.params.profile = true ∧ busy.headFails ⟨0, [.device], .all, 0, 0, false⟩ (hostH 1) ++ [] ≠ [])
      ∧ busy.ringRead (hostH 1) = (busy, .done)
      ∧ (onS.admitWait 0 (hostH 1) [] none (onS.issuerOk ⟨0, [.host], .a, 0, 0, false⟩ (hostH 1) || !Prof.a.has onS.params.profile) = none
        ∧ onS.ringRead (hostH 1) = (onS, .done) ∧ Prof.a.has onS.params.profile = false)
      ∧ busy.Accepts ⟨0, [.host], .all, 0, 0, false⟩ (hostH 1) [] := by
  unfold State.Accepts
  and_intros <;> first | decide +kernel | rfl

/-- Each action of a due entry. -/
theorem witness_ScheduledActionsFire_actions :
    ∀ n ∈ [1, 2, 3, 4, 5, 6, 7, 8],
      ((due n).sched 0).st = 1 ∧ (due n).isDue ((due n).sched 0) = true ∧ ((due n).sched 0).action = n := by decide +kernel

/-- The SPDM requests that ask for more: a chain to return and none, measurements after their lock, a management session. -/
theorem witness_SpdmRequestsAreAnswered_cases :
    ({ busy with att := { busy.att with chain := some chain } }.certBytes 2 = []
      ∧ [1].any (busy.inMgmt .mgmt) = true ∧ (busy.slot 0).st = 1 ∧ busy.slot0 = none ∧ chain.leaf = busy.devid
      ∧ busy.att.measLock = false ∧ mlocked.att.measLock = true)
      ∧ ∃ v, mlocked.measurement (mlocked.boundTo .mgmt none) 17 = some v :=
  ⟨⟨by decide +kernel, by decide +kernel, by decide +kernel, by decide +kernel, rfl, by decide +kernel, by decide +kernel⟩, _, rfl⟩

/-- A translation whose pages were invalidated while it was under way. -/
theorem witness_TranslationsAndTilesFollow_stale :
    ((onHst fun x => { x with trs := [tr true] }).hst.trs.find? fun r => decide (r.h = 0) && decide (r.tag = 3)) = some (tr true)
      ∧ (tr true).stale = true ∧ (tr false).stale = false := by decide +kernel

/-- The first bus error, and one more. -/
theorem witness_BusErrorsAreRecorded_cases :
    (bit (busy.reg 0xC) 0 = false ∧ busy.reg 0xC = 0) ∧ bit ((busy.busErr 4).reg 0xC) 0 = true := by decide +kernel

/-- A group that is off with its configuration right, and with it wrong; one that is on and used; one that nothing uses. -/
theorem witness_SectorGroupEnableIsChecked_cases :
    (refHost.sgOn 4 = false ∧ refHost.cfgErr 4 ≠ 0) ∧ (refHost.sgOn 3 = false ∧ refHost.cfgErr 3 = 0)
      ∧ (busy.sgOn 0 = true ∧ busy.groupUsed 0 = true) ∧ busy.groupUsed 1 = false := by decide +kernel

/-- A static bit of an enabled group refused; a commit bit staged. -/
theorem witness_RegisterBitsFollowTheirClass_cases :
    (∃ r, regRow busy.params.profile (rSgAnchorCount 0) = some r ∧ r.counts = []
      ∧ (decide ((1 ^^^ busy.reg (rSgAnchorCount 0)) &&& r.s ≠ 0) && busy.staticOn (rSgAnchorCount 0)) = true)
      ∧ ∃ r, regRow busy.params.profile rDtStagger = some r ∧ r.c ≠ 0 :=
  ⟨⟨_, rfl, by decide +kernel, by decide +kernel⟩, _, rfl, by decide +kernel⟩

/-! Ill-formed operands, one for each check. -/

theorem test_wf_rq : Rq.wf ⟨false, 4, 0⟩ = false ∧ Rq.wf ⟨false, 0, 16⟩ = false ∧ Rq.wf ⟨true, 3, 15⟩ = true := by decide
theorem test_wf_access :
    Access.wf ⟨⟨true, 0, 0⟩, false, 0, 64, 0⟩ = false ∧ Access.wf ⟨⟨false, 0, 0⟩, false, 2 ^ 22, 32, 0⟩ = false
      ∧ Access.wf ⟨⟨false, 0, 0⟩, false, 4, 16, 0⟩ = false := by decide
theorem test_wf_transport : Transport.wf (.doe 2) = false ∧ Transport.wf (.link 18 0) = false ∧ Transport.wf (.link 17 17) = false := by decide
theorem test_wf_path :
    Path.wf (.hostq 4) = false ∧ Path.wf (.ctxq 65535 0) = false ∧ Path.wf (.ctxq 5 8) = false ∧ Path.wf (.doe 2 0) = false := by decide
theorem test_wf_hdr : Hdr.wf (hostH 16) = false ∧ Hdr.wf { hostH 1 with size := 4 } = false ∧ Hdr.wf { hostH 1 with bad := some 256 } = false := by
  decide
theorem test_wf_mn : MnReq.wf (mn 0 0 32 0) = false ∧ MnReq.wf (mn 0 3 64 0) = false ∧ MnReq.wf (mn 64 0 0 0) = false
    ∧ MnReq.wf { mn 0 0 0 0 with port := 4 } = false ∧ MnReq.wf { mn 0 0 0 0 with port := 3 } = true := by decide
theorem test_wf_rx : RxHdr.wf { rx 1 0 with port := 18 } = false ∧ RxHdr.wf { rx 1 0 with tc := 8 } = false := by decide
theorem test_wf_line : LineId.wf ⟨0, 0, .node 0, 0⟩ = false ∧ LineId.wf ⟨0, 0, .node 5, 0⟩ = false ∧ LineId.wf ⟨8, 0, .ver, 0⟩ = false := by decide
theorem test_wf_gate : Gate.wf (.fabric 18) = false ∧ Gate.wf (.host 2) = false ∧ Gate.wf (.north 8) = false := by decide
theorem test_wf_sched : SchedReq.wf ⟨0, 2 ^ 32, 1, false, false, false, 0, 0⟩ = false := by decide
theorem test_wf_remote : RaReq.wf { raReq with gen := 2 ^ 24 } = false ∧ RaRep.wf { raRep with outcome := 256 } = false
    ∧ RwReq.wf { rwReq with offset := 2 ^ 40 } = false := by decide
theorem test_wf_contrib : Contrib.wf { con with n := 65536 } = false := by decide
theorem test_wf_frame : EgFrame.wf { fr 1 0 with payload := [] } = false ∧ EgFrame.wf (fr 1 17) = false := by decide
theorem test_wf_spdm : KeyEx.wf ⟨true, 0, 0, 2 ^ 32, []⟩ = false ∧ Bind.wf { bind with port := 256 } = false
    ∧ Carriage.wf ⟨true, true, false, 256, 0, 0, 0, []⟩ = false := by decide
theorem test_wf_manifest : Manifest.wf { man with size := 4194305 } = false ∧ Amendment.wf { amendment with base := 2 ^ 32 } = false := by
  decide
theorem test_wf_host : Tlp.wf (tlp .memRd 65536) = false ∧ Page.wf ⟨0, 0, 0, true, true, false, false, false, false, false⟩ = false
    ∧ TileMsg.wf { tileMsg 1 with tile := 256 } = false := by decide
theorem test_wf_token : Token.wf { tok1 with purpose := 256 } = false := by decide
theorem test_wf_command : Instr.wf (.cClassCommit 1024) = false ∧ Instr.wf (.fpLinkUpRise 18) = false ∧ Instr.wf (.sensorCapture 16 true) = false
    ∧ Instr.wf (.mnRead (mn 0 0 32 0) 0 false) = false ∧ Instr.wf .powerOn = true := by decide

/-! The opcode table gives its rows no bits. -/

theorem test_no_word_spells_a_command : decodeTableWord 32 0 = none ∧ decodeTableWord 0 0 = none := by decide

/-! Numbers that the spec's rules, tables and worked examples give. -/

/-- Status codes (R22). -/
theorem test_status_codes :
    [Status.done, .accepted, .refusedIssuer, .badOpcode, .badParam, .busyStatic, .outOfSlots, .staleObject, .fenced, .poisoned, .wilted, .unmapped,
      .memberLost, .indeterminate, .abandoned, .lcForbids, .authFailed, .breach].map stCode
      = [0x00, 0x01, 0x10, 0x11, 0x12, 0x13, 0x14, 0x20, 0x21, 0x22, 0x23, 0x24, 0x25, 0x26, 0x27, 0x30, 0x31, 0x3F] := by decide

/-- The reference host's placement (worked example of 02_block_boundary.md). -/
theorem test_reference_host_places :
    refHost.groupFor 0x10A00 = some 2 ∧ refHost.toLocal 0x10A00 = 0x2100 ∧ refHost.place 2 0x10A00 = .protectedAt 131072 33
      ∧ refHost.sectAddr 2 131072 33 = 0x10A00 := by decide +kernel

/-- The carve-out base of group 2 on the MS ports (the same example). -/
theorem test_reference_host_carve : refHost.toMs 2 (refHost.carveBase 2) = 0x8000000200 := by decide +kernel

/-- A sector's block number and the lines of its path (worked example of 05_sector_protection.md). -/
theorem test_sector_path :
    refHost.lbn 131072 33 = 0x20000021
      ∧ (([pathLine 2 131072 4 0, pathLine 2 131072 4 1, pathLine 2 131072 4 2, pathLine 2 131072 4 3].map refHost.lineOff)
        = [0x100, 0x8000, 0x9000, 0x9200])
      ∧ refHost.lineOff (State.macLine refHost (pathLine 2 131072 4 0)) = 0x11240
      ∧ refHost.metaIdx (pathLine 2 131072 4 0) = 0x04920004 ∧ refHost.metaIdx (pathLine 2 131072 4 3) = 0x04920248 := by decide +kernel

/-- Its tweak and context block, and that of the version block (the same example). -/
theorem test_sector_tweak :
    leBytes 16 (tweak 0x20000021 5 7).toNat = [0x21, 0, 0, 0x20, 0, 0, 5, 0, 0, 0, 0, 0, 0, 0, 7, 0]
      ∧ leBytes 16 (ctxBlock 5 0x20000021 7 1).toNat = [5, 0, 0, 0, 0, 0, 0, 0, 0x21, 0, 0, 0x20, 0x70, 0, 0, 0x10]
      ∧ leBytes 16 (ctxBlock 3 0x04920004 0 2).toNat = [3, 0, 0, 0, 0, 0, 0, 0, 4, 0, 0x92, 4, 0, 0, 0, 0x20] := by decide

/-- CBC padding (R180): 37 bytes become 48. -/
theorem test_cbc_padding : (cbcPad (List.replicate 37 0)).drop 37 = List.replicate 11 0x0B := by decide

/-- MXFP6 into BF16 (R243): 100 bytes of source. -/
theorem test_mxfp6_source : (List.range 16).any (fun o => decide (srcSize (0x20 + o) 1 = some 100)) = true := by decide

/-- A write of a read-only word of GLB is accepted and changes nothing; an access of SIZE 32 to 0x2 is an error (R9). -/
theorem test_misaligned_access :
    (match exec (.registerWrite ⟨⟨false, 0, 0⟩, false, 2, 32, 0⟩) busy with
      | .next t => t.out
      | _ => []) = [.ctl 0 true] := by decide +kernel

/-- NOP on a host queue: its entry leaves the ring, and one reply is written. -/
theorem test_nop_on_a_host_queue :
    (match exec (.nop (hostH 1)) busy with
      | .next t => (t.queue 0).head
      | _ => 99) = 4 := by decide +kernel

/-- One step takes the front command and leaves the rest. -/
theorem test_step_takes_the_front :
    (match step { busy with pending := [.cClassCommit 2, .powerOn] } with
      | .next t => t.pending
      | _ => []) = [.powerOn] := by decide +kernel

/-- In reset, an idle step only counts the time base. -/
theorem test_idle_step : step off = .next { off with tref := 1 } := by rfl

end Sys2Proof.Tests
end

section
/-!
The statements of 00_scope.md: how the admission of a packet ends (R24, R372, R375 to R377), and how register accesses are answered
(R4, R9, R10, R67, R532).
-/
namespace Sys2Proof.Proofs
open Sys2Proof.Machine Sys2Proof.Laws

/-! The lowest code of several failures (R24). -/

/-- The lower of two failures, the one found first where the codes are equal; DONE is none yet. -/
def lower (a x : Status) : Status := if a = .done ∨ stCode x < stCode a then x else a

theorem lowest_eq_foldl_lower (l : List Status) : lowest l = l.foldl lower .done := rfl

theorem lower_done (x : Status) : lower .done x = x := by simp [lower]

theorem lower_eq_or (a x : Status) : lower a x = a ∨ lower a x = x := by
  unfold lower
  split
  · exact .inr rfl
  · exact .inl rfl

theorem stCode_lower_le {a : Status} (ha : a ≠ .done) (x : Status) :
    stCode (lower a x) ≤ stCode a ∧ stCode (lower a x) ≤ stCode x := by
  unfold lower
  split <;> rename_i hlt <;> simp only [ha, false_or] at hlt <;> omega

/-- Folding keeps the candidate a failure of the list, and below every failure met so far. -/
theorem foldl_lower_least (l : List Status) (hl : ∀ x ∈ l, x ≠ .done) (a : Status) (ha : a ≠ .done) :
    l.foldl lower a ∈ a :: l ∧ ∀ x ∈ a :: l, stCode (l.foldl lower a) ≤ stCode x := by
  induction l generalizing a with
  | nil => simp
  | cons b l ih =>
    obtain ⟨hb, hl⟩ := List.forall_mem_cons.mp hl
    have hne : lower a b ≠ .done := by rcases lower_eq_or a b with h | h <;> rw [h] <;> assumption
    obtain ⟨hmem, hle⟩ := ih hl (lower a b) hne
    obtain ⟨hac, htail⟩ := List.forall_mem_cons.mp hle
    obtain ⟨hla, hlb⟩ := stCode_lower_le ha b
    refine ⟨?_, ?_⟩
    · rcases List.mem_cons.mp hmem with h | h
      · rw [List.foldl_cons, h]
        rcases lower_eq_or a b with e | e <;> simp [e]
      · exact List.mem_cons_of_mem _ (List.mem_cons_of_mem _ h)
    · exact List.forall_mem_cons.mpr ⟨hac.trans hla, List.forall_mem_cons.mpr ⟨hac.trans hlb, htail⟩⟩

/-- The lowest of several failures is one of them, and none has a lower code. -/
theorem lowest_least (l : List Status) (hl : ∀ x ∈ l, x ≠ .done) (hne : l ≠ []) :
    lowest l ∈ l ∧ ∀ x ∈ l, stCode (lowest l) ≤ stCode x := by
  cases l with
  | nil => exact absurd rfl hne
  | cons a l =>
    obtain ⟨ha, hl⟩ := List.forall_mem_cons.mp hl
    rw [lowest_eq_foldl_lower, List.foldl_cons, lower_done]
    exact foldl_lower_least l hl a ha

/-- The status of a packet with failed checks is that of one of them, and of the lowest code. -/
theorem failStatus_least (l : List Fail) (hl : ∀ x ∈ l, x.1 ≠ .done) (hne : l ≠ []) :
    (failStatus l).1 ∈ l.map (fun x => x.1) ∧ ∀ x ∈ l, stCode (failStatus l).1 ≤ stCode x.1 := by
  obtain ⟨hmem, hle⟩ := lowest_least (l.map fun x => x.1) (List.forall_mem_map.mpr hl) (by simpa using hne)
  exact ⟨hmem, fun x hx => hle x.1 (List.mem_map_of_mem hx)⟩

/-! The checks of a packet, and its refusal. -/

/-- A check fails with its own status. -/
theorem chk_ne_done (b : Bool) {e : Status} (he : e ≠ .done) (off : Nat) : ∀ x ∈ chk b e off, x.1 ≠ .done := by
  cases b <;> simp [chk, he]

theorem headFails_ne_done (s : State) (r : Row) (h : Hdr) : ∀ x ∈ s.headFails r h, x.1 ≠ .done := by
  simp only [State.headFails, List.forall_mem_append]
  and_intros <;> exact chk_ne_done _ (by decide) _

/-- What admission finds once a packet waits for nothing: the failure of the read of its entries, an opcode that the profile has not, or
the lowest failure of its checks; DONE when there is none. -/
def verdict (t : State) (rd : Status) (r : Row) (h : Hdr) (fails : List Fail) : Fail :=
  if rd ≠ .done then (rd, 0xFF) else if !r.prof.has t.params.profile then (.badOpcode, 0xFF) else failStatus (t.headFails r h ++ fails)

theorem verdict_of_checks {t : State} {r : Row} (h : Hdr) (fails : List Fail) (hp : r.prof.has t.params.profile = true) :
    verdict t .done r h fails = failStatus (t.headFails r h ++ fails) := by
  simp [verdict, hp]

theorem verdict_of_read_or_profile {t : State} {rd : Status} {r : Row} (h : Hdr) (fails : List Fail)
    (hf : rd ≠ .done ∨ r.prof.has t.params.profile = false) :
    verdict t rd r h fails = (if rd ≠ .done then rd else .badOpcode, 0xFF) := by
  by_cases hr : rd = .done
  · have hp := hf.resolve_left (not_not_intro hr)
    simp [verdict, hr, hp]
  · simp [verdict, hr]

/-- A packet with a failure leaves its ring and gets that failure as its refusal. -/
theorem admitWith_refuses (s : State) (r : Row) (h : Hdr) (refs : List Nat) (hold : Option Nat) (fails : List Fail)
    (act : Pend → State → State) (ha : s.admits = true) (hp : s.pathOpen h.path = true)
    (hw : s.admitWait r.opc h refs hold (s.issuerOk r h || !r.prof.has s.params.profile) = none)
    {t : State} {rd : Status} (hr : s.ringRead h = (t, rd)) {f : Fail} (hv : verdict t rd r h fails = f) (hf : f.1 ≠ .done) :
    s.admitWith r h refs hold fails act
      = ((t.takePacket r.opc h (decide (f.1 ≠ .refusedIssuer))).1.reserve 1 h.path).refuse
          (t.takePacket r.opc h (decide (f.1 ≠ .refusedIssuer))).2 f := by
  unfold verdict at hv
  unfold State.admitWith
  simp only [ha, hp, hw, hr, hv, Bool.not_true, Bool.or_self, Bool.false_eq_true, if_false]
  rw [if_pos hf]

/-- Settles O9: the closed, waiting and accepted ends are the model's laws; the two refusals are the one law of a packet with a failure,
which is the lowest of its failed checks or that of the read or the profile. -/
theorem admissionEndsInOneOfFourWays : Obligations.AdmissionEndsInOneOfFourWays := by
  intro s r h refs hold fails act
  refine ⟨admitWith_closed s r h refs hold fails act, fun ha hp w => admitWith_waits s r h refs hold fails act w ha hp, ?checks, ?early,
    admitWith_accepts s r h refs hold fails act⟩
  case checks =>
    intro ha hp hw t hr hprof hne hfails
    have hdone : ∀ x ∈ t.headFails r h ++ fails, x.1 ≠ .done := List.forall_mem_append.mpr ⟨headFails_ne_done t r h, hfails⟩
    obtain ⟨hmem, hle⟩ := failStatus_least _ hdone hne
    have hv := verdict_of_checks h fails hprof
    generalize failStatus (t.headFails r h ++ fails) = f at hmem hle hv
    obtain ⟨x, hx, hxf⟩ := List.mem_map.mp hmem
    have hst : f.1 ≠ .done := hxf ▸ hdone x hx
    exact ⟨f.1, f.2, hst, hmem, hle, admitWith_refuses s r h refs hold fails act ha hp hw hr hv hst⟩
  case early =>
    intro ha hp hw t rd hr hf
    refine admitWith_refuses s r h refs hold fails act ha hp hw hr (verdict_of_read_or_profile h fails hf) ?_
    by_cases hrd : rd = .done <;> simp [hrd]

/-! Register accesses of the control port. -/

theorem exec_registerWrite (a : Access) (s : State) : exec (.registerWrite a) s = execRegisterWrite a s := rfl

theorem registerWrite_off (s : State) (a : Access) (hs : s.service = .off) : exec (.registerWrite a) s = .next s := by
  simp [exec_registerWrite, execRegisterWrite, hs]

/-- A control-port access of a wrong form, or one that the service in force does not serve, is answered with ERR. -/
theorem registerWrite_refused (s : State) (a : Access) (hs : s.service ≠ .off) (hd : a.rq.dbg = false)
    (hf : (ctlForm a && s.ctlServes a) = false) : exec (.registerWrite a) s = .next (s.otherAccess.emit (.ctl 0 true)) := by
  simp [exec_registerWrite, execRegisterWrite, hs, hd, hf]

theorem ctlForm_eq_false (a : Access) (hf : ¬((a.size = 32 ∧ a.addr % 4 = 0) ∨ (a.size = 64 ∧ a.addr % 8 = 0))) : ctlForm a = false := by
  simp only [ctlForm, ← Bool.decide_and, ← Bool.decide_or, hf, decide_false, Bool.and_false]

/-- Before the life-cycle decision, and restricted to identity, the control port serves no write (R4, R532). -/
theorem ctlServes_write_early (s : State) (a : Access) (hs : s.service = .early ∨ s.service = .identity) (hw : a.write = true) :
    s.ctlServes a = false := by
  rcases hs with hs | hs <;> simp [State.ctlServes, hs, hw]

theorem rqOf_dbg (rq : Rq) : (rqOf rq).dbg = rq.dbg := by
  unfold rqOf
  split
  · rfl
  · split <;> rfl

/-- In full service an aligned 32-bit access of the control port is one half access, recorded where R10 applies, and its answer. -/
theorem registerWrite_half32 {s u : State} {rq : Rq} {write : Bool} {addr : Nat} {d : DWord} {v : Word} {e gone : Bool} (hp : s.PortOpen rq)
    (hlt : addr < 0x400000) (hal : addr % 4 = 0)
    (hx : s.otherAccess.half32 (rqOf rq) write addr (d.setWidth 32) s.regf.snap = (u, v, e, gone)) :
    exec (.registerWrite { rq := rq, write := write, addr := addr, size := 32, wdata := d }) s
      = .next ((when gone (State.busErr addr) u).emit (.ctl (v.setWidth 64) e)) := by
  obtain ⟨hs, hd, ho⟩ := hp
  have hserve : (ctlForm { rq := rq, write := write, addr := addr, size := 32, wdata := d }
      && s.ctlServes { rq := rq, write := write, addr := addr, size := 32, wdata := d }) = true := by
    simp [ctlForm, State.ctlServes, hs, ho, hal]
  have hacc : s.access (rqOf rq) write addr 32 d = (when gone (State.busErr addr) u, v.setWidth 64, e) := by
    simp [State.access, rqOf_dbg, hd, hx]
  simp only [exec_registerWrite, execRegisterWrite, hserve, Nat.mod_eq_of_lt hlt, hacc]
  simp [hs, hd]

theorem half32_absent {s : State} {off : Nat} (ha : s.present off = none) (rq : Rq) (write : Bool) (w : Word) (snap : Option (Nat × Word)) :
    s.half32 rq write off w snap = (s, 0, false, true) := by
  simp [State.half32, ha]

theorem half32_write_one {s : State} {off : Nat} {r : RegRow} (hr : s.present off = some r) (h1 : r.half = .one) (rq : Rq) (w : Word)
    (snap : Option (Nat × Word)) : s.half32 rq true off w snap = (s.wordWrite rq off w, 0, false, false) := by
  simp [State.half32, hr, State.write32, h1]

/-- A read of a 32-bit register but OBJ_CACHE_STATUS, which takes a free value, leaves the state. -/
theorem half32_read_one {s : State} {off : Nat} {r : RegRow} (hr : s.present off = some r) (h1 : r.half = .one) (ho : off ≠ rObjCacheStatus)
    (rq : Rq) (w : Word) (snap : Option (Nat × Word)) : s.half32 rq false off w snap = (s, s.view rq off, false, false) := by
  simp [State.half32, hr, State.read32, h1, ho, when]

/-! GLB_RELEASE and GLB_WAKE. -/

/-- Every profile has the registers of the GLB window below the cache ways. -/
theorem present_glb (s : State) {off : Nat} (ho : off < 0x100) : s.present off = glbRows.find? fun r => r.has off := by
  have habs : unitAbsent s.params off = false := by
    unfold unitAbsent
    repeat rw [if_neg (by omega)]
  have hwin : off < 0x10000 := by omega
  simp [State.present, habs, regRow, rowsAt, hwin]

theorem present_glbRelease (s : State) :
    s.present rGlbRelease = some ⟨0x000000, 1, 0x0, 1, 0x0, .one, 0, 0, 0, 0, [], 0, 0, 0⟩ :=
  (present_glb s (by decide)).trans (by decide)

theorem view_glbRelease (s : State) (rq : Rq) : s.view rq rGlbRelease = releaseWord := rfl

theorem half32_read_glbRelease (s : State) (rq : Rq) (w : Word) (snap : Option (Nat × Word)) :
    s.half32 rq false rGlbRelease w snap = (s, releaseWord, false, false) := by
  rw [half32_read_one (present_glbRelease s) rfl (by decide), view_glbRelease]

/-- The row of GLB_WAKE: 27 writable bits of class L, none of class S or C. -/
def wakeRow : RegRow := ⟨0x000080, 1, 0x0, 1, 0x0, .one, 0, 0, 0x7FFFFFF, 0, [], 0, 0, 0x1201010⟩

theorem present_glbWake (s : State) : s.present rGlbWake = some wakeRow := (present_glb s (by decide)).trans (by decide)

theorem regRow_glbWake (pr : Profile) : regRow pr rGlbWake = some wakeRow := by cases pr <;> decide

theorem wordWrite_glbWake (s : State) (rq : Rq) (w : Word) : s.wordWrite rq rGlbWake w = s.plainWrite rGlbWake w := by
  simp [State.wordWrite, rGlbWake, rGlbBuserr, rDtCtrl, rLcDbgCore, rLcDbgArraySel, rCmdStatus, rHstPortStatus]

/-- A register whose writable bits are all of class L takes them, and nothing else changes (R12, R15). -/
theorem plainWrite_live {s : State} {off : Nat} {r : RegRow} (hr : regRow s.params.profile off = some r) (hs : r.s = 0) (hc : r.c = 0)
    (h1 : r.w1c = 0) (hn : r.counts = []) (w : Word) :
    s.plainWrite off w = s.setReg off ((s.reg off &&& ~~~r.l) ||| (w &&& r.l)) := by
  have hkeep (x : Word) : x &&& 0xFFFFFFFF#32 = x := BitVec.and_allOnes
  simp [State.plainWrite, hr, hs, hc, h1, hn, hkeep]

theorem plainWrite_glbWake (s : State) (w : Word) :
    s.plainWrite rGlbWake w = s.setReg rGlbWake ((s.reg rGlbWake &&& 0xF8000000) ||| (w &&& 0x7FFFFFF)) :=
  plainWrite_live (regRow_glbWake _) rfl rfl rfl rfl w

theorem half32_write_glbWake (s : State) (rq : Rq) (w : Word) (snap : Option (Nat × Word)) :
    s.half32 rq true rGlbWake w snap
      = (s.setReg rGlbWake ((s.reg rGlbWake &&& 0xF8000000) ||| (w &&& 0x7FFFFFF)), 0, false, false) := by
  rw [half32_write_one (present_glbWake s) rfl, wordWrite_glbWake, plainWrite_glbWake]

theorem reg_setReg_same (s : State) (off : Nat) (w : Word) : (s.setReg off w).reg off = w := Tab.get_set_same ..

/-- A write leaves the listing of every other key, whatever value it takes as not listed. -/
theorem find_set_other {α : Type} [DecidableEq α] (t : Tab α) (d : α) {k j : Nat} (v : α) (h : k ≠ j) : (t.set d k v).find j = t.find j := by
  unfold Tab.set
  split
  · rw [Tab.find_drop, if_neg h]
  · rw [Tab.find_put, if_neg h]

theorem reg_setReg_other (s : State) {off o : Nat} (w : Word) (ho : o ≠ off) : (s.setReg off w).reg o = s.reg o := by
  simp [State.reg, State.setReg, Tab.get, find_set_other _ _ _ ho.symm]

/-- Settles O23: an access that R9 or the service in force forbids is refused; one in full service is a half access, whose row decides. -/
theorem registerAccessesAreAnswered : Obligations.RegisterAccessesAreAnswered := by
  refine ⟨registerWrite_off, ?form, ?early, ?absent, ?release, ?wake⟩
  case form =>
    intro s a hs hd hf
    exact registerWrite_refused s a hs hd (by rw [ctlForm_eq_false a hf, Bool.false_and])
  case early =>
    intro s a hs hd hw
    have hoff : s.service ≠ .off := by rcases hs with hs | hs <;> simp [hs]
    exact registerWrite_refused s a hoff hd (by rw [ctlServes_write_early s a hs hw, Bool.and_false])
  case absent =>
    intro s rq write addr d hp hlt hal habs
    exact registerWrite_half32 hp hlt hal (half32_absent (s := s.otherAccess) habs ..)
  case release =>
    intro s rq hp
    exact registerWrite_half32 hp (by decide) (by decide) (half32_read_glbRelease ..)
  case wake =>
    intro s rq d hp
    refine ⟨_, registerWrite_half32 hp (by decide) (by decide) (half32_write_glbWake ..), ?_⟩
    exact ⟨reg_setReg_same .., fun o ho => reg_setReg_other s.otherAccess _ ho, rfl, rfl, rfl, rfl, rfl, rfl, rfl, rfl⟩

end Sys2Proof.Proofs
end

section
/-!
The statement of 02_block_boundary.md: the integration parameters are fixed when the netlist is built, and GLB_CONFIG reports them (R56).
-/
namespace Sys2Proof.Proofs
open Sys2Proof.Machine

/-! What a step keeps. -/

/-- A command keeps the parameters, the queue and the time base, and loses no blown fuse bit. The ten that can program a fuse,
themselves or through the reset that they take, have laws of their own; the others leave even the fuse array. -/
theorem exec_kept {s t : State} : ∀ {c : Instr}, exec c s = .next t → s.Kept t
  | .registerWrite .., h => .of_still (still_execRegisterWrite _ s t h)
  | .cClassCommit .., h => .of_still (still_execCClassCommit _ s t h)
  | .powerOn, h => kept_execPowerOn s t h
  | .resetNAssert, h => kept_execResetNAssert s t h
  | .resetNRelease, h => .of_still (still_execResetNRelease s t h)
  | .stormHoldExpire, h => .of_still (still_execStormHoldExpire s t h)
  | .warmReqNAssert, h => kept_execWarmReqNAssert s t h
  | .warmFlushDone, h => kept_execWarmFlushDone s t h
  | .warmFlushOverrun, h => kept_execWarmFlushOverrun s t h
  | .fuseSenseDone .., h => .of_still (still_execFuseSenseDone _ s t h)
  | .fusePgmDone .., h => kept_execFusePgmDone _ s t h
  | .husGenerate, h => .of_still (still_execHusGenerate s t h)
  | .userAreaEraseDone .., h => .of_still (still_execUserAreaEraseDone _ _ s t h)
  | .anchorInitDone, h => .of_still (still_execAnchorInitDone s t h)
  | .snowdrop .., h => .of_still (still_execSnowdrop _ _ _ s t h)
  | .tolaroBootDone, h => .of_still (still_execTolaroBootDone s t h)
  | .rejoinReassign .., h => .of_still (still_execRejoinReassign _ s t h)
  | .watchdogExpire, h => kept_execWatchdogExpire s t h
  | .retReqRise, h => .of_still (still_execRetReqRise s t h)
  | .retentionFlushDone, h => .of_still (still_execRetentionFlushDone s t h)
  | .retReqFall, h => .of_still (still_execRetReqFall s t h)
  | .supplyWarnAssert, h => .of_still (still_execSupplyWarnAssert s t h)
  | .supplyWarnRelease, h => .of_still (still_execSupplyWarnRelease s t h)
  | .sensorCapture .., h => .of_still (still_execSensorCapture _ _ s t h)
  | .chipRstReqTimeout, h => .of_still (still_execChipRstReqTimeout s t h)
  | .powerCycleMessageResend, h => .of_still (still_execPowerCycleMessageResend s t h)
  | .trefLost, h => .of_still (still_execTrefLost s t h)
  | .trefReturn, h => .of_still (still_execTrefReturn s t h)
  | .fpLinkUpRise .., h => .of_still (still_execFpLinkUpRise _ s t h)
  | .fpLinkUpFall .., h => .of_still (still_execFpLinkUpFall _ s t h)
  | .hcLinkUpFall .., h => .of_still (still_execHcLinkUpFall _ s t h)
  | .pfenceAckRise .., h => .of_still (still_execPfenceAckRise _ s t h)
  | .pfenceAckFall .., h => .of_still (still_execPfenceAckFall _ s t h)
  | .engRstAckRise .., h => .of_still (still_execEngRstAckRise _ s t h)
  | .engRstAckFall .., h => .of_still (still_execEngRstAckFall _ s t h)
  | .cstopAckRise, h => .of_still (still_execCstopAckRise s t h)
  | .measImage .., h => .of_still (still_execMeasImage _ _ s t h)
  | .measLockRise, h => .of_still (still_execMeasLockRise s t h)
  | .measDiscardAfterLock, h => .of_still (still_execMeasDiscardAfterLock s t h)
  | .dtEnable .., h => .of_still (still_execDtEnable _ _ _ s t h)
  | .dtDisable .., h => .of_still (still_execDtDisable _ s t h)
  | .syncInterval, h => .of_still (still_execSyncInterval s t h)
  | .pdelayReqInterval, h => .of_still (still_execPdelayReqInterval s t h)
  | .announceInterval, h => .of_still (still_execAnnounceInterval s t h)
  | .ptpMessage .., h => .of_still (still_execPtpMessage _ _ _ _ _ s t h)
  | .txTimestampReturn .., h => .of_still (still_execTxTimestampReturn _ _ s t h)
  | .txTimestampTimeout .., h => .of_still (still_execTxTimestampTimeout _ s t h)
  | .syncTimeout, h => .of_still (still_execSyncTimeout s t h)
  | .holdoverLimitExpire, h => .of_still (still_execHoldoverLimitExpire s t h)
  | .holdoverBoundExpire, h => .of_still (still_execHoldoverBoundExpire s t h)
  | .backupGmTakeover, h => .of_still (still_execBackupGmTakeover s t h)
  | .schedCommit .., h => .of_still (still_execSchedCommit _ s t h)
  | .schedEpoch .., h => .of_still (still_execSchedEpoch _ s t h)
  | .schedResalt .., h => .of_still (still_execSchedResalt _ s t h)
  | .schedStop .., h => .of_still (still_execSchedStop _ s t h)
  | .schedResume .., h => .of_still (still_execSchedResume _ s t h)
  | .schedTraceTrig .., h => .of_still (still_execSchedTraceTrig _ s t h)
  | .schedDump .., h => .of_still (still_execSchedDump _ s t h)
  | .schedTrigOut .., h => .of_still (still_execSchedTrigOut _ s t h)
  | .trigPulseEnd .., h => .of_still (still_execTrigPulseEnd _ s t h)
  | .stopMarkerSend .., h => .of_still (still_execStopMarkerSend _ _ s t h)
  | .stopMarkerRx .., h => .of_still (still_execStopMarkerRx _ _ _ s t h)
  | .stopMarkerTimeout .., h => .of_still (still_execStopMarkerTimeout _ s t h)
  | .domainSchedEntryRx .., h => .of_still (still_execDomainSchedEntryRx _ _ _ s t h)
  | .domainSchedCancelRx .., h => .of_still (still_execDomainSchedCancelRx _ _ _ s t h)
  | .rngStartupPass, h => .of_still (still_execRngStartupPass s t h)
  | .healthTestWindow .., h => .of_still (still_execHealthTestWindow _ s t h)
  | .drbgReseed, h => .of_still (still_execDrbgReseed s t h)
  | .slotRetireComplete .., h => .of_still (still_execSlotRetireComplete _ _ _ s t h)
  | .slotRelease .., h => .of_still (still_execSlotRelease _ s t h)
  | .derivationDone .., h => .of_still (still_execDerivationDone _ _ _ _ s t h)
  | .cceMessageDone .., h => .of_still (still_execCceMessageDone _ _ s t h)
  | .pkeOpDone .., h => .of_still (still_execPkeOpDone _ s t h)
  | .mldsaSignRestart, h => .of_still (still_execMldsaSignRestart s t h)
  | .resealRegion .., h => .of_still (still_execResealRegion _ _ _ s t h)
  | .mnRead .., h => .of_still (still_execMnRead _ _ _ s t h)
  | .mnWrite .., h => .of_still (still_execMnWrite _ _ _ _ _ s t h)
  | .mnScalarAtomic .., h => .of_still (still_execMnScalarAtomic _ _ _ _ _ s t h)
  | .mnVectorAccumulate .., h => .of_still (still_execMnVectorAccumulate _ _ _ _ _ s t h)
  | .msReadResponse .., h => .of_still (still_execMsReadResponse _ _ _ _ _ _ s t h)
  | .msWriteAck .., h => .of_still (still_execMsWriteAck _ _ _ s t h)
  | .accessVerifyDone .., h => .of_still (still_execAccessVerifyDone _ s t h)
  | .sectorLockGrant .., h => .of_still (still_execSectorLockGrant _ s t h)
  | .metadataWriteBack .., h => .of_still (still_execMetadataWriteBack _ s t h)
  | .anchorPatrol .., h => .of_still (still_execAnchorPatrol _ _ s t h)
  | .anchorRestore .., h => .of_still (still_execAnchorRestore _ s t h)
  | .mergeIdleWriteBack .., h => .of_still (still_execMergeIdleWriteBack _ _ _ s t h)
  | .egressRelease .., h => .of_still (still_execEgressRelease _ s t h)
  | .laneGate .., h => .of_still (still_execLaneGate _ s t h)
  | .laneWake, h => .of_still (still_execLaneWake s t h)
  | .ratomicRequestRx .., h => .of_still (still_execRatomicRequestRx _ _ _ s t h)
  | .outcomeQueryRx .., h => .of_still (still_execOutcomeQueryRx _ _ s t h)
  | .ratomicReplyRx .., h => .of_still (still_execRatomicReplyRx _ _ s t h)
  | .ratomicRetry .., h => .of_still (still_execRatomicRetry _ _ s t h)
  | .ratomicDeadline .., h => .of_still (still_execRatomicDeadline _ _ s t h)
  | .memoEntryExpire .., h => .of_still (still_execMemoEntryExpire _ _ _ s t h)
  | .remoteRwRequestRx .., h => .of_still (still_execRemoteRwRequestRx _ _ s t h)
  | .contributionRx .., h => .of_still (still_execContributionRx _ _ _ _ _ s t h)
  | .contributionAckRx .., h => .of_still (still_execContributionAckRx _ _ _ s t h)
  | .contributionResend .., h => .of_still (still_execContributionResend _ _ _ _ s t h)
  | .reductionTimeout .., h => .of_still (still_execReductionTimeout _ _ s t h)
  | .resultChunkRx .., h => .of_still (still_execResultChunkRx _ _ _ _ _ _ s t h)
  | .resultAckRx .., h => .of_still (still_execResultAckRx _ _ _ _ s t h)
  | .resultChunkResend .., h => .of_still (still_execResultChunkResend _ _ _ s t h)
  | .resultChunkGiveUp .., h => .of_still (still_execResultChunkGiveUp _ _ _ s t h)
  | .resultLedgerExpire .., h => .of_still (still_execResultLedgerExpire _ _ _ _ s t h)
  | .sessionSetupStart .., h => .of_still (still_execSessionSetupStart _ _ s t h)
  | .sessionSetupTimeout .., h => .of_still (still_execSessionSetupTimeout _ _ s t h)
  | .sessionRetryBackoff .., h => .of_still (still_execSessionRetryBackoff _ _ s t h)
  | .openRx .., h => .of_still (still_execOpenRx _ _ s t h)
  | .closeRx .., h => .of_still (still_execCloseRx _ _ _ s t h)
  | .closingTimeout .., h => .of_still (still_execClosingTimeout _ _ s t h)
  | .lnkEnable .., h => .of_still (still_execLnkEnable _ _ s t h)
  | .lnkDisable .., h => .of_still (still_execLnkDisable _ _ s t h)
  | .keepaliveTx .., h => .of_still (still_execKeepaliveTx _ _ s t h)
  | .keepaliveRx .., h => .of_still (still_execKeepaliveRx _ _ _ s t h)
  | .keepaliveTimeout .., h => .of_still (still_execKeepaliveTimeout _ _ s t h)
  | .memberLostNoticeRx .., h => .of_still (still_execMemberLostNoticeRx _ _ _ _ s t h)
  | .frameEnqueue .., h => .of_still (still_execFrameEnqueue _ _ s t h)
  | .frameSeal .., h => .of_still (still_execFrameSeal _ s t h)
  | .txStall .., h => .of_still (still_execTxStall _ s t h)
  | .coverSlot .., h => .of_still (still_execCoverSlot _ s t h)
  | .epochCountLimit .., h => .of_still (still_execEpochCountLimit _ _ s t h)
  | .epochChangeDeferred .., h => .of_still (still_execEpochChangeDeferred _ _ s t h)
  | .rxEpochRetire .., h => .of_still (still_execRxEpochRetire _ _ s t h)
  | .flowEntryTimeout .., h => .of_still (still_execFlowEntryTimeout _ _ s t h)
  | .flowEntryGrant .., h => .of_still (still_execFlowEntryGrant _ s t h)
  | .getVersion .., h => .of_still (still_execGetVersion _ s t h)
  | .getCapabilities .., h => .of_still (still_execGetCapabilities _ s t h)
  | .negotiateAlgorithms .., h => .of_still (still_execNegotiateAlgorithms _ _ s t h)
  | .getDigests .., h => .of_still (still_execGetDigests _ s t h)
  | .getCertificate .., h => .of_still (still_execGetCertificate _ _ s t h)
  | .challenge .., h => .of_still (still_execChallenge _ _ s t h)
  | .getMeasurements .., h => .of_still (still_execGetMeasurements _ _ _ s t h)
  | .keyExchange .., h => .of_still (still_execKeyExchange _ _ s t h)
  | .finish .., h => .of_still (still_execFinish _ _ _ s t h)
  | .endSession .., h => .of_still (still_execEndSession _ _ s t h)
  | .heartbeat .., h => .of_still (still_execHeartbeat _ _ s t h)
  | .heartbeatLoss .., h => .of_still (still_execHeartbeatLoss _ _ s t h)
  | .keyUpdate .., h => .of_still (still_execKeyUpdate _ _ s t h)
  | .getCsr .., h => .of_still (still_execGetCsr _ _ s t h)
  | .setCertificate .., h => .of_still (still_execSetCertificate _ _ _ s t h)
  | .spdmCarriageRx .., h => .of_still (still_execSpdmCarriageRx _ _ s t h)
  | .linkBind .., h => .of_still (still_execLinkBind _ _ _ _ s t h)
  | .amend .., h => .of_still (still_execAmend _ _ _ s t h)
  | .amendFetch .., h => .of_still (still_execAmendFetch _ _ _ s t h)
  | .provision .., h => .of_still (still_execProvision _ _ _ _ s t h)
  | .doeObjectRx .., h => .of_still (still_execDoeObjectRx _ _ _ s t h)
  | .doeAbort .., h => .of_still (still_execDoeAbort _ s t h)
  | .configRequestRx .., h => .of_still (still_execConfigRequestRx _ _ _ _ _ _ s t h)
  | .hostTlpTx .., h => .of_still (still_execHostTlpTx _ _ s t h)
  | .hostTlpRx .., h => .of_still (still_execHostTlpRx _ _ s t h)
  | .ideKmQuery .., h => .of_still (still_execIdeKmQuery _ _ s t h)
  | .ideKmKeyProg .., h => .of_still (still_execIdeKmKeyProg _ _ _ _ _ _ _ s t h)
  | .ideKmKSetGo .., h => .of_still (still_execIdeKmKSetGo _ _ _ _ _ _ s t h)
  | .ideKmKSetStop .., h => .of_still (still_execIdeKmKSetStop _ _ _ _ _ _ s t h)
  | .getTdispVersion .., h => .of_still (still_execGetTdispVersion _ _ _ s t h)
  | .getTdispCapabilities .., h => .of_still (still_execGetTdispCapabilities _ _ _ s t h)
  | .lockInterfaceRequest .., h => .of_still (still_execLockInterfaceRequest _ _ _ s t h)
  | .getDeviceInterfaceReport .., h => .of_still (still_execGetDeviceInterfaceReport _ _ _ s t h)
  | .getDeviceInterfaceState .., h => .of_still (still_execGetDeviceInterfaceState _ _ _ s t h)
  | .startInterfaceRequest .., h => .of_still (still_execStartInterfaceRequest _ _ _ s t h)
  | .stopInterfaceRequest .., h => .of_still (still_execStopInterfaceRequest _ _ _ s t h)
  | .tdispUnsupportedRequest .., h => .of_still (still_execTdispUnsupportedRequest _ _ _ s t h)
  | .functionLevelReset .., h => .of_still (still_execFunctionLevelReset _ _ s t h)
  | .translationCompletion .., h => .of_still (still_execTranslationCompletion _ _ _ _ s t h)
  | .translationTimeout .., h => .of_still (still_execTranslationTimeout _ _ s t h)
  | .atsInvalidateRequest .., h => .of_still (still_execAtsInvalidateRequest _ _ _ _ _ _ s t h)
  | .invalidationComplete .., h => .of_still (still_execInvalidationComplete _ _ s t h)
  | .prgResponse .., h => .of_still (still_execPrgResponse _ _ _ s t h)
  | .priTimeout .., h => .of_still (still_execPriTimeout _ s t h)
  | .tileOpen .., h => .of_still (still_execTileOpen _ _ s t h)
  | .tileClose .., h => .of_still (still_execTileClose _ _ s t h)
  | .submissionDoorbell .., h => .of_still (still_execSubmissionDoorbell _ _ _ _ _ s t h)
  | .replyDoorbell .., h => .of_still (still_execReplyDoorbell _ _ _ _ _ s t h)
  | .hostQueueEnable .., h => .of_still (still_execHostQueueEnable _ _ s t h)
  | .hostQueueDisable .., h => .of_still (still_execHostQueueDisable _ _ s t h)
  | .mailboxSecuredMessage .., h => kept_execMailboxSecuredMessage _ _ _ _ _ _ _ s t h
  | .storedReplyExpire .., h => .of_still (still_execStoredReplyExpire _ _ s t h)
  | .nop .., h => .of_still (still_execNop _ s t h)
  | .identify .., h => .of_still (still_execIdentify _ s t h)
  | .carry hd sid ra rl pa pl mx o, h => .of_still (still_execCarry hd sid ra rl pa pl mx o s t h)
  | .replyPoll .., h => .of_still (still_execReplyPoll _ _ s t h)
  | .partAssign .., h => .of_still (still_execPartAssign _ _ _ _ _ _ _ _ _ _ _ _ s t h)
  | .partRelease .., h => .of_still (still_execPartRelease _ _ s t h)
  | .partShare .., h => .of_still (still_execPartShare _ _ s t h)
  | .regionAdd .., h => .of_still (still_execRegionAdd _ _ _ s t h)
  | .regionRearm .., h => .of_still (still_execRegionRearm _ _ s t h)
  | .partPolicy .., h => .of_still (still_execPartPolicy _ _ s t h)
  | .manifestStage .., h => .of_still (still_execManifestStage _ _ _ s t h)
  | .domainTeardown .., h => .of_still (still_execDomainTeardown _ s t h)
  | .ctxCreate .., h => .of_still (still_execCtxCreate _ _ _ _ s t h)
  | .ctxDestroy .., h => .of_still (still_execCtxDestroy _ _ s t h)
  | .teardownDrainEnd .., h => .of_still (still_execTeardownDrainEnd _ s t h)
  | .queueCreate .., h => .of_still (still_execQueueCreate _ _ _ _ _ _ _ s t h)
  | .queueDestroy .., h => .of_still (still_execQueueDestroy _ _ _ s t h)
  | .objAlloc .., h => .of_still (still_execObjAlloc _ _ _ s t h)
  | .objFree .., h => .of_still (still_execObjFree _ _ _ s t h)
  | .freeRetire .., h => .of_still (still_execFreeRetire _ _ s t h)
  | .objQuery .., h => .of_still (still_execObjQuery _ _ _ s t h)
  | .ratomic .., h => .of_still (still_execRatomic _ _ _ _ _ _ _ _ _ s t h)
  | .raccum .., h => .of_still (still_execRaccum _ _ _ _ _ _ _ _ _ _ _ _ s t h)
  | .outcomeQuery .., h => .of_still (still_execOutcomeQuery _ _ _ _ s t h)
  | .outcomeQueryResend .., h => .of_still (still_execOutcomeQueryResend _ _ s t h)
  | .reduceContrib .., h => .of_still (still_execReduceContrib _ _ _ _ _ _ _ _ _ s t h)
  | .fenceCreate .., h => .of_still (still_execFenceCreate _ _ s t h)
  | .fenceSignal .., h => .of_still (still_execFenceSignal _ _ _ s t h)
  | .fenceWait .., h => .of_still (still_execFenceWait _ _ s t h)
  | .fenceReset .., h => .of_still (still_execFenceReset _ _ s t h)
  | .fenceDestroy .., h => .of_still (still_execFenceDestroy _ _ s t h)
  | .fenceShare .., h => .of_still (still_execFenceShare _ _ _ s t h)
  | .domainFenceSignalRx .., h => .of_still (still_execDomainFenceSignalRx _ _ _ _ _ _ _ _ s t h)
  | .keyReseal .., h => .of_still (still_execKeyReseal _ s t h)
  | .keyAttest .., h => .of_still (still_execKeyAttest _ _ _ s t h)
  | .keyControlGen .., h => .of_still (still_execKeyControlGen _ _ _ _ s t h)
  | .keyImport .., h => .of_still (still_execKeyImport _ _ _ _ _ s t h)
  | .keyWrap .., h => .of_still (still_execKeyWrap _ _ _ s t h)
  | .keyUnwrap .., h => .of_still (still_execKeyUnwrap _ _ _ s t h)
  | .keyRetire .., h => .of_still (still_execKeyRetire _ _ s t h)
  | .cceOp .., h => .of_still (still_execCceOp _ _ _ _ _ _ _ _ _ s t h)
  | .saSeed .., h => .of_still (still_execSaSeed _ _ s t h)
  | .saStep .., h => .of_still (still_execSaStep _ _ s t h)
  | .schedArm .., h => .of_still (still_execSchedArm _ _ s t h)
  | .schedCancel .., h => .of_still (still_execSchedCancel _ _ _ s t h)
  | .cntRead .., h => .of_still (still_execCntRead _ _ _ s t h)
  | .traceCfg .., h => .of_still (still_execTraceCfg _ _ _ _ _ _ _ s t h)
  | .traceStart .., h => .of_still (still_execTraceStart _ _ s t h)
  | .traceStop .., h => .of_still (still_execTraceStop _ _ s t h)
  | .traceTriggerNow .., h => .of_still (still_execTraceTriggerNow _ _ s t h)
  | .traceReleaseFreeze .., h => .of_still (still_execTraceReleaseFreeze _ _ s t h)
  | .traceSectorTimeout .., h => .of_still (still_execTraceSectorTimeout _ _ s t h)
  | .tensorReg .., h => .of_still (still_execTensorReg _ _ _ _ s t h)
  | .dumpChunkCapture .., h => .of_still (still_execDumpChunkCapture _ _ _ s t h)
  | .dumpStepTimeout .., h => .of_still (still_execDumpStepTimeout _ _ s t h)
  | .pressRead .., h => .of_still (still_execPressRead _ _ _ s t h)
  | .pressRelease .., h => .of_still (still_execPressRelease _ s t h)
  | .pressFlush, h => .of_still (still_execPressFlush s t h)
  | .rstContext .., h => .of_still (still_execRstContext _ _ s t h)
  | .rstEngine .., h => .of_still (still_execRstEngine _ _ s t h)
  | .rstPartition .., h => .of_still (still_execRstPartition _ s t h)
  | .rstWarm .., h => kept_execRstWarm _ s t h
  | .rstChip .., h => .of_still (still_execRstChip _ s t h)
  | .pwrCycle .., h => .of_still (still_execPwrCycle _ s t h)
  | .escalationDeadline .., h => .of_still (still_execEscalationDeadline _ _ s t h)
  | .scrubStepDone .., h => .of_still (still_execScrubStepDone _ s t h)
  | .zeroFillRegion .., h => .of_still (still_execZeroFillRegion _ _ s t h)
  | .lcTransition .., h => .of_still (still_execLcTransition _ _ _ s t h)
  | .dbgChallenge .., h => .of_still (still_execDbgChallenge _ _ s t h)
  | .dbgToken .., h => .of_still (still_execDbgToken _ _ s t h)
  | .challengeExpire, h => .of_still (still_execChallengeExpire s t h)
  | .debugHalt .., h => .of_still (still_execDebugHalt _ _ s t h)
  | .debugStep .., h => .of_still (still_execDebugStep _ s t h)
  | .sgEnable .., h => .of_still (still_execSgEnable _ _ s t h)
  | .sgDisable .., h => .of_still (still_execSgDisable _ _ s t h)
  | .allocDoorbell .., h => .of_still (still_execAllocDoorbell _ _ _ _ _ s t h)
  | .allocDoorbellDone .., h => .of_still (still_execAllocDoorbellDone _ _ s t h)
  | .faultQueueDoorbell .., h => .of_still (still_execFaultQueueDoorbell _ _ _ s t h)
  | .contextRestore .., h => .of_still (still_execContextRestore _ s t h)
  | .obsMark .., h => .of_still (still_execObsMark _ _ _ _ s t h)
  | .quantisationInstant, h => .of_still (still_execQuantisationInstant s t h)
  | .setEndpointId .., h => .of_still (still_execSetEndpointId _ _ s t h)
  | .getEndpointId, h => .of_still (still_execGetEndpointId s t h)
  | .getEndpointUuid, h => .of_still (still_execGetEndpointUuid s t h)
  | .getMctpVersionSupport, h => .of_still (still_execGetMctpVersionSupport s t h)
  | .getMessageTypeSupport, h => .of_still (still_execGetMessageTypeSupport s t h)
  | .entdaa .., h => .of_still (still_execEntdaa _ s t h)
  | .hotJoinRequest, h => .of_still (still_execHotJoinRequest s t h)
  | .setMaxLength .., h => .of_still (still_execSetMaxLength _ _ s t h)
  | .cstopAckFall, h => .of_still (still_execCstopAckFall s t h)
  | .warmReqNRelease, h => .of_still (still_execWarmReqNRelease s t h)
  | .vddRetRemove, h => kept_execVddRetRemove s t h
  | .hcLinkUpRise .., h => .of_still (still_execHcLinkUpRise _ s t h)
  | .frameRxDiscard .., h => .of_still (still_execFrameRxDiscard _ _ s t h)
  | .frameRoute .., h => .of_still (still_execFrameRoute _ _ _ s t h)
  | .lockstepMismatch, h => .of_still (still_execLockstepMismatch s t h)

theorem still_setTref {s t : State} (h : t.still = s.still) (n : Nat) : { t with tref := n }.still = { s with tref := n }.still :=
  congrArg (fun x => (x.1, x.2.1, n, x.2.2.2)) h

/-- A TREF edge counts the time base and keeps the rest. -/
theorem still_trefEdge (s : State) : s.trefEdge.still = { s with tref := s.tref + 1 }.still :=
  (still_each _ _ _ still_State_tickPort).trans (still_setTref (still_State_tickDt s) _)

/-- An idle step keeps the parameters, the queue and the fuses; the time base stays or counts one. -/
theorem still_tick (s : State) : (tick s).still = s.still ∨ (tick s).still = { s with tref := s.tref + 1 }.still := by
  unfold tick
  extract_lets t u v
  have hbeat : u.still = s.still := still_each _ _ _ still_State_tickBeat
  have hresume : (each parts16 State.resumeGo v).lowerCstop.still = v.still :=
    (still_State_lowerCstop _).trans (still_each _ _ _ still_State_resumeGo)
  split
  · exact .inr rfl
  · rw [hresume]
    unfold v
    split
    · have htref : u.tref = s.tref := congrArg (fun x => x.2.2.1) hbeat
      exact .inr (by rw [still_trefEdge, still_setTref hbeat, htref])
    · exact .inl hbeat

theorem tick_params (s : State) : (tick s).params = s.params :=
  (still_tick s).elim (congrArg Prod.fst) (congrArg Prod.fst)

theorem step_params {s t : State} (h : step s = .next t) : t.params = s.params := by
  unfold step at h
  split at h
  · cases h
    exact tick_params s
  · exact (exec_kept h).1

/-! A read of GLB_CONFIG. -/

theorem present_glbConfig (s : State) :
    s.present rGlbConfig = some ⟨0x000008, 1, 0x0, 1, 0x0, .one, 0, 0, 0, 0, [], 0, 0, 0⟩ :=
  (present_glb s (by decide)).trans (by decide)

theorem view_glbConfig (s : State) (rq : Rq) : s.view rq rGlbConfig = s.glbConfig := rfl

theorem half32_read_glbConfig (s : State) (rq : Rq) (w : Word) (snap : Option (Nat × Word)) :
    s.half32 rq false rGlbConfig w snap = (s, s.glbConfig, false, false) := by
  rw [half32_read_one (present_glbConfig s) rfl (by decide), view_glbConfig]

/-- Every service but that of the reset serves an aligned read of the GLB window (R4, R532). -/
theorem ctlServes_read_glb (s : State) (a : Access) (hs : s.service ≠ .off) (hw : a.write = false) (ha : a.addr < 0x10000) :
    s.ctlServes a = true := by
  have hmod : a.addr % 0x400000 < 0x10000 := by omega
  unfold State.ctlServes
  split
  · exact absurd ‹_› hs
  · simp [hw, hmod]
  · simp [hw, hmod]
  · rfl

/-- An access that the control port serves answers what the access gives. -/
theorem registerWrite_served {s : State} {a : Access} (hs : s.service ≠ .off) (hd : a.rq.dbg = false) (hf : ctlForm a = true)
    (hv : s.ctlServes a = true) {t : State} {v : DWord} {e : Bool}
    (hx : s.access (rqOf a.rq) a.write (a.addr % 0x400000) a.size a.wdata = (t, v, e)) :
    exec (.registerWrite a) s = .next (t.emit (.ctl v e)) := by
  simp [exec_registerWrite, execRegisterWrite, hs, hd, hf, hv, hx]

/-- A read of GLB_CONFIG changes nothing but what every access does, and its word does not depend on that. -/
theorem access_read_glbConfig (s : State) {rq : Rq} (hd : rq.dbg = false) (v : DWord) :
    s.access rq false rGlbConfig 32 v = (s.otherAccess, s.glbConfig.setWidth 64, false) := by
  have hword : s.otherAccess.glbConfig = s.glbConfig := rfl
  simp [State.access, hd, half32_read_glbConfig, hword, when]

theorem registerWrite_read_glbConfig (s : State) (hs : s.service ≠ .off) :
    exec (.registerWrite { rq := ⟨false, 0, 0⟩, write := false, addr := rGlbConfig, size := 32, wdata := 0 }) s
      = .next (s.otherAccess.emit (.ctl (s.glbConfig.setWidth 64) false)) :=
  registerWrite_served hs rfl (by decide) (ctlServes_read_glb s _ hs rfl (by decide)) (access_read_glbConfig s rfl 0)

/-! The fields of GLB_CONFIG. -/

theorem toNat_put {lo v : Nat} (h : v * 2 ^ lo < 2 ^ 32) : (put lo v).toNat = v * 2 ^ lo := by
  rw [put, BitVec.toNat_ofNat, Nat.mod_eq_of_lt h]

theorem putB_eq_put (b : Bool) {lo : Nat} : putB lo b = put lo b.toNat := by
  cases b
  · simp [putB, put]
  · exact BitVec.eq_of_toNat_eq (by simp [putB, put])

/-- A value placed above a word's bits adds to it. -/
theorem toNat_put_or {lo v : Nat} {w : Word} (hv : v * 2 ^ lo < 2 ^ 32) (hw : w.toNat < 2 ^ lo) :
    (put lo v ||| w).toNat = v * 2 ^ lo + w.toNat := by
  rw [BitVec.toNat_or, toNat_put hv, Nat.mul_comm, Nat.two_pow_add_eq_or_of_lt hw]

/-- Within their ranges (R56) the counts and the anchor span stand side by side in GLB_CONFIG. -/
theorem toNat_glbConfig (s : State) (hsg : s.params.sgCount ≤ 8) (hfp : s.params.fpCount ≤ 18) (hhc : s.params.hcCount ≤ 2) :
    s.glbConfig.toNat
      = s.params.span8.toNat * 2 ^ 11 + (s.params.hcCount * 2 ^ 9 + (s.params.fpCount * 2 ^ 4 + s.params.sgCount * 2 ^ 0)) := by
  have hspan := Bool.toNat_le s.params.span8
  have h0 : (put 0 s.params.sgCount).toNat = s.params.sgCount * 2 ^ 0 := toNat_put (by omega)
  have h4 := toNat_put_or (lo := 4) (v := s.params.fpCount) (w := put 0 s.params.sgCount) (by omega) (by omega)
  have h9 := toNat_put_or (lo := 9) (v := s.params.hcCount) (w := put 4 s.params.fpCount ||| put 0 s.params.sgCount) (by omega) (by omega)
  rw [State.glbConfig, putB_eq_put, BitVec.or_assoc, BitVec.or_assoc, toNat_put_or (by omega) (by omega), h9, h4, h0]

theorem glbConfig_fields (s : State) (hsg : s.params.sgCount ≤ 8) (hfp : s.params.fpCount ≤ 18) (hhc : s.params.hcCount ≤ 2) :
    bits s.glbConfig 3 0 = s.params.sgCount ∧ bits s.glbConfig 8 4 = s.params.fpCount ∧ bits s.glbConfig 10 9 = s.params.hcCount
      ∧ bit s.glbConfig 11 = s.params.span8 := by
  have hword := toNat_glbConfig s hsg hfp hhc
  refine ⟨?sg, ?fp, ?hc, ?span⟩
  case sg => unfold bits; omega
  case fp => unfold bits; omega
  case hc => unfold bits; omega
  case span =>
    rw [bit, BitVec.getLsbD, Nat.testBit_eq_decide_div_mod_eq]
    have hspan := Bool.toNat_le s.params.span8
    have hdiv : s.glbConfig.toNat / 2 ^ 11 % 2 = s.params.span8.toNat := by omega
    rw [hdiv]
    cases s.params.span8 <;> rfl

/-- Settles O2: a command keeps the parameters by its own law and an idle step by that of the tick; the read and the fields follow from
the row and the layout of GLB_CONFIG. -/
theorem netlistParametersFixed : Obligations.NetlistParametersFixed :=
  ⟨fun _ _ => step_params, fun s hs => ⟨_, registerWrite_read_glbConfig s hs, rfl⟩, glbConfig_fields⟩

end Sys2Proof.Proofs
end

section
/-!
The statements about every step: the front command runs, nothing stops the block, no blown fuse bit is lost and the fuse array keeps its
form (R94, R459), no command writes the queue or the time base, and the frames of the commands outside bring-up (chapters 13 and 14) and
of those that concern one unit only.
-/
namespace Sys2Proof.Proofs
open Sys2Proof Sys2Proof.Machine

theorem step_idle {s : State} (h : s.pending = []) : step s = .next (tick s) := by simp [step, h]

theorem step_front {s : State} {c : Instr} {rest : List Instr} (h : s.pending = c :: rest) :
    step s = exec c { s with pending := rest, out := [] } := by simp [step, h]

/-- Settles O1: it is the step on a queue that is not empty. -/
theorem stepRunsFrontCommand : Obligations.StepRunsFrontCommand := fun _ _ _ h => step_front h

/-! Every command answers a next state. -/

theorem bareCommand_goesOn (opc : Nat) (h : Hdr) (s : State) : ∃ t, bareCommand opc h s = .next t := by
  unfold bareCommand
  split_ifs
  case neg => split <;> exact ⟨_, rfl⟩
  all_goals exact ⟨_, rfl⟩

theorem mailboxSecuredMessage_goesOn (tr : Transport) (sid : Nat) (v : Bool) (i : Issuer) (part : Nat) (seq : Word) (opc : Nat) (s : State) :
    ∃ t, execMailboxSecuredMessage tr sid v i part seq opc s = .next t := by
  cases tr <;> cases v
  case mgmt.true => exact bareCommand_goesOn ..
  case doe.true => exact bareCommand_goesOn ..
  all_goals exact ⟨_, rfl⟩

theorem exec_goesOn (c : Instr) (s : State) : ∃ t, exec c s = .next t := by
  cases c with
  | mailboxSecuredMessage => exact mailboxSecuredMessage_goesOn ..
  | _ => exact ⟨_, rfl⟩

/-- Settles O6: every command answers a next state, and so does the idle step. -/
theorem everyStepGoesOn : Obligations.EveryStepGoesOn := by
  refine ⟨fun s => ?_, exec_goesOn⟩
  cases h : s.pending with
  | nil => exact ⟨_, step_idle h⟩
  | cons c rest =>
    rw [step_front h]
    exact exec_goesOn ..

/-! The fuses. -/

theorem fuse_of_still {s t : State} (h : t.still = s.still) : t.fuse = s.fuse := congrArg (fun x => x.2.2.2) h

theorem pending_of_still {s t : State} (h : t.still = s.still) : t.pending = s.pending := congrArg (fun x => x.2.1) h

theorem tref_of_still {s t : State} (h : t.still = s.still) : t.tref = s.tref := congrArg (fun x => x.2.2.1) h

theorem tick_fuse (s : State) : (tick s).fuse = s.fuse :=
  (still_tick s).elim fuse_of_still (fuse_of_still (s := { s with tref := s.tref + 1 }))

/-- On every step the fuse array keeps its form and each of its words every bit that it had. -/
theorem step_keeps_fuses {s t : State} (h : step s = .next t) :
    (∀ w, s.fuseW w &&& t.fuseW w = s.fuseW w) ∧ (Tab.wf 0 s.fuse = true → Tab.wf 0 t.fuse = true) := by
  cases hq : s.pending with
  | nil =>
    rw [step_idle hq] at h
    cases h
    exact ⟨fun w => by rw [State.fuseW, State.fuseW, tick_fuse, BitVec.and_self], fun hw => by rwa [tick_fuse]⟩
  | cons c rest =>
    rw [step_front hq] at h
    obtain ⟨_, _, _, hbits, hwf⟩ := exec_kept h
    exact ⟨hbits, hwf⟩

/-- A word that keeps every bit of another has each of its set bits. -/
theorem bit_of_and_eq {a b : Word} (h : a &&& b = a) {i : Nat} (hi : bit a i = true) : bit b i = true := by
  unfold bit at hi ⊢
  rw [← h, BitVec.getLsbD_and, Bool.and_eq_true] at hi
  exact hi.2

/-- Settles O3, from what every step keeps of each word of the fuse array. -/
theorem blownFuseBitsStayBlown : Obligations.BlownFuseBitsStayBlown :=
  fun _ _ h w _ hi => bit_of_and_eq ((step_keeps_fuses h).1 w) hi

/-- Settles O4. -/
theorem fuseArrayStaysCanonical : Obligations.FuseArrayStaysCanonical := fun _ _ hw h => (step_keeps_fuses h).2 hw

/-! The queue and the time base. -/

/-- An idle step leaves bring-up and life-cycle state. -/
theorem tick_boot (s : State) : (tick s).boot = s.boot := by
  unfold tick
  extract_lets t u v
  have hbeat : u.calm = s.calm := calm_each _ _ _ calm_State_tickBeat
  have hedge : v.calm = u.calm := by
    unfold v
    split
    · exact (calm_each _ _ _ calm_State_tickPort).trans (calm_State_tickDt u)
    · rfl
  split
  · rfl
  · exact ((calm_State_lowerCstop _).trans (calm_each _ _ _ calm_State_resumeGo)).trans (hedge.trans hbeat)

theorem tick_pending (s : State) : (tick s).pending = s.pending :=
  (still_tick s).elim pending_of_still (pending_of_still (s := { s with tref := s.tref + 1 }))

theorem tick_tref (s : State) : (tick s).tref = s.tref ∨ (tick s).tref = s.tref + 1 :=
  (still_tick s).imp tref_of_still (tref_of_still (s := { s with tref := s.tref + 1 }))

theorem tick_off (s : State) (h : s.service = .off) : tick s = { s with out := [], tref := s.tref + 1 } := by simp [tick, h]

/-- Settles O5: a command keeps both by its law; an idle step has the law of the tick, which in reset is one TREF period. -/
theorem commandsLeaveQueueAndTimeBase : Obligations.CommandsLeaveQueueAndTimeBase := by
  refine ⟨fun c s t h => ?_, fun s t hq h => ?_⟩
  · obtain ⟨_, hpend, htref, _⟩ := exec_kept h
    exact ⟨hpend, htref⟩
  · rw [step_idle hq] at h
    cases h
    have htref := tick_tref s
    exact ⟨(tick_pending s).trans hq, by omega, by omega, tick_fuse s, tick_boot s, fun ho => by rw [tick_off s ho]⟩

/-! Frames. -/

/-- A command outside `touchesLifeCycle` keeps bring-up, life-cycle and debug state by its law of Laws/Calm.lean, and the fuses by that of
Laws/StillCommands.lean. -/
theorem exec_calm_still {c : Instr} {s t : State} (hc : touchesLifeCycle c = false) (h : exec c s = .next t) :
    t.calm = s.calm ∧ t.still = s.still := by
  cases c with
  | cClassCommit => exact ⟨calm_execCClassCommit _ s t h, still_execCClassCommit _ s t h⟩
  | rejoinReassign => exact ⟨calm_execRejoinReassign _ s t h, still_execRejoinReassign _ s t h⟩
  | supplyWarnAssert => exact ⟨calm_execSupplyWarnAssert s t h, still_execSupplyWarnAssert s t h⟩
  | powerCycleMessageResend => exact ⟨calm_execPowerCycleMessageResend s t h, still_execPowerCycleMessageResend s t h⟩
  | trefLost => exact ⟨calm_execTrefLost s t h, still_execTrefLost s t h⟩
  | fpLinkUpRise => exact ⟨calm_execFpLinkUpRise _ s t h, still_execFpLinkUpRise _ s t h⟩
  | fpLinkUpFall => exact ⟨calm_execFpLinkUpFall _ s t h, still_execFpLinkUpFall _ s t h⟩
  | hcLinkUpFall => exact ⟨calm_execHcLinkUpFall _ s t h, still_execHcLinkUpFall _ s t h⟩
  | pfenceAckRise => exact ⟨calm_execPfenceAckRise _ s t h, still_execPfenceAckRise _ s t h⟩
  | pfenceAckFall => exact ⟨calm_execPfenceAckFall _ s t h, still_execPfenceAckFall _ s t h⟩
  | engRstAckRise => exact ⟨calm_execEngRstAckRise _ s t h, still_execEngRstAckRise _ s t h⟩
  | engRstAckFall => exact ⟨calm_execEngRstAckFall _ s t h, still_execEngRstAckFall _ s t h⟩
  | cstopAckRise => exact ⟨calm_execCstopAckRise s t h, still_execCstopAckRise s t h⟩
  | measImage => exact ⟨calm_execMeasImage _ _ s t h, still_execMeasImage _ _ s t h⟩
  | measLockRise => exact ⟨calm_execMeasLockRise s t h, still_execMeasLockRise s t h⟩
  | measDiscardAfterLock => exact ⟨calm_execMeasDiscardAfterLock s t h, still_execMeasDiscardAfterLock s t h⟩
  | dtEnable => exact ⟨calm_execDtEnable _ _ _ s t h, still_execDtEnable _ _ _ s t h⟩
  | dtDisable => exact ⟨calm_execDtDisable _ s t h, still_execDtDisable _ s t h⟩
  | syncInterval => exact ⟨calm_execSyncInterval s t h, still_execSyncInterval s t h⟩
  | pdelayReqInterval => exact ⟨calm_execPdelayReqInterval s t h, still_execPdelayReqInterval s t h⟩
  | announceInterval => exact ⟨calm_execAnnounceInterval s t h, still_execAnnounceInterval s t h⟩
  | ptpMessage => exact ⟨calm_execPtpMessage _ _ _ _ _ s t h, still_execPtpMessage _ _ _ _ _ s t h⟩
  | txTimestampReturn => exact ⟨calm_execTxTimestampReturn _ _ s t h, still_execTxTimestampReturn _ _ s t h⟩
  | txTimestampTimeout => exact ⟨calm_execTxTimestampTimeout _ s t h, still_execTxTimestampTimeout _ s t h⟩
  | syncTimeout => exact ⟨calm_execSyncTimeout s t h, still_execSyncTimeout s t h⟩
  | holdoverLimitExpire => exact ⟨calm_execHoldoverLimitExpire s t h, still_execHoldoverLimitExpire s t h⟩
  | holdoverBoundExpire => exact ⟨calm_execHoldoverBoundExpire s t h, still_execHoldoverBoundExpire s t h⟩
  | backupGmTakeover => exact ⟨calm_execBackupGmTakeover s t h, still_execBackupGmTakeover s t h⟩
  | schedCommit => exact ⟨calm_execSchedCommit _ s t h, still_execSchedCommit _ s t h⟩
  | schedEpoch => exact ⟨calm_execSchedEpoch _ s t h, still_execSchedEpoch _ s t h⟩
  | schedResalt => exact ⟨calm_execSchedResalt _ s t h, still_execSchedResalt _ s t h⟩
  | schedStop => exact ⟨calm_execSchedStop _ s t h, still_execSchedStop _ s t h⟩
  | schedResume => exact ⟨calm_execSchedResume _ s t h, still_execSchedResume _ s t h⟩
  | schedTraceTrig => exact ⟨calm_execSchedTraceTrig _ s t h, still_execSchedTraceTrig _ s t h⟩
  | schedDump => exact ⟨calm_execSchedDump _ s t h, still_execSchedDump _ s t h⟩
  | schedTrigOut => exact ⟨calm_execSchedTrigOut _ s t h, still_execSchedTrigOut _ s t h⟩
  | trigPulseEnd => exact ⟨calm_execTrigPulseEnd _ s t h, still_execTrigPulseEnd _ s t h⟩
  | stopMarkerSend => exact ⟨calm_execStopMarkerSend _ _ s t h, still_execStopMarkerSend _ _ s t h⟩
  | stopMarkerRx => exact ⟨calm_execStopMarkerRx _ _ _ s t h, still_execStopMarkerRx _ _ _ s t h⟩
  | stopMarkerTimeout => exact ⟨calm_execStopMarkerTimeout _ s t h, still_execStopMarkerTimeout _ s t h⟩
  | domainSchedEntryRx => exact ⟨calm_execDomainSchedEntryRx _ _ _ s t h, still_execDomainSchedEntryRx _ _ _ s t h⟩
  | domainSchedCancelRx => exact ⟨calm_execDomainSchedCancelRx _ _ _ s t h, still_execDomainSchedCancelRx _ _ _ s t h⟩
  | rngStartupPass => exact ⟨calm_execRngStartupPass s t h, still_execRngStartupPass s t h⟩
  | drbgReseed => exact ⟨calm_execDrbgReseed s t h, still_execDrbgReseed s t h⟩
  | slotRelease => exact ⟨calm_execSlotRelease _ s t h, still_execSlotRelease _ s t h⟩
  | mldsaSignRestart => exact ⟨calm_execMldsaSignRestart s t h, still_execMldsaSignRestart s t h⟩
  | mnRead => exact ⟨calm_execMnRead _ _ _ s t h, still_execMnRead _ _ _ s t h⟩
  | mnWrite => exact ⟨calm_execMnWrite _ _ _ _ _ s t h, still_execMnWrite _ _ _ _ _ s t h⟩
  | mnScalarAtomic => exact ⟨calm_execMnScalarAtomic _ _ _ _ _ s t h, still_execMnScalarAtomic _ _ _ _ _ s t h⟩
  | mnVectorAccumulate => exact ⟨calm_execMnVectorAccumulate _ _ _ _ _ s t h, still_execMnVectorAccumulate _ _ _ _ _ s t h⟩
  | msReadResponse => exact ⟨calm_execMsReadResponse _ _ _ _ _ _ s t h, still_execMsReadResponse _ _ _ _ _ _ s t h⟩
  | msWriteAck => exact ⟨calm_execMsWriteAck _ _ _ s t h, still_execMsWriteAck _ _ _ s t h⟩
  | sectorLockGrant => exact ⟨calm_execSectorLockGrant _ s t h, still_execSectorLockGrant _ s t h⟩
  | anchorPatrol => exact ⟨calm_execAnchorPatrol _ _ s t h, still_execAnchorPatrol _ _ s t h⟩
  | anchorRestore => exact ⟨calm_execAnchorRestore _ s t h, still_execAnchorRestore _ s t h⟩
  | mergeIdleWriteBack => exact ⟨calm_execMergeIdleWriteBack _ _ _ s t h, still_execMergeIdleWriteBack _ _ _ s t h⟩
  | egressRelease => exact ⟨calm_execEgressRelease _ s t h, still_execEgressRelease _ s t h⟩
  | laneGate => exact ⟨calm_execLaneGate _ s t h, still_execLaneGate _ s t h⟩
  | laneWake => exact ⟨calm_execLaneWake s t h, still_execLaneWake s t h⟩
  | ratomicRequestRx => exact ⟨calm_execRatomicRequestRx _ _ _ s t h, still_execRatomicRequestRx _ _ _ s t h⟩
  | outcomeQueryRx => exact ⟨calm_execOutcomeQueryRx _ _ s t h, still_execOutcomeQueryRx _ _ s t h⟩
  | ratomicReplyRx => exact ⟨calm_execRatomicReplyRx _ _ s t h, still_execRatomicReplyRx _ _ s t h⟩
  | ratomicRetry => exact ⟨calm_execRatomicRetry _ _ s t h, still_execRatomicRetry _ _ s t h⟩
  | ratomicDeadline => exact ⟨calm_execRatomicDeadline _ _ s t h, still_execRatomicDeadline _ _ s t h⟩
  | memoEntryExpire => exact ⟨calm_execMemoEntryExpire _ _ _ s t h, still_execMemoEntryExpire _ _ _ s t h⟩
  | remoteRwRequestRx => exact ⟨calm_execRemoteRwRequestRx _ _ s t h, still_execRemoteRwRequestRx _ _ s t h⟩
  | contributionRx => exact ⟨calm_execContributionRx _ _ _ _ _ s t h, still_execContributionRx _ _ _ _ _ s t h⟩
  | contributionAckRx => exact ⟨calm_execContributionAckRx _ _ _ s t h, still_execContributionAckRx _ _ _ s t h⟩
  | contributionResend => exact ⟨calm_execContributionResend _ _ _ _ s t h, still_execContributionResend _ _ _ _ s t h⟩
  | reductionTimeout => exact ⟨calm_execReductionTimeout _ _ s t h, still_execReductionTimeout _ _ s t h⟩
  | resultChunkRx => exact ⟨calm_execResultChunkRx _ _ _ _ _ _ s t h, still_execResultChunkRx _ _ _ _ _ _ s t h⟩
  | resultAckRx => exact ⟨calm_execResultAckRx _ _ _ _ s t h, still_execResultAckRx _ _ _ _ s t h⟩
  | resultChunkResend => exact ⟨calm_execResultChunkResend _ _ _ s t h, still_execResultChunkResend _ _ _ s t h⟩
  | resultChunkGiveUp => exact ⟨calm_execResultChunkGiveUp _ _ _ s t h, still_execResultChunkGiveUp _ _ _ s t h⟩
  | resultLedgerExpire => exact ⟨calm_execResultLedgerExpire _ _ _ _ s t h, still_execResultLedgerExpire _ _ _ _ s t h⟩
  | sessionSetupStart => exact ⟨calm_execSessionSetupStart _ _ s t h, still_execSessionSetupStart _ _ s t h⟩
  | sessionSetupTimeout => exact ⟨calm_execSessionSetupTimeout _ _ s t h, still_execSessionSetupTimeout _ _ s t h⟩
  | sessionRetryBackoff => exact ⟨calm_execSessionRetryBackoff _ _ s t h, still_execSessionRetryBackoff _ _ s t h⟩
  | openRx => exact ⟨calm_execOpenRx _ _ s t h, still_execOpenRx _ _ s t h⟩
  | closeRx => exact ⟨calm_execCloseRx _ _ _ s t h, still_execCloseRx _ _ _ s t h⟩
  | closingTimeout => exact ⟨calm_execClosingTimeout _ _ s t h, still_execClosingTimeout _ _ s t h⟩
  | lnkEnable => exact ⟨calm_execLnkEnable _ _ s t h, still_execLnkEnable _ _ s t h⟩
  | lnkDisable => exact ⟨calm_execLnkDisable _ _ s t h, still_execLnkDisable _ _ s t h⟩
  | keepaliveTx => exact ⟨calm_execKeepaliveTx _ _ s t h, still_execKeepaliveTx _ _ s t h⟩
  | keepaliveRx => exact ⟨calm_execKeepaliveRx _ _ _ s t h, still_execKeepaliveRx _ _ _ s t h⟩
  | keepaliveTimeout => exact ⟨calm_execKeepaliveTimeout _ _ s t h, still_execKeepaliveTimeout _ _ s t h⟩
  | memberLostNoticeRx => exact ⟨calm_execMemberLostNoticeRx _ _ _ _ s t h, still_execMemberLostNoticeRx _ _ _ _ s t h⟩
  | frameEnqueue => exact ⟨calm_execFrameEnqueue _ _ s t h, still_execFrameEnqueue _ _ s t h⟩
  | frameSeal => exact ⟨calm_execFrameSeal _ s t h, still_execFrameSeal _ s t h⟩
  | txStall => exact ⟨calm_execTxStall _ s t h, still_execTxStall _ s t h⟩
  | coverSlot => exact ⟨calm_execCoverSlot _ s t h, still_execCoverSlot _ s t h⟩
  | epochCountLimit => exact ⟨calm_execEpochCountLimit _ _ s t h, still_execEpochCountLimit _ _ s t h⟩
  | epochChangeDeferred => exact ⟨calm_execEpochChangeDeferred _ _ s t h, still_execEpochChangeDeferred _ _ s t h⟩
  | rxEpochRetire => exact ⟨calm_execRxEpochRetire _ _ s t h, still_execRxEpochRetire _ _ s t h⟩
  | flowEntryTimeout => exact ⟨calm_execFlowEntryTimeout _ _ s t h, still_execFlowEntryTimeout _ _ s t h⟩
  | flowEntryGrant => exact ⟨calm_execFlowEntryGrant _ s t h, still_execFlowEntryGrant _ s t h⟩
  | getVersion => exact ⟨calm_execGetVersion _ s t h, still_execGetVersion _ s t h⟩
  | getCapabilities => exact ⟨calm_execGetCapabilities _ s t h, still_execGetCapabilities _ s t h⟩
  | negotiateAlgorithms => exact ⟨calm_execNegotiateAlgorithms _ _ s t h, still_execNegotiateAlgorithms _ _ s t h⟩
  | getDigests => exact ⟨calm_execGetDigests _ s t h, still_execGetDigests _ s t h⟩
  | getCertificate => exact ⟨calm_execGetCertificate _ _ s t h, still_execGetCertificate _ _ s t h⟩
  | challenge => exact ⟨calm_execChallenge _ _ s t h, still_execChallenge _ _ s t h⟩
  | getMeasurements => exact ⟨calm_execGetMeasurements _ _ _ s t h, still_execGetMeasurements _ _ _ s t h⟩
  | keyExchange => exact ⟨calm_execKeyExchange _ _ s t h, still_execKeyExchange _ _ s t h⟩
  | finish => exact ⟨calm_execFinish _ _ _ s t h, still_execFinish _ _ _ s t h⟩
  | endSession => exact ⟨calm_execEndSession _ _ s t h, still_execEndSession _ _ s t h⟩
  | heartbeat => exact ⟨calm_execHeartbeat _ _ s t h, still_execHeartbeat _ _ s t h⟩
  | heartbeatLoss => exact ⟨calm_execHeartbeatLoss _ _ s t h, still_execHeartbeatLoss _ _ s t h⟩
  | keyUpdate => exact ⟨calm_execKeyUpdate _ _ s t h, still_execKeyUpdate _ _ s t h⟩
  | getCsr => exact ⟨calm_execGetCsr _ _ s t h, still_execGetCsr _ _ s t h⟩
  | setCertificate => exact ⟨calm_execSetCertificate _ _ _ s t h, still_execSetCertificate _ _ _ s t h⟩
  | spdmCarriageRx => exact ⟨calm_execSpdmCarriageRx _ _ s t h, still_execSpdmCarriageRx _ _ s t h⟩
  | linkBind => exact ⟨calm_execLinkBind _ _ _ _ s t h, still_execLinkBind _ _ _ _ s t h⟩
  | amend => exact ⟨calm_execAmend _ _ _ s t h, still_execAmend _ _ _ s t h⟩
  | amendFetch => exact ⟨calm_execAmendFetch _ _ _ s t h, still_execAmendFetch _ _ _ s t h⟩
  | provision => exact ⟨calm_execProvision _ _ _ _ s t h, still_execProvision _ _ _ _ s t h⟩
  | doeObjectRx => exact ⟨calm_execDoeObjectRx _ _ _ s t h, still_execDoeObjectRx _ _ _ s t h⟩
  | doeAbort => exact ⟨calm_execDoeAbort _ s t h, still_execDoeAbort _ s t h⟩
  | configRequestRx => exact ⟨calm_execConfigRequestRx _ _ _ _ _ _ s t h, still_execConfigRequestRx _ _ _ _ _ _ s t h⟩
  | hostTlpTx => exact ⟨calm_execHostTlpTx _ _ s t h, still_execHostTlpTx _ _ s t h⟩
  | hostTlpRx => exact ⟨calm_execHostTlpRx _ _ s t h, still_execHostTlpRx _ _ s t h⟩
  | ideKmQuery => exact ⟨calm_execIdeKmQuery _ _ s t h, still_execIdeKmQuery _ _ s t h⟩
  | ideKmKeyProg => exact ⟨calm_execIdeKmKeyProg _ _ _ _ _ _ _ s t h, still_execIdeKmKeyProg _ _ _ _ _ _ _ s t h⟩
  | ideKmKSetGo => exact ⟨calm_execIdeKmKSetGo _ _ _ _ _ _ s t h, still_execIdeKmKSetGo _ _ _ _ _ _ s t h⟩
  | ideKmKSetStop => exact ⟨calm_execIdeKmKSetStop _ _ _ _ _ _ s t h, still_execIdeKmKSetStop _ _ _ _ _ _ s t h⟩
  | getTdispVersion => exact ⟨calm_execGetTdispVersion _ _ _ s t h, still_execGetTdispVersion _ _ _ s t h⟩
  | getTdispCapabilities => exact ⟨calm_execGetTdispCapabilities _ _ _ s t h, still_execGetTdispCapabilities _ _ _ s t h⟩
  | lockInterfaceRequest => exact ⟨calm_execLockInterfaceRequest _ _ _ s t h, still_execLockInterfaceRequest _ _ _ s t h⟩
  | getDeviceInterfaceReport => exact ⟨calm_execGetDeviceInterfaceReport _ _ _ s t h, still_execGetDeviceInterfaceReport _ _ _ s t h⟩
  | getDeviceInterfaceState => exact ⟨calm_execGetDeviceInterfaceState _ _ _ s t h, still_execGetDeviceInterfaceState _ _ _ s t h⟩
  | startInterfaceRequest => exact ⟨calm_execStartInterfaceRequest _ _ _ s t h, still_execStartInterfaceRequest _ _ _ s t h⟩
  | stopInterfaceRequest => exact ⟨calm_execStopInterfaceRequest _ _ _ s t h, still_execStopInterfaceRequest _ _ _ s t h⟩
  | tdispUnsupportedRequest => exact ⟨calm_execTdispUnsupportedRequest _ _ _ s t h, still_execTdispUnsupportedRequest _ _ _ s t h⟩
  | functionLevelReset => exact ⟨calm_execFunctionLevelReset _ _ s t h, still_execFunctionLevelReset _ _ s t h⟩
  | translationCompletion => exact ⟨calm_execTranslationCompletion _ _ _ _ s t h, still_execTranslationCompletion _ _ _ _ s t h⟩
  | translationTimeout => exact ⟨calm_execTranslationTimeout _ _ s t h, still_execTranslationTimeout _ _ s t h⟩
  | atsInvalidateRequest => exact ⟨calm_execAtsInvalidateRequest _ _ _ _ _ _ s t h, still_execAtsInvalidateRequest _ _ _ _ _ _ s t h⟩
  | invalidationComplete => exact ⟨calm_execInvalidationComplete _ _ s t h, still_execInvalidationComplete _ _ s t h⟩
  | prgResponse => exact ⟨calm_execPrgResponse _ _ _ s t h, still_execPrgResponse _ _ _ s t h⟩
  | priTimeout => exact ⟨calm_execPriTimeout _ s t h, still_execPriTimeout _ s t h⟩
  | tileOpen => exact ⟨calm_execTileOpen _ _ s t h, still_execTileOpen _ _ s t h⟩
  | tileClose => exact ⟨calm_execTileClose _ _ s t h, still_execTileClose _ _ s t h⟩
  | submissionDoorbell => exact ⟨calm_execSubmissionDoorbell _ _ _ _ _ s t h, still_execSubmissionDoorbell _ _ _ _ _ s t h⟩
  | replyDoorbell => exact ⟨calm_execReplyDoorbell _ _ _ _ _ s t h, still_execReplyDoorbell _ _ _ _ _ s t h⟩
  | hostQueueEnable => exact ⟨calm_execHostQueueEnable _ _ s t h, still_execHostQueueEnable _ _ s t h⟩
  | hostQueueDisable => exact ⟨calm_execHostQueueDisable _ _ s t h, still_execHostQueueDisable _ _ s t h⟩
  | storedReplyExpire => exact ⟨calm_execStoredReplyExpire _ _ s t h, still_execStoredReplyExpire _ _ s t h⟩
  | nop => exact ⟨calm_execNop _ s t h, still_execNop _ s t h⟩
  | identify => exact ⟨calm_execIdentify _ s t h, still_execIdentify _ s t h⟩
  | carry k sid ra rl pa pl mx o => exact ⟨calm_execCarry k sid ra rl pa pl mx o s t h, still_execCarry k sid ra rl pa pl mx o s t h⟩
  | replyPoll => exact ⟨calm_execReplyPoll _ _ s t h, still_execReplyPoll _ _ s t h⟩
  | partAssign => exact ⟨calm_execPartAssign _ _ _ _ _ _ _ _ _ _ _ _ s t h, still_execPartAssign _ _ _ _ _ _ _ _ _ _ _ _ s t h⟩
  | partRelease => exact ⟨calm_execPartRelease _ _ s t h, still_execPartRelease _ _ s t h⟩
  | partShare => exact ⟨calm_execPartShare _ _ s t h, still_execPartShare _ _ s t h⟩
  | regionAdd => exact ⟨calm_execRegionAdd _ _ _ s t h, still_execRegionAdd _ _ _ s t h⟩
  | regionRearm => exact ⟨calm_execRegionRearm _ _ s t h, still_execRegionRearm _ _ s t h⟩
  | partPolicy => exact ⟨calm_execPartPolicy _ _ s t h, still_execPartPolicy _ _ s t h⟩
  | manifestStage => exact ⟨calm_execManifestStage _ _ _ s t h, still_execManifestStage _ _ _ s t h⟩
  | domainTeardown => exact ⟨calm_execDomainTeardown _ s t h, still_execDomainTeardown _ s t h⟩
  | ctxCreate => exact ⟨calm_execCtxCreate _ _ _ _ s t h, still_execCtxCreate _ _ _ _ s t h⟩
  | ctxDestroy => exact ⟨calm_execCtxDestroy _ _ s t h, still_execCtxDestroy _ _ s t h⟩
  | teardownDrainEnd => exact ⟨calm_execTeardownDrainEnd _ s t h, still_execTeardownDrainEnd _ s t h⟩
  | queueCreate => exact ⟨calm_execQueueCreate _ _ _ _ _ _ _ s t h, still_execQueueCreate _ _ _ _ _ _ _ s t h⟩
  | queueDestroy => exact ⟨calm_execQueueDestroy _ _ _ s t h, still_execQueueDestroy _ _ _ s t h⟩
  | objAlloc => exact ⟨calm_execObjAlloc _ _ _ s t h, still_execObjAlloc _ _ _ s t h⟩
  | objFree => exact ⟨calm_execObjFree _ _ _ s t h, still_execObjFree _ _ _ s t h⟩
  | freeRetire => exact ⟨calm_execFreeRetire _ _ s t h, still_execFreeRetire _ _ s t h⟩
  | objQuery => exact ⟨calm_execObjQuery _ _ _ s t h, still_execObjQuery _ _ _ s t h⟩
  | ratomic => exact ⟨calm_execRatomic _ _ _ _ _ _ _ _ _ s t h, still_execRatomic _ _ _ _ _ _ _ _ _ s t h⟩
  | raccum => exact ⟨calm_execRaccum _ _ _ _ _ _ _ _ _ _ _ _ s t h, still_execRaccum _ _ _ _ _ _ _ _ _ _ _ _ s t h⟩
  | outcomeQuery => exact ⟨calm_execOutcomeQuery _ _ _ _ s t h, still_execOutcomeQuery _ _ _ _ s t h⟩
  | outcomeQueryResend => exact ⟨calm_execOutcomeQueryResend _ _ s t h, still_execOutcomeQueryResend _ _ s t h⟩
  | reduceContrib => exact ⟨calm_execReduceContrib _ _ _ _ _ _ _ _ _ s t h, still_execReduceContrib _ _ _ _ _ _ _ _ _ s t h⟩
  | fenceCreate => exact ⟨calm_execFenceCreate _ _ s t h, still_execFenceCreate _ _ s t h⟩
  | fenceSignal => exact ⟨calm_execFenceSignal _ _ _ s t h, still_execFenceSignal _ _ _ s t h⟩
  | fenceWait => exact ⟨calm_execFenceWait _ _ s t h, still_execFenceWait _ _ s t h⟩
  | fenceReset => exact ⟨calm_execFenceReset _ _ s t h, still_execFenceReset _ _ s t h⟩
  | fenceDestroy => exact ⟨calm_execFenceDestroy _ _ s t h, still_execFenceDestroy _ _ s t h⟩
  | fenceShare => exact ⟨calm_execFenceShare _ _ _ s t h, still_execFenceShare _ _ _ s t h⟩
  | domainFenceSignalRx => exact ⟨calm_execDomainFenceSignalRx _ _ _ _ _ _ _ _ s t h, still_execDomainFenceSignalRx _ _ _ _ _ _ _ _ s t h⟩
  | keyReseal => exact ⟨calm_execKeyReseal _ s t h, still_execKeyReseal _ s t h⟩
  | keyAttest => exact ⟨calm_execKeyAttest _ _ _ s t h, still_execKeyAttest _ _ _ s t h⟩
  | keyControlGen => exact ⟨calm_execKeyControlGen _ _ _ _ s t h, still_execKeyControlGen _ _ _ _ s t h⟩
  | keyImport => exact ⟨calm_execKeyImport _ _ _ _ _ s t h, still_execKeyImport _ _ _ _ _ s t h⟩
  | keyWrap => exact ⟨calm_execKeyWrap _ _ _ s t h, still_execKeyWrap _ _ _ s t h⟩
  | keyUnwrap => exact ⟨calm_execKeyUnwrap _ _ _ s t h, still_execKeyUnwrap _ _ _ s t h⟩
  | keyRetire => exact ⟨calm_execKeyRetire _ _ s t h, still_execKeyRetire _ _ s t h⟩
  | cceOp => exact ⟨calm_execCceOp _ _ _ _ _ _ _ _ _ s t h, still_execCceOp _ _ _ _ _ _ _ _ _ s t h⟩
  | saSeed => exact ⟨calm_execSaSeed _ _ s t h, still_execSaSeed _ _ s t h⟩
  | saStep => exact ⟨calm_execSaStep _ _ s t h, still_execSaStep _ _ s t h⟩
  | schedArm => exact ⟨calm_execSchedArm _ _ s t h, still_execSchedArm _ _ s t h⟩
  | schedCancel => exact ⟨calm_execSchedCancel _ _ _ s t h, still_execSchedCancel _ _ _ s t h⟩
  | cntRead => exact ⟨calm_execCntRead _ _ _ s t h, still_execCntRead _ _ _ s t h⟩
  | traceCfg => exact ⟨calm_execTraceCfg _ _ _ _ _ _ _ s t h, still_execTraceCfg _ _ _ _ _ _ _ s t h⟩
  | traceStart => exact ⟨calm_execTraceStart _ _ s t h, still_execTraceStart _ _ s t h⟩
  | traceStop => exact ⟨calm_execTraceStop _ _ s t h, still_execTraceStop _ _ s t h⟩
  | traceTriggerNow => exact ⟨calm_execTraceTriggerNow _ _ s t h, still_execTraceTriggerNow _ _ s t h⟩
  | traceReleaseFreeze => exact ⟨calm_execTraceReleaseFreeze _ _ s t h, still_execTraceReleaseFreeze _ _ s t h⟩
  | traceSectorTimeout => exact ⟨calm_execTraceSectorTimeout _ _ s t h, still_execTraceSectorTimeout _ _ s t h⟩
  | tensorReg => exact ⟨calm_execTensorReg _ _ _ _ s t h, still_execTensorReg _ _ _ _ s t h⟩
  | dumpChunkCapture => exact ⟨calm_execDumpChunkCapture _ _ _ s t h, still_execDumpChunkCapture _ _ _ s t h⟩
  | dumpStepTimeout => exact ⟨calm_execDumpStepTimeout _ _ s t h, still_execDumpStepTimeout _ _ s t h⟩
  | pressRead => exact ⟨calm_execPressRead _ _ _ s t h, still_execPressRead _ _ _ s t h⟩
  | pressRelease => exact ⟨calm_execPressRelease _ s t h, still_execPressRelease _ s t h⟩
  | pressFlush => exact ⟨calm_execPressFlush s t h, still_execPressFlush s t h⟩
  | rstContext => exact ⟨calm_execRstContext _ _ s t h, still_execRstContext _ _ s t h⟩
  | rstEngine => exact ⟨calm_execRstEngine _ _ s t h, still_execRstEngine _ _ s t h⟩
  | rstPartition => exact ⟨calm_execRstPartition _ s t h, still_execRstPartition _ s t h⟩
  | scrubStepDone => exact ⟨calm_execScrubStepDone _ s t h, still_execScrubStepDone _ s t h⟩
  | zeroFillRegion => exact ⟨calm_execZeroFillRegion _ _ s t h, still_execZeroFillRegion _ _ s t h⟩
  | sgEnable => exact ⟨calm_execSgEnable _ _ s t h, still_execSgEnable _ _ s t h⟩
  | sgDisable => exact ⟨calm_execSgDisable _ _ s t h, still_execSgDisable _ _ s t h⟩
  | allocDoorbell => exact ⟨calm_execAllocDoorbell _ _ _ _ _ s t h, still_execAllocDoorbell _ _ _ _ _ s t h⟩
  | allocDoorbellDone => exact ⟨calm_execAllocDoorbellDone _ _ s t h, still_execAllocDoorbellDone _ _ s t h⟩
  | faultQueueDoorbell => exact ⟨calm_execFaultQueueDoorbell _ _ _ s t h, still_execFaultQueueDoorbell _ _ _ s t h⟩
  | contextRestore => exact ⟨calm_execContextRestore _ s t h, still_execContextRestore _ s t h⟩
  | obsMark => exact ⟨calm_execObsMark _ _ _ _ s t h, still_execObsMark _ _ _ _ s t h⟩
  | quantisationInstant => exact ⟨calm_execQuantisationInstant s t h, still_execQuantisationInstant s t h⟩
  | setEndpointId => exact ⟨calm_execSetEndpointId _ _ s t h, still_execSetEndpointId _ _ s t h⟩
  | getEndpointId => exact ⟨calm_execGetEndpointId s t h, still_execGetEndpointId s t h⟩
  | getEndpointUuid => exact ⟨calm_execGetEndpointUuid s t h, still_execGetEndpointUuid s t h⟩
  | getMctpVersionSupport => exact ⟨calm_execGetMctpVersionSupport s t h, still_execGetMctpVersionSupport s t h⟩
  | getMessageTypeSupport => exact ⟨calm_execGetMessageTypeSupport s t h, still_execGetMessageTypeSupport s t h⟩
  | entdaa => exact ⟨calm_execEntdaa _ s t h, still_execEntdaa _ s t h⟩
  | hotJoinRequest => exact ⟨calm_execHotJoinRequest s t h, still_execHotJoinRequest s t h⟩
  | setMaxLength => exact ⟨calm_execSetMaxLength _ _ s t h, still_execSetMaxLength _ _ s t h⟩
  | cstopAckFall => exact ⟨calm_execCstopAckFall s t h, still_execCstopAckFall s t h⟩
  | warmReqNRelease => exact ⟨calm_execWarmReqNRelease s t h, still_execWarmReqNRelease s t h⟩
  | hcLinkUpRise => exact ⟨calm_execHcLinkUpRise _ s t h, still_execHcLinkUpRise _ s t h⟩
  | frameRxDiscard => exact ⟨calm_execFrameRxDiscard _ _ s t h, still_execFrameRxDiscard _ _ s t h⟩
  | frameRoute => exact ⟨calm_execFrameRoute _ _ _ s t h, still_execFrameRoute _ _ _ s t h⟩
  | _ => cases hc

/-- Settles O8. -/
theorem lifeCycleStateMovesOnlyUnderItsCommands : Obligations.LifeCycleStateMovesOnlyUnderItsCommands := fun _ _ _ hc h =>
  (exec_calm_still hc h).imp_right fuse_of_still

/-- A slot that retires without an error is the key store's matter: the new state is that of finishRetire, or the old one. -/
theorem slotRetireComplete_eq (n : Nat) (s : State) :
    exec (.slotRetireComplete n true .none) s
      = .next (if (s.slot n).st = 2 ∧ !s.slotBusy n ∧ s.boot.phase = .ready then s.finishRetire n else s) := rfl

theorem slotRetireComplete_keeps {α : Type} (f : State → α) (hf : ∀ n s, f (State.finishRetire n s) = f s) {n : Nat} {s t : State}
    (h : exec (.slotRetireComplete n true .none) s = .next t) : f t = f s := by
  rw [slotRetireComplete_eq] at h
  cases h
  split
  · exact hf n s
  · rfl

/-- Of the commands that stay in their unit only a slot that retires is one of those that may touch bring-up, and then by an error. -/
theorem staysInItsUnit_cases {c : Instr} (hc : staysInItsUnit c = true) :
    touchesLifeCycle c = false ∨ ∃ n, c = .slotRetireComplete n true .none := by
  cases c with
  | slotRetireComplete n ok ecc =>
    cases ok <;> cases ecc
    case true.none => exact .inr ⟨n, rfl⟩
    all_goals cases hc
  | _ => first | exact .inl rfl | cases hc

theorem exec_apart {c : Instr} {s t : State} (hc : staysInItsUnit c = true) (hd : touchesDomainTime c = false) (h : exec c s = .next t) :
    t.apart = s.apart := by
  rcases staysInItsUnit_cases hc with hl | ⟨n, rfl⟩
  case inr => exact slotRetireComplete_keeps State.apart apart_State_finishRetire h
  cases c with
  | rngStartupPass => exact apart_execRngStartupPass s t h
  | drbgReseed => exact apart_execDrbgReseed s t h
  | slotRelease => exact apart_execSlotRelease _ s t h
  | mldsaSignRestart => exact apart_execMldsaSignRestart s t h
  | msWriteAck => exact apart_execMsWriteAck _ _ _ s t h
  | anchorRestore => exact apart_execAnchorRestore _ s t h
  | laneGate => exact apart_execLaneGate _ s t h
  | laneWake => exact apart_execLaneWake s t h
  | ratomicRetry => exact apart_execRatomicRetry _ _ s t h
  | contributionResend => exact apart_execContributionResend _ _ _ _ s t h
  | resultChunkResend => exact apart_execResultChunkResend _ _ _ s t h
  | keepaliveTx => exact apart_execKeepaliveTx _ _ s t h
  | frameEnqueue => exact apart_execFrameEnqueue _ _ s t h
  | txStall => exact apart_execTxStall _ s t h
  | epochCountLimit => exact apart_execEpochCountLimit _ _ s t h
  | epochChangeDeferred => exact apart_execEpochChangeDeferred _ _ s t h
  | rxEpochRetire => exact apart_execRxEpochRetire _ _ s t h
  | flowEntryTimeout => exact apart_execFlowEntryTimeout _ _ s t h
  | flowEntryGrant => exact apart_execFlowEntryGrant _ s t h
  | submissionDoorbell => exact apart_execSubmissionDoorbell _ _ _ _ _ s t h
  | replyDoorbell => exact apart_execReplyDoorbell _ _ _ _ _ s t h
  | hostQueueEnable => exact apart_execHostQueueEnable _ _ s t h
  | hostQueueDisable => exact apart_execHostQueueDisable _ _ s t h
  | storedReplyExpire => exact apart_execStoredReplyExpire _ _ s t h
  | nop => exact apart_execNop _ s t h
  | identify => exact apart_execIdentify _ s t h
  | carry k sid ra rl pa pl mx o => exact apart_execCarry k sid ra rl pa pl mx o s t h
  | replyPoll => exact apart_execReplyPoll _ _ s t h
  | partShare => exact apart_execPartShare _ _ s t h
  | regionRearm => exact apart_execRegionRearm _ _ s t h
  | ctxCreate => exact apart_execCtxCreate _ _ _ _ s t h
  | queueCreate => exact apart_execQueueCreate _ _ _ _ _ _ _ s t h
  | queueDestroy => exact apart_execQueueDestroy _ _ _ s t h
  | objAlloc => exact apart_execObjAlloc _ _ _ s t h
  | objFree => exact apart_execObjFree _ _ _ s t h
  | freeRetire => exact apart_execFreeRetire _ _ s t h
  | objQuery => exact apart_execObjQuery _ _ _ s t h
  | fenceCreate => exact apart_execFenceCreate _ _ s t h
  | fenceSignal => exact apart_execFenceSignal _ _ _ s t h
  | fenceWait => exact apart_execFenceWait _ _ s t h
  | fenceReset => exact apart_execFenceReset _ _ s t h
  | fenceDestroy => exact apart_execFenceDestroy _ _ s t h
  | fenceShare => exact apart_execFenceShare _ _ _ s t h
  | keyAttest => exact apart_execKeyAttest _ _ _ s t h
  | keyControlGen => exact apart_execKeyControlGen _ _ _ _ s t h
  | keyImport => exact apart_execKeyImport _ _ _ _ _ s t h
  | keyWrap => exact apart_execKeyWrap _ _ _ s t h
  | keyUnwrap => exact apart_execKeyUnwrap _ _ _ s t h
  | keyRetire => exact apart_execKeyRetire _ _ s t h
  | cceOp => exact apart_execCceOp _ _ _ _ _ _ _ _ _ s t h
  | saSeed => exact apart_execSaSeed _ _ s t h
  | cntRead => exact apart_execCntRead _ _ _ s t h
  | traceCfg => exact apart_execTraceCfg _ _ _ _ _ _ _ s t h
  | traceStart => exact apart_execTraceStart _ _ s t h
  | traceStop => exact apart_execTraceStop _ _ s t h
  | traceTriggerNow => exact apart_execTraceTriggerNow _ _ s t h
  | traceReleaseFreeze => exact apart_execTraceReleaseFreeze _ _ s t h
  | traceSectorTimeout => exact apart_execTraceSectorTimeout _ _ s t h
  | tensorReg => exact apart_execTensorReg _ _ _ _ s t h
  | pressRead => exact apart_execPressRead _ _ _ s t h
  | pressRelease => exact apart_execPressRelease _ s t h
  | pressFlush => exact apart_execPressFlush s t h
  | sgEnable => exact apart_execSgEnable _ _ s t h
  | sgDisable => exact apart_execSgDisable _ _ s t h
  | allocDoorbell => exact apart_execAllocDoorbell _ _ _ _ _ s t h
  | allocDoorbellDone => exact apart_execAllocDoorbellDone _ _ s t h
  | faultQueueDoorbell => exact apart_execFaultQueueDoorbell _ _ _ s t h
  | contextRestore => exact apart_execContextRestore _ s t h
  | obsMark => exact apart_execObsMark _ _ _ _ s t h
  | quantisationInstant => exact apart_execQuantisationInstant s t h
  | slotRetireComplete => cases hl
  | sessionSetupStart | sessionRetryBackoff | frameRxDiscard => cases hd
  | _ => cases hc

theorem exec_quiet {c : Instr} {s t : State} (hc : leavesHostPorts c = true) (h : exec c s = .next t) : t.quiet = s.quiet := by
  cases c with
  | slotRetireComplete n ok ecc =>
    cases ok <;> cases ecc
    case true.none => exact slotRetireComplete_keeps State.quiet quiet_State_finishRetire h
    all_goals cases hc
  | rngStartupPass => exact quiet_execRngStartupPass s t h
  | drbgReseed => exact quiet_execDrbgReseed s t h
  | slotRelease => exact quiet_execSlotRelease _ s t h
  | mldsaSignRestart => exact quiet_execMldsaSignRestart s t h
  | msWriteAck => exact quiet_execMsWriteAck _ _ _ s t h
  | anchorRestore => exact quiet_execAnchorRestore _ s t h
  | laneGate => exact quiet_execLaneGate _ s t h
  | laneWake => exact quiet_execLaneWake s t h
  | ratomicRetry => exact quiet_execRatomicRetry _ _ s t h
  | contributionResend => exact quiet_execContributionResend _ _ _ _ s t h
  | resultChunkResend => exact quiet_execResultChunkResend _ _ _ s t h
  | keepaliveTx => exact quiet_execKeepaliveTx _ _ s t h
  | frameEnqueue => exact quiet_execFrameEnqueue _ _ s t h
  | txStall => exact quiet_execTxStall _ s t h
  | epochCountLimit => exact quiet_execEpochCountLimit _ _ s t h
  | epochChangeDeferred => exact quiet_execEpochChangeDeferred _ _ s t h
  | rxEpochRetire => exact quiet_execRxEpochRetire _ _ s t h
  | flowEntryTimeout => exact quiet_execFlowEntryTimeout _ _ s t h
  | flowEntryGrant => exact quiet_execFlowEntryGrant _ s t h
  | submissionDoorbell => exact quiet_execSubmissionDoorbell _ _ _ _ _ s t h
  | replyDoorbell => exact quiet_execReplyDoorbell _ _ _ _ _ s t h
  | hostQueueEnable => exact quiet_execHostQueueEnable _ _ s t h
  | storedReplyExpire => exact quiet_execStoredReplyExpire _ _ s t h
  | traceSectorTimeout => exact quiet_execTraceSectorTimeout _ _ s t h
  | pressFlush => exact quiet_execPressFlush s t h
  | sgEnable => exact quiet_execSgEnable _ _ s t h
  | sgDisable => exact quiet_execSgDisable _ _ s t h
  | allocDoorbell => exact quiet_execAllocDoorbell _ _ _ _ _ s t h
  | allocDoorbellDone => exact quiet_execAllocDoorbellDone _ _ s t h
  | faultQueueDoorbell => exact quiet_execFaultQueueDoorbell _ _ _ s t h
  | contextRestore => exact quiet_execContextRestore _ s t h
  | obsMark => exact quiet_execObsMark _ _ _ _ s t h
  | quantisationInstant => exact quiet_execQuantisationInstant s t h
  | _ => cases hc

/-- Settles O60, from the laws of the units: bring-up with the fuses, then the units apart, then the host ports. -/
theorem unitCommandsLeaveTheOtherUnits : Obligations.UnitCommandsLeaveTheOtherUnits := by
  refine ⟨fun c s t hc h => ?_, fun c s t hc hd h => ?_, fun c s t hc h => ?_⟩
  · obtain ⟨hparams, hpend, htref, _⟩ := exec_kept h
    rcases staysInItsUnit_cases hc with hl | ⟨n, rfl⟩
    · obtain ⟨hboot, hstill⟩ := exec_calm_still hl h
      exact ⟨hboot, fuse_of_still hstill, hparams, hpend, htref⟩
    · exact ⟨slotRetireComplete_keeps State.calm calm_State_finishRetire h,
        fuse_of_still (slotRetireComplete_keeps State.still still_State_finishRetire h), hparams, hpend, htref⟩
  · have := exec_apart hc hd h
    simp only [State.apart, Prod.mk.injEq] at this
    obtain ⟨_, hpins, hdt, hatt, hrst, hrem⟩ := this
    exact ⟨hpins, hdt, hatt, hrst, hrem⟩
  · exact congrArg (fun x => x.2.2.2.1) (exec_quiet hc h)

end Sys2Proof.Proofs
end

section
/-!
The statements about registers (chapters 1, 3, 4 and 7): what a plain write does to each bit (R12 to R17), the record of bus errors (R10,
R18, R507), the commit of C-class shadows (R16, R284, R331) and the checked enable of a sector group (R99 to R103).
-/
namespace Sys2Proof.Proofs
open Sys2Proof Sys2Proof.Machine Sys2Proof.Laws

/-! Bits of words. -/

theorem bit_setBit_same {n : Nat} (w : BitVec n) {i : Nat} (h : i < n) (b : Bool) : bit (setBit w i b) i = b := by
  cases b <;> simp [bit, setBit, h]

theorem bit_setBit_other {n : Nat} (w : BitVec n) {i j : Nat} (h : i ≠ j) (b : Bool) : bit (setBit w i b) j = bit w j := by
  cases b
  · simpa [bit, setBit, h] using BitVec.lt_of_getLsbD
  · simp [bit, setBit, h]

theorem bit_or {n : Nat} (a b : BitVec n) (i : Nat) : bit (a ||| b) i = (bit a i || bit b i) := BitVec.getLsbD_or ..

theorem bit_and {n : Nat} (a b : BitVec n) (i : Nat) : bit (a &&& b) i = (bit a i && bit b i) := BitVec.getLsbD_and ..

theorem bit_not {n : Nat} (a : BitVec n) {i : Nat} (h : i < n) : bit (~~~ a) i = !bit a i := by simp [bit, h]

/-- Setting a bit below a field leaves the field. -/
theorem bits_setBit_below {n : Nat} (w : BitVec n) {i lo : Nat} (hi : Nat) (h : i < lo) : bits (setBit w i true) hi lo = bits w hi lo := by
  have hpow : 2 ^ i % 2 ^ n / 2 ^ lo = 0 :=
    Nat.div_eq_of_lt ((Nat.mod_le ..).trans_lt (Nat.pow_lt_pow_right Nat.one_lt_two h))
  simp only [bits, setBit, if_true, BitVec.toNat_or, BitVec.toNat_twoPow, ← Nat.shiftRight_eq_div_pow, Nat.shiftRight_or_distrib] at hpow ⊢
  rw [hpow, Nat.or_zero]

/-! Plain writes. -/

theorem reg_flag_same (s : State) (off i : Nat) : (s.flag off i).reg off = setBit (s.reg off) i true := reg_setReg_same ..

theorem reg_flag_other (s : State) {off o : Nat} (i : Nat) (h : o ≠ off) : (s.flag off i).reg o = s.reg o := reg_setReg_other s _ h

/-- STATIC_REFUSED stands within the word of its register. -/
theorem staticMark_lt (s : State) (off : Nat) : (s.staticMark off).2 < 32 := by
  unfold State.staticMark
  repeat' split
  all_goals exact of_decide_eq_true rfl

/-- A write of a register of the map would change a static field of an enabled unit (R15). -/
def refuses (s : State) (off : Nat) (w : Word) (r : RegRow) : Bool := decide ((w ^^^ s.reg off) &&& r.s ≠ 0) && s.staticOn off

/-- The word that a write without count fields leaves, by the classes of its bits (R12 to R15). -/
def writtenWord (s : State) (off : Nat) (w : Word) (r : RegRow) : Word :=
  let m := r.l ||| (if refuses s off w r then 0 else r.s)
  ((s.reg off &&& ~~~m) ||| (w &&& m)) &&& ~~~(w &&& r.w1c)

/-- The state with the stored word and the shadow of a write, before a refusal is marked. -/
def writtenState (s : State) (off : Nat) (w : Word) (r : RegRow) : State :=
  let t := s.setReg off (writtenWord s off w r)
  if r.c = 0 then t else t.modRegf fun x => { x with shadow := x.shadow.put off (w &&& r.c) }

theorem plainWrite_eq {s : State} {off : Nat} {r : RegRow} (hr : regRow s.params.profile off = some r) (hn : r.counts = []) (w : Word) :
    s.plainWrite off w
      = if refuses s off w r then (writtenState s off w r).flag (s.staticMark off).1 (s.staticMark off).2 else writtenState s off w r := by
  simp [State.plainWrite, hr, hn, refuses, writtenState, writtenWord]

theorem bit_writtenWord (s : State) (off : Nat) (w : Word) (r : RegRow) {i : Nat} (hi : i < 32) :
    bit (writtenWord s off w r) i
      = ((if bit r.l i || (!refuses s off w r && bit r.s i) then bit w i else bit (s.reg off) i) && !(bit w i && bit r.w1c i)) := by
  have hs : bit (if refuses s off w r then 0 else r.s) i = (!refuses s off w r && bit r.s i) := by
    cases refuses s off w r
    · rfl
    · exact BitVec.getLsbD_zero
  simp only [writtenWord, bit_and, bit_or, bit_not _ hi, hs]
  cases bit r.l i || (!refuses s off w r && bit r.s i) <;> simp

theorem reg_writtenState_same (s : State) (off : Nat) (w : Word) (r : RegRow) : (writtenState s off w r).reg off = writtenWord s off w r := by
  unfold writtenState
  split <;> exact reg_setReg_same ..

theorem reg_writtenState_other (s : State) {off o : Nat} (w : Word) (r : RegRow) (ho : o ≠ off) : (writtenState s off w r).reg o = s.reg o := by
  unfold writtenState
  split <;> exact reg_setReg_other s _ ho

theorem shadow_writtenState (s : State) (off : Nat) (w : Word) (r : RegRow) :
    (writtenState s off w r).regf.shadow = if r.c = 0 then s.regf.shadow else s.regf.shadow.put off (w &&& r.c) := by
  unfold writtenState
  split <;> rfl

/-- Settles O22: the word that a write leaves has the bits of the statement, and the mark of a refusal touches no other register. -/
theorem registerBitsFollowTheirClass : Obligations.RegisterBitsFollowTheirClass := by
  intro s off w r hr hn refused t
  have ht : t = if refused then (writtenState s off w r).flag (s.staticMark off).1 (s.staticMark off).2 else writtenState s off w r :=
    plainWrite_eq hr hn w
  have hshadow : t.regf.shadow = (writtenState s off w r).regf.shadow := by
    rw [ht]
    split <;> rfl
  rw [shadow_writtenState] at hshadow
  refine ⟨fun o ho hm => ?others, fun hb => ?mark, fun i hi hm => ?bits, fun hc => ?shadow, fun hc => ?noShadow⟩
  case others =>
    rw [ht]
    split
    · rw [reg_flag_other _ _ hm, reg_writtenState_other s w r ho]
    · exact reg_writtenState_other s w r ho
  case mark =>
    rw [ht, if_pos hb, reg_flag_same]
    exact bit_setBit_same _ (staticMark_lt s off) true
  case bits =>
    have hword : t.reg off = writtenWord s off w r := by
      rw [ht]
      split
      · rename_i hb
        rw [reg_flag_other _ _ (hm hb), reg_writtenState_same]
      · exact reg_writtenState_same ..
    rw [hword]
    exact bit_writtenWord s off w r hi
  case shadow => rw [hshadow, if_neg hc, Tab.find_put, if_pos rfl]
  case noShadow => rw [hshadow, if_pos hc]

/-! Bus errors. -/

theorem busErr_first {s : State} {addr : Nat} (hv : bit (s.reg rGlbBuserr) 0 = false) :
    (s.busErr addr).reg rGlbBuserr = s.reg rGlbBuserr ||| put 0 (addr % 0x400000 / 4 * 4 + 1) := by
  rw [State.busErr, hv]
  exact reg_setReg_same ..

theorem busErr_again {s : State} {addr : Nat} (hv : bit (s.reg rGlbBuserr) 0 = true) :
    (s.busErr addr).reg rGlbBuserr = setBit (s.reg rGlbBuserr) 1 true := by
  rw [State.busErr, if_pos hv]
  exact reg_flag_same ..

theorem busErr_other (s : State) (addr : Nat) {o : Nat} (ho : o ≠ rGlbBuserr) : (s.busErr addr).reg o = s.reg o := by
  unfold State.busErr
  split
  · exact reg_flag_other s 1 ho
  · exact reg_setReg_other s _ ho

theorem busErr_glob (s : State) (addr : Nat) : (s.busErr addr).obs.glob = s.obs.glob.upd 0 39 fun c => c + 1 := by
  unfold State.busErr
  split <;> rfl

/-- The word of a first error: VALID and the word address, OVERRUN clear. -/
theorem bits_errorWord {addr : Nat} (ha : addr < 0x400000) :
    bit (put 0 (addr % 0x400000 / 4 * 4 + 1)) 0 = true ∧ bits (put 0 (addr % 0x400000 / 4 * 4 + 1)) 21 2 = addr / 4
      ∧ bit (put 0 (addr % 0x400000 / 4 * 4 + 1)) 1 = false := by
  have hn : (put 0 (addr % 0x400000 / 4 * 4 + 1)).toNat = addr / 4 * 4 + 1 := by
    rw [toNat_put (by omega)]
    omega
  simp only [bit, bits, BitVec.getLsbD, Nat.testBit_eq_decide_div_mod_eq, hn]
  refine ⟨decide_eq_true ?_, ?_, decide_eq_false ?_⟩ <;> omega

/-- Settles O24: the first error writes its word into a clear register, a later one sets OVERRUN alone. -/
theorem busErrorsAreRecorded : Obligations.BusErrorsAreRecorded := by
  intro s addr ha _ t
  refine ⟨fun hv h0 => ?first, fun hv => ?again, ?count, fun o ho => busErr_other s addr ho⟩
  case first =>
    have hreg : t.reg rGlbBuserr = put 0 (addr % 0x400000 / 4 * 4 + 1) := by
      have hzero : s.reg rGlbBuserr = 0 := h0
      rw [busErr_first hv, hzero]
      exact BitVec.zero_or
    exact hreg ▸ bits_errorWord ha
  case again =>
    have hreg : t.reg rGlbBuserr = setBit (s.reg rGlbBuserr) 1 true := busErr_again hv
    refine hreg ▸ ⟨?_, bits_setBit_below _ 21 (by decide), bit_setBit_same _ (by decide) true⟩
    rw [bit_setBit_other _ (by decide)]
    exact hv
  case count =>
    rw [busErr_glob, Tab.get_upd, if_pos rfl]

/-! Commit of shadows. -/

theorem exec_cClassCommit (window : Nat) (s : State) :
    exec (.cClassCommit window) s = .next (if s.service = .off then s else s.commitIdle window) := rfl

/-- In service a commit is that of the window, and out of service nothing. -/
theorem cClassCommit_on {s t : State} {window : Nat} (hs : s.service ≠ .off) (h : s.commitIdle window = t) :
    exec (.cClassCommit window) s = .next t := by
  rw [exec_cClassCommit, if_neg hs, h]

/-- A window that is not idle keeps its shadows, in service or not. -/
theorem cClassCommit_keeps {s : State} {window : Nat} (h : s.commitIdle window = s) : exec (.cClassCommit window) s = .next s := by
  rw [exec_cClassCommit, h, ite_self]

theorem commitIdle_dt (s : State) : s.commitIdle 1 = if s.trigIdle then s.commitWindow 1 else s := rfl

theorem groupWin_present {s : State} {n : Nat} (hp : s.params.profile ≠ .s) (hn : n < s.params.sgCount) : s.groupWin (0x10 + n) = some n := by
  simp [State.groupWin, hp, hn]

theorem commitIdle_group {s : State} {n : Nat} (hp : s.params.profile ≠ .s) (hn : n < s.params.sgCount) (h8 : s.params.sgCount ≤ 8) :
    s.commitIdle (0x10 + n) = if s.groupIdle n then (s.commitWindow (0x10 + n)).commitWeights n else s := by
  unfold State.commitIdle State.commitNamed
  rw [if_neg (by omega), if_neg (by omega), if_neg (by omega), groupWin_present hp hn]

theorem commitIdle_busyPort {s : State} {k : Nat} (hk : k < 18) (hb : s.portIdle k = false) : s.commitIdle (0x20 + k) = s := by
  unfold State.commitIdle
  rw [if_neg (by omega), if_neg (by omega), if_pos (by omega), Nat.add_sub_cancel_left, hb]
  rfl

/-- Settles O25, window by window. -/
theorem classCCommitsWhenIdle : Obligations.ClassCCommitsWhenIdle := by
  refine ⟨fun s hs hi => ?dt, fun s hb => ?dtBusy, fun s n hs hp hn h8 hi => ?group, fun s n hp hn h8 hb => ?groupBusy,
    fun s k hk hb => ?portBusy, fun s => ?key⟩
  case dt => exact cClassCommit_on hs ((commitIdle_dt s).trans (if_pos hi))
  case dtBusy => exact cClassCommit_keeps ((commitIdle_dt s).trans (if_neg (Bool.eq_false_iff.mp hb)))
  case group => exact cClassCommit_on hs ((commitIdle_group hp hn h8).trans (if_pos hi))
  case groupBusy => exact cClassCommit_keeps ((commitIdle_group hp hn h8).trans (if_neg (Bool.eq_false_iff.mp hb)))
  case portBusy => exact cClassCommit_keeps (commitIdle_busyPort hk hb)
  case key => exact cClassCommit_keeps rfl

/-! Sector groups. -/

theorem sgEnable_open {s : State} {rq : Rq} (n : Nat) (hp : s.PortOpen rq) :
    exec (.sgEnable rq n) s = .next ((s.otherAccess.sgWrite n true).emit (.ctl 0 false)) :=
  congrArg Host.Outcome.next (ctlWrite_open s rq (State.sgWrite n true) hp)

theorem sgDisable_open {s : State} {rq : Rq} (n : Nat) (hp : s.PortOpen rq) :
    exec (.sgDisable rq n) s = .next ((s.otherAccess.sgWrite n false).emit (.ctl 0 false)) :=
  congrArg Host.Outcome.next (ctlWrite_open s rq (State.sgWrite n false) hp)

section
variable {s : State} {n : Nat} (hn : n < s.params.sgCount) (hp : s.params.profile ≠ .s)
include hn hp

theorem sgWrite_on : s.sgWrite n true
    = let e := if s.sgOn n then 0 else s.cfgErr n
      if e = 0 then (s.setFld (rSgMemCtrl n) 6 4 e).flag (rSgMemCtrl n) 0 else (s.setFld (rSgMemCtrl n) 6 4 e).flag (rSgMemCtrl n) 9 := by
  rw [State.sgWrite, if_neg (by simp [hp, hn]), if_pos rfl]

theorem sgWrite_off : s.sgWrite n false
    = if s.groupUsed n then (s.setFld (rSgMemCtrl n) 6 4 6).flag (rSgMemCtrl n) 9 else s.setFld (rSgMemCtrl n) 0 0 0 := by
  rw [State.sgWrite, if_neg (by simp [hp, hn]), if_neg (by simp)]

end

theorem sgWrite_out (s : State) (n : Nat) (on : Bool) : (s.sgWrite n on).out = s.out := by
  unfold State.sgWrite State.busErr
  dsimp only
  repeat' split
  all_goals rfl

/-- Settles O26: each write answers, and the checks of the new state's group are those of the old one. -/
theorem sectorGroupEnableIsChecked : Obligations.SectorGroupEnableIsChecked := by
  intro s rq n hopen hn hp
  refine ⟨_, _, sgEnable_open n hopen, sgDisable_open n hopen, ?_, ?_, fun hoff herr => ?_, fun hoff herr => ?_, fun _ hused => ?_,
    fun hfree => ?_⟩
  · exact congrArg (· ++ _) (sgWrite_out s.otherAccess n true)
  · exact congrArg (· ++ _) (sgWrite_out s.otherAccess n false)
  all_goals have hn' : n < s.otherAccess.params.sgCount := hn
  all_goals have hp' : s.otherAccess.params.profile ≠ .s := hp
  · have hoff' : s.otherAccess.sgOn n = false := hoff
    have herr' : s.otherAccess.cfgErr n = 0 := herr
    simp [sgWrite_on hn' hp', hoff', herr']
  · have hoff' : s.otherAccess.sgOn n = false := hoff
    have herr' : s.otherAccess.cfgErr n = s.cfgErr n := rfl
    simp [sgWrite_on hn' hp', hoff', herr', herr]
  · have hused' : s.otherAccess.groupUsed n = true := hused
    simp [sgWrite_off hn' hp', hused']
  · have hfree' : s.otherAccess.groupUsed n = false := hfree
    simp [sgWrite_off hn' hp', hfree']

end Sys2Proof.Proofs
end

section
/-!
The statements about slots (R147) and the breach halt (R232): what retirement and release do to a slot, that the wipe leaves no memory
slot in use, and what the halt leaves of the units.
-/
namespace Sys2Proof.Proofs
open Sys2Proof Sys2Proof.Machine

/-! Reading and writing slots. -/

@[simp] theorem slot_setSlot_same (s : State) (n : Nat) (v : Slot) : (s.setSlot n v).slot n = v := Tab.get_set_same ..

theorem slot_setSlot_other (s : State) {n m : Nat} (v : Slot) (h : m ≠ n) : (s.setSlot n v).slot m = s.slot m :=
  Tab.get_set_other _ _ _ h.symm

@[simp] theorem setSlot_refill (s : State) (n : Nat) (v : Slot) : (s.setSlot n v).key.refill = s.key.refill := rfl

@[simp] theorem setSlot_dkc (s : State) (n : Nat) (v : Slot) : (s.setSlot n v).key.dkc = s.key.dkc := rfl

@[simp] theorem setSlot_sg (s : State) (n : Nat) (v : Slot) : (s.setSlot n v).sg = s.sg := rfl

@[simp] theorem setSlot_boot (s : State) (n : Nat) (v : Slot) : (s.setSlot n v).boot = s.boot := rfl

@[simp] theorem setSlot_pins (s : State) (n : Nat) (v : Slot) : (s.setSlot n v).pins = s.pins := rfl

@[simp] theorem setSlot_out (s : State) (n : Nat) (v : Slot) : (s.setSlot n v).out = s.out := rfl

@[simp] theorem slot_modSlot_same (s : State) (n : Nat) (f : Slot → Slot) : (s.modSlot n f).slot n = f (s.slot n) := slot_setSlot_same ..

theorem slot_modSlot_other (s : State) {n m : Nat} (f : Slot → Slot) (h : m ≠ n) : (s.modSlot n f).slot m = s.slot m :=
  slot_setSlot_other s _ h

/-! Retirement. -/

theorem retire_live {s : State} {n : Nat} (h : (s.slot n).st = 1) : (s.retire n).slot n = { s.slot n with st := 2 } := by
  rw [State.retire, if_pos h]
  exact slot_modSlot_same s n fun v => { v with st := 2 }

theorem retire_other_state {s : State} {n : Nat} (h : (s.slot n).st ≠ 1) : s.retire n = s := if_neg h

theorem retire_other_slot (s : State) {n m : Nat} (h : m ≠ n) : (s.retire n).slot m = s.slot m := by
  unfold State.retire
  split
  · exact slot_modSlot_other s (fun v => { v with st := 2 }) h
  · rfl

@[simp] theorem retire_refill (s : State) (n : Nat) : (s.retire n).key.refill = s.key.refill := by
  unfold State.retire
  split <;> rfl

theorem retire_dkc {s : State} (h : s.key.dkc = []) (n : Nat) : (s.retire n).key.dkc = [] := by
  have hfilter : s.key.dkc.filter (fun t => decide (t.1.slot ≠ n)) = [] := by rw [h, List.filter_nil]
  unfold State.retire
  split
  · exact hfilter
  · exact h

/-! The end of a retirement. -/

theorem refillSlot_none {s : State} {n : Nat} (h : s.key.refill.get none n = none) : s.refillSlot n = s := by simp [State.refillSlot, h]

theorem refillSlot_other_slot (s : State) {n m : Nat} (h : m ≠ n) : (s.refillSlot n).slot m = s.slot m := by
  unfold State.refillSlot
  split
  · rfl
  · dsimp only
    split
    · exact slot_setSlot_other _ _ h
    · rfl

/-- A slot that is derived anew is one of a session key: what was free before it is not a memory slot in use after it. -/
theorem refillSlot_own {s : State} {n : Nat} (h : (s.slot n).st = 0) : ((s.refillSlot n).slot n).use = 0 → ((s.refillSlot n).slot n).st = 0 := by
  unfold State.refillSlot
  split
  · exact fun _ => h
  · dsimp only
    split
    · rw [State.fill, slot_setSlot_same]
      exact fun hu => absurd hu Nat.one_ne_zero
    · exact fun _ => h

theorem refillSlot_refill {s : State} {m : Nat} (h : s.key.refill.get none m = none) (n : Nat) :
    (s.refillSlot n).key.refill.get none m = none := by
  have hset : (s.key.refill.set none n none).get none m = none := by
    rw [Tab.get_set, h, ite_self]
  unfold State.refillSlot
  split
  · exact h
  · dsimp only
    split <;> exact hset

theorem refillSlot_dkc (s : State) (n : Nat) : (s.refillSlot n).key.dkc = s.key.dkc := by
  unfold State.refillSlot
  split
  · rfl
  · dsimp only
    split <;> rfl

/-- A memory slot that an anchor entry names is RETIRED, its value zeroised. -/
theorem finishRetire_named {s : State} {n : Nat} (hu : (s.slot n).use = 0) (ha : s.anchorNames n = true) :
    s.finishRetire n = s.modSlot n fun v => { v with st := 3, value := 0, subkey := 0 } := if_pos ⟨hu, ha⟩

/-- Any other slot becomes EMPTY, and what waits for it is derived into it. -/
theorem finishRetire_free {s : State} {n : Nat} (h : ¬((s.slot n).use = 0 ∧ s.anchorNames n = true)) :
    s.finishRetire n = (s.setSlot n Slot.empty).refillSlot n := if_neg h

theorem finishRetire_unawaited {s : State} {n : Nat} (h : ¬((s.slot n).use = 0 ∧ s.anchorNames n = true))
    (hr : s.key.refill.get none n = none) : s.finishRetire n = s.setSlot n Slot.empty := by
  rw [finishRetire_free h, refillSlot_none (by rwa [setSlot_refill])]

theorem finishRetire_other_slot (s : State) {n m : Nat} (h : m ≠ n) : (s.finishRetire n).slot m = s.slot m := by
  unfold State.finishRetire
  split
  · exact slot_modSlot_other s _ h
  · rw [refillSlot_other_slot _ h, slot_setSlot_other s _ h]

theorem finishRetire_refill {s : State} {m : Nat} (h : s.key.refill.get none m = none) (n : Nat) :
    (s.finishRetire n).key.refill.get none m = none := by
  unfold State.finishRetire
  split
  · exact h
  · exact refillSlot_refill (by rwa [setSlot_refill]) n

theorem finishRetire_dkc (s : State) (n : Nat) : (s.finishRetire n).key.dkc = s.key.dkc := by
  unfold State.finishRetire
  split
  · rfl
  · rw [refillSlot_dkc, setSlot_dkc]

/-- No memory slot is LIVE or RETIRING once its retirement has ended. -/
theorem finishRetire_memSlot (s : State) (n : Nat) :
    ((s.finishRetire n).slot n).use = 0 → ((s.finishRetire n).slot n).st = 0 ∨ ((s.finishRetire n).slot n).st = 3 := by
  by_cases h : (s.slot n).use = 0 ∧ s.anchorNames n = true
  · rw [finishRetire_named h.1 h.2, slot_modSlot_same]
    exact fun _ => .inr rfl
  · rw [finishRetire_free h]
    have hempty : ((s.setSlot n Slot.empty).slot n).st = 0 := by rw [slot_setSlot_same]; rfl
    exact fun hu => .inl (refillSlot_own hempty hu)

/-- Where nothing waits for the slot, it is EMPTY or RETIRED with its value zeroised. -/
theorem finishRetire_zeroised {s : State} {n : Nat} (hr : s.key.refill.get none n = none) :
    ((s.finishRetire n).slot n).st = 0 ∨ ((s.finishRetire n).slot n).st = 3 ∧ ((s.finishRetire n).slot n).value = 0 := by
  by_cases h : (s.slot n).use = 0 ∧ s.anchorNames n = true
  · rw [finishRetire_named h.1 h.2, slot_modSlot_same]
    exact .inr ⟨rfl, rfl⟩
  · rw [finishRetire_unawaited h hr, slot_setSlot_same]
    exact .inl rfl

/-- A slot whose retirement ends, where nothing waits for it: zeroised, RETIRED or EMPTY, and nothing else changes. -/
theorem finishRetire_effect {s : State} {n : Nat} (hr : s.key.refill.get none n = none) :
    ((s.finishRetire n).slot n).value = 0
      ∧ ((s.finishRetire n).slot n).st = (if (s.slot n).use = 0 ∧ s.anchorNames n = true then 3 else 0)
      ∧ (s.finishRetire n).sg = s.sg ∧ (s.finishRetire n).boot = s.boot ∧ (s.finishRetire n).pins = s.pins
      ∧ (s.finishRetire n).out = s.out := by
  by_cases h : (s.slot n).use = 0 ∧ s.anchorNames n = true
  · simp [finishRetire_named h.1 h.2, State.modSlot, h]
  · simp [finishRetire_unawaited h hr, Slot.empty, h]

/-! The commands. -/

theorem slotRetireComplete_idle {s : State} {n : Nat} (h : (s.slot n).st ≠ 2 ∨ s.slotBusy n = true ∨ s.boot.phase ≠ .ready) (ok : Bool)
    (ecc : Ecc) : exec (.slotRetireComplete n ok ecc) s = .next s := by
  refine congrArg Host.Outcome.next (if_neg ?_)
  rintro ⟨hst, hbusy, hphase⟩
  rcases h with h | h | h
  · exact h hst
  · simp [h] at hbusy
  · exact h hphase

theorem slotRetireComplete_due {s : State} {n : Nat} (hst : (s.slot n).st = 2) (hb : s.slotBusy n = false) (hp : s.boot.phase = .ready) :
    exec (.slotRetireComplete n true .none) s = .next (s.finishRetire n) := by
  rw [slotRetireComplete_eq, if_pos ⟨hst, by simp [hb], hp⟩]

theorem exec_slotRelease (n : Nat) (s : State) :
    exec (.slotRelease n) s = .next (if (s.slot n).st = 3 ∧ !s.anchorNames n then s.setSlot n Slot.empty else s) := rfl

/-- Settles O57, from the rules of retirement and its end. -/
theorem slotsChangeStateOnlyAsTheTableAllows : Obligations.SlotsChangeStateOnlyAsTheTableAllows := by
  refine ⟨fun s n h => ⟨retire_live h, fun m hm => retire_other_slot s hm⟩, fun s n h => retire_other_state h, ?ends, ?release,
    fun s n h ok ecc => slotRetireComplete_idle h ok ecc, ?named⟩
  case ends =>
    intro s n hst hb hp hr
    obtain ⟨hvalue, hstate, hsg, hboot, hpins, hout⟩ := finishRetire_effect hr
    exact ⟨_, slotRetireComplete_due hst hb hp, hvalue, hstate, fun m hm => finishRetire_other_slot s hm, hsg, hboot, hpins, hout⟩
  case release =>
    intro s n hst ha
    refine ⟨s.setSlot n Slot.empty, ?_, slot_setSlot_same .., fun m hm => slot_setSlot_other s _ hm, setSlot_sg .., setSlot_out ..⟩
    rw [exec_slotRelease, if_pos ⟨hst, by simp [ha]⟩]
  case named =>
    intro s n h
    rw [exec_slotRelease, if_neg]
    rintro ⟨hst, ha⟩
    rcases h with h | h
    · exact h hst
    · simp [h] at ha

/-! The wipe of the memory slots. -/

/-- One slot of the wipe: it is retired, and its retirement ends at once. -/
def wipeSlot (n : Nat) (t : State) : State := (t.retire n).finishRetire n

theorem wipeMemSlots_eq (s : State) :
    s.wipeMemSlots = each (s.slotsWhere fun _ v => decide (v.use = 0) && decide (v.st ≠ 3)) wipeSlot
      (s.modKey fun k => { k with dkc := [] }) := rfl

theorem wipeSlot_other (t : State) {n m : Nat} (h : m ≠ n) : (wipeSlot n t).slot m = t.slot m := by
  rw [wipeSlot, finishRetire_other_slot _ h, retire_other_slot t h]

theorem wipeSlot_refill {t : State} {m : Nat} (h : t.key.refill.get none m = none) (n : Nat) :
    (wipeSlot n t).key.refill.get none m = none :=
  finishRetire_refill (by rwa [retire_refill]) n

/-- What holds of a slot's state once the slot is wiped, and is kept by the wipe of the others, holds after the wipe of a list in which the
slot stands, or if it held before. -/
theorem each_wipeSlot {n : Nat} {P : Slot → Prop} (Q : State → Prop) (hQ : ∀ m t, Q t → Q (wipeSlot m t))
    (hP : ∀ t, Q t → P ((wipeSlot n t).slot n)) (l : List Nat) (t : State) (ht : Q t) (h : n ∈ l ∨ P (t.slot n)) :
    P ((each l wipeSlot t).slot n) := by
  induction l generalizing t with
  | nil => exact h.resolve_left List.not_mem_nil
  | cons m l ih =>
    refine ih (wipeSlot m t) (hQ m t ht) ?_
    by_cases hm : n = m
    · exact .inr (hm ▸ hP t ht)
    · rw [wipeSlot_other t hm]
      exact h.imp_left fun hmem => (List.mem_cons.mp hmem).resolve_left hm

theorem mem_of_find {α : Type} {t : Tab α} {n : Nat} {v : α} (h : t.find n = some v) : (n, v) ∈ t := by
  induction t with
  | nil => cases h
  | cons x r ih =>
    obtain ⟨j, w⟩ := x
    unfold Tab.find at h
    split at h
    · rename_i hj
      cases h
      exact hj ▸ List.mem_cons_self
    · exact List.mem_cons_of_mem _ (ih h)

/-- A slot that is not EMPTY and passes a test is among those of the test. -/
theorem mem_slotsWhere {s : State} {n : Nat} {f : Nat → Slot → Bool} (h0 : (s.slot n).st ≠ 0) (hf : f n (s.slot n) = true) :
    n ∈ s.slotsWhere f := by
  cases hfind : s.key.slots.find n with
  | none => simp [State.slot, Tab.get, hfind, Slot.empty] at h0
  | some v =>
    have hv : s.slot n = v := by simp [State.slot, Tab.get, hfind]
    rw [hv] at h0 hf
    exact List.mem_map.mpr ⟨(n, v), List.mem_filter.mpr ⟨mem_of_find hfind, by simp [h0, hf]⟩, rfl⟩

theorem mem_wiped {s : State} {n : Nat} (hu : (s.slot n).use = 0) (h0 : (s.slot n).st ≠ 0) (h3 : (s.slot n).st ≠ 3) :
    n ∈ s.slotsWhere fun _ v => decide (v.use = 0) && decide (v.st ≠ 3) :=
  mem_slotsWhere h0 (by simp [hu, h3])

/-- After the wipe a memory slot is EMPTY or RETIRED. -/
theorem wipeMemSlots_memSlot (s : State) (n : Nat) :
    (s.wipeMemSlots.slot n).use = 0 → (s.wipeMemSlots.slot n).st = 0 ∨ (s.wipeMemSlots.slot n).st = 3 := by
  rw [wipeMemSlots_eq]
  refine each_wipeSlot (P := fun v => v.use = 0 → v.st = 0 ∨ v.st = 3) (fun _ => True) (fun _ _ _ => trivial)
    (fun t _ => finishRetire_memSlot _ n) _ _ trivial ?_
  by_cases h : n ∈ s.slotsWhere fun _ v => decide (v.use = 0) && decide (v.st ≠ 3)
  · exact .inl h
  · refine .inr fun hu => ?_
    by_contra hst
    obtain ⟨h0, h3⟩ := not_or.mp hst
    exact h (mem_wiped hu h0 h3)

/-- A LIVE or RETIRING memory slot for which nothing waits is zeroised by the wipe. -/
theorem wipeMemSlots_zeroises {s : State} {n : Nat} (hu : (s.slot n).use = 0) (h0 : (s.slot n).st ≠ 0) (h3 : (s.slot n).st ≠ 3)
    (hr : s.key.refill.get none n = none) :
    (s.wipeMemSlots.slot n).st = 0 ∨ (s.wipeMemSlots.slot n).st = 3 ∧ (s.wipeMemSlots.slot n).value = 0 := by
  rw [wipeMemSlots_eq]
  exact each_wipeSlot (P := fun v => v.st = 0 ∨ v.st = 3 ∧ v.value = 0) (fun t => t.key.refill.get none n = none)
    (fun m t ht => wipeSlot_refill ht m) (fun t ht => finishRetire_zeroised (by rwa [retire_refill])) _ _ hr (.inl (mem_wiped hu h0 h3))

/-- The wipe leaves the derived-key cache empty. -/
theorem wipeMemSlots_dkc (s : State) : s.wipeMemSlots.key.dkc = [] := by
  rw [wipeMemSlots_eq]
  have hall : ∀ (l : List Nat) (t : State), t.key.dkc = [] → (each l wipeSlot t).key.dkc = [] := by
    intro l
    induction l with
    | nil => exact fun _ h => h
    | cons n l ih => exact fun t h => ih (wipeSlot n t) ((finishRetire_dkc _ n).trans (retire_dkc h n))
  exact hall _ _ rfl

/-! The breach halt. -/

/-- What the halt does before its wipe: the latch, the fences, the answers to requests that pass, the press record and the links. -/
def breachStops (src addr : Nat) (s : State) : State :=
  (((each parts16 State.raisePfence (s.modBoot fun b =>
    { b with breached := true, warmRun := none, flush := false, retRun := false }).fenceAll).passFenced).freezePress
      .breach src .breach none addr).allDown

theorem breach_eq {s : State} (h : s.boot.breached = false) (src addr : Nat) :
    s.breach src addr = ((((((breachStops src addr s).wipeMemSlots.discardEgress.modSg fun g =>
      { g with mdc := [], merge := [], accs := [], rds := [], saQ := [] }).modKey fun k => { k with cce := [] }).modPins fun q =>
      { q with breachN := false, chipRstReq := true }).modBoot fun b => { b with chipCause := 6 }).modRst fun r =>
      { r with steps := r.steps.filter (fun x => decide (x ≠ .chip)) ++ [.chip] }) := by
  rw [State.breach, if_neg (by simp [h])]
  rfl

theorem breachStops_boot (src addr : Nat) (s : State) :
    (breachStops src addr s).boot = { s.boot with breached := true, warmRun := none, flush := false, retRun := false } :=
  (calm_State_allDown _).trans <| (calm_State_freezePress ..).trans <| (calm_State_passFenced _).trans <|
    (calm_each _ _ _ calm_State_raisePfence).trans (calm_State_fenceAll _)

theorem breach_boot {s : State} (h : s.boot.breached = false) (src addr : Nat) :
    (s.breach src addr).boot
      = { s.boot with breached := true, warmRun := none, flush := false, retRun := false, chipCause := 6 } := by
  rw [breach_eq h]
  have hboot : (breachStops src addr s).wipeMemSlots.boot = _ := (calm_State_wipeMemSlots _).trans (breachStops_boot src addr s)
  simp [State.discardEgress, hboot]

theorem breach_key {s : State} (h : s.boot.breached = false) (src addr : Nat) :
    (s.breach src addr).key = { (breachStops src addr s).wipeMemSlots.key with cce := [] } := by
  simp only [breach_eq h, modRst_key, modBoot_key, modPins_key, modKey_key, modSg_key, State.discardEgress, modObs_key, modHst_key,
    modCmd_key, modLnk_key]

theorem breach_slot {s : State} (h : s.boot.breached = false) (src addr n : Nat) :
    (s.breach src addr).slot n = (breachStops src addr s).wipeMemSlots.slot n := by
  simp only [State.slot, breach_key h]

/-- What the halt discards: the metadata cache, the work of the memory side and what waits to leave. -/
theorem breach_discards {s : State} (h : s.boot.breached = false) (src addr : Nat) :
    let t := s.breach src addr
    t.sg.mdc = [] ∧ t.sg.merge = [] ∧ t.sg.accs = [] ∧ t.sg.rds = [] ∧ t.sg.north = [] ∧ t.sg.saQ = [] ∧ t.hst.held = [] ∧ t.cmd.cdm = [] := by
  simp [breach_eq h, State.discardEgress]

theorem breach_pins {s : State} (h : s.boot.breached = false) (src addr : Nat) :
    (s.breach src addr).pins.breachN = false ∧ (s.breach src addr).pins.chipRstReq = true := by
  simp [breach_eq h]

theorem breach_steps {s : State} (h : s.boot.breached = false) (src addr : Nat) :
    (s.breach src addr).rst.steps.contains .chip = true := by
  simp [breach_eq h]

/-- Settles O31, unit by unit: the wipe gives the slots, the law of the halt the fuses and the parameters, its last steps the rest. -/
theorem breachHaltsTheBlock : Obligations.BreachHaltsTheBlock := by
  intro s src addr h t
  have hboot : t.boot = _ := breach_boot h src addr
  have hkey : t.key = _ := breach_key h src addr
  have hstill : t.still = s.still := still_State_breach src addr s
  obtain ⟨hmdc, hmerge, haccs, hrds, hnorth, hsaq, hheld, hcdm⟩ := breach_discards h src addr
  obtain ⟨hbreachN, hreq⟩ := breach_pins h src addr
  have hbreached : t.boot.breached = true := by rw [hboot]
  refine ⟨hbreached, by simp [State.runs, hbreached], by simp [State.admits, hbreached], hbreachN, hreq, by rw [hboot],
    breach_steps h src addr, hmdc, hmerge, haccs, hrds, hnorth, hheld, hcdm, by rw [hkey, wipeMemSlots_dkc], fun n => ?_,
    fun n => wipeMemSlots_zeroises, by rw [hboot], by rw [hboot], hsaq, by rw [hkey], fuse_of_still hstill, congrArg Prod.fst hstill⟩
  rw [breach_slot h]
  exact wipeMemSlots_memSlot _ n

end Sys2Proof.Proofs
end

section
/-!
The statements about command packets of the classes 0x00 to 0x04 (R380 to R404): each is admitted under its row, its checks hold in the
state in which it comes, and its effect is that of its command.
-/
namespace Sys2Proof.Proofs
open Sys2Proof Sys2Proof.Machine Sys2Proof.Laws

/-! The completion of an accepted packet. -/

@[simp] theorem chk_eq_nil {b : Bool} {e : Status} {n : Nat} : chk b e n = [] ↔ b = true := by cases b <;> simp [chk]

/-- An accepted packet that nothing holds and no check of its command refuses has its effect, in whatever form that is written. -/
theorem packet_completes {s : State} {r : Row} {h : Hdr} {refs : List Nat} {hold : Option Nat} {fails : List Fail}
    {act : Pend → State → State} {t : State} (ha : s.Accepts r h refs) (hh : hold = none) (hf : fails = [])
    (he : s.afterAdmission r h refs act = t) :
    (.next (s.admitWith r h refs hold fails act) : Ans) = .next t := by
  rw [admitWith_accepts s r h refs hold fails act ha hh hf, he]

/-- The generator is ready: nothing that draws waits for it. -/
theorem rngHold_ready {s : State} (h : s.key.rngReady = true) : s.rngHold = none := if_pos h

/-- A context that is resident needs no restore. -/
theorem restoreFirst_resident {s : State} {c : Nat} (h : (s.ctx c).resident = true) (p : Nat) : s.restoreFirst p c = none := by
  simp [State.restoreFirst, h]

/-- A context of the partition that is neither FREE nor in TEARDOWN passes the checks of its number. -/
theorem ctxFails_there {s : State} {p c : Nat} (hc : c < 0xFFFF) (h0 : (s.ctx c).st ≠ 0) (h3 : (s.ctx c).st ≠ 3) (hp : (s.ctx c).part = p)
    (off : Nat) : s.ctxFails p c off = [] := by
  simp [State.ctxFails, State.ctxThere, hc, h0, h3, hp]

/-! Class 0x00. -/

/-- Settles O10: class 0x00 has no checks of its own; REPLY_POLL finds the reply, CARRY its live session and a buffer that holds the reply. -/
theorem generalPacketsComplete : Obligations.GeneralPacketsComplete := by
  refine ⟨fun s h ha => packet_completes ha rfl rfl rfl, fun s h ha => packet_completes ha rfl rfl rfl, ?poll, ?carry⟩
  case poll =>
    intro s h seq ha sid r hsid hr
    refine packet_completes ha rfl rfl ?_
    simp only [State.afterAdmission, hsid, hr]
  case carry =>
    intro s h sid ra rl pa pl mx ha hmx hlive
    refine packet_completes ha rfl rfl ?_
    simp [State.afterAdmission, hlive, Nat.not_lt.mpr hmx]

/-! Class 0x01. -/

theorem rangeEntries_zero (s : State) : s.rangeEntries 0 0 = some [] := by simp [State.rangeEntries]

/-- A partition that is not FREE has no record to erase first, and its release has no other check. -/
theorem partRelease_held {s : State} (h : Hdr) (z : Bool) (hst : s.pst h.part ≠ 0) :
    exec (.partRelease h z) s = .next (s.admitCmd releaseRow h [] fun p u => u.partStep h.part [p] z) := by
  simp [exec, execPartRelease, hst, chk_true]

/-- Settles O11. PART_ASSIGN takes its manifest from the stage that it names, or has none. -/
theorem partitionPacketsComplete : Obligations.PartitionPacketsComplete := by
  refine ⟨?assign, ?assignS, ?release, ?share, ?add, ?rearm, ?policy, ?stage, ?teardown⟩
  case assign =>
    intro s h strict allot merge weight mdc dkc pbase psize ot es r ha hfree hs hrng hshare hes hun hot1 hot hslot hdf hrec hdbg u hu
    refine packet_completes ha (by simp [hs, rngHold_ready hrng]) ?_ ?_
    · simp [hs, hfree, hes, hun, hot1, hot, hslot, hdf, hrec, hdbg]
      exact hshare
    · unfold State.afterAdmission
      dsimp only
      generalize hx : State.assignNew h.part _ _ = x
      obtain rfl : x = (u, .done) := hx.symm.trans hu
      simp only [hes, Option.getD_some, if_true]
  case assignS =>
    intro s h strict allot merge weight mdc dkc stage m r ha hfree hs h1 h4 hm hown hdom hshare hdf hrec hdbg u hu
    refine packet_completes ha (by simp [hs]) ?_ ?_
    · simp [hs, hfree, h1, h4, hm, hdom, hdf, hrec, hdbg]
      exact ⟨hown, hshare⟩
    · unfold State.afterAdmission
      simp only [h1, h4, hm, and_self, if_true, rangeEntries_zero, Option.getD_some, Option.elim_some, List.length_nil]
      generalize hx : State.assignNew h.part _ _ = x
      obtain rfl : x = (u, .done) := hx.symm.trans hu
      rfl
  case release =>
    intro s h z ha hst
    exact (partRelease_held h z hst).trans (packet_completes ha rfl rfl rfl)
  case share =>
    intro s h w ha hst
    exact packet_completes ha rfl (by simp [hst]) rfl
  case add =>
    intro s h base size es ha hst hes hun
    refine packet_completes ha rfl (by simpa [hes, hun, or_assoc] using hst) ?_
    simp [State.afterAdmission, hes]
  case rearm =>
    intro s h addr e ha he hst hpart hcnt hres
    refine packet_completes ha rfl (by simp [he, hst, hpart, hcnt, hres]) ?_
    simp [State.afterAdmission, he]
  case policy =>
    intro s h pol ha hpol
    exact packet_completes ha rfl (by simp [hpol]) rfl
  case stage =>
    intro s h stage m ha h1 h4 htr hbase hchk
    refine packet_completes ha rfl (by simp [h1, h4, htr, hbase]) ?_
    simp only [State.afterAdmission, hchk]
  case teardown =>
    intro s h ha hman
    exact packet_completes ha rfl (by simp [hman]) rfl

/-! Class 0x02. -/

/-- Settles O12. -/
theorem contextPacketsComplete : Obligations.ContextPacketsComplete := by
  refine ⟨?createS, ?create, ?destroy, ?queue, ?queueDestroy⟩
  case createS =>
    intro s h ctx pasid pv ha hn hst h0 h5 hs hroom
    refine packet_completes ha rfl (by simp [hn, hst, h0, h5, hs, hroom]) ?_
    simp only [State.afterAdmission, hn, hs, if_false, decide_true, if_true, Option.getD_some]
    rfl
  case create =>
    intro s h ctx pasid pv u i g x ha hn hst h0 h5 hs hw halloc
    refine packet_completes ha rfl (by simp [hn, hst, h0, h5, hs, hw]) ?_
    simp [State.afterAdmission, hn, hs, halloc]
  case destroy =>
    intro s h ctx ha hc hres h0 h3 hpart
    exact packet_completes ha (restoreFirst_resident hres _) (by simp [State.ctxThere, hc, h0, h3, hpart]) rfl
  case queue =>
    intro s h ctx queue log2 sq rq ha hc hres h0 h3 hpart hq hfree hlo hhi hsq hrq hsqr hrqr hpin
    refine packet_completes ha ?_ ?_ ?_
    · simp [restoreFirst_resident hres, hpin]
    · simp [ctxFails_there hc h0 h3 hpart, hq, Nat.mod_eq_of_lt hq, hfree, hlo, hhi, hsq, hrq, hsqr, hrqr]
    · simp [State.afterAdmission, Nat.mod_eq_of_lt hq, each]
  case queueDestroy =>
    intro s h ctx queue ha hc hres h0 h3 hpart hq hvalid hd
    exact packet_completes ha (restoreFirst_resident hres _)
      (by simp [ctxFails_there hc h0 h3 hpart, hq, Nat.mod_eq_of_lt hq, hvalid, hd]) rfl

/-! Class 0x03. -/

/-- Settles O13. -/
theorem objectPacketsComplete : Obligations.ObjectPacketsComplete := by
  refine ⟨?alloc, fun s h obj gen ha hf => packet_completes ha rfl hf rfl, fun s h obj gen ha hf => packet_completes ha rfl hf rfl⟩
  intro s h plots shared u i g x ha h0 hmax hw halloc
  refine packet_completes ha rfl (by simp [h0, hmax, hw]) ?_
  simp only [State.afterAdmission, halloc]

theorem opHold_room {s : State} (h : s.atomicsOut < 65536) : s.opHold = none := if_neg (Nat.not_le.mpr h)

/-- Settles O14. A source that cannot be read decides before the status of its bytes does. -/
theorem remotePacketsComplete : Obligations.RemotePacketsComplete := by
  refine ⟨?ratomic, ?raccum, ?query, ?contrib⟩
  case ratomic =>
    intro s h dst op attr obj gen offset x y ha hout hlo hhi hop hal hlost hf
    exact packet_completes ha (opHold_room hout) (by simpa [hlo, hhi, hop, hal, hlost] using hf) rfl
  case raccum =>
    intro s h dst op attr obj gen offset so sg sf size src ha hout hlo hhi hop hal hsf hsize hin hh hlost hf t u p rd hbegun hread
    have hfails : (chk (decide (0x20 ≤ op) && decide (op ≤ 0x2D)) .badParam 18 ++ chk (vectorOk op attr) .badParam 19
        ++ chk (decide (offset % 256 = 0)) .badParam 27 ++ chk (decide (sf % 256 = 0)) .badParam 39
        ++ chk (decide (sf + (srcSize op (bits attr 1 0)).getD 0 ≤ 65536 * (s.obj h.part so).plots)) .badParam 39
        ++ s.handleFails h so sg 32 ++ chk (!s.isLost h.part dst) .memberLost 16
        ++ chk (!srcMx op || s.featureOn h.part dst 0) .badParam 18) = [] := by
      simpa [hlo, hhi, hop, hal, hsf, hsize, hin, hh, hlost] using hf
    refine ⟨fun hrd => ?_, fun st hrd => ?_, fun st hrd hst => ?_⟩
    all_goals refine packet_completes ha (opHold_room hout) hfails ?_
    · simp [State.afterAdmission, hbegun, hsize, hread, hrd, firstBad]
    · simp [State.afterAdmission, hbegun, hsize, hread, hrd, firstBad]
    · simp [State.afterAdmission, hbegun, hsize, hread, hrd, hst, firstBad]
  case query =>
    intro s h dst txid issue ha hlost
    exact packet_completes ha rfl (by simp [hlost]) rfl
  case contrib =>
    intro s h c sw so sg sf src ha hc hin hh hlost t u p rd hbegun hread o
    have hfails : (chk (decide (0x50 = 0x50)) .badParam 16 ++ chk (contribOk c) .badParam 17
        ++ chk (decide (sf + c.count * srcBits c.fmt / 8 ≤ 65536 * (s.obj h.part so).plots)) .badParam 75
        ++ s.handleFails h so sg 68 ++ chk (!s.isLost h.part sw) .memberLost 64) = [] := by
      simp [hc, hin, hh, hlost]
    refine ⟨fun hrd => ?_, fun st hrd => ?_, fun st hrd hst => ?_⟩
    all_goals refine packet_completes ha rfl hfails ?_
    · simp [State.afterAdmission, hbegun, hread, hrd, firstBad, o]
    · simp [State.afterAdmission, hbegun, hread, hrd, firstBad]
    · simp [State.afterAdmission, hbegun, hread, hrd, hst, firstBad]

/-! Class 0x04. -/

/-- Settles O15. -/
theorem fencePacketsComplete : Obligations.FencePacketsComplete := by
  refine ⟨?create, ?createD, ?signal, ?wait, ?reset, ?destroy, ?share⟩
  case create =>
    intro s h f ha hfreed hnext hf hfreed'
    refine packet_completes ha rfl (by simp [hfreed, hnext, hf]) ?_
    simp [State.afterAdmission, hfreed, hnext, hf, hfreed']
  case createD =>
    intro s h i ha hi
    refine packet_completes ha rfl (by simp [hi]) ?_
    simp [State.afterAdmission, hi]
  case signal =>
    intro s h f e ha hm he
    exact packet_completes ha rfl (by simp [hm, he]) rfl
  case wait =>
    intro s h f ha hok hm
    exact packet_completes ha rfl (by simpa [hok] using hm) rfl
  case reset =>
    intro s h f ha hm
    refine packet_completes ha rfl (by simp [hm]) ?_
    by_cases hf : f < 0xF000 <;> simp [State.afterAdmission, hf]
  case destroy =>
    intro s h f ha hok hm
    exact packet_completes ha rfl (by simpa [hok, or_assoc] using hm) rfl
  case share =>
    intro s h f c ha hok howner hctx hne hnot hroom hres
    have hhas : (decide ((s.fence h.part f).owner = c) || (s.fence h.part f).shares.contains c) = false := by
      simpa [howner, hne] using hnot
    refine packet_completes ha (restoreFirst_resident hres _) (by simp [hok, howner, hctx, hroom]) ?_
    simp only [State.afterAdmission, hhas, Bool.false_eq_true, if_false]

end Sys2Proof.Proofs
end

section
/-!
The statements about command packets of the classes 0x05 to 0x09 (R380, R390, R465 to R475, R486, R494 to R499, R508 to R528) and about the
life of a debug challenge.
-/
namespace Sys2Proof.Proofs
open Sys2Proof Sys2Proof.Machine Sys2Proof.Laws

/-! Class 0x05. -/

/-- A check that holds only where `a` does. -/
theorem not_or_of_imp_bool {a b : Bool} (h : a = true → b = true) : (!a || b) = true := by
  cases a
  · rfl
  · exact h rfl

/-- KEY_UNWRAP's checks pass for a blob of a 256-bit value. -/
theorem keyUnwrap_fails {s : State} {h : Hdr} {w : Nat} {b : List Byte} (hw : s.controlSlot h.part w = true) (ht : h.trailer = b.length)
    (hb : b.length = 80) (hlen : ofLe ((b.drop 6).take 2) = 32) (hslot : (s.takeSlot h.part).isSome = true) :
    chk (s.controlSlot h.part w) .badParam 16 ++ chk (decide (h.trailer = b.length) && decide (b.length = 48 + blobLen b)) .badParam 0
      ++ chk (s.takeSlot h.part).isSome .outOfSlots 16 = [] := by
  simp [hw, ht, hb, blobLen, hlen, hslot]

/-- The checks of a control-engine message on its length and its counter (R182). -/
theorem cce_lengths {mode len n : Nat} {dec g : Bool} (hcbc : mode = 0 → dec = true → len % 16 = 0)
    (hgcm : mode = 1 → g = false → n ≤ 2 ^ 32) :
    (!(decide (mode = 0) && dec) || decide (len % 16 = 0)) = true ∧ (!(decide (mode = 1) && !g) || decide (n ≤ 2 ^ 32)) = true := by
  constructor <;> apply not_or_of_imp_bool <;> simpa using by assumption

/-- Settles O16. -/
theorem keyPacketsComplete : Obligations.KeyPacketsComplete := by
  refine ⟨?reseal, ?attest, ?gen, ?import', ?wrap, ?unwrap, ?retire, ?cce, ?tolaro, ?seed,
    fun s h step ha => packet_completes ha rfl rfl rfl⟩
  case reseal =>
    intro s h n ha hrng hidle hst hslot hn
    refine packet_completes ha (rngHold_ready hrng) (by simpa [hidle, hslot, or_assoc] using hst) ?_
    simp only [State.afterAdmission, hn]
  case attest =>
    intro s h slot nonce ha hrng hown h1
    exact packet_completes ha (rngHold_ready hrng) (by simp [hown, h1]) rfl
  case gen =>
    intro s h e r m ha hrng hslot
    exact packet_completes ha (rngHold_ready hrng) (by simp [hslot]) rfl
  case import' =>
    intro s h e r m v ha htr hslot
    exact packet_completes ha rfl (by simp [htr, hslot]) rfl
  case wrap =>
    intro s h slot w ha hrng hown hex hw
    exact packet_completes ha (rngHold_ready hrng) (by simp [hown, hex, hw]) rfl
  case unwrap =>
    intro s h w b ha hw htr hlen hslot t p attr hbegun hattr h2 h32 h0 huse
    constructor <;> intro htag <;>
      refine packet_completes ha rfl (keyUnwrap_fails hw htr hlen h32 hslot) ?_
    · simp [State.afterAdmission, hbegun, htag, h2, h32, h0, blobLen, ← hattr, huse]
    · simp [State.afterAdmission, hbegun, htag]
  case retire =>
    intro s h slot ha hslot
    exact packet_completes ha rfl (by simp [hslot]) rfl
  case cce =>
    intro s h slot mode len dec g iv msg ha hg hslot hmode hlo hhi htr hmsg hcbc hgcm
    obtain ⟨hc, hn⟩ := cce_lengths hcbc hgcm
    simp only [exec, execCceOp, Bool.false_eq_true, if_false]
    refine packet_completes ha ?_ ?_ rfl
    · cases g with
      | false => rfl
      | true => exact rngHold_ready (hg rfl)
    · simp only [List.append_eq_nil_iff, chk_eq_nil, hslot, hmode, hlo, hhi, htr, hmsg, hc, hn, decide_true, Bool.and_self, and_self]
  case tolaro =>
    intro s h slot mode len dec g iv msg hph hst hblk huse hmode hlo hhi hcbc hgcm hg
    obtain ⟨hc, hn⟩ := cce_lengths hcbc hgcm
    have hr : (!g || s.key.rngReady) = true := not_or_of_imp_bool hg
    simp only [exec, execCceOp, State.cceTolaro, hc, hn, hr, hph, hst, hblk, huse, hmode, hlo, hhi, decide_true, Bool.and_self, if_true]
  case seed =>
    intro s h slot ha hslot
    exact packet_completes ha rfl (by simpa using hslot) rfl

/-! Class 0x06. -/

/-- The checks of SCHED_ARM (R122, R128) pass for an entry that its issuer may write. -/
theorem schedArm_fails {s : State} {h : Hdr} {e : SchedReq}
    (hblock : e.block = true → (h.issuer = .mgmt ∨ h.issuer = .host) ∧ (e.action = 1 ∨ e.action = 8) ∧ e.domain = false)
    (hmay : s.mayAct h.issuer h.part e.action e.param.toNat = true) (hlo : 1 ≤ e.action) (hhi : e.action ≤ 8)
    (hst : e.block = false → s.pst h.part ≠ 0) (hdom : e.domain = true → s.pst h.part = 3 ∧ s.now + 1000000 ≤ e.instant)
    (hwin : e.action = 1 → s.windowThere (e.param.toNat % 65536) = true)
    (hport : (e.action = 2 ∨ e.action = 3) → e.param.toNat % 2 ^ 18 < 2 ^ s.params.fpCount)
    (hnew : s.liveEntry e.block (s.schedOrigin h.part e.block) e.id = none) (hfree : s.freeSched.isSome = true) :
    chk (!e.block || (decide (h.issuer = .mgmt) || decide (h.issuer = .host))) .refusedIssuer 29
      ++ chk (s.mayAct h.issuer h.part e.action e.param.toNat) .refusedIssuer 28
      ++ chk (decide (1 ≤ e.action) && decide (e.action ≤ 8)) .badParam 28
      ++ chk (!e.block || decide (e.action = 1) || decide (e.action = 8)) .badParam 28
      ++ chk (!e.block || !e.domain) .badParam 29 ++ chk (e.block || decide (s.pst h.part ≠ 0)) .badParam 2
      ++ chk (!e.domain || (decide (s.pst h.part = 3) && decide (s.now + 1000000 ≤ e.instant))) .badParam 16
      ++ chk (decide (e.action ≠ 1) || s.windowThere (e.param.toNat % 65536)) .badParam 34
      ++ chk (decide (e.action ≠ 2 ∧ e.action ≠ 3) || decide (e.param.toNat % 2 ^ 18 < 2 ^ s.params.fpCount)) .badParam 34
      ++ chk (s.liveEntry e.block (s.schedOrigin h.part e.block) e.id).isNone .badParam 30
      ++ chk s.freeSched.isSome .outOfSlots 16 = [] := by
  have hwin' : (decide (e.action ≠ 1) || s.windowThere (e.param.toNat % 65536)) = true := by
    by_cases h1 : e.action = 1 <;> simp [h1, hwin]
  have hport' : (decide (e.action ≠ 2 ∧ e.action ≠ 3) || decide (e.param.toNat % 2 ^ 18 < 2 ^ s.params.fpCount)) = true := by
    by_cases h2 : e.action ≠ 2 ∧ e.action ≠ 3
    · simp [h2]
    · rw [decide_eq_true (hport (by omega)), Bool.or_true]
  have hdom' : (!e.domain || (decide (s.pst h.part = 3) && decide (s.now + 1000000 ≤ e.instant))) = true :=
    not_or_of_imp_bool (by simpa using hdom)
  simp only [List.append_eq_nil_iff, chk_eq_nil, hmay, hlo, hhi, hwin', hport', hdom', hnew, hfree, decide_true, Bool.and_self, Option.isNone_none,
    and_true]
  cases hb : e.block with
  | false => simp [hst hb]
  | true =>
    obtain ⟨hissuer, haction, hdomain⟩ := hblock hb
    simpa [hdomain] using ⟨hissuer, haction⟩

/-- Settles O17. -/
theorem schedulePacketsComplete : Obligations.SchedulePacketsComplete := by
  constructor
  case left =>
    intro s h e i ha hblock hmay hlo hhi hst hdom hwin hport hnew hfree hi
    refine packet_completes ha rfl (schedArm_fails hblock hmay hlo hhi hst hdom hwin hport hnew hfree) ?_
    simp only [State.afterAdmission, hi, Option.getD_some]
    exact apply_ite (fun t : State => t.ok _ i) _ _ _
  case right =>
    intro s h id block i ha hblock hlive hpart hmay hst hdue
    have hstaff : (!block || (decide (h.issuer = .mgmt) || decide (h.issuer = .host))) = true := not_or_of_imp_bool (by simpa using hblock)
    refine packet_completes ha rfl ?_ ?_
    · simp only [hlive, hstaff]
      simpa [hmay, hst, hdue] using hpart
    · simp only [State.afterAdmission, hlive, Option.map_some]
      exact apply_ite (fun t : State => t.ok _ 0) _ _ _

/-! Class 0x07. -/

/-- Settles O18. -/
theorem observabilityPacketsComplete : Obligations.ObservabilityPacketsComplete := by
  refine ⟨?own, ?glob, ?cfg, ?start, ?stop, ?trig, ?rel, ?tensor, ?press, fun s h ha => packet_completes ha rfl rfl rfl⟩
  case own =>
    intro s h index ha hi hx
    exact packet_completes ha rfl (by simp [hi, hx]) rfl
  case glob =>
    intro s h index ha hi hx
    exact packet_completes ha rfl (by simp [hi, hx]) rfl
  case cfg =>
    intro s h ring base lg mode post ha hring hvbr hact hlo hhi hmode hplace
    exact packet_completes ha (if_pos hvbr) (by simp [hring, hact, hlo, hhi, hmode, hplace]) rfl
  case start =>
    intro s h ring ha hring hst
    refine packet_completes ha rfl (by simp [hring, hst]) ?_
    simp only [State.afterAdmission]
    exact apply_ite (fun t : State => t.ok _ 0) _ _ _
  case stop =>
    intro s h ring ha hring hst
    exact packet_completes ha rfl (by simp [hring, hst]) rfl
  case trig =>
    intro s h ring ha hring
    exact packet_completes ha rfl (by simp [hring]) rfl
  case rel =>
    intro s h ring ha hring hst
    exact packet_completes ha rfl (by simp [hring, hst]) rfl
  case tensor =>
    intro s h name base len i ha hname hdump hbase hlen hpos hmax hobj hown hroom
    refine packet_completes ha rfl ?_ ?_
    · simp only [hobj, hdump, hbase, hlen, hmax, hroom, Nat.pos_iff_ne_zero.mp hpos]
      simpa [show ¬name = 0#32 from hname, or_assoc] using hown
    · simp [State.afterAdmission, hobj, Nat.pos_iff_ne_zero.mp hpos]
  case press =>
    intro s h first n ha hlo hhi
    exact packet_completes ha rfl (by simp [hlo, hhi]) rfl

/-! Class 0x08. -/

/-- Settles O19. -/
theorem resetPacketsComplete : Obligations.ResetPacketsComplete := by
  refine ⟨?context, ?engine, ?free, ?partition, ?warm, ?chip, ?power⟩
  case context =>
    intro s h c ha hc hres h0 h3 hpart
    exact packet_completes ha (restoreFirst_resident hres _) (ctxFails_there hc h0 h3 hpart _) rfl
  case engine =>
    intro s h e ha he hmap h0 h5 hscrub
    refine packet_completes ha rfl (by simp [he, hmap, h0, h5, hscrub]) ?_
    simp [State.afterAdmission, hmap]
  case free =>
    intro s h e ha he hmap
    refine packet_completes ha rfl (by simp [he, hmap]) ?_
    simp [State.afterAdmission, hmap]
  case partition =>
    intro s h ha hst
    exact packet_completes ha rfl (by simp [hst]) rfl
  all_goals
    intro s h ha hsig
    exact packet_completes ha rfl (by simp [hsig]) rfl

/-! Class 0x09. -/

/-- DBG_CHALLENGE completes where the life cycle accepts its level (R473). -/
theorem dbgChallenge_completes {s : State} {h : Hdr} {level : Nat}
    (ha : s.Accepts ⟨0x0902, [.mgmt, .host, .tenant], .all, 1, 0, false⟩ h []) (hrng : s.key.rngReady = true)
    (hlevel : level = 1 ∨ level = 2) (hlc : lcLevel s.boot.lc = some level) (hdis : s.control 0x32 = false) (hauth : s.boot.dbgAuth = 0)
    (hwipe : s.boot.lc ≠ 3 ∨ s.control 0x31 = true) :
    exec (.dbgChallenge h level) s = .next (s.afterAdmission ⟨0x0902, [.mgmt, .host, .tenant], .all, 1, 0, false⟩ h [] fun p t =>
      (t.drawn.modBoot fun b => { b with challenge := some (t.free.setWidth 128, level) }).ok p (BitVec.setWidth 128 t.free).toNat) := by
  refine packet_completes ha (rngHold_ready hrng) ?_ rfl
  simp only [List.append_eq_nil_iff, chk_eq_nil, hlc, hdis, hauth, decide_true, Bool.not_false, Bool.and_self, Bool.true_and]
  exact ⟨by simpa using hlevel, by simpa using hwipe⟩

/-- Settles O20. -/
theorem lifeCyclePacketsComplete : Obligations.LifeCyclePacketsComplete := by
  refine ⟨?transition, fun _ _ _ => dbgChallenge_completes, ?token⟩
  case transition =>
    intro s h target tok ha hsig hlc hheld hsup hauth htok
    exact packet_completes ha rfl (by simp [hsig, hlc, hheld, hsup, hauth, htok]) rfl
  case token =>
    intro s h tok chal level ha hadm hpath hwait hchal hwipe htok
    have htaken : (s.admits && s.pathOpen h.path
        && (s.admitWait tokenRow.opc h [] none (s.issuerOk tokenRow h || !tokenRow.prof.has s.params.profile)).isNone) = true := by
      have hprof : tokenRow.prof.has s.params.profile = true := rfl
      simp only [hadm, hpath, hprof, Bool.not_true, Bool.or_false, Bool.true_and, Option.isNone_iff_eq_none]
      exact hwait
    change execDbgToken h tok s = _
    unfold execDbgToken
    simp only [htaken, hchal, when, if_true, Option.getD_some]
    refine packet_completes ha rfl ?_ rfl
    simpa [htok, imp_iff_not_or] using hwipe

/-! The life of a debug challenge (R473, R474). -/

/-- DBG_CHALLENGE is refused where the life cycle does not accept its level. -/
theorem dbgChallenge_refused {s : State} {h : Hdr} {level : Nat}
    (ha : s.Accepts ⟨0x0902, [.mgmt, .host, .tenant], .all, 1, 0, false⟩ h []) (hrng : s.key.rngReady = true)
    (hlevel : level = 1 ∨ level = 2)
    (hbad : lcLevel s.boot.lc ≠ some level ∨ s.control 0x32 = true ∨ s.boot.dbgAuth ≠ 0 ∨ (s.boot.lc = 3 ∧ s.control 0x31 = false)) :
    exec (.dbgChallenge h level) s = .next ((((s.ringRead h).1.takePacket 0x0902 h true).1.reserve 1 h.path).refuse
      ((s.ringRead h).1.takePacket 0x0902 h true).2 (.lcForbids, 0xFF)) := by
  obtain ⟨hadm, hpath, hwait, hread, hprof, hhead⟩ := ha
  have hlc : (decide (lcLevel s.boot.lc = some level) && !s.control 0x32 && decide (s.boot.dbgAuth = 0)
      && (decide (s.boot.lc ≠ 3) || s.control 0x31)) = false := by
    rcases hbad with hlc | hdis | hauth | ⟨h3, hwipe⟩
    · simp [hlc]
    · simp [hdis]
    · simp [hauth]
    · simp [h3, hwipe]
  have hl : (decide (level = 1) || decide (level = 2)) = true := by simpa using hlevel
  have hr : s.ringRead h = ((s.ringRead h).1, .done) := by rw [← hread]
  refine congrArg Host.Outcome.next (admitWith_refuses s _ h [] s.rngHold _ _ hadm hpath ?_ hr (f := (.lcForbids, 0xFF)) ?_ ?_)
  · rw [rngHold_ready hrng]
    exact hwait
  · rw [verdict_of_checks h _ hprof, hhead, hlc, hl]
    rfl
  · decide

/-- An admission changes nothing of bring-up and the life cycle, unless the packet has its effect. -/
theorem admitWith_calm_or_act (s : State) (r : Row) (h : Hdr) (refs : List Nat) (hold : Option Nat) (fails : List Fail)
    (act : Pend → State → State) :
    (s.admitWith r h refs hold fails act).calm = s.calm
      ∨ ∃ p u, u.calm = s.calm ∧ s.admitWith r h refs hold fails act = act p u := by
  unfold State.admitWith
  split
  · exact .inl rfl
  split
  · exact .inl (calm_State_hold _ _ _ s)
  dsimp only
  generalize (if (s.ringRead h).2 ≠ .done then _ else _ : Fail) = f
  split
  · exact .inl (by rw [calm_State_refuse, calm_State_reserve, calm_State_takePacket, calm_State_ringRead])
  · refine .inr ⟨_, _, ?_, rfl⟩
    rw [calm_State_accept, calm_State_takePacket, calm_State_ringRead]

/-- A DBG_TOKEN that leaves its queue ends the challenge, whatever its outcome. -/
theorem dbgToken_ends_challenge {s t : State} {h : Hdr} {k : Token} (hadm : s.admits = true) (hpath : s.pathOpen h.path = true)
    (hwait : s.admitWait tokenRow.opc h [] none (s.issuerOk tokenRow h || !tokenRow.prof.has s.params.profile) = none)
    (ht : exec (.dbgToken h k) s = .next t) : t.boot.challenge = none := by
  change execDbgToken h k s = _ at ht
  unfold execDbgToken State.admitCmd at ht
  simp only [hadm, hpath, hwait, Option.isNone_none, Bool.and_self, when, if_true] at ht
  injection ht with ht
  subst ht
  obtain hcalm | ⟨p, u, hcalm, hact⟩ := admitWith_calm_or_act (s.modBoot fun b => { b with challenge := none }) tokenRow h [] none _ _
  · exact congrArg Boot.challenge hcalm
  · rw [hact]
    have hboot : ∀ (v : State) (level : Nat), ((v.press 9 .done none level).ok p level).calm = v.calm := fun v level => by
      rw [calm_State_ok, calm_State_press]
    refine (congrArg Boot.challenge (hboot _ _)).trans ?_
    exact (congrArg Boot.challenge (calm_State_clearSlots (fun n x => decide (n = 1) || x.meas) u)).trans (congrArg Boot.challenge hcalm)

/-- Settles O59. -/
theorem oneChallengeIsLive : Obligations.OneChallengeIsLive := by
  refine ⟨fun _ _ _ => dbgChallenge_completes, fun _ _ _ => dbgChallenge_refused, fun _ _ _ _ => dbgToken_ends_challenge, fun _ => rfl,
    fun s c warm lost => ?_⟩
  unfold State.takeReset
  dsimp only
  split <;> rfl

end Sys2Proof.Proofs
end

section
/-!
The statements about the reset state, the reset inputs, chip requests, the power cycle, TREF, retention, the supply warning and the sensors
(R59 to R67, R90 to R97, R469, R478 to R505).
-/
namespace Sys2Proof.Proofs
open Sys2Proof Sys2Proof.Machine Sys2Proof.Laws

/-- Settles O7: the reset state is one fixed state, whose arrays hold no entry. -/
theorem resetLeavesSpecifiedValues : Obligations.ResetLeavesSpecifiedValues :=
  ⟨rfl, rfl, rfl, fun _ => rfl, fun _ => rfl, rfl, rfl, rfl, rfl, rfl, rfl, rfl, rfl, rfl, rfl, rfl, rfl, rfl, rfl, rfl, rfl, rfl, rfl⟩

/-- A command whose condition holds. -/
theorem next_if_pos {c : Prop} [Decidable c] (h : c) {a b : State} : (.next (if c then a else b) : Ans) = .next a :=
  congrArg Host.Outcome.next (if_pos h)

/-- A command whose condition does not hold. -/
theorem next_if_neg {c : Prop} [Decidable c] (h : ¬c) {a b : State} : (.next (if c then a else b) : Ans) = .next b :=
  congrArg Host.Outcome.next (if_neg h)

/-! Leaving reset (R482, R483). -/

/-- A block in reset whose supplies, reset input and time reference are there leaves it, unless its starts come too fast. -/
theorem leaveReset_ready {s : State} (hp : s.boot.phase = .inReset) (hv : s.pins.vddRet = true) (hr : s.pins.resetN = true)
    (hl : s.dt.trefLost = false) :
    s.leaveReset = if 8 ≤ s.recent.length then s.modBoot fun b => { b with phase := .stormHold, storm := s.recent }
      else (s.modBoot fun b => { b with storm := s.recent }).bringUp := by
  simp [State.leaveReset, hp, hv, hr, hl]

/-- The hold of the restart storm ends with a start of its own, alone in the list of starts. -/
theorem stormHold_ends {s : State} (hp : s.boot.phase = .stormHold) (hv : s.pins.vddRet = true) (hr : s.pins.resetN = true)
    (hl : s.dt.trefLost = false) : ∃ t, exec .stormHoldExpire s = .next t ∧ t.boot.phase = .sensing ∧ t.boot.storm = [s.tref]
      ∧ bit (t.reg rRstCause) 19 = true := by
  refine ⟨_, next_if_pos hp, ?_⟩
  have hleave := leaveReset_ready (s := (s.modBoot fun b => { b with storm := [], phase := .inReset }).flag rRstCause 19) rfl hv hr hl
  rw [hleave]
  refine ⟨rfl, rfl, ?_⟩
  exact (congrArg (bit · 19) (reg_flag_same _ rRstCause 19)).trans (bit_setBit_same _ (by decide) true)

/-- A warm request of a block in service starts its flush (R484). -/
theorem warmRequest_ready {s : State} (hp : s.boot.phase = .ready) (hs : s.service ≠ .off) (hb : s.boot.breached = false)
    (hc : s.pins.chipRstReq = false) (hw : s.boot.warmRun = none) (source : Nat) :
    s.warmRequest source = (((s.press 8 .done none source).fenceAll).backWhere fun _ => true).modBoot fun b =>
      { b with warmRun := some source, flush := true } := by
  simp [State.warmRequest, hp, hs, hb, hc, hw]

/-- Settles O28. -/
theorem resetInputsTakeTheirReset : Obligations.ResetInputsTakeTheirReset := by
  refine ⟨?on, ?off, ?reset, ?chip, ?ret, ?release, ?storm, fun _ => stormHold_ends, ?warm, fun _ => rfl, ?flush, ?overrun, ?ready, ?boot⟩
  case on =>
    intro s hv
    simp [exec, execPowerOn, hv]
  case off =>
    intro s hv
    simp [exec, execVddRetRemove, hv]
  case reset =>
    intro s hv hstorm hreset hchip hlatch
    simp [exec, execResetNAssert, State.resetSource, hv, hstorm, hreset, hchip, hlatch]
  case chip =>
    intro s hv hstorm hreset hchip hlatch
    simp [exec, execResetNAssert, State.resetSource, hv, hstorm, hreset, hchip, hlatch]
  case ret =>
    intro s hv hstorm hreset hlatch
    simp [exec, execResetNAssert, State.resetSource, hv, hstorm, hreset, hlatch]
  case release =>
    intro s hp hv hl hn
    exact congrArg Host.Outcome.next
      ((leaveReset_ready (s := s.modPins fun p => { p with resetN := true }) hp hv rfl hl).trans (if_neg (Nat.not_le.mpr hn)))
  case storm =>
    intro s hp hv hl hn
    exact congrArg Host.Outcome.next
      ((leaveReset_ready (s := s.modPins fun p => { p with resetN := true }) hp hv rfl hl).trans (if_pos hn))
  case warm =>
    intro s hp hs harm hb hc hw
    have hoff : s.service ≠ .off := by simp [hs]
    refine (next_if_neg (by simp [hs, harm])).trans ?_
    exact congrArg Host.Outcome.next (warmRequest_ready (s := s.modPins fun p => { p with warmArmed := false }) hp hoff hb hc hw 3)
  case flush =>
    intro s src hw hf
    simp [exec, execWarmFlushDone, hw, hf]
  case overrun =>
    intro s src hw
    simp [exec, execWarmFlushOverrun, hw]
  case ready =>
    intro s hh hp hb
    simp [exec, execWatchdogExpire, hh, hp, hb]
  case boot =>
    intro s hh hp hb
    simp [exec, execWatchdogExpire, hh, hp, hb]

/-- Settles O29. -/
theorem chipRequestsAndTrefEvents : Obligations.ChipRequestsAndTrefEvents := by
  refine ⟨?hung, ?message, ?lockstep, ?lost, ?holdover, ?back, ?leave⟩
  case hung =>
    intro s hc hr hstep
    exact next_if_pos ⟨hc, hr, hstep⟩
  case message =>
    intro s reason src d hp hm hs he
    simp [exec, execPowerCycleMessageResend, State.sendPwr, hp, hm, hs, he]
  case lockstep =>
    intro s hs
    exact next_if_neg hs
  case lost =>
    intro s hd
    exact next_if_neg hd
  case holdover =>
    intro s hd
    exact next_if_pos hd
  case back =>
    intro s hs
    exact next_if_neg hs
  case leave =>
    intro s hs
    exact next_if_pos hs

/-! Retention, the supply warning and the sensors. -/

/-- A captured bit makes the capture word nonzero. -/
theorem setBit_ne_zero {n : Nat} (w : BitVec n) {i : Nat} (h : i < n) : setBit w i true ≠ 0 := by
  intro h0
  have := bit_setBit_same w h true
  rw [h0] at this
  simp [bit] at this

/-- An enabled sensor at its active level is captured. -/
theorem sensorCapture_active {s : State} {i : Nat} {level : Bool} (hi : i < 16) (he : bit (s.fuseW 0x11) i = true)
    (hl : bit (s.fuseW 0x11) (16 + i) = level) (hv : s.pins.vddRet = true) :
    exec (.sensorCapture i level) s = .next (s.modPins fun p => { p with sns := setBit p.sns i true }).snsFire :=
  next_if_neg (by simp [hi, he, hl, hv])

/-- Settles O30. -/
theorem retentionSupplyAndSensors : Obligations.RetentionSupplyAndSensors := by
  refine ⟨?rise, ?done, ?undone, ?fall, ?low, ?warn, ?cut, ?again, ?capture, ?fire, ?idle⟩
  case rise =>
    intro s hrun hret hchip hwarm hr
    simp [exec, execRetReqRise, hrun, hret, hchip, hwarm, hr]
  case done =>
    intro s hr hf hw hret
    exact (next_if_pos ⟨hr, hf, hw⟩).trans (next_if_pos hret)
  case undone =>
    intro s hr hf hw hret
    exact (next_if_pos ⟨hr, hf, hw⟩).trans (next_if_neg (by simp [hret]))
  case fall =>
    intro s hs hr
    exact next_if_pos ⟨hs, hr⟩
  case low =>
    intro s hr
    exact next_if_neg (by simp [hr])
  case warn =>
    intro s hl hv
    exact next_if_neg (by simp [hl, hv])
  case cut =>
    intro s hl hs hb
    exact (next_if_neg (by simp [hl])).trans ((next_if_neg hs).trans (next_if_pos hb))
  case again =>
    intro s hl hs hb
    exact (next_if_neg (by simp [hl])).trans ((next_if_neg hs).trans (next_if_neg (by simp [hb])))
  case capture =>
    intro s i level hi he hl hv hs
    exact (sensorCapture_active hi he hl hv).trans (next_if_neg fun h => by simp [hs] at h)
  case fire =>
    intro s i level hi he hl hv hsense hs hb
    refine (sensorCapture_active hi he hl hv).trans (next_if_pos ⟨setBit_ne_zero _ hi, hsense, hs, ?_⟩)
    simp [hb]
  case idle =>
    intro s i level h
    refine next_if_pos ?_
    rcases h with hi | he | hl
    · exact .inl hi
    · exact .inr (.inl (by simp [he]))
    · exact .inr (.inr (.inl hl))

end Sys2Proof.Proofs
end

section
/-!
The statements about bring-up, the boot images, the handshakes of fences and resets, and scrub and teardown (R86 to R94, R151 to R155, R201,
R417, R448, R461 to R470, R483, R494 to R502, R526, R532).
-/
namespace Sys2Proof.Proofs
open Sys2Proof Sys2Proof.Machine Sys2Proof.Laws

/-! Fuse sensing and burning, the secret, the wipe and the anchor. -/

/-- With no sensor captured, nothing fires. -/
theorem snsFire_none {s : State} (h : s.pins.sns = 0) : s.snsFire = s := if_neg fun ⟨hs, _⟩ => hs h

/-- The fuses are sensed and the outputs take the fuse map (R94). -/
def sensedState (s : State) (err : Bool) : State :=
  (s.modBoot fun b => { b with sensed := true, senseErr := err, mismatch := err || !s.profileOk }).modPins fun p =>
    { p with trigOut := (s.fuseW 0x12).setWidth 16, pfenceReq := ~~~((s.fuseW 0x13).setWidth 16), engReq := ~~~(s.fuseW 0x14),
             cstop := !bit (s.fuseW 0x15) 0 }

theorem sensedState_sns (s : State) (err : Bool) : (sensedState s err).pins.sns = s.pins.sns := rfl

theorem sensedState_breached (s : State) (err : Bool) : (sensedState s err).boot.breached = s.boot.breached := rfl

/-- What follows fuse sensing: the decision of an error, or the burns of the copies that agree with it (R461, R463). -/
def afterSensing (t : State) : State :=
  if t.boot.mismatch then t.settle463
  else ((t.phaseTo .burning).setBurns .copies (t.lcTarget.elim [] fun st =>
    (lcCopies.map fun w => if within (t.fuse64 w) (lcCode st) then t.missing w (lcCode st) 64 else []).flatten)).burnOn

theorem afterSensing_mismatch {t : State} (h : t.boot.mismatch = true) : afterSensing t = t.settle463 := if_pos h

theorem afterSensing_agrees {t : State} (h : t.boot.mismatch = false) :
    afterSensing t = ((t.phaseTo .burning).setBurns .copies (t.lcTarget.elim [] fun st =>
      (lcCopies.map fun w => if within (t.fuse64 w) (lcCode st) then t.missing w (lcCode st) 64 else []).flatten)).burnOn :=
  if_neg (by simp [h])

theorem exec_fuseSenseDone (err : Bool) (s : State) : exec (.fuseSenseDone err) s
    = .next (if s.boot.phase ≠ .sensing then s else
        if (sensedState s err).snsFire.boot.breached then (sensedState s err).snsFire.phaseTo .stopped
        else afterSensing ((sensedState s err).snsFire.modBoot fun b => { b with noMajority := !err && s.majority.isNone })) := rfl

/-- The end of fuse sensing while no sensor has been captured. -/
theorem fuseSenseDone_calm {s : State} (hp : s.boot.phase = .sensing) (hb : s.boot.breached = false) (hs : s.pins.sns = 0) (err : Bool) :
    exec (.fuseSenseDone err) s
      = .next (afterSensing ((sensedState s err).modBoot fun b => { b with noMajority := !err && s.majority.isNone })) := by
  rw [exec_fuseSenseDone, snsFire_none ((sensedState_sns s err).trans hs), if_neg (not_not_intro hp),
    sensedState_breached, hb, if_neg Bool.false_ne_true]

/-- Settles O32. -/
theorem bringUpEventsTakeEffect : Obligations.BringUpEventsTakeEffect := by
  refine ⟨?err, ?sensed, ?blown, ?again, ?secret, ?wipe, ?anchor⟩
  case err =>
    intro s hp hb hs
    rw [fuseSenseDone_calm hp hb hs true, afterSensing_mismatch rfl]
    rfl
  case sensed =>
    intro s hp hb hs hprof
    have hm : ((sensedState s false).modBoot fun b => { b with noMajority := !false && s.majority.isNone }).boot.mismatch = false :=
      congrArg Bool.not hprof
    refine (fuseSenseDone_calm hp hb hs false).trans ?_
    rw [afterSensing_agrees hm]
    simp only [sensedState, hprof, Bool.not_true, Bool.not_false, Bool.or_false, Bool.true_and]
  case blown =>
    intro s w b rest hg hq
    simp only [exec, execFusePgmDone, hg, hq, if_true]
  case again =>
    intro s w b rest hg hq ht
    simp only [exec, execFusePgmDone, hg, hq, ht, Bool.false_eq_true, if_false, if_true]
  case secret =>
    intro s hp hr hb hc
    simp only [exec, execHusGenerate, hp, hr, hb, hc, Bool.not_false, and_self, if_true]
  case wipe =>
    intro s hp hb hc
    simp only [exec, execUserAreaEraseDone, hp, hb, hc, ne_eq, not_true, Bool.false_eq_true, or_self, if_false, Bool.and_self, if_true]
  case anchor =>
    intro s hs hd hw ha
    exact next_if_neg (by simp [hs, hd, hw, ha])

/-! Snowdrop and Tolaro. -/

theorem pressW_key (src : Nat) (st : Status) (p : Option Nat) (addr : Nat) (info : DWord) (freeze : Bool) (s : State) :
    (s.pressW src st p addr info freeze).key = s.key := by
  unfold State.pressW
  split <;> rfl

theorem unfreeze_key (a b c : Bool) (s : State) : (s.unfreeze a b c).key = s.key := by
  unfold State.unfreeze
  dsimp only
  split
  · exact pressW_key ..
  · rfl

@[simp] theorem setSlot_mfw (s : State) (n : Nat) (v : Slot) : (s.setSlot n v).key.mfw = s.key.mfw := rfl

@[simp] theorem setSlot_svn (s : State) (n : Nat) (v : Slot) : (s.setSlot n v).key.svn = s.key.svn := rfl

/-- Deriving the keys of the boot measurement, where the part has a root, leaves the measurement, the pins and bring-up as they are. -/
theorem deriveKeys_frame (s : State) : (if s.noRoot then s else s.deriveKeys).key.mfw = s.key.mfw
    ∧ (if s.noRoot then s else s.deriveKeys).key.svn = s.key.svn ∧ (if s.noRoot then s else s.deriveKeys).pins = s.pins
    ∧ (if s.noRoot then s else s.deriveKeys).boot = s.boot := by
  split
  · exact ⟨rfl, rfl, rfl, rfl⟩
  · simp [State.deriveKeys, State.fill, State.modKey, State.modAtt]

/-- Settles O33. -/
theorem bootImagesTakeEffect : Obligations.BootImagesTakeEffect := by
  refine ⟨?snowdrop, ?tolaro, ?rejoin⟩
  case snowdrop =>
    intro s mfw svn mib hp ha hb hc hr
    refine ⟨_, next_if_neg (by simp [hp, ha, hb, hc, hr]), ?_⟩
    generalize ht : State.clearSlots _ (s.modKey _) = t
    have hkey : t.key.mfw = mfw ∧ t.key.svn = svn % 2 ^ 32 ∧ t.pins = s.pins ∧ t.boot = s.boot := by
      subst ht
      exact ⟨rfl, rfl, rfl, rfl⟩
    obtain ⟨hmfw, hsvn, hpins, hboot⟩ := hkey
    obtain ⟨hm, hv, hpn, hbt⟩ := deriveKeys_frame t
    dsimp only
    generalize (if t.noRoot then t else t.deriveKeys) = u at hm hv hpn hbt ⊢
    generalize hw : State.modPins _ _ = w
    have hfin : w.key.mfw = u.key.mfw ∧ w.key.svn = u.key.svn ∧ w.key.rootLocked = true ∧ w.att.flash = some mib
        ∧ w.pins.breachN = (u.pins.breachN || s.boot.rstnSeen) ∧ w.boot.bootAuth = u.boot.dbgAuth := by
      subst hw
      exact ⟨rfl, rfl, rfl, rfl, rfl, rfl⟩
    obtain ⟨hwm, hwv, hwl, hwf, hwp, hwb⟩ := hfin
    have hap := apart_State_unfreeze false true true w
    have hk := unfreeze_key false true true w
    generalize w.unfreeze false true true = x at hap hk ⊢
    simp only [State.apart, Prod.mk.injEq] at hap
    obtain ⟨hxb, hxp, -, hxa, -, -⟩ := hap
    refine ⟨rfl, ?_, ?_, ?_, ?_, ?_, ?_⟩
    · exact (congrArg Key.mfw hk).trans (hwm.trans (hm.trans hmfw))
    · exact (congrArg Key.svn hk).trans (hwv.trans (hv.trans hsvn))
    · exact (congrArg Key.rootLocked hk).trans hwl
    · exact (congrArg Att.flash hxa).trans hwf
    · exact (congrArg Pins.breachN hxp).trans (by rw [hwp, hpn, hpins])
    · exact (congrArg Boot.bootAuth hxb).trans (by rw [hwb, hbt, hboot])
  case tolaro =>
    intro s hp hb hc ho
    exact ⟨_, next_if_neg (by simp [hp, hb, hc, ho]), rfl, rfl, rfl, rfl, rfl⟩
  case rejoin =>
    intro s p r hrun hc hw hp hst hp16 hr hrec hent
    simp [exec, execRejoinReassign, hrun, hc, hw, hp, hst, Nat.not_le.mpr hp16, hr, hrec, hent]

/-! Handshakes. -/

/-- Settles O34. -/
theorem handshakesAreFollowed : Obligations.HandshakesAreFollowed := by
  refine ⟨?ack, ?withdrawn, ?fall, ?engine, ?engineEnd, ?engineNone, ?cstop, ?cstopOff, ?cstopFall, ?overdue, ?chip⟩
  case ack =>
    intro s q hq hs hreq hwant
    simp [exec, execPfenceAckRise, Nat.not_le.mpr hq, hs, hreq, hwant]
  case withdrawn =>
    intro s q hq hs hreq hwant
    simp [exec, execPfenceAckRise, Nat.not_le.mpr hq, hs, hreq, hwant]
  case fall =>
    intro s q hq hs hwant
    exact (next_if_neg (Nat.not_le.mpr hq)).trans (next_if_pos ⟨hs, hwant⟩)
  case engine =>
    intro s e d q ps f he hs hreq hstep
    have hstep' : (s.modPins fun y => { y with engAck := setBit y.engAck e true }).engStep e = some (.engine d q false ps f) := hstep
    refine (next_if_neg (Nat.not_le.mpr he)).trans ?_
    simp only [hstep']
    exact next_if_pos (And.intro hs hreq)
  case engineEnd =>
    intro s e d q ps f he hs hstep
    have hstep' : (s.modPins fun y => { y with engAck := setBit y.engAck e false }).engStep e = some (.engine d q true ps f) := hstep
    refine (next_if_neg (Nat.not_le.mpr he)).trans ((next_if_neg hs).trans ?_)
    simp only [hstep']
  case engineNone =>
    intro s e he hs hstep
    have hstep' : (s.modPins fun y => { y with engAck := setBit y.engAck e false }).engStep e = none := hstep
    refine (next_if_neg (Nat.not_le.mpr he)).trans ((next_if_neg hs).trans ?_)
    simp only [hstep']
  case cstop =>
    intro s hs hp
    exact next_if_neg (by simp [hs, hp])
  case cstopOff =>
    intro s h
    exact next_if_pos h
  case cstopFall =>
    intro s hs hstop
    exact next_if_pos ⟨hs, hstop⟩
  case overdue =>
    intro s p hs hstep
    exact (next_if_neg hs).trans (next_if_pos hstep)
  case chip =>
    intro s hs
    exact next_if_neg hs

/-! Scrub and teardown. -/

/-- Settles O35. -/
theorem scrubStepsFollow : Obligations.ScrubStepsFollow := by
  refine ⟨?retire, ?anchors, ?zero, ?filled, ?free, ?region, ?drain⟩
  case retire =>
    intro s p hrun hst h1
    simp only [exec, execScrubStepDone, hrun, hst, h1, Bool.not_true, Bool.false_eq_true, ne_eq, not_true, or_self, if_false]
  case anchors =>
    intro s p hrun hst h2 hz
    have hno : ¬((s.part p).zeroFill = true ∧ s.params.profile ≠ .s) := by
      rintro ⟨hfill, hprof⟩
      rcases hz with hz | hz
      · simp [hz] at hfill
      · exact hprof hz
    simp only [exec, execScrubStepDone, hrun, hst, h2, if_neg hno, Bool.not_true, Bool.false_eq_true, ne_eq, not_true, or_self, if_false]
  case zero =>
    intro s p z hrun hst h2 hz hprof hr hslot
    simp only [exec, execScrubStepDone, hrun, hst, h2, if_pos (And.intro hz hprof), hr, hslot, Bool.not_true, Bool.false_eq_true, ne_eq,
      not_true, or_self, if_false]
  case filled =>
    intro s p z hrun hst h3 hzero hslot
    simp only [exec, execScrubStepDone, hrun, hst, h3, hzero, hslot, Bool.not_true, Bool.false_eq_true, ne_eq, not_true, or_self, if_false,
      if_true]
    rfl
  case free =>
    intro s p hrun hst h4
    simp only [exec, execScrubStepDone, hrun, hst, h4, Bool.not_true, Bool.false_eq_true, ne_eq, not_true, or_self, if_false]
  case region =>
    intro s p e z hrun hst h3 he hslot
    simp only [exec, execZeroFillRegion, hrun, hst, h3, he, hslot, and_self, if_true]
  case drain =>
    intro s c hst hd
    exact next_if_pos ⟨hst, hd⟩

end Sys2Proof.Proofs
end

section
/-!
The statements about domain time, its messages and schedules, the chip measurements and the management bus (R59, R78, R96, R110 to R140, R320,
R326, R429, R451, R452, R516, R520).
-/
namespace Sys2Proof.Proofs
open Sys2Proof Sys2Proof.Machine Sys2Proof.Laws

/-- A received frame that passes its checks has its effect. -/
theorem next_rx {s t : State} {h : RxHdr} {kind si : Nat} {c : HeldRx} {act : Nat → State → State} (hr : s.Receives h kind si t) :
    (.next (s.rx h kind c act) : Ans) = .next (act si t) :=
  congrArg Host.Outcome.next (rx_receives s t h kind si c act hr)

/-- A write of the control port that is a command acts and is answered without error. -/
theorem next_ctlWrite {s : State} {rq : Rq} {act : State → State} (hp : s.PortOpen rq) :
    (.next (s.ctlWrite rq act) : Ans) = .next ((act s.otherAccess).emit (.ctl 0 false)) :=
  congrArg Host.Outcome.next (ctlWrite_open s rq act hp)

/-! Domain time. -/

/-- Settles O36. -/
theorem domainTimeEventsTakeEffect : Obligations.DomainTimeEventsTakeEffect := by
  refine ⟨fun s rq gm bk hp => next_ctlWrite hp, fun s rq hp => next_ctlWrite hp, fun s h2 hs => next_if_pos ⟨h2, hs⟩,
    fun s h3 => next_if_pos h3, fun s h3 => next_if_pos h3, ?takeover, fun s => rfl, fun s => rfl, fun s => rfl⟩
  intro s h0 hbk hgm hf
  exact next_if_pos ⟨h0, hbk, by simp [hgm], hf⟩

/-- The kind that a message of the precision time protocol is received as. -/
theorem ptpKind_taken {h : RxHdr} {m : PtpKind} (hev : h.cover = true ∨ h.event = ptpEvent m) :
    (if h.cover || decide (h.event = ptpEvent m) then 0x13 else 0) = 0x13 := if_pos (by simpa using hev)

/-- Settles O37. -/
theorem timeStampsAndMessagesAreTaken : Obligations.TimeStampsAndMessagesAreTaken := by
  refine ⟨?stamp, ?timeout, ?taken, ?ignored⟩
  case stamp =>
    intro s k label i lat rest hm
    simp only [exec, execTxTimestampReturn, hm, Option.getD_some]
  case timeout =>
    intro s k m rest hm
    simp only [exec, execTxTimestampTimeout, hm]
  case taken =>
    intro s t h m adj hev hr hm hst hcfg
    simp only [exec, execPtpMessage, ptpKind_taken hev]
    exact (next_rx hr).trans ((next_if_neg (by simp [hm])).trans (next_if_neg (by simp [hst, hcfg])))
  case ignored =>
    intro s t h m adj d x si hev hr hbad
    simp only [exec, execPtpMessage, ptpKind_taken hev]
    exact (next_rx hr).trans (next_if_pos hbad)

/-! Measurements and the management bus. -/

/-- Settles O38. -/
theorem measurementsExtendUntilLock : Obligations.MeasurementsExtendUntilLock := by
  refine ⟨?extend, ?late, fun s hs => next_if_neg hs, ?discard⟩
  case extend =>
    intro s i image hs hl
    exact (next_if_neg hs).trans (next_if_neg (by simp [hl]))
  case late =>
    intro s i image hs hl
    exact (next_if_neg hs).trans (next_if_pos hl)
  case discard =>
    intro s hs hl
    exact next_if_neg (by simp [hs, hl])

/-- An answer of the component transport follows an in-band interrupt. -/
theorem next_mctp {s : State} (h : s.busOn = true) (cmd : Nat) (body : State → List Byte) :
    (.next (s.mctp cmd body) : Ans) = .next ((s.emit (.ibi Config.ibiPending)).emit (.mctp cmd (body s))) := next_if_pos h

/-- Settles O39. -/
theorem managementBusAnswers : Obligations.ManagementBusAnswers := by
  refine ⟨fun s a hs => next_if_neg hs, fun s hs hj => next_if_pos ⟨hs, hj⟩, ?length, ?refused, ?eid, ?reserved,
    fun s h => next_mctp h _ _, fun s h => next_mctp h _ _, fun s h => next_mctp h _ _, fun s h => next_mctp h _ _⟩
  case length =>
    intro s w n hb hlo hhi
    exact next_if_neg (by simp [hb, hlo, hhi])
  case refused =>
    intro s w n hn
    exact next_if_pos (.inr hn)
  case eid =>
    intro s e f hb hlo hhi
    refine (next_if_neg (by simp [hb])).trans ((next_if_neg (by omega)).trans ?_)
    exact next_mctp (s := s.modAtt fun a => { a with eid := some (e, f) }) hb _ _
  case reserved =>
    intro s e f hb he
    exact (next_if_neg (by simp [hb])).trans ((next_if_pos he).trans (next_mctp hb _ _))

/-! Schedules. -/

/-- An entry that is due fires after the entries that come before it. -/
theorem fires_due {s t : State} {i n : Nat} (act : Sched → State → State) (hst : (s.sched i).st = 1) (hdue : s.isDue (s.sched i) = true)
    (ht : t = each (s.dueBefore i) State.fireDue s) (hsame : t.sched i = s.sched i) (hstill : t.isDue (s.sched i) = true)
    (hact : (s.sched i).action = n) : s.fires i n act = t.fire i false act := by
  subst ht
  simp [State.fires, hst, hdue, hsame, hstill, hact]

/-- An entry that is not ARMED or not due does not fire. -/
theorem fires_idle {s : State} {i : Nat} (h : (s.sched i).st ≠ 1 ∨ s.isDue (s.sched i) = false) (n : Nat) (act : Sched → State → State) :
    s.fires i n act = s := by
  rcases h with h | h <;> simp [State.fires, h]

/-- Settles O40. -/
theorem scheduledActionsFire : Obligations.ScheduledActionsFire := by
  refine ⟨?due, ?idle, ?resume, fun s o ho hp => next_if_pos ⟨ho, hp⟩⟩
  case due =>
    intro s t i hst hdue ht hsame hstill
    have hfire : ∀ (n : Nat) (act : Sched → State → State), (s.sched i).action = n →
        (.next (s.fires i n act) : Ans) = .next (t.fire i false act) :=
      fun n act hact => congrArg Host.Outcome.next (fires_due act hst hdue ht hsame hstill hact)
    refine ⟨hfire 1 _, hfire 2 _, hfire 3 _, hfire 4 _, fun h5 => ?_, hfire 6 _, hfire 7 _, hfire 8 _⟩
    exact (next_if_neg (by simp [hst])).trans (hfire 5 _ h5)
  case idle =>
    intro s i h
    have hstay : ∀ (n : Nat) (act : Sched → State → State), (.next (s.fires i n act) : Ans) = .next s :=
      fun n act => congrArg Host.Outcome.next (fires_idle h n act)
    exact ⟨hstay 1 _, hstay 2 _, hstay 3 _, hstay 4 _, hstay 6 _, hstay 7 _, hstay 8 _⟩
  case resume =>
    intro s i hst hact ha hr hc
    exact (next_if_pos ⟨hst, hact, ha, hr⟩).trans (next_if_pos hc)

/-- Settles O41. -/
theorem domainScheduleFramesTakeEffect : Obligations.DomainScheduleFramesTakeEffect := by
  refine ⟨?send, fun s t h o si id hr => next_rx hr, fun s p => rfl, fun s t h e o si hr => next_rx hr, fun s t h o si id hr => next_rx hr⟩
  intro s k p ha hsent hst hq
  exact next_if_pos ⟨ha, by rw [hsent]; rfl, hst, hq⟩

end Sys2Proof.Proofs
end

section
/-!
The statements about the key engines, the re-seal sweep and the requests of the memory network port (R69, R145 to R187, R212 to R216, R234 to
R258).
-/
namespace Sys2Proof.Proofs
open Sys2Proof Sys2Proof.Machine Sys2Proof.Laws

/-! The key engines. -/

theorem drawn_slot (s : State) (n : Nat) : s.drawn.slot n = s.slot n := by
  simp only [State.drawn, State.modKey, State.slot]
  split <;> rfl

/-- A failed window short of the sixteenth in a row is counted (R147). -/
theorem healthTestWindow_counts {s : State} (hs : s.service ≠ .off) (hn : s.key.failRun < 15) :
    exec (.healthTestWindow false) s
      = .next (s.modKey fun k => { k with failRun := s.key.failRun + 1, failTotal := satAdd 255 k.failTotal 1 }) := by
  have hsat : satAdd 16 s.key.failRun 1 = s.key.failRun + 1 := Nat.min_eq_right (by omega)
  have hne : ¬(s.key.failRun + 1 = 16 ∧ (!s.key.rngFailed) = true) := fun ⟨h, _⟩ => by omega
  simp only [exec, execHealthTestWindow, hs, hsat, hne, Bool.false_eq_true, if_false]

/-- The checks of a derivation's slot are the slot's own. -/
theorem derivationDone_live {s : State} {a b c : Nat} {d : Deriv}
    (hd : (s.key.deriv.find? fun d => decide (d.tag = { slot := a, obj := b, gen := c })) = some d) (hstale : d.stale = false)
    (hst : (s.slot a).st = 1) :
    exec (.derivationDone a b c .none) s
      = .next (((s.modKey fun k => { k with deriv := k.deriv.erase d }).insertKey d.part { slot := a, obj := b, gen := c }).flow) := by
  have hgo : ¬(d.stale = true ∨ (s.slot a).st ≠ 1) := by simp [hstale, hst]
  simp only [exec, execDerivationDone, hd, State.eccRead, if_neg hgo]

/-- A message of the control engine that its counter does not wrap is answered with its result (R182). -/
theorem cceMessageDone_answers {s : State} {m : CceMsg} {rest : List CceMsg} {p : Pend} {out : List Byte} (hq : s.key.cce = m :: rest)
    (hp : m.p = some p) (hwrap : m.mode ≠ 1 ∨ m.iv.toNat % 2 ^ 32 + (m.msg.length + 15) / 16 ≤ 2 ^ 32)
    (hout : cceRun ((s.slot m.slot).value.setWidth 256) m = some out) :
    exec (.cceMessageDone true .none) s
      = .next ((s.modKey fun k => { k with cce := rest }).okTrailer p 0 ((if m.ivGen then blockBytes m.iv else []) ++ out)) := by
  have hno : (decide (m.mode = 1) && decide (2 ^ 32 < m.iv.toNat % 2 ^ 32 + (m.msg.length + 15) / 16)) = false := by
    rcases hwrap with h | h
    · rw [decide_eq_false h, Bool.false_and]
    · rw [decide_eq_false (Nat.not_lt.mpr h), Bool.and_false]
  simp only [exec, execCceMessageDone, hq, State.eccRead, hp, hout, hno, Bool.false_eq_true, if_false, if_true]

/-- Settles O42. -/
theorem keyEnginesProceed : Obligations.KeyEnginesProceed := by
  refine ⟨fun s hs => next_if_neg hs, fun s hs => next_if_neg hs, fun _ => healthTestWindow_counts, ?sixteenth, fun s hr => next_if_pos hr, ?retire,
    ?release, ?derive, fun _ _ _ _ _ => cceMessageDone_answers, ?signed, ?sign, ?restart⟩
  case sixteenth =>
    intro s hs hn hf
    simp only [exec, execHealthTestWindow, hs, hn, hf, show satAdd 16 15 1 = 16 from rfl, Bool.not_false, Bool.false_eq_true, if_false,
      and_self, if_true]
  case retire =>
    intro s n hst hb hp
    have hdue : (s.slot n).st = 2 ∧ (!s.slotBusy n) = true ∧ s.boot.phase = .ready := ⟨hst, by simp [hb], hp⟩
    exact ⟨next_if_pos hdue, next_if_pos hdue⟩
  case release =>
    intro s n hst ha
    exact next_if_pos ⟨hst, by simp [ha]⟩
  case derive =>
    intro s a b c d hd hstale hst
    refine ⟨derivationDone_live hd hstale hst, ?_⟩
    simp only [exec, execDerivationDone, hd, State.eccRead]
  case signed =>
    intro s j rest n label msg body p hq hops hsign hst hend hr
    have hlive : ((s.drawn.modKey fun k => { k with pke := rest }).slot n).st = 1 := (congrArg Slot.st (drawn_slot s n)).trans hst
    simp [exec, execPkeOpDone, hq, hops, hr, State.eccRead, State.pkeRun, hsign, State.pkeEnd, hend, hlive]
  case sign =>
    intro s j rest n label msg op ops hq hops hsign hr
    simp [exec, execPkeOpDone, hq, hops, hr, State.eccRead, State.pkeRun, hsign]
  case restart =>
    intro s j rest hq hop
    exact next_if_pos (by simp [hq, hop])

/-! The re-seal sweep. -/

/-- Settles O43. -/
theorem resealSweepTakesRegions : Obligations.ResealSweepTakesRegions := by
  intro s t a p n e rest got hreg hact hrun hst hbusy next passed
  have hgo : (!(s.reseal p).active || !s.runs || decide (s.pst p = 5) || s.regionBusy e) = false := by simp [hact, hrun, hst, hbusy]
  constructor
  case left =>
    intro hdirty
    have hany : (s.sg.merge.any fun m => decide (m.entry = e) && m.dirty) = true := by simpa using hdirty
    simp only [exec, execResealRegion, hreg, hgo, hany, Bool.false_eq_true, if_false, if_true]
  case right =>
    intro hclean huse hres
    have hany : (s.sg.merge.any fun m => decide (m.entry = e) && m.dirty) = false := by simpa using hclean
    refine ⟨fun h2 => ?_, fun l h2 hl => ?_, fun i h2 hl => ?_, fun h2 hl => ?_⟩
    all_goals simp only [exec, execResealRegion, hreg, hgo, hany, huse, hres, h2, Bool.false_eq_true, if_false, if_true]
    · rfl
    all_goals simp only [hl]
    all_goals rfl

/-! Requests of the memory network port. -/

/-- Settles O44. -/
theorem memoryRequestsTakeEffect : Obligations.MemoryRequestsTakeEffect := by
  refine ⟨?refused, ?passed, ?read, ?passWrite, ?write, ?scalar, ?vector, ?rounded⟩
  case refused =>
    intro s t q flips ecc p st hq hg
    simp only [exec, execMnRead, hq, hg, Bool.not_true, Bool.false_eq_true, if_false]
  case passed =>
    intro s t q flips ecc p hq hg
    simp only [exec, execMnRead, hq, hg, Bool.not_true, Bool.false_eq_true, if_false]
  case read =>
    intro s t q flips ecc p e sect slot plot hq hg
    simp only [exec, execMnRead, hq, hg, Bool.not_true, Bool.false_eq_true, if_false]
    rfl
  case passWrite =>
    intro s t q data be flips ecc p hq hg
    simp only [exec, execMnWrite, hq, hg, Bool.not_true, Bool.false_eq_true, if_false]
  case write =>
    intro s t q data be flips ecc p e sect slot plot hq hg
    simp only [exec, execMnWrite, hq, hg, Bool.not_true, Bool.false_eq_true, if_false]
    rfl
  case scalar =>
    intro s t q data be flips mism p e sect slot plot hq hg
    simp only [exec, execMnScalarAtomic, hq, hg, Bool.not_true, Bool.false_eq_true, if_false]
  case vector =>
    intro s t q data be flips mism p e sect slot plot hq hround hg
    simp only [exec, execMnVectorAccumulate, hq, hround, Bool.false_and, Bool.not_false, Bool.true_or, Bool.and_true, hg, Bool.not_true,
      Bool.false_eq_true, if_false]
  case rounded =>
    intro s t q data be flips mism r p e sect slot plot hq hround hfloat hpart hseed hg
    simp only [exec, execMnVectorAccumulate, hq, hround, hfloat, hpart, Option.any_some, hseed, Bool.and_true, Bool.or_true, hg, Bool.not_true,
      Bool.false_eq_true, if_false, if_true]

end Sys2Proof.Proofs
end

section
/-!
The statements about the memory side, remote operations and reductions (R69 to R75, R198 to R230, R252, R261 to R273, R294 to R296, R313, R383,
R384).
-/
namespace Sys2Proof.Proofs
open Sys2Proof Sys2Proof.Machine Sys2Proof.Laws

/-! The memory side. -/

/-- An access that is ready and that no other access serves a plot to is verified. -/
theorem accessVerifyDone_ready {s : State} {i : Nat} {a : Acc} (ha : s.acc i = some a) (hrun : s.runs = true) (hr : s.ready a = true)
    (hfree : ∀ b ∈ s.sg.accs, ∀ x, b.serve ≠ .plot i x) : exec (.accessVerifyDone i) s = .next (s.verify a) := by
  simp only [exec, execAccessVerifyDone, ha, hrun, hr, Bool.not_true, Bool.false_eq_true, if_false, Bool.true_and]
  refine next_if_pos ?_
  rw [Bool.not_eq_true', List.any_eq_false]
  intro b hb
  cases hserve : b.serve with
  | plot j x =>
    have hne : j ≠ i := fun h => hfree b hb x (h ▸ hserve)
    simp [hne]
  | _ => simp

/-- A tree line whose region and leaf lines are there goes back with its node (R230). -/
theorem metadataWriteBack_tree {s t u : State} {l : LineId} {x : Line} {a : Anchor} {ms : List LineId} (hx : s.line l = some x)
    (hrun : s.runs = true) (hclean : ¬(x.way = 16 ∧ x.st = .clean ∧ s.lineUsed l = false)) (hl : s.leaves x = true) (htag : l.kind ≠ .tag)
    (hmac : l.kind ≠ .mac) (huse : s.useRegion l.entry = (t, a)) (hst : a.st = 1) (htop : treeLevel l.kind = t.topLevel)
    (hneed : t.needLine a.part (t.macLine l) = (u, ms)) (hhere : (ms.any fun m => (u.line m).any fun y => !y.here) = false) :
    exec (.metadataWriteBack l) s = .next (u.backNode x (treeLevel l.kind)) := by
  have hkeep : ¬(x.way = 16 ∧ x.st = .clean ∧ (!s.lineUsed l) = true) := by simpa using hclean
  have hkind : ¬(l.kind = .tag ∨ l.kind = .mac) := by simp [htag, hmac]
  simp only [exec, execMetadataWriteBack, hx, hrun, hkeep, hl, hkind, huse, hst, if_pos htop, hneed, hhere, Bool.not_true, Bool.false_eq_true,
    ne_eq, not_true, if_false, List.nil_append, List.any_nil, each, List.foldl_nil]

/-- Settles O45. -/
theorem memorySideProceeds : Obligations.MemorySideProceeds := by
  refine ⟨?read, ?write, fun _ _ _ => accessVerifyDone_ready, ?grant, ?line, ?tree, ?patrol, ?restore, ?unowned, ?merge, ?gate, ?gateAll, ?wake⟩
  case read =>
    intro s n port tag d ue r q hs htag hr hq
    simp only [exec, execMsReadResponse, hs, hr, hq, when, Bool.true_or, if_false, if_true]
  case write =>
    intro s n port tag w q hs htag hw hq
    simp only [exec, execMsWriteAck, hs, hw, hq, if_false]
  case grant =>
    intro s i a ha hw hk hm
    simp only [exec, execSectorLockGrant, ha, hw, hk, hm, and_self, if_true]
  case line =>
    intro s l x hx hrun hclean hl hk
    have hkeep : ¬(x.way = 16 ∧ x.st = .clean ∧ (!s.lineUsed l) = true) := by simpa using hclean
    simp only [exec, execMetadataWriteBack, hx, hrun, hkeep, hl, hk, Bool.not_true, Bool.false_eq_true, if_false, if_true]
  case tree =>
    intro s t u l x a ms hx hrun hclean hl htag hmac _ huse hst htop hneed hhere _
    exact metadataWriteBack_tree hx hrun hclean hl htag hmac huse hst htop hneed hhere
  case patrol =>
    intro s t e flips a bad he hrun huse
    have hgo : ¬(2097152 ≤ e ∨ (!s.runs) = true) := by simp [hrun, Nat.not_le.mpr he]
    simp only [exec, execAnchorPatrol, if_neg hgo, huse]
  case restore =>
    intro s e p hr hp
    simp only [exec, execAnchorRestore, hr, hp, Bool.not_true, Bool.false_eq_true, if_false]
  case unowned =>
    intro s e hr hp
    simp only [exec, execAnchorRestore, hr, hp, Bool.not_true, Bool.false_eq_true, if_false]
  case merge =>
    intro s n lbn m hm hrun hd hr hops hback
    constructor <;>
      simp only [exec, execMergeIdleWriteBack, hm, hrun, hd, hr, hops, hback, List.isEmpty_nil, Bool.not_false, Bool.and_self,
        Bool.false_eq_true, if_false, if_true]
  case gate =>
    intro s u hu ha hd hn hw hm
    exact next_if_pos (by simp [hu, ha, hd, hn, hw, hm])
  case gateAll =>
    intro s u hu ha hg hm
    exact next_if_pos (by simp [hu, ha, hg, hm])
  case wake =>
    intro s hg
    exact next_if_neg (by simp [hg])

/-! Remote operations. -/

theorem unlessBreach_pos {k : Nat} {st : Status} (h : st = .breach) (act : State → State) (s : State) :
    s.unlessBreach k st act = s.discard (rLnkErrFormat k) k := if_pos h

theorem unlessBreach_neg {k : Nat} {st : Status} (h : st ≠ .breach) (act : State → State) (s : State) : s.unlessBreach k st act = act s :=
  if_neg h

/-- A session of partition `p` is the one of index `p + 1`. -/
theorem for_member {t : State} {p dst : Nat} (h : dst = t.memberOf p) : ¬(p + 1 = 0 ∨ ¬dst = t.memberOf p) := by
  simpa using h

section
variable {t : State} {h : RxHdr} {p : Nat}

/-- An atomic request that no rule of the memo answers and that does not run yet is carried out where it finds its place (R266, R271). -/
theorem applyAtomic_runs {u v : State} {r : RaReq} {m a g e sect slot : Nat} {plot : PlotRes} (hd : r.dst = t.memberOf p)
    (hm : t.params.profile = .m) (hmemo : t.memoRule p (t.domainOf p) r.src r.txid r.issue = none)
    (hruns : t.atomicRuns (t.domainOf p) r = false) (hok : t.atomicOk p r = true)
    (hplace : t.remotePlace p r.obj r.gen r.offset (if r.op < 0x20 then sizeBytes (bits r.attr 1 0) else 256) = (u, .ok (a, g, e, sect, slot)))
    (hstop : bit u.sg.saStop g = false) (hplot : u.plotLook p a = (v, plot)) :
    t.applyAtomic h r m (p + 1) = v.arith (atomicOp p g a h r (t.domainOf p) m (v.roundNow p)) e sect slot plot := by
  unfold State.applyAtomic
  simp only [for_member hd, hm, Nat.add_sub_cancel, hmemo, hruns, State.runAtomic, hok, hplace, hstop, hplot, ne_eq, not_true,
    Bool.not_true, Bool.false_eq_true, if_false]

theorem applyAtomic_memo {r : RaReq} {m oc ex : Nat} {st : Status} {res : BitVec 128} (hd : r.dst = t.memberOf p) (hm : t.params.profile = .m)
    (hmemo : t.memoRule p (t.domainOf p) r.src r.txid r.issue = some (st, oc, ex, res)) :
    t.applyAtomic h r m (p + 1) = (t.memoCount st oc).sendReplyTo h.port p 0x41 r.obj st oc 0 r.dst r.src r.txid ex res := by
  unfold State.applyAtomic
  simp only [for_member hd, hm, Nat.add_sub_cancel, hmemo, ne_eq, not_true, if_false]

theorem applyQuery_executed {r : RaReq} {m : Memo} (hd : r.dst = t.memberOf p) (hm : t.params.profile = .m)
    (hmemo : t.memoOf (t.domainOf p) r.src r.txid = some m) (hex : m.executed = true) :
    t.applyQuery h r (p + 1) = t.sendReplyTo h.port p 0x43 r.obj .done 1 (stCode m.status) r.dst r.src r.txid m.exec m.result := by
  unfold State.applyQuery
  simp only [for_member hd, hm, Nat.add_sub_cancel, hmemo, hex, ne_eq, not_true, if_false, if_true]

theorem applyQuery_unknown {r : RaReq} (hd : r.dst = t.memberOf p) (hm : t.params.profile = .m)
    (hmemo : t.memoOf (t.domainOf p) r.src r.txid = none) (hel : t.elapsed p r.issue ≤ 3500000) (hroom : t.memoUsed < 262144) :
    t.applyQuery h r (p + 1)
      = (t.memoAdd { domain := t.domainOf p, src := r.src, txid := r.txid, issue := r.issue, exec := 0, status := .done, result := 0,
                     executed := false }).sendReplyTo h.port p 0x43 r.obj .done 2 0 r.dst r.src r.txid 0 0 := by
  unfold State.applyQuery
  simp only [for_member hd, hm, Nat.add_sub_cancel, hmemo, hel, Nat.not_le.mpr hroom, ne_eq, not_true, and_false, if_false, if_true]

theorem applyReply_ends {r : RaRep} {o : RemOp} (hd : r.dst = t.memberOf p) (ho : t.findOp p r.txid r.query = some o) (hsrc : o.dst = r.src)
    (hst : r.query = true ∨ r.status ≠ .outOfSlots) :
    t.applyReply h r (p + 1) = (t.flowAnswered h.port p o.dst o.kind o.obj).finishOp o r.status r.outcome
      (if r.query then stCode r.origStatus % 256 else 0) (if r.query ∨ o.op < 0x20 then r.result else 0) := by
  have hno : ¬((!r.query) = true ∧ r.status = .outOfSlots) := by
    rcases hst with hst | hst <;> simp [hst]
  unfold State.applyReply
  simp only [for_member hd, Nat.add_sub_cancel, ho, hno, hsrc, ne_eq, not_true, if_false]

/-- The shape of a request of the memory: whole beats of at most one frame, with its data (R272). -/
theorem rwShape {r : RwReq} {n : Nat} (ho : r.offset % 64 = 0) (hl : r.length % 64 = 0) (hmax : r.length ≤ 4048) (hpos : 0 < r.length)
    (hn : r.data.length = n) :
    (decide (r.offset % 64 = 0) && decide (r.length % 64 = 0) && decide (r.length ≤ 4048) && decide (0 < r.length)
      && decide (r.data.length = n)) = true := by
  simp [ho, hl, hmax, hpos, hn]

theorem applyRw_write {u : State} {r : RwReq} {x : Nat × Nat × Nat × Nat × Nat} (hw : r.write = true) (hd : r.dst = t.memberOf p)
    (hm : t.params.profile = .m) (hmemo : t.memoRule p (t.domainOf p) r.src r.txid r.issue = none)
    (hserve : (t.rem.serves.any fun y => decide (y.domain = t.domainOf p) && decide (y.r.src = r.src) && decide (y.r.txid = r.txid)) = false)
    (hshape : (decide (r.offset % 64 = 0) && decide (r.length % 64 = 0) && decide (r.length ≤ 4048) && decide (0 < r.length)
      && decide (r.data.length = r.length)) = true)
    (hplace : t.remotePlace p r.obj r.gen r.offset r.length = (u, .ok x)) :
    t.applyRw h r (p + 1) = u.startServe p (t.domainOf p) r none := by
  unfold State.applyRw
  simp only [for_member hd, hm, Nat.add_sub_cancel, hw, hmemo, hserve, hshape, hplace, ne_eq, not_true, Bool.false_eq_true, if_false, if_true]

theorem applyRw_read {u : State} {r : RwReq} {x : Nat × Nat × Nat × Nat × Nat} (hw : r.write = false) (hd : r.dst = t.memberOf p)
    (hm : t.params.profile = .m) (h4 : t.pst p ≠ 4) (h5 : t.pst p ≠ 5)
    (hshape : (decide (r.offset % 64 = 0) && decide (r.length % 64 = 0) && decide (r.length ≤ 4048) && decide (0 < r.length)
      && decide (r.data.length = 0)) = true)
    (hplace : t.remotePlace p r.obj r.gen r.offset r.length = (u, .ok x)) :
    t.applyRw h r (p + 1) = u.startServe p (t.domainOf p) r none := by
  unfold State.applyRw
  simp only [for_member hd, hm, Nat.add_sub_cancel, hw, h4, h5, hshape, hplace, decide_false, Bool.or_self, ne_eq, not_true, Bool.false_eq_true,
    if_false, if_true]

end

/-- Settles O46. -/
theorem remoteOperationsProceed : Obligations.RemoteOperationsProceed := by
  refine ⟨fun s t h r m si hr => next_rx hr, fun s t h r si hr => next_rx hr, ?reply, fun s t h r si hr => next_rx hr, ?atomic, ?memo, ?executed,
    ?unknown, ?ends, ?breach, ?write, ?read, ?retry, ?deadline, ?giveUp, ?again, ?expire⟩
  case reply =>
    intro s t h r si hr hst horig
    exact (next_rx hr).trans (congrArg Host.Outcome.next ((unlessBreach_neg hst _ t).trans (unlessBreach_neg horig _ t)))
  case atomic =>
    intro s t u v h r m p a g e sect slot plot hr hd hm hmemo hruns hok hplace hstop hplot
    exact (next_rx hr).trans (congrArg Host.Outcome.next (applyAtomic_runs hd hm hmemo hruns hok hplace hstop hplot))
  case memo =>
    intro s t h r m p oc ex st res hr hd hm hmemo
    exact (next_rx hr).trans (congrArg Host.Outcome.next (applyAtomic_memo hd hm hmemo))
  case executed =>
    intro s t h r p m hr hd hm hmemo hex
    exact (next_rx hr).trans (congrArg Host.Outcome.next (applyQuery_executed hd hm hmemo hex))
  case unknown =>
    intro s t h r p hr hd hm hmemo hel hroom
    exact (next_rx hr).trans (congrArg Host.Outcome.next (applyQuery_unknown hd hm hmemo hel hroom))
  case ends =>
    intro s t h r p o hr hst horig hd ho hsrc hslots
    exact (next_rx hr).trans (congrArg Host.Outcome.next
      ((unlessBreach_neg hst _ t).trans ((unlessBreach_neg horig _ t).trans (applyReply_ends hd ho hsrc hslots))))
  case breach =>
    intro s t h r si hr hst
    exact (next_rx hr).trans (congrArg Host.Outcome.next (unlessBreach_pos hst _ t))
  case write =>
    intro s t u h r p x hr hw hd hm hmemo hserve ho hl hmax hpos hdata hplace
    have hkind : s.Receives h (if r.write then 0x22 else 0x20) (p + 1) t := by rwa [hw]
    exact (next_rx hkind).trans (congrArg Host.Outcome.next (applyRw_write hw hd hm hmemo hserve (rwShape ho hl hmax hpos hdata) hplace))
  case read =>
    intro s t u h r p x hr hw hd hm h4 h5 ho hl hmax hpos hdata hplace
    have hkind : s.Receives h (if r.write then 0x22 else 0x20) (p + 1) t := by rwa [hw]
    exact (next_rx hkind).trans (congrArg Host.Outcome.next (applyRw_read hw hd hm h4 h5 (rwShape ho hl hmax hpos (by rw [hdata]; rfl)) hplace))
  case retry =>
    intro s p x o ho hel hstop
    simp only [exec, execRatomicRetry, ho, hel, hstop, Bool.not_false, and_self, if_true]
  case deadline =>
    intro s p x o ho hstop
    simp only [exec, execRatomicDeadline, ho, hstop, Bool.false_eq_true, if_false]
  case giveUp =>
    intro s p x o ho hstop hsent
    simp only [exec, execOutcomeQueryResend, ho, hstop, hsent, Bool.false_eq_true, if_false, if_true]
  case again =>
    intro s p x o ho hstop hsent
    simp only [exec, execOutcomeQueryResend, ho, hstop, Nat.not_le.mpr hsent, Bool.false_eq_true, if_false]
  case expire =>
    intro s d src x hstop
    exact next_if_neg (by simp [hstop])

/-! Reductions. -/

theorem poolMismatch_none (s : State) (p : Nat) (c : Contrib) : s.poolMismatch p c 0 = s := rfl

section
variable {t : State} {h : RxHdr} {p : Nat} {c : Contrib}

/-- A contribution that fits and that its open reduction does not hold yet is added (R261). -/
theorem applyContrib_adds {src : Nat} {es : List Byte} {x : Reduction} (hs : t.params.profile = .s) (h4 : t.pst p ≠ 4) (h5 : t.pst p ≠ 5)
    (hc : contribOk c = true) (hes : es.length = c.count * srcBits c.fmt / 8) (hx : t.reduction p c.rid = some x)
    (hsame : sameReduction x.hdr c = true) (hnew : x.ledger.contains (c.cidx, c.chunk) = false) (hopen : x.ended = false) :
    t.applyContrib h src c es 0 (p + 1) = t.applyElems p src x c es := by
  unfold State.applyContrib
  simp only [hs, Nat.add_sub_cancel, h4, h5, hc, hes, hx, Option.any_some, hsame, hnew, hopen, poolMismatch_none, Nat.succ_ne_zero,
    decide_true, Bool.and_self, Bool.not_true, Bool.false_eq_true, ne_eq, not_true, or_self, if_false]
  exact if_neg (by decide)

/-- A contribution of a new reduction opens it where the pool has room. -/
theorem applyContrib_opens {src : Nat} {es : List Byte} (hs : t.params.profile = .s) (h4 : t.pst p ≠ 4) (h5 : t.pst p ≠ 5)
    (hc : contribOk c = true) (hes : es.length = c.count * srcBits c.fmt / 8) (hx : t.reduction p c.rid = none) (hroom : t.poolRoom p c = true) :
    t.applyContrib h src c es 0 (p + 1)
      = t.applyElems p src { part := p, hdr := c, accs := List.replicate c.total Accum.zero, ledger := [], members := [], sent := [], done := [],
                             ended := false } c es := by
  simp [State.applyContrib, hs, h4, h5, hc, hes, hx, hroom, poolMismatch_none]

/-- A result chunk that the ledger does not hold and no write serves is carried out (R262). -/
theorem applyResult_new {sw : Nat} {d : List Byte} {m : List Nat} (hsg : t.params.sgCount ≠ 0)
    (hled : (t.rem.resLed.find? fun x => decide (x.domain = t.domainOf p) && decide (x.sw = sw) && decide (x.rid = c.rid)
      && decide (x.chunk = c.chunk)) = none)
    (h4 : t.pst p ≠ 4) (h5 : t.pst p ≠ 5)
    (hserve : (t.rem.serves.any fun x => decide (x.domain = t.domainOf p) && (x.res.any fun y => decide (y.1 = sw) && decide (y.2.rid = c.rid)
      && decide (y.2.chunk = c.chunk))) = false)
    (hroom : t.rem.resLed.length + (t.rem.serves.filter fun x => x.res.isSome).length < 16384) (hc : contribOk { c with cidx := 0 } = true)
    (hd : d.length = c.count * outBytes c.out) :
    t.applyResult h sw c .done d m (p + 1) = if bit c.mode 1 then t.startAccum p (t.domainOf p) sw c d m
      else t.startServe p (t.domainOf p)
        { write := true, src := sw, dst := 0, txid := c.rid, issue := 0, obj := c.destObj, gen := c.destGen,
          offset := 256 * c.destSect + c.chunk * c.chunkElems * outBytes c.out, length := d.length, data := d } (some (sw, c)) := by
  unfold State.applyResult
  simp only [hsg, Nat.add_sub_cancel, hled, h4, h5, hserve, Nat.not_le.mpr hroom, hc, hd, Nat.succ_ne_zero, or_self, ne_eq, not_true, Bool.not_true,
    Bool.false_eq_true, if_false]

end

/-- Settles O47. -/
theorem reductionsProceed : Obligations.ReductionsProceed := by
  refine ⟨fun s t h src c es m si hr => next_rx hr, ?ack, ?result, ?resultAck, ?adds, ?opens, ?acked, ?chunk, ?resultAcked, ?resend, ?timeout,
    ?chunkAgain, ?giveUp, ?expire⟩
  case ack =>
    intro s t h c st si hr hst
    exact (next_rx hr).trans (congrArg Host.Outcome.next (unlessBreach_neg hst _ t))
  case result =>
    intro s t h sw c st d m si hr hst
    exact (next_rx hr).trans (congrArg Host.Outcome.next (unlessBreach_neg hst _ t))
  case resultAck =>
    intro s t h src c st si hr hst
    exact (next_rx hr).trans (congrArg Host.Outcome.next (unlessBreach_neg hst _ t))
  case adds =>
    intro s t h src p c es x hr hs h4 h5 hc hes hx hsame hnew hopen
    exact (next_rx hr).trans (congrArg Host.Outcome.next (applyContrib_adds hs h4 h5 hc hes hx hsame hnew hopen))
  case opens =>
    intro s t h src p c es hr hs h4 h5 hc hes hx hroom
    exact (next_rx hr).trans (congrArg Host.Outcome.next (applyContrib_opens hs h4 h5 hc hes hx hroom))
  case acked =>
    intro s t h p c st o hr hst ho
    refine (next_rx hr).trans (congrArg Host.Outcome.next ((unlessBreach_neg hst _ t).trans ?_))
    simp only [State.applyAck, Nat.add_sub_cancel, ho, Nat.succ_ne_zero, if_false]
  case chunk =>
    intro s t h sw p c d m hr hsg hled h4 h5 hserve hroom hc hd
    refine (next_rx hr).trans (congrArg Host.Outcome.next ((unlessBreach_neg (by decide) _ t).trans ?_))
    exact applyResult_new hsg hled h4 h5 hserve hroom hc hd
  case resultAcked =>
    intro s t h src p c st x hr hst hslots hx
    refine (next_rx hr).trans (congrArg Host.Outcome.next ((unlessBreach_neg hst _ t).trans ?_))
    simp only [State.applyResultAck, Nat.add_sub_cancel, hx, hslots, Nat.succ_ne_zero, if_false]
  case resend =>
    intro s p rid i ch o ho hstop
    simp only [exec, execContributionResend, ho, hstop, Bool.false_eq_true, if_false]
  case timeout =>
    intro s p rid x hx hstop hopen
    simp only [exec, execReductionTimeout, hx, hstop, hopen, Bool.false_eq_true, or_self, if_false]
  case chunkAgain =>
    intro s p ch rid x y hx hy hstop hel
    simp only [exec, execResultChunkResend, hx, hy, hstop, Nat.not_le.mpr hel, Bool.false_eq_true, or_self, if_false]
  case giveUp =>
    intro s p ch rid x hx hsent hstop
    simp only [exec, execResultChunkGiveUp, hx, hsent, hstop, Bool.not_false, and_self, if_true]
  case expire =>
    intro s d sw ch rid hstop
    exact next_if_neg (by simp [hstop])

end Sys2Proof.Proofs
end

section
/-!
The statements about link sessions, frames and the SPDM requests of identity and measurement (R46, R67, R79, R224, R225, R302 to R332, R412, R413,
R427 to R433).
-/
namespace Sys2Proof.Proofs
open Sys2Proof Sys2Proof.Machine Sys2Proof.Laws

/-! Link sessions. -/

/-- The keepalive of a partition's OPEN session that does not come ends that session alone and raises the loss of its peer (R317). -/
theorem keepaliveTimeout_ends {s : State} {k p : Nat} (hst : (s.sess k (p + 1)).st = 3) :
    exec (.keepaliveTimeout k (p + 1)) s
      = .next (((s.sessDown k (p + 1)).modSess k (p + 1) fun y => { y with lossDue := false }).raiseLost k (p + 1) (s.sess k (p + 1)).peer
        (s.sess k (p + 1)).lastRx) := by
  simp [exec, execKeepaliveTimeout, hst, each]

/-- A loss that has not been seen is recorded and passed on (R412). -/
theorem applyLost_new {t : State} {h : RxHdr} {r l d p : Nat} (hnew : t.lnk.seenLost.contains (p, l, d) = false) (hne : r ≠ l) :
    t.applyLost h r l d (p + 1) = (t.modLnk fun x => { x with seenLost := (p, l, d) :: x.seenLost }).recordLost p l r d (some h.port) := by
  unfold State.applyLost
  simp only [Nat.add_sub_cancel, hnew, hne, Nat.succ_ne_zero, Bool.false_eq_true, or_self, if_false]

/-- A signal of the fence's own epoch that has not been seen signals it (R412, R413). -/
theorem applyFence_new {t : State} {h : RxHdr} {e o i st p : Nat} {os : Word} (hi : i < t.dfCount p)
    (hnew : t.obju.seenFence.contains (p, o, os) = false) (he : signalCode e = true) :
    t.applyFence h 1 e o i (t.fence p (0xF000 + i)).epoch st os (p + 1)
      = finishing (((t.modObju fun x => { x with seenFence := (p, o, os) :: x.seenFence }).broadcast p 0x33 (some h.port)
          (dfPayload 1 e o i (t.fence p (0xF000 + i)).epoch st os)).signalHere p (0xF000 + i) e) := by
  unfold State.applyFence
  simp only [Nat.add_sub_cancel, hnew, he, Nat.not_le.mpr hi, Nat.succ_ne_zero, Nat.lt_irrefl, decide_false, OfNat.one_ne_ofNat, true_or, not_true,
    Bool.not_true, Bool.false_eq_true, or_self, and_false, if_false, if_true]

/-- Settles O48. -/
theorem linkSessionsFollowTheirEvents : Obligations.LinkSessionsFollowTheirEvents := by
  refine ⟨?start, fun s k si hst => next_if_pos hst, ?retry, fun s t h m si hr => next_rx hr, fun s t h r m si hr => next_rx hr, ?opened, ?closes,
    fun s k si hst => next_if_pos hst, fun s rq k hp => ⟨next_ctlWrite hp, next_ctlWrite hp⟩, fun s k hk => next_if_neg (Nat.not_le.mpr hk),
    fun s k hk => next_if_neg (Nat.not_le.mpr hk), fun s k si hst hka => next_if_pos ⟨hst, hka⟩, fun s t h d q si hr => next_rx hr,
    fun s k p hst => keepaliveTimeout_ends hst, fun s t h r l d si hr => next_rx hr, fun s t h op e o i fe st os si hr => next_rx hr,
    ?lost, ?signal⟩
  case start =>
    intro s k si hst hb hsi hc
    exact next_if_pos ⟨hst, by simp [hb], hsi, hc⟩
  case retry =>
    intro s k si hb
    exact next_if_neg (by simp [hb])
  case opened =>
    intro s t h m si hr hst hpeer
    exact (next_rx hr).trans (next_if_pos ⟨hst, hpeer⟩)
  case closes =>
    intro s t h r m si hr hst
    exact (next_rx hr).trans (next_if_pos hst)
  case lost =>
    intro s t h r l d p hr hnew hne
    exact (next_rx hr).trans (congrArg Host.Outcome.next (applyLost_new hnew hne))
  case signal =>
    intro s t h e o i st os p hr hi hnew he
    exact (next_rx hr).trans (congrArg Host.Outcome.next (applyFence_new hi hnew he))

/-! Frames. -/

/-- A change of a port is what it makes of the port as it stands. -/
theorem modPort_congr {s : State} {k : Nat} {f g : Port → Port} (h : f (s.port k) = g (s.port k)) : s.modPort k f = s.modPort k g := by
  have hupd : s.lnk.ports.upd Port.idle k f = s.lnk.ports.upd Port.idle k g := congrArg (s.lnk.ports.set Port.idle k) h
  simp only [State.modPort, State.modLnk, hupd]

/-- Settles O49. -/
theorem framesAreQueuedAndSealed : Obligations.FramesAreQueuedAndSealed := by
  refine ⟨?enqueue, ?sealed, ?covered, ?coverOwn, fun s k hq => next_if_pos hq, fun s k si hc => next_if_pos hc,
    fun s k si hw hst => next_if_pos ⟨hw, hst⟩,
    ?retire, fun s k f => rfl, ?grant, ?discard, ?route, ?routed⟩
  case enqueue =>
    intro s k f hrun hk hsi hst hlen hroom
    refine next_if_pos ?_
    simp only [hrun, hk, hsi, hst, hlen, decide_true, Bool.and_self, Bool.true_and]
    rcases hroom with h0 | ⟨hhold, hreq⟩
    · simp [h0]
    · cases hk : isRequest f.kind with
      | false => simp [hhold]
      | true => simp [hhold, hreq hk]
  case sealed =>
    intro s k i hm hc hi
    simp only [exec, execFrameSeal, hm, hc, hi, Bool.not_true, Bool.or_self, Bool.false_eq_true, if_false]
  case covered =>
    intro s k i hm hc hi
    simp only [exec, execCoverSlot, hm, hc, hi, Bool.not_true, Bool.or_self, Bool.false_eq_true, if_false]
  case coverOwn =>
    intro s k hm hc hi hst h0
    have hfind : (((List.range 17).map fun i => (0 + i) % 17).find? fun si => decide ((s.sess k si).st = 3)
        && (decide (si = 0) || !s.stopped (si - 1))) = some 0 := by
      rw [h0] at hst
      exact List.find?_cons_of_pos (by simp [hst])
    simp only [exec, execCoverSlot, hm, hc, hi, h0, hfind, Bool.not_true, Bool.or_self, Bool.false_eq_true, if_false]
  case retire =>
    intro s t k si l hnew hst hsec
    simp only [exec, execRxEpochRetire, hnew, hst, hsec, ne_eq, not_false_eq_true, and_self, if_true]
  case grant =>
    intro s k n hlen hn
    refine (next_if_pos hlen).trans (congrArg Host.Outcome.next (modPort_congr ?_))
    simp only [hn]
  case discard =>
    intro s h kind hacc
    simp only [exec, execFrameRxDiscard]
    rw [hacc]
  case route =>
    intro s t h k si f hs hr
    exact (next_if_neg (not_not_intro hs)).trans (next_rx hr)
  case routed =>
    intro s t h k p f hs hr hreq hst hk
    refine (next_if_neg (not_not_intro hs)).trans ((next_rx hr).trans ?_)
    have hlost : ¬(t.isLost p f.dst = true ∧ isRequest f.kind = true) := by rcases hreq with h | ⟨h, -⟩ <;> simp [h]
    have hfenced : ¬(t.pst p = 4 ∧ isRequest f.kind = true) := by rcases hreq with h | ⟨-, h⟩ <;> simp [h]
    simp only [State.applyRoute, Nat.add_sub_cancel, hlost, hfenced, hst, hk, Nat.succ_ne_zero, and_self, if_false, if_true]

/-! SPDM requests of identity and measurement. -/

/-- A request over a transport that is served is carried out. -/
theorem next_spdm {s : State} {t : Transport} (hs : s.Serves t) {ident : Bool} {act : State → State} :
    (.next (s.spdm t ident act) : Ans) = .next (act s) := congrArg Host.Outcome.next (spdm_serves s t ident act hs)

/-- Of the blocks of a measurement table, the one of an index that is there. -/
theorem filter_measured {α : Type} (f : Nat → Option α) {i : Nat} {v : α} (h1 : 1 ≤ i) (hv : f i = some v) (n : Nat) :
    (((List.range n).filterMap fun j => (f (j + 1)).map fun m => (j + 1, m)).filter fun x => decide (x.1 = i))
      = if i ≤ n then [(i, v)] else [] := by
  induction n with
  | zero => simp [Nat.not_le.mpr h1]
  | succ n ih =>
    rw [List.range_succ, List.filterMap_append, List.filter_append, ih]
    by_cases hin : i = n + 1
    · subst hin
      simp [hv]
    · have hlast : (([n].filterMap fun j => (f (j + 1)).map fun m => (j + 1, m)).filter fun x => decide (x.1 = i)) = [] := by
        cases hf : f (n + 1) <;> simp [hf, Ne.symm hin]
      have hle : i ≤ n + 1 ↔ i ≤ n := by omega
      rw [hlast, List.append_nil]
      simp only [hle]

/-- A measurement block that is there is answered with its value (R429). -/
theorem getMeasurements_block {s : State} {t : Transport} (hs : s.Serves t) (hlock : s.params.profile = .m ∨ s.att.measLock = true) {i : Nat}
    {sid : Option Nat} {v : List Byte} (h1 : 1 ≤ i) (h24 : i ≤ 24) (hv : s.measurement (s.boundTo t sid) i = some v) :
    exec (.getMeasurements t i sid) s = .next (s.aliasSigned t v (.measurements [(i, v)] [])) := by
  refine (next_spdm hs).trans ((next_if_neg ?_).trans ?_)
  · rcases hlock with h | h <;> simp [h]
  · have hwant := filter_measured (s.measurement (s.boundTo t sid)) h1 hv 24
    rw [if_pos h24] at hwant
    simp only [show i ≠ 255 by omega, show i ≠ 0 by omega, if_false, hwant]
    simp

/-- Settles O50. -/
theorem spdmRequestsAreAnswered : Obligations.SpdmRequestsAreAnswered := by
  intro s t hs
  refine ⟨next_spdm hs, next_spdm hs, next_spdm hs, next_spdm hs, next_spdm hs, fun n hn => (next_spdm hs).trans (next_if_neg hn),
    fun n hn => (next_spdm hs).trans (next_if_pos hn), next_spdm hs, fun n hn => (next_spdm hs).trans (next_if_pos hn), ?busy,
    fun hlock i sid v h1 h24 hv => getMeasurements_block hs hlock h1 h24 hv, fun sid hm hst => (next_spdm hs).trans (next_if_pos ⟨hm, hst⟩),
    fun sid chain hm hst hleaf h0 => (next_spdm hs).trans (next_if_pos ⟨hm, hst, hleaf, h0⟩)⟩
  intro hp hl i sid
  exact (next_spdm hs).trans (next_if_pos ⟨hp, by simp [hl]⟩)

end Sys2Proof.Proofs
end

section
/-!
The statements about SPDM sessions, binds and amendments, and about the traffic of the host ports (R67, R158, R334 to R345, R431 to R445).
-/
namespace Sys2Proof.Proofs
open Sys2Proof Sys2Proof.Machine Sys2Proof.Laws

/-! Work of the public-key engine that verifies signatures. -/

/-- The last verification of a job ends it. -/
theorem pkeOpDone_verified {s u : State} {j : PkeJob} {rest : List PkeJob} {e : PkeEnd} (hq : s.key.pke = j :: rest)
    (hops : j.ops = [.mldsaVerify]) (hsign : j.sign = none) (hend : j.ends = e) (hu : u = s.modKey fun k => { k with pke := rest }) :
    exec (.pkeOpDone .none) s = .next (u.pkeEnd { ops := [], link := j.link, sign := none, sig := j.sig, ends := e }) := by
  subst hu hend
  have hrun : s.pkeRun j .mldsaVerify = (s, j) := rfl
  simp only [exec, execPkeOpDone, hq, hops, hsign, List.head?_cons, Option.any_some, PkeOp.draws, State.eccRead, hrun, List.tail_cons,
    List.isEmpty_nil, Bool.false_eq_true, false_and, if_false, if_true]

/-- A session is one of its transport. -/
theorem session_transport {s : State} {t : Transport} {sid : Nat} {x : Secured} (h : s.session t sid = some x) : x.t = t := by
  have := List.find?_some h
  simp only [Bool.and_eq_true, decide_eq_true_eq] at this
  exact this.1

/-- The slots of a management session's secrets are its own. -/
theorem sessionSecrets_mgmt {x : Secured} (h : x.t = .mgmt) (s : State) : (s.sessionSecrets x).2 = x.slots := by
  simp [State.sessionSecrets, h]

/-- The secret of a link session takes the third slot of its hand. -/
theorem sessionSecrets_link {x : Secured} {k si : Nat} (h : x.t = .link k si) (s : State) : (s.sessionSecrets x).2 = [x.hand.getD 2 0] := by
  simp [State.sessionSecrets, h]

theorem finishEnd_mgmt {u : State} {sid : Nat} {x : Secured} (hx : u.session .mgmt sid = some x) (hl : x.live = false) :
    u.finishEnd .mgmt sid true = (((u.sessionSecrets x).1.retireAll (x.hand.take 2)).modCmd fun c =>
      { c with sessions := c.sessions.map fun y => if y = x then { y with live := true, slots := x.slots, hand := [] } else y }).respond
        .mgmt .finishRsp := by
  have hslots := sessionSecrets_mgmt (session_transport hx) u
  simp only [State.finishEnd, hx, hl, hslots, Bool.false_eq_true, if_false, if_true]

theorem finishEnd_link {u : State} {k si sid : Nat} {x : Secured} (hx : u.session (.link k si) sid = some x) (hl : x.live = false) :
    u.finishEnd (.link k si) sid true = ((((u.sessionSecrets x).1.retireAll (x.hand.take 2)).modCmd fun c =>
      { c with sessions := c.sessions.map fun y => if y = x then { y with live := true, slots := [x.hand.getD 2 0], hand := [] } else y }).modSess
        k si fun y => { y with authed := true }).respond (.link k si) .finishRsp := by
  have hslots := sessionSecrets_link (session_transport hx) u
  simp only [State.finishEnd, hx, hl, hslots, Bool.false_eq_true, if_false, if_true]

theorem finishEnd_refused {u : State} {sid : Nat} {x : Secured} (hx : u.session .mgmt sid = some x) (hl : x.live = false) :
    u.finishEnd .mgmt sid false = (u.endSecured x).respond .mgmt .errUnspecified := by
  simp only [State.finishEnd, hx, hl, Bool.false_eq_true, if_false]

/-- An amendment of a live link session that fits and is signed is applied (R445). -/
theorem amendEnd_applies {u : State} {k si p : Nat} {a : Amendment} {m : Manifest} (hl : u.linkLive k si = true)
    (hp : u.partOfDomain a.domain = some p) (hseq : u.mseq p < a.mseq) (hbase : a.base = u.mseq p) (hm : (u.part p).man = some m)
    (hshape : amendShape m a = true) (hsig : a.sigOk = true) :
    u.amendEnd (.link k si) 0 a = (u.respond (.link k si) (.vmr 2 .done [])).amendApply p a (some k) := by
  have hfit : ¬(a.base ≠ u.mseq p ∨ (!((u.part p).man.any fun m => amendShape m a)) = true) := by simp [hbase, hm, hshape]
  simp only [State.amendEnd, State.mayAmend, hl, hp, Nat.not_le.mpr hseq, if_neg hfit, hsig, Bool.not_true, Bool.false_eq_true, if_false]

/-- A bind of the block-owned session that passes its checks is done. -/
theorem bindEnd_block {u : State} {k : Nat} {b : Bind} {ev : Evidence} (hm : u.mayBind k 0 = true) (hc : (u.bindCheck k 0 b ev).1 = 0) :
    u.bindEnd k 0 b ev = u.bindDone k 0 b ev (u.sess k 0).slots := by
  have hw : u.bindWaits k 0 b ev = false := by simp [State.bindWaits]
  rcases hcheck : u.bindCheck k 0 b ev with ⟨n, st⟩
  obtain rfl : n = 0 := by simpa [hcheck] using hc
  simp only [State.bindEnd, hm, hw, hcheck, Bool.not_true, Bool.false_eq_true, if_false, if_true]

/-- A bind that fails a check fails the admission. -/
theorem bindEnd_fails {u : State} {k si n : Nat} {st : Status} {b : Bind} {ev : Evidence} (hm : u.mayBind k si = true)
    (hw : u.bindWaits k si b ev = false) (hc : u.bindCheck k si b ev = (n + 1, st)) :
    u.bindEnd k si b ev = u.admissionFails k si (n + 1) st (if n + 1 ≤ 2 then .errUnspecified else .vmr 1 st []) := by
  simp only [State.bindEnd, hm, hw, hc, Bool.not_true, Bool.false_eq_true, if_false]

/-! Session requests. -/

/-- KEY_EXCHANGE takes a session and its slots (R432). -/
theorem keyExchange_takes {s : State} {t : Transport} {x : KeyEx} {l : List Nat} (hs : s.Serves t) (hn : s.att.negotiated.contains t = true)
    (he : x.elementOk = true) (hl : s.sessionSlots t = some l) (h1 : (s.slot 1).st = 1)
    (hsid : s.cmd.sessions.any (fun y => decide (y.sid = x.sid)) = false) (hfree : (if isLink t then 3 else 2) ≤ s.handFree.length) :
    exec (.keyExchange t x) s = .next (((s.abandonAsk t).modCmd fun c =>
      { c with sessions := c.sessions ++ [({ sid := x.sid, t := t, leaf := x.leaf, root := x.root, live := false, slots := l,
                                             hand := s.handFree.take (if isLink t then 3 else 2), born := s.cmd.sessNo, seq := 0, tdi := none } : Secured)],
               sessNo := c.sessNo + 1 }).pkeAdd { signJob (isLink t) 1 (ascii "VMR.SPDM") x.exch (.exchange t x.sid x.exch []) with
                 ops := [.ecKeygen, .ecdh, .kemEncaps, .ecSign, .mldsaSign] }) := by
  refine (next_spdm hs).trans ?_
  simp only [hn, he, hl, h1, hsid, Nat.not_lt.mpr hfree, ne_eq, not_true, Bool.not_true, Bool.false_eq_true, or_self, if_false]

/-- END_SESSION ends a session that is not a partition's on a link. -/
theorem endSession_ends {s : State} {t : Transport} {sid : Nat} {x : Secured} (ht : ∀ k i, t ≠ .link k (i + 1)) (hs : s.Serves t)
    (hx : s.secured t sid = some x) : exec (.endSession t sid) s = .next ((s.respond t .endSessionAck).endSecured x) := by
  refine (next_spdm hs).trans ?_
  simp only [hx]

/-- A lost heartbeat ends a session that is not a link's. -/
theorem heartbeatLoss_ends {s : State} {t : Transport} {sid : Nat} {x : Secured} (ht : isLink t = false) (hx : s.session t sid = some x) :
    exec (.heartbeatLoss t sid) s = .next (s.endSecured x) := by
  change execHeartbeatLoss t sid s = _
  unfold execHeartbeatLoss
  rw [hx]
  cases t with
  | link k si => exact absurd ht (by simp [isLink])
  | _ => rfl

/-- Settles O51. -/
theorem securedSessionsFollowTheirRequests : Obligations.SecuredSessionsFollowTheirRequests := by
  refine ⟨fun _ _ _ _ => keyExchange_takes, ?finish, ?finished, ?finishRefused, ?finishedLink, fun _ _ _ _ => endSession_ends, ?endLink,
    fun s t sid hs => next_spdm hs, fun _ _ _ _ => heartbeatLoss_ends, ?update, ?provision, ?amend, ?amendOld, ?amended, ?fetch, ?bind, ?bound,
    ?bindFails, ?carriage⟩
  case finish =>
    intro s t sid ok x hs hx hl hh
    exact (next_spdm hs).trans (next_if_pos (by rw [hx, Option.any_some, hl, decide_eq_true hh]; rfl))
  case finished =>
    intro s u j rest sid x hq hops hsign hend hu hx hl
    exact (pkeOpDone_verified hq hops hsign hend hu).trans (congrArg Host.Outcome.next (finishEnd_mgmt hx hl))
  case finishRefused =>
    intro s u j rest sid x hq hops hsign hend hu hx hl
    exact (pkeOpDone_verified hq hops hsign hend hu).trans (congrArg Host.Outcome.next (finishEnd_refused hx hl))
  case finishedLink =>
    intro s u j rest k si sid x hq hops hsign hend hu hx hl
    exact (pkeOpDone_verified hq hops hsign hend hu).trans (congrArg Host.Outcome.next (finishEnd_link hx hl))
  case endLink =>
    intro s k i sid x hs hx
    refine (next_spdm hs).trans ?_
    simp only [hx]
  case update =>
    intro s t sid x hs hx
    refine (next_spdm hs).trans ?_
    simp only [hx]
  case provision =>
    intro s t sid hs hv hm
    constructor <;> intro hlen <;> refine (next_spdm hv).trans ?_ <;> simp [hm, hlen]
  case amend =>
    intro s k si p a hs hl hp hseq
    refine (next_spdm hs).trans (next_if_pos ?_)
    simp [State.mayAmend, hl, hp, hseq]
  case amendOld =>
    intro s k si p a hs hl hp hseq
    refine (next_spdm hs).trans ((next_if_neg ?_).trans ?_)
    · simp [hp, hseq]
    · simp only [State.amendEnd, State.mayAmend, hl, hp, hseq, Bool.not_true, Bool.false_eq_true, if_false, if_true]
  case amended =>
    intro s u j rest k si p a m hq hops hsign hend hu hl hp hseq hbase hm hshape hsig
    exact (pkeOpDone_verified hq hops hsign hend hu).trans (congrArg Host.Outcome.next (amendEnd_applies hl hp hseq hbase hm hshape hsig))
  case fetch =>
    intro s k si held hs hl
    exact (next_spdm hs).trans (next_if_neg (by simp [hl]))
  case bind =>
    intro s k si b ev hs hm
    exact (next_spdm hs).trans (next_if_pos hm)
  case bound =>
    intro s u j rest k b ev hq hops hsign hend hu hm hc
    exact (pkeOpDone_verified hq hops hsign hend hu).trans (congrArg Host.Outcome.next (bindEnd_block hm hc))
  case bindFails =>
    intro s u j rest k si n st b ev hq hops hsign hend hu hm hw hc
    exact (pkeOpDone_verified hq hops hsign hend hu).trans (congrArg Host.Outcome.next (bindEnd_fails hm hw hc))
  case carriage =>
    intro s t h c hr ht hd
    refine (next_rx hr).trans ?_
    simp only [State.applyCarriage, ht, hd, decide_true, ne_eq, not_true, if_false, if_true]

/-! Host ports. -/

/-- A port of the block in service. -/
theorem hostPort_there {s : State} {h : Nat} (hs : s.service ≠ .off) (hh : h < s.params.hcCount) :
    (decide (s.service = .off) || decide (s.params.hcCount ≤ h)) = false := by
  simp [hs, hh]

/-- A request that no rule holds back and that no interface owns goes by the root's stream (R335). -/
theorem txTlp_root {s : State} {h : Nat} {t : Tlp} (hs : s.service ≠ .off) (hh : h < s.params.hcCount) (hb : s.boot.breached = false)
    (hon : s.hstOn h = true) (hown : s.tdiOf h t.rid = none) (hhold : s.mustHold h none t = false) :
    s.txTlp h t = s.sendTlp h (if (s.stream h 0).secure then .on 0 false else .clear) t := by
  simp only [State.txTlp, hostPort_there hs hh, hb, hon, hown, hhold, State.stage3, State.stage4, Bool.not_true, Bool.false_and,
    Bool.false_eq_true, if_false]

/-- A configuration access to the data object capability alone. -/
theorem configAccess_doe {s : State} {h off : Nat} (h0 : s.fld (rHstPortCap h) 11 0 ≠ 0) (hlo : s.fld (rHstPortCap h) 11 0 ≤ off)
    (hhi : off < s.fld (rHstPortCap h) 11 0 + doeLen)
    (hide : s.fld (rHstPortCap h) 23 12 = 0 ∨ off < s.fld (rHstPortCap h) 23 12 ∨ s.fld (rHstPortCap h) 23 12 + ideLen ≤ off) :
    (decide (s.fld (rHstPortCap h) 11 0 ≠ 0) && decide (s.fld (rHstPortCap h) 11 0 ≤ off)
      && decide (off < s.fld (rHstPortCap h) 11 0 + doeLen)) = true
    ∧ (decide (s.fld (rHstPortCap h) 23 12 ≠ 0) && decide (s.fld (rHstPortCap h) 23 12 ≤ off)
      && decide (off < s.fld (rHstPortCap h) 23 12 + ideLen)) = false := by
  refine ⟨by simp [h0, hlo, hhi], ?_⟩
  rcases hide with h | h | h
  · simp [h]
  · simp [Nat.not_le.mpr h]
  · simp [Nat.not_lt.mpr h]

/-- Settles O52. -/
theorem hostPortsCarryTheirTraffic : Obligations.HostPortsCarryTheirTraffic := by
  refine ⟨?off, ?root, ?tile, ?ideBad, ?plain, ?object, ?discovery, fun s h => rfl, ?config, ?doe, fun s h hh => next_if_pos hh,
    fun s h hh => next_if_neg (Nat.not_le.mpr hh)⟩
  case off =>
    intro s h t hs hh hb hon
    constructor
    · simp only [exec, execHostTlpTx, State.txTlp, hostPort_there hs hh, hb, hon, Bool.not_false, Bool.false_eq_true, if_false, if_true]
    · simp only [exec, execHostTlpRx, hostPort_there hs hh, hb, hon, Bool.not_false, Bool.false_eq_true, if_false, if_true]
  case root =>
    intro s h t hs hh hb hon hown hhold
    exact congrArg Host.Outcome.next (txTlp_root hs hh hb hon hown hhold)
  case tile =>
    intro s h p t hs hh hb hon hown h4 h5 hk ht
    have hreq : (decide (t.kind = .memRd) || decide (t.kind = .memWr)) = true := by simpa using hk
    simp only [exec, execHostTlpTx, State.txTlp, hostPort_there hs hh, hb, hon, hown, h4, h5, hreq, ht, Bool.not_true, Bool.not_false, Bool.and_self,
      Bool.false_eq_true, or_self, if_false, if_true]
  case ideBad =>
    intro s h i t hs hh hb hon hi hsec hok
    simp only [exec, execHostTlpRx, hostPort_there hs hh, hb, hon, hi, hsec, hok, Bool.not_true, Bool.not_false, Bool.false_eq_true, if_false,
      if_true]
  case plain =>
    intro s h t hs hh hb hon hi hk hown
    rcases hk with hk | hk <;>
      simp only [exec, execHostTlpRx, hostPort_there hs hh, hb, hon, hi, hk, hown, Bool.not_true, Bool.false_eq_true, if_false]
  case object =>
    intro s h proto n hs hh hp hn hd
    refine (next_if_neg ?_).trans (next_if_neg ?_)
    · simp only [hs, hd, Option.isSome_none, Bool.false_eq_true, ne_eq, not_true, or_false, false_or]
      omega
    · omega
  case discovery =>
    intro s h n hs hh hn hd
    refine (next_if_neg ?_).trans (next_if_pos rfl)
    simp only [hs, hd, Option.isSome_none, Bool.false_eq_true, ne_eq, not_true, or_false, false_or]
    omega
  case config =>
    intro s h func off d hs hh hon
    simp only [exec, execConfigRequestRx, hostPort_there hs hh, hon, Bool.false_and, Bool.false_eq_true, if_false]
  case doe =>
    intro s h func off d locked hs hh hon hf h0 hlo hhi hide
    obtain ⟨hdoe, hno⟩ := configAccess_doe h0 hlo hhi hide
    constructor <;>
      simp only [exec, execConfigRequestRx, hostPort_there hs hh, hon, ← hf, hdoe, hno, decide_true, Bool.and_self, Bool.or_false,
        Bool.false_eq_true, if_false, if_true]

end Sys2Proof.Proofs
end

section
/-!
The statements about the keys of host streams, device interfaces, translations, pages and tiles (R340 to R363).
-/
namespace Sys2Proof.Proofs
open Sys2Proof Sys2Proof.Machine Sys2Proof.Laws

/-! Stream keys. -/

/-- A key is programmed into a free slot (R340). -/
theorem ideKmKeyProg_fills {s : State} {h sid i set p n : Nat} {sub : SubStream} {rx : Bool} (key : BitVec 256) (hd : s.doeSess h sid = true)
    (hp : s.streamOwner h i = some p) (hi : i < 8) (hset : set < 2) (hused : (s.ideKeys h i (subNo sub) rx).used.contains set = false)
    (hst : s.pst p ≠ 0) (hnone : (s.ideKeys h i (subNo sub) rx).slotOf set = none) (hn : s.takeSlot p = some n) :
    exec (.ideKmKeyProg h sid i sub rx set key) s
      = .next ((((s.fill n p 2 2 false false false false (key.setWidth 512)).modKeys h i (subNo sub) rx fun x =>
          x.putSlot set (some n)).tryStream h i).ideAnswer h true) := by
  have hgo : ¬(8 ≤ i ∨ 2 ≤ set ∨ (s.ideKeys h i (subNo sub) rx).used.contains set = true ∨ s.pst p = 0) := by
    rw [hused]
    simp only [hst, Bool.false_eq_true, or_false]
    omega
  simp only [exec, execIdeKmKeyProg, hd, hp, if_neg hgo, hnone, hn, Bool.not_true, Bool.false_eq_true, if_false]

/-- Both key sets of a direction are gone only when neither has a slot. -/
theorem putSlot_other {k : IdeKeys} {set : Nat} (hset : set < 2) (h : (k.slotOf (1 - set)).isSome = true) :
    ((k.putSlot set none).set0.isNone && (k.putSlot set none).set1.isNone) = false := by
  obtain rfl | rfl : set = 0 ∨ set = 1 := by omega
  · simpa [IdeKeys.slotOf, IdeKeys.putSlot] using h
  · simpa [IdeKeys.slotOf, IdeKeys.putSlot] using h

/-- Stopping a set that a stream does not send with leaves its stream. -/
theorem ideKmKSetStop_tx {s : State} {h sid i set n : Nat} {sub : SubStream} (hd : s.doeSess h sid = true)
    (hn : (s.ideKeys h i (subNo sub) false).slotOf set = some n) (hgo : (s.ideKeys h i (subNo sub) false).go ≠ some set)
    (hsome : (s.ideKeys h i (subNo sub) false).go.isSome = true) :
    exec (.ideKmKSetStop h sid i sub false set) s = .next (((s.retire n).modKeys h i (subNo sub) false fun _ =>
      { (s.ideKeys h i (subNo sub) false).putSlot set none with
        go := (s.ideKeys h i (subNo sub) false).go, used := (s.ideKeys h i (subNo sub) false).used.erase set }).ideAnswer h true) := by
  have hlost : (s.ideKeys h i (subNo sub) false).go.isNone = false := by rw [← Option.not_isSome, hsome]; rfl
  simp only [exec, execIdeKmKSetStop, hd, hn, hgo, hlost, Bool.not_true, Bool.false_and, Bool.false_eq_true, if_false]

/-- Stopping a receive set while the other is there leaves its stream. -/
theorem ideKmKSetStop_rx {s : State} {h sid i set n : Nat} {sub : SubStream} (hd : s.doeSess h sid = true) (hset : set < 2)
    (hn : (s.ideKeys h i (subNo sub) true).slotOf set = some n) (hother : ((s.ideKeys h i (subNo sub) true).slotOf (1 - set)).isSome = true) :
    exec (.ideKmKSetStop h sid i sub true set) s = .next (((s.retire n).modKeys h i (subNo sub) true fun _ =>
      { (s.ideKeys h i (subNo sub) true).putSlot set none with
        go := if (s.ideKeys h i (subNo sub) true).go = some set then none else (s.ideKeys h i (subNo sub) true).go,
        used := (s.ideKeys h i (subNo sub) true).used.erase set }).ideAnswer h true) := by
  simp only [exec, execIdeKmKSetStop, hd, hn, putSlot_other hset hother, Bool.not_true, Bool.false_and, Bool.false_eq_true, if_false, if_true]

/-! Device interfaces. -/

/-- A request about an interface of the port's, in a secured session of its mailbox, is carried out. -/
theorem next_tdisp {s : State} {h sid p : Nat} (hd : s.doeSess h sid = true) (hp : s.tdiPort p = some h) (h16 : p < 16) (act : State → State) :
    (.next (s.tdisp h sid p act) : Ans) = .next (act s) := by
  simp [State.tdisp, hd, hp, h16]

/-- LOCK takes an interface to CONFIG_LOCKED and binds it to its session (R348). -/
theorem lockInterface_locks {s : State} {h sid p i : Nat} (hd : s.doeSess h sid = true) (h16 : p < 16) (hp : s.tdiPort p = some h)
    (hi : s.lockStream h p = some i) (hst : (s.tdi p).st = 0) (hpst : s.pst p = 1 ∨ s.pst p = 2 ∨ s.pst p = 3) :
    exec (.lockInterfaceRequest h sid p) s
      = .next (((s.modTdi p fun x => { x with st := 1, stream := i, locked := (s.part p).ranges }).modCmd fun c =>
        { c with sessions := c.sessions.map fun x => if x.sid = sid ∧ x.t = .doe h then { x with tdi := some p }
            else if x.tdi = some p then { x with tdi := none } else x }).tdispAnswer h p true) := by
  refine (next_tdisp hd hp h16 _).trans ?_
  simp only [hi]
  exact next_if_pos ⟨hst, hpst⟩

/-- Settles O53. -/
theorem streamKeysAndInterfacesFollow : Obligations.StreamKeysAndInterfacesFollow := by
  refine ⟨fun s h sid hd => next_if_pos hd, fun _ _ _ _ _ _ _ _ _ key hd hp hi hset hused hst hnone hn =>
    ideKmKeyProg_fills key hd hp hi hset hused hst hnone hn, ?go, fun _ _ _ _ _ _ _ => ideKmKSetStop_tx, fun _ _ _ _ _ _ _ => ideKmKSetStop_rx,
    ?requests, ?absent, fun _ _ _ _ _ => lockInterface_locks, ?start, ?reset⟩
  case go =>
    intro s h sid i set sub rx hd hi hset hslot
    exact (next_if_neg (by simp [hd])).trans (next_if_pos ⟨hi, hslot, hset⟩)
  case requests =>
    intro s h sid p hd hp h16
    exact ⟨next_tdisp hd hp h16 _, next_tdisp hd hp h16 _, next_tdisp hd hp h16 _, next_tdisp hd hp h16 _, next_tdisp hd hp h16 _,
      next_tdisp hd hp h16 _⟩
  case absent =>
    intro s h sid p hd hp
    exact (next_if_neg (by simp [hd])).trans (next_if_neg fun hh => hp hh.1)
  case start =>
    intro s h sid p hd h16 hp hst hvm
    exact (next_tdisp hd hp h16 _).trans (next_if_pos ⟨hst, hvm⟩)
  case reset =>
    intro s h rid p hon hp
    refine (next_if_pos hon).trans ?_
    simp only [hp]

/-! Translations, pages and tiles. -/

/-- A tile that no rule refuses and that has room opens (R360). -/
theorem tileOpen_opens {s : State} {h p : Nat} {m : TileMsg} {x : Tile}
    (hx : x = { st := 1, h := h, ctx := m.ctx, pasid := (s.ctx m.ctx).pasid, rd := bit m.dir 0, wr := bit m.dir 1, base := m.base,
                rowBytes := m.rowBytes, pitch := m.pitch, rows := m.rows, held := [], reads := [], sent := 0, born := s.hst.tileNo,
                closing := false })
    (hv : s.tileVid h m = true) (hp : s.tdiOf h m.rid = some p) (hr : s.tileRefused h p m x = false)
    (hroom : (s.hst.tiles.filter fun y => decide (y.2.st ≠ 0) && decide (y.2.h = h)).length < 64) (h4 : s.pst p ≠ 4) (h5 : s.pst p ≠ 5)
    (h3 : (s.ctx m.ctx).st ≠ 3) (hreset : (s.ctx m.ctx).resetting = false) (hats : s.atsOn h = true) :
    exec (.tileOpen h m) s = .next ((each x.pages (State.touchAtc p x.pasid) (((s.modTile p m.tile fun _ => x).modHst fun y =>
      { y with tileNo := y.tileNo + 1 }).trace p 8 0 (BitVec.ofNat 64 m.base) true (BitVec.ofNat 64 (m.tile + 256)) m.ctx)).pump h) := by
  subst hx
  simp only [exec, execTileOpen, hv, hp, hr, Nat.not_le.mpr hroom, h4, h5, h3, hreset, hats, Bool.not_true, Bool.false_eq_true, or_self, if_false]

/-- Settles O54. -/
theorem translationsAndTilesFollow : Obligations.TranslationsAndTilesFollow := by
  refine ⟨?completion, ?invalidate, ?acknowledged, ?page, ?timeout, ?refused, fun _ _ _ _ hv hp hr hroom h4 h5 h3 hreset hats =>
    tileOpen_opens rfl hv hp hr hroom h4 h5 h3 hreset hats, ?close⟩
  case completion =>
    intro s h tag ok ps r hb hr
    refine ⟨fun hst => ?_, fun hst => ?_, ?_⟩
    · simp only [exec, execTranslationCompletion, hb, hr, hst, Bool.false_eq_true, if_false]
    · simp only [exec, execTranslationCompletion, hb, hr, hst, Bool.false_eq_true, if_false, if_true]
    · simp only [exec, execTranslationTimeout, hb, hr, Bool.false_eq_true, if_false]
  case invalidate =>
    intro s h itag rid p va len pasid hp hon hroom
    have hgo : ¬((!s.hstOn h) = true ∨ 32 ≤ (s.hst.invs.filter fun x => decide (x.1 = h)).length) := by simp [hon, hroom]
    simp only [exec, execAtsInvalidateRequest, hp, if_neg hgo]
  case acknowledged =>
    intro s h itag x hb hx hnone
    simp only [exec, execInvalidationComplete, hb, hx, hnone, List.isEmpty_nil, Bool.false_eq_true, if_false, if_true]
  case page =>
    intro s h prg r hb hr
    constructor
    · simp only [exec, execPrgResponse, hb, hr, Bool.false_eq_true, if_false, if_true]
    · simp only [exec, execPrgResponse, hb, hr, Bool.false_eq_true, if_false, show (1 : Nat) ≠ 0 by decide, show (1 : Nat) ≠ 15 by decide]
  case timeout =>
    intro s prg r hb hr
    simp only [exec, execPriTimeout, hb, hr, Bool.false_eq_true, if_false]
  case refused =>
    intro s h p m hv hp hr
    simp only [exec, execTileOpen, hv, hp, hr, Bool.not_true, Bool.false_eq_true, if_false, if_true]
  case close =>
    intro s h p m hv hp hst
    simp only [exec, execTileClose, hv, hp, hst, Bool.not_true, Bool.false_eq_true, if_false, if_true, show (2 : Nat) ≠ 1 by decide]

end Sys2Proof.Proofs
end

section
/-!
The statements about doorbells and marks, and about events that finish earlier work (R37, R140, R224, R365 to R404, R424, R473, R477, R507 to R527).
-/
namespace Sys2Proof.Proofs
open Sys2Proof Sys2Proof.Machine Sys2Proof.Laws

/-- A write of an open control port acts with the rights of its ORIGIN and is answered. -/
theorem next_portWrite {s : State} {rq : Rq} {obs : Bool} {act : Rq → State → State × Bool} (hp : s.PortOpen rq) :
    (.next (s.portWrite rq obs act) : Ans)
      = .next ((act (rqOf rq) s.otherAccess).1.emit (.ctl 0 (act (rqOf rq) s.otherAccess).2)) :=
  congrArg Host.Outcome.next (portWrite_open s rq obs act hp)

theorem rqOf_open {s : State} {rq : Rq} (hp : s.PortOpen rq) : (rqOf rq).origin ≠ 3 := by
  obtain ⟨-, hdbg, horigin⟩ := hp
  rwa [rqOf_origin rq hdbg]

/-- Settles O55. -/
theorem doorbellsTakeEffect : Obligations.DoorbellsTakeEffect := by
  intro s rq hp
  refine ⟨fun hq c q i => next_portWrite hp, fun hq c q i => next_portWrite hp, fun n => next_ctlWrite hp, fun n => next_ctlWrite hp,
    fun i pl sh c => next_portWrite hp, fun c hd => (next_portWrite hp).trans ?_, fun c l o => next_portWrite hp⟩
  simp only [rqOf_open hp, if_false]

/-! Events that finish earlier work. -/

/-- An accepted allocation of a running context completes with its object (R401). -/
theorem allocDoorbellDone_completes {s t : State} {p i o g x : Nat} (ha : (s.adb p i).status = .accepted)
    (hst : (s.ctx (s.adb p i).ctx).st = 1) (hres : (s.ctx (s.adb p i).ctx).resident = true) (hpart : (s.ctx (s.adb p i).ctx).part = p)
    (halloc : s.alloc p (s.adb p i).plots (s.adb p i).ctx (s.adb p i).shared false = (t, .ok (o, g, x))) :
    exec (.allocDoorbellDone p i) s = .next (t.setAdb p i { s.adb p i with obj := o, gen := g, addr := 65536 * x, status := .done }) := by
  refine (next_if_neg (by simp [ha, hst, hres])).trans ((next_if_neg (by simp [hst, hpart])).trans ?_)
  simp only [halloc]

/-- A spilled context that can be read back returns, and what waited for it goes on (R404). -/
theorem contextRestore_returns {s r t : State} {c : Nat} (hst : (s.ctx c).st ≠ 0) (hres : (s.ctx c).resident = false)
    (hroom : s.makeRoom = (r, true)) (hprof : r.params.profile ≠ .s) (hread : r.innerRead (s.ctx c).part (s.ctx c).base 4096 = (t, .done)) :
    let u := (t.modCtx c fun k => { k with resident := true }).touchCtx c
    exec (.contextRestore c) s = .next (each (u.obju.waiting.filter fun w => decide (w.1 = c)) (fun w => State.faultTo c w.2)
      (u.modObju fun o => { o with waiting := o.waiting.filter fun w => decide (w.1 ≠ c) })) := by
  simp only [exec, execContextRestore, hst, hres, hroom, hprof, hread, Bool.not_true, Bool.false_eq_true, ne_eq, not_true, or_self, if_false]

/-- A chunk of a tensor that is not its last is sealed and written (R522). -/
theorem dumpChunkCapture_goesOn {s t u : State} {p sid i : Nat} {data rec : List Byte} {d : Dump} {x : Tensor}
    (hd : (s.obs.dumps.find? fun d => decide (d.part = p) && d.cap.isSome) = some d) (hcap : d.cap = some (x, sid, i)) (hi : i + 1 < x.chunks)
    (hread : s.innerRead p (x.base + 65536 * i) (x.chunkLen i) = (t, .done))
    (hseal : t.sealRec sid (t.dumpHeader d x i .done ++ (data ++ List.replicate (x.chunkLen i - data.length) 0).take (x.chunkLen i)) = (u, rec)) :
    exec (.dumpChunkCapture p data .done) s = .next ((u.modObs fun o => { o with dumps := o.dumps.map fun z =>
      if z = d then { d with cap := some (x, sid, i + 1) } else z }).cdmWrite p (.dump p (t.dumpBase p + x.recordAt i) rec)) := by
  have hdone : firstBad .done .done = .done := rfl
  simp only [exec, execDumpChunkCapture, hd, hcap, hread, hdone, hseal, Nat.not_le.mpr hi, if_false, if_true]

/-- The debug port reaches the processor where it may write. -/
theorem next_coreWrite_debug {s : State} {rq : Rq} (hs : s.service ≠ .off) (hdbg : rq.dbg = true) (hw : s.dbgWrites false = true)
    (act : State → State) : (.next (s.coreWrite rq act) : Ans) = .next ((act s).emit (.dbg 0 false)) := by
  have horigin : (rqOf rq).origin = 0 := by simp [rqOf, hdbg]
  simp [State.coreWrite, State.ctlWrite, State.portWrite, hs, hdbg, hw, horigin]

/-- The control port does not reach the processor: its write is answered and does nothing. -/
theorem next_coreWrite_open {s : State} {rq : Rq} (hp : s.PortOpen rq) (act : State → State) :
    (.next (s.coreWrite rq act) : Ans) = .next (s.otherAccess.emit (.ctl 0 false)) := by
  refine (next_ctlWrite hp).trans ?_
  simp [hp.2.1]

/-- Settles O56. -/
theorem deferredWorkCompletes : Obligations.DeferredWorkCompletes := by
  refine ⟨fun s p o hst hrefs => next_if_pos ⟨hst, hrefs⟩, fun _ _ _ _ _ _ _ => allocDoorbellDone_completes,
    fun _ _ _ _ => contextRestore_returns, ?release, fun s hs => next_if_neg (not_not_intro hs), ?sector,
    fun _ _ _ _ _ _ _ _ _ _ => dumpChunkCapture_goesOn, ?step, fun s hp => next_if_pos hp, ?stored, fun s => rfl,
    fun s rq hs hdbg hw => ⟨fun halt => next_coreWrite_debug hs hdbg hw _, next_coreWrite_debug hs hdbg hw _⟩,
    fun s rq halt hp => ⟨next_coreWrite_open hp _, next_coreWrite_open hp _⟩⟩
  case release =>
    intro s k hrun
    have hgo : ¬((!s.runs) = true) := by simp [hrun]
    exact ⟨next_if_neg hgo, next_if_neg hgo, next_if_neg hgo, next_if_neg hgo, next_if_neg hgo⟩
  case sector =>
    intro s p r hp hr hst
    exact next_if_pos ⟨hp, hr, by simpa using hst⟩
  case step =>
    intro s p i d hd
    simp only [exec, execDumpStepTimeout, hd]
  case stored =>
    intro s sid seq x hx
    simp only [exec, execStoredReplyExpire, State.modCmd, hx]

end Sys2Proof.Proofs
end
